-- ==== Sys2Proof/Word.lean ====
section
/-! DEFINITION. The word types of the Askat and its plainest arithmetic. -/
namespace Sys2Proof

/-- A register or a Grikar register: 32 bits (R8). -/
abbrev Word := BitVec 32

/-- A byte of a memory. -/
abbrev Byte := BitVec 8

/-- A queue word: 64 bits (R38 and the queue chapter). -/
abbrev QWord := BitVec 64

/-- A sparse table: pairs of a key and a value, keys strictly rising, no value equal to what an
unlisted key reads as. Every memory and every register bank of the model is one. -/
abbrev Tab (α : Type) := List (Nat × α)

/-- The 32-bit word of an unbounded integer. -/
def wordOf (i : Int) : Word := BitVec.ofInt 32 i

/-- The low and the high word of a 64-bit count. -/
def loWord (n : Nat) : Word := BitVec.ofNat 32 n
/-- The high word of a 64-bit count. -/
def hiWord (n : Nat) : Word := BitVec.ofNat 32 (n / 2 ^ 32)

/-- A count that saturates at the greatest value of its width. -/
def satAdd (w n d : Nat) : Nat := min (n + d) (2 ^ w - 1)

/-- MTIME units in one ACT cycle, in 10 µs, in 1 µs, in 1 ms and in 1 s (R18). -/
abbrev actCycle : Nat := 64
/-- MTIME units in 1 µs. -/
abbrev us : Nat := 10240
/-- MTIME units in 10 µs. -/
abbrev tenUs : Nat := 102400
/-- MTIME units in 1 ms. -/
abbrev ms : Nat := 10240000
/-- MTIME units in 1 s. -/
abbrev sec : Nat := 10240000000

end Sys2Proof
end

