-- ==== Sys2Proof/Machine/Store.lean ====
section
/-! DEFINITION. Sparse tables in one canonical form, and the types of the register map:
field types, domains, register families and field places. -/
namespace Sys2Proof.Machine

/-- The value listed at k, if any. -/
def tabFind {α : Type} : Tab α → Nat → Option α
  | [], _ => none
  | (j, v) :: t, k => if j = k then some v else tabFind t k

/-- The value at k; an unlisted key reads as d k. -/
def tabGet {α : Type} (d : Nat → α) (t : Tab α) (k : Nat) : α := (tabFind t k).getD (d k)

/-- The table without key k. -/
def tabErase {α : Type} : Tab α → Nat → Tab α
  | [], _ => []
  | (j, v) :: t, k => if j = k then tabErase t k else (j, v) :: tabErase t k

/-- Insert an entry before the first greater key. -/
def tabInsert {α : Type} : Tab α → Nat → α → Tab α
  | [], k, v => [(k, v)]
  | (j, w) :: t, k, v => if k < j then (k, v) :: (j, w) :: t else (j, w) :: tabInsert t k v

/-- Write v at k. Writing what an unlisted key reads as removes the entry, so that equal
tables are equal lists. -/
def tabSet {α : Type} [DecidableEq α] (d : Nat → α) (t : Tab α) (k : Nat) (v : α) : Tab α :=
  if v = d k then tabErase t k else tabInsert (tabErase t k) k v

/-- The canonical form: keys strictly rising, no entry equal to what an unlisted key reads as. -/
def tabWf {α : Type} (d : Nat → α) : Tab α → Prop
  | [] => True
  | (j, v) :: t => v ≠ d j ∧ (∀ p ∈ t, j < p.1) ∧ tabWf d t

/-- Replace a run of keys from k on by the values of a list. -/
def tabFill {α : Type} [DecidableEq α] (d : Nat → α) : Tab α → Nat → List α → Tab α
  | t, _, [] => t
  | t, k, v :: vs => tabFill d (tabSet d t k v) (k + 1) vs

/-- The field types of R86. -/
inductive FTy where
  | rw | ro | w1c | w1s | cnt | krw | won | mbx
deriving DecidableEq, Repr

/-- The clock domains of R33. A queue's registers belong to the domain of the queue's
producer (qProd) or consumer (qCons), under R37. -/
inductive Domain where
  | sys | eng | act | gns | bus | fbk | svc | aon | qProd | qCons
deriving DecidableEq, Repr

/-- One field of a register table: bits hi to lo, type, value after a cold reset (the factory
value where the column reads Stored), whether it is stored, whether a write of 1 needs the key
(R610), whether it belongs to the configuration image (R565), and the ranges of values a write
may carry (none given: every value). -/
structure FieldSpec where
  hi : Nat
  lo : Nat
  ty : FTy
  reset : Nat
  stored : Bool
  keyed : Bool
  image : Bool
  ok : List (Nat × Nat)
deriving DecidableEq, Repr

/-- A family of registers: first address, strides with their counts, domain, fields. -/
structure RegFam where
  base : Nat
  strides : List (Nat × Nat)
  dom : Domain
  fields : List FieldSpec
deriving DecidableEq, Repr

/-- The place of a field: register address, highest and lowest bit. -/
structure Fld where
  reg : Nat
  hi : Nat
  lo : Nat
deriving DecidableEq, Repr

/-- The indices of an offset within a family, one for each stride. -/
def stridesAt : List (Nat × Nat) → Nat → Option (List Nat)
  | [], off => if off = 0 then some [] else none
  | (st, n) :: t, off =>
    if off / st < n then (stridesAt t (off % st)).map (off / st :: ·) else none

/-- The indices of address a in family r, none where a is no register of it. -/
def famIndex (r : RegFam) (a : Nat) : Option (List Nat) :=
  if r.base ≤ a then stridesAt r.strides (a - r.base) else none

/-- A register found by its address: its family and its indices. -/
structure RegHit where
  fam : RegFam
  idx : List Nat
deriving DecidableEq, Repr

/-- The first family of a list that holds address a. -/
def findReg : List RegFam → Nat → Option RegHit
  | [], _ => none
  | r :: t, a =>
    match famIndex r a with
    | some ix => some ⟨r, ix⟩
    | none => findReg t a

/-- The width of a field place. -/
def Fld.width (f : Fld) : Nat := f.hi - f.lo + 1

/-- The value of bits hi to lo of a word. -/
def bitsOf (w : Word) (hi lo : Nat) : Nat := w.toNat / 2 ^ lo % 2 ^ (hi - lo + 1)

/-- The word w with its bits hi to lo replaced by v. -/
def withBits (w : Word) (hi lo : Nat) (v : Nat) : Word :=
  BitVec.ofNat 32 (w.toNat % 2 ^ lo + 2 ^ lo * (v % 2 ^ (hi - lo + 1))
    + 2 ^ (hi + 1) * (w.toNat / 2 ^ (hi + 1)))

end Sys2Proof.Machine
end

