-- ==== Sys2Proof/Machine/StAct.lean ====
section
/-! DEFINITION. The plain-data parts of the state behind queues, local outputs, feeds, remote
descriptors and captures. -/
namespace Sys2Proof.Machine

/-- A committed word in a queue: its value, its last-word mark (R321), the gather that holds it
provisionally (R326), and whether it is final while an earlier word is still provisional. -/
structure QSlot where
  data : QWord
  last : Bool
  holder : Option Nat
  final : Bool
deriving DecidableEq, Repr

/-- A word that a gather has pushed and not yet committed (R324): its gather, its value, its
last-word mark, whether its packet is complete, and whether the gather's last EPOCH found it (R188). -/
structure QRes where
  gather : Nat
  data : QWord
  last : Bool
  closed : Bool
  old : Bool
deriving DecidableEq, Repr

/-- A queue beyond its registers: committed words, reserved words in push order, the gathers whose
open packet a flush poisoned (R333), the item that a hardware producer holds (R328), pointers, and whether the hardware
consumer has begun on the item at the head (R334). -/
structure Queue where
  slots : List QSlot
  res : List QRes
  poison : List Nat
  held : Option (List QWord)
  wp : Nat
  rp : Nat
  taken : Bool
deriving DecidableEq, Repr

/-- An empty queue. -/
def Queue.init : Queue := ⟨[], [], [], none, 0, 0, false⟩

/-- The action codes of an actuation event (R190, R284). -/
inductive Action where
  | on | off | duty | period | phase | pulse | hold
deriving DecidableEq, Repr

/-- A pending event in Qn: target, action, value, the moment of its placement, and how it was
judged there (R289, R290). -/
structure ActEvent where
  target : Nat
  action : Action
  value : Nat
  placed : Nat
  late : Bool
  order : Bool
deriving DecidableEq, Repr

/-- Why a turn-on is deferred, and since when (R357). -/
structure Deferral where
  since : Nat
  budget : Bool
deriving DecidableEq, Repr

/-- A thermal shutdown (R351, R352): of the steady class, latched, or at 175 °C. -/
inductive Thermal where
  | steady | steadyLatched | hot
deriving DecidableEq, Repr

/-- An applied interval of an output (R302): actual turn-on with its lead, actual turn-off with its
lead once there is one. -/
structure Interval where
  tOn : Nat
  onLead : Nat
  off : Option (Nat × Nat)
deriving DecidableEq, Repr

/-- A capture that runs (R295): switching time, direction, whether a measurement was made. -/
structure CapRun where
  switched : Nat
  isOn : Bool
  measured : Bool
deriving DecidableEq, Repr

/-- A capture that is kept (R367). -/
structure Capture where
  isOn : Bool
  res : Nat
  points : List Nat
  time : Nat
deriving DecidableEq, Repr

/-- A drive of an output's main line: the carrier's rise, and its fall once that is known (R374). -/
structure Drive where
  rise : Nat
  fall : Option Nat
deriving DecidableEq, Repr

/-- What the period that runs found at its start, for an update in the cycle of its reload (R379): whether the
carrier was on, whether the gap before it was dropped, the drives, the values of the fields that count. -/
structure Replan where
  high : Bool
  gapDrop : Bool
  drives : List Drive
  counts : List Nat
deriving DecidableEq, Repr

/-- A delay line with its last good calibration (R382): its taps' delays in units of 1/32 ps, the tap of each fine value. -/
structure DelayLine where
  taps : List Nat
  table : List Nat
deriving DecidableEq, Repr

/-- A pair of delay lines: the line in use, the other one, and whether a good calibration of the other awaits the
exchange (R382). -/
structure DelayPair where
  used : DelayLine
  idle : DelayLine
  exchange : Bool
deriving DecidableEq, Repr

/-- The carrier of an output (R368 to R381). Its period starts and reloads are ACT cycles, as MTIME on the clock grid;
every edge lies the ON's fine offset after them. started: its counter runs, or else waits at its start. The phase offset
of the last PHASE and the one in force, in ACT cycles; the delay of the next reload; the present level, the scheduled
fall, a gap that is to be dropped, a pulse whose lengthening is counted. -/
structure Carrier where
  start : Nat
  reload : Nat
  fine : Nat
  started : Bool
  high : Bool
  fallAt : Option Nat
  gapDrop : Bool
  stretched : Bool
  replan : Option Replan
  phaseOff : Nat
  offNow : Nat
  delay : Nat
deriving DecidableEq, Repr

/-- A local output beyond its registers. drives: the main line's present drive and the one before. tail: the OFF at
which the channel was on, whose line falls DF later. offAt: the last actual turn-off. cleared: the last UNLATCH, with
the try count and the pause before it. holds: the gathers whose fault started a hold window for it since it was last
disarmed (R223, R224). -/
structure Out where
  evq : List ActEvent
  lastFire : Nat
  latched : Bool
  thermal : Option Thermal
  pauseEnd : Option Nat
  nextPause : Nat
  feedHeld : Bool
  hotPulse : Bool
  deferral : Option Deferral
  inrushEnd : Option Nat
  onSince : Option Nat
  gapEnd : Option Nat
  car : Carrier
  drives : List Drive
  tail : Option Nat
  pulseEnd : Option Nat
  kNum : Nat
  kDen : Nat
  openPulse : Bool
  onFallback : Bool
  lines : DelayPair
  intervals : List Interval
  cap : Option CapRun
  lastCap : Option Capture
  bound : Bool
  offAt : Option Nat
  tripAt : Option Nat
  cleared : Option (Nat × Nat × Nat)
  compOk : Bool
  posture : Bool
  safeLines : Option (Bool × Bool)
  holds : List Nat
deriving DecidableEq, Repr

/-- A delay line of which no calibration is known. -/
def DelayLine.init : DelayLine := ⟨[], []⟩

/-- A carrier that never ran. -/
def Carrier.init : Carrier :=
  { start := 0, reload := 0, fine := 0, started := false, high := false, fallAt := none, gapDrop := false,
    stretched := false, replan := none, phaseOff := 0, offNow := 0, delay := 0 }

/-- An output as a cold start leaves it: off, nothing pending, factor 1. -/
def Out.init : Out :=
  { evq := [], lastFire := 0, latched := false, thermal := none, pauseEnd := none, nextPause := 0,
    feedHeld := false, hotPulse := false, deferral := none, inrushEnd := none, onSince := none,
    gapEnd := none, car := Carrier.init, drives := [], tail := none, pulseEnd := none, kNum := 1, kDen := 1,
    openPulse := false, onFallback := false, lines := ⟨DelayLine.init, DelayLine.init, false⟩, intervals := [], cap := none,
    lastCap := none, bound := false, offAt := none, tripAt := none, cleared := none, compOk := false, posture := false,
    safeLines := none, holds := [] }

/-- A load feed beyond its registers: the factor frozen under R360, the outputs that wait for their
staggered turn-on (R63). -/
structure Feed where
  stagger : List Nat
  staggerAt : Nat
  freezeEnd : Option Nat
deriving DecidableEq, Repr

/-- A feed with nothing held. -/
def Feed.init : Feed := ⟨[], 0, none⟩

/-- A remote descriptor beyond its registers: the report timeout (R312), the OFF frame that a
disarm sends (R311). -/
structure Remote where
  staleAt : Option Nat
  runOn : Nat
  runOff : Nat
deriving DecidableEq, Repr

/-- A descriptor of which nothing was reported. -/
def Remote.init : Remote := ⟨none, 0, 0⟩

/-- One channel's measurement: current in mA, junction in °C plus 64, junction minus case in K. -/
structure ChanMeas where
  cur : Nat
  tj : Nat
  dt : Nat
deriving DecidableEq, Repr

end Sys2Proof.Machine
end

