-- ==== Sys2Proof/Machine/StBus.lean ====
section
/-! DEFINITION. The plain-data parts of the state behind the six bus ports: frames, slots, sessions. -/
namespace Sys2Proof.Machine

/-- A frame on a bus: identifier, IDE, RTR, format (R489), data, word 1 of an XL frame, ESI. -/
structure CanFrame where
  id : Nat
  ide : Bool
  rtr : Bool
  fmt : Fin 4
  data : List Byte
  xl : QWord
  esi : Bool
deriving DecidableEq, Repr

/-- The OFF that a disarm sends (R311): the descriptor, and the node and channel that it named at the disarm. -/
structure OffCmd where
  rem : Nat
  addr : Nat
  chan : Nat
deriving DecidableEq, Repr

/-- Where a frame in arbitration came from (R493). -/
inductive TxSrc where
  | ref | fol | msg | cmd (c : OffCmd) | prot | stream | object (o : Nat)
deriving DecidableEq, Repr

/-- The hardware time slot (R450): a reference message waiting, a follow-up waiting with the start of
frame that it describes once the reference is sent, a time message with its edge and data. -/
structure TimeSlot where
  ref : Bool
  fol : Option (Option Nat)
  msg : Option (Nat × List Byte)
deriving DecidableEq, Repr

/-- A register-access request (R519). -/
inductive AccReq where
  | open' | close | read (addr tag : Nat) | write (addr tag : Nat) (v : Word)
  | keyedAddr (addr tag key : Nat) | keyedData (addr tag : Nat) (v : Word)
deriving DecidableEq, Repr

/-- A transport receive session (R513, R514): sender, BAM or not, ETP or not, PGN, priority, total
length, bytes taken, bytes not yet delivered, packets that this CTS still allows, the most of a CTS, parts
delivered, packets before the present ETP window. -/
structure RxSession where
  src : Nat
  bam : Bool
  etp : Bool
  pgn : Nat
  prio : Nat
  total : Nat
  taken : Nat
  buf : List Byte
  window : Nat
  maxPk : Nat
  parts : Nat
  base : Nat
deriving DecidableEq, Repr

/-- A transport send session (R515): its identifier, total length, bytes sent, the bytes of consumed parts
not yet sent, packets that may be sent, deadline, BAM or not, ETP or not, packets before the present window, and the bytes sent in it. -/
structure TxSession where
  id : Nat
  total : Nat
  sent : Nat
  buf : List Byte
  last : Bool
  window : Nat
  deadline : Nat
  bam : Bool
  etp : Bool
  base : Nat
  back : List Byte
deriving DecidableEq, Repr

/-- A bus port beyond its registers: time, command and protocol slots, the frame in arbitration with its
source, the head stream item's frame once it is checked, whether parts of a message are to be swallowed, the
acknowledgement errors in a row, requests that wait for the end of a frame, the state that sleep left,
the last good frame of each filter (0 to 31) and object (32 on), which of them timed out or last failed,
the end of the address claim's wait and the address claimed, the NAME last claimed at each address, waiting register-access
requests with their sender, transport sessions, the next DM1 and the code last sent,
BAM announcements ignored, when the port left INIT, the session holder's NAME (R512), whether a BUSOFF_REC was written
since the port went bus-off (R505). -/
structure Port where
  time : TimeSlot
  cmd : List OffCmd
  prot : List CanFrame
  cur : Option (TxSrc × CanFrame)
  head : Option CanFrame
  swallow : Bool
  ackRun : Nat
  initReq : Bool
  sleepReq : Bool
  wakeReq : Bool
  slept : Nat
  fullCount : Bool
  lastGood : Tab Nat
  timedOut : List Nat
  lastBad : List Nat
  claimEnd : Option Nat
  claimAddr : Nat
  names : Tab Nat
  acc : List (Nat × AccReq)
  rx : List RxSession
  tx : Option TxSession
  dm1Next : Nat
  dm1Sent : Nat
  bamIgnored : Nat
  openAt : Nat
  sessName : Option Nat
  recCmd : Bool
deriving DecidableEq, Repr

/-- What may wake a sleeping port (R506): the wake-up pattern, a classical frame, or the transceiver's frame
error counter above 31. -/
inductive WakeCond where
  | pattern | frame (id : Nat) (ide : Bool) (data : List Byte) | frameErrors
deriving DecidableEq, Repr

/-- A wake source of R587. -/
inductive WakeCause where
  | wakeIn | bus (port : Fin 6) (cond : WakeCond) | vbus | ecu
deriving DecidableEq, Repr

/-- A port as a cold start leaves it. -/
def Port.init : Port :=
  { time := ⟨false, none, none⟩, cmd := [], prot := [], cur := none, head := none, swallow := false, ackRun := 0, initReq := false,
    sleepReq := false, wakeReq := false, slept := 1, fullCount := false, lastGood := [], timedOut := [], lastBad := [],
    claimEnd := none, claimAddr := 0xFE, names := [], acc := [], rx := [], tx := none, dm1Next := 0, dm1Sent := 0, bamIgnored := 0, openAt := 0, sessName := none, recCmd := false }

end Sys2Proof.Machine
end

