-- ==== Sys2Proof/Machine/StEngine.lean ====
section
/-! DEFINITION. The plain-data parts of the state behind the gathers, program and common memory,
the implement model and maps, Onyx and the marker. -/
namespace Sys2Proof.Machine

/-- The states of a gather (R219). -/
inductive GPhase where
  | stopped | starting | run | waitTick | waitTime | waitQueue | halted | fault | rewind
deriving DecidableEq, Repr

/-- The code of G_STAT.STATE (R219). -/
def GPhase.code : GPhase → Nat
  | .stopped => 0
  | .starting => 1
  | .run => 2
  | .waitTick => 3
  | .waitTime => 4
  | .waitQueue => 5
  | .halted => 6
  | .fault => 7
  | .rewind => 8

/-- What EPOCH commits of a gather's own (R139): registers, points, flags, PC and priority. -/
structure Core where
  w : Tab Word
  px : Tab Word
  py : Tab Word
  z : Bool
  n : Bool
  c : Bool
  v : Bool
  pc : Nat
  prio : Nat
deriving DecidableEq, Repr

/-- The registers as START leaves them, with PC and priority zero. -/
def Core.init : Core := ⟨[], [], [], false, false, false, false, 0, 0⟩

/-- A journal entry (R162 to R164, R183, R197): the old bytes of a local store, a held
common-memory store, a COVM with its tag, its layer and the cells to mark by field, a held record. -/
inductive JEntry where
  | undo (addr : Nat) (old : List Byte)
  | stc (addr : Nat) (v : Word)
  | mark (tag layer : Nat) (cells : List (Nat × Int × Int))
  | log (sev code : Nat) (lo hi : Word)
deriving DecidableEq, Repr

/-- What an asynchronous operation does when it completes (R146); a QPOP with its place in the order of issue (R189). -/
inductive OpKind where
  | value (v : Word)
  | ldc (held : Option Word) (addr : Nat)
  | foot (out off : Word)
  | covq (x0 y0 x1 y1 qw : Word)
  | covx (out qw start : Word)
  | zonq (x y layer : Word)
  | excl (x0 y0 x1 y1 : Word)
  | covm (word t0 t1 : Word)
  | qpop (q order : Nat)
deriving DecidableEq, Repr

/-- An operation in flight: its tag, what it does, and the general and point registers it writes,
a pair by both of its members. -/
structure AsyncOp where
  tag : Nat
  kind : OpKind
  wd : List Nat
  pd : List Nat
deriving DecidableEq, Repr

/-- The wait that the committed EPOCH began and that has not ended yet (R226). -/
inductive GWait where
  | none | tick | time (t : Nat) | queue (q : Nat)
deriving DecidableEq, Repr

/-- A gather beyond its registers (R134): present and committed core, local memory, journal oldest
first, operations in flight, STALL code, the tick snapshot it reads with its tick's MTIME, the wait
begun, rewinds in a row, the last RDMT, the count of ticks from which passed ticks are counted and those passed
before it was last stopped (R218), the hold window of R223. -/
structure Gather where
  phase : GPhase
  cur : Core
  com : Core
  lmem : Tab Byte
  journal : List JEntry
  ops : List AsyncOp
  nextTag : Nat
  stall : Nat
  snap : List Word
  snapTick : Nat
  waiting : GWait
  row : Nat
  lastNow : Nat
  tickSeen : Nat
  missed : Nat
  holdEnd : Option Nat
deriving DecidableEq, Repr

/-- A snapshot of zero words. -/
def snapZero : List Word := List.replicate 24 0

/-- A gather as a cold start leaves it. -/
def Gather.init : Gather :=
  { phase := .stopped, cur := Core.init, com := Core.init, lmem := [], journal := [], ops := [],
    nextTag := 0, stall := 0, snap := snapZero, snapTick := 0, waiting := .none, row := 0,
    lastNow := 0, tickSeen := 0, missed := 0, holdEnd := none }

/-- The engine: counters of mailbox 12, program memory by
word, the verified regions as base and length, common memory by word, a running VERIFY with its
SIGNED and its end, the latest complete snapshot with its tick, the ticks completed since cold
power-on, the snapshot being extrapolated, the number of snapshots latched, the number of QPOPs issued. -/
structure Engine where
  issued : Nat
  completed : Nat
  prog : Tab Word
  regions : List (Nat × Nat)
  cmem : Tab Word
  verify : Option Bool
  verifyDue : Nat
  snap : List Word
  snapTick : Nat
  ticks : Nat
  tickDue : Option (Nat × List Word)
  snapNum : Nat
  popNum : Nat
deriving DecidableEq, Repr

/-- One copy of the implement model, the maps and the field selection (R276). -/
structure MapSet where
  model : Tab Word
  rasE : Word
  rasN : Word
  rasDim : Word
  rasCfg : Word
  cells : Tab Word
  rates : Tab Word
  descs : Tab Word
  verts : Tab Word
  polyCfg : Word
  field : Option Nat
deriving DecidableEq, Repr

/-- No map loaded, the factory model. -/
def MapSet.init : MapSet := ⟨[], 0, 0, 0, 0x0A, [], [], [], [], 0, none⟩

/-- The map store: active, staged and retained copies, the MTIME of the last activation, the armed
activation (its MTIME, or none for the next tick), the end of a running CHECK, the field that the latest
activation of a field selection superseded with that activation's MTIME. -/
structure Maps where
  active : MapSet
  staged : MapSet
  retained : Option MapSet
  actAt : Nat
  pendAt : Option Nat
  checkDue : Option Nat
  retField : Option (Nat × Nat)
deriving DecidableEq, Repr

/-- A tile in the Onyx SRAM (R267): its directory index, the value of its unlisted cells, its other
cells by 64 × row + column, the MTIME of its first change since its last write-back. -/
structure CacheTile where
  idx : Nat
  base : Nat
  cells : Tab Nat
  dirty : Option Nat
deriving DecidableEq, Repr

/-- A field command whose nonvolatile work runs (R611); a CLEAR with the mask of its layers. -/
inductive FieldCmd where
  | create | clear (layers : Nat) | delete
deriving DecidableEq, Repr

/-- Onyx: directory words, stored blocks by slot, cached tiles with the least recently used first,
slot and directory-word write counts, retired slots, running field commands with their end. -/
structure Onyx where
  dir : Tab Word
  blocks : Tab (Nat × Tab Nat)
  cache : List CacheTile
  slotWrites : Tab Nat
  dirWrites : Tab Nat
  retired : List Nat
  cmds : Tab (Option (FieldCmd × Nat))
deriving DecidableEq, Repr

/-- A pose record as the Marver keeps it for 10 s, at full internal resolution (R183, R250, R420): validity MTIME,
quality, position in the field that was active (mm in fixed point), heading in 10⁻⁶ µrad, roll, pitch, yaw rate, speed,
velocity (mm/s in fixed point), its field and its WGS 84 position in 10⁻⁹ degree and mm. -/
structure Pose where
  time : Nat
  quality : Nat
  e : Int
  n : Int
  u : Int
  heading : Int
  roll : Int
  pitch : Int
  yaw : Int
  speed : Int
  ve : Int
  vn : Int
  sigmaH : Nat
  sigmaHead : Nat
  inDr : Nat
  headHeld : Bool
  field : Option Nat
  lat : Int
  lon : Int
  hgt : Int
deriving DecidableEq, Repr

/-- The pose before the first record: of quality 0. -/
def Pose.none : Pose :=
  { time := 0, quality := 0, e := 0, n := 0, u := 0, heading := 0, roll := 0, pitch := 0, yaw := 0, speed := 0, ve := 0, vn := 0,
    sigmaH := 0, sigmaHead := 0, inDr := 0, headHeld := false, field := Option.none, lat := 0, lon := 0, hgt := 0 }

/-- The marker and the Marver's history: pose records newest first, the field in effect from each
activation on, the last good angle of each joint with its stale bit, the angles latched at the ticks newest first, the
marker's progress and whether a valid pose stood since the last gap. -/
structure Marker where
  poses : List Pose
  fields : List (Nat × Option Nat)
  joints : List (Int × Bool)
  angles : List (Nat × List Int)
  done : Nat
  posed : Bool
deriving DecidableEq, Repr

/-- The hardware errors that rewind a gather (R545, R548): a residue or control error of a pipe, an
uncorrectable ECC error, a parity error of a geometry lane. -/
inductive HwError where
  | residue (pipe : Fin 5) | ecc | parity (lane : Fin 8)
deriving DecidableEq, Repr

/-- The geometry registers that stage a map item (R276). -/
inductive GeoReg where
  | rasterE | rasterN | rasterDim | rasterCfg | polyCfg | mapField
deriving DecidableEq, Repr

end Sys2Proof.Machine
end

