-- ==== Sys2Proof/Machine/StFb.lean ====
section
/-! DEFINITION. The plain-data parts of the state behind feedback inputs, analog inputs and
pass-through pins. -/
namespace Sys2Proof.Machine

/-- A feedback input beyond its registers: raw line with the moment of its last change, last accepted
change of its filtered line, last counted edge of its line, whether its range check was violated since,
last counted edge of the input, whether it has counted, last timing edge, the periods used for speed as
end and length (newest first), a reversal to carry in the next periodic record, a period to discard, the
times of phase errors, the state last reported, the last periodic record, the last good SSI frame and
whether the last frame was bad,
until when its speed was last at least 0.1 m/s. Times are in MTIME units. -/
structure FbIn where
  raw : Bool
  rawAt : Nat
  change : Option Nat
  counted : Option Nat
  viol : Bool
  lastCount : Option Nat
  moved : Bool
  timing : Option Nat
  periods : List (Nat × Nat)
  revFlag : Bool
  skip : Bool
  errs : List Nat
  said : Nat
  lastRec : Nat
  ssiGood : Option Nat
  ssiBad : Bool
  fastUntil : Option Nat
deriving DecidableEq, Repr

/-- An input that has seen nothing: stale. -/
def FbIn.init : FbIn :=
  { raw := false, rawAt := 0, change := none, counted := none, viol := false, lastCount := none, moved := false,
    timing := none, periods := [], revFlag := false, skip := false, errs := [], said := 1, lastRec := 0, ssiGood := none, ssiBad := false, fastUntil := none }

/-- An analog input beyond its registers: its last conversion and its filter's value. -/
structure AiIn where
  last : Option Nat
  filt : Nat
deriving DecidableEq, Repr

/-- An analog input that has not converted. -/
def AiIn.init : AiIn := ⟨none, 0⟩

/-- A pass-through pin beyond its registers: the end of a compare pulse, the synthesised wave's present
and next frequency in 1/65,536,000 Hz and its period start. -/
structure PtPin where
  pulseEnd : Option Nat
  freq : Nat
  next : Nat
  periodAt : Nat
deriving DecidableEq, Repr

/-- A pin that drives nothing. -/
def PtPin.init : PtPin := ⟨none, 0, 0, 0⟩

/-- Feedback: inputs, analog inputs, pins, the off time of SNS_PWR (R478). -/
structure Feedback where
  ins : Tab FbIn
  ais : Tab AiIn
  pts : Tab PtPin
  snsOffEnd : Option Nat
deriving DecidableEq, Repr

/-- The registers of a compare: enables, value, step (R471). -/
inductive CmpReg where
  | ctrl | value | step
deriving DecidableEq, Repr

end Sys2Proof.Machine
end

