-- ==== Sys2Proof/Machine/StNav.lean ====
section
/-! DEFINITION. The plain-data parts of the state behind the receiver, the pose engine, corrections,
snapshot captures and the time unit, and what their events sample. -/
namespace Sys2Proof.Machine

/-- One tracking channel at a measurement epoch (R397, R401, R402): channel, satellite with its elevation in degrees,
chain, lock state of TRK_STAT, the words of its carrier NCO and its code NCO, and its measurement. -/
structure MeasRec where
  chan : Fin 200
  sig : Fin 11
  prn : Byte
  elev : Fin 91
  chain : Fin 4
  state : Fin 6
  carrierNco : BitVec 48
  codeNco : BitVec 48
  cn0 : Byte
  lock : BitVec 16
  range : BitVec 40
  phase : BitVec 64
  doppler : Word
  rangeOk : Bool
  phaseOk : Bool
  halfOk : Bool
  slip : Bool
deriving DecidableEq, Repr

/-- What the chains receive at an epoch: the channels that are acquiring or tracking, and gain and noise of each chain. -/
structure EpochInput where
  recs : List MeasRec
  gains : List (Byte × Byte)
deriving DecidableEq, Repr

/-- A satellite position solution (R409, R415): satellites used of GPS, Galileo, BeiDou, QZSS and SBAS, those with SBAS
corrections, validated ambiguities, the WGS 84 position of the phase centre of the antenna that gives the position in
10⁻⁹ degree and mm, velocity in mm/s. -/
structure SatFix where
  used : List Nat
  sbas : Nat
  fixed : Bool
  lat : Int
  lon : Int
  hgt : Int
  ve : Int
  vn : Int
deriving DecidableEq, Repr

/-- What the pose engine has at an epoch beside the measurements, the corrections and the inertial rates that the state
holds (R409): a satellite solution; a solved baseline, B to A, in the field frame in mm; the epoch's GTIME if valid with
its uncertainty in ns; roll and pitch in µrad as inertial data and velocity give them; the sigmas; the direction of
travel that the inertial sensor gives an unsigned speed source; a UTC offset, an announced change and an almanac, if
the navigation message brought one. -/
structure PoseInput where
  fix : Option SatFix
  baseline : Option (Int × Int × Int)
  gtime : Option (Nat × Nat)
  roll : Int
  pitch : Int
  sigmaH : Nat
  sigmaHead : Nat
  forward : Bool
  utc : Option Byte
  utcNext : Option (Nat × Byte)
  almanac : Bool
deriving DecidableEq, Repr

/-- The accelerations of an inertial sample (R412): along the lid's X, Y and Z axes, and their horizontal part with
gravity taken out, in mm/s². -/
structure ImuAcc where
  axes : Int × Int × Int
  level : Nat
deriving DecidableEq, Repr

/-- An inertial sample (R412): the angular rates about the lid's X, Y and Z axes in µrad/s, and the accelerations. -/
structure ImuSample where
  rate : Int × Int × Int
  acc : ImuAcc
deriving DecidableEq, Repr

/-- The MSM messages of one base epoch (R406): its time of week in ms of GPS time, whether the cells agreed with the masks
so far, and the cells of signals in R388, as signal code and satellite. -/
structure MsmSet where
  tow : Nat
  ok : Bool
  cells : List (Nat × Nat)
deriving DecidableEq, Repr

/-- A running snapshot capture: first sample, chains, length in 2 ms units. -/
structure SnapRun where
  start : Nat
  chains : Nat
  len : Nat
deriving DecidableEq, Repr

/-- A held base position (R407). -/
structure BasePos where
  station : Nat
  x : Int
  y : Int
  z : Int
  height : Option Nat
deriving DecidableEq, Repr

/-- The receiver and the pose engine beyond their registers: inertial exclusions (R412), the last inertial sample that
showed motion and the last one that did so while no valid pose stood (R131), the sum of the yaw rates of the good samples
since the last record with their number, next epoch and next record, whether EPOCH_PHASE is fixed (R400), the
measurements of the last epoch (R401), the NCO words of each channel (R397), the channels whose next measurement record
shows a slip, the last record and the last of quality not 0, the last satellite solution, the heading that hold starts
from in 10⁻⁶ µrad, since when the yaw rate is low, whether fixed ambiguities were discarded, the last position in mm in
fixed point in the frame of an origin, corrections: the base position, a set being received, one that waits for the next
epoch, GTIME and cells of the newest one (R406, R407), captures, navigation data held and stored (R399), the last
snapshot of quality not 0, the last tick and the last change of period. -/
structure Nav where
  imuSat : Option Nat
  imuMiss : Option Nat
  imuMoved : Option Nat
  imuBlind : Option Nat
  turn : Int × Nat
  measNext : Nat
  pubNext : Nat
  phaseSet : Bool
  meas : Option (Nat × List MeasRec)
  ncos : Tab (BitVec 48 × BitVec 48)
  slips : List Nat
  lastRec : List Word
  goodRec : List Word
  lastSat : Option Nat
  head : Option (Nat × Int)
  slow : Option Nat
  ambDrop : Bool
  fine : Int × Int × Int
  origin : Int × Int × Int
  corrBuf : List Byte
  base : Option BasePos
  setOpen : Option MsmSet
  setWait : Option MsmSet
  setNewest : Option Nat
  setCells : List (Nat × Nat)
  cap : Option SnapRun
  solveDue : Option Nat
  snapBuf : Tab Byte
  ephemeris : Bool
  almanac : Bool
  lastPos : Option (Int × Int × Int)
  storedPos : Option (Int × Int × Int)
  storedEphemeris : Bool
  storedAlmanac : Bool
  goodSnap : List Word
  lastTick : Option Nat
  regrid : Nat
deriving DecidableEq, Repr

/-- A scheduled change of GTIME (R446, R448): a step by an error in 1/256 ns, or a set. -/
inductive StepPlan where
  | correct (e : Int)
  | set (g : Nat)
deriving DecidableEq, Repr

/-- A prepared pulse (R442): edge MTIME, quantisation error in ps, the second it marks, the time state. -/
structure Pulse where
  edge : Nat
  err : Int
  second : Nat
  state : Nat
deriving DecidableEq, Repr

/-- The time unit beyond its registers: the relation of GTIME in 1/256 ns to MTIME from a reference on,
its rate in 2⁻⁴⁰, a slew's error, part of the rate and end, a scheduled step, the MTIME of the last time solution with
its GTIME and its uncertainty in ns, UTC, pulses, the next reference message. -/
structure Clock where
  refM : Nat
  refG : Int
  rate : Int
  slewRate : Int
  slewErr : Int
  slewFrom : Nat
  step : Option StepPlan
  lastSol : Option Nat
  solG : Nat
  unc : Option Nat
  utc : Option Byte
  utcNext : Option (Nat × Byte)
  pulse : Option Pulse
  lastEdge : Option Nat
  fallAt : Option Nat
  nextMin : Nat
  lastPulse : Option Pulse
  tmNext : Nat
deriving DecidableEq, Repr

/-- The pose engine and receiver as a cold start leaves them. -/
def Nav.init : Nav :=
  { imuSat := none, imuMiss := none, imuMoved := none, imuBlind := none, turn := (0, 0), measNext := 0, pubNext := 0, phaseSet := false,
    meas := none, ncos := [], slips := [], lastRec := List.replicate 16 0, goodRec := List.replicate 16 0, lastSat := none, head := none,
    slow := none, ambDrop := false, fine := (0, 0, 0), origin := (0, 0, 0), corrBuf := [], base := none, setOpen := none, setWait := none,
    setNewest := none, setCells := [], cap := none, solveDue := none, snapBuf := [], ephemeris := false, almanac := false, lastPos := none,
    storedPos := none, storedEphemeris := false, storedAlmanac := false, goodSnap := List.replicate 24 0, lastTick := none, regrid := 0 }

/-- The navigation data that nonvolatile memory holds at a cold start (R399). -/
def Nav.stored (n : Nav) : Nav :=
  { Nav.init with
    storedPos := n.storedPos, storedEphemeris := n.storedEphemeris, storedAlmanac := n.storedAlmanac
    lastPos := n.storedPos, ephemeris := n.storedEphemeris, almanac := n.storedAlmanac }

/-- The time unit as a cold start leaves it. -/
def Clock.init : Clock :=
  { refM := 0, refG := 0, rate := 0, slewRate := 0, slewErr := 0, slewFrom := 0, step := none, lastSol := none, solG := 0, unc := none,
    utc := none, utcNext := none, pulse := none, lastEdge := none, fallAt := none, nextMin := 0, lastPulse := none, tmNext := 0 }

end Sys2Proof.Machine
end

