-- ==== Sys2Proof/Machine/StSys.lean ====
section
/-! DEFINITION. The plain-data parts of the state that belong to the SYS, SVC and AON domains:
masters and their access state, ownership, supplies, start-up, the recorder, the configuration
image, recovery, fleet comparison and service. -/
namespace Sys2Proof.Machine

/-- The three masters (R115). -/
inductive Master where
  | host | bus | gaffer
deriving DecidableEq, Repr

/-- The master number m of R107. -/
def Master.num : Master → Nat
  | .host => 0
  | .bus => 1
  | .gaffer => 2

/-- The master code of R124. -/
def Master.code (m : Master) : Nat := m.num + 1

/-- The error codes of R104. -/
inductive Err where
  | ok | align | addr | power | aliasErr | readonly | owner | key | once | value | state
  | armed | session
deriving DecidableEq, Repr

/-- The number of an error code (R104). -/
def Err.num : Err → Nat
  | .ok => 0
  | .align => 1
  | .addr => 2
  | .power => 3
  | .aliasErr => 4
  | .readonly => 5
  | .owner => 6
  | .key => 7
  | .once => 8
  | .value => 9
  | .state => 10
  | .armed => 11
  | .session => 12

/-- The record severity of a refusal (R104). -/
def Err.severity : Err → Nat
  | .ok => 0
  | .align => 2
  | .addr => 2
  | .power => 1
  | .aliasErr => 2
  | .readonly => 2
  | .owner => 2
  | .key => 3
  | .once => 4
  | .value => 2
  | .state => 3
  | .armed => 3
  | .session => 1

/-- What happened, for an event of the recorder (the events that the chapters name). -/
inductive EvKind where
  | accessRefused | keyWrong | onceViolation
  | ownerChange | lapse | handoverCancel | seizure
  | ecuBand | dropout | supplyLoss | feedUv | groundLoss | antFold | sensorFold | baseHot
  | selfTestFail | imageBad | factory | standbyEnter | regionBad | startRefused
  | cullet | supervisorRestart | resetOrdered | engineReset | engineHeld | postured | rewind
  | hardFault | gatherFault | hardwareFault | votedLost | queueEcc
  | cfgActivated | configSkew | peerLost
  | load | loadFail | programStarted | gatherStarted | gatherStopped | pageReleased
  | badTile | markGap | noModel | outside | mapActivated | fieldCreated | fieldCleared | fieldDeleted | onyxWear
  | trip | latch | thermal | lpShort | deferral | freeze | measRejected | learnFail | unlearned
  | periodClamp | fallback | currentSense
  | remPastSent | remStale | remDiscard
  | chainFail | antOpen | antShort | qualityChange | baselineReject | imuMiss | corrStale | corrBad
  | timeStep | timeSet | timeState | holdoverLimit | msgMiss | tmSuspended | slew | snapshotDone
  | fbPhase | fbFaulty | fbRange | fbStale | ssiBad | ssiStale | aiRange | aiStale | burden | ptShort | fbLate
  | busOff | busSolo | addressLost | txBad | rxCheck | rxTimeout | portSleep | dm1 | tpAbort
  | log | floodSummary | storeCleared | tornFound
  | jasperEnabled | jasperEnded | meterStarted | optStore | gnssCold
deriving DecidableEq, Repr

/-- An event handed to the recorder collector (R38): severity, source class and instance (R527),
what happened, the values that the spec says its record holds, and for a record whose code and
bytes the spec gives (LOG, class 16) those. -/
structure Event where
  sev : Nat
  cls : Nat
  inst : Nat
  kind : EvKind
  vals : List Int
  code : Option Nat
  bytes : List Byte
deriving DecidableEq, Repr

/-- An entry of Q103: an event with the stamps that the collector gives it (R529). -/
structure Stamped where
  ev : Event
  opt : Nat
  pcc : Nat
  gtime : Nat
  tstate : Nat
deriving DecidableEq, Repr

/-- A record in the store (R524). -/
structure Record where
  seq : Nat
  pinned : Bool
  entry : Stamped
deriving DecidableEq, Repr

/-- A sensor supply, SNS_PWR or SNS5, that folds back on a short or no longer does (R75). -/
structure SensorFold where
  pwr : Bool
  folded : Bool
deriving DecidableEq, Repr

/-- The results of a start-up self-test (R577): what failed in the supervisor, the output stage and the
nonvolatile stores; failing pipes; whether a memory failed, and the highest share of spare rows in use;
outputs whose delay lines fail calibration or whose current sense fails; torn records by number. -/
structure SelfTest where
  supervisor : Bool
  outputStage : Bool
  nvStore : Bool
  pipes : List (Fin 5)
  memories : Bool
  percent : Fin 101
  delay : List (Fin 84)
  sense : List (Fin 84)
  torn : List Nat
deriving DecidableEq, Repr

/-- A running flood (R537): its start and the suppressed count of each source. -/
structure Flood where
  start : Nat
  counts : List (Nat × Nat)
  other : Nat
deriving DecidableEq, Repr

/-- The recorder: waiting events in order of arrival, Q103, the store, the selection point. -/
structure Recorder where
  waiting : List Event
  q103 : List Stamped
  flood : Option Flood
  store : List Record
  nextSeq : Nat
  severe : Nat
  sel : Option Nat
  ready : Bool
deriving DecidableEq, Repr

/-- One master's snapshot of one mailbox (R109). -/
structure Mbx where
  words : List Word
  seq : Nat
  valid : Bool
  stale : Bool
deriving DecidableEq, Repr

/-- A KEYED_ADDR frame of a port and source address that waits for its KEYED_DATA (R521). -/
structure KeyedAddr where
  port : Nat
  src : Nat
  key : Nat
  addr : Nat
  tag : Nat
  deadline : Nat
deriving DecidableEq, Repr

/-- A master's unlock (R91, R92): none, one that the next transaction must meet by a time, or one that a
transaction in time carries. -/
inductive Unlock where
  | no
  | till (t : Nat)
  | held
deriving DecidableEq, Repr

/-- The access state: unlocks with their expiry (R91, R92), mailbox snapshots by
16 × master + mailbox, the bus session's timeout, the pending KEYED_ADDR, commands queued
behind a running command (R86), the words of OEM_KEY_HASH that a running commit stores, and its end. -/
structure Access where
  unlock : Tab Unlock
  mbx : Tab Mbx
  sessionDeadline : Nat
  keyed : Option KeyedAddr
  queued : List Fld
  oemStored : List Word
  commitDone : Option Nat
deriving DecidableEq, Repr

/-- Ownership beyond its registers: the slots of the order in effect, 0 for empty (R125), deadlines, the lapse noted
against a pending handover (R129), and the claims held pending in the election window. -/
structure Own where
  order : List Nat
  hbDeadline : Nat
  hoDeadline : Nat
  lapseNoted : Bool
  claims : List Nat
  electionEnd : Nat
  autoHb : Bool
  autoNext : Nat
deriving DecidableEq, Repr

/-- The supply that powers the logic (R59). -/
inductive Power where
  | off | normal | bench
deriving DecidableEq, Repr

/-- Supplies and pins (R41 to R77): the selected supply, BATT_KEEP, when a folded-back antenna bias is tried next, which
sensor supplies are folded back, the latched wake with its port, standby and whether it was entered with ECU_PWR present,
ground loss, OPT and PCC. -/
structure Supply where
  power : Power
  keep : Bool
  foldA : Option Nat
  foldB : Option Nat
  sns5Fold : Bool
  snsPwrFold : Bool
  wake : Option (Nat × Nat)
  inStandby : Bool
  standbyEcu : Bool
  groundLost : Bool
  optBase : Nat
  pcc : Nat
deriving DecidableEq, Repr

/-- Start-up beyond STARTUP_STAT: a halted start, the GNS domain, a warm or engine reset in
progress with the moment of its cause and the gathers to restart, a supervisor restart. -/
structure Startup where
  halted : Bool
  gnsUp : Bool
  currentSenseBad : List Nat
  warmAt : Option Nat
  engineAt : Option Nat
  engineHeld : Bool
  restart : List Nat
  supervisorAt : Option Nat
  factoryPending : Bool
  electionOver : Bool
deriving DecidableEq, Repr

/-- The hold window after a reset (R557) and the Lehr's own counts. -/
structure Recovery where
  holdEnd : Option Nat
  lockstepTimes : List Nat
  eccWords : List (Nat × Nat × Nat × Bool)
deriving DecidableEq, Repr

/-- The configuration image in nonvolatile memory (R565, R567) and what else is stored there: pages, regions, program,
learned latencies with the outputs that were ever bound (R299), the OEM key hash (R96). -/
structure Stored where
  image : Tab Word
  model : Tab Word
  fieldSel : Nat
  generation : Nat
  pages : List Nat
  regions : List (Nat × Nat)
  prog : Tab Word
  latencies : Tab Word
  bound : List Nat
  oemHash : List Word
deriving DecidableEq, Repr

/-- Staged configuration (R568 to R571): whether the armed activation is one of ACT_NOW. -/
structure Staging where
  staged : Tab Word
  generation : Nat
  checkDone : Option Nat
  lastActivation : Option Nat
  storeDue : Bool
  actNow : Bool
deriving DecidableEq, Repr

/-- A round of digest frames from one peer (R572, R573). -/
structure PeerRound where
  round : Nat
  started : Nat
  parts : Tab (List Byte)
  skewRun : Nat
  agreed : Bool
  mismatch : Bool
  lastComplete : Nat
deriving DecidableEq, Repr

/-- Fleet publication and comparison (R572, R573). -/
structure Fleet where
  round : Nat
  nextRound : Nat
  peers : Tab PeerRound
deriving DecidableEq, Repr

/-- A command line of the Gaffer port whose final reply is still to come (R596). -/
inductive PortOp where
  | none | meter | test | capture | solve
deriving DecidableEq, Repr

/-- Service: the running meter check, its end and the settings it changed, the channel it holds off, the
self-test with its units, Jasper's expiry, one-shots, the command of the Gaffer port that runs. -/
structure Service where
  meterEnd : Option Nat
  meterSave : List (Nat × Word)
  meterHeld : Option Nat
  testEnd : Option Nat
  testAll : List Nat
  jasEnd : Option Nat
  oneshot : List Nat
  op : PortOp
deriving DecidableEq, Repr

/-- The results of a self-test on demand (R604): the stores with the slots whose CRC fails, delay lines, RF chains,
current sense, meter sources, the loopback of the port, pipes, memories with the highest share of spare rows. -/
structure DemandTest where
  nv : Bool
  torn : List Nat
  delay : List (Fin 84)
  rf : List (Fin 4)
  sense : List (Fin 84)
  src : Bool
  bus : Bool
  pipes : List (Fin 5)
  memories : Bool
  percent : Fin 101
deriving DecidableEq, Repr

/-- The Jasper registers that take an enabling write (R606): back-pressure and delay of a queue, the scheduler, a
port, navigation, Onyx, the taps. -/
inductive JasReg where
  | qbp (q : Fin 128) | qdly (i : Fin 19) | sched | bus (p : Fin 6) | nav | onyx | tap
deriving DecidableEq, Repr

/-- Why a command line of the Gaffer port is refused before it runs (R595, R596). -/
inductive LineFault where
  | syntaxErr | long | overflow | usb
deriving DecidableEq, Repr

/-- What the Askat last sent back to a master. -/
inductive Reply where
  | none
  | spi (bytes : List Byte)
  | frame (port dest : Nat) (data : List Byte)
  | okValue (err : Err) (values : List Word)
  | burst (words : List (Nat × Word)) (crc : Word) (err : Err)
  | identity (serial opt pcc phase cullet owner : Nat)
  | ownership (owner pend target hb : Nat)
  | records (rs : List Record) (crc : Word)
  | perturbations (active left : Nat)
  | meter (mv : Int) (fed line : Bool) (thr : Nat)
  | verdict (pass : Bool) (unit detail : Nat)
  | snapshot (bytes : List Byte) (crc : Word)
  | result (code : Nat)
  | busy | syntaxErr | long | overflow | usb
deriving DecidableEq, Repr

end Sys2Proof.Machine
end

