-- ==== Sys2Proof/Syntax.lean ====
section
/-! DEFINITION. The commands of the Askat: one constructor per row of the opcode table. An operand
that names a piece of hardware is a Fin of its number of instances, so no command can name a piece
that does not exist. Commands of masters carry the master; events carry what the block samples. -/
namespace Sys2Proof

open Sys2Proof.Machine

/-- A gather (R1: 128 contexts). -/
abbrev GatherId := Fin 128
/-- A local output (R2). -/
abbrev OutId := Fin 84
/-- A load feed (R354). -/
abbrev FeedId := Fin 10
/-- A bus port. -/
abbrev PortId := Fin 6
/-- A queue (R37). -/
abbrev QId := Fin 128
/-- A remote descriptor. -/
abbrev DescId := Fin 428

/-- A general register field of an instruction. -/
abbrev RegId := Fin 32

/-- The commands. -/
inductive Instr where
  /-- SELFTEST_END (R577). Start-up self-test completes, records each result in SELFTEST_RES and either halts the start or moves on to configuration load. -/
  | selftestEnd (t : SelfTest)
  /-- GNS_SELFTEST_END (R400). The GNS domain leaves self-test, which fixes EPOCH_PHASE and starts acquisition. -/
  | gnsSelftestEnd (bad : BitVec 4)
  /-- CONFIGURATION_LOAD (R579). Configuration load checks the image digest, re-verifies the regions, restores the stored state, takes the ports out of INIT and opens the election window. -/
  | configurationLoad (imageOk : Bool) (bad : List (Fin 262144))
  /-- SUPPLY_LOSS (R42). ECU_PWR has stayed below 8.0 V for 25 ms; the Askat takes the outputs off, makes a final marking sweep, writes back Onyx, writes a record and stops or goes to bench-alive. -/
  | supplyLoss (vbus : Bool)
  /-- FEED_UNDERVOLTAGE_ENTRY (R63). A bank or motor feed falls below 7.0 V and every channel it supplies is held off, with one record per feed. -/
  | feedUndervoltageEntry (f : FeedId) (reversed : Bool)
  /-- FEED_UNDERVOLTAGE_EXIT (R63). The feed has stayed at 7.5 V or more for 1 ms and the held channels are released for their staggered turn-ons. -/
  | feedUndervoltageExit (f : FeedId)
  /-- STAGGERED_TURN_ON (R63). A channel whose commanded state is ON turns on with a fresh inrush window, 100 µs after the previous channel in ascending output order. -/
  | staggeredTurnOn (k : Fin 11)
  /-- KEY_UNLOCK_WRITE (R91). A write to KEY_UNLOCK either unlocks the writing master's next key-guarded write or, with a wrong value, re-arms its lock and is refused with KEY. -/
  | keyUnlockWrite (m : Master) (data : Word)
  /-- UNLOCK_EXPIRY (R92). An unlock expires when the master's next transaction does not start within 1 µs. -/
  | unlockExpiry (m : Master)
  /-- ALIAS_WRITE (R99). A write in the bit alias window changes one bit of the aliased register according to that field's type. -/
  | aliasWrite (m : Master) (off : BitVec 23) (data : Word)
  /-- OEM_KEY_HASH_WRITE (R96). A write to OEM_KEY_HASHn fills the volatile staging copy, or after LOCKED follows the write-once rule. -/
  | oemKeyHashWrite (m : Master) (i : Fin 8) (data : Word)
  /-- WRITE_ONCE_WRITE (R95). A write to an unwritten WON register stores the value and locks the register; a later write of a different value is refused with ONCE. -/
  | writeOnceWrite (m : Master) (i : Fin 8) (data : Word)
  /-- OEM_KEY_COMMIT (R96). COMMIT starts storing the eight staged hash words as one unit. -/
  | oemKeyCommit (m : Master) (key : BitVec 16)
  /-- MBX_REQ (R110). A write of REQ latches a mailbox snapshot, or a group of them, for the writing master and increments SEQ. -/
  | mbxReq (m : Master) (k : Fin 14)
  /-- MBX_DATA_READ (R111). A read of a mailbox data word returns the snapshot word; DATA3 clears VALID, and a read while VALID is 0 sets STALE. -/
  | mbxDataRead (m : Master) (k : Fin 14) (j : Fin 4)
  /-- HSPI_READ (R116). A host SPI read frame (0x03) reads one register and returns its status and data. -/
  | hspiRead (a : BitVec 24)
  /-- HSPI_WRITE (R116). A host SPI write frame (0x02) writes one register and returns its status. -/
  | hspiWrite (a : BitVec 24) (data : Word)
  /-- HSPI_KEYED_WRITE (R94). A host SPI keyed write frame (0x12) performs an unlock and the target write as one access. -/
  | hspiKeyedWrite (key : BitVec 16) (a : BitVec 24) (data : Word)
  /-- HSPI_BURST_READ (R119). A host SPI burst read frame (0x0B) reads successive words, each only after the previous word has been clocked out, and ends at the first error. -/
  | hspiBurstRead (a : BitVec 24) (more : Nat)
  /-- HSPI_BURST_WRITE (R119). A host SPI burst write frame (0x0A) writes successive words and ends at the first error status. -/
  | hspiBurstWrite (a : BitVec 24) (first : Word) (rest : List Word)
  /-- HSPI_INVALID_COMMAND (R117). An unknown byte 0 ends the frame with no access, and the port returns 0xFF until HSPI_CS_N rises. -/
  | hspiInvalidCommand (b : Byte)
  /-- HSPI_CS_EARLY_RISE (R120). HSPI_CS_N rises before the last bit that starts an access, so no access takes place. -/
  | hspiCsEarlyRise (started : Bool)
  /-- BUS_ACCESS_OPEN (R520). An OPEN frame opens or refreshes the bus session for its identity, or is answered SESSION. -/
  | busAccessOpen (p : PortId) (src : Byte)
  /-- BUS_ACCESS_CLOSE (R520). A CLOSE frame from the holder ends the session, unless the holder owns the punty. -/
  | busAccessClose (p : PortId) (src : Byte)
  /-- BUS_ACCESS_READ (R519). A READ frame from the session holder reads a register and is answered with a REPLY. -/
  | busAccessRead (p : PortId) (src : Byte) (w : BitVec 22) (tag : Fin 4)
  /-- BUS_ACCESS_WRITE (R519). A WRITE frame from the session holder writes a register and is answered with a REPLY. -/
  | busAccessWrite (p : PortId) (src : Byte) (w : BitVec 22) (tag : Fin 4) (data : Word)
  /-- BUS_SESSION_DROP (R121). The owner's write of BUS_SESSION.DROP ends the bus session, unless the holder owns the punty. -/
  | busSessionDrop (m : Master)
  /-- OWN_CLAIM (R125). A keyed claim for the punty wins at once, is held pending during the election, or is refused. -/
  | ownClaim (m : Master) (key : BitVec 16)
  /-- OWN_HANDOVER (R128). A keyed write of OWN_HANDOVER.TARGET 1 to 3 starts a handover to that master with a 2 s acceptance timer. -/
  | ownHandover (m : Master) (key : BitVec 16) (target : Master)
  /-- OWN_RELEASE (R126). A keyed write of OWN_HANDOVER.TARGET 0 releases the punty and cancels any pending handover. -/
  | ownRelease (m : Master) (key : BitVec 16)
  /-- OWN_HANDOVER_CANCEL (R126). A keyed write of OWN_HANDOVER.TARGET 7 cancels a pending handover and forgets any lapse noted for it. -/
  | ownHandoverCancel (m : Master) (key : BitVec 16)
  /-- OWN_ACCEPT (R126). The handover target writes ACCEPT within 2 s and takes the punty. -/
  | ownAccept (m : Master)
  /-- OWN_HEARTBEAT_REFRESH (R129). The owner's REFRESH restarts the heartbeat timeout. -/
  | ownHeartbeatRefresh (m : Master)
  /-- OWN_SEIZE (R130). A keyed seizure by the Gaffer port takes the punty if the machine is stationary and no output is ON. -/
  | ownSeize (m : Master) (key : BitVec 16)
  /-- OWN_CFG_WRITE (R133). A write of OWN_CFG is checked and stored in nonvolatile memory; it takes effect at the next election. -/
  | ownCfgWrite (m : Master) (key : BitVec 16) (data : Word)
  /-- REGISTER_WRITE (R86). A write to a register that has no row of its own applies each field by its type, after the access checks. -/
  | registerWrite (m : Master) (addr : BitVec 24) (data : Word)
  /-- ADD (R155). ADD computes a + b and sets Z, N, C and V. -/
  | add (g : GatherId) (d a b : RegId)
  /-- SUB (R155). SUB computes a − b and sets Z, N, C and V. -/
  | sub (g : GatherId) (d a b : RegId)
  /-- ADC (R155). ADC computes a + b + C and sets the flags. -/
  | adc (g : GatherId) (d a b : RegId)
  /-- SBC (R155). SBC computes a − b − (1 − C) and sets the flags. -/
  | sbc (g : GatherId) (d a b : RegId)
  /-- AND (R155). AND computes the bitwise and of a and b and sets Z and N. -/
  | andW (g : GatherId) (d a b : RegId)
  /-- OR (R155). OR computes the bitwise or of a and b and sets Z and N. -/
  | orW (g : GatherId) (d a b : RegId)
  /-- XOR (R155). XOR computes the bitwise exclusive or of a and b and sets Z and N. -/
  | xorW (g : GatherId) (d a b : RegId)
  /-- ANDN (R155). ANDN computes a & ~b and sets Z and N. -/
  | andn (g : GatherId) (d a b : RegId)
  /-- SHL (R155). SHL shifts a left by b[4:0] and sets Z, N and C. -/
  | shl (g : GatherId) (d a b : RegId)
  /-- SHR (R155). SHR shifts a right logically by b[4:0] and sets Z, N and C. -/
  | shr (g : GatherId) (d a b : RegId)
  /-- SAR (R155). SAR shifts a right arithmetically by b[4:0] and sets Z, N and C. -/
  | sar (g : GatherId) (d a b : RegId)
  /-- ROR (R155). ROR rotates a right by b[4:0] and sets Z, N and C. -/
  | ror (g : GatherId) (d a b : RegId)
  /-- MUL (R155). MUL gives bits 31:0 of a × b. -/
  | mul (g : GatherId) (d a b : RegId)
  /-- MULH (R155). MULH gives bits 63:32 of the signed product. -/
  | mulh (g : GatherId) (d a b : RegId)
  /-- MULHU (R155). MULHU gives bits 63:32 of the unsigned product. -/
  | mulhu (g : GatherId) (d a b : RegId)
  /-- MIN (R155). MIN gives the signed minimum of a and b. -/
  | minW (g : GatherId) (d a b : RegId)
  /-- MAX (R155). MAX gives the signed maximum of a and b. -/
  | maxW (g : GatherId) (d a b : RegId)
  /-- MINU (R155). MINU gives the unsigned minimum of a and b. -/
  | minu (g : GatherId) (d a b : RegId)
  /-- MAXU (R155). MAXU gives the unsigned maximum of a and b. -/
  | maxu (g : GatherId) (d a b : RegId)
  /-- ADDI (R156). ADDI adds the sign-extended immediate and sets flags as ADD. -/
  | addi (g : GatherId) (d a : RegId) (imm : BitVec 16)
  /-- SUBI (R156). SUBI subtracts the sign-extended immediate and sets flags as SUB. -/
  | subi (g : GatherId) (d a : RegId) (imm : BitVec 16)
  /-- ANDI (R156). ANDI ands a with the zero-extended immediate. -/
  | andi (g : GatherId) (d a : RegId) (imm : BitVec 16)
  /-- ORI (R156). ORI ors a with the zero-extended immediate. -/
  | ori (g : GatherId) (d a : RegId) (imm : BitVec 16)
  /-- XORI (R156). XORI exclusive-ors a with the zero-extended immediate. -/
  | xori (g : GatherId) (d a : RegId) (imm : BitVec 16)
  /-- SHLI (R157). SHLI shifts left by an immediate count. -/
  | shli (g : GatherId) (d a : RegId) (count : Fin 32)
  /-- SHRI (R157). SHRI shifts right logically by an immediate count. -/
  | shri (g : GatherId) (d a : RegId) (count : Fin 32)
  /-- SARI (R157). SARI shifts right arithmetically by an immediate count. -/
  | sari (g : GatherId) (d a : RegId) (count : Fin 32)
  /-- RORI (R157). RORI rotates right by an immediate count. -/
  | rori (g : GatherId) (d a : RegId) (count : Fin 32)
  /-- LUI (R156). LUI sets d to imm16 << 16 without changing the flags. -/
  | lui (g : GatherId) (d : RegId) (imm : BitVec 16)
  /-- LDW (R160). LDW loads a word from local memory. -/
  | ldw (g : GatherId) (d a : RegId) (imm : BitVec 16)
  /-- LDH (R160). LDH loads a sign-extended halfword from local memory. -/
  | ldh (g : GatherId) (d a : RegId) (imm : BitVec 16)
  /-- LDHU (R160). LDHU loads a zero-extended halfword from local memory. -/
  | ldhu (g : GatherId) (d a : RegId) (imm : BitVec 16)
  /-- LDB (R160). LDB loads a sign-extended byte from local memory. -/
  | ldb (g : GatherId) (d a : RegId) (imm : BitVec 16)
  /-- LDBU (R160). LDBU loads a zero-extended byte from local memory. -/
  | ldbu (g : GatherId) (d a : RegId) (imm : BitVec 16)
  /-- STW (R163). STW stores a word to local memory and journals the old value. -/
  | stw (g : GatherId) (d a : RegId) (imm : BitVec 16)
  /-- STH (R163). STH stores a halfword to local memory and journals the old value. -/
  | sth (g : GatherId) (d a : RegId) (imm : BitVec 16)
  /-- STB (R163). STB stores a byte to local memory and journals the old value. -/
  | stb (g : GatherId) (d a : RegId) (imm : BitVec 16)
  /-- LDC (R161). LDC starts an asynchronous word load from common memory, seeing the gather's own held stores. -/
  | ldc (g : GatherId) (d a : RegId) (imm : BitVec 16)
  /-- STC (R164). STC holds a common-memory store in the journal until the gather's next EPOCH. -/
  | stc (g : GatherId) (d a : RegId) (imm : BitVec 16)
  /-- BC (R166). BC branches by off22 when its condition holds. -/
  | bc (g : GatherId) (cond : Fin 16) (off : BitVec 22)
  /-- CALL (R166). CALL writes the return address into w31 and branches by off26. -/
  | call (g : GatherId) (off : BitVec 26)
  /-- JR (R166). JR jumps to w[a]. -/
  | jr (g : GatherId) (a : RegId)
  /-- CALLR (R166). CALLR writes the return address into w31 and jumps to w[a]. -/
  | callr (g : GatherId) (a : RegId)
  /-- DIV (R159). DIV starts an asynchronous signed division. -/
  | divW (g : GatherId) (d a b : RegId)
  /-- DIVU (R159). DIVU starts an asynchronous unsigned division. -/
  | divu (g : GatherId) (d a b : RegId)
  /-- REM (R159). REM starts an asynchronous signed remainder. -/
  | remW (g : GatherId) (d a b : RegId)
  /-- REMU (R159). REMU starts an asynchronous unsigned remainder. -/
  | remu (g : GatherId) (d a b : RegId)
  /-- SQRT (R159). SQRT starts an asynchronous integer square root. -/
  | sqrt (g : GatherId) (d a : RegId)
  /-- PSET (R168). PSET sets a point register from two general registers. -/
  | pset (g : GatherId) (d a b : RegId)
  /-- PGETX (R168). PGETX copies a point's x into a general register. -/
  | pgetx (g : GatherId) (d a : RegId)
  /-- PGETY (R168). PGETY copies a point's y into a general register. -/
  | pgety (g : GatherId) (d a : RegId)
  /-- PMOV (R168). PMOV copies one point register to another. -/
  | pmov (g : GatherId) (d a : RegId)
  /-- PADD (R168). PADD adds two points coordinate by coordinate. -/
  | padd (g : GatherId) (d a b : RegId)
  /-- PSUB (R168). PSUB subtracts two points coordinate by coordinate. -/
  | psub (g : GatherId) (d a b : RegId)
  /-- PMID (R168). PMID gives the midpoint of two points. -/
  | pmid (g : GatherId) (d a b : RegId)
  /-- PDIST (R168). PDIST starts an asynchronous distance between two points. -/
  | pdist (g : GatherId) (d a b : RegId)
  /-- FOOT (R178). FOOT starts an asynchronous prediction of an output's footprint segment at a time offset. -/
  | foot (g : GatherId) (d a b c : RegId)
  /-- COVQ (R179). COVQ starts an asynchronous measure of the covered fraction of a segment. -/
  | covq (g : GatherId) (d a b : RegId)
  /-- COVX (R180). COVX starts an asynchronous search for the next coverage, zone or exclusion change along an output's path. -/
  | covx (g : GatherId) (d a b c : RegId)
  /-- ZONQ (R181). ZONQ starts an asynchronous lookup of the zone and rate under a point. -/
  | zonq (g : GatherId) (d a b : RegId)
  /-- EXCL (R182). EXCL starts an asynchronous test of a segment against the exclusion polygons. -/
  | excl (g : GatherId) (d a : RegId)
  /-- COVM (R183). COVM starts an asynchronous marking of a remote output's coverage, held in the journal until EPOCH. -/
  | covm (g : GatherId) (d a b c : RegId)
  /-- QPUSH (R186). QPUSH pushes a 64-bit word into the gather's open packet on a queue, stalling while the queue is full. -/
  | qpush (g : GatherId) (d : RegId) (q : QId)
  /-- QPOP (R186). QPOP starts an asynchronous provisional pop of one visible word. -/
  | qpop (g : GatherId) (d : RegId) (q : QId)
  /-- QTRY (R186). QTRY pops a visible word and clears Z, or sets Z when no word is visible. -/
  | qtry (g : GatherId) (d : RegId) (q : QId)
  /-- QCOMMIT (R188). QCOMMIT marks the open packet complete, to become visible at the next EPOCH. -/
  | qcommit (g : GatherId) (q : QId)
  /-- QLEVEL (R186). QLEVEL returns a queue's visible or free word count. -/
  | qlevel (g : GatherId) (d : RegId) (q : QId) (sel : Bool)
  /-- POST (R191). POST forms a two-word actuation event packet for Q84 after checking the output binding and the 10 s limit. -/
  | post (g : GatherId) (d a b : RegId) (code : Fin 16)
  /-- RDMT (R171). RDMT reads the present MTIME into a register pair. -/
  | rdmt (g : GatherId) (d : RegId)
  /-- TADD (R172). TADD gives the snapshot's tick MTIME plus a signed offset in 10 µs units. -/
  | tadd (g : GatherId) (d a : RegId)
  /-- RDS (R169). RDS reads one word of the gather's tick snapshot. -/
  | rds (g : GatherId) (d : RegId) (k : Fin 2048)
  /-- RDLAT (R173). RDLAT reads an output's lead, learned latency or transit delay. -/
  | rdlat (g : GatherId) (d a : RegId) (k : Fin 2048)
  /-- RDG (R174). RDG reads the gather's own number. -/
  | rdg (g : GatherId) (d : RegId)
  /-- NOP (R193). NOP does nothing. -/
  | nop (g : GatherId)
  /-- EPOCH (R194). EPOCH waits for the operations in flight, then commits stores, marks, log records, packets and pops as one step. -/
  | epoch (g : GatherId)
  /-- FENCE (R193). FENCE waits until no operation of the gather is in flight. -/
  | fence (g : GatherId)
  /-- WAITA (R193). WAITA waits until a register is no longer pending. -/
  | waita (g : GatherId) (d : RegId)
  /-- WAITT (R193). WAITT executes EPOCH and then waits on the tick. -/
  | waitt (g : GatherId)
  /-- WAITM (R193). WAITM executes EPOCH and then waits until MTIME reaches a target. -/
  | waitm (g : GatherId) (a : RegId)
  /-- WAITQ (R193). WAITQ executes EPOCH and then waits until a queue holds a visible word. -/
  | waitq (g : GatherId) (q : QId)
  /-- HALT (R225). HALT executes EPOCH and then stops the gather in HALTED, leaving every output unchanged. -/
  | halt (g : GatherId)
  /-- PRIO (R208). PRIO sets the gather's priority from the next cycle. -/
  | prio (g : GatherId) (p : Fin 8)
  /-- LOG (R197). LOG creates a recorder record that is held in the journal until EPOCH. -/
  | logW (g : GatherId) (d : RegId) (sev : Fin 8) (code : Fin 2048)
  /-- ASYNC_COMPLETION (R149). An asynchronous operation completes and writes all its destinations in one cycle, clearing their pending marks. -/
  | asyncCompletion (g : GatherId) (k : Fin 8)
  /-- WAITM_WAKE (R226). MTIME reaches a WAITM target and the gather returns to RUN. -/
  | waitmWake (g : GatherId)
  /-- WAITQ_WAKE (R226). A word becomes visible to a gather in WAIT_QUEUE and the gather returns to RUN. -/
  | waitqWake (g : GatherId)
  /-- G_CTRL_START (R220). START initialises a gather into STARTING, unless R221 refuses it. -/
  | gCtrlStart (m : Master) (g : GatherId) (prio : Fin 8) (keep auto : Bool)
  /-- STARTING_COMPLETE (R226). Gather initialisation completes within 4 µs and the gather enters RUN. -/
  | startingComplete (g : GatherId)
  /-- G_CTRL_STOP (R222). STOP cancels a gather's uncommitted work and puts it in STOPPED. -/
  | gCtrlStop (m : Master) (g : GatherId) (prio : Fin 8) (keep auto : Bool)
  /-- STOPALL (R228). ENG_CTRL.STOPALL stops all 128 gathers in one cycle. -/
  | stopall (m : Master)
  /-- STARTAUTO (R228). ENG_CTRL.STARTAUTO starts every autostart gather in ascending order within 1 ms. -/
  | startauto (m : Master)
  /-- GATHER_HOLD_WINDOW_END (R224). The hold window after a gather fault ends; unless the gather is running again, its outputs take their posture and are disarmed. -/
  | gatherHoldWindowEnd (g : GatherId)
  /-- LOAD_OPEN (R235). LOAD_CTRL.OPEN zeroes the pages of the load range and sets them to LOADING. -/
  | loadOpen (m : Master) (signed : Bool)
  /-- LOAD_WINDOW_WRITE (R234). An owner write through the program memory load window to a LOADING page in the load range. -/
  | loadWindowWrite (m : Master) (i : Fin 262144) (data : Word)
  /-- LOAD_VERIFY (R237). LOAD_CTRL.VERIFY starts hashing the image and checking its signature. -/
  | loadVerify (m : Master) (signed : Bool)
  /-- LOAD_ABORT (R236). LOAD_CTRL.ABORT returns the pages of the open load to FREE, zeroed, and stops a running VERIFY. -/
  | loadAbort (m : Master) (signed : Bool)
  /-- PAGE_RELEASE (R240). PAGE_RELEASE.GO returns verified pages to FREE, zeroed. -/
  | pageRelease (m : Master) (first last : Fin 64)
  /-- CMEM_DATA_WRITE (R243). A master write through CMEM_DATA stores a common-memory word at once. -/
  | cmemDataWrite (m : Master) (data : Word)
  /-- LMEM_DATA_WRITE (R105). A master write through LMEM_DATA stores a word of a stopped gather's local memory. -/
  | lmemDataWrite (m : Master) (data : Word)
  /-- GATHER_REWIND (R546). A hardware error in a gather's work rewinds that gather alone to its last committed state. -/
  | gatherRewind (g : GatherId) (e : HwError) (repairable : Bool) (percent : Fin 101)
  /-- REWIND_COMPLETE (R547). The restore completes and the gather resumes in RUN or re-enters its wait state. -/
  | rewindComplete (g : GatherId)
  /-- FIELD_CREATE (R247). FIELDf_CTRL.CREATE allocates directory entries and starts creating a field record. -/
  | fieldCreate (m : Master) (f : Fin 16)
  /-- FIELD_HERE (R248). FIELDf_CTRL.HERE fills the origin registers from the latest pose. -/
  | fieldHere (m : Master) (f : Fin 16)
  /-- FIELD_CLEAR (R249). FIELDf_CTRL.CLEAR sets the chosen layers to uniform 00 at once and frees their blocks. -/
  | fieldClear (m : Master) (key : BitVec 16) (f layers : Fin 16)
  /-- FIELD_DELETE (R249). FIELDf_CTRL.DELETE clears every layer of a record and invalidates it. -/
  | fieldDelete (m : Master) (key : BitVec 16) (f : Fin 16)
  /-- FIELD_COMMAND_DONE (R611). The nonvolatile work of a field command ends and BUSY clears; a CREATE takes effect only then. -/
  | fieldCommandDone (f : Fin 16)
  /-- TILE_FETCH (R267). A tile that is not cached is fetched from nonvolatile memory within 8 µs. -/
  | tileFetch (i : Fin 262144) (readable : Bool)
  /-- ONYX_FLUSH (R267). ONYX_CTRL.FLUSH writes back every dirty tile. -/
  | onyxFlush (m : Master)
  /-- MAP_WIN_WRITE (R276). A write through MAP_WIN stages a word of the selected map item. -/
  | mapWinWrite (m : Master) (i : Fin 1024) (data : Word)
  /-- MAP_GEOMETRY_WRITE (R276). A write to RASTER_E, RASTER_N, RASTER_DIM, RASTER_CFG, POLY_CFG or MAP_FIELD stages its item. -/
  | mapGeometryWrite (m : Master) (g : GeoReg) (data : Word)
  /-- MAP_CHECK (R278). MAP_CTRL.CHECK starts checking every staged map item. -/
  | mapCheck (m : Master)
  /-- MAP_ACT_NOW (R279). MAP_CTRL.ACT_NOW arms an activation at the next tick. -/
  | mapActNow (m : Master)
  /-- MAP_ACT_ARM (R279). MAP_CTRL.ACT_ARM arms an activation at the first tick at or after MAP_ACT. -/
  | mapActArm (m : Master)
  /-- MAP_ACT_CANCEL (R279). MAP_CTRL.ACT_CANCEL withdraws a pending activation and keeps the staged items. -/
  | mapActCancel (m : Master)
  /-- MAP_CLEAR (R277). MAP_CTRL.CLEAR discards every staged item. -/
  | mapClear (m : Master)
  /-- ACTUATION_ON (R284). An ON event fires: the commanded state becomes ON and any carrier starts. -/
  | actuationOn (n : OutId)
  /-- ACTUATION_OFF (R284). An OFF event fires: the commanded state becomes OFF and the output is driven off. -/
  | actuationOff (n : OutId)
  /-- ACTUATION_DUTY (R379). A DUTY event fires and updates the base duty under the immediate-update rules. -/
  | actuationDuty (n : OutId)
  /-- ACTUATION_PERIOD (R379). A PERIOD event fires and updates the carrier period. -/
  | actuationPeriod (n : OutId)
  /-- ACTUATION_PHASE (R380). A PHASE event fires and sets or moves the carrier phase offset. -/
  | actuationPhase (n : OutId)
  /-- ACTUATION_PULSE (R373). A PULSE event fires and drives the line steadily for its length. -/
  | actuationPulse (n : OutId)
  /-- PULSE_END (R373). A PULSE length runs out and the commanded state becomes OFF. -/
  | pulseEnd (n : OutId)
  /-- LATENCY_MEASUREMENT (R298). A dip or bump ends within the capture; the latency is measured, checked and smoothed into the learned value. -/
  | latencyMeasurement (n : OutId) (samples : List Nat)
  /-- CAPTURE_END (R297). The 250 ms capture window ends; a capture without a measurement is rejected. -/
  | captureEnd (n : OutId) (samples : List Nat)
  /-- OUT_ARM (R25). OUT_CTRLn.ARM arms a local output whose binding is complete. -/
  | outArm (m : Master) (n : OutId)
  /-- OUT_DISARM (R25). OUT_CTRLn.DISARM takes the output off at once and discards its queued events. -/
  | outDisarm (m : Master) (n : OutId)
  /-- LATE_CLR (R289). OUT_CTRLn.LATE_CLR sets OUT_LATE_MAXn to 0. -/
  | lateClr (m : Master) (n : OutId)
  /-- RELEARN (R299). OUT_LEARNn.RELEARN reloads both learned latencies from OUT_LATINITn. -/
  | relearn (m : Master) (n : OutId) (data : Word)
  /-- REM_ARM (R310). REM_CTRLd.ARM arms a remote descriptor whose binding is valid. -/
  | remArm (m : Master) (d : DescId)
  /-- REM_DISARM (R311). REM_CTRLd.DISARM disarms a descriptor and sends an at-once OFF to its node from the command slot. -/
  | remDisarm (m : Master) (d : DescId)
  /-- STATE_REPORT (R312). A STATE_REPORT from a node sets the descriptor's ON state and restarts its report timeout. -/
  | stateReport (p : PortId) (node chan : Byte) (on late : Bool) (seq : BitVec 4) (time : BitVec 24)
  /-- LATENCY_REPORT (R312). A LATENCY_REPORT updates the descriptor's learned latency. -/
  | latencyReport (p : PortId) (node chan : Byte) (on : Bool) (seq : BitVec 4) (lat : BitVec 16)
  /-- REMOTE_REPORT_TIMEOUT (R312). No report arrives within the timeout; the descriptor becomes STALE and a record is written. -/
  | remoteReportTimeout (d : DescId)
  /-- QFLUSH (R332). QCTRL.QFLUSH discards every word of a queue and poisons any item in progress. -/
  | qflush (m : Master) (q : QId)
  /-- HWM_CLR (R338). QCTRL.HWM_CLR sets the queue's high-water mark to the present occupancy. -/
  | hwmClr (m : Master) (q : QId)
  /-- HELD_ITEM_ENTRY (R329). A hardware producer's held item enters its queue once room exists for all of it. -/
  | heldItemEntry (q : QId)
  /-- CHANNEL_TRIP (R347). A channel's current stays at its applied limit for 3 µs; the channel trips, its try count rises and it pauses or latches. -/
  | channelTrip (n : OutId)
  /-- RETRY_PAUSE_END (R348). A retry pause ends; the channel turns on again if commanded ON, and the next pause doubles. -/
  | retryPauseEnd (n : OutId)
  /-- TRY_COUNT_RESET (R349). After 1 s of uninterrupted ON without a trip, the try count and pause length return to their starting values. -/
  | tryCountReset (n : OutId)
  /-- UNLATCH (R350). CH_CTRLn.UNLATCH clears the latch and the try count, and turns on a channel commanded ON. -/
  | unlatch (m : Master) (n : OutId)
  /-- INRUSH_WINDOW_END (R346). The inrush window elapses and the applied limit becomes PEAK. -/
  | inrushWindowEnd (n : OutId)
  /-- THERMAL_SHUTDOWN (R352). The junction reaches the steady-class limit or 175 °C and the channel turns off. -/
  | thermalShutdown (n : OutId) (hot : Bool)
  /-- THERMAL_RECOVERY (R351). The junction has cooled to 140 °C and the channel may turn on again. -/
  | thermalRecovery (n : OutId)
  /-- PULSE_DEFERRAL_END (R353). The junction-to-case difference falls to PULSE_DT − 20 K and a deferred pulse-class turn-on proceeds. -/
  | pulseDeferralEnd (n : OutId)
  /-- BUDGET_ADMISSION (R355). A turn-on deferred by the feed budget is admitted once the reserves allow it. -/
  | budgetAdmission (n : OutId)
  /-- REVERSAL_GAP_END (R343). The off gap of an H-bridge reversal ends and the new direction is driven. -/
  | reversalGapEnd (n : OutId)
  /-- SUPPLY_COMP_UPDATE (R359). Every 100 µs the supply compensation factor is recomputed and the applied duty is updated. -/
  | supplyCompUpdate (f : FeedId) (mv : BitVec 16) (meas : List ChanMeas)
  /-- COMPENSATION_FREEZE (R360). The feed falls faster than 1 V/ms and its compensation is frozen. -/
  | compensationFreeze (f : FeedId)
  /-- COMPENSATION_FREEZE_END (R360). No fast fall for 1 ms ends the freeze. -/
  | compensationFreezeEnd (f : FeedId)
  /-- CAP_SEL_WRITE (R367). A write to CAP_SEL makes the selected output's last completed capture the read copy. -/
  | capSelWrite (m : Master) (data : Word)
  /-- CARRIER_RELOAD (R371). The carrier counter reloads and starts a period, rising if CMP is above 0. -/
  | carrierReload (n : OutId)
  /-- CARRIER_FALL (R371). The carrier reaches CMP and falls, with the fine part placed by the delay line. -/
  | carrierFall (n : OutId)
  /-- DELAY_LINE_CALIBRATION (R382). Every 10 ms the idle delay line is calibrated and exchanged: the measured delay of its first tap and those of the taps after it, in units of 1/32 ps. -/
  | delayLineCalibration (n : OutId) (tap : Nat) (taps : List Nat)
  /-- POSE_RECORD_PUBLISH (R419). The pose engine publishes a pose record to Q97 and to mailboxes 5 to 8. -/
  | poseRecordPublish (i : PoseInput)
  /-- GNSS_COLD (R399). GNSS_CTRL.COLD discards the navigation data and restarts acquisition from a cold start. -/
  | gnssCold (m : Master) (key : BitVec 16) (data : Word)
  /-- TRK_MANUAL_WRITE (R394). A write of TRK_CFGk.MANUAL takes a channel from the manager or returns it. -/
  | trkManualWrite (m : Master) (k : Fin 200) (data : Word)
  /-- CORR_FEED_WRITE (R404). A write to CORR_FEED passes one byte to the correction parser's buffer. -/
  | corrFeedWrite (m : Master) (data : Word)
  /-- SNAP_CAPTURE (R422). SNAP_CTRL.CAPTURE starts a raw capture from the selected chains. -/
  | snapCapture (m : Master)
  /-- SNAP_SOLVE (R425). SNAP_CTRL.SOLVE starts a coarse position computation from the buffer. -/
  | snapSolve (m : Master)
  /-- TIME_SET (R448). TIME_CTRL.SET sets GTIME from TIME_SET, at once from NONE or at the next edge from UNSYNC. -/
  | timeSet (m : Master) (key : BitVec 16)
  /-- TICK_CFG_WRITE (R438). A write of TICK_CFG changes the tick period and regrids the ticks. -/
  | tickCfgWrite (m : Master) (data : Word)
  /-- FB_EDGE (R456). The filter accepts a change of an input line, which counts, times, checks and judges compares. -/
  | fbEdge (n : Fin 24) (both : Bool)
  /-- FB_STALE_TIMEOUT (R463). No counted edge for STALE makes the input stale with speed zero. -/
  | fbStaleTimeout (n : Fin 24)
  /-- FB_PERIODIC_RECORD (R469). Every REC ms an input delivers a periodic count and speed record. -/
  | fbPeriodicRecord (n : Fin 24)
  /-- FB_CLEAR_FAULT (R461). FB_CTRLn.CLEAR_FAULT ends a faulty state and restarts the 1 s window. -/
  | fbClearFault (m : Master) (n : Fin 24)
  /-- FB_COMPARE_WRITE (R471). A write to a compare's enable, value or step judges it at once and may fire it late. -/
  | fbCompareWrite (m : Master) (c : CmpReg) (n : Fin 24) (r : Fin 4) (data : Word)
  /-- FB_COUNT_WRITE (R472). A count load by FB_COUNTn judges every enabled compare. -/
  | fbCountWrite (m : Master) (n : Fin 24) (data : Word)
  /-- AI_CONVERSION (R475). Every 1 ms an analog input is converted, filtered and window-checked. -/
  | aiConversion (m : Fin 16) (raw : BitVec 12) (over25 : Bool)
  /-- SENSOR_SUPPLY_LEVEL_CHANGE (R478). A change of the SNS_PWR level switches the supply off for 10 ms before the new level. -/
  | sensorSupplyLevelChange (m : Master) (data : Word)
  /-- STREAM_ITEM_TAKEN (R311). A port takes the head item of its transmit stream queue and checks it before sending. -/
  | streamItemTaken (p : PortId)
  /-- FRAME_TRANSMIT_COMPLETE (R492). A frame completes on the bus; a stream item is popped once its last frame has completed. -/
  | frameTransmitComplete (p : PortId) (sof : Nat) (tdc : BitVec 8)
  /-- BUS_ERROR (R501). A bus error or lost arbitration updates the error counters and state, and the frame is retried. -/
  | busError (p : PortId) (kind : Fin 7) (tx eight : Bool)
  /-- FRAME_RECEIVED (R499). A received frame is examined and delivered to a stream filter or object, or discarded. -/
  | frameReceived (p : PortId) (f : CanFrame) (sof : Nat)
  /-- RECEIVE_CHECK_TIMEOUT (R500). A stream filter's or receive object's timeout expires and delivers a TIMEOUT item or flag. -/
  | receiveCheckTimeout (p : PortId) (i : Fin 160)
  /-- SEND_REQ (R497). OBJ_CTRL.SEND_REQ requests transmission of a send object. -/
  | sendReq (m : Master) (p : PortId) (o : Fin 128)
  /-- TX_ABORT (R497). OBJ_CTRL.TX_ABORT withdraws a pending send request unless its frame is already in arbitration. -/
  | txAbort (m : Master) (p : PortId) (o : Fin 128)
  /-- PORT_INIT_WRITE (R488). A write of PORT_CTRL.INIT moves the port into or out of the configuration state. -/
  | portInitWrite (m : Master) (p : PortId) (init : Bool)
  /-- RD_FIRST (R541). AGATE_CTRL.RD_FIRST selects the lowest-numbered record at or above MINSEV. -/
  | rdFirst (m : Master)
  /-- RD_NEXT (R541). AGATE_CTRL.RD_NEXT selects the next record above the selection point. -/
  | rdNext (m : Master)
  /-- RD_SEQ (R541). AGATE_CTRL.RD_SEQ selects the record with a given sequence number. -/
  | rdSeq (m : Master)
  /-- AGATE_CLEAR (R543). AGATE_CTRL.CLEAR empties the store between record writes and writes a store-cleared record. -/
  | agateClear (m : Master) (key : BitVec 16)
  /-- RESET_ENGINE (R552). RESET_CTRL.ENGINE starts an engine reset with a hold window. -/
  | resetEngine (m : Master) (key : BitVec 16)
  /-- RESET_WARM (R552). RESET_CTRL.WARM starts a warm reset with a hold window. -/
  | resetWarm (m : Master) (key : BitVec 16)
  /-- CLOCK_MONITOR_FAULT (R552). The ENG or SYS clock is out of ±2 % for 10 µs and an engine or warm reset follows. -/
  | clockMonitorFault (sys : Bool)
  /-- CFG_STAGE_OPEN (R568). CFG_CTRL.STAGE_OPEN opens a staged copy of the configuration image. -/
  | cfgStageOpen (m : Master) (byGtime : Bool)
  /-- CFG_STAGED_WRITE (R568). A write to an image field while staging is open goes to the staged image. -/
  | cfgStagedWrite (m : Master) (addr : BitVec 24) (data : Word)
  /-- CFG_CHECK (R569). CFG_CTRL.CHECK starts checking the staged image. -/
  | cfgCheck (m : Master) (byGtime : Bool)
  /-- CFG_ACT_ARM (R570). CFG_CTRL.ACT_ARM arms activation at an MTIME or GTIME tick. -/
  | cfgActArm (m : Master) (byGtime : Bool)
  /-- CFG_ACT_NOW (R570). CFG_CTRL.ACT_NOW activates at the next tick when nothing is armed. -/
  | cfgActNow (m : Master) (byGtime : Bool)
  /-- CFG_DISCARD (R570). CFG_CTRL.DISCARD drops the staged image or withdraws an armed activation. -/
  | cfgDiscard (m : Master) (byGtime : Bool)
  /-- FACTORY (R584). STARTUP_CTRL.FACTORY returns the image to factory state through a warm reset. -/
  | factory (m : Master) (key : BitVec 16)
  /-- STANDBY_ENTER (R586). STBY_CTRL.ENTER takes the outputs off, flushes state, puts ports to sleep and powers the logic down. -/
  | standbyEnter (m : Master) (key : BitVec 16)
  /-- GAFFER_RD (R597). The rd command reads one word. -/
  | gafferRd (a : BitVec 24)
  /-- GAFFER_RD_BURST (R597). The rd command with a count burst-reads words and ends with a CRC. -/
  | gafferRdBurst (a : BitVec 24) (n : Fin 255)
  /-- GAFFER_WR (R597). The wr command writes one register. -/
  | gafferWr (a : BitVec 24) (data : Word)
  /-- GAFFER_KEY (R597). The key command performs a keyed write. -/
  | gafferKey (key : BitVec 16) (a : BitVec 24) (data : Word)
  /-- GAFFER_OWN_CLAIM (R597). The own claim command makes a keyed claim. -/
  | gafferOwnClaim (key : BitVec 16)
  /-- GAFFER_OWN_SEIZE (R597). The own seize command makes a keyed seizure. -/
  | gafferOwnSeize (key : BitVec 16)
  /-- GAFFER_OWN_RELEASE (R597). The own release command makes a keyed release of the punty. -/
  | gafferOwnRelease (key : BitVec 16)
  /-- GAFFER_LOG_CLEAR (R597). The log clear command makes a keyed write of AGATE_CTRL.CLEAR. -/
  | gafferLogClear (key : BitVec 16)
  /-- ILLEGAL_INSTRUCTION (R199). A word with a reserved opcode, reserved function code or non-zero zero field becomes the gather's next instruction and faults as ILLEGAL. -/
  | illegalInstruction (g : GatherId) (w : Word)
  /-- FETCH_RANGE_FAULT (R167). A fetch from a word index above 0x3_FFFF or outside the gather's bound region faults with RANGE. -/
  | fetchRangeFault (g : GatherId)
  /-- RAW_LINE_CHANGE (R476). A raw change of an FB input line starts its glitch filter and is repeated within 100 ns on a PT pin set to source 2. -/
  | rawLineChange (n : Fin 24) (level : Bool)
  /-- PT_COMPARE_PULSE_END (R476). A compare pulse on a PT pin ends WIDTH × 0.1 ms after its firing. -/
  | ptComparePulseEnd (p : Fin 8)
  /-- SYNTHESISED_SPEED_PERIOD (R477). A period of the synthesised speed square wave on a PT pin starts, and a new frequency takes effect there. -/
  | synthesisedSpeedPeriod (p : Fin 8)
  /-- DROPOUT_END (R53). ECU_PWR recovers before supply loss is declared; DROPOUT is set, the count is incremented and a record is written. -/
  | dropoutEnd (dur : Word) (mv : BitVec 16)
  /-- ECU_BAND_ENTRY (R51). ECU_PWR enters the low band or the high band, which sets ECU_LOW or ECU_HIGH and writes a severity 3 record. -/
  | ecuBandEntry (high : Bool)
  /-- ANTENNA_FOLD_BACK (R74). A shorted antenna port folds back its bias, sets its flag and writes a record on its first fold-back. -/
  | antennaFoldBack (a : Fin 2)
  /-- ANTENNA_BIAS_RETRY (R74). Every 1 s the full antenna bias is retried until the short clears. -/
  | antennaBiasRetry (a : Fin 2) (shorted : Bool)
  /-- SENSOR_SUPPLY_FOLD_BACK (R75). SNS5 or SNS_PWR folds back on a short, which sets its fault flag and writes a severity 3 record. -/
  | sensorSupplyFoldBack (x : SensorFold)
  /-- KEYED_ADDR (R521). A KEYED_ADDR frame opens the first half of a bus keyed write. -/
  | keyedAddr (p : PortId) (src : Byte) (w : BitVec 22) (tag : Fin 4) (key : BitVec 16)
  /-- KEYED_DATA (R521). A KEYED_DATA frame that matches the holder's KEYED_ADDR completes a keyed write under R94; an unmatched one is answered KEY. -/
  | keyedData (p : PortId) (src : Byte) (w : BitVec 22) (tag : Fin 4) (data : Word)
  /-- TILE_WRITEBACK (R266). A dirty tile is written back no later than 2 s after its first change, with an ordered directory update. -/
  | tileWriteback (i : Fin 262144)
  /-- LP_SHORT (R344). A logic drive line held at its current limit for 100 µs sets LP_SHORT and writes a record. -/
  | lpShort (n : OutId)
  /-- MEASUREMENT_EPOCH (R400). At each 10 ms epoch the receiver takes measurements and delivers them to the pose engine and to Q98. -/
  | measurementEpoch (i : EpochInput)
  /-- CHAIN_FAILURE (R391). An RF chain fails by gain limit or silence, which releases its channels and enters the cullet state. -/
  | chainFailure (c : Fin 4)
  /-- ANT_OPEN (R392). An antenna bias current below 2 mA for 1 s sets ANT_OPEN, and 1 s at 2 mA or more clears it. -/
  | antOpen (a : Fin 2) (isOpen : Bool)
  /-- RTCM_FRAME (R404). A whole RTCM 3 frame reaches the correction parser and is checked and used or ignored. -/
  | rtcmFrame (src : Fin 8) (b : Byte) (bs : List Byte)
  /-- SNAP_CAPTURE_DONE (R423). A capture completes and the buffer holds its header and blocks. -/
  | snapCaptureDone (data : List Byte) (temp : BitVec 16)
  /-- SNAP_SOLVE_DONE (R425). SOLVE ends within 3 s and sets RESULT and the position. -/
  | snapSolveDone (found : Option (Int × Int × Int × Nat))
  /-- TIME_MSG_WITHDRAW (R444). A time message that has not completed 10 ms before its edge is withdrawn and counted. -/
  | timeMsgWithdraw (p : PortId)
  /-- HOLDOVER_LIMIT_EXCEEDED (R448). The holdover uncertainty exceeds LIMIT and the state becomes UNSYNC. -/
  | holdoverLimitExceeded (t : Nat)
  /-- SSI_FRAME (R474). An SSI frame is read whole; a good frame sets the count and a bad one is counted. -/
  | ssiFrame (n : Fin 24) (bits : Word) (parity startHigh endLow : Bool)
  /-- SSI_STALE_TIMEOUT (R474). No good SSI frame for STALE makes the input stale and writes a record. -/
  | ssiStaleTimeout (n : Fin 24)
  /-- AI_BURDEN_RECLOSE (R475). After the current has stayed below 20 mA for 100 ms, the burden reconnects and BURDEN_OPEN clears. -/
  | aiBurdenReclose (m : Fin 16)
  /-- PT_SHORT (R478). A PT pin held at its current limit for 100 µs sets SHORT and writes a record. -/
  | ptShort (p : Fin 8)
  /-- BUSOFF_RECOVERY_COMPLETE (R505). 128 recessive sequences have been counted and the port is error-active again. -/
  | busoffRecoveryComplete (p : PortId)
  /-- BUSOFF_REC (R505). PORT_CTRL.BUSOFF_REC starts bus-off recovery. -/
  | busoffRec (m : Master) (p : PortId) (init : Bool)
  /-- PORT_SLEEP (R506). PORT_CTRL.SLEEP requests sleep at the next bus idle. -/
  | portSleep (m : Master) (p : PortId) (init : Bool)
  /-- PORT_SLEEP_ENTRY (R506). The port enters sleep at bus idle after the frame in progress. -/
  | portSleepEntry (p : PortId)
  /-- PORT_WAKE_CONDITION (R507). The wake pattern or wake frame is seen and the port returns to its state, with WAKE_SEEN set. -/
  | portWakeCondition (p : PortId) (c : WakeCond)
  /-- PORT_WAKE (R507). PORT_CTRL.WAKE ends sleep. -/
  | portWake (m : Master) (p : PortId) (init : Bool)
  /-- ADDRESS_CLAIM_RECEIVED (R511). An address claim from another node is answered by a reclaim, or causes the address to be lost. -/
  | addressClaimReceived (p : PortId) (a : Byte) (name : BitVec 64)
  /-- REQUEST_FOR_ADDRESS_CLAIM (R511). A request for the address claim is answered within 100 ms. -/
  | requestForAddressClaim (p : PortId) (src : Byte)
  /-- ADDRESS_CLAIM_TIMEOUT (R511). 250 ms pass after the claim without a higher-priority contest and the address is claimed. -/
  | addressClaimTimeout (p : PortId)
  /-- TP_RTS_RECEIVED (R513). An RTS opens a TP or ETP receive session, or is aborted when 8 are open. -/
  | tpRtsReceived (p : PortId) (src : Byte) (etp : Bool) (total : Word) (most : Byte) (pgn : BitVec 24)
  /-- TP_BAM_RECEIVED (R513). A BAM announcement opens a broadcast receive session. -/
  | tpBamReceived (p : PortId) (src : Byte) (total : BitVec 16) (pgn : BitVec 24)
  /-- TP_DATA_RECEIVED (R514). A transport data packet is taken; at the last packet the message is committed to the receive queue. -/
  | tpDataReceived (p : PortId) (src seq : Byte) (bam etp : Bool) (d : BitVec 56)
  /-- TP_CTS_RECEIVED (R515). A CTS lets the transport assist send the next packets of an outgoing message. -/
  | tpCtsReceived (p : PortId) (src : Byte) (etp : Bool) (n : Byte) (next pgn : BitVec 24)
  /-- TP_ABORT_RECEIVED (R515). A connection abort ends a transport session and delivers an ABORT item. -/
  | tpAbortReceived (p : PortId) (src : Byte) (etp : Bool) (reason : Byte) (pgn : BitVec 24)
  /-- TP_TIMEOUT (R515). A transport session times out and is aborted. -/
  | tpTimeout (p : PortId) (rx : Option (Nat × Bool × Bool))
  /-- BAM_PACKET_SEND (R513). A sent BAM packet is spaced 50 ms after the previous one. -/
  | bamPacketSend (p : PortId)
  /-- DM1_PERIOD (R516). Every 1 s the ISO port sends DM1. -/
  | dm1Period (p : PortId)
  /-- DM2_REQUEST (R516). A request for DM2 is answered with the previously active code. -/
  | dm2Request (p : PortId) (src : Byte)
  /-- DM3_RECEIVED (R516). A DM3 is acknowledged without ending the cullet state. -/
  | dm3Received (p : PortId) (src : Byte)
  /-- MEMORY_SCRUB (R545). Every 100 ms the ENG-domain memories are scrubbed and single-bit errors are corrected. -/
  | memoryScrub (found : Fin 256)
  /-- TMR_MISMATCH (R551). A triple-redundant copy disagrees; it is voted and corrected, or a cold reset follows. -/
  | tmrMismatch (fatal : Bool)
  /-- FLEET_DIGEST_FRAME (R573). A configuration digest frame from a peer is collected and, once the round is complete, compared. -/
  | fleetDigestFrame (p : PortId) (src : Byte) (part : BitVec 3) (round : BitVec 5) (d : BitVec 48)
  /-- FLEET_PEER_TIMEOUT (R573). 3 s without a complete round from a peer sets PEER_LOST. -/
  | fleetPeerTimeout (k : Fin 16)
  /-- STANDBY_WAKE (R587). An enabled wake source in standby starts a cold start or bench-alive, or is latched. -/
  | standbyWake (w : WakeCause)
  /-- SNAPSHOT_WAKE (R589). Every SNAP_INT minutes in standby, a capture and solve run on reduced power. -/
  | snapshotWake (unc : Word) (gtime : BitVec 64) (found : Option (Int × Int × Int × Nat)) (meet : Option WakeCause)
  /-- USB_DTR_CHANGE (R594). The host asserts or releases DTR, which opens or closes the USB command interface. -/
  | usbDtrChange (isOpen : Bool)
  /-- GAFFER_LOG (R599). The log command prints the newest records of a severity through its own reader. -/
  | gafferLog (sev : Fin 8) (n : Fin 65536)
  /-- GAFFER_METER_CHECK (R601). The meter command with a check starts that meter check. -/
  | gafferMeterCheck (k : Fin 10) (target : Fin 128)
  /-- SVC_METER_WRITE (R601). A write of SVC_METER starts or ends a meter check. -/
  | svcMeterWrite (m : Master) (data : Word)
  /-- GAFFER_SELFTEST (R604). The selftest command runs an on-demand self-test of a unit. -/
  | gafferSelftest (unit : Fin 9) (port : PortId)
  /-- SVC_TEST_GO (R604). SVC_TEST.GO runs the selected self-test unit. -/
  | svcTestGo (m : Master) (unit : Fin 16) (port : Fin 8)
  /-- GAFFER_SNAP_CAP (R605). The snap cap command configures a capture, runs it and replies when it ends. -/
  | gafferSnapCap (len chains : Fin 16)
  /-- JASPER_ENABLE_WRITE (R606). A keyed enabling write of a Jasper field activates a perturbation and writes a record. -/
  | jasperEnableWrite (m : Master) (key : BitVec 16) (r : JasReg) (data : Word)
  /-- JAS_REFRESH (R608). JAS_CTRL.REFRESH restarts the 60 s expiry. -/
  | jasRefresh (m : Master) (key : BitVec 16) (okBit : Bool) (armKey : BitVec 16)
  /-- JAS_OFF (R608). JAS_CTRL.OFF ends every perturbation. -/
  | jasOff (m : Master) (key : BitVec 16) (okBit : Bool) (armKey : BitVec 16)
  /-- ECC_INJECT (R609). JAS_ECC_CTRL.INJECT inverts one or two bits of the chosen stored word. -/
  | eccInject (m : Master) (key : BitVec 16) (double : Bool)
  /-- BUS_ONESHOT (R609). JAS_BUSp.ONESHOT forces one dominant bit into the next frame sent. -/
  | busOneshot (m : Master) (key : BitVec 16) (p : PortId) (bit every : Byte)
  /-- INERTIAL_SAMPLE (R412). A 1 kHz inertial sample arrives, or is missing, and may set SAT or MISS, count IMU_MISS_CNT and start or end the exclusion of inertial data. -/
  | inertialSample (missing : Bool) (rate : Int × Int × Int) (acc : ImuAcc)
  /-- KEEP_ABSENT_CHANGE (R55). BATT_KEEP crosses 6 V while the logic is powered, which sets or clears SUPPLY_STAT.KEEP_ABSENT. -/
  | keepAbsentChange (absent : Bool)
  /-- ECU_BAND_EXIT (R51). ECU_PWR returns into 9 to 36 V, which clears ECU_LOW or ECU_HIGH. -/
  | ecuBandExit (high : Bool)
  /-- AI_STALE_TIMEOUT (R475). No conversion for 10 ms makes an analog input stale, with its last value held. -/
  | aiStaleTimeout (m : Fin 16)
  /-- OPERATING_TIME_STORE (R560). The operating time OPT is written to nonvolatile memory, and a failed write sets cullet cause OPT_STORE. -/
  | operatingTimeStore (ok : Bool)
  /-- SELFTEST_ON_DEMAND_DONE (R604). An on-demand self-test ends, which updates SELFTEST_RES and SVC_TEST.RESULT and gives the final reply. -/
  | selftestOnDemandDone (t : DemandTest)
  /-- METER_MEASUREMENT (R603). Every 100 ms during a meter check, the Askat measures the probed pin, updates SVC_METER_VAL and disconnects the source when the pin reads above 6.0 V. -/
  | meterMeasurement (mv : BitVec 16)
  /-- GAFFER_LINE_REFUSED (R596). A Gaffer command line that is unknown, too long, does not fit the buffer, or arrives on the UART while USB is open is answered ! SYNTAX, ! LONG, ! OVF or ! USB. -/
  | gafferLineRefused (f : LineFault)
  /-- TP_END_OF_MESSAGE_ACK (R513). The end-of-message connection frame that ends an outgoing TP or ETP session is received, which ends the session and releases the stream. -/
  | tpEndOfMessageAck (p : PortId) (src : Byte) (etp : Bool) (total : Word) (pgn : BitVec 24)
  /-- ECU_PWR_QUALIFIED (R52). ECU_PWR has stayed at 8.6 V or more for 10 ms, which starts a cold start from ECU_PWR or a wake from standby. -/
  | ecuPwrQualified
  /-- SVC_VBUS_COLD_START (R59). SVC_VBUS reaches 4.5 V with ECU_PWR absent, which starts a cold start into bench-alive. -/
  | svcVbusColdStart
  /-- BENCH_TO_NORMAL (R59). In bench-alive, ECU_PWR has stayed at 8.6 V or more for 100 ms, which causes a warm reset into normal start-up while MTIME continues. -/
  | benchToNormal
  /-- SVC_VBUS_LOSS (R59). In bench-alive, SVC_VBUS has stayed below 4.3 V for 10 ms; writes already begun complete and the Askat stops. -/
  | svcVbusLoss
  /-- POWER_ON_RESET_END (R575). The 20 ms power-on reset ends; MTIME is zero, PCC is incremented and stored, and self-test begins. -/
  | powerOnResetEnd
  /-- ELECTION_WINDOW_END (R126). The 1 s election window expires; the pending claimant in the earliest slot wins, or there is no owner and stored programs may autostart. -/
  | electionWindowEnd
  /-- WAKE_IN_RISE (R56). A rising WAKE_IN level that stays high for 5 ms wakes the Askat from standby. -/
  | wakeInRise
  /-- GROUND_LOSS (R68). The ground offset has exceeded 1.5 V for 100 µs; every half-bridge and high-side channel is taken off and a severity 4 record is written. -/
  | groundLoss
  /-- GROUND_LOSS_END (R68). The ground offset has stayed below 1.0 V for 10 ms and the channels return in staggered order. -/
  | groundLossEnd
  /-- BASE_HOT_ENTRY (R77). The baseplate rises above 85 °C, which sets BASE_HOT and writes a severity 3 record. -/
  | baseHotEntry
  /-- OEM_KEY_COMMIT_DONE (R96). The hash commit completes within 5 ms, which sets LOCKED and clears BUSY. -/
  | oemKeyCommitDone
  /-- KEYED_ADDR_TIMEOUT (R521). A KEYED_ADDR that is not completed within 100 ms is answered KEY. -/
  | keyedAddrTimeout
  /-- BUS_SESSION_TIMEOUT (R121). The bus session ends after 5 s without a register-access frame from its holder, unless R122 holds it. -/
  | busSessionTimeout
  /-- HEARTBEAT_TIMEOUT (R126). The heartbeat expires; ownership ends with LAPSED set, or during a handover the lapse is noted. -/
  | heartbeatTimeout
  /-- HANDOVER_TIMEOUT (R126). A pending handover is not accepted within 2 s and returns to the old owner or to none, with HANDOVER_CANCEL set. -/
  | handoverTimeout
  /-- TICK (R437). The planning tick falls at a whole multiple of the tick period, and the pose engine starts extrapolating the snapshot. -/
  | tick
  /-- SNAPSHOT_COMPLETE (R28). The tick snapshot is complete; every gather in WAIT_TICK is woken and turn compensation and synthesised speed are recomputed. -/
  | snapshotComplete
  /-- LOAD_VERIFY_DONE (R238). VERIFY ends by setting RESULT, which marks the pages VERIFIED or returns them to FREE, and writing a record. -/
  | loadVerifyDone
  /-- MAP_CHECK_DONE (R278). The map CHECK ends within 2.5 s and sets RESULT, ENTRY and the item CRCs. -/
  | mapCheckDone
  /-- MAP_ACTIVATION (R280). At its tick, before the snapshot is latched, every staged map item becomes active and the superseded copies are retained. -/
  | mapActivation
  /-- EVENT_PLACEMENT (R286). The distributor takes an event from Q84 and places it in its output's queue, judging it late or out of order, or discards it. -/
  | eventPlacement
  /-- HOLD (R292). A HOLD event at placement withdraws the matching pending events of its output. -/
  | holdPlaced
  /-- LATENCY_STORE (R299). Learned latencies are stored in nonvolatile memory at most 60 s after each change. -/
  | latencyStore
  /-- LATENCY_TABLE_REFRESH (R173). Every 1 ms the RDLAT table is refreshed from the learned values and transit delays. -/
  | latencyTableRefresh
  /-- MARKER_SWEEP (R303). Every 10 ms the marker marks the applied intervals of every local output into Onyx. -/
  | markerSweep
  /-- NAV_DATA_STORE (R399). Almanacs, ephemerides and the last position are stored at each change and at least every 10 minutes. -/
  | navDataStore
  /-- CORRECTION_STALE (R408). The correction age exceeds its limit; STALE is set and RTK is lost. -/
  | correctionStale
  /-- PPS_PREPARE (R442). 500 ms before each edge, mailbox 3 is updated and time messages are placed in the time slots. -/
  | ppsPrepare
  /-- PPS_EDGE (R439). PPS_OUT rises for a whole second of GTIME; a pending step takes effect at this edge. -/
  | ppsEdge
  /-- PPS_FALL (R439). PPS_OUT falls WIDTH after it rose. -/
  | ppsFall
  /-- SLEW_COMPLETE (R446). A slew brings the remaining error within 50 ns and the state becomes LOCKED. -/
  | slewComplete
  /-- HOLDOVER_ENTRY (R448). 1 s without a time solution in LOCKED moves the time state to HOLDOVER. -/
  | holdoverEntry
  /-- TM_REFERENCE_PERIOD (R449). Every TM_CFG.PERIOD, a reference message and its follow-up are placed in the time slot. -/
  | tmReferencePeriod
  /-- RECORDER_EVENT_ACCEPT (R536). The collector accepts a waiting event into Q103, or coalesces or drops it. -/
  | recorderEventAccept
  /-- RECORD_WRITE (R532). The Agate pops an entry, takes the next sequence number, chooses a slot and writes the record. -/
  | recordWrite
  /-- SUPERVISOR_RESTART (R553). A lockstep mismatch restarts the supervisor for 5 ms, keeping every register. -/
  | supervisorRestart
  /-- SUPERVISOR_WATCHDOG_TIMEOUT (R552). The supervisor watchdog is not refreshed for 100 ms and a warm reset follows. -/
  | supervisorWatchdogTimeout
  /-- ISSUE_MONITOR_TIMEOUT (R552). No eligible gather has issued for 1 ms and an engine reset follows. -/
  | issueMonitorTimeout
  /-- ENGINE_RESET_END (R555). The engine reset ends and the previously running gathers are restarted. -/
  | engineResetEnd
  /-- WARM_RESET_RELEASE (R592). 1,150 ms after the cause, the gathers are released for restart. -/
  | warmResetRelease
  /-- RESET_HOLD_WINDOW_END (R558). The reset hold window ends; outputs without a running gather take their posture and descriptors are disarmed. -/
  | resetHoldWindowEnd
  /-- CFG_CHECK_DONE (R569). The CHECK ends within 20 ms and sets RESULT and the staged digest. -/
  | cfgCheckDone
  /-- CFG_ACTIVATION (R571). At its tick the staged image becomes active whole and the affected gathers restart. -/
  | cfgActivation
  /-- IMAGE_STORE (R567). The active image is stored in nonvolatile memory as one unit within 100 ms after each change. -/
  | imageStore
  /-- FLEET_ROUND_SEND (R572). Every 1 s a round of seven configuration digest frames is sent. -/
  | fleetRoundSend
  /-- KEEP_LOSS_IN_STANDBY (R588). BATT_KEEP falls below 6 V during a standby entered with ECU_PWR present, and a cold start follows. -/
  | keepLossInStandby
  /-- GAFFER_ID (R597). The id command reports identity, OPT, PCC, phase, cullet state and owner. -/
  | gafferId
  /-- GAFFER_OWN (R597). The own command reads OWN_STAT. -/
  | gafferOwn
  /-- GAFFER_OWN_ACCEPT (R597). The own accept command writes OWN_ACCEPT. -/
  | gafferOwnAccept
  /-- GAFFER_OWN_HB (R597). The own hb command refreshes the heartbeat. -/
  | gafferOwnHb
  /-- GAFFER_OWN_AUTO_ON (R598). The own auto on command starts automatic heartbeat refresh. -/
  | gafferOwnAutoOn
  /-- GAFFER_OWN_AUTO_OFF (R598). The own auto off command stops automatic heartbeat refresh. -/
  | gafferOwnAutoOff
  /-- AUTO_HEARTBEAT (R598). Every 1 s with auto on, the Gaffer port refreshes the heartbeat. -/
  | autoHeartbeat
  /-- GAFFER_METER_READ (R597). The meter command alone repeats the running check's reading. -/
  | gafferMeterRead
  /-- GAFFER_METER_OFF (R602). The meter off command ends the check and restores its settings. -/
  | gafferMeterOff
  /-- METER_CHECK_TIMEOUT (R602). A meter check ends 10 minutes after it started. -/
  | meterCheckTimeout
  /-- GAFFER_SNAP_SOLVE (R605). The snap solve command runs SOLVE and replies with RESULT. -/
  | gafferSnapSolve
  /-- GAFFER_SNAP_READ (R605). The snap read command prints the snapshot buffer with a CRC. -/
  | gafferSnapRead
  /-- GAFFER_JAS (R597). The jas command lists the active perturbations and their time left. -/
  | gafferJas
  /-- GAFFER_JAS_REFRESH (R597). The jas refresh command writes JAS_CTRL.REFRESH. -/
  | gafferJasRefresh
  /-- GAFFER_JAS_OFF (R597). The jas off command writes JAS_CTRL.OFF. -/
  | gafferJasOff
  /-- JASPER_EXPIRY (R608). 60 s after the last enabling write or REFRESH every Jasper field returns to zero. -/
  | jasperExpiry
  /-- BASE_HOT_EXIT (R77). The baseplate falls to 85 °C or below, which clears BASE_HOT. -/
  | baseHotExit
  /-- UTC_OFFSET_CHANGE (R435). An announced change of the UTC offset takes effect when GTIME reaches the announced moment. -/
  | utcOffsetChange
  /-- SENSOR_SUPPLY_RESTORE (R478). The 10 ms off time after a change of the SNS_PWR level ends and the supply returns at its new level. -/
  | sensorSupplyRestore
  /-- SUPERVISOR_RESTART_END (R553). The 5 ms supervisor restart ends and the paused ownership and session timeouts resume. -/
  | supervisorRestartEnd
deriving DecidableEq, Repr

end Sys2Proof
end

