-- ==== Sys2Proof/Decode.lean ====
section
/-! DEFINITION. The decoder of the opcode table: the table gives the bits of no row, so no word spells a command. -/
namespace Sys2Proof

/-- The command that the low nbits bits of w spell by spec/opcode_table.json: every row's list of fields is empty,
and its instructions of gathers reach the model as commands with their operands, so the answer is none. -/
def decodeTableWord (nbits w : Nat) : Option Instr :=
  match nbits, w with
  | _, _ => none

end Sys2Proof
end

