-- ==== Sys2Proof/Config.lean ====
section
/-! DEFINITION. What the spec leaves open, as constants with no body: nothing can evaluate them,
so a statement that holds of the model holds whatever they are. Each is named in the assumption log. -/
namespace Sys2Proof.Config

/-- A free value, fresh for every count it is applied to (DESIGN CHOICE, log entry 5). -/
opaque free : Nat → Nat

/-- The event code that a block of the Askat gives an event of its own: the spec gives the codes
of class 16 only (DESIGN CHOICE, log entry 6). -/
opaque eventCode : Nat → BitVec 16

/-- Byte i of the DATA of a block's event, from the values that the spec says it holds: the spec
gives the layout for the Agate's own records and for LOG only (DESIGN CHOICE, log entry 6). -/
opaque eventByte : Nat → List Int → Nat → Byte

/-- The serial number that the `id` command prints: no rule gives it a value (DESIGN CHOICE, log entry 7). -/
opaque serial : Word

/-- Whether a result that the spec states without its rounding is rounded up, from the exact
fraction's numerator and denominator (DESIGN CHOICE, log entry 8). -/
opaque roundUp : Nat → Nat → Bool

/-- Point i of a capture that ended early, by output and start: no command hands these samples
over (DESIGN CHOICE, log entry 8). -/
opaque capSample : Nat → Nat → Nat → Nat

/-- The sensor supply that the installation powers an input from: 1 SNS5, 2 SNS_PWR, any other number neither. FB inputs
are 0 to 23, analog inputs 24 to 39. The wiring is no part of the spec (DESIGN CHOICE, log entry 114). -/
opaque inputSupply : Nat → Nat

/-- The bit or secondary-code period of a signal in ms, by its code: R396 names it and gives no number
(DESIGN CHOICE, log entry 22). -/
opaque signalPeriod : Nat → Nat

end Sys2Proof.Config
end

