-- ==== Sys2Proof/Machine/RegMap.lean ====
section
/-! DEFINITION. The register map of the Askat: every register family of the spec with its
address, its domain and its fields (bits, type, reset value, stored or not, value range).
Each row is taken from the register table of the spec file named beside it. -/
namespace Sys2Proof.Machine

/-- SUPPLY_STAT, 02_connectors_power.md. -/
def Reg.SUPPLY_STAT : RegFam :=
  ⟨0x1040, [], .sys, [
    ⟨23, 16, .cnt, 0, false, false, false, []⟩,
    ⟨9, 9, .ro, 0, false, false, false, []⟩,
    ⟨8, 8, .w1c, 0, false, false, false, []⟩,
    ⟨7, 7, .w1c, 0, false, false, false, []⟩,
    ⟨6, 6, .w1c, 0, false, false, false, []⟩,
    ⟨5, 5, .w1c, 0, false, false, false, []⟩,
    ⟨4, 4, .ro, 0, false, false, false, []⟩,
    ⟨3, 3, .ro, 0, false, false, false, []⟩,
    ⟨2, 2, .w1c, 0, false, false, false, []⟩,
    ⟨1, 1, .ro, 0, false, false, false, []⟩,
    ⟨0, 0, .ro, 0, false, false, false, []⟩]⟩
/-- The address of SUPPLY_STAT. -/
abbrev A.SUPPLY_STAT : Nat := 0x1040

/-- SUPPLY_VOLT, 02_connectors_power.md. -/
def Reg.SUPPLY_VOLT : RegFam :=
  ⟨0x1044, [], .sys, [
    ⟨31, 16, .ro, 0, false, false, false, []⟩,
    ⟨15, 0, .ro, 0, false, false, false, []⟩]⟩
/-- The address of SUPPLY_VOLT. -/
abbrev A.SUPPLY_VOLT : Nat := 0x1044

/-- BASE_TEMP, 02_connectors_power.md. -/
def Reg.BASE_TEMP : RegFam :=
  ⟨0x1048, [], .sys, [
    ⟨15, 0, .ro, 0, false, false, false, []⟩]⟩
/-- The address of BASE_TEMP. -/
abbrev A.BASE_TEMP : Nat := 0x1048

/-- KEY_UNLOCK, 03_register_interface.md. -/
def Reg.KEY_UNLOCK : RegFam :=
  ⟨0x10, [], .sys, [
    ⟨15, 0, .w1s, 0, false, false, false, []⟩]⟩
/-- The address of KEY_UNLOCK. -/
abbrev A.KEY_UNLOCK : Nat := 0x10

/-- KEY_STAT, 03_register_interface.md. -/
def Reg.KEY_STAT : RegFam :=
  ⟨0x14, [], .sys, [
    ⟨2, 2, .ro, 0, false, false, false, []⟩,
    ⟨1, 1, .ro, 0, false, false, false, []⟩,
    ⟨0, 0, .ro, 0, false, false, false, []⟩]⟩
/-- The address of KEY_STAT. -/
abbrev A.KEY_STAT : Nat := 0x14

/-- OEM_KEY_HASH, 03_register_interface.md. -/
def Reg.OEM_KEY_HASH : RegFam :=
  ⟨0x40, [(4, 8)], .sys, [
    ⟨31, 0, .won, 0, true, false, false, []⟩]⟩
/-- The address of OEM_KEY_HASH. -/
abbrev A.OEM_KEY_HASH (i : Nat) : Nat := 0x40 + 4 * i

/-- OEM_KEY_CTRL, 03_register_interface.md. -/
def Reg.OEM_KEY_CTRL : RegFam :=
  ⟨0x60, [], .sys, [
    ⟨9, 9, .ro, 0, false, false, false, []⟩,
    ⟨8, 8, .ro, 0, true, false, false, []⟩,
    ⟨0, 0, .w1s, 0, false, true, false, []⟩]⟩
/-- The address of OEM_KEY_CTRL. -/
abbrev A.OEM_KEY_CTRL : Nat := 0x60

/-- ACC_ERR_LAST, 03_register_interface.md. -/
def Reg.ACC_ERR_LAST : RegFam :=
  ⟨0x100, [(8, 3)], .sys, [
    ⟨28, 28, .ro, 0, false, false, false, []⟩,
    ⟨27, 24, .ro, 0, false, false, false, []⟩,
    ⟨23, 0, .ro, 0, false, false, false, []⟩]⟩
/-- The address of ACC_ERR_LAST. -/
abbrev A.ACC_ERR_LAST (i : Nat) : Nat := 0x100 + 8 * i

/-- ACC_ERR_CNT, 03_register_interface.md. -/
def Reg.ACC_ERR_CNT : RegFam :=
  ⟨0x104, [(8, 3)], .sys, [
    ⟨31, 0, .cnt, 0, false, false, false, []⟩]⟩
/-- The address of ACC_ERR_CNT. -/
abbrev A.ACC_ERR_CNT (i : Nat) : Nat := 0x104 + 8 * i

/-- MBX_CTRL, 03_register_interface.md. -/
def Reg.MBX_CTRL : RegFam :=
  ⟨0x400, [(0x20, 14)], .sys, [
    ⟨15, 8, .ro, 0, false, false, false, []⟩,
    ⟨2, 2, .ro, 0, false, false, false, []⟩,
    ⟨1, 1, .ro, 0, false, false, false, []⟩,
    ⟨0, 0, .w1s, 0, false, false, false, []⟩]⟩
/-- The address of MBX_CTRL. -/
abbrev A.MBX_CTRL (i : Nat) : Nat := 0x400 + 0x20 * i

/-- MBX_DATA, 03_register_interface.md. -/
def Reg.MBX_DATA : RegFam :=
  ⟨0x410, [(0x20, 14), (4, 4)], .sys, [
    ⟨31, 0, .mbx, 0, false, false, false, []⟩]⟩
/-- The address of MBX_DATA. -/
abbrev A.MBX_DATA (i : Nat) (j : Nat) : Nat := 0x410 + 0x20 * i + 4 * j

/-- BUS_SESSION, 03_register_interface.md. -/
def Reg.BUS_SESSION : RegFam :=
  ⟨0x3c, [], .sys, [
    ⟨24, 24, .w1s, 0, false, false, false, []⟩,
    ⟨17, 17, .ro, 0, false, false, false, []⟩,
    ⟨16, 16, .ro, 0, false, false, false, []⟩,
    ⟨10, 8, .ro, 0, false, false, false, []⟩,
    ⟨7, 0, .ro, 0, false, false, false, []⟩]⟩
/-- The address of BUS_SESSION. -/
abbrev A.BUS_SESSION : Nat := 0x3c

/-- OWN_STAT, 03_register_interface.md. -/
def Reg.OWN_STAT : RegFam :=
  ⟨0x20, [], .sys, [
    ⟨25, 16, .ro, 0, false, false, false, []⟩,
    ⟨8, 8, .w1c, 0, false, false, false, []⟩,
    ⟨7, 7, .w1c, 0, false, false, false, []⟩,
    ⟨6, 6, .w1c, 0, false, false, false, []⟩,
    ⟨5, 4, .ro, 0, false, false, false, []⟩,
    ⟨3, 3, .ro, 0, false, false, false, []⟩,
    ⟨2, 2, .ro, 0, false, false, false, []⟩,
    ⟨1, 0, .ro, 0, false, false, false, []⟩]⟩
/-- The address of OWN_STAT. -/
abbrev A.OWN_STAT : Nat := 0x20

/-- OWN_CFG, 03_register_interface.md. -/
def Reg.OWN_CFG : RegFam :=
  ⟨0x24, [], .sys, [
    ⟨21, 16, .krw, 3, true, false, false, [(1, 60)]⟩,
    ⟨8, 8, .krw, 0, true, false, false, []⟩,
    ⟨5, 4, .krw, 3, true, false, false, []⟩,
    ⟨3, 2, .krw, 2, true, false, false, []⟩,
    ⟨1, 0, .krw, 1, true, false, false, []⟩]⟩
/-- The address of OWN_CFG. -/
abbrev A.OWN_CFG : Nat := 0x24

/-- OWN_CLAIM, 03_register_interface.md. -/
def Reg.OWN_CLAIM : RegFam :=
  ⟨0x28, [], .sys, [
    ⟨0, 0, .krw, 0, false, false, false, []⟩]⟩
/-- The address of OWN_CLAIM. -/
abbrev A.OWN_CLAIM : Nat := 0x28

/-- OWN_HANDOVER, 03_register_interface.md. -/
def Reg.OWN_HANDOVER : RegFam :=
  ⟨0x2c, [], .sys, [
    ⟨2, 0, .krw, 0, false, false, false, [(0, 3), (7, 7)]⟩]⟩
/-- The address of OWN_HANDOVER. -/
abbrev A.OWN_HANDOVER : Nat := 0x2c

/-- OWN_ACCEPT, 03_register_interface.md. -/
def Reg.OWN_ACCEPT : RegFam :=
  ⟨0x30, [], .sys, [
    ⟨0, 0, .w1s, 0, false, false, false, []⟩]⟩
/-- The address of OWN_ACCEPT. -/
abbrev A.OWN_ACCEPT : Nat := 0x30

/-- OWN_HEARTBEAT, 03_register_interface.md. -/
def Reg.OWN_HEARTBEAT : RegFam :=
  ⟨0x34, [], .sys, [
    ⟨0, 0, .w1s, 0, false, false, false, []⟩]⟩
/-- The address of OWN_HEARTBEAT. -/
abbrev A.OWN_HEARTBEAT : Nat := 0x34

/-- OWN_SEIZE, 03_register_interface.md. -/
def Reg.OWN_SEIZE : RegFam :=
  ⟨0x38, [], .sys, [
    ⟨0, 0, .w1s, 0, false, true, false, []⟩]⟩
/-- The address of OWN_SEIZE. -/
abbrev A.OWN_SEIZE : Nat := 0x38

/-- ENG_CTRL, 05_section_engine.md. -/
def Reg.ENG_CTRL : RegFam :=
  ⟨0x10000, [], .eng, [
    ⟨1, 1, .w1s, 0, false, false, false, []⟩,
    ⟨0, 0, .w1s, 0, false, false, false, []⟩]⟩
/-- The address of ENG_CTRL. -/
abbrev A.ENG_CTRL : Nat := 0x10000

/-- ENG_STAT, 05_section_engine.md. -/
def Reg.ENG_STAT : RegFam :=
  ⟨0x10004, [], .eng, [
    ⟨19, 10, .ro, 0, false, false, false, []⟩,
    ⟨9, 9, .ro, 0, false, false, false, []⟩,
    ⟨8, 8, .ro, 0, false, false, false, []⟩,
    ⟨7, 5, .ro, 4, false, false, false, []⟩,
    ⟨4, 0, .ro, 0xf, false, false, false, []⟩]⟩
/-- The address of ENG_STAT. -/
abbrev A.ENG_STAT : Nat := 0x10004

/-- LOAD_CTRL, 05_section_engine.md. -/
def Reg.LOAD_CTRL : RegFam :=
  ⟨0x10020, [], .eng, [
    ⟨8, 8, .rw, 0, false, false, false, []⟩,
    ⟨2, 2, .w1s, 0, false, false, false, []⟩,
    ⟨1, 1, .w1s, 0, false, false, false, []⟩,
    ⟨0, 0, .w1s, 0, false, false, false, []⟩]⟩
/-- The address of LOAD_CTRL. -/
abbrev A.LOAD_CTRL : Nat := 0x10020

/-- LOAD_STAT, 05_section_engine.md. -/
def Reg.LOAD_STAT : RegFam :=
  ⟨0x10024, [], .eng, [
    ⟨6, 4, .ro, 0, false, false, false, []⟩,
    ⟨1, 1, .ro, 0, false, false, false, []⟩,
    ⟨0, 0, .ro, 0, false, false, false, []⟩]⟩
/-- The address of LOAD_STAT. -/
abbrev A.LOAD_STAT : Nat := 0x10024

/-- LOAD_BASE, 05_section_engine.md. -/
def Reg.LOAD_BASE : RegFam :=
  ⟨0x10028, [], .eng, [
    ⟨17, 0, .rw, 0, false, false, false, []⟩]⟩
/-- The address of LOAD_BASE. -/
abbrev A.LOAD_BASE : Nat := 0x10028

/-- LOAD_LEN, 05_section_engine.md. -/
def Reg.LOAD_LEN : RegFam :=
  ⟨0x1002c, [], .eng, [
    ⟨18, 0, .rw, 0, false, false, false, [(1, 262144)]⟩]⟩
/-- The address of LOAD_LEN. -/
abbrev A.LOAD_LEN : Nat := 0x1002c

/-- LOAD_CRC, 05_section_engine.md. -/
def Reg.LOAD_CRC : RegFam :=
  ⟨0x10030, [], .eng, [
    ⟨31, 0, .ro, 0, false, false, false, []⟩]⟩
/-- The address of LOAD_CRC. -/
abbrev A.LOAD_CRC : Nat := 0x10030

/-- LOAD_DIGEST, 05_section_engine.md. -/
def Reg.LOAD_DIGEST : RegFam :=
  ⟨0x10040, [(4, 8)], .eng, [
    ⟨31, 0, .rw, 0, false, false, false, []⟩]⟩
/-- The address of LOAD_DIGEST. -/
abbrev A.LOAD_DIGEST (i : Nat) : Nat := 0x10040 + 4 * i

/-- LOAD_KEY, 05_section_engine.md. -/
def Reg.LOAD_KEY : RegFam :=
  ⟨0x10060, [(4, 16)], .eng, [
    ⟨31, 0, .rw, 0, false, false, false, []⟩]⟩
/-- The address of LOAD_KEY. -/
abbrev A.LOAD_KEY (i : Nat) : Nat := 0x10060 + 4 * i

/-- LOAD_SIG, 05_section_engine.md. -/
def Reg.LOAD_SIG : RegFam :=
  ⟨0x100a0, [(4, 16)], .eng, [
    ⟨31, 0, .rw, 0, false, false, false, []⟩]⟩
/-- The address of LOAD_SIG. -/
abbrev A.LOAD_SIG (i : Nat) : Nat := 0x100a0 + 4 * i

/-- PAGE_STATE, 05_section_engine.md. -/
def Reg.PAGE_STATE : RegFam :=
  ⟨0x10100, [(4, 4)], .eng, [
    ⟨1, 0, .ro, 0, false, false, false, []⟩,
    ⟨3, 2, .ro, 0, false, false, false, []⟩,
    ⟨5, 4, .ro, 0, false, false, false, []⟩,
    ⟨7, 6, .ro, 0, false, false, false, []⟩,
    ⟨9, 8, .ro, 0, false, false, false, []⟩,
    ⟨11, 10, .ro, 0, false, false, false, []⟩,
    ⟨13, 12, .ro, 0, false, false, false, []⟩,
    ⟨15, 14, .ro, 0, false, false, false, []⟩,
    ⟨17, 16, .ro, 0, false, false, false, []⟩,
    ⟨19, 18, .ro, 0, false, false, false, []⟩,
    ⟨21, 20, .ro, 0, false, false, false, []⟩,
    ⟨23, 22, .ro, 0, false, false, false, []⟩,
    ⟨25, 24, .ro, 0, false, false, false, []⟩,
    ⟨27, 26, .ro, 0, false, false, false, []⟩,
    ⟨29, 28, .ro, 0, false, false, false, []⟩,
    ⟨31, 30, .ro, 0, false, false, false, []⟩]⟩
/-- The address of PAGE_STATE. -/
abbrev A.PAGE_STATE (i : Nat) : Nat := 0x10100 + 4 * i

/-- PAGE_RELEASE, 05_section_engine.md. -/
def Reg.PAGE_RELEASE : RegFam :=
  ⟨0x10110, [], .eng, [
    ⟨31, 31, .w1s, 0, false, false, false, []⟩,
    ⟨13, 8, .rw, 0, false, false, false, []⟩,
    ⟨5, 0, .rw, 0, false, false, false, []⟩]⟩
/-- The address of PAGE_RELEASE. -/
abbrev A.PAGE_RELEASE : Nat := 0x10110

/-- CMEM_ADDR, 05_section_engine.md. -/
def Reg.CMEM_ADDR : RegFam :=
  ⟨0x10120, [], .eng, [
    ⟨19, 2, .rw, 0, false, false, false, []⟩]⟩
/-- The address of CMEM_ADDR. -/
abbrev A.CMEM_ADDR : Nat := 0x10120

/-- CMEM_DATA, 05_section_engine.md. -/
def Reg.CMEM_DATA : RegFam :=
  ⟨0x10124, [], .eng, [
    ⟨31, 0, .rw, 0, false, false, false, []⟩]⟩
/-- The address of CMEM_DATA. -/
abbrev A.CMEM_DATA : Nat := 0x10124

/-- LMEM_SEL, 05_section_engine.md. -/
def Reg.LMEM_SEL : RegFam :=
  ⟨0x10130, [], .eng, [
    ⟨22, 16, .rw, 0, false, false, false, []⟩,
    ⟨11, 2, .rw, 0, false, false, false, []⟩]⟩
/-- The address of LMEM_SEL. -/
abbrev A.LMEM_SEL : Nat := 0x10130

/-- LMEM_DATA, 05_section_engine.md. -/
def Reg.LMEM_DATA : RegFam :=
  ⟨0x10134, [], .eng, [
    ⟨31, 0, .rw, 0, false, false, false, []⟩]⟩
/-- The address of LMEM_DATA. -/
abbrev A.LMEM_DATA : Nat := 0x10134

/-- G_CTRL, 05_section_engine.md. -/
def Reg.G_CTRL : RegFam :=
  ⟨0x11000, [(0x40, 128)], .eng, [
    ⟨10, 8, .rw, 0, false, false, true, []⟩,
    ⟨4, 4, .rw, 0, false, false, true, []⟩,
    ⟨3, 3, .rw, 0, false, false, true, []⟩,
    ⟨1, 1, .w1s, 0, false, false, false, []⟩,
    ⟨0, 0, .w1s, 0, false, false, false, []⟩]⟩
/-- The address of G_CTRL. -/
abbrev A.G_CTRL (i : Nat) : Nat := 0x11000 + 0x40 * i

/-- G_STAT, 05_section_engine.md. -/
def Reg.G_STAT : RegFam :=
  ⟨0x11004, [(0x40, 128)], .eng, [
    ⟨27, 25, .ro, 0, false, false, false, []⟩,
    ⟨24, 16, .ro, 0, false, false, false, []⟩,
    ⟨15, 12, .ro, 0, false, false, false, []⟩,
    ⟨11, 8, .ro, 0, false, false, false, []⟩,
    ⟨3, 0, .ro, 0, false, false, false, []⟩]⟩
/-- The address of G_STAT. -/
abbrev A.G_STAT (i : Nat) : Nat := 0x11004 + 0x40 * i

/-- G_ENTRY, 05_section_engine.md. -/
def Reg.G_ENTRY : RegFam :=
  ⟨0x11008, [(0x40, 128)], .eng, [
    ⟨17, 0, .rw, 0, false, false, true, []⟩]⟩
/-- The address of G_ENTRY. -/
abbrev A.G_ENTRY (i : Nat) : Nat := 0x11008 + 0x40 * i

/-- G_REGION, 05_section_engine.md. -/
def Reg.G_REGION : RegFam :=
  ⟨0x1100c, [(0x40, 128)], .eng, [
    ⟨31, 31, .rw, 0, false, false, true, []⟩,
    ⟨13, 8, .rw, 0, false, false, true, []⟩,
    ⟨5, 0, .rw, 0, false, false, true, []⟩]⟩
/-- The address of G_REGION. -/
abbrev A.G_REGION (i : Nat) : Nat := 0x1100c + 0x40 * i

/-- G_QPUSH, 05_section_engine.md. -/
def Reg.G_QPUSH : RegFam :=
  ⟨0x11010, [(0x40, 128)], .eng, [
    ⟨31, 8, .rw, 0, false, false, true, []⟩,
    ⟨5, 0, .rw, 0, false, false, true, []⟩]⟩
/-- The address of G_QPUSH. -/
abbrev A.G_QPUSH (i : Nat) : Nat := 0x11010 + 0x40 * i

/-- G_QPOPS, 05_section_engine.md. -/
def Reg.G_QPOPS : RegFam :=
  ⟨0x11014, [(0x40, 128)], .eng, [
    ⟨11, 0, .rw, 0, false, false, true, []⟩]⟩
/-- The address of G_QPOPS. -/
abbrev A.G_QPOPS (i : Nat) : Nat := 0x11014 + 0x40 * i

/-- G_QPOPG, 05_section_engine.md. -/
def Reg.G_QPOPG : RegFam :=
  ⟨0x11018, [(0x40, 128)], .eng, [
    ⟨23, 0, .rw, 0, false, false, true, []⟩]⟩
/-- The address of G_QPOPG. -/
abbrev A.G_QPOPG (i : Nat) : Nat := 0x11018 + 0x40 * i

/-- G_FAULT, 05_section_engine.md. -/
def Reg.G_FAULT : RegFam :=
  ⟨0x1101c, [(0x40, 128)], .eng, [
    ⟨31, 31, .ro, 0, false, false, false, []⟩,
    ⟨30, 30, .w1c, 0, false, false, false, []⟩,
    ⟨27, 24, .ro, 0, false, false, false, []⟩,
    ⟨17, 0, .ro, 0, false, false, false, []⟩]⟩
/-- The address of G_FAULT. -/
abbrev A.G_FAULT (i : Nat) : Nat := 0x1101c + 0x40 * i

/-- G_MISSED, 05_section_engine.md. -/
def Reg.G_MISSED : RegFam :=
  ⟨0x11020, [(0x40, 128)], .eng, [
    ⟨31, 0, .cnt, 0, false, false, false, []⟩]⟩
/-- The address of G_MISSED. -/
abbrev A.G_MISSED (i : Nat) : Nat := 0x11020 + 0x40 * i

/-- G_REWIND, 05_section_engine.md. -/
def Reg.G_REWIND : RegFam :=
  ⟨0x11024, [(0x40, 128)], .eng, [
    ⟨31, 0, .cnt, 0, false, false, false, []⟩]⟩
/-- The address of G_REWIND. -/
abbrev A.G_REWIND (i : Nat) : Nat := 0x11024 + 0x40 * i

/-- G_JHW, 05_section_engine.md. -/
def Reg.G_JHW : RegFam :=
  ⟨0x11028, [(0x40, 128)], .eng, [
    ⟨8, 0, .ro, 0, false, false, false, []⟩]⟩
/-- The address of G_JHW. -/
abbrev A.G_JHW (i : Nat) : Nat := 0x11028 + 0x40 * i

/-- G_WIN, 05_section_engine.md. -/
def Reg.G_WIN : RegFam :=
  ⟨0x14000, [(0x100, 128), (4, 51)], .eng, [
    ⟨31, 0, .ro, 0, false, false, false, []⟩]⟩
/-- The address of G_WIN. -/
abbrev A.G_WIN (i : Nat) (j : Nat) : Nat := 0x14000 + 0x100 * i + 4 * j

/-- OUT_PERMIT, 05_section_engine.md. -/
def Reg.OUT_PERMIT : RegFam :=
  ⟨0x1c000, [(0x10, 84), (4, 4)], .eng, [
    ⟨31, 0, .rw, 0, false, false, true, []⟩]⟩
/-- The address of OUT_PERMIT. -/
abbrev A.OUT_PERMIT (i : Nat) (j : Nat) : Nat := 0x1c000 + 0x10 * i + 4 * j

/-- REM_GATHER, 05_section_engine.md. -/
def Reg.REM_GATHER : RegFam :=
  ⟨0x1d000, [(4, 428)], .eng, [
    ⟨31, 31, .rw, 0, false, false, true, []⟩,
    ⟨6, 0, .rw, 0, false, false, true, []⟩]⟩
/-- The address of REM_GATHER. -/
abbrev A.REM_GATHER (i : Nat) : Nat := 0x1d000 + 4 * i

/-- MAP_CTRL, 06_field_geometry.md. -/
def Reg.MAP_CTRL : RegFam :=
  ⟨0x1e000, [], .eng, [
    ⟨4, 4, .w1s, 0, false, false, false, []⟩,
    ⟨3, 3, .w1s, 0, false, false, false, []⟩,
    ⟨2, 2, .w1s, 0, false, false, false, []⟩,
    ⟨1, 1, .w1s, 0, false, false, false, []⟩,
    ⟨0, 0, .w1s, 0, false, false, false, []⟩]⟩
/-- The address of MAP_CTRL. -/
abbrev A.MAP_CTRL : Nat := 0x1e000

/-- MAP_STAT, 06_field_geometry.md. -/
def Reg.MAP_STAT : RegFam :=
  ⟨0x1e004, [], .eng, [
    ⟨30, 30, .ro, 0, false, false, false, []⟩,
    ⟨29, 16, .ro, 0, false, false, false, []⟩,
    ⟨15, 12, .ro, 0, false, false, false, []⟩,
    ⟨8, 8, .ro, 0, false, false, false, []⟩,
    ⟨7, 7, .ro, 0, false, false, false, []⟩,
    ⟨5, 0, .ro, 0, false, false, false, []⟩]⟩
/-- The address of MAP_STAT. -/
abbrev A.MAP_STAT : Nat := 0x1e004

/-- MAP_ACT_LO, 06_field_geometry.md. -/
def Reg.MAP_ACT_LO : RegFam :=
  ⟨0x1e008, [], .eng, [
    ⟨31, 0, .rw, 0, false, false, false, []⟩]⟩
/-- The address of MAP_ACT_LO. -/
abbrev A.MAP_ACT_LO : Nat := 0x1e008

/-- MAP_ACT_HI, 06_field_geometry.md. -/
def Reg.MAP_ACT_HI : RegFam :=
  ⟨0x1e00c, [], .eng, [
    ⟨31, 0, .rw, 0, false, false, false, []⟩]⟩
/-- The address of MAP_ACT_HI. -/
abbrev A.MAP_ACT_HI : Nat := 0x1e00c

/-- MAP_WIN_SEL, 06_field_geometry.md. -/
def Reg.MAP_WIN_SEL : RegFam :=
  ⟨0x1e010, [], .eng, [
    ⟨30, 28, .rw, 0, false, false, false, [(0, 4)]⟩,
    ⟨19, 0, .rw, 0, false, false, false, []⟩]⟩
/-- The address of MAP_WIN_SEL. -/
abbrev A.MAP_WIN_SEL : Nat := 0x1e010

/-- MAP_FIELD, 06_field_geometry.md. -/
def Reg.MAP_FIELD : RegFam :=
  ⟨0x1e014, [], .eng, [
    ⟨24, 24, .ro, 0, false, false, false, []⟩,
    ⟨19, 16, .ro, 0, false, false, false, []⟩,
    ⟨3, 0, .rw, 0, false, false, false, []⟩]⟩
/-- The address of MAP_FIELD. -/
abbrev A.MAP_FIELD : Nat := 0x1e014

/-- RASTER_E, 06_field_geometry.md. -/
def Reg.RASTER_E : RegFam :=
  ⟨0x1e020, [], .eng, [
    ⟨31, 0, .rw, 0, false, false, false, []⟩]⟩
/-- The address of RASTER_E. -/
abbrev A.RASTER_E : Nat := 0x1e020

/-- RASTER_N, 06_field_geometry.md. -/
def Reg.RASTER_N : RegFam :=
  ⟨0x1e024, [], .eng, [
    ⟨31, 0, .rw, 0, false, false, false, []⟩]⟩
/-- The address of RASTER_N. -/
abbrev A.RASTER_N : Nat := 0x1e024

/-- RASTER_DIM, 06_field_geometry.md. -/
def Reg.RASTER_DIM : RegFam :=
  ⟨0x1e028, [], .eng, [
    ⟨29, 16, .rw, 0, false, false, false, []⟩,
    ⟨13, 0, .rw, 0, false, false, false, []⟩]⟩
/-- The address of RASTER_DIM. -/
abbrev A.RASTER_DIM : Nat := 0x1e028

/-- RASTER_CFG, 06_field_geometry.md. -/
def Reg.RASTER_CFG : RegFam :=
  ⟨0x1e02c, [], .eng, [
    ⟨11, 8, .rw, 0, false, false, false, []⟩,
    ⟨5, 0, .rw, 0xa, false, false, false, []⟩]⟩
/-- The address of RASTER_CFG. -/
abbrev A.RASTER_CFG : Nat := 0x1e02c

/-- POLY_CFG, 06_field_geometry.md. -/
def Reg.POLY_CFG : RegFam :=
  ⟨0x1e030, [], .eng, [
    ⟨30, 16, .rw, 0, false, false, false, [(0, 16384)]⟩,
    ⟨15, 12, .rw, 0, false, false, false, []⟩,
    ⟨8, 0, .rw, 0, false, false, false, [(0, 256)]⟩]⟩
/-- The address of POLY_CFG. -/
abbrev A.POLY_CFG : Nat := 0x1e030

/-- ONYX_STAT, 06_field_geometry.md. -/
def Reg.ONYX_STAT : RegFam :=
  ⟨0x1e040, [], .eng, [
    ⟨31, 31, .ro, 0, false, false, false, []⟩,
    ⟨30, 30, .w1c, 0, false, false, false, []⟩,
    ⟨29, 29, .w1c, 0, false, false, false, []⟩,
    ⟨28, 28, .w1c, 0, false, false, false, []⟩,
    ⟨14, 0, .ro, 0, false, false, false, []⟩]⟩
/-- The address of ONYX_STAT. -/
abbrev A.ONYX_STAT : Nat := 0x1e040

/-- ONYX_FREE, 06_field_geometry.md. -/
def Reg.ONYX_FREE : RegFam :=
  ⟨0x1e044, [], .eng, [
    ⟨16, 0, .ro, 0, true, false, false, []⟩]⟩
/-- The address of ONYX_FREE. -/
abbrev A.ONYX_FREE : Nat := 0x1e044

/-- ONYX_WEAR, 06_field_geometry.md. -/
def Reg.ONYX_WEAR : RegFam :=
  ⟨0x1e048, [], .eng, [
    ⟨9, 0, .ro, 0, true, false, false, []⟩]⟩
/-- The address of ONYX_WEAR. -/
abbrev A.ONYX_WEAR : Nat := 0x1e048

/-- ONYX_CTRL, 06_field_geometry.md. -/
def Reg.ONYX_CTRL : RegFam :=
  ⟨0x1e04c, [], .eng, [
    ⟨0, 0, .w1s, 0, false, false, false, []⟩]⟩
/-- The address of ONYX_CTRL. -/
abbrev A.ONYX_CTRL : Nat := 0x1e04c

/-- OUTSIDE_CNT, 06_field_geometry.md. -/
def Reg.OUTSIDE_CNT : RegFam :=
  ⟨0x1e050, [], .eng, [
    ⟨31, 0, .cnt, 0, false, false, false, []⟩]⟩
/-- The address of OUTSIDE_CNT. -/
abbrev A.OUTSIDE_CNT : Nat := 0x1e050

/-- BADTILE_CNT, 06_field_geometry.md. -/
def Reg.BADTILE_CNT : RegFam :=
  ⟨0x1e054, [], .eng, [
    ⟨31, 0, .cnt, 0, false, false, false, []⟩]⟩
/-- The address of BADTILE_CNT. -/
abbrev A.BADTILE_CNT : Nat := 0x1e054

/-- NOMODEL_CNT, 06_field_geometry.md. -/
def Reg.NOMODEL_CNT : RegFam :=
  ⟨0x1e058, [], .eng, [
    ⟨31, 0, .cnt, 0, false, false, false, []⟩]⟩
/-- The address of NOMODEL_CNT. -/
abbrev A.NOMODEL_CNT : Nat := 0x1e058

/-- FETCH_CNT, 06_field_geometry.md. -/
def Reg.FETCH_CNT : RegFam :=
  ⟨0x1e05c, [], .eng, [
    ⟨31, 0, .cnt, 0, false, false, false, []⟩]⟩
/-- The address of FETCH_CNT. -/
abbrev A.FETCH_CNT : Nat := 0x1e05c

/-- MAP_CRC, 06_field_geometry.md. -/
def Reg.MAP_CRC : RegFam :=
  ⟨0x1e060, [(4, 5)], .eng, [
    ⟨31, 0, .ro, 0, false, false, false, []⟩]⟩
/-- The address of MAP_CRC. -/
abbrev A.MAP_CRC (i : Nat) : Nat := 0x1e060 + 4 * i

/-- FIELD_LAT, 06_field_geometry.md. -/
def Reg.FIELD_LAT : RegFam :=
  ⟨0x1e100, [(0x20, 16)], .eng, [
    ⟨31, 0, .rw, 0, true, false, false, []⟩]⟩
/-- The address of FIELD_LAT. -/
abbrev A.FIELD_LAT (i : Nat) : Nat := 0x1e100 + 0x20 * i

/-- FIELD_LON, 06_field_geometry.md. -/
def Reg.FIELD_LON : RegFam :=
  ⟨0x1e104, [(0x20, 16)], .eng, [
    ⟨31, 0, .rw, 0, true, false, false, []⟩]⟩
/-- The address of FIELD_LON. -/
abbrev A.FIELD_LON (i : Nat) : Nat := 0x1e104 + 0x20 * i

/-- FIELD_HGT, 06_field_geometry.md. -/
def Reg.FIELD_HGT : RegFam :=
  ⟨0x1e108, [(0x20, 16)], .eng, [
    ⟨31, 0, .rw, 0, true, false, false, []⟩]⟩
/-- The address of FIELD_HGT. -/
abbrev A.FIELD_HGT (i : Nat) : Nat := 0x1e108 + 0x20 * i

/-- FIELD_GRID, 06_field_geometry.md. -/
def Reg.FIELD_GRID : RegFam :=
  ⟨0x1e10c, [(0x20, 16)], .eng, [
    ⟨31, 16, .rw, 0, true, false, false, []⟩,
    ⟨15, 0, .rw, 0, true, false, false, []⟩]⟩
/-- The address of FIELD_GRID. -/
abbrev A.FIELD_GRID (i : Nat) : Nat := 0x1e10c + 0x20 * i

/-- FIELD_SIZE, 06_field_geometry.md. -/
def Reg.FIELD_SIZE : RegFam :=
  ⟨0x1e110, [(0x20, 16)], .eng, [
    ⟨28, 16, .rw, 0, true, false, false, []⟩,
    ⟨12, 0, .rw, 0, true, false, false, []⟩]⟩
/-- The address of FIELD_SIZE. -/
abbrev A.FIELD_SIZE (i : Nat) : Nat := 0x1e110 + 0x20 * i

/-- FIELD_CFG, 06_field_geometry.md. -/
def Reg.FIELD_CFG : RegFam :=
  ⟨0x1e114, [(0x20, 16)], .eng, [
    ⟨31, 31, .ro, 0, true, false, false, []⟩,
    ⟨30, 30, .ro, 0, false, false, false, []⟩,
    ⟨9, 8, .rw, 0, true, false, false, []⟩,
    ⟨5, 4, .rw, 0, true, false, false, []⟩,
    ⟨1, 0, .rw, 0, true, false, false, []⟩]⟩
/-- The address of FIELD_CFG. -/
abbrev A.FIELD_CFG (i : Nat) : Nat := 0x1e114 + 0x20 * i

/-- FIELD_CTRL, 06_field_geometry.md. -/
def Reg.FIELD_CTRL : RegFam :=
  ⟨0x1e118, [(0x20, 16)], .eng, [
    ⟨11, 8, .w1s, 0, false, true, false, []⟩,
    ⟨2, 2, .w1s, 0, false, false, false, []⟩,
    ⟨1, 1, .w1s, 0, false, true, false, []⟩,
    ⟨0, 0, .w1s, 0, false, false, false, []⟩]⟩
/-- The address of FIELD_CTRL. -/
abbrev A.FIELD_CTRL (i : Nat) : Nat := 0x1e118 + 0x20 * i

/-- FIELD_STAT, 06_field_geometry.md. -/
def Reg.FIELD_STAT : RegFam :=
  ⟨0x1e11c, [(0x20, 16)], .eng, [
    ⟨31, 31, .ro, 0, false, false, false, []⟩,
    ⟨17, 0, .ro, 0, true, false, false, []⟩]⟩
/-- The address of FIELD_STAT. -/
abbrev A.FIELD_STAT (i : Nat) : Nat := 0x1e11c + 0x20 * i

/-- MAP_WIN, 06_field_geometry.md. -/
def Reg.MAP_WIN : RegFam :=
  ⟨0x1f000, [(4, 1024)], .eng, [
    ⟨31, 0, .rw, 0, false, false, false, []⟩]⟩
/-- The address of MAP_WIN. -/
abbrev A.MAP_WIN (i : Nat) : Nat := 0x1f000 + 4 * i

/-- OUT_CTRL, 07_lookahead_actuation.md. -/
def Reg.OUT_CTRL : RegFam :=
  ⟨0x28000, [(0x40, 84)], .act, [
    ⟨2, 2, .w1s, 0, false, false, false, []⟩,
    ⟨1, 1, .w1s, 0, false, false, false, []⟩,
    ⟨0, 0, .w1s, 0, false, false, false, []⟩]⟩
/-- The address of OUT_CTRL. -/
abbrev A.OUT_CTRL (i : Nat) : Nat := 0x28000 + 0x40 * i

/-- OUT_STAT, 07_lookahead_actuation.md. -/
def Reg.OUT_STAT : RegFam :=
  ⟨0x28004, [(0x40, 84)], .act, [
    ⟨31, 31, .ro, 0, false, false, false, []⟩,
    ⟨30, 30, .ro, 0, false, false, false, []⟩,
    ⟨29, 29, .ro, 0, false, false, false, []⟩,
    ⟨28, 23, .ro, 0, false, false, false, []⟩,
    ⟨8, 8, .w1c, 0, false, false, false, []⟩,
    ⟨7, 7, .ro, 0, false, false, false, []⟩,
    ⟨6, 6, .w1c, 0, false, false, false, []⟩,
    ⟨5, 5, .w1c, 0, false, false, false, []⟩,
    ⟨4, 4, .w1c, 0, false, false, false, []⟩,
    ⟨3, 3, .w1c, 0, false, false, false, []⟩,
    ⟨2, 2, .w1c, 0, false, false, false, []⟩]⟩
/-- The address of OUT_STAT. -/
abbrev A.OUT_STAT (i : Nat) : Nat := 0x28004 + 0x40 * i

/-- OUT_LATE_MAX, 07_lookahead_actuation.md. -/
def Reg.OUT_LATE_MAX : RegFam :=
  ⟨0x28008, [(0x40, 84)], .act, [
    ⟨31, 0, .ro, 0, false, false, false, []⟩]⟩
/-- The address of OUT_LATE_MAX. -/
abbrev A.OUT_LATE_MAX (i : Nat) : Nat := 0x28008 + 0x40 * i

/-- OUT_EVCNT, 07_lookahead_actuation.md. -/
def Reg.OUT_EVCNT : RegFam :=
  ⟨0x2800c, [(0x40, 84)], .act, [
    ⟨31, 16, .cnt, 0, false, false, false, []⟩,
    ⟨15, 0, .cnt, 0, false, false, false, []⟩]⟩
/-- The address of OUT_EVCNT. -/
abbrev A.OUT_EVCNT (i : Nat) : Nat := 0x2800c + 0x40 * i

/-- OUT_DISCNT, 07_lookahead_actuation.md. -/
def Reg.OUT_DISCNT : RegFam :=
  ⟨0x28010, [(0x40, 84)], .act, [
    ⟨31, 16, .cnt, 0, false, false, false, []⟩,
    ⟨15, 0, .cnt, 0, false, false, false, []⟩]⟩
/-- The address of OUT_DISCNT. -/
abbrev A.OUT_DISCNT (i : Nat) : Nat := 0x28010 + 0x40 * i

/-- OUT_LAT, 07_lookahead_actuation.md. -/
def Reg.OUT_LAT : RegFam :=
  ⟨0x28014, [(0x40, 84)], .act, [
    ⟨31, 16, .ro, 0, true, false, false, []⟩,
    ⟨15, 0, .ro, 0, true, false, false, []⟩]⟩
/-- The address of OUT_LAT. -/
abbrev A.OUT_LAT (i : Nat) : Nat := 0x28014 + 0x40 * i

/-- OUT_LATINIT, 07_lookahead_actuation.md. -/
def Reg.OUT_LATINIT : RegFam :=
  ⟨0x28018, [(0x40, 84)], .act, [
    ⟨31, 16, .rw, 0x1388, true, false, true, [(200, 40000)]⟩,
    ⟨15, 0, .rw, 0xbb8, true, false, true, [(200, 40000)]⟩]⟩
/-- The address of OUT_LATINIT. -/
abbrev A.OUT_LATINIT (i : Nat) : Nat := 0x28018 + 0x40 * i

/-- OUT_LEARN, 07_lookahead_actuation.md. -/
def Reg.OUT_LEARN : RegFam :=
  ⟨0x2801c, [(0x40, 84)], .act, [
    ⟨31, 31, .rw, 0, false, false, false, []⟩,
    ⟨30, 30, .rw, 0, false, false, false, []⟩,
    ⟨29, 29, .rw, 0, false, false, false, []⟩,
    ⟨28, 28, .w1s, 0, false, false, false, []⟩,
    ⟨23, 16, .rw, 3, false, false, false, [(1, 255)]⟩,
    ⟨15, 8, .rw, 0xa, false, false, false, [(1, 255)]⟩,
    ⟨7, 0, .rw, 0, false, false, false, [(0, 150)]⟩]⟩
/-- The address of OUT_LEARN. -/
abbrev A.OUT_LEARN (i : Nat) : Nat := 0x2801c + 0x40 * i

/-- OUT_TRANSIT, 07_lookahead_actuation.md. -/
def Reg.OUT_TRANSIT : RegFam :=
  ⟨0x28020, [(0x40, 84)], .act, [
    ⟨15, 0, .rw, 0, true, false, true, []⟩]⟩
/-- The address of OUT_TRANSIT. -/
abbrev A.OUT_TRANSIT (i : Nat) : Nat := 0x28020 + 0x40 * i

/-- OUT_MEAS_ON, 07_lookahead_actuation.md. -/
def Reg.OUT_MEAS_ON : RegFam :=
  ⟨0x28024, [(0x40, 84)], .act, [
    ⟨31, 28, .ro, 0, false, false, false, []⟩,
    ⟨23, 16, .ro, 0, false, false, false, []⟩,
    ⟨15, 0, .ro, 0, false, false, false, []⟩]⟩
/-- The address of OUT_MEAS_ON. -/
abbrev A.OUT_MEAS_ON (i : Nat) : Nat := 0x28024 + 0x40 * i

/-- OUT_MEAS_OFF, 07_lookahead_actuation.md. -/
def Reg.OUT_MEAS_OFF : RegFam :=
  ⟨0x28028, [(0x40, 84)], .act, [
    ⟨31, 28, .ro, 0, false, false, false, []⟩,
    ⟨23, 16, .ro, 0, false, false, false, []⟩,
    ⟨15, 0, .ro, 0, false, false, false, []⟩]⟩
/-- The address of OUT_MEAS_OFF. -/
abbrev A.OUT_MEAS_OFF (i : Nat) : Nat := 0x28028 + 0x40 * i

/-- OUT_COMP, 07_lookahead_actuation.md. -/
def Reg.OUT_COMP : RegFam :=
  ⟨0x2802c, [(0x40, 84)], .act, [
    ⟨31, 31, .rw, 0, false, false, false, []⟩,
    ⟨15, 0, .rw, 0x1388, false, false, false, [(1, 65535)]⟩]⟩
/-- The address of OUT_COMP. -/
abbrev A.OUT_COMP (i : Nat) : Nat := 0x2802c + 0x40 * i

/-- OUT_SPEED, 07_lookahead_actuation.md. -/
def Reg.OUT_SPEED : RegFam :=
  ⟨0x28030, [(0x40, 84)], .act, [
    ⟨15, 0, .ro, 0, false, false, false, []⟩]⟩
/-- The address of OUT_SPEED. -/
abbrev A.OUT_SPEED (i : Nat) : Nat := 0x28030 + 0x40 * i

/-- ACT_DIST_STAT, 07_lookahead_actuation.md. -/
def Reg.ACT_DIST_STAT : RegFam :=
  ⟨0x29f00, [], .act, [
    ⟨0, 0, .ro, 0, false, false, false, []⟩]⟩
/-- The address of ACT_DIST_STAT. -/
abbrev A.ACT_DIST_STAT : Nat := 0x29f00

/-- ACT_DIST_STALL, 07_lookahead_actuation.md. -/
def Reg.ACT_DIST_STALL : RegFam :=
  ⟨0x29f04, [], .act, [
    ⟨31, 0, .cnt, 0, false, false, false, []⟩]⟩
/-- The address of ACT_DIST_STALL. -/
abbrev A.ACT_DIST_STALL : Nat := 0x29f04

/-- REM_NOMATCH_CNT, 07_lookahead_actuation.md. -/
def Reg.REM_NOMATCH_CNT : RegFam :=
  ⟨0x29f08, [], .act, [
    ⟨31, 0, .cnt, 0, false, false, false, []⟩]⟩
/-- The address of REM_NOMATCH_CNT. -/
abbrev A.REM_NOMATCH_CNT : Nat := 0x29f08

/-- REM_DESC, 07_lookahead_actuation.md. -/
def Reg.REM_DESC : RegFam :=
  ⟨0x2a000, [(0x20, 428)], .act, [
    ⟨31, 31, .rw, 0, false, false, false, []⟩,
    ⟨26, 24, .rw, 0, false, false, false, [(0, 5)]⟩,
    ⟨15, 8, .rw, 0, false, false, false, []⟩,
    ⟨7, 0, .rw, 0, false, false, false, []⟩]⟩
/-- The address of REM_DESC. -/
abbrev A.REM_DESC (i : Nat) : Nat := 0x2a000 + 0x20 * i

/-- REM_CTRL, 07_lookahead_actuation.md. -/
def Reg.REM_CTRL : RegFam :=
  ⟨0x2a004, [(0x20, 428)], .act, [
    ⟨31, 31, .ro, 0, false, false, false, []⟩,
    ⟨30, 30, .ro, 0, false, false, false, []⟩,
    ⟨29, 29, .ro, 1, false, false, false, []⟩,
    ⟨28, 28, .w1c, 0, false, false, false, []⟩,
    ⟨27, 27, .w1c, 0, false, false, false, []⟩,
    ⟨26, 26, .w1c, 0, false, false, false, []⟩,
    ⟨1, 1, .w1s, 0, false, false, false, []⟩,
    ⟨0, 0, .w1s, 0, false, false, false, []⟩]⟩
/-- The address of REM_CTRL. -/
abbrev A.REM_CTRL (i : Nat) : Nat := 0x2a004 + 0x20 * i

/-- REM_LAT, 07_lookahead_actuation.md. -/
def Reg.REM_LAT : RegFam :=
  ⟨0x2a008, [(0x20, 428)], .act, [
    ⟨31, 16, .ro, 0, true, false, false, []⟩,
    ⟨15, 0, .ro, 0, true, false, false, []⟩]⟩
/-- The address of REM_LAT. -/
abbrev A.REM_LAT (i : Nat) : Nat := 0x2a008 + 0x20 * i

/-- REM_CFG, 07_lookahead_actuation.md. -/
def Reg.REM_CFG : RegFam :=
  ⟨0x2a00c, [(0x20, 428)], .act, [
    ⟨23, 16, .rw, 0x1e, false, false, false, [(1, 255)]⟩,
    ⟨15, 0, .rw, 0, true, false, true, []⟩]⟩
/-- The address of REM_CFG. -/
abbrev A.REM_CFG (i : Nat) : Nat := 0x2a00c + 0x20 * i

/-- REM_LATINIT, 07_lookahead_actuation.md. -/
def Reg.REM_LATINIT : RegFam :=
  ⟨0x2a010, [(0x20, 428)], .act, [
    ⟨31, 16, .rw, 0x1388, true, false, true, [(200, 40000)]⟩,
    ⟨15, 0, .rw, 0xbb8, true, false, true, [(200, 40000)]⟩]⟩
/-- The address of REM_LATINIT. -/
abbrev A.REM_LATINIT (i : Nat) : Nat := 0x2a010 + 0x20 * i

/-- MARK_STAT, 07_lookahead_actuation.md. -/
def Reg.MARK_STAT : RegFam :=
  ⟨0x1e080, [], .eng, [
    ⟨0, 0, .w1c, 0, false, false, false, []⟩]⟩
/-- The address of MARK_STAT. -/
abbrev A.MARK_STAT : Nat := 0x1e080

/-- MARK_GAP_CNT, 07_lookahead_actuation.md. -/
def Reg.MARK_GAP_CNT : RegFam :=
  ⟨0x1e084, [], .eng, [
    ⟨31, 0, .cnt, 0, false, false, false, []⟩]⟩
/-- The address of MARK_GAP_CNT. -/
abbrev A.MARK_GAP_CNT : Nat := 0x1e084

/-- QCTRL, 08_queues.md. -/
def Reg.QCTRL : RegFam :=
  ⟨0x8000, [(0x40, 128)], .qProd, [
    ⟨1, 1, .w1s, 0, false, false, false, []⟩,
    ⟨0, 0, .w1s, 0, false, false, false, []⟩]⟩
/-- The address of QCTRL. -/
abbrev A.QCTRL (i : Nat) : Nat := 0x8000 + 0x40 * i

/-- QSTAT, 08_queues.md. -/
def Reg.QSTAT : RegFam :=
  ⟨0x8004, [(0x40, 128)], .qProd, [
    ⟨31, 16, .cnt, 0, false, false, false, []⟩,
    ⟨5, 5, .ro, 0, false, false, false, []⟩,
    ⟨4, 4, .ro, 0, false, false, false, []⟩,
    ⟨3, 3, .w1c, 0, false, false, false, []⟩,
    ⟨2, 2, .w1c, 0, false, false, false, []⟩,
    ⟨1, 1, .ro, 0, false, false, false, []⟩]⟩
/-- The address of QSTAT. -/
abbrev A.QSTAT (i : Nat) : Nat := 0x8004 + 0x40 * i

/-- QPLEV, 08_queues.md. -/
def Reg.QPLEV : RegFam :=
  ⟨0x8008, [(0x40, 128)], .qProd, [
    ⟨25, 16, .ro, 0, false, false, false, []⟩,
    ⟨9, 0, .ro, 0, false, false, false, []⟩]⟩
/-- The address of QPLEV. -/
abbrev A.QPLEV (i : Nat) : Nat := 0x8008 + 0x40 * i

/-- QPCNT, 08_queues.md. -/
def Reg.QPCNT : RegFam :=
  ⟨0x800c, [(0x40, 128)], .qProd, [
    ⟨31, 0, .cnt, 0, false, false, false, []⟩]⟩
/-- The address of QPCNT. -/
abbrev A.QPCNT (i : Nat) : Nat := 0x800c + 0x40 * i

/-- QDROP, 08_queues.md. -/
def Reg.QDROP : RegFam :=
  ⟨0x8010, [(0x40, 128)], .qProd, [
    ⟨31, 0, .cnt, 0, false, false, false, []⟩]⟩
/-- The address of QDROP. -/
abbrev A.QDROP (i : Nat) : Nat := 0x8010 + 0x40 * i

/-- QHWM, 08_queues.md. -/
def Reg.QHWM : RegFam :=
  ⟨0x8014, [(0x40, 128)], .qProd, [
    ⟨9, 0, .ro, 0, false, false, false, []⟩]⟩
/-- The address of QHWM. -/
abbrev A.QHWM (i : Nat) : Nat := 0x8014 + 0x40 * i

/-- QPTRP, 08_queues.md. -/
def Reg.QPTRP : RegFam :=
  ⟨0x8018, [(0x40, 128)], .qProd, [
    ⟨25, 16, .ro, 0, false, false, false, []⟩,
    ⟨9, 0, .ro, 0, false, false, false, []⟩]⟩
/-- The address of QPTRP. -/
abbrev A.QPTRP (i : Nat) : Nat := 0x8018 + 0x40 * i

/-- QCSTAT, 08_queues.md. -/
def Reg.QCSTAT : RegFam :=
  ⟨0x8020, [(0x40, 128)], .qCons, [
    ⟨25, 16, .ro, 0, false, false, false, []⟩,
    ⟨9, 0, .ro, 0, false, false, false, []⟩]⟩
/-- The address of QCSTAT. -/
abbrev A.QCSTAT (i : Nat) : Nat := 0x8020 + 0x40 * i

/-- QCFLAG, 08_queues.md. -/
def Reg.QCFLAG : RegFam :=
  ⟨0x8024, [(0x40, 128)], .qCons, [
    ⟨0, 0, .ro, 1, false, false, false, []⟩]⟩
/-- The address of QCFLAG. -/
abbrev A.QCFLAG (i : Nat) : Nat := 0x8024 + 0x40 * i

/-- QCCNT, 08_queues.md. -/
def Reg.QCCNT : RegFam :=
  ⟨0x8028, [(0x40, 128)], .qCons, [
    ⟨31, 0, .cnt, 0, false, false, false, []⟩]⟩
/-- The address of QCCNT. -/
abbrev A.QCCNT (i : Nat) : Nat := 0x8028 + 0x40 * i

/-- QPTRC, 08_queues.md. -/
def Reg.QPTRC : RegFam :=
  ⟨0x802c, [(0x40, 128)], .qCons, [
    ⟨25, 16, .ro, 0, false, false, false, []⟩,
    ⟨9, 0, .ro, 0, false, false, false, []⟩]⟩
/-- The address of QPTRC. -/
abbrev A.QPTRC (i : Nat) : Nat := 0x802c + 0x40 * i

/-- CH_CFG, 09_load_channels.md. -/
def Reg.CH_CFG : RegFam :=
  ⟨0x20000, [(0x40, 84)], .act, [
    ⟨31, 24, .rw, 0, true, false, true, []⟩,
    ⟨23, 22, .rw, 0, true, false, true, []⟩,
    ⟨21, 20, .rw, 0, true, false, true, [(0, 2)]⟩,
    ⟨19, 19, .rw, 0, true, false, true, []⟩,
    ⟨18, 18, .rw, 0, true, false, true, []⟩,
    ⟨17, 11, .rw, 0x3c, true, false, true, [(20, 100)]⟩,
    ⟨10, 8, .rw, 0, true, false, true, []⟩,
    ⟨7, 0, .rw, 0, true, false, true, []⟩]⟩
/-- The address of CH_CFG. -/
abbrev A.CH_CFG (i : Nat) : Nat := 0x20000 + 0x40 * i

/-- CH_LIMIT, 09_load_channels.md. -/
def Reg.CH_LIMIT : RegFam :=
  ⟨0x20004, [(0x40, 84)], .act, [
    ⟨31, 24, .rw, 0, true, false, true, [(0, 200)]⟩,
    ⟨23, 16, .rw, 0, true, false, true, []⟩,
    ⟨15, 8, .rw, 0, true, false, true, []⟩,
    ⟨7, 0, .rw, 0, true, false, true, []⟩]⟩
/-- The address of CH_LIMIT. -/
abbrev A.CH_LIMIT (i : Nat) : Nat := 0x20004 + 0x40 * i

/-- CH_RETRY, 09_load_channels.md. -/
def Reg.CH_RETRY : RegFam :=
  ⟨0x20008, [(0x40, 84)], .act, [
    ⟨31, 28, .rw, 0, true, false, true, []⟩,
    ⟨27, 20, .rw, 4, true, false, true, [(1, 100)]⟩,
    ⟨9, 0, .rw, 0x32, true, false, true, [(1, 1000)]⟩]⟩
/-- The address of CH_RETRY. -/
abbrev A.CH_RETRY (i : Nat) : Nat := 0x20008 + 0x40 * i

/-- CH_CTRL, 09_load_channels.md. -/
def Reg.CH_CTRL : RegFam :=
  ⟨0x2000c, [(0x40, 84)], .act, [
    ⟨0, 0, .w1s, 0, false, false, false, []⟩]⟩
/-- The address of CH_CTRL. -/
abbrev A.CH_CTRL (i : Nat) : Nat := 0x2000c + 0x40 * i

/-- CH_STAT, 09_load_channels.md. -/
def Reg.CH_STAT : RegFam :=
  ⟨0x20010, [(0x40, 84)], .act, [
    ⟨31, 28, .ro, 0, false, false, false, []⟩,
    ⟨27, 24, .ro, 0, false, false, false, []⟩,
    ⟨15, 15, .w1c, 0, false, false, false, []⟩,
    ⟨14, 14, .ro, 0, false, false, false, []⟩,
    ⟨13, 13, .w1c, 0, false, false, false, []⟩,
    ⟨12, 12, .w1c, 0, false, false, false, []⟩,
    ⟨11, 11, .w1c, 0, false, false, false, []⟩,
    ⟨10, 10, .w1c, 0, false, false, false, []⟩]⟩
/-- The address of CH_STAT. -/
abbrev A.CH_STAT (i : Nat) : Nat := 0x20010 + 0x40 * i

/-- CH_MEAS, 09_load_channels.md. -/
def Reg.CH_MEAS : RegFam :=
  ⟨0x20014, [(0x40, 76)], .act, [
    ⟨31, 24, .ro, 0, false, false, false, []⟩,
    ⟨23, 16, .ro, 0, false, false, false, []⟩,
    ⟨15, 0, .ro, 0, false, false, false, []⟩]⟩
/-- The address of CH_MEAS. -/
abbrev A.CH_MEAS (i : Nat) : Nat := 0x20014 + 0x40 * i

/-- CH_DEFER, 09_load_channels.md. -/
def Reg.CH_DEFER : RegFam :=
  ⟨0x20018, [(0x40, 76)], .act, [
    ⟨31, 16, .cnt, 0, false, false, false, []⟩,
    ⟨15, 0, .rw, 0, false, false, false, []⟩]⟩
/-- The address of CH_DEFER. -/
abbrev A.CH_DEFER (i : Nat) : Nat := 0x20018 + 0x40 * i

/-- CH_TRIPCNT, 09_load_channels.md. -/
def Reg.CH_TRIPCNT : RegFam :=
  ⟨0x2001c, [(0x40, 76)], .act, [
    ⟨31, 0, .cnt, 0, false, false, false, []⟩]⟩
/-- The address of CH_TRIPCNT. -/
abbrev A.CH_TRIPCNT (i : Nat) : Nat := 0x2001c + 0x40 * i

/-- FEED_CFG, 09_load_channels.md. -/
def Reg.FEED_CFG : RegFam :=
  ⟨0x22000, [(0x20, 10)], .act, [
    ⟨31, 16, .rw, 0, true, false, true, [(0, 0), (9000, 36000)]⟩,
    ⟨7, 0, .rw, 0x50, true, false, true, []⟩]⟩
/-- The address of FEED_CFG. -/
abbrev A.FEED_CFG (i : Nat) : Nat := 0x22000 + 0x20 * i

/-- FEED_STAT, 09_load_channels.md. -/
def Reg.FEED_STAT : RegFam :=
  ⟨0x22004, [(0x20, 10)], .act, [
    ⟨31, 16, .ro, 0, false, false, false, []⟩,
    ⟨15, 8, .ro, 0, false, false, false, []⟩,
    ⟨4, 4, .ro, 0, false, false, false, []⟩,
    ⟨3, 3, .ro, 0, false, false, false, []⟩,
    ⟨2, 2, .w1c, 0, false, false, false, []⟩,
    ⟨1, 1, .w1c, 0, false, false, false, []⟩,
    ⟨0, 0, .ro, 0, false, false, false, []⟩]⟩
/-- The address of FEED_STAT. -/
abbrev A.FEED_STAT (i : Nat) : Nat := 0x22004 + 0x20 * i

/-- FEED_CUR, 09_load_channels.md. -/
def Reg.FEED_CUR : RegFam :=
  ⟨0x22008, [(0x20, 10)], .act, [
    ⟨15, 0, .ro, 0, false, false, false, []⟩]⟩
/-- The address of FEED_CUR. -/
abbrev A.FEED_CUR (i : Nat) : Nat := 0x22008 + 0x20 * i

/-- FEED_UVCNT, 09_load_channels.md. -/
def Reg.FEED_UVCNT : RegFam :=
  ⟨0x2200c, [(0x20, 10)], .act, [
    ⟨31, 0, .cnt, 0, false, false, false, []⟩]⟩
/-- The address of FEED_UVCNT. -/
abbrev A.FEED_UVCNT (i : Nat) : Nat := 0x2200c + 0x20 * i

/-- LOAD_GLOBAL, 09_load_channels.md. -/
def Reg.LOAD_GLOBAL : RegFam :=
  ⟨0x23000, [], .act, [
    ⟨10, 0, .rw, 0xfa, true, false, true, [(0, 2000)]⟩]⟩
/-- The address of LOAD_GLOBAL. -/
abbrev A.LOAD_GLOBAL : Nat := 0x23000

/-- CAP_SEL, 09_load_channels.md. -/
def Reg.CAP_SEL : RegFam :=
  ⟨0x23010, [], .act, [
    ⟨6, 0, .rw, 0, false, false, false, [(0, 75)]⟩]⟩
/-- The address of CAP_SEL. -/
abbrev A.CAP_SEL : Nat := 0x23010

/-- CAP_STAT, 09_load_channels.md. -/
def Reg.CAP_STAT : RegFam :=
  ⟨0x23014, [], .act, [
    ⟨31, 31, .ro, 0, false, false, false, []⟩,
    ⟨30, 30, .ro, 0, false, false, false, []⟩,
    ⟨27, 24, .ro, 0, false, false, false, []⟩,
    ⟨15, 0, .ro, 0, false, false, false, []⟩]⟩
/-- The address of CAP_STAT. -/
abbrev A.CAP_STAT : Nat := 0x23014

/-- CAP_T_LO, 09_load_channels.md. -/
def Reg.CAP_T_LO : RegFam :=
  ⟨0x23018, [], .act, [
    ⟨31, 0, .ro, 0, false, false, false, []⟩]⟩
/-- The address of CAP_T_LO. -/
abbrev A.CAP_T_LO : Nat := 0x23018

/-- CAP_T_HI, 09_load_channels.md. -/
def Reg.CAP_T_HI : RegFam :=
  ⟨0x2301c, [], .act, [
    ⟨31, 0, .ro, 0, false, false, false, []⟩]⟩
/-- The address of CAP_T_HI. -/
abbrev A.CAP_T_HI : Nat := 0x2301c

/-- CAP_WIN, 09_load_channels.md. -/
def Reg.CAP_WIN : RegFam :=
  ⟨0x24000, [(4, 2500)], .act, [
    ⟨31, 16, .ro, 0, false, false, false, []⟩,
    ⟨15, 0, .ro, 0, false, false, false, []⟩]⟩
/-- The address of CAP_WIN. -/
abbrev A.CAP_WIN (i : Nat) : Nat := 0x24000 + 4 * i

/-- PWM_DEAD, 10_pwm.md. -/
def Reg.PWM_DEAD : RegFam :=
  ⟨0x30000, [(0x40, 84)], .act, [
    ⟨31, 16, .rw, 0x800, true, false, true, []⟩,
    ⟨15, 0, .rw, 0x800, true, false, true, []⟩]⟩
/-- The address of PWM_DEAD. -/
abbrev A.PWM_DEAD (i : Nat) : Nat := 0x30000 + 0x40 * i

/-- PWM_PERIOD, 10_pwm.md. -/
def Reg.PWM_PERIOD : RegFam :=
  ⟨0x30004, [(0x40, 84)], .act, [
    ⟨31, 0, .ro, 0, false, false, false, []⟩]⟩
/-- The address of PWM_PERIOD. -/
abbrev A.PWM_PERIOD (i : Nat) : Nat := 0x30004 + 0x40 * i

/-- PWM_DUTY, 10_pwm.md. -/
def Reg.PWM_DUTY : RegFam :=
  ⟨0x30008, [(0x40, 84)], .act, [
    ⟨31, 0, .ro, 0, false, false, false, []⟩]⟩
/-- The address of PWM_DUTY. -/
abbrev A.PWM_DUTY (i : Nat) : Nat := 0x30008 + 0x40 * i

/-- PWM_APPL, 10_pwm.md. -/
def Reg.PWM_APPL : RegFam :=
  ⟨0x3000c, [(0x40, 84)], .act, [
    ⟨31, 0, .ro, 0, false, false, false, []⟩]⟩
/-- The address of PWM_APPL. -/
abbrev A.PWM_APPL (i : Nat) : Nat := 0x3000c + 0x40 * i

/-- PWM_PHASE, 10_pwm.md. -/
def Reg.PWM_PHASE : RegFam :=
  ⟨0x30010, [(0x40, 84)], .act, [
    ⟨31, 0, .ro, 0, false, false, false, []⟩]⟩
/-- The address of PWM_PHASE. -/
abbrev A.PWM_PHASE (i : Nat) : Nat := 0x30010 + 0x40 * i

/-- PWM_CNT, 10_pwm.md. -/
def Reg.PWM_CNT : RegFam :=
  ⟨0x30014, [(0x40, 84)], .act, [
    ⟨31, 0, .ro, 0, false, false, false, []⟩]⟩
/-- The address of PWM_CNT. -/
abbrev A.PWM_CNT (i : Nat) : Nat := 0x30014 + 0x40 * i

/-- PWM_STAT, 10_pwm.md. -/
def Reg.PWM_STAT : RegFam :=
  ⟨0x30018, [(0x40, 84)], .act, [
    ⟨7, 7, .ro, 0, false, false, false, []⟩,
    ⟨6, 6, .ro, 0, false, false, false, []⟩,
    ⟨5, 5, .w1c, 0, false, false, false, []⟩,
    ⟨4, 4, .w1c, 0, false, false, false, []⟩,
    ⟨3, 3, .w1c, 0, false, false, false, []⟩,
    ⟨2, 2, .w1c, 0, false, false, false, []⟩,
    ⟨1, 1, .ro, 0, false, false, false, []⟩,
    ⟨0, 0, .ro, 0, false, false, false, []⟩]⟩
/-- The address of PWM_STAT. -/
abbrev A.PWM_STAT (i : Nat) : Nat := 0x30018 + 0x40 * i

/-- PWM_SHORT, 10_pwm.md. -/
def Reg.PWM_SHORT : RegFam :=
  ⟨0x3001c, [(0x40, 84)], .act, [
    ⟨31, 16, .cnt, 0, false, false, false, []⟩,
    ⟨15, 0, .cnt, 0, false, false, false, []⟩]⟩
/-- The address of PWM_SHORT. -/
abbrev A.PWM_SHORT (i : Nat) : Nat := 0x3001c + 0x40 * i

/-- PWM_STRETCH, 10_pwm.md. -/
def Reg.PWM_STRETCH : RegFam :=
  ⟨0x30020, [(0x40, 84)], .act, [
    ⟨31, 0, .cnt, 0, false, false, false, []⟩]⟩
/-- The address of PWM_STRETCH. -/
abbrev A.PWM_STRETCH (i : Nat) : Nat := 0x30020 + 0x40 * i

/-- PWM_CAL, 10_pwm.md. -/
def Reg.PWM_CAL : RegFam :=
  ⟨0x30024, [(0x40, 84)], .act, [
    ⟨23, 16, .cnt, 0, false, false, false, []⟩,
    ⟨15, 8, .ro, 0, false, false, false, []⟩,
    ⟨1, 0, .ro, 0, false, false, false, []⟩]⟩
/-- The address of PWM_CAL. -/
abbrev A.PWM_CAL (i : Nat) : Nat := 0x30024 + 0x40 * i

/-- PWM_BANK, 10_pwm.md. -/
def Reg.PWM_BANK : RegFam :=
  ⟨0x32000, [(0x10, 8)], .act, [
    ⟨23, 16, .ro, 0, false, false, false, []⟩,
    ⟨11, 8, .ro, 0, false, false, false, []⟩,
    ⟨0, 0, .rw, 0, true, false, true, []⟩]⟩
/-- The address of PWM_BANK. -/
abbrev A.PWM_BANK (i : Nat) : Nat := 0x32000 + 0x10 * i

/-- PWM_GLOBAL, 10_pwm.md. -/
def Reg.PWM_GLOBAL : RegFam :=
  ⟨0x33000, [], .act, [
    ⟨31, 31, .krw, 0, false, false, false, []⟩,
    ⟨10, 0, .rw, 0x40, true, false, true, [(8, 1024)]⟩]⟩
/-- The address of PWM_GLOBAL. -/
abbrev A.PWM_GLOBAL : Nat := 0x33000

/-- GNSS_CTRL, 11_gnss.md. -/
def Reg.GNSS_CTRL : RegFam :=
  ⟨0x50000, [], .gns, [
    ⟨31, 31, .w1s, 0, false, true, false, []⟩,
    ⟨12, 8, .rw, 0xa, true, false, true, [(0, 30)]⟩,
    ⟨4, 0, .rw, 0x1f, true, false, true, []⟩]⟩
/-- The address of GNSS_CTRL. -/
abbrev A.GNSS_CTRL : Nat := 0x50000

/-- GNSS_STAT, 11_gnss.md. -/
def Reg.GNSS_STAT : RegFam :=
  ⟨0x50004, [], .gns, [
    ⟨25, 25, .ro, 0, false, false, false, []⟩,
    ⟨24, 24, .ro, 0, false, false, false, []⟩,
    ⟨21, 20, .ro, 0, false, false, false, []⟩,
    ⟨19, 16, .ro, 0, false, false, false, []⟩,
    ⟨15, 8, .ro, 0, false, false, false, []⟩,
    ⟨7, 0, .ro, 0, false, false, false, []⟩]⟩
/-- The address of GNSS_STAT. -/
abbrev A.GNSS_STAT : Nat := 0x50004

/-- CHAIN_STAT, 11_gnss.md. -/
def Reg.CHAIN_STAT : RegFam :=
  ⟨0x50010, [(4, 4)], .gns, [
    ⟨15, 8, .ro, 0, false, false, false, []⟩,
    ⟨7, 0, .ro, 0, false, false, false, []⟩]⟩
/-- The address of CHAIN_STAT. -/
abbrev A.CHAIN_STAT (i : Nat) : Nat := 0x50010 + 4 * i

/-- EPOCH_PHASE, 11_gnss.md. -/
def Reg.EPOCH_PHASE : RegFam :=
  ⟨0x50020, [], .gns, [
    ⟨26, 0, .ro, 0, false, false, false, []⟩]⟩
/-- The address of EPOCH_PHASE. -/
abbrev A.EPOCH_PHASE : Nat := 0x50020

/-- MEAS_CFG, 11_gnss.md. -/
def Reg.MEAS_CFG : RegFam :=
  ⟨0x50024, [], .gns, [
    ⟨31, 31, .rw, 0, false, false, false, []⟩,
    ⟨26, 16, .rw, 0x7ff, false, false, false, []⟩,
    ⟨14, 8, .rw, 1, false, false, false, [(1, 100)]⟩,
    ⟨1, 0, .rw, 3, false, false, false, []⟩]⟩
/-- The address of MEAS_CFG. -/
abbrev A.MEAS_CFG : Nat := 0x50024

/-- TRK_CFG, 11_gnss.md. -/
def Reg.TRK_CFG : RegFam :=
  ⟨0x51000, [(0x10, 200)], .gns, [
    ⟨31, 31, .rw, 0, false, false, false, []⟩,
    ⟨30, 30, .rw, 0, false, false, false, []⟩,
    ⟨25, 24, .rw, 0, false, false, false, []⟩,
    ⟨19, 16, .rw, 0, false, false, false, [(0, 10)]⟩,
    ⟨15, 8, .rw, 0, false, false, false, []⟩,
    ⟨4, 0, .rw, 2, false, false, false, [(1, 20)]⟩]⟩
/-- The address of TRK_CFG. -/
abbrev A.TRK_CFG (i : Nat) : Nat := 0x51000 + 0x10 * i

/-- TRK_LOOP, 11_gnss.md. -/
def Reg.TRK_LOOP : RegFam :=
  ⟨0x51004, [(0x10, 200)], .gns, [
    ⟨31, 24, .rw, 0xa, false, false, false, []⟩,
    ⟨23, 16, .rw, 0x64, false, false, false, [(5, 255)]⟩,
    ⟨15, 8, .rw, 0x14, false, false, false, [(0, 80)]⟩,
    ⟨7, 0, .rw, 0x3c, false, false, false, [(4, 200)]⟩]⟩
/-- The address of TRK_LOOP. -/
abbrev A.TRK_LOOP (i : Nat) : Nat := 0x51004 + 0x10 * i

/-- TRK_STAT, 11_gnss.md. -/
def Reg.TRK_STAT : RegFam :=
  ⟨0x51008, [(0x10, 200)], .gns, [
    ⟨31, 16, .ro, 0, false, false, false, []⟩,
    ⟨15, 8, .ro, 0, false, false, false, []⟩,
    ⟨3, 0, .ro, 0, false, false, false, []⟩]⟩
/-- The address of TRK_STAT. -/
abbrev A.TRK_STAT (i : Nat) : Nat := 0x51008 + 0x10 * i

/-- TRK_DOP, 11_gnss.md. -/
def Reg.TRK_DOP : RegFam :=
  ⟨0x5100c, [(0x10, 200)], .gns, [
    ⟨31, 0, .ro, 0, false, false, false, []⟩]⟩
/-- The address of TRK_DOP. -/
abbrev A.TRK_DOP (i : Nat) : Nat := 0x5100c + 0x10 * i

/-- POSE_CFG, 11_gnss.md. -/
def Reg.POSE_CFG : RegFam :=
  ⟨0x54000, [], .sys, [
    ⟨31, 16, .rw, 0x1388, true, false, true, [(100, 65535)]⟩,
    ⟨15, 8, .rw, 0xc, true, false, true, [(1, 60)]⟩,
    ⟨5, 0, .rw, 0x1e, true, false, true, [(1, 60)]⟩]⟩
/-- The address of POSE_CFG. -/
abbrev A.POSE_CFG : Nat := 0x54000

/-- SPEED_SRC, 11_gnss.md. -/
def Reg.SPEED_SRC : RegFam :=
  ⟨0x54004, [], .sys, [
    ⟨17, 17, .rw, 0, true, false, true, []⟩,
    ⟨16, 16, .rw, 0, true, false, true, []⟩,
    ⟨15, 15, .rw, 0, true, false, true, []⟩,
    ⟨12, 8, .rw, 0, true, false, true, [(0, 23)]⟩,
    ⟨7, 7, .rw, 0, true, false, true, []⟩,
    ⟨4, 0, .rw, 0, true, false, true, [(0, 23)]⟩]⟩
/-- The address of SPEED_SRC. -/
abbrev A.SPEED_SRC : Nat := 0x54004

/-- SPEED_SCALE, 11_gnss.md. -/
def Reg.SPEED_SCALE : RegFam :=
  ⟨0x54008, [(4, 2)], .sys, [
    ⟨31, 0, .ro, 0x10000, true, false, false, []⟩]⟩
/-- The address of SPEED_SCALE. -/
abbrev A.SPEED_SCALE (i : Nat) : Nat := 0x54008 + 4 * i

/-- POSE_STAT, 11_gnss.md. -/
def Reg.POSE_STAT : RegFam :=
  ⟨0x54010, [], .sys, [
    ⟨13, 8, .ro, 0, false, false, false, []⟩,
    ⟨5, 4, .ro, 0, false, false, false, []⟩,
    ⟨3, 3, .ro, 0, false, false, false, []⟩,
    ⟨2, 0, .ro, 0, false, false, false, []⟩]⟩
/-- The address of POSE_STAT. -/
abbrev A.POSE_STAT : Nat := 0x54010

/-- POSE_CNT, 11_gnss.md. -/
def Reg.POSE_CNT : RegFam :=
  ⟨0x54014, [], .sys, [
    ⟨31, 0, .cnt, 0, false, false, false, []⟩]⟩
/-- The address of POSE_CNT. -/
abbrev A.POSE_CNT : Nat := 0x54014

/-- QUAL_CNT, 11_gnss.md. -/
def Reg.QUAL_CNT : RegFam :=
  ⟨0x54018, [], .sys, [
    ⟨31, 0, .cnt, 0, false, false, false, []⟩]⟩
/-- The address of QUAL_CNT. -/
abbrev A.QUAL_CNT : Nat := 0x54018

/-- IMU_STAT, 11_gnss.md. -/
def Reg.IMU_STAT : RegFam :=
  ⟨0x5401c, [], .sys, [
    ⟨2, 2, .ro, 0, false, false, false, []⟩,
    ⟨1, 1, .w1c, 0, false, false, false, []⟩,
    ⟨0, 0, .w1c, 0, false, false, false, []⟩]⟩
/-- The address of IMU_STAT. -/
abbrev A.IMU_STAT : Nat := 0x5401c

/-- HEAD_STAT, 11_gnss.md. -/
def Reg.HEAD_STAT : RegFam :=
  ⟨0x54020, [], .sys, [
    ⟨31, 16, .cnt, 0, false, false, false, []⟩,
    ⟨15, 0, .ro, 0, false, false, false, []⟩]⟩
/-- The address of HEAD_STAT. -/
abbrev A.HEAD_STAT : Nat := 0x54020

/-- IMU_MISS_CNT, 11_gnss.md. -/
def Reg.IMU_MISS_CNT : RegFam :=
  ⟨0x54024, [], .sys, [
    ⟨31, 0, .cnt, 0, false, false, false, []⟩]⟩
/-- The address of IMU_MISS_CNT. -/
abbrev A.IMU_MISS_CNT : Nat := 0x54024

/-- CORR_CFG, 11_gnss.md. -/
def Reg.CORR_CFG : RegFam :=
  ⟨0x54030, [], .sys, [
    ⟨31, 31, .rw, 0, true, false, true, []⟩,
    ⟨13, 8, .rw, 0xa, true, false, true, [(1, 60)]⟩,
    ⟨2, 0, .rw, 7, true, false, true, []⟩]⟩
/-- The address of CORR_CFG. -/
abbrev A.CORR_CFG : Nat := 0x54030

/-- CORR_STAT, 11_gnss.md. -/
def Reg.CORR_STAT : RegFam :=
  ⟨0x54034, [], .sys, [
    ⟨18, 18, .ro, 1, false, false, false, []⟩,
    ⟨17, 17, .w1c, 0, false, false, false, []⟩,
    ⟨16, 16, .ro, 0, false, false, false, []⟩,
    ⟨15, 0, .ro, 0xffff, false, false, false, []⟩]⟩
/-- The address of CORR_STAT. -/
abbrev A.CORR_STAT : Nat := 0x54034

/-- CORR_CNT, 11_gnss.md. -/
def Reg.CORR_CNT : RegFam :=
  ⟨0x54038, [], .sys, [
    ⟨31, 16, .cnt, 0, false, false, false, []⟩,
    ⟨15, 0, .cnt, 0, false, false, false, []⟩]⟩
/-- The address of CORR_CNT. -/
abbrev A.CORR_CNT : Nat := 0x54038

/-- CORR_IGN, 11_gnss.md. -/
def Reg.CORR_IGN : RegFam :=
  ⟨0x5403c, [], .sys, [
    ⟨31, 0, .cnt, 0, false, false, false, []⟩]⟩
/-- The address of CORR_IGN. -/
abbrev A.CORR_IGN : Nat := 0x5403c

/-- CORR_FEED, 11_gnss.md. -/
def Reg.CORR_FEED : RegFam :=
  ⟨0x54040, [], .sys, [
    ⟨7, 0, .rw, 0, false, false, false, []⟩]⟩
/-- The address of CORR_FEED. -/
abbrev A.CORR_FEED : Nat := 0x54040

/-- SNAP_CFG, 11_gnss.md. -/
def Reg.SNAP_CFG : RegFam :=
  ⟨0x58000, [], .sys, [
    ⟨11, 8, .rw, 8, false, false, false, [(1, 8)]⟩,
    ⟨3, 0, .rw, 0xf, false, false, false, []⟩]⟩
/-- The address of SNAP_CFG. -/
abbrev A.SNAP_CFG : Nat := 0x58000

/-- SNAP_CTRL, 11_gnss.md. -/
def Reg.SNAP_CTRL : RegFam :=
  ⟨0x58004, [], .sys, [
    ⟨1, 1, .w1s, 0, false, false, false, []⟩,
    ⟨0, 0, .w1s, 0, false, false, false, []⟩]⟩
/-- The address of SNAP_CTRL. -/
abbrev A.SNAP_CTRL : Nat := 0x58004

/-- SNAP_STAT, 11_gnss.md. -/
def Reg.SNAP_STAT : RegFam :=
  ⟨0x58008, [], .sys, [
    ⟨30, 12, .ro, 0, false, false, false, []⟩,
    ⟨7, 4, .ro, 0, false, false, false, []⟩,
    ⟨2, 2, .ro, 0, false, false, false, []⟩,
    ⟨1, 1, .ro, 0, false, false, false, []⟩,
    ⟨0, 0, .ro, 0, false, false, false, []⟩]⟩
/-- The address of SNAP_STAT. -/
abbrev A.SNAP_STAT : Nat := 0x58008

/-- SNAP_LAT, 11_gnss.md. -/
def Reg.SNAP_LAT : RegFam :=
  ⟨0x58010, [], .sys, [
    ⟨31, 0, .ro, 0, false, false, false, []⟩]⟩
/-- The address of SNAP_LAT. -/
abbrev A.SNAP_LAT : Nat := 0x58010

/-- SNAP_LON, 11_gnss.md. -/
def Reg.SNAP_LON : RegFam :=
  ⟨0x58014, [], .sys, [
    ⟨31, 0, .ro, 0, false, false, false, []⟩]⟩
/-- The address of SNAP_LON. -/
abbrev A.SNAP_LON : Nat := 0x58014

/-- SNAP_HGT, 11_gnss.md. -/
def Reg.SNAP_HGT : RegFam :=
  ⟨0x58018, [], .sys, [
    ⟨31, 0, .ro, 0, false, false, false, []⟩]⟩
/-- The address of SNAP_HGT. -/
abbrev A.SNAP_HGT : Nat := 0x58018

/-- SNAP_SIG, 11_gnss.md. -/
def Reg.SNAP_SIG : RegFam :=
  ⟨0x5801c, [], .sys, [
    ⟨31, 0, .ro, 0, false, false, false, []⟩]⟩
/-- The address of SNAP_SIG. -/
abbrev A.SNAP_SIG : Nat := 0x5801c

/-- SNAP_PAGE, 11_gnss.md. -/
def Reg.SNAP_PAGE : RegFam :=
  ⟨0x58020, [], .sys, [
    ⟨6, 0, .rw, 0, false, false, false, []⟩]⟩
/-- The address of SNAP_PAGE. -/
abbrev A.SNAP_PAGE : Nat := 0x58020

/-- SNAP_WIN, 11_gnss.md. -/
def Reg.SNAP_WIN : RegFam :=
  ⟨0x59000, [(4, 1024)], .sys, [
    ⟨31, 0, .ro, 0, false, false, false, []⟩]⟩
/-- The address of SNAP_WIN. -/
abbrev A.SNAP_WIN (i : Nat) : Nat := 0x59000 + 4 * i

/-- TICK_CFG, 12_time.md. -/
def Reg.TICK_CFG : RegFam :=
  ⟨0x38000, [], .act, [
    ⟨4, 0, .rw, 5, true, false, true, [(2, 20)]⟩]⟩
/-- The address of TICK_CFG. -/
abbrev A.TICK_CFG : Nat := 0x38000

/-- TICK_NUM, 12_time.md. -/
def Reg.TICK_NUM : RegFam :=
  ⟨0x38004, [], .act, [
    ⟨31, 0, .ro, 0, false, false, false, []⟩]⟩
/-- The address of TICK_NUM. -/
abbrev A.TICK_NUM : Nat := 0x38004

/-- TIME_CTRL, 12_time.md. -/
def Reg.TIME_CTRL : RegFam :=
  ⟨0x60000, [], .act, [
    ⟨0, 0, .w1s, 0, false, true, false, []⟩]⟩
/-- The address of TIME_CTRL. -/
abbrev A.TIME_CTRL : Nat := 0x60000

/-- TIME_STAT, 12_time.md. -/
def Reg.TIME_STAT : RegFam :=
  ⟨0x60004, [], .act, [
    ⟨31, 16, .cnt, 0, false, false, false, []⟩,
    ⟨4, 4, .ro, 0, false, false, false, []⟩,
    ⟨3, 3, .ro, 0, false, false, false, []⟩,
    ⟨1, 0, .ro, 0, false, false, false, []⟩]⟩
/-- The address of TIME_STAT. -/
abbrev A.TIME_STAT : Nat := 0x60004

/-- PPS_CFG, 12_time.md. -/
def Reg.PPS_CFG : RegFam :=
  ⟨0x60008, [], .act, [
    ⟨31, 31, .rw, 1, true, false, true, []⟩,
    ⟨8, 0, .rw, 0x64, true, false, true, [(1, 400)]⟩]⟩
/-- The address of PPS_CFG. -/
abbrev A.PPS_CFG : Nat := 0x60008

/-- TIME_HOLD, 12_time.md. -/
def Reg.TIME_HOLD : RegFam :=
  ⟨0x6000c, [], .act, [
    ⟨31, 22, .rw, 0xa, true, false, true, [(1, 1000)]⟩,
    ⟨21, 16, .rw, 0x32, true, false, true, [(1, 50)]⟩,
    ⟨15, 0, .ro, 0x1f4, true, false, false, []⟩]⟩
/-- The address of TIME_HOLD. -/
abbrev A.TIME_HOLD : Nat := 0x6000c

/-- TIME_SET_LO, 12_time.md. -/
def Reg.TIME_SET_LO : RegFam :=
  ⟨0x60010, [], .act, [
    ⟨31, 0, .rw, 0, false, false, false, []⟩]⟩
/-- The address of TIME_SET_LO. -/
abbrev A.TIME_SET_LO : Nat := 0x60010

/-- TIME_SET_HI, 12_time.md. -/
def Reg.TIME_SET_HI : RegFam :=
  ⟨0x60014, [], .act, [
    ⟨31, 0, .rw, 0, false, false, false, []⟩]⟩
/-- The address of TIME_SET_HI. -/
abbrev A.TIME_SET_HI : Nat := 0x60014

/-- TIME_STEP_CNT, 12_time.md. -/
def Reg.TIME_STEP_CNT : RegFam :=
  ⟨0x60018, [], .act, [
    ⟨31, 0, .cnt, 0, false, false, false, []⟩]⟩
/-- The address of TIME_STEP_CNT. -/
abbrev A.TIME_STEP_CNT : Nat := 0x60018

/-- TIME_MSG, 12_time.md. -/
def Reg.TIME_MSG : RegFam :=
  ⟨0x6001c, [], .act, [
    ⟨5, 0, .rw, 0, true, false, true, []⟩]⟩
/-- The address of TIME_MSG. -/
abbrev A.TIME_MSG : Nat := 0x6001c

/-- TM_CFG, 12_time.md. -/
def Reg.TM_CFG : RegFam :=
  ⟨0x60100, [], .act, [
    ⟨31, 31, .rw, 0, true, false, true, []⟩,
    ⟨18, 16, .rw, 0, true, false, true, [(0, 5)]⟩,
    ⟨9, 0, .rw, 0x64, true, false, true, [(10, 1000)]⟩]⟩
/-- The address of TM_CFG. -/
abbrev A.TM_CFG : Nat := 0x60100

/-- TM_REF_ID, 12_time.md. -/
def Reg.TM_REF_ID : RegFam :=
  ⟨0x60104, [], .act, [
    ⟨31, 31, .rw, 1, true, false, true, []⟩,
    ⟨28, 0, .rw, 0, true, false, true, []⟩]⟩
/-- The address of TM_REF_ID. -/
abbrev A.TM_REF_ID : Nat := 0x60104

/-- TM_FOL_ID, 12_time.md. -/
def Reg.TM_FOL_ID : RegFam :=
  ⟨0x60108, [], .act, [
    ⟨31, 31, .rw, 1, true, false, true, []⟩,
    ⟨28, 0, .rw, 0, true, false, true, []⟩]⟩
/-- The address of TM_FOL_ID. -/
abbrev A.TM_FOL_ID : Nat := 0x60108

/-- TM_STAT, 12_time.md. -/
def Reg.TM_STAT : RegFam :=
  ⟨0x6010c, [], .act, [
    ⟨31, 16, .cnt, 0, false, false, false, []⟩,
    ⟨6, 6, .ro, 0, false, false, false, []⟩,
    ⟨5, 0, .ro, 0, false, false, false, []⟩]⟩
/-- The address of TM_STAT. -/
abbrev A.TM_STAT : Nat := 0x6010c

/-- FB_CFG, 13_feedback.md. -/
def Reg.FB_CFG : RegFam :=
  ⟨0x40000, [(0x80, 24)], .fbk, [
    ⟨23, 16, .rw, 0, true, false, true, []⟩,
    ⟨15, 8, .rw, 0, true, false, true, []⟩,
    ⟨7, 6, .rw, 0, true, false, true, [(0, 2)]⟩,
    ⟨5, 5, .rw, 0, true, false, true, []⟩,
    ⟨4, 4, .rw, 0, true, false, true, []⟩,
    ⟨3, 0, .rw, 0, true, false, true, []⟩]⟩
/-- The address of FB_CFG. -/
abbrev A.FB_CFG (i : Nat) : Nat := 0x40000 + 0x80 * i

/-- FB_THR, 13_feedback.md. -/
def Reg.FB_THR : RegFam :=
  ⟨0x40004, [(0x80, 24)], .fbk, [
    ⟨25, 16, .rw, 0xfa, true, false, true, [(80, 800)]⟩,
    ⟨6, 0, .rw, 0x14, true, false, true, [(0, 100)]⟩]⟩
/-- The address of FB_THR. -/
abbrev A.FB_THR (i : Nat) : Nat := 0x40004 + 0x80 * i

/-- FB_FILT, 13_feedback.md. -/
def Reg.FB_FILT : RegFam :=
  ⟨0x40008, [(0x80, 24)], .fbk, [
    ⟨26, 16, .rw, 0x64, true, false, true, [(0, 1280)]⟩,
    ⟨7, 0, .rw, 0, true, false, true, [(0, 250)]⟩]⟩
/-- The address of FB_FILT. -/
abbrev A.FB_FILT (i : Nat) : Nat := 0x40008 + 0x80 * i

/-- FB_CHK, 13_feedback.md. -/
def Reg.FB_CHK : RegFam :=
  ⟨0x4000c, [(0x80, 24)], .fbk, [
    ⟨31, 16, .rw, 0x7d0, true, false, true, [(10, 10000)]⟩,
    ⟨15, 9, .rw, 0, true, false, true, []⟩,
    ⟨8, 0, .rw, 0x1f4, true, false, true, [(1, 500)]⟩]⟩
/-- The address of FB_CHK. -/
abbrev A.FB_CHK (i : Nat) : Nat := 0x4000c + 0x80 * i

/-- FB_SCALE, 13_feedback.md. -/
def Reg.FB_SCALE : RegFam :=
  ⟨0x40010, [(0x80, 24)], .fbk, [
    ⟨31, 0, .rw, 0x10000, true, false, true, []⟩]⟩
/-- The address of FB_SCALE. -/
abbrev A.FB_SCALE (i : Nat) : Nat := 0x40010 + 0x80 * i

/-- FB_COUNT, 13_feedback.md. -/
def Reg.FB_COUNT : RegFam :=
  ⟨0x40014, [(0x80, 24)], .fbk, [
    ⟨31, 0, .cnt, 0, false, false, false, []⟩]⟩
/-- The address of FB_COUNT. -/
abbrev A.FB_COUNT (i : Nat) : Nat := 0x40014 + 0x80 * i

/-- FB_SPEED, 13_feedback.md. -/
def Reg.FB_SPEED : RegFam :=
  ⟨0x40018, [(0x80, 24)], .fbk, [
    ⟨15, 0, .ro, 0, false, false, false, []⟩]⟩
/-- The address of FB_SPEED. -/
abbrev A.FB_SPEED (i : Nat) : Nat := 0x40018 + 0x80 * i

/-- FB_PERIOD, 13_feedback.md. -/
def Reg.FB_PERIOD : RegFam :=
  ⟨0x4001c, [(0x80, 24)], .fbk, [
    ⟨31, 0, .ro, 0, false, false, false, []⟩]⟩
/-- The address of FB_PERIOD. -/
abbrev A.FB_PERIOD (i : Nat) : Nat := 0x4001c + 0x80 * i

/-- FB_ERRCNT, 13_feedback.md. -/
def Reg.FB_ERRCNT : RegFam :=
  ⟨0x40024, [(0x80, 24)], .fbk, [
    ⟨31, 16, .cnt, 0, false, false, false, []⟩,
    ⟨15, 0, .cnt, 0, false, false, false, []⟩]⟩
/-- The address of FB_ERRCNT. -/
abbrev A.FB_ERRCNT (i : Nat) : Nat := 0x40024 + 0x80 * i

/-- FB_CTRL, 13_feedback.md. -/
def Reg.FB_CTRL : RegFam :=
  ⟨0x40028, [(0x80, 24)], .fbk, [
    ⟨0, 0, .w1s, 0, false, false, false, []⟩]⟩
/-- The address of FB_CTRL. -/
abbrev A.FB_CTRL (i : Nat) : Nat := 0x40028 + 0x80 * i

/-- FB_STAT, 13_feedback.md. -/
def Reg.FB_STAT : RegFam :=
  ⟨0x40020, [(0x80, 24)], .fbk, [
    ⟨16, 16, .w1c, 0, false, false, false, []⟩,
    ⟨15, 12, .w1c, 0, false, false, false, []⟩,
    ⟨11, 8, .w1c, 0, false, false, false, []⟩,
    ⟨7, 7, .w1c, 0, false, false, false, []⟩,
    ⟨6, 6, .ro, 0, false, false, false, []⟩,
    ⟨5, 5, .w1c, 0, false, false, false, []⟩,
    ⟨4, 4, .ro, 0, false, false, false, []⟩,
    ⟨3, 3, .ro, 0, false, false, false, []⟩,
    ⟨2, 2, .ro, 1, false, false, false, []⟩,
    ⟨1, 1, .ro, 0, false, false, false, []⟩,
    ⟨0, 0, .ro, 0, false, false, false, []⟩]⟩
/-- The address of FB_STAT. -/
abbrev A.FB_STAT (i : Nat) : Nat := 0x40020 + 0x80 * i

/-- FB_CMPCTRL, 13_feedback.md. -/
def Reg.FB_CMPCTRL : RegFam :=
  ⟨0x4002c, [(0x80, 24)], .fbk, [
    ⟨3, 0, .rw, 0, false, false, false, []⟩]⟩
/-- The address of FB_CMPCTRL. -/
abbrev A.FB_CMPCTRL (i : Nat) : Nat := 0x4002c + 0x80 * i

/-- FB_CMPVAL, 13_feedback.md. -/
def Reg.FB_CMPVAL : RegFam :=
  ⟨0x40030, [(0x80, 24), (4, 4)], .fbk, [
    ⟨31, 0, .rw, 0, false, false, false, []⟩]⟩
/-- The address of FB_CMPVAL. -/
abbrev A.FB_CMPVAL (i : Nat) (j : Nat) : Nat := 0x40030 + 0x80 * i + 4 * j

/-- FB_CMPSTEP, 13_feedback.md. -/
def Reg.FB_CMPSTEP : RegFam :=
  ⟨0x40040, [(0x80, 24), (4, 4)], .fbk, [
    ⟨31, 0, .rw, 0, false, false, false, []⟩]⟩
/-- The address of FB_CMPSTEP. -/
abbrev A.FB_CMPSTEP (i : Nat) (j : Nat) : Nat := 0x40040 + 0x80 * i + 4 * j

/-- FB_CMPLATE, 13_feedback.md. -/
def Reg.FB_CMPLATE : RegFam :=
  ⟨0x40050, [(0x80, 24), (4, 4)], .fbk, [
    ⟨15, 0, .ro, 0, false, false, false, []⟩]⟩
/-- The address of FB_CMPLATE. -/
abbrev A.FB_CMPLATE (i : Nat) (j : Nat) : Nat := 0x40050 + 0x80 * i + 4 * j

/-- FB_SSI, 13_feedback.md. -/
def Reg.FB_SSI : RegFam :=
  ⟨0x40060, [(0x80, 24)], .fbk, [
    ⟨29, 24, .rw, 0x10, true, false, true, [(8, 32)]⟩,
    ⟨23, 23, .rw, 0, true, false, true, []⟩,
    ⟨22, 22, .rw, 0, true, false, true, []⟩,
    ⟨21, 21, .rw, 0, true, false, true, []⟩,
    ⟨18, 16, .rw, 0, true, false, true, []⟩,
    ⟨15, 8, .rw, 0x32, true, false, true, [(10, 100)]⟩,
    ⟨7, 0, .rw, 0xa, true, false, true, [(1, 250)]⟩]⟩
/-- The address of FB_SSI. -/
abbrev A.FB_SSI (i : Nat) : Nat := 0x40060 + 0x80 * i

/-- FB_SSIVAL, 13_feedback.md. -/
def Reg.FB_SSIVAL : RegFam :=
  ⟨0x40064, [(0x80, 24)], .fbk, [
    ⟨31, 0, .ro, 0, false, false, false, []⟩]⟩
/-- The address of FB_SSIVAL. -/
abbrev A.FB_SSIVAL (i : Nat) : Nat := 0x40064 + 0x80 * i

/-- FB_SSICNT, 13_feedback.md. -/
def Reg.FB_SSICNT : RegFam :=
  ⟨0x40068, [(0x80, 24)], .fbk, [
    ⟨31, 16, .cnt, 0, false, false, false, []⟩,
    ⟨15, 0, .cnt, 0, false, false, false, []⟩]⟩
/-- The address of FB_SSICNT. -/
abbrev A.FB_SSICNT (i : Nat) : Nat := 0x40068 + 0x80 * i

/-- AI_CFG, 13_feedback.md. -/
def Reg.AI_CFG : RegFam :=
  ⟨0x41000, [(0x10, 16)], .fbk, [
    ⟨31, 31, .rw, 0, true, false, true, []⟩,
    ⟨15, 8, .rw, 0, true, false, true, []⟩,
    ⟨1, 0, .rw, 0, true, false, true, [(0, 2)]⟩]⟩
/-- The address of AI_CFG. -/
abbrev A.AI_CFG (i : Nat) : Nat := 0x41000 + 0x10 * i

/-- AI_WIN, 13_feedback.md. -/
def Reg.AI_WIN : RegFam :=
  ⟨0x41004, [(0x10, 16)], .fbk, [
    ⟨27, 16, .rw, 0xfff, true, false, true, []⟩,
    ⟨11, 0, .rw, 0, true, false, true, []⟩]⟩
/-- The address of AI_WIN. -/
abbrev A.AI_WIN (i : Nat) : Nat := 0x41004 + 0x10 * i

/-- AI_VAL, 13_feedback.md. -/
def Reg.AI_VAL : RegFam :=
  ⟨0x41008, [(0x10, 16)], .fbk, [
    ⟨27, 16, .ro, 0, false, false, false, []⟩,
    ⟨11, 0, .ro, 0, false, false, false, []⟩]⟩
/-- The address of AI_VAL. -/
abbrev A.AI_VAL (i : Nat) : Nat := 0x41008 + 0x10 * i

/-- AI_STAT, 13_feedback.md. -/
def Reg.AI_STAT : RegFam :=
  ⟨0x4100c, [(0x10, 16)], .fbk, [
    ⟨3, 3, .ro, 0, false, false, false, []⟩,
    ⟨2, 2, .w1c, 0, false, false, false, []⟩,
    ⟨1, 1, .ro, 1, false, false, false, []⟩,
    ⟨0, 0, .ro, 0, false, false, false, []⟩]⟩
/-- The address of AI_STAT. -/
abbrev A.AI_STAT (i : Nat) : Nat := 0x4100c + 0x10 * i

/-- AI_ERRCNT, 13_feedback.md. -/
def Reg.AI_ERRCNT : RegFam :=
  ⟨0x41100, [(4, 16)], .fbk, [
    ⟨31, 0, .cnt, 0, false, false, false, []⟩]⟩
/-- The address of AI_ERRCNT. -/
abbrev A.AI_ERRCNT (i : Nat) : Nat := 0x41100 + 4 * i

/-- PT_CFG, 13_feedback.md. -/
def Reg.PT_CFG : RegFam :=
  ⟨0x42000, [(0x10, 8)], .fbk, [
    ⟨31, 24, .rw, 0xa, true, false, true, [(1, 255)]⟩,
    ⟨17, 17, .rw, 0, true, false, true, []⟩,
    ⟨16, 16, .rw, 0, true, false, true, []⟩,
    ⟨14, 13, .rw, 0, true, false, true, []⟩,
    ⟨12, 8, .rw, 0, true, false, true, [(0, 23)]⟩,
    ⟨2, 0, .rw, 0, true, false, true, []⟩]⟩
/-- The address of PT_CFG. -/
abbrev A.PT_CFG (i : Nat) : Nat := 0x42000 + 0x10 * i

/-- PT_PPM, 13_feedback.md. -/
def Reg.PT_PPM : RegFam :=
  ⟨0x42004, [(0x10, 8)], .fbk, [
    ⟨31, 0, .rw, 0, true, false, true, []⟩]⟩
/-- The address of PT_PPM. -/
abbrev A.PT_PPM (i : Nat) : Nat := 0x42004 + 0x10 * i

/-- PT_STAT, 13_feedback.md. -/
def Reg.PT_STAT : RegFam :=
  ⟨0x42008, [(0x10, 8)], .fbk, [
    ⟨31, 16, .ro, 0, false, false, false, []⟩,
    ⟨2, 2, .ro, 0, false, false, false, []⟩,
    ⟨1, 1, .w1c, 0, false, false, false, []⟩,
    ⟨0, 0, .ro, 0, false, false, false, []⟩]⟩
/-- The address of PT_STAT. -/
abbrev A.PT_STAT (i : Nat) : Nat := 0x42008 + 0x10 * i

/-- FB_GLOBAL, 13_feedback.md. -/
def Reg.FB_GLOBAL : RegFam :=
  ⟨0x43000, [], .fbk, [
    ⟨2, 2, .rw, 0, true, false, true, []⟩,
    ⟨1, 1, .rw, 0, true, false, true, []⟩,
    ⟨0, 0, .rw, 0, true, false, true, []⟩]⟩
/-- The address of FB_GLOBAL. -/
abbrev A.FB_GLOBAL : Nat := 0x43000

/-- PORT_CTRL, 14_implement_bus.md. -/
def Reg.PORT_CTRL : RegFam :=
  ⟨0x80000, [(0x10000, 6)], .bus, [
    ⟨4, 4, .w1s, 0, false, false, false, []⟩,
    ⟨3, 3, .w1s, 0, false, false, false, []⟩,
    ⟨2, 2, .w1s, 0, false, false, false, []⟩,
    ⟨0, 0, .rw, 1, true, false, true, []⟩]⟩
/-- The address of PORT_CTRL. -/
abbrev A.PORT_CTRL (i : Nat) : Nat := 0x80000 + 0x10000 * i

/-- PORT_CFG, 14_implement_bus.md. -/
def Reg.PORT_CFG : RegFam :=
  ⟨0x80004, [(0x10000, 6)], .bus, [
    ⟨15, 8, .rw, 0x80, true, false, false, []⟩,
    ⟨7, 7, .rw, 1, true, false, true, []⟩,
    ⟨6, 6, .rw, 0, true, false, true, []⟩,
    ⟨5, 5, .rw, 0, true, false, true, []⟩,
    ⟨4, 4, .rw, 1, true, false, true, []⟩,
    ⟨3, 3, .rw, 0, true, false, true, []⟩,
    ⟨2, 2, .rw, 0, true, false, true, []⟩,
    ⟨1, 1, .rw, 0, true, false, true, []⟩,
    ⟨0, 0, .rw, 0, true, false, true, []⟩]⟩
/-- The address of PORT_CFG. -/
abbrev A.PORT_CFG (i : Nat) : Nat := 0x80004 + 0x10000 * i

/-- PORT_STAT, 14_implement_bus.md. -/
def Reg.PORT_STAT : RegFam :=
  ⟨0x80008, [(0x10000, 6)], .bus, [
    ⟨13, 13, .w1c, 0, false, false, false, []⟩,
    ⟨12, 12, .w1c, 0, false, false, false, []⟩,
    ⟨11, 11, .w1c, 0, false, false, false, []⟩,
    ⟨10, 10, .w1c, 0, false, false, false, []⟩,
    ⟨9, 9, .w1c, 0, false, false, false, []⟩,
    ⟨8, 8, .ro, 0, false, false, false, []⟩,
    ⟨7, 4, .ro, 0, false, false, false, []⟩,
    ⟨3, 3, .ro, 0, false, false, false, []⟩,
    ⟨2, 0, .ro, 0, false, false, false, []⟩]⟩
/-- The address of PORT_STAT. -/
abbrev A.PORT_STAT (i : Nat) : Nat := 0x80008 + 0x10000 * i

/-- PORT_ERR, 14_implement_bus.md. -/
def Reg.PORT_ERR : RegFam :=
  ⟨0x8000c, [(0x10000, 6)], .bus, [
    ⟨23, 16, .ro, 0, false, false, false, []⟩,
    ⟨8, 0, .ro, 0, false, false, false, []⟩]⟩
/-- The address of PORT_ERR. -/
abbrev A.PORT_ERR (i : Nat) : Nat := 0x8000c + 0x10000 * i

/-- PORT_NBT, 14_implement_bus.md. -/
def Reg.PORT_NBT : RegFam :=
  ⟨0x80010, [(0x10000, 6)], .bus, [
    ⟨29, 23, .rw, 9, true, false, true, []⟩,
    ⟨22, 16, .rw, 9, true, false, true, []⟩,
    ⟨15, 8, .rw, 0x44, true, false, true, []⟩,
    ⟨7, 0, .rw, 3, true, false, true, []⟩]⟩
/-- The address of PORT_NBT. -/
abbrev A.PORT_NBT (i : Nat) : Nat := 0x80010 + 0x10000 * i

/-- PORT_DBT, 14_implement_bus.md. -/
def Reg.PORT_DBT : RegFam :=
  ⟨0x80014, [(0x10000, 6)], .bus, [
    ⟨27, 24, .rw, 9, true, false, true, []⟩,
    ⟨19, 16, .rw, 9, true, false, true, []⟩,
    ⟨12, 8, .rw, 0x1c, true, false, true, []⟩,
    ⟨4, 0, .rw, 0, true, false, true, []⟩]⟩
/-- The address of PORT_DBT. -/
abbrev A.PORT_DBT (i : Nat) : Nat := 0x80014 + 0x10000 * i

/-- PORT_XBT, 14_implement_bus.md. -/
def Reg.PORT_XBT : RegFam :=
  ⟨0x80018, [(0x10000, 6)], .bus, [
    ⟨27, 24, .rw, 9, true, false, true, []⟩,
    ⟨19, 16, .rw, 9, true, false, true, []⟩,
    ⟨12, 8, .rw, 0x1c, true, false, true, []⟩,
    ⟨4, 0, .rw, 0, true, false, true, []⟩]⟩
/-- The address of PORT_XBT. -/
abbrev A.PORT_XBT (i : Nat) : Nat := 0x80018 + 0x10000 * i

/-- PORT_TDC, 14_implement_bus.md. -/
def Reg.PORT_TDC : RegFam :=
  ⟨0x8001c, [(0x10000, 6)], .bus, [
    ⟨31, 31, .rw, 0, true, false, true, []⟩,
    ⟨22, 16, .ro, 0, false, false, false, []⟩,
    ⟨6, 0, .rw, 0x1e, true, false, true, []⟩]⟩
/-- The address of PORT_TDC. -/
abbrev A.PORT_TDC (i : Nat) : Nat := 0x8001c + 0x10000 * i

/-- PORT_TXCNT, 14_implement_bus.md. -/
def Reg.PORT_TXCNT : RegFam :=
  ⟨0x80020, [(0x10000, 6)], .bus, [
    ⟨31, 0, .cnt, 0, false, false, false, []⟩]⟩
/-- The address of PORT_TXCNT. -/
abbrev A.PORT_TXCNT (i : Nat) : Nat := 0x80020 + 0x10000 * i

/-- PORT_RXCNT, 14_implement_bus.md. -/
def Reg.PORT_RXCNT : RegFam :=
  ⟨0x80024, [(0x10000, 6)], .bus, [
    ⟨31, 16, .cnt, 0, false, false, false, []⟩,
    ⟨15, 0, .cnt, 0, false, false, false, []⟩]⟩
/-- The address of PORT_RXCNT. -/
abbrev A.PORT_RXCNT (i : Nat) : Nat := 0x80024 + 0x10000 * i

/-- PORT_ERRCNT, 14_implement_bus.md. -/
def Reg.PORT_ERRCNT : RegFam :=
  ⟨0x80028, [(0x10000, 6)], .bus, [
    ⟨31, 16, .cnt, 0, false, false, false, []⟩,
    ⟨15, 0, .cnt, 0, false, false, false, []⟩]⟩
/-- The address of PORT_ERRCNT. -/
abbrev A.PORT_ERRCNT (i : Nat) : Nat := 0x80028 + 0x10000 * i

/-- PORT_BOFFCNT, 14_implement_bus.md. -/
def Reg.PORT_BOFFCNT : RegFam :=
  ⟨0x8002c, [(0x10000, 6)], .bus, [
    ⟨31, 16, .cnt, 0, false, false, false, []⟩,
    ⟨15, 0, .cnt, 0, false, false, false, []⟩]⟩
/-- The address of PORT_BOFFCNT. -/
abbrev A.PORT_BOFFCNT (i : Nat) : Nat := 0x8002c + 0x10000 * i

/-- WAKE_CFG, 14_implement_bus.md. -/
def Reg.WAKE_CFG : RegFam :=
  ⟨0x80030, [(0x10000, 6)], .bus, [
    ⟨11, 8, .rw, 0, true, false, true, [(0, 8)]⟩,
    ⟨1, 0, .rw, 0, true, false, true, [(0, 2)]⟩]⟩
/-- The address of WAKE_CFG. -/
abbrev A.WAKE_CFG (i : Nat) : Nat := 0x80030 + 0x10000 * i

/-- WAKE_ID, 14_implement_bus.md. -/
def Reg.WAKE_ID : RegFam :=
  ⟨0x80034, [(0x10000, 6)], .bus, [
    ⟨29, 29, .rw, 0, true, false, true, []⟩,
    ⟨28, 0, .rw, 0, true, false, true, []⟩]⟩
/-- The address of WAKE_ID. -/
abbrev A.WAKE_ID (i : Nat) : Nat := 0x80034 + 0x10000 * i

/-- WAKE_IDMASK, 14_implement_bus.md. -/
def Reg.WAKE_IDMASK : RegFam :=
  ⟨0x80038, [(0x10000, 6)], .bus, [
    ⟨28, 0, .rw, 0, true, false, true, []⟩]⟩
/-- The address of WAKE_IDMASK. -/
abbrev A.WAKE_IDMASK (i : Nat) : Nat := 0x80038 + 0x10000 * i

/-- WAKE_DMASK_LO, 14_implement_bus.md. -/
def Reg.WAKE_DMASK_LO : RegFam :=
  ⟨0x8003c, [(0x10000, 6)], .bus, [
    ⟨31, 0, .rw, 0, true, false, true, []⟩]⟩
/-- The address of WAKE_DMASK_LO. -/
abbrev A.WAKE_DMASK_LO (i : Nat) : Nat := 0x8003c + 0x10000 * i

/-- WAKE_DMASK_HI, 14_implement_bus.md. -/
def Reg.WAKE_DMASK_HI : RegFam :=
  ⟨0x80040, [(0x10000, 6)], .bus, [
    ⟨31, 0, .rw, 0, true, false, true, []⟩]⟩
/-- The address of WAKE_DMASK_HI. -/
abbrev A.WAKE_DMASK_HI (i : Nat) : Nat := 0x80040 + 0x10000 * i

/-- PORT_CORR_ID, 14_implement_bus.md. -/
def Reg.PORT_CORR_ID : RegFam :=
  ⟨0x80044, [(0x10000, 6)], .bus, [
    ⟨31, 31, .rw, 0, true, false, true, []⟩,
    ⟨29, 29, .rw, 0, true, false, true, []⟩,
    ⟨28, 0, .rw, 0, true, false, true, []⟩]⟩
/-- The address of PORT_CORR_ID. -/
abbrev A.PORT_CORR_ID (i : Nat) : Nat := 0x80044 + 0x10000 * i

/-- PORT_CORR_IDMASK, 14_implement_bus.md. -/
def Reg.PORT_CORR_IDMASK : RegFam :=
  ⟨0x80048, [(0x10000, 6)], .bus, [
    ⟨28, 0, .rw, 0, true, false, true, []⟩]⟩
/-- The address of PORT_CORR_IDMASK. -/
abbrev A.PORT_CORR_IDMASK (i : Nat) : Nat := 0x80048 + 0x10000 * i

/-- SF_ID, 14_implement_bus.md. -/
def Reg.SF_ID : RegFam :=
  ⟨0x80100, [(0x10000, 6), (0x10, 32)], .bus, [
    ⟨31, 31, .rw, 0, true, false, true, []⟩,
    ⟨29, 29, .rw, 0, true, false, true, []⟩,
    ⟨28, 0, .rw, 0, true, false, true, []⟩]⟩
/-- The address of SF_ID. -/
abbrev A.SF_ID (i : Nat) (j : Nat) : Nat := 0x80100 + 0x10000 * i + 0x10 * j

/-- SF_MASK, 14_implement_bus.md. -/
def Reg.SF_MASK : RegFam :=
  ⟨0x80104, [(0x10000, 6), (0x10, 32)], .bus, [
    ⟨31, 30, .rw, 0, true, false, true, []⟩,
    ⟨28, 0, .rw, 0, true, false, true, []⟩]⟩
/-- The address of SF_MASK. -/
abbrev A.SF_MASK (i : Nat) (j : Nat) : Nat := 0x80104 + 0x10000 * i + 0x10 * j

/-- SF_CHK, 14_implement_bus.md. -/
def Reg.SF_CHK : RegFam :=
  ⟨0x80108, [(0x10000, 6), (0x10, 32)], .bus, [
    ⟨31, 31, .rw, 0, true, false, true, []⟩,
    ⟨30, 24, .rw, 0, true, false, true, []⟩,
    ⟨23, 23, .rw, 0, true, false, true, []⟩,
    ⟨22, 22, .rw, 0, true, false, true, []⟩,
    ⟨21, 16, .rw, 0, true, false, true, [(0, 62)]⟩,
    ⟨15, 0, .rw, 0, true, false, true, []⟩]⟩
/-- The address of SF_CHK. -/
abbrev A.SF_CHK (i : Nat) (j : Nat) : Nat := 0x80108 + 0x10000 * i + 0x10 * j

/-- SF_RANGE, 14_implement_bus.md. -/
def Reg.SF_RANGE : RegFam :=
  ⟨0x8010c, [(0x10000, 6), (0x10, 32)], .bus, [
    ⟨31, 16, .rw, 0, true, false, true, []⟩,
    ⟨15, 0, .rw, 0, true, false, true, []⟩]⟩
/-- The address of SF_RANGE. -/
abbrev A.SF_RANGE (i : Nat) (j : Nat) : Nat := 0x8010c + 0x10000 * i + 0x10 * j

/-- ISO_CFG, 14_implement_bus.md. -/
def Reg.ISO_CFG : RegFam :=
  ⟨0x80800, [(0x10000, 6)], .bus, [
    ⟨31, 31, .rw, 0, true, false, true, []⟩,
    ⟨30, 30, .rw, 1, true, false, true, []⟩,
    ⟨29, 29, .rw, 1, true, false, true, []⟩,
    ⟨7, 0, .rw, 0x86, true, false, false, [(0, 253)]⟩]⟩
/-- The address of ISO_CFG. -/
abbrev A.ISO_CFG (i : Nat) : Nat := 0x80800 + 0x10000 * i

/-- ISO_NAME_LO, 14_implement_bus.md. -/
def Reg.ISO_NAME_LO : RegFam :=
  ⟨0x80804, [(0x10000, 6)], .bus, [
    ⟨31, 0, .rw, 0, true, false, false, []⟩]⟩
/-- The address of ISO_NAME_LO. -/
abbrev A.ISO_NAME_LO (i : Nat) : Nat := 0x80804 + 0x10000 * i

/-- ISO_NAME_HI, 14_implement_bus.md. -/
def Reg.ISO_NAME_HI : RegFam :=
  ⟨0x80808, [(0x10000, 6)], .bus, [
    ⟨31, 0, .rw, 0, true, false, false, []⟩]⟩
/-- The address of ISO_NAME_HI. -/
abbrev A.ISO_NAME_HI (i : Nat) : Nat := 0x80808 + 0x10000 * i

/-- ISO_STAT, 14_implement_bus.md. -/
def Reg.ISO_STAT : RegFam :=
  ⟨0x8080c, [(0x10000, 6)], .bus, [
    ⟨17, 17, .w1c, 0, false, false, false, []⟩,
    ⟨16, 16, .w1c, 0, false, false, false, []⟩,
    ⟨10, 8, .ro, 0, false, false, false, []⟩,
    ⟨7, 0, .ro, 0xfe, false, false, false, []⟩]⟩
/-- The address of ISO_STAT. -/
abbrev A.ISO_STAT (i : Nat) : Nat := 0x8080c + 0x10000 * i

/-- TP_CNT, 14_implement_bus.md. -/
def Reg.TP_CNT : RegFam :=
  ⟨0x80810, [(0x10000, 6)], .bus, [
    ⟨31, 16, .cnt, 0, false, false, false, []⟩,
    ⟨15, 0, .cnt, 0, false, false, false, []⟩]⟩
/-- The address of TP_CNT. -/
abbrev A.TP_CNT (i : Nat) : Nat := 0x80810 + 0x10000 * i

/-- OBJ_CFG, 14_implement_bus.md. -/
def Reg.OBJ_CFG : RegFam :=
  ⟨0x81000, [(0x10000, 6), (0x80, 128)], .bus, [
    ⟨31, 31, .rw, 0, false, false, false, []⟩,
    ⟨13, 12, .rw, 0, false, false, false, [(0, 2)]⟩,
    ⟨6, 0, .rw, 0, false, false, false, []⟩]⟩
/-- The address of OBJ_CFG. -/
abbrev A.OBJ_CFG (i : Nat) (j : Nat) : Nat := 0x81000 + 0x10000 * i + 0x80 * j

/-- OBJ_ID, 14_implement_bus.md. -/
def Reg.OBJ_ID : RegFam :=
  ⟨0x81004, [(0x10000, 6), (0x80, 128)], .bus, [
    ⟨31, 31, .rw, 0, true, false, true, []⟩,
    ⟨29, 29, .rw, 0, true, false, true, []⟩,
    ⟨28, 0, .rw, 0, true, false, true, []⟩]⟩
/-- The address of OBJ_ID. -/
abbrev A.OBJ_ID (i : Nat) (j : Nat) : Nat := 0x81004 + 0x10000 * i + 0x80 * j

/-- OBJ_MASK, 14_implement_bus.md. -/
def Reg.OBJ_MASK : RegFam :=
  ⟨0x81008, [(0x10000, 6), (0x80, 128)], .bus, [
    ⟨31, 30, .rw, 0, true, false, true, []⟩,
    ⟨28, 0, .rw, 0, true, false, true, []⟩]⟩
/-- The address of OBJ_MASK. -/
abbrev A.OBJ_MASK (i : Nat) (j : Nat) : Nat := 0x81008 + 0x10000 * i + 0x80 * j

/-- OBJ_CHK, 14_implement_bus.md. -/
def Reg.OBJ_CHK : RegFam :=
  ⟨0x8100c, [(0x10000, 6), (0x80, 128)], .bus, [
    ⟨31, 31, .rw, 0, true, false, true, []⟩,
    ⟨30, 24, .rw, 0, true, false, true, []⟩,
    ⟨23, 23, .rw, 0, true, false, true, []⟩,
    ⟨22, 22, .rw, 0, true, false, true, []⟩,
    ⟨21, 16, .rw, 0, true, false, true, [(0, 62)]⟩,
    ⟨15, 0, .rw, 0, true, false, true, []⟩]⟩
/-- The address of OBJ_CHK. -/
abbrev A.OBJ_CHK (i : Nat) (j : Nat) : Nat := 0x8100c + 0x10000 * i + 0x80 * j

/-- OBJ_RANGE, 14_implement_bus.md. -/
def Reg.OBJ_RANGE : RegFam :=
  ⟨0x81010, [(0x10000, 6), (0x80, 128)], .bus, [
    ⟨31, 16, .rw, 0, true, false, true, []⟩,
    ⟨15, 0, .rw, 0, true, false, true, []⟩]⟩
/-- The address of OBJ_RANGE. -/
abbrev A.OBJ_RANGE (i : Nat) (j : Nat) : Nat := 0x81010 + 0x10000 * i + 0x80 * j

/-- OBJ_STAT, 14_implement_bus.md. -/
def Reg.OBJ_STAT : RegFam :=
  ⟨0x81014, [(0x10000, 6), (0x80, 128)], .bus, [
    ⟨7, 7, .w1c, 0, false, false, false, []⟩,
    ⟨6, 6, .w1c, 0, false, false, false, []⟩,
    ⟨5, 5, .w1c, 0, false, false, false, []⟩,
    ⟨4, 4, .w1c, 0, false, false, false, []⟩,
    ⟨3, 3, .w1c, 0, false, false, false, []⟩]⟩
/-- The address of OBJ_STAT. -/
abbrev A.OBJ_STAT (i : Nat) (j : Nat) : Nat := 0x81014 + 0x10000 * i + 0x80 * j

/-- OBJ_CTRL, 14_implement_bus.md. -/
def Reg.OBJ_CTRL : RegFam :=
  ⟨0x81018, [(0x10000, 6), (0x80, 128)], .bus, [
    ⟨1, 1, .w1s, 0, false, false, false, []⟩,
    ⟨0, 0, .w1s, 0, false, false, false, []⟩]⟩
/-- The address of OBJ_CTRL. -/
abbrev A.OBJ_CTRL (i : Nat) (j : Nat) : Nat := 0x81018 + 0x10000 * i + 0x80 * j

/-- OBJ_T_LO, 14_implement_bus.md. -/
def Reg.OBJ_T_LO : RegFam :=
  ⟨0x8101c, [(0x10000, 6), (0x80, 128)], .bus, [
    ⟨31, 0, .ro, 0, false, false, false, []⟩]⟩
/-- The address of OBJ_T_LO. -/
abbrev A.OBJ_T_LO (i : Nat) (j : Nat) : Nat := 0x8101c + 0x10000 * i + 0x80 * j

/-- OBJ_T_HI, 14_implement_bus.md. -/
def Reg.OBJ_T_HI : RegFam :=
  ⟨0x81020, [(0x10000, 6), (0x80, 128)], .bus, [
    ⟨31, 0, .ro, 0, false, false, false, []⟩]⟩
/-- The address of OBJ_T_HI. -/
abbrev A.OBJ_T_HI (i : Nat) (j : Nat) : Nat := 0x81020 + 0x10000 * i + 0x80 * j

/-- OBJ_DATA, 14_implement_bus.md. -/
def Reg.OBJ_DATA : RegFam :=
  ⟨0x81040, [(0x10000, 6), (0x80, 128), (4, 16)], .bus, [
    ⟨31, 0, .rw, 0, false, false, false, []⟩]⟩
/-- The address of OBJ_DATA. -/
abbrev A.OBJ_DATA (i : Nat) (j : Nat) (k : Nat) : Nat := 0x81040 + 0x10000 * i + 0x80 * j + 4 * k

/-- AGATE_CTRL, 15_event_recorder.md. -/
def Reg.AGATE_CTRL : RegFam :=
  ⟨0xe0000, [], .sys, [
    ⟨3, 3, .w1s, 0, false, true, false, []⟩,
    ⟨2, 2, .w1s, 0, false, false, false, []⟩,
    ⟨1, 1, .w1s, 0, false, false, false, []⟩,
    ⟨0, 0, .w1s, 0, false, false, false, []⟩]⟩
/-- The address of AGATE_CTRL. -/
abbrev A.AGATE_CTRL : Nat := 0xe0000

/-- AGATE_STAT, 15_event_recorder.md. -/
def Reg.AGATE_STAT : RegFam :=
  ⟨0xe0004, [], .sys, [
    ⟨14, 8, .ro, 0, false, false, false, []⟩,
    ⟨4, 4, .w1c, 0, false, false, false, []⟩,
    ⟨3, 3, .w1c, 0, false, false, false, []⟩,
    ⟨2, 2, .w1c, 0, false, false, false, []⟩,
    ⟨1, 1, .ro, 0, false, false, false, []⟩,
    ⟨0, 0, .ro, 0, false, false, false, []⟩]⟩
/-- The address of AGATE_STAT. -/
abbrev A.AGATE_STAT : Nat := 0xe0004

/-- AGATE_RD_CFG, 15_event_recorder.md. -/
def Reg.AGATE_RD_CFG : RegFam :=
  ⟨0xe0008, [], .sys, [
    ⟨2, 0, .rw, 0, false, false, false, []⟩]⟩
/-- The address of AGATE_RD_CFG. -/
abbrev A.AGATE_RD_CFG : Nat := 0xe0008

/-- AGATE_RD_STAT, 15_event_recorder.md. -/
def Reg.AGATE_RD_STAT : RegFam :=
  ⟨0xe000c, [], .sys, [
    ⟨1, 0, .ro, 0, false, false, false, []⟩]⟩
/-- The address of AGATE_RD_STAT. -/
abbrev A.AGATE_RD_STAT : Nat := 0xe000c

/-- AGATE_RD_REQ_LO, 15_event_recorder.md. -/
def Reg.AGATE_RD_REQ_LO : RegFam :=
  ⟨0xe0010, [], .sys, [
    ⟨31, 0, .rw, 0, false, false, false, []⟩]⟩
/-- The address of AGATE_RD_REQ_LO. -/
abbrev A.AGATE_RD_REQ_LO : Nat := 0xe0010

/-- AGATE_RD_REQ_HI, 15_event_recorder.md. -/
def Reg.AGATE_RD_REQ_HI : RegFam :=
  ⟨0xe0014, [], .sys, [
    ⟨7, 0, .rw, 0, false, false, false, []⟩]⟩
/-- The address of AGATE_RD_REQ_HI. -/
abbrev A.AGATE_RD_REQ_HI : Nat := 0xe0014

/-- AGATE_CLR_SEQ_LO, 15_event_recorder.md. -/
def Reg.AGATE_CLR_SEQ_LO : RegFam :=
  ⟨0xe0018, [], .sys, [
    ⟨31, 0, .ro, 0, true, false, false, []⟩]⟩
/-- The address of AGATE_CLR_SEQ_LO. -/
abbrev A.AGATE_CLR_SEQ_LO : Nat := 0xe0018

/-- AGATE_CLR_SEQ_HI, 15_event_recorder.md. -/
def Reg.AGATE_CLR_SEQ_HI : RegFam :=
  ⟨0xe001c, [], .sys, [
    ⟨8, 8, .ro, 0, true, false, false, []⟩,
    ⟨7, 0, .ro, 0, true, false, false, []⟩]⟩
/-- The address of AGATE_CLR_SEQ_HI. -/
abbrev A.AGATE_CLR_SEQ_HI : Nat := 0xe001c

/-- AGATE_DROP, 15_event_recorder.md. -/
def Reg.AGATE_DROP : RegFam :=
  ⟨0xe0020, [(4, 8)], .sys, [
    ⟨31, 0, .cnt, 0, true, false, false, []⟩]⟩
/-- The address of AGATE_DROP. -/
abbrev A.AGATE_DROP (i : Nat) : Nat := 0xe0020 + 4 * i

/-- AGATE_SUPP, 15_event_recorder.md. -/
def Reg.AGATE_SUPP : RegFam :=
  ⟨0xe0040, [], .sys, [
    ⟨31, 0, .cnt, 0, false, false, false, []⟩]⟩
/-- The address of AGATE_SUPP. -/
abbrev A.AGATE_SUPP : Nat := 0xe0040

/-- AGATE_TORN, 15_event_recorder.md. -/
def Reg.AGATE_TORN : RegFam :=
  ⟨0xe0044, [], .sys, [
    ⟨15, 0, .ro, 0, false, false, false, []⟩]⟩
/-- The address of AGATE_TORN. -/
abbrev A.AGATE_TORN : Nat := 0xe0044

/-- AGATE_WIN, 15_event_recorder.md. -/
def Reg.AGATE_WIN : RegFam :=
  ⟨0xe0100, [(4, 16)], .sys, [
    ⟨31, 0, .ro, 0, false, false, false, []⟩]⟩
/-- The address of AGATE_WIN. -/
abbrev A.AGATE_WIN (i : Nat) : Nat := 0xe0100 + 4 * i

/-- HEALTH, 16_recovery_health.md. -/
def Reg.HEALTH : RegFam :=
  ⟨0x1000, [], .sys, [
    ⟨4, 4, .w1c, 0, false, false, false, []⟩,
    ⟨3, 3, .ro, 0, false, false, false, []⟩,
    ⟨2, 2, .w1c, 0, false, false, false, []⟩,
    ⟨1, 1, .ro, 0, false, false, false, []⟩,
    ⟨0, 0, .ro, 0, true, false, false, []⟩]⟩
/-- The address of HEALTH. -/
abbrev A.HEALTH : Nat := 0x1000

/-- CULLET_CAUSE, 16_recovery_health.md. -/
def Reg.CULLET_CAUSE : RegFam :=
  ⟨0x1004, [], .sys, [
    ⟨6, 0, .ro, 0, true, false, false, []⟩]⟩
/-- The address of CULLET_CAUSE. -/
abbrev A.CULLET_CAUSE : Nat := 0x1004

/-- CULLET_HIST, 16_recovery_health.md. -/
def Reg.CULLET_HIST : RegFam :=
  ⟨0x1008, [], .sys, [
    ⟨23, 16, .ro, 0, true, false, false, []⟩,
    ⟨6, 0, .ro, 0, true, false, false, []⟩]⟩
/-- The address of CULLET_HIST. -/
abbrev A.CULLET_HIST : Nat := 0x1008

/-- RESET_CTRL, 16_recovery_health.md. -/
def Reg.RESET_CTRL : RegFam :=
  ⟨0x1010, [], .sys, [
    ⟨1, 1, .w1s, 0, false, true, false, []⟩,
    ⟨0, 0, .w1s, 0, false, true, false, []⟩]⟩
/-- The address of RESET_CTRL. -/
abbrev A.RESET_CTRL : Nat := 0x1010

/-- RESET_STAT, 16_recovery_health.md. -/
def Reg.RESET_STAT : RegFam :=
  ⟨0x1014, [], .sys, [
    ⟨11, 8, .ro, 0, false, false, false, []⟩,
    ⟨1, 0, .ro, 3, false, false, false, []⟩]⟩
/-- The address of RESET_STAT. -/
abbrev A.RESET_STAT : Nat := 0x1014

/-- RESET_CNT, 16_recovery_health.md. -/
def Reg.RESET_CNT : RegFam :=
  ⟨0x1018, [], .sys, [
    ⟨31, 16, .cnt, 0, true, false, false, []⟩,
    ⟨15, 0, .cnt, 0, true, false, false, []⟩]⟩
/-- The address of RESET_CNT. -/
abbrev A.RESET_CNT : Nat := 0x1018

/-- LOCKSTEP_CNT, 16_recovery_health.md. -/
def Reg.LOCKSTEP_CNT : RegFam :=
  ⟨0x101c, [], .sys, [
    ⟨31, 16, .ro, 0, false, false, false, []⟩,
    ⟨15, 0, .cnt, 0, true, false, false, []⟩]⟩
/-- The address of LOCKSTEP_CNT. -/
abbrev A.LOCKSTEP_CNT : Nat := 0x101c

/-- LEHR_CNT, 16_recovery_health.md. -/
def Reg.LEHR_CNT : RegFam :=
  ⟨0x1020, [], .sys, [
    ⟨31, 16, .cnt, 0, false, false, false, []⟩,
    ⟨15, 8, .cnt, 0, false, false, false, []⟩,
    ⟨7, 0, .cnt, 0, false, false, false, []⟩]⟩
/-- The address of LEHR_CNT. -/
abbrev A.LEHR_CNT : Nat := 0x1020

/-- SPARE_ROWS, 16_recovery_health.md. -/
def Reg.SPARE_ROWS : RegFam :=
  ⟨0x1024, [], .sys, [
    ⟨7, 0, .ro, 0, true, false, false, []⟩]⟩
/-- The address of SPARE_ROWS. -/
abbrev A.SPARE_ROWS : Nat := 0x1024

/-- CFG_CTRL, 16_recovery_health.md. -/
def Reg.CFG_CTRL : RegFam :=
  ⟨0x1100, [], .sys, [
    ⟨5, 5, .rw, 0, false, false, false, []⟩,
    ⟨4, 4, .w1s, 0, false, false, false, []⟩,
    ⟨3, 3, .w1s, 0, false, false, false, []⟩,
    ⟨2, 2, .w1s, 0, false, false, false, []⟩,
    ⟨1, 1, .w1s, 0, false, false, false, []⟩,
    ⟨0, 0, .w1s, 0, false, false, false, []⟩]⟩
/-- The address of CFG_CTRL. -/
abbrev A.CFG_CTRL : Nat := 0x1100

/-- CFG_STAT, 16_recovery_health.md. -/
def Reg.CFG_STAT : RegFam :=
  ⟨0x1104, [], .sys, [
    ⟨7, 4, .ro, 0, false, false, false, []⟩,
    ⟨3, 3, .ro, 0, false, false, false, []⟩,
    ⟨2, 2, .ro, 0, false, false, false, []⟩,
    ⟨1, 1, .ro, 0, false, false, false, []⟩]⟩
/-- The address of CFG_STAT. -/
abbrev A.CFG_STAT : Nat := 0x1104

/-- CFG_GEN_LO, 16_recovery_health.md. -/
def Reg.CFG_GEN_LO : RegFam :=
  ⟨0x1108, [], .sys, [
    ⟨31, 0, .rw, 0, false, false, false, []⟩]⟩
/-- The address of CFG_GEN_LO. -/
abbrev A.CFG_GEN_LO : Nat := 0x1108

/-- CFG_GEN_HI, 16_recovery_health.md. -/
def Reg.CFG_GEN_HI : RegFam :=
  ⟨0x110c, [], .sys, [
    ⟨31, 0, .rw, 0, false, false, false, []⟩]⟩
/-- The address of CFG_GEN_HI. -/
abbrev A.CFG_GEN_HI : Nat := 0x110c

/-- CFG_ACT_LO, 16_recovery_health.md. -/
def Reg.CFG_ACT_LO : RegFam :=
  ⟨0x1110, [], .sys, [
    ⟨31, 0, .rw, 0, false, false, false, []⟩]⟩
/-- The address of CFG_ACT_LO. -/
abbrev A.CFG_ACT_LO : Nat := 0x1110

/-- CFG_ACT_HI, 16_recovery_health.md. -/
def Reg.CFG_ACT_HI : RegFam :=
  ⟨0x1114, [], .sys, [
    ⟨31, 0, .rw, 0, false, false, false, []⟩]⟩
/-- The address of CFG_ACT_HI. -/
abbrev A.CFG_ACT_HI : Nat := 0x1114

/-- CFG_EXP, 16_recovery_health.md. -/
def Reg.CFG_EXP : RegFam :=
  ⟨0x1120, [(4, 8)], .sys, [
    ⟨31, 0, .rw, 0, true, false, true, []⟩]⟩
/-- The address of CFG_EXP. -/
abbrev A.CFG_EXP (i : Nat) : Nat := 0x1120 + 4 * i

/-- CFG_SDIG, 16_recovery_health.md. -/
def Reg.CFG_SDIG : RegFam :=
  ⟨0x1140, [(4, 8)], .sys, [
    ⟨31, 0, .ro, 0, false, false, false, []⟩]⟩
/-- The address of CFG_SDIG. -/
abbrev A.CFG_SDIG (i : Nat) : Nat := 0x1140 + 4 * i

/-- FLEET_CFG, 16_recovery_health.md. -/
def Reg.FLEET_CFG : RegFam :=
  ⟨0x1160, [], .sys, [
    ⟨5, 0, .rw, 0, true, false, true, []⟩]⟩
/-- The address of FLEET_CFG. -/
abbrev A.FLEET_CFG : Nat := 0x1160

/-- FLEET_STAT, 16_recovery_health.md. -/
def Reg.FLEET_STAT : RegFam :=
  ⟨0x1164, [], .sys, [
    ⟨15, 0, .w1c, 0, false, false, false, []⟩]⟩
/-- The address of FLEET_STAT. -/
abbrev A.FLEET_STAT : Nat := 0x1164

/-- FLEET_PEER, 16_recovery_health.md. -/
def Reg.FLEET_PEER : RegFam :=
  ⟨0x1180, [(8, 16)], .sys, [
    ⟨31, 31, .rw, 0, true, false, true, []⟩,
    ⟨10, 8, .rw, 0, true, false, true, [(0, 5)]⟩,
    ⟨7, 0, .rw, 0, true, false, true, []⟩]⟩
/-- The address of FLEET_PEER. -/
abbrev A.FLEET_PEER (i : Nat) : Nat := 0x1180 + 8 * i

/-- FLEET_PID, 16_recovery_health.md. -/
def Reg.FLEET_PID : RegFam :=
  ⟨0x1184, [(8, 16)], .sys, [
    ⟨31, 0, .rw, 0, true, false, true, []⟩]⟩
/-- The address of FLEET_PID. -/
abbrev A.FLEET_PID (i : Nat) : Nat := 0x1184 + 8 * i

/-- STARTUP_STAT, 17_startup_reset.md. -/
def Reg.STARTUP_STAT : RegFam :=
  ⟨0x1200, [], .sys, [
    ⟨18, 16, .ro, 0, false, false, false, []⟩,
    ⟨15, 12, .ro, 0, false, false, false, []⟩,
    ⟨10, 10, .w1c, 0, false, false, false, []⟩,
    ⟨5, 4, .ro, 0, false, false, false, []⟩,
    ⟨3, 0, .ro, 0, false, false, false, []⟩]⟩
/-- The address of STARTUP_STAT. -/
abbrev A.STARTUP_STAT : Nat := 0x1200

/-- SELFTEST_RES, 17_startup_reset.md. -/
def Reg.SELFTEST_RES : RegFam :=
  ⟨0x1204, [], .sys, [
    ⟨7, 7, .ro, 0, false, false, false, []⟩,
    ⟨6, 6, .ro, 0, false, false, false, []⟩,
    ⟨5, 5, .ro, 0, false, false, false, []⟩,
    ⟨4, 4, .ro, 0, false, false, false, []⟩,
    ⟨3, 3, .ro, 0, false, false, false, []⟩,
    ⟨2, 2, .ro, 0, false, false, false, []⟩,
    ⟨1, 1, .ro, 0, false, false, false, []⟩,
    ⟨0, 0, .ro, 0, false, false, false, []⟩]⟩
/-- The address of SELFTEST_RES. -/
abbrev A.SELFTEST_RES : Nat := 0x1204

/-- STARTUP_CTRL, 17_startup_reset.md. -/
def Reg.STARTUP_CTRL : RegFam :=
  ⟨0x1208, [], .sys, [
    ⟨0, 0, .w1s, 0, false, true, false, []⟩]⟩
/-- The address of STARTUP_CTRL. -/
abbrev A.STARTUP_CTRL : Nat := 0x1208

/-- STBY_CTRL, 17_startup_reset.md. -/
def Reg.STBY_CTRL : RegFam :=
  ⟨0x1210, [], .sys, [
    ⟨0, 0, .w1s, 0, false, true, false, []⟩]⟩
/-- The address of STBY_CTRL. -/
abbrev A.STBY_CTRL : Nat := 0x1210

/-- STBY_CFG, 17_startup_reset.md. -/
def Reg.STBY_CFG : RegFam :=
  ⟨0x1214, [], .sys, [
    ⟨31, 24, .rw, 0, true, false, true, []⟩,
    ⟨13, 8, .rw, 1, true, false, true, []⟩,
    ⟨2, 2, .rw, 1, true, false, true, []⟩,
    ⟨1, 1, .rw, 1, true, false, true, []⟩]⟩
/-- The address of STBY_CFG. -/
abbrev A.STBY_CFG : Nat := 0x1214

/-- STBY_STAT, 17_startup_reset.md. -/
def Reg.STBY_STAT : RegFam :=
  ⟨0x1218, [], .sys, [
    ⟨31, 16, .cnt, 0, true, false, false, []⟩,
    ⟨3, 0, .ro, 0, true, false, false, []⟩]⟩
/-- The address of STBY_STAT. -/
abbrev A.STBY_STAT : Nat := 0x1218

/-- SVC_STAT, 18_field_service.md. -/
def Reg.SVC_STAT : RegFam :=
  ⟨0xf0000, [], .svc, [
    ⟨31, 16, .cnt, 0, false, false, false, []⟩,
    ⟨4, 4, .ro, 0, false, false, false, []⟩,
    ⟨3, 3, .ro, 0, false, false, false, []⟩,
    ⟨2, 2, .ro, 0, false, false, false, []⟩,
    ⟨1, 1, .ro, 0, false, false, false, []⟩,
    ⟨0, 0, .ro, 0, false, false, false, []⟩]⟩
/-- The address of SVC_STAT. -/
abbrev A.SVC_STAT : Nat := 0xf0000

/-- SVC_METER, 18_field_service.md. -/
def Reg.SVC_METER : RegFam :=
  ⟨0xf0004, [], .svc, [
    ⟨31, 16, .ro, 0, false, false, false, []⟩,
    ⟨14, 8, .rw, 0, false, false, false, []⟩,
    ⟨3, 0, .rw, 0, false, false, false, [(0, 10)]⟩]⟩
/-- The address of SVC_METER. -/
abbrev A.SVC_METER : Nat := 0xf0004

/-- SVC_METER_VAL, 18_field_service.md. -/
def Reg.SVC_METER_VAL : RegFam :=
  ⟨0xf0008, [], .svc, [
    ⟨17, 17, .ro, 0, false, false, false, []⟩,
    ⟨16, 16, .ro, 0, false, false, false, []⟩,
    ⟨15, 0, .ro, 0, false, false, false, []⟩]⟩
/-- The address of SVC_METER_VAL. -/
abbrev A.SVC_METER_VAL : Nat := 0xf0008

/-- SVC_TEST, 18_field_service.md. -/
def Reg.SVC_TEST : RegFam :=
  ⟨0xf000c, [], .svc, [
    ⟨31, 31, .w1s, 0, false, false, false, []⟩,
    ⟨30, 30, .ro, 0, false, false, false, []⟩,
    ⟨29, 28, .ro, 0, false, false, false, []⟩,
    ⟨23, 16, .ro, 0, false, false, false, []⟩,
    ⟨6, 4, .rw, 0, false, false, false, [(0, 5)]⟩,
    ⟨3, 0, .rw, 0, false, false, false, [(0, 8)]⟩]⟩
/-- The address of SVC_TEST. -/
abbrev A.SVC_TEST : Nat := 0xf000c

/-- JAS_CTRL, 18_field_service.md. -/
def Reg.JAS_CTRL : RegFam :=
  ⟨0xf8000, [], .sys, [
    ⟨31, 16, .krw, 0, false, false, false, []⟩,
    ⟨8, 8, .krw, 0, false, false, false, []⟩,
    ⟨1, 1, .w1s, 0, false, false, false, []⟩,
    ⟨0, 0, .w1s, 0, false, false, false, []⟩]⟩
/-- The address of JAS_CTRL. -/
abbrev A.JAS_CTRL : Nat := 0xf8000

/-- JAS_STAT, 18_field_service.md. -/
def Reg.JAS_STAT : RegFam :=
  ⟨0xf8004, [], .sys, [
    ⟨23, 16, .ro, 0, false, false, false, []⟩,
    ⟨7, 0, .ro, 0, false, false, false, []⟩]⟩
/-- The address of JAS_STAT. -/
abbrev A.JAS_STAT : Nat := 0xf8004

/-- JAS_SCHED, 18_field_service.md. -/
def Reg.JAS_SCHED : RegFam :=
  ⟨0xf8010, [], .sys, [
    ⟨7, 0, .krw, 0, false, false, false, []⟩]⟩
/-- The address of JAS_SCHED. -/
abbrev A.JAS_SCHED : Nat := 0xf8010

/-- JAS_NAV, 18_field_service.md. -/
def Reg.JAS_NAV : RegFam :=
  ⟨0xf8014, [], .sys, [
    ⟨7, 0, .krw, 0, false, false, false, []⟩]⟩
/-- The address of JAS_NAV. -/
abbrev A.JAS_NAV : Nat := 0xf8014

/-- JAS_ONYX, 18_field_service.md. -/
def Reg.JAS_ONYX : RegFam :=
  ⟨0xf8018, [], .sys, [
    ⟨7, 0, .krw, 0, false, false, false, []⟩]⟩
/-- The address of JAS_ONYX. -/
abbrev A.JAS_ONYX : Nat := 0xf8018

/-- JAS_TAP, 18_field_service.md. -/
def Reg.JAS_TAP : RegFam :=
  ⟨0xf801c, [], .sys, [
    ⟨5, 0, .krw, 0, false, false, false, []⟩]⟩
/-- The address of JAS_TAP. -/
abbrev A.JAS_TAP : Nat := 0xf801c

/-- JAS_BUS, 18_field_service.md. -/
def Reg.JAS_BUS : RegFam :=
  ⟨0xf8020, [(4, 6)], .sys, [
    ⟨31, 31, .w1s, 0, false, true, false, []⟩,
    ⟨15, 8, .krw, 0, false, false, false, []⟩,
    ⟨7, 0, .krw, 0, false, false, false, []⟩]⟩
/-- The address of JAS_BUS. -/
abbrev A.JAS_BUS (i : Nat) : Nat := 0xf8020 + 4 * i

/-- JAS_ECC_ADDR, 18_field_service.md. -/
def Reg.JAS_ECC_ADDR : RegFam :=
  ⟨0xf8040, [], .sys, [
    ⟨31, 28, .krw, 0, false, false, false, [(0, 3)]⟩,
    ⟨26, 20, .krw, 0, false, false, false, []⟩,
    ⟨19, 0, .krw, 0, false, false, false, []⟩]⟩
/-- The address of JAS_ECC_ADDR. -/
abbrev A.JAS_ECC_ADDR : Nat := 0xf8040

/-- JAS_ECC_CTRL, 18_field_service.md. -/
def Reg.JAS_ECC_CTRL : RegFam :=
  ⟨0xf8044, [], .sys, [
    ⟨1, 1, .krw, 0, false, false, false, []⟩,
    ⟨0, 0, .w1s, 0, false, true, false, []⟩]⟩
/-- The address of JAS_ECC_CTRL. -/
abbrev A.JAS_ECC_CTRL : Nat := 0xf8044

/-- JAS_QBP, 18_field_service.md. -/
def Reg.JAS_QBP : RegFam :=
  ⟨0xf8100, [(4, 128)], .sys, [
    ⟨8, 0, .krw, 0, false, false, false, [(0, 256)]⟩]⟩
/-- The address of JAS_QBP. -/
abbrev A.JAS_QBP (i : Nat) : Nat := 0xf8100 + 4 * i

/-- JAS_QDLY, 18_field_service.md. -/
def Reg.JAS_QDLY : RegFam :=
  ⟨0xf8300, [(4, 19)], .sys, [
    ⟨7, 0, .krw, 0, false, false, false, []⟩]⟩
/-- The address of JAS_QDLY. -/
abbrev A.JAS_QDLY (i : Nat) : Nat := 0xf8300 + 4 * i

/-- LOAD_WIN, 05_section_engine.md. -/
def Reg.LOAD_WIN : RegFam :=
  ⟨0x100000, [(4, 262144)], .eng, [
    ⟨31, 0, .rw, 0, false, false, false, []⟩]⟩
/-- The address of LOAD_WIN. -/
abbrev A.LOAD_WIN (i : Nat) : Nat := 0x100000 + 4 * i

/-- The families of the block 0 to 0x8000. -/
def mapSys : List RegFam := [
  Reg.SUPPLY_STAT,
  Reg.SUPPLY_VOLT,
  Reg.BASE_TEMP,
  Reg.KEY_UNLOCK,
  Reg.KEY_STAT,
  Reg.OEM_KEY_HASH,
  Reg.OEM_KEY_CTRL,
  Reg.ACC_ERR_LAST,
  Reg.ACC_ERR_CNT,
  Reg.MBX_CTRL,
  Reg.MBX_DATA,
  Reg.BUS_SESSION,
  Reg.OWN_STAT,
  Reg.OWN_CFG,
  Reg.OWN_CLAIM,
  Reg.OWN_HANDOVER,
  Reg.OWN_ACCEPT,
  Reg.OWN_HEARTBEAT,
  Reg.OWN_SEIZE,
  Reg.HEALTH,
  Reg.CULLET_CAUSE,
  Reg.CULLET_HIST,
  Reg.RESET_CTRL,
  Reg.RESET_STAT,
  Reg.RESET_CNT,
  Reg.LOCKSTEP_CNT,
  Reg.LEHR_CNT,
  Reg.SPARE_ROWS,
  Reg.CFG_CTRL,
  Reg.CFG_STAT,
  Reg.CFG_GEN_LO,
  Reg.CFG_GEN_HI,
  Reg.CFG_ACT_LO,
  Reg.CFG_ACT_HI,
  Reg.CFG_EXP,
  Reg.CFG_SDIG,
  Reg.FLEET_CFG,
  Reg.FLEET_STAT,
  Reg.FLEET_PEER,
  Reg.FLEET_PID,
  Reg.STARTUP_STAT,
  Reg.SELFTEST_RES,
  Reg.STARTUP_CTRL,
  Reg.STBY_CTRL,
  Reg.STBY_CFG,
  Reg.STBY_STAT]

/-- The families of the block 0x8000 to 0xa000. -/
def mapQueue : List RegFam := [
  Reg.QCTRL,
  Reg.QSTAT,
  Reg.QPLEV,
  Reg.QPCNT,
  Reg.QDROP,
  Reg.QHWM,
  Reg.QPTRP,
  Reg.QCSTAT,
  Reg.QCFLAG,
  Reg.QCCNT,
  Reg.QPTRC]

/-- The families of the block 0x10000 to 0x1e000. -/
def mapEngA : List RegFam := [
  Reg.ENG_CTRL,
  Reg.ENG_STAT,
  Reg.LOAD_CTRL,
  Reg.LOAD_STAT,
  Reg.LOAD_BASE,
  Reg.LOAD_LEN,
  Reg.LOAD_CRC,
  Reg.LOAD_DIGEST,
  Reg.LOAD_KEY,
  Reg.LOAD_SIG,
  Reg.PAGE_STATE,
  Reg.PAGE_RELEASE,
  Reg.CMEM_ADDR,
  Reg.CMEM_DATA,
  Reg.LMEM_SEL,
  Reg.LMEM_DATA,
  Reg.G_CTRL,
  Reg.G_STAT,
  Reg.G_ENTRY,
  Reg.G_REGION,
  Reg.G_QPUSH,
  Reg.G_QPOPS,
  Reg.G_QPOPG,
  Reg.G_FAULT,
  Reg.G_MISSED,
  Reg.G_REWIND,
  Reg.G_JHW,
  Reg.G_WIN,
  Reg.OUT_PERMIT,
  Reg.REM_GATHER]

/-- The families of the block 0x1e000 to 0x20000. -/
def mapEngB : List RegFam := [
  Reg.MAP_CTRL,
  Reg.MAP_STAT,
  Reg.MAP_ACT_LO,
  Reg.MAP_ACT_HI,
  Reg.MAP_WIN_SEL,
  Reg.MAP_FIELD,
  Reg.RASTER_E,
  Reg.RASTER_N,
  Reg.RASTER_DIM,
  Reg.RASTER_CFG,
  Reg.POLY_CFG,
  Reg.ONYX_STAT,
  Reg.ONYX_FREE,
  Reg.ONYX_WEAR,
  Reg.ONYX_CTRL,
  Reg.OUTSIDE_CNT,
  Reg.BADTILE_CNT,
  Reg.NOMODEL_CNT,
  Reg.FETCH_CNT,
  Reg.MAP_CRC,
  Reg.FIELD_LAT,
  Reg.FIELD_LON,
  Reg.FIELD_HGT,
  Reg.FIELD_GRID,
  Reg.FIELD_SIZE,
  Reg.FIELD_CFG,
  Reg.FIELD_CTRL,
  Reg.FIELD_STAT,
  Reg.MAP_WIN,
  Reg.MARK_STAT,
  Reg.MARK_GAP_CNT]

/-- The families of the block 0x20000 to 0x28000. -/
def mapChan : List RegFam := [
  Reg.CH_CFG,
  Reg.CH_LIMIT,
  Reg.CH_RETRY,
  Reg.CH_CTRL,
  Reg.CH_STAT,
  Reg.CH_MEAS,
  Reg.CH_DEFER,
  Reg.CH_TRIPCNT,
  Reg.FEED_CFG,
  Reg.FEED_STAT,
  Reg.FEED_CUR,
  Reg.FEED_UVCNT,
  Reg.LOAD_GLOBAL,
  Reg.CAP_SEL,
  Reg.CAP_STAT,
  Reg.CAP_T_LO,
  Reg.CAP_T_HI,
  Reg.CAP_WIN]

/-- The families of the block 0x28000 to 0x30000. -/
def mapOut : List RegFam := [
  Reg.OUT_CTRL,
  Reg.OUT_STAT,
  Reg.OUT_LATE_MAX,
  Reg.OUT_EVCNT,
  Reg.OUT_DISCNT,
  Reg.OUT_LAT,
  Reg.OUT_LATINIT,
  Reg.OUT_LEARN,
  Reg.OUT_TRANSIT,
  Reg.OUT_MEAS_ON,
  Reg.OUT_MEAS_OFF,
  Reg.OUT_COMP,
  Reg.OUT_SPEED,
  Reg.ACT_DIST_STAT,
  Reg.ACT_DIST_STALL,
  Reg.REM_NOMATCH_CNT,
  Reg.REM_DESC,
  Reg.REM_CTRL,
  Reg.REM_LAT,
  Reg.REM_CFG,
  Reg.REM_LATINIT]

/-- The families of the block 0x30000 to 0x40000. -/
def mapPwm : List RegFam := [
  Reg.PWM_DEAD,
  Reg.PWM_PERIOD,
  Reg.PWM_DUTY,
  Reg.PWM_APPL,
  Reg.PWM_PHASE,
  Reg.PWM_CNT,
  Reg.PWM_STAT,
  Reg.PWM_SHORT,
  Reg.PWM_STRETCH,
  Reg.PWM_CAL,
  Reg.PWM_BANK,
  Reg.PWM_GLOBAL,
  Reg.TICK_CFG,
  Reg.TICK_NUM]

/-- The families of the block 0x40000 to 0x50000. -/
def mapFb : List RegFam := [
  Reg.FB_CFG,
  Reg.FB_THR,
  Reg.FB_FILT,
  Reg.FB_CHK,
  Reg.FB_SCALE,
  Reg.FB_COUNT,
  Reg.FB_SPEED,
  Reg.FB_PERIOD,
  Reg.FB_ERRCNT,
  Reg.FB_CTRL,
  Reg.FB_STAT,
  Reg.FB_CMPCTRL,
  Reg.FB_CMPVAL,
  Reg.FB_CMPSTEP,
  Reg.FB_CMPLATE,
  Reg.FB_SSI,
  Reg.FB_SSIVAL,
  Reg.FB_SSICNT,
  Reg.AI_CFG,
  Reg.AI_WIN,
  Reg.AI_VAL,
  Reg.AI_STAT,
  Reg.AI_ERRCNT,
  Reg.PT_CFG,
  Reg.PT_PPM,
  Reg.PT_STAT,
  Reg.FB_GLOBAL]

/-- The families of the block 0x50000 to 0x60000. -/
def mapNav : List RegFam := [
  Reg.GNSS_CTRL,
  Reg.GNSS_STAT,
  Reg.CHAIN_STAT,
  Reg.EPOCH_PHASE,
  Reg.MEAS_CFG,
  Reg.TRK_CFG,
  Reg.TRK_LOOP,
  Reg.TRK_STAT,
  Reg.TRK_DOP,
  Reg.POSE_CFG,
  Reg.SPEED_SRC,
  Reg.SPEED_SCALE,
  Reg.POSE_STAT,
  Reg.POSE_CNT,
  Reg.QUAL_CNT,
  Reg.IMU_STAT,
  Reg.HEAD_STAT,
  Reg.IMU_MISS_CNT,
  Reg.CORR_CFG,
  Reg.CORR_STAT,
  Reg.CORR_CNT,
  Reg.CORR_IGN,
  Reg.CORR_FEED,
  Reg.SNAP_CFG,
  Reg.SNAP_CTRL,
  Reg.SNAP_STAT,
  Reg.SNAP_LAT,
  Reg.SNAP_LON,
  Reg.SNAP_HGT,
  Reg.SNAP_SIG,
  Reg.SNAP_PAGE,
  Reg.SNAP_WIN]

/-- The families of the block 0x60000 to 0x80000. -/
def mapTime : List RegFam := [
  Reg.TIME_CTRL,
  Reg.TIME_STAT,
  Reg.PPS_CFG,
  Reg.TIME_HOLD,
  Reg.TIME_SET_LO,
  Reg.TIME_SET_HI,
  Reg.TIME_STEP_CNT,
  Reg.TIME_MSG,
  Reg.TM_CFG,
  Reg.TM_REF_ID,
  Reg.TM_FOL_ID,
  Reg.TM_STAT]

/-- The families of the block 0x80000 to 0xe0000. -/
def mapBus : List RegFam := [
  Reg.PORT_CTRL,
  Reg.PORT_CFG,
  Reg.PORT_STAT,
  Reg.PORT_ERR,
  Reg.PORT_NBT,
  Reg.PORT_DBT,
  Reg.PORT_XBT,
  Reg.PORT_TDC,
  Reg.PORT_TXCNT,
  Reg.PORT_RXCNT,
  Reg.PORT_ERRCNT,
  Reg.PORT_BOFFCNT,
  Reg.WAKE_CFG,
  Reg.WAKE_ID,
  Reg.WAKE_IDMASK,
  Reg.WAKE_DMASK_LO,
  Reg.WAKE_DMASK_HI,
  Reg.PORT_CORR_ID,
  Reg.PORT_CORR_IDMASK,
  Reg.SF_ID,
  Reg.SF_MASK,
  Reg.SF_CHK,
  Reg.SF_RANGE,
  Reg.ISO_CFG,
  Reg.ISO_NAME_LO,
  Reg.ISO_NAME_HI,
  Reg.ISO_STAT,
  Reg.TP_CNT,
  Reg.OBJ_CFG,
  Reg.OBJ_ID,
  Reg.OBJ_MASK,
  Reg.OBJ_CHK,
  Reg.OBJ_RANGE,
  Reg.OBJ_STAT,
  Reg.OBJ_CTRL,
  Reg.OBJ_T_LO,
  Reg.OBJ_T_HI,
  Reg.OBJ_DATA]

/-- The families of the block 0xe0000 to 0xf0000. -/
def mapAgate : List RegFam := [
  Reg.AGATE_CTRL,
  Reg.AGATE_STAT,
  Reg.AGATE_RD_CFG,
  Reg.AGATE_RD_STAT,
  Reg.AGATE_RD_REQ_LO,
  Reg.AGATE_RD_REQ_HI,
  Reg.AGATE_CLR_SEQ_LO,
  Reg.AGATE_CLR_SEQ_HI,
  Reg.AGATE_DROP,
  Reg.AGATE_SUPP,
  Reg.AGATE_TORN,
  Reg.AGATE_WIN]

/-- The families of the block 0xf0000 to 0x100000. -/
def mapSvc : List RegFam := [
  Reg.SVC_STAT,
  Reg.SVC_METER,
  Reg.SVC_METER_VAL,
  Reg.SVC_TEST,
  Reg.JAS_CTRL,
  Reg.JAS_STAT,
  Reg.JAS_SCHED,
  Reg.JAS_NAV,
  Reg.JAS_ONYX,
  Reg.JAS_TAP,
  Reg.JAS_BUS,
  Reg.JAS_ECC_ADDR,
  Reg.JAS_ECC_CTRL,
  Reg.JAS_QBP,
  Reg.JAS_QDLY]

/-- The families of the block 0x100000 to 0x200000. -/
def mapLoad : List RegFam := [
  Reg.LOAD_WIN]

/-- The families that may hold address a (R83), chosen by its block so that a search is short. -/
def famsOf (a : Nat) : List RegFam :=
  if a < 0x8000 then mapSys
  else if a < 0xa000 then mapQueue
  else if a < 0x1e000 then mapEngA
  else if a < 0x20000 then mapEngB
  else if a < 0x28000 then mapChan
  else if a < 0x30000 then mapOut
  else if a < 0x40000 then mapPwm
  else if a < 0x50000 then mapFb
  else if a < 0x60000 then mapNav
  else if a < 0x80000 then mapTime
  else if a < 0xe0000 then mapBus
  else if a < 0xf0000 then mapAgate
  else if a < 0x100000 then mapSvc
  else if a < 0x200000 then mapLoad
  else []

end Sys2Proof.Machine
end

