-- ==== Sys2Proof/Machine/Fields.lean ====
section
/-! DEFINITION. The spec's names of the register fields: F.REG_FIELD is the place of that field. -/
namespace Sys2Proof.Machine

abbrev F.SUPPLY_STAT_DROPOUT_CNT : Fld := ⟨A.SUPPLY_STAT, 23, 16⟩
abbrev F.SUPPLY_STAT_BASE_HOT : Fld := ⟨A.SUPPLY_STAT, 9, 9⟩
abbrev F.SUPPLY_STAT_SNS_PWR_FAULT : Fld := ⟨A.SUPPLY_STAT, 8, 8⟩
abbrev F.SUPPLY_STAT_SNS5_FAULT : Fld := ⟨A.SUPPLY_STAT, 7, 7⟩
abbrev F.SUPPLY_STAT_ANT_B_FOLD : Fld := ⟨A.SUPPLY_STAT, 6, 6⟩
abbrev F.SUPPLY_STAT_ANT_A_FOLD : Fld := ⟨A.SUPPLY_STAT, 5, 5⟩
abbrev F.SUPPLY_STAT_BENCH : Fld := ⟨A.SUPPLY_STAT, 4, 4⟩
abbrev F.SUPPLY_STAT_KEEP_ABSENT : Fld := ⟨A.SUPPLY_STAT, 3, 3⟩
abbrev F.SUPPLY_STAT_DROPOUT : Fld := ⟨A.SUPPLY_STAT, 2, 2⟩
abbrev F.SUPPLY_STAT_ECU_HIGH : Fld := ⟨A.SUPPLY_STAT, 1, 1⟩
abbrev F.SUPPLY_STAT_ECU_LOW : Fld := ⟨A.SUPPLY_STAT, 0, 0⟩
abbrev F.SUPPLY_VOLT_KEEP_MV : Fld := ⟨A.SUPPLY_VOLT, 31, 16⟩
abbrev F.SUPPLY_VOLT_ECU_MV : Fld := ⟨A.SUPPLY_VOLT, 15, 0⟩
abbrev F.BASE_TEMP_TEMP : Fld := ⟨A.BASE_TEMP, 15, 0⟩
abbrev F.KEY_UNLOCK_KEY : Fld := ⟨A.KEY_UNLOCK, 15, 0⟩
abbrev F.KEY_STAT_SVC_UNLOCKED : Fld := ⟨A.KEY_STAT, 2, 2⟩
abbrev F.KEY_STAT_BUS_UNLOCKED : Fld := ⟨A.KEY_STAT, 1, 1⟩
abbrev F.KEY_STAT_HSPI_UNLOCKED : Fld := ⟨A.KEY_STAT, 0, 0⟩
abbrev F.OEM_KEY_HASH_HASH (i : Nat) : Fld := ⟨A.OEM_KEY_HASH i, 31, 0⟩
abbrev F.OEM_KEY_CTRL_BUSY : Fld := ⟨A.OEM_KEY_CTRL, 9, 9⟩
abbrev F.OEM_KEY_CTRL_LOCKED : Fld := ⟨A.OEM_KEY_CTRL, 8, 8⟩
abbrev F.OEM_KEY_CTRL_COMMIT : Fld := ⟨A.OEM_KEY_CTRL, 0, 0⟩
abbrev F.ACC_ERR_LAST_WRITE (i : Nat) : Fld := ⟨A.ACC_ERR_LAST i, 28, 28⟩
abbrev F.ACC_ERR_LAST_CODE (i : Nat) : Fld := ⟨A.ACC_ERR_LAST i, 27, 24⟩
abbrev F.ACC_ERR_LAST_ADDRESS (i : Nat) : Fld := ⟨A.ACC_ERR_LAST i, 23, 0⟩
abbrev F.ACC_ERR_CNT_COUNT (i : Nat) : Fld := ⟨A.ACC_ERR_CNT i, 31, 0⟩
abbrev F.MBX_CTRL_SEQ (i : Nat) : Fld := ⟨A.MBX_CTRL i, 15, 8⟩
abbrev F.MBX_CTRL_STALE (i : Nat) : Fld := ⟨A.MBX_CTRL i, 2, 2⟩
abbrev F.MBX_CTRL_VALID (i : Nat) : Fld := ⟨A.MBX_CTRL i, 1, 1⟩
abbrev F.MBX_CTRL_REQ (i : Nat) : Fld := ⟨A.MBX_CTRL i, 0, 0⟩
abbrev F.MBX_DATA_DATA (i : Nat) (j : Nat) : Fld := ⟨A.MBX_DATA i j, 31, 0⟩
abbrev F.BUS_SESSION_DROP : Fld := ⟨A.BUS_SESSION, 24, 24⟩
abbrev F.BUS_SESSION_HELD : Fld := ⟨A.BUS_SESSION, 17, 17⟩
abbrev F.BUS_SESSION_OPEN : Fld := ⟨A.BUS_SESSION, 16, 16⟩
abbrev F.BUS_SESSION_PORT : Fld := ⟨A.BUS_SESSION, 10, 8⟩
abbrev F.BUS_SESSION_SRC : Fld := ⟨A.BUS_SESSION, 7, 0⟩
abbrev F.OWN_STAT_HB_LEFT : Fld := ⟨A.OWN_STAT, 25, 16⟩
abbrev F.OWN_STAT_HANDOVER_CANCEL : Fld := ⟨A.OWN_STAT, 8, 8⟩
abbrev F.OWN_STAT_SEIZED : Fld := ⟨A.OWN_STAT, 7, 7⟩
abbrev F.OWN_STAT_LAPSED : Fld := ⟨A.OWN_STAT, 6, 6⟩
abbrev F.OWN_STAT_TARGET : Fld := ⟨A.OWN_STAT, 5, 4⟩
abbrev F.OWN_STAT_HANDOVER_PEND : Fld := ⟨A.OWN_STAT, 3, 3⟩
abbrev F.OWN_STAT_ELECTION : Fld := ⟨A.OWN_STAT, 2, 2⟩
abbrev F.OWN_STAT_OWNER : Fld := ⟨A.OWN_STAT, 1, 0⟩
abbrev F.OWN_CFG_HB_TIMEOUT : Fld := ⟨A.OWN_CFG, 21, 16⟩
abbrev F.OWN_CFG_AUTOSTART : Fld := ⟨A.OWN_CFG, 8, 8⟩
abbrev F.OWN_CFG_ORDER2 : Fld := ⟨A.OWN_CFG, 5, 4⟩
abbrev F.OWN_CFG_ORDER1 : Fld := ⟨A.OWN_CFG, 3, 2⟩
abbrev F.OWN_CFG_ORDER0 : Fld := ⟨A.OWN_CFG, 1, 0⟩
abbrev F.OWN_CLAIM_CLAIM : Fld := ⟨A.OWN_CLAIM, 0, 0⟩
abbrev F.OWN_HANDOVER_TARGET : Fld := ⟨A.OWN_HANDOVER, 2, 0⟩
abbrev F.OWN_ACCEPT_ACCEPT : Fld := ⟨A.OWN_ACCEPT, 0, 0⟩
abbrev F.OWN_HEARTBEAT_REFRESH : Fld := ⟨A.OWN_HEARTBEAT, 0, 0⟩
abbrev F.OWN_SEIZE_SEIZE : Fld := ⟨A.OWN_SEIZE, 0, 0⟩
abbrev F.ENG_CTRL_STARTAUTO : Fld := ⟨A.ENG_CTRL, 1, 1⟩
abbrev F.ENG_CTRL_STOPALL : Fld := ⟨A.ENG_CTRL, 0, 0⟩
abbrev F.ENG_STAT_INFLIGHT : Fld := ⟨A.ENG_STAT, 19, 10⟩
abbrev F.ENG_STAT_CLK50 : Fld := ⟨A.ENG_STAT, 9, 9⟩
abbrev F.ENG_STAT_SPARE_USED : Fld := ⟨A.ENG_STAT, 8, 8⟩
abbrev F.ENG_STAT_PIPES : Fld := ⟨A.ENG_STAT, 7, 5⟩
abbrev F.ENG_STAT_PIPE_MAP : Fld := ⟨A.ENG_STAT, 4, 0⟩
abbrev F.LOAD_CTRL_SIGNED : Fld := ⟨A.LOAD_CTRL, 8, 8⟩
abbrev F.LOAD_CTRL_ABORT : Fld := ⟨A.LOAD_CTRL, 2, 2⟩
abbrev F.LOAD_CTRL_VERIFY : Fld := ⟨A.LOAD_CTRL, 1, 1⟩
abbrev F.LOAD_CTRL_OPEN : Fld := ⟨A.LOAD_CTRL, 0, 0⟩
abbrev F.LOAD_STAT_RESULT : Fld := ⟨A.LOAD_STAT, 6, 4⟩
abbrev F.LOAD_STAT_BUSY : Fld := ⟨A.LOAD_STAT, 1, 1⟩
abbrev F.LOAD_STAT_OPEN_ACTIVE : Fld := ⟨A.LOAD_STAT, 0, 0⟩
abbrev F.LOAD_BASE_BASE : Fld := ⟨A.LOAD_BASE, 17, 0⟩
abbrev F.LOAD_LEN_LEN : Fld := ⟨A.LOAD_LEN, 18, 0⟩
abbrev F.LOAD_CRC_CRC : Fld := ⟨A.LOAD_CRC, 31, 0⟩
abbrev F.LOAD_DIGEST_DATA (i : Nat) : Fld := ⟨A.LOAD_DIGEST i, 31, 0⟩
abbrev F.LOAD_KEY_DATA (i : Nat) : Fld := ⟨A.LOAD_KEY i, 31, 0⟩
abbrev F.LOAD_SIG_DATA (i : Nat) : Fld := ⟨A.LOAD_SIG i, 31, 0⟩
abbrev F.PAGE_RELEASE_GO : Fld := ⟨A.PAGE_RELEASE, 31, 31⟩
abbrev F.PAGE_RELEASE_LAST : Fld := ⟨A.PAGE_RELEASE, 13, 8⟩
abbrev F.PAGE_RELEASE_FIRST : Fld := ⟨A.PAGE_RELEASE, 5, 0⟩
abbrev F.CMEM_ADDR_ADDR : Fld := ⟨A.CMEM_ADDR, 19, 2⟩
abbrev F.CMEM_DATA_DATA : Fld := ⟨A.CMEM_DATA, 31, 0⟩
abbrev F.LMEM_SEL_GATHER : Fld := ⟨A.LMEM_SEL, 22, 16⟩
abbrev F.LMEM_SEL_ADDR : Fld := ⟨A.LMEM_SEL, 11, 2⟩
abbrev F.LMEM_DATA_DATA : Fld := ⟨A.LMEM_DATA, 31, 0⟩
abbrev F.G_CTRL_PRIO (i : Nat) : Fld := ⟨A.G_CTRL i, 10, 8⟩
abbrev F.G_CTRL_KEEP_LMEM (i : Nat) : Fld := ⟨A.G_CTRL i, 4, 4⟩
abbrev F.G_CTRL_AUTOSTART (i : Nat) : Fld := ⟨A.G_CTRL i, 3, 3⟩
abbrev F.G_CTRL_STOP (i : Nat) : Fld := ⟨A.G_CTRL i, 1, 1⟩
abbrev F.G_CTRL_START (i : Nat) : Fld := ⟨A.G_CTRL i, 0, 0⟩
abbrev F.G_STAT_PRIO (i : Nat) : Fld := ⟨A.G_STAT i, 27, 25⟩
abbrev F.G_STAT_JOURNAL (i : Nat) : Fld := ⟨A.G_STAT i, 24, 16⟩
abbrev F.G_STAT_STALL (i : Nat) : Fld := ⟨A.G_STAT i, 15, 12⟩
abbrev F.G_STAT_INFLIGHT (i : Nat) : Fld := ⟨A.G_STAT i, 11, 8⟩
abbrev F.G_STAT_STATE (i : Nat) : Fld := ⟨A.G_STAT i, 3, 0⟩
abbrev F.G_ENTRY_ENTRY (i : Nat) : Fld := ⟨A.G_ENTRY i, 17, 0⟩
abbrev F.G_REGION_VALID (i : Nat) : Fld := ⟨A.G_REGION i, 31, 31⟩
abbrev F.G_REGION_LAST (i : Nat) : Fld := ⟨A.G_REGION i, 13, 8⟩
abbrev F.G_REGION_FIRST (i : Nat) : Fld := ⟨A.G_REGION i, 5, 0⟩
abbrev F.G_QPUSH_GEN (i : Nat) : Fld := ⟨A.G_QPUSH i, 31, 8⟩
abbrev F.G_QPUSH_BUSTX (i : Nat) : Fld := ⟨A.G_QPUSH i, 5, 0⟩
abbrev F.G_QPOPS_SYS (i : Nat) : Fld := ⟨A.G_QPOPS i, 11, 0⟩
abbrev F.G_QPOPG_GEN (i : Nat) : Fld := ⟨A.G_QPOPG i, 23, 0⟩
abbrev F.G_FAULT_HOLD (i : Nat) : Fld := ⟨A.G_FAULT i, 31, 31⟩
abbrev F.G_FAULT_POSTURED (i : Nat) : Fld := ⟨A.G_FAULT i, 30, 30⟩
abbrev F.G_FAULT_CODE (i : Nat) : Fld := ⟨A.G_FAULT i, 27, 24⟩
abbrev F.G_FAULT_PC (i : Nat) : Fld := ⟨A.G_FAULT i, 17, 0⟩
abbrev F.G_MISSED_COUNT (i : Nat) : Fld := ⟨A.G_MISSED i, 31, 0⟩
abbrev F.G_REWIND_COUNT (i : Nat) : Fld := ⟨A.G_REWIND i, 31, 0⟩
abbrev F.G_JHW_HIGH (i : Nat) : Fld := ⟨A.G_JHW i, 8, 0⟩
abbrev F.G_WIN_W (i : Nat) (j : Nat) : Fld := ⟨A.G_WIN i j, 31, 0⟩
abbrev F.OUT_PERMIT_GATHERS (i : Nat) (j : Nat) : Fld := ⟨A.OUT_PERMIT i j, 31, 0⟩
abbrev F.REM_GATHER_VALID (i : Nat) : Fld := ⟨A.REM_GATHER i, 31, 31⟩
abbrev F.REM_GATHER_GATHER (i : Nat) : Fld := ⟨A.REM_GATHER i, 6, 0⟩
abbrev F.MAP_CTRL_CLEAR : Fld := ⟨A.MAP_CTRL, 4, 4⟩
abbrev F.MAP_CTRL_ACT_CANCEL : Fld := ⟨A.MAP_CTRL, 3, 3⟩
abbrev F.MAP_CTRL_ACT_ARM : Fld := ⟨A.MAP_CTRL, 2, 2⟩
abbrev F.MAP_CTRL_ACT_NOW : Fld := ⟨A.MAP_CTRL, 1, 1⟩
abbrev F.MAP_CTRL_CHECK : Fld := ⟨A.MAP_CTRL, 0, 0⟩
abbrev F.MAP_STAT_ACT_PEND : Fld := ⟨A.MAP_STAT, 30, 30⟩
abbrev F.MAP_STAT_ENTRY : Fld := ⟨A.MAP_STAT, 29, 16⟩
abbrev F.MAP_STAT_RESULT : Fld := ⟨A.MAP_STAT, 15, 12⟩
abbrev F.MAP_STAT_CHECK_BUSY : Fld := ⟨A.MAP_STAT, 8, 8⟩
abbrev F.MAP_STAT_RETAINED : Fld := ⟨A.MAP_STAT, 7, 7⟩
abbrev F.MAP_STAT_STAGED : Fld := ⟨A.MAP_STAT, 5, 0⟩
abbrev F.MAP_ACT_LO_TIME : Fld := ⟨A.MAP_ACT_LO, 31, 0⟩
abbrev F.MAP_ACT_HI_TIME : Fld := ⟨A.MAP_ACT_HI, 31, 0⟩
abbrev F.MAP_WIN_SEL_ITEM : Fld := ⟨A.MAP_WIN_SEL, 30, 28⟩
abbrev F.MAP_WIN_SEL_OFFSET : Fld := ⟨A.MAP_WIN_SEL, 19, 0⟩
abbrev F.MAP_FIELD_ACT_VALID : Fld := ⟨A.MAP_FIELD, 24, 24⟩
abbrev F.MAP_FIELD_ACTIVE : Fld := ⟨A.MAP_FIELD, 19, 16⟩
abbrev F.MAP_FIELD_STAGED_FIELD : Fld := ⟨A.MAP_FIELD, 3, 0⟩
abbrev F.RASTER_E_RE : Fld := ⟨A.RASTER_E, 31, 0⟩
abbrev F.RASTER_N_RN : Fld := ⟨A.RASTER_N, 31, 0⟩
abbrev F.RASTER_DIM_NY : Fld := ⟨A.RASTER_DIM, 29, 16⟩
abbrev F.RASTER_DIM_NX : Fld := ⟨A.RASTER_DIM, 13, 0⟩
abbrev F.RASTER_CFG_FIELD : Fld := ⟨A.RASTER_CFG, 11, 8⟩
abbrev F.RASTER_CFG_CELL : Fld := ⟨A.RASTER_CFG, 5, 0⟩
abbrev F.POLY_CFG_VERTS : Fld := ⟨A.POLY_CFG, 30, 16⟩
abbrev F.POLY_CFG_FIELD : Fld := ⟨A.POLY_CFG, 15, 12⟩
abbrev F.POLY_CFG_COUNT : Fld := ⟨A.POLY_CFG, 8, 0⟩
abbrev F.ONYX_STAT_WB_BUSY : Fld := ⟨A.ONYX_STAT, 31, 31⟩
abbrev F.ONYX_STAT_BAD_TILE : Fld := ⟨A.ONYX_STAT, 30, 30⟩
abbrev F.ONYX_STAT_OUTSIDE : Fld := ⟨A.ONYX_STAT, 29, 29⟩
abbrev F.ONYX_STAT_NOMODEL : Fld := ⟨A.ONYX_STAT, 28, 28⟩
abbrev F.ONYX_STAT_DIRTY : Fld := ⟨A.ONYX_STAT, 14, 0⟩
abbrev F.ONYX_FREE_FREE : Fld := ⟨A.ONYX_FREE, 16, 0⟩
abbrev F.ONYX_WEAR_PERMILLE : Fld := ⟨A.ONYX_WEAR, 9, 0⟩
abbrev F.ONYX_CTRL_FLUSH : Fld := ⟨A.ONYX_CTRL, 0, 0⟩
abbrev F.OUTSIDE_CNT_COUNT : Fld := ⟨A.OUTSIDE_CNT, 31, 0⟩
abbrev F.BADTILE_CNT_COUNT : Fld := ⟨A.BADTILE_CNT, 31, 0⟩
abbrev F.NOMODEL_CNT_COUNT : Fld := ⟨A.NOMODEL_CNT, 31, 0⟩
abbrev F.FETCH_CNT_COUNT : Fld := ⟨A.FETCH_CNT, 31, 0⟩
abbrev F.MAP_CRC_CRC (i : Nat) : Fld := ⟨A.MAP_CRC i, 31, 0⟩
abbrev F.FIELD_LAT_LAT (i : Nat) : Fld := ⟨A.FIELD_LAT i, 31, 0⟩
abbrev F.FIELD_LON_LON (i : Nat) : Fld := ⟨A.FIELD_LON i, 31, 0⟩
abbrev F.FIELD_HGT_HGT (i : Nat) : Fld := ⟨A.FIELD_HGT i, 31, 0⟩
abbrev F.FIELD_GRID_TN0 (i : Nat) : Fld := ⟨A.FIELD_GRID i, 31, 16⟩
abbrev F.FIELD_GRID_TE0 (i : Nat) : Fld := ⟨A.FIELD_GRID i, 15, 0⟩
abbrev F.FIELD_SIZE_NN (i : Nat) : Fld := ⟨A.FIELD_SIZE i, 28, 16⟩
abbrev F.FIELD_SIZE_NE (i : Nat) : Fld := ⟨A.FIELD_SIZE i, 12, 0⟩
abbrev F.FIELD_CFG_VALID (i : Nat) : Fld := ⟨A.FIELD_CFG i, 31, 31⟩
abbrev F.FIELD_CFG_ACTIVE (i : Nat) : Fld := ⟨A.FIELD_CFG i, 30, 30⟩
abbrev F.FIELD_CFG_BAD_TILE (i : Nat) : Fld := ⟨A.FIELD_CFG i, 9, 8⟩
abbrev F.FIELD_CFG_LAYERS (i : Nat) : Fld := ⟨A.FIELD_CFG i, 5, 4⟩
abbrev F.FIELD_CFG_CELL (i : Nat) : Fld := ⟨A.FIELD_CFG i, 1, 0⟩
abbrev F.FIELD_CTRL_CLEAR (i : Nat) : Fld := ⟨A.FIELD_CTRL i, 11, 8⟩
abbrev F.FIELD_CTRL_HERE (i : Nat) : Fld := ⟨A.FIELD_CTRL i, 2, 2⟩
abbrev F.FIELD_CTRL_DELETE (i : Nat) : Fld := ⟨A.FIELD_CTRL i, 1, 1⟩
abbrev F.FIELD_CTRL_CREATE (i : Nat) : Fld := ⟨A.FIELD_CTRL i, 0, 0⟩
abbrev F.FIELD_STAT_BUSY (i : Nat) : Fld := ⟨A.FIELD_STAT i, 31, 31⟩
abbrev F.FIELD_STAT_DIR_BASE (i : Nat) : Fld := ⟨A.FIELD_STAT i, 17, 0⟩
abbrev F.MAP_WIN_DATA (i : Nat) : Fld := ⟨A.MAP_WIN i, 31, 0⟩
abbrev F.OUT_CTRL_LATE_CLR (i : Nat) : Fld := ⟨A.OUT_CTRL i, 2, 2⟩
abbrev F.OUT_CTRL_DISARM (i : Nat) : Fld := ⟨A.OUT_CTRL i, 1, 1⟩
abbrev F.OUT_CTRL_ARM (i : Nat) : Fld := ⟨A.OUT_CTRL i, 0, 0⟩
abbrev F.OUT_STAT_ARMED (i : Nat) : Fld := ⟨A.OUT_STAT i, 31, 31⟩
abbrev F.OUT_STAT_CMD_ON (i : Nat) : Fld := ⟨A.OUT_STAT i, 30, 30⟩
abbrev F.OUT_STAT_ACTUAL_ON (i : Nat) : Fld := ⟨A.OUT_STAT i, 29, 29⟩
abbrev F.OUT_STAT_PENDING (i : Nat) : Fld := ⟨A.OUT_STAT i, 28, 23⟩
abbrev F.OUT_STAT_LEARN_FAIL (i : Nat) : Fld := ⟨A.OUT_STAT i, 8, 8⟩
abbrev F.OUT_STAT_RATE_UNATTAINABLE (i : Nat) : Fld := ⟨A.OUT_STAT i, 7, 7⟩
abbrev F.OUT_STAT_RATE_FLAG (i : Nat) : Fld := ⟨A.OUT_STAT i, 6, 6⟩
abbrev F.OUT_STAT_HOLD_MISS (i : Nat) : Fld := ⟨A.OUT_STAT i, 5, 5⟩
abbrev F.OUT_STAT_DISCARD (i : Nat) : Fld := ⟨A.OUT_STAT i, 4, 4⟩
abbrev F.OUT_STAT_ORDER (i : Nat) : Fld := ⟨A.OUT_STAT i, 3, 3⟩
abbrev F.OUT_STAT_LATE (i : Nat) : Fld := ⟨A.OUT_STAT i, 2, 2⟩
abbrev F.OUT_LATE_MAX_MAX (i : Nat) : Fld := ⟨A.OUT_LATE_MAX i, 31, 0⟩
abbrev F.OUT_EVCNT_LATE (i : Nat) : Fld := ⟨A.OUT_EVCNT i, 31, 16⟩
abbrev F.OUT_EVCNT_ORDER (i : Nat) : Fld := ⟨A.OUT_EVCNT i, 15, 0⟩
abbrev F.OUT_DISCNT_DISCARD (i : Nat) : Fld := ⟨A.OUT_DISCNT i, 31, 16⟩
abbrev F.OUT_DISCNT_WITHDRAWN (i : Nat) : Fld := ⟨A.OUT_DISCNT i, 15, 0⟩
abbrev F.OUT_LAT_ON (i : Nat) : Fld := ⟨A.OUT_LAT i, 31, 16⟩
abbrev F.OUT_LAT_OFF (i : Nat) : Fld := ⟨A.OUT_LAT i, 15, 0⟩
abbrev F.OUT_LATINIT_INIT_ON (i : Nat) : Fld := ⟨A.OUT_LATINIT i, 31, 16⟩
abbrev F.OUT_LATINIT_INIT_OFF (i : Nat) : Fld := ⟨A.OUT_LATINIT i, 15, 0⟩
abbrev F.OUT_LEARN_EN_ON (i : Nat) : Fld := ⟨A.OUT_LEARN i, 31, 31⟩
abbrev F.OUT_LEARN_EN_OFF (i : Nat) : Fld := ⟨A.OUT_LEARN i, 30, 30⟩
abbrev F.OUT_LEARN_OPEN_PULSE (i : Nat) : Fld := ⟨A.OUT_LEARN i, 29, 29⟩
abbrev F.OUT_LEARN_RELEARN (i : Nat) : Fld := ⟨A.OUT_LEARN i, 28, 28⟩
abbrev F.OUT_LEARN_BUMP_THR (i : Nat) : Fld := ⟨A.OUT_LEARN i, 23, 16⟩
abbrev F.OUT_LEARN_DIP_THR (i : Nat) : Fld := ⟨A.OUT_LEARN i, 15, 8⟩
abbrev F.OUT_LEARN_CAP_DELAY (i : Nat) : Fld := ⟨A.OUT_LEARN i, 7, 0⟩
abbrev F.OUT_TRANSIT_TRANSIT (i : Nat) : Fld := ⟨A.OUT_TRANSIT i, 15, 0⟩
abbrev F.OUT_MEAS_ON_RES (i : Nat) : Fld := ⟨A.OUT_MEAS_ON i, 31, 28⟩
abbrev F.OUT_MEAS_ON_REJECT_RUN (i : Nat) : Fld := ⟨A.OUT_MEAS_ON i, 23, 16⟩
abbrev F.OUT_MEAS_ON_VALUE (i : Nat) : Fld := ⟨A.OUT_MEAS_ON i, 15, 0⟩
abbrev F.OUT_MEAS_OFF_RES (i : Nat) : Fld := ⟨A.OUT_MEAS_OFF i, 31, 28⟩
abbrev F.OUT_MEAS_OFF_REJECT_RUN (i : Nat) : Fld := ⟨A.OUT_MEAS_OFF i, 23, 16⟩
abbrev F.OUT_MEAS_OFF_VALUE (i : Nat) : Fld := ⟨A.OUT_MEAS_OFF i, 15, 0⟩
abbrev F.OUT_COMP_EN (i : Nat) : Fld := ⟨A.OUT_COMP i, 31, 31⟩
abbrev F.OUT_COMP_REF (i : Nat) : Fld := ⟨A.OUT_COMP i, 15, 0⟩
abbrev F.OUT_SPEED_LOCAL (i : Nat) : Fld := ⟨A.OUT_SPEED i, 15, 0⟩
abbrev F.ACT_DIST_STAT_STALLED : Fld := ⟨A.ACT_DIST_STAT, 0, 0⟩
abbrev F.ACT_DIST_STALL_COUNT : Fld := ⟨A.ACT_DIST_STALL, 31, 0⟩
abbrev F.REM_NOMATCH_CNT_COUNT : Fld := ⟨A.REM_NOMATCH_CNT, 31, 0⟩
abbrev F.REM_DESC_VALID (i : Nat) : Fld := ⟨A.REM_DESC i, 31, 31⟩
abbrev F.REM_DESC_PORT (i : Nat) : Fld := ⟨A.REM_DESC i, 26, 24⟩
abbrev F.REM_DESC_ADDR (i : Nat) : Fld := ⟨A.REM_DESC i, 15, 8⟩
abbrev F.REM_DESC_CHANNEL (i : Nat) : Fld := ⟨A.REM_DESC i, 7, 0⟩
abbrev F.REM_CTRL_ARMED (i : Nat) : Fld := ⟨A.REM_CTRL i, 31, 31⟩
abbrev F.REM_CTRL_ON (i : Nat) : Fld := ⟨A.REM_CTRL i, 30, 30⟩
abbrev F.REM_CTRL_STALE (i : Nat) : Fld := ⟨A.REM_CTRL i, 29, 29⟩
abbrev F.REM_CTRL_LATE_REP (i : Nat) : Fld := ⟨A.REM_CTRL i, 28, 28⟩
abbrev F.REM_CTRL_DISCARD (i : Nat) : Fld := ⟨A.REM_CTRL i, 27, 27⟩
abbrev F.REM_CTRL_PAST_SENT (i : Nat) : Fld := ⟨A.REM_CTRL i, 26, 26⟩
abbrev F.REM_CTRL_DISARM (i : Nat) : Fld := ⟨A.REM_CTRL i, 1, 1⟩
abbrev F.REM_CTRL_ARM (i : Nat) : Fld := ⟨A.REM_CTRL i, 0, 0⟩
abbrev F.REM_LAT_ON (i : Nat) : Fld := ⟨A.REM_LAT i, 31, 16⟩
abbrev F.REM_LAT_OFF (i : Nat) : Fld := ⟨A.REM_LAT i, 15, 0⟩
abbrev F.REM_CFG_TIMEOUT (i : Nat) : Fld := ⟨A.REM_CFG i, 23, 16⟩
abbrev F.REM_CFG_TRANSIT (i : Nat) : Fld := ⟨A.REM_CFG i, 15, 0⟩
abbrev F.REM_LATINIT_INIT_ON (i : Nat) : Fld := ⟨A.REM_LATINIT i, 31, 16⟩
abbrev F.REM_LATINIT_INIT_OFF (i : Nat) : Fld := ⟨A.REM_LATINIT i, 15, 0⟩
abbrev F.MARK_STAT_GAP : Fld := ⟨A.MARK_STAT, 0, 0⟩
abbrev F.MARK_GAP_CNT_COUNT : Fld := ⟨A.MARK_GAP_CNT, 31, 0⟩
abbrev F.QCTRL_HWM_CLR (i : Nat) : Fld := ⟨A.QCTRL i, 1, 1⟩
abbrev F.QCTRL_QFLUSH (i : Nat) : Fld := ⟨A.QCTRL i, 0, 0⟩
abbrev F.QSTAT_FLUSH_SWALLOW (i : Nat) : Fld := ⟨A.QSTAT i, 31, 16⟩
abbrev F.QSTAT_FLUSH_BUSY (i : Nat) : Fld := ⟨A.QSTAT i, 5, 5⟩
abbrev F.QSTAT_POISON (i : Nat) : Fld := ⟨A.QSTAT i, 4, 4⟩
abbrev F.QSTAT_DROP (i : Nat) : Fld := ⟨A.QSTAT i, 3, 3⟩
abbrev F.QSTAT_BP_SEEN (i : Nat) : Fld := ⟨A.QSTAT i, 2, 2⟩
abbrev F.QSTAT_FULL (i : Nat) : Fld := ⟨A.QSTAT i, 1, 1⟩
abbrev F.QPLEV_FREE (i : Nat) : Fld := ⟨A.QPLEV i, 25, 16⟩
abbrev F.QPLEV_RESERVED (i : Nat) : Fld := ⟨A.QPLEV i, 9, 0⟩
abbrev F.QPCNT_COUNT (i : Nat) : Fld := ⟨A.QPCNT i, 31, 0⟩
abbrev F.QDROP_COUNT (i : Nat) : Fld := ⟨A.QDROP i, 31, 0⟩
abbrev F.QHWM_HIGH (i : Nat) : Fld := ⟨A.QHWM i, 9, 0⟩
abbrev F.QPTRP_WP (i : Nat) : Fld := ⟨A.QPTRP i, 25, 16⟩
abbrev F.QPTRP_RPS (i : Nat) : Fld := ⟨A.QPTRP i, 9, 0⟩
abbrev F.QCSTAT_VISIBLE (i : Nat) : Fld := ⟨A.QCSTAT i, 25, 16⟩
abbrev F.QCSTAT_PROV (i : Nat) : Fld := ⟨A.QCSTAT i, 9, 0⟩
abbrev F.QCFLAG_EMPTY (i : Nat) : Fld := ⟨A.QCFLAG i, 0, 0⟩
abbrev F.QCCNT_COUNT (i : Nat) : Fld := ⟨A.QCCNT i, 31, 0⟩
abbrev F.QPTRC_RP (i : Nat) : Fld := ⟨A.QPTRC i, 25, 16⟩
abbrev F.QPTRC_WPS (i : Nat) : Fld := ⟨A.QPTRC i, 9, 0⟩
abbrev F.CH_CFG_SAFE_DUTY (i : Nat) : Fld := ⟨A.CH_CFG i, 31, 24⟩
abbrev F.CH_CFG_POSTURE (i : Nat) : Fld := ⟨A.CH_CFG i, 23, 22⟩
abbrev F.CH_CFG_COMP_LAW (i : Nat) : Fld := ⟨A.CH_CFG i, 21, 20⟩
abbrev F.CH_CFG_THERM_LATCH (i : Nat) : Fld := ⟨A.CH_CFG i, 19, 19⟩
abbrev F.CH_CFG_THERM_CLASS (i : Nat) : Fld := ⟨A.CH_CFG i, 18, 18⟩
abbrev F.CH_CFG_PULSE_DT (i : Nat) : Fld := ⟨A.CH_CFG i, 17, 11⟩
abbrev F.CH_CFG_CLASS (i : Nat) : Fld := ⟨A.CH_CFG i, 10, 8⟩
abbrev F.CH_CFG_REV_GAP (i : Nat) : Fld := ⟨A.CH_CFG i, 7, 0⟩
abbrev F.CH_LIMIT_INRUSH_WIN (i : Nat) : Fld := ⟨A.CH_LIMIT i, 31, 24⟩
abbrev F.CH_LIMIT_INRUSH_LIM (i : Nat) : Fld := ⟨A.CH_LIMIT i, 23, 16⟩
abbrev F.CH_LIMIT_PEAK (i : Nat) : Fld := ⟨A.CH_LIMIT i, 15, 8⟩
abbrev F.CH_LIMIT_NOM (i : Nat) : Fld := ⟨A.CH_LIMIT i, 7, 0⟩
abbrev F.CH_RETRY_TRIES (i : Nat) : Fld := ⟨A.CH_RETRY i, 31, 28⟩
abbrev F.CH_RETRY_CAP (i : Nat) : Fld := ⟨A.CH_RETRY i, 27, 20⟩
abbrev F.CH_RETRY_PAUSE (i : Nat) : Fld := ⟨A.CH_RETRY i, 9, 0⟩
abbrev F.CH_CTRL_UNLATCH (i : Nat) : Fld := ⟨A.CH_CTRL i, 0, 0⟩
abbrev F.CH_STAT_PSTATE (i : Nat) : Fld := ⟨A.CH_STAT i, 31, 28⟩
abbrev F.CH_STAT_TRY (i : Nat) : Fld := ⟨A.CH_STAT i, 27, 24⟩
abbrev F.CH_STAT_LP_SHORT (i : Nat) : Fld := ⟨A.CH_STAT i, 15, 15⟩
abbrev F.CH_STAT_SUPPLY_SAT (i : Nat) : Fld := ⟨A.CH_STAT i, 14, 14⟩
abbrev F.CH_STAT_DEFER_CANCEL (i : Nat) : Fld := ⟨A.CH_STAT i, 13, 13⟩
abbrev F.CH_STAT_DEFER (i : Nat) : Fld := ⟨A.CH_STAT i, 12, 12⟩
abbrev F.CH_STAT_THERM (i : Nat) : Fld := ⟨A.CH_STAT i, 11, 11⟩
abbrev F.CH_STAT_TRIP (i : Nat) : Fld := ⟨A.CH_STAT i, 10, 10⟩
abbrev F.CH_MEAS_DT (i : Nat) : Fld := ⟨A.CH_MEAS i, 31, 24⟩
abbrev F.CH_MEAS_TJ (i : Nat) : Fld := ⟨A.CH_MEAS i, 23, 16⟩
abbrev F.CH_MEAS_CUR (i : Nat) : Fld := ⟨A.CH_MEAS i, 15, 0⟩
abbrev F.CH_DEFER_COUNT (i : Nat) : Fld := ⟨A.CH_DEFER i, 31, 16⟩
abbrev F.CH_DEFER_MAX (i : Nat) : Fld := ⟨A.CH_DEFER i, 15, 0⟩
abbrev F.CH_TRIPCNT_COUNT (i : Nat) : Fld := ⟨A.CH_TRIPCNT i, 31, 0⟩
abbrev F.FEED_CFG_VNOM (i : Nat) : Fld := ⟨A.FEED_CFG i, 31, 16⟩
abbrev F.FEED_CFG_BUDGET (i : Nat) : Fld := ⟨A.FEED_CFG i, 7, 0⟩
abbrev F.FEED_STAT_MV (i : Nat) : Fld := ⟨A.FEED_STAT i, 31, 16⟩
abbrev F.FEED_STAT_RESERVE (i : Nat) : Fld := ⟨A.FEED_STAT i, 15, 8⟩
abbrev F.FEED_STAT_REVERSED (i : Nat) : Fld := ⟨A.FEED_STAT i, 4, 4⟩
abbrev F.FEED_STAT_FROZEN (i : Nat) : Fld := ⟨A.FEED_STAT i, 3, 3⟩
abbrev F.FEED_STAT_FREEZE_SEEN (i : Nat) : Fld := ⟨A.FEED_STAT i, 2, 2⟩
abbrev F.FEED_STAT_UV_SEEN (i : Nat) : Fld := ⟨A.FEED_STAT i, 1, 1⟩
abbrev F.FEED_STAT_UV (i : Nat) : Fld := ⟨A.FEED_STAT i, 0, 0⟩
abbrev F.FEED_CUR_MA (i : Nat) : Fld := ⟨A.FEED_CUR i, 15, 0⟩
abbrev F.FEED_UVCNT_COUNT (i : Nat) : Fld := ⟨A.FEED_UVCNT i, 31, 0⟩
abbrev F.LOAD_GLOBAL_HOLD_WIN : Fld := ⟨A.LOAD_GLOBAL, 10, 0⟩
abbrev F.CAP_SEL_OUTPUT : Fld := ⟨A.CAP_SEL, 6, 0⟩
abbrev F.CAP_STAT_VALID : Fld := ⟨A.CAP_STAT, 31, 31⟩
abbrev F.CAP_STAT_DIR : Fld := ⟨A.CAP_STAT, 30, 30⟩
abbrev F.CAP_STAT_RES : Fld := ⟨A.CAP_STAT, 27, 24⟩
abbrev F.CAP_STAT_POINTS : Fld := ⟨A.CAP_STAT, 15, 0⟩
abbrev F.CAP_T_LO_TIME : Fld := ⟨A.CAP_T_LO, 31, 0⟩
abbrev F.CAP_T_HI_TIME : Fld := ⟨A.CAP_T_HI, 31, 0⟩
abbrev F.CAP_WIN_ODD (i : Nat) : Fld := ⟨A.CAP_WIN i, 31, 16⟩
abbrev F.CAP_WIN_EVEN (i : Nat) : Fld := ⟨A.CAP_WIN i, 15, 0⟩
abbrev F.PWM_DEAD_DR (i : Nat) : Fld := ⟨A.PWM_DEAD i, 31, 16⟩
abbrev F.PWM_DEAD_DF (i : Nat) : Fld := ⟨A.PWM_DEAD i, 15, 0⟩
abbrev F.PWM_PERIOD_PERIOD (i : Nat) : Fld := ⟨A.PWM_PERIOD i, 31, 0⟩
abbrev F.PWM_DUTY_BASE (i : Nat) : Fld := ⟨A.PWM_DUTY i, 31, 0⟩
abbrev F.PWM_APPL_APPLIED (i : Nat) : Fld := ⟨A.PWM_APPL i, 31, 0⟩
abbrev F.PWM_PHASE_PHASE (i : Nat) : Fld := ⟨A.PWM_PHASE i, 31, 0⟩
abbrev F.PWM_CNT_COUNT (i : Nat) : Fld := ⟨A.PWM_CNT i, 31, 0⟩
abbrev F.PWM_STAT_FALLBACK (i : Nat) : Fld := ⟨A.PWM_STAT i, 7, 7⟩
abbrev F.PWM_STAT_SPREAD_EXCL (i : Nat) : Fld := ⟨A.PWM_STAT i, 6, 6⟩
abbrev F.PWM_STAT_PERIOD_CLAMP (i : Nat) : Fld := ⟨A.PWM_STAT i, 5, 5⟩
abbrev F.PWM_STAT_HELD_MIN (i : Nat) : Fld := ⟨A.PWM_STAT i, 4, 4⟩
abbrev F.PWM_STAT_GAP_DROPPED (i : Nat) : Fld := ⟨A.PWM_STAT i, 3, 3⟩
abbrev F.PWM_STAT_SHORT_DROPPED (i : Nat) : Fld := ⟨A.PWM_STAT i, 2, 2⟩
abbrev F.PWM_STAT_CARRIER (i : Nat) : Fld := ⟨A.PWM_STAT i, 1, 1⟩
abbrev F.PWM_STAT_LINE (i : Nat) : Fld := ⟨A.PWM_STAT i, 0, 0⟩
abbrev F.PWM_SHORT_DROP (i : Nat) : Fld := ⟨A.PWM_SHORT i, 31, 16⟩
abbrev F.PWM_SHORT_GAP_DROP (i : Nat) : Fld := ⟨A.PWM_SHORT i, 15, 0⟩
abbrev F.PWM_STRETCH_COUNT (i : Nat) : Fld := ⟨A.PWM_STRETCH i, 31, 0⟩
abbrev F.PWM_CAL_CAL_ERR (i : Nat) : Fld := ⟨A.PWM_CAL i, 23, 16⟩
abbrev F.PWM_CAL_SPAN (i : Nat) : Fld := ⟨A.PWM_CAL i, 15, 8⟩
abbrev F.PWM_CAL_RUN (i : Nat) : Fld := ⟨A.PWM_CAL i, 1, 0⟩
abbrev F.PWM_BANK_LEADER (i : Nat) : Fld := ⟨A.PWM_BANK i, 23, 16⟩
abbrev F.PWM_BANK_MEMBERS (i : Nat) : Fld := ⟨A.PWM_BANK i, 11, 8⟩
abbrev F.PWM_BANK_SPREAD (i : Nat) : Fld := ⟨A.PWM_BANK i, 0, 0⟩
abbrev F.PWM_GLOBAL_FB_FORCE : Fld := ⟨A.PWM_GLOBAL, 31, 31⟩
abbrev F.PWM_GLOBAL_FB_MIN : Fld := ⟨A.PWM_GLOBAL, 10, 0⟩
abbrev F.GNSS_CTRL_COLD : Fld := ⟨A.GNSS_CTRL, 31, 31⟩
abbrev F.GNSS_CTRL_ELEV_MASK : Fld := ⟨A.GNSS_CTRL, 12, 8⟩
abbrev F.GNSS_CTRL_SYS_EN : Fld := ⟨A.GNSS_CTRL, 4, 0⟩
abbrev F.GNSS_STAT_FIRST_FIX : Fld := ⟨A.GNSS_STAT, 25, 25⟩
abbrev F.GNSS_STAT_ACQ_BUSY : Fld := ⟨A.GNSS_STAT, 24, 24⟩
abbrev F.GNSS_STAT_ANT_OPEN : Fld := ⟨A.GNSS_STAT, 21, 20⟩
abbrev F.GNSS_STAT_CHAIN_FAIL : Fld := ⟨A.GNSS_STAT, 19, 16⟩
abbrev F.GNSS_STAT_SATS : Fld := ⟨A.GNSS_STAT, 15, 8⟩
abbrev F.GNSS_STAT_TRACKED : Fld := ⟨A.GNSS_STAT, 7, 0⟩
abbrev F.CHAIN_STAT_NOISE (i : Nat) : Fld := ⟨A.CHAIN_STAT i, 15, 8⟩
abbrev F.CHAIN_STAT_GAIN (i : Nat) : Fld := ⟨A.CHAIN_STAT i, 7, 0⟩
abbrev F.EPOCH_PHASE_PHASE : Fld := ⟨A.EPOCH_PHASE, 26, 0⟩
abbrev F.MEAS_CFG_EN : Fld := ⟨A.MEAS_CFG, 31, 31⟩
abbrev F.MEAS_CFG_SIG : Fld := ⟨A.MEAS_CFG, 26, 16⟩
abbrev F.MEAS_CFG_DIV : Fld := ⟨A.MEAS_CFG, 14, 8⟩
abbrev F.MEAS_CFG_ANT : Fld := ⟨A.MEAS_CFG, 1, 0⟩
abbrev F.TRK_CFG_MANUAL (i : Nat) : Fld := ⟨A.TRK_CFG i, 31, 31⟩
abbrev F.TRK_CFG_EN (i : Nat) : Fld := ⟨A.TRK_CFG i, 30, 30⟩
abbrev F.TRK_CFG_CHAIN (i : Nat) : Fld := ⟨A.TRK_CFG i, 25, 24⟩
abbrev F.TRK_CFG_SIGNAL (i : Nat) : Fld := ⟨A.TRK_CFG i, 19, 16⟩
abbrev F.TRK_CFG_PRN (i : Nat) : Fld := ⟨A.TRK_CFG i, 15, 8⟩
abbrev F.TRK_CFG_SPACING (i : Nat) : Fld := ⟨A.TRK_CFG i, 4, 0⟩
abbrev F.TRK_LOOP_INT (i : Nat) : Fld := ⟨A.TRK_LOOP i, 31, 24⟩
abbrev F.TRK_LOOP_DLL_BW (i : Nat) : Fld := ⟨A.TRK_LOOP i, 23, 16⟩
abbrev F.TRK_LOOP_FLL_BW (i : Nat) : Fld := ⟨A.TRK_LOOP i, 15, 8⟩
abbrev F.TRK_LOOP_PLL_BW (i : Nat) : Fld := ⟨A.TRK_LOOP i, 7, 0⟩
abbrev F.TRK_STAT_LOCK_TIME (i : Nat) : Fld := ⟨A.TRK_STAT i, 31, 16⟩
abbrev F.TRK_STAT_CN0 (i : Nat) : Fld := ⟨A.TRK_STAT i, 15, 8⟩
abbrev F.TRK_STAT_STATE (i : Nat) : Fld := ⟨A.TRK_STAT i, 3, 0⟩
abbrev F.TRK_DOP_DOPPLER (i : Nat) : Fld := ⟨A.TRK_DOP i, 31, 0⟩
abbrev F.POSE_CFG_SIGMA_MAX : Fld := ⟨A.POSE_CFG, 31, 16⟩
abbrev F.POSE_CFG_HEAD_HOLD : Fld := ⟨A.POSE_CFG, 15, 8⟩
abbrev F.POSE_CFG_DR_LIMIT : Fld := ⟨A.POSE_CFG, 5, 0⟩
abbrev F.SPEED_SRC_SIGNED1 : Fld := ⟨A.SPEED_SRC, 17, 17⟩
abbrev F.SPEED_SRC_SIGNED0 : Fld := ⟨A.SPEED_SRC, 16, 16⟩
abbrev F.SPEED_SRC_EN1 : Fld := ⟨A.SPEED_SRC, 15, 15⟩
abbrev F.SPEED_SRC_INPUT1 : Fld := ⟨A.SPEED_SRC, 12, 8⟩
abbrev F.SPEED_SRC_EN0 : Fld := ⟨A.SPEED_SRC, 7, 7⟩
abbrev F.SPEED_SRC_INPUT0 : Fld := ⟨A.SPEED_SRC, 4, 0⟩
abbrev F.SPEED_SCALE_SCALE (i : Nat) : Fld := ⟨A.SPEED_SCALE i, 31, 0⟩
abbrev F.POSE_STAT_SATS_USED : Fld := ⟨A.POSE_STAT, 13, 8⟩
abbrev F.POSE_STAT_HEAD_SRC : Fld := ⟨A.POSE_STAT, 5, 4⟩
abbrev F.POSE_STAT_FIELD_VALID : Fld := ⟨A.POSE_STAT, 3, 3⟩
abbrev F.POSE_STAT_QUALITY : Fld := ⟨A.POSE_STAT, 2, 0⟩
abbrev F.POSE_CNT_COUNT : Fld := ⟨A.POSE_CNT, 31, 0⟩
abbrev F.QUAL_CNT_COUNT : Fld := ⟨A.QUAL_CNT, 31, 0⟩
abbrev F.IMU_STAT_EXCL : Fld := ⟨A.IMU_STAT, 2, 2⟩
abbrev F.IMU_STAT_MISS : Fld := ⟨A.IMU_STAT, 1, 1⟩
abbrev F.IMU_STAT_SAT : Fld := ⟨A.IMU_STAT, 0, 0⟩
abbrev F.HEAD_STAT_BASE_REJ_CNT : Fld := ⟨A.HEAD_STAT, 31, 16⟩
abbrev F.HEAD_STAT_BASE_MM : Fld := ⟨A.HEAD_STAT, 15, 0⟩
abbrev F.IMU_MISS_CNT_COUNT : Fld := ⟨A.IMU_MISS_CNT, 31, 0⟩
abbrev F.CORR_CFG_EN : Fld := ⟨A.CORR_CFG, 31, 31⟩
abbrev F.CORR_CFG_AGE : Fld := ⟨A.CORR_CFG, 13, 8⟩
abbrev F.CORR_CFG_SOURCE : Fld := ⟨A.CORR_CFG, 2, 0⟩
abbrev F.CORR_STAT_STALE : Fld := ⟨A.CORR_STAT, 18, 18⟩
abbrev F.CORR_STAT_CRC_ERR : Fld := ⟨A.CORR_STAT, 17, 17⟩
abbrev F.CORR_STAT_BASE_VALID : Fld := ⟨A.CORR_STAT, 16, 16⟩
abbrev F.CORR_STAT_AGE : Fld := ⟨A.CORR_STAT, 15, 0⟩
abbrev F.CORR_CNT_GOOD : Fld := ⟨A.CORR_CNT, 31, 16⟩
abbrev F.CORR_CNT_BAD : Fld := ⟨A.CORR_CNT, 15, 0⟩
abbrev F.CORR_IGN_COUNT : Fld := ⟨A.CORR_IGN, 31, 0⟩
abbrev F.CORR_FEED_BYTE : Fld := ⟨A.CORR_FEED, 7, 0⟩
abbrev F.SNAP_CFG_LEN : Fld := ⟨A.SNAP_CFG, 11, 8⟩
abbrev F.SNAP_CFG_CHAINS : Fld := ⟨A.SNAP_CFG, 3, 0⟩
abbrev F.SNAP_CTRL_SOLVE : Fld := ⟨A.SNAP_CTRL, 1, 1⟩
abbrev F.SNAP_CTRL_CAPTURE : Fld := ⟨A.SNAP_CTRL, 0, 0⟩
abbrev F.SNAP_STAT_BYTES : Fld := ⟨A.SNAP_STAT, 30, 12⟩
abbrev F.SNAP_STAT_RESULT : Fld := ⟨A.SNAP_STAT, 7, 4⟩
abbrev F.SNAP_STAT_VALID : Fld := ⟨A.SNAP_STAT, 2, 2⟩
abbrev F.SNAP_STAT_SOLVE_BUSY : Fld := ⟨A.SNAP_STAT, 1, 1⟩
abbrev F.SNAP_STAT_CAP_BUSY : Fld := ⟨A.SNAP_STAT, 0, 0⟩
abbrev F.SNAP_LAT_LAT : Fld := ⟨A.SNAP_LAT, 31, 0⟩
abbrev F.SNAP_LON_LON : Fld := ⟨A.SNAP_LON, 31, 0⟩
abbrev F.SNAP_HGT_HGT : Fld := ⟨A.SNAP_HGT, 31, 0⟩
abbrev F.SNAP_SIG_SIG : Fld := ⟨A.SNAP_SIG, 31, 0⟩
abbrev F.SNAP_PAGE_PAGE : Fld := ⟨A.SNAP_PAGE, 6, 0⟩
abbrev F.SNAP_WIN_DATA (i : Nat) : Fld := ⟨A.SNAP_WIN i, 31, 0⟩
abbrev F.TICK_CFG_PERIOD : Fld := ⟨A.TICK_CFG, 4, 0⟩
abbrev F.TICK_NUM_COUNT : Fld := ⟨A.TICK_NUM, 31, 0⟩
abbrev F.TIME_CTRL_SET : Fld := ⟨A.TIME_CTRL, 0, 0⟩
abbrev F.TIME_STAT_MSG_MISS : Fld := ⟨A.TIME_STAT, 31, 16⟩
abbrev F.TIME_STAT_STEP_PEND : Fld := ⟨A.TIME_STAT, 4, 4⟩
abbrev F.TIME_STAT_SLEW : Fld := ⟨A.TIME_STAT, 3, 3⟩
abbrev F.TIME_STAT_STATE : Fld := ⟨A.TIME_STAT, 1, 0⟩
abbrev F.PPS_CFG_EN : Fld := ⟨A.PPS_CFG, 31, 31⟩
abbrev F.PPS_CFG_WIDTH : Fld := ⟨A.PPS_CFG, 8, 0⟩
abbrev F.TIME_HOLD_LIMIT : Fld := ⟨A.TIME_HOLD, 31, 22⟩
abbrev F.TIME_HOLD_SLEW_MAX : Fld := ⟨A.TIME_HOLD, 21, 16⟩
abbrev F.TIME_HOLD_FREQ_UNC : Fld := ⟨A.TIME_HOLD, 15, 0⟩
abbrev F.TIME_SET_LO_GTIME : Fld := ⟨A.TIME_SET_LO, 31, 0⟩
abbrev F.TIME_SET_HI_GTIME : Fld := ⟨A.TIME_SET_HI, 31, 0⟩
abbrev F.TIME_STEP_CNT_COUNT : Fld := ⟨A.TIME_STEP_CNT, 31, 0⟩
abbrev F.TIME_MSG_PORTS : Fld := ⟨A.TIME_MSG, 5, 0⟩
abbrev F.TM_CFG_EN : Fld := ⟨A.TM_CFG, 31, 31⟩
abbrev F.TM_CFG_PORT : Fld := ⟨A.TM_CFG, 18, 16⟩
abbrev F.TM_CFG_PERIOD : Fld := ⟨A.TM_CFG, 9, 0⟩
abbrev F.TM_REF_ID_IDE : Fld := ⟨A.TM_REF_ID, 31, 31⟩
abbrev F.TM_REF_ID_ID : Fld := ⟨A.TM_REF_ID, 28, 0⟩
abbrev F.TM_FOL_ID_IDE : Fld := ⟨A.TM_FOL_ID, 31, 31⟩
abbrev F.TM_FOL_ID_ID : Fld := ⟨A.TM_FOL_ID, 28, 0⟩
abbrev F.TM_STAT_SUSP_CNT : Fld := ⟨A.TM_STAT, 31, 16⟩
abbrev F.TM_STAT_SUSPENDED : Fld := ⟨A.TM_STAT, 6, 6⟩
abbrev F.TM_STAT_CYCLE : Fld := ⟨A.TM_STAT, 5, 0⟩
abbrev F.FB_CFG_AVG (i : Nat) : Fld := ⟨A.FB_CFG i, 23, 16⟩
abbrev F.FB_CFG_REC (i : Nat) : Fld := ⟨A.FB_CFG i, 15, 8⟩
abbrev F.FB_CFG_EDGE (i : Nat) : Fld := ⟨A.FB_CFG i, 7, 6⟩
abbrev F.FB_CFG_PULLUP (i : Nat) : Fld := ⟨A.FB_CFG i, 5, 5⟩
abbrev F.FB_CFG_TIMED (i : Nat) : Fld := ⟨A.FB_CFG i, 4, 4⟩
abbrev F.FB_CFG_MODE (i : Nat) : Fld := ⟨A.FB_CFG i, 3, 0⟩
abbrev F.FB_THR_THR (i : Nat) : Fld := ⟨A.FB_THR i, 25, 16⟩
abbrev F.FB_THR_HYS (i : Nat) : Fld := ⟨A.FB_THR i, 6, 0⟩
abbrev F.FB_FILT_GLITCH (i : Nat) : Fld := ⟨A.FB_FILT i, 26, 16⟩
abbrev F.FB_FILT_DEBOUNCE (i : Nat) : Fld := ⟨A.FB_FILT i, 7, 0⟩
abbrev F.FB_CHK_STALE (i : Nat) : Fld := ⟨A.FB_CHK i, 31, 16⟩
abbrev F.FB_CHK_MINW (i : Nat) : Fld := ⟨A.FB_CHK i, 15, 9⟩
abbrev F.FB_CHK_FMAX (i : Nat) : Fld := ⟨A.FB_CHK i, 8, 0⟩
abbrev F.FB_SCALE_SCALE (i : Nat) : Fld := ⟨A.FB_SCALE i, 31, 0⟩
abbrev F.FB_COUNT_COUNT (i : Nat) : Fld := ⟨A.FB_COUNT i, 31, 0⟩
abbrev F.FB_SPEED_SPEED (i : Nat) : Fld := ⟨A.FB_SPEED i, 15, 0⟩
abbrev F.FB_PERIOD_PERIOD (i : Nat) : Fld := ⟨A.FB_PERIOD i, 31, 0⟩
abbrev F.FB_ERRCNT_PHASE_ERR (i : Nat) : Fld := ⟨A.FB_ERRCNT i, 31, 16⟩
abbrev F.FB_ERRCNT_RANGE_ERR (i : Nat) : Fld := ⟨A.FB_ERRCNT i, 15, 0⟩
abbrev F.FB_CTRL_CLEAR_FAULT (i : Nat) : Fld := ⟨A.FB_CTRL i, 0, 0⟩
abbrev F.FB_STAT_SSI_ERR (i : Nat) : Fld := ⟨A.FB_STAT i, 16, 16⟩
abbrev F.FB_STAT_CMP_FIRED (i : Nat) : Fld := ⟨A.FB_STAT i, 15, 12⟩
abbrev F.FB_STAT_CMP_LATE (i : Nat) : Fld := ⟨A.FB_STAT i, 11, 8⟩
abbrev F.FB_STAT_RANGE_SEEN (i : Nat) : Fld := ⟨A.FB_STAT i, 7, 7⟩
abbrev F.FB_STAT_REV_HOLD (i : Nat) : Fld := ⟨A.FB_STAT i, 6, 6⟩
abbrev F.FB_STAT_DIR_CHG (i : Nat) : Fld := ⟨A.FB_STAT i, 5, 5⟩
abbrev F.FB_STAT_FAULTY (i : Nat) : Fld := ⟨A.FB_STAT i, 4, 4⟩
abbrev F.FB_STAT_RANGE (i : Nat) : Fld := ⟨A.FB_STAT i, 3, 3⟩
abbrev F.FB_STAT_STALE (i : Nat) : Fld := ⟨A.FB_STAT i, 2, 2⟩
abbrev F.FB_STAT_DIR (i : Nat) : Fld := ⟨A.FB_STAT i, 1, 1⟩
abbrev F.FB_STAT_LINE (i : Nat) : Fld := ⟨A.FB_STAT i, 0, 0⟩
abbrev F.FB_CMPCTRL_EN (i : Nat) : Fld := ⟨A.FB_CMPCTRL i, 3, 0⟩
abbrev F.FB_CMPVAL_VALUE (i : Nat) (j : Nat) : Fld := ⟨A.FB_CMPVAL i j, 31, 0⟩
abbrev F.FB_CMPSTEP_STEP (i : Nat) (j : Nat) : Fld := ⟨A.FB_CMPSTEP i j, 31, 0⟩
abbrev F.FB_CMPLATE_DIST (i : Nat) (j : Nat) : Fld := ⟨A.FB_CMPLATE i j, 15, 0⟩
abbrev F.FB_SSI_BITS (i : Nat) : Fld := ⟨A.FB_SSI i, 29, 24⟩
abbrev F.FB_SSI_GRAY (i : Nat) : Fld := ⟨A.FB_SSI i, 23, 23⟩
abbrev F.FB_SSI_PARITY (i : Nat) : Fld := ⟨A.FB_SSI i, 22, 22⟩
abbrev F.FB_SSI_SIGNED (i : Nat) : Fld := ⟨A.FB_SSI i, 21, 21⟩
abbrev F.FB_SSI_PT (i : Nat) : Fld := ⟨A.FB_SSI i, 18, 16⟩
abbrev F.FB_SSI_CLK (i : Nat) : Fld := ⟨A.FB_SSI i, 15, 8⟩
abbrev F.FB_SSI_FRAME (i : Nat) : Fld := ⟨A.FB_SSI i, 7, 0⟩
abbrev F.FB_SSIVAL_VALUE (i : Nat) : Fld := ⟨A.FB_SSIVAL i, 31, 0⟩
abbrev F.FB_SSICNT_GOOD (i : Nat) : Fld := ⟨A.FB_SSICNT i, 31, 16⟩
abbrev F.FB_SSICNT_ERR (i : Nat) : Fld := ⟨A.FB_SSICNT i, 15, 0⟩
abbrev F.AI_CFG_EN (i : Nat) : Fld := ⟨A.AI_CFG i, 31, 31⟩
abbrev F.AI_CFG_TAU (i : Nat) : Fld := ⟨A.AI_CFG i, 15, 8⟩
abbrev F.AI_CFG_RANGE (i : Nat) : Fld := ⟨A.AI_CFG i, 1, 0⟩
abbrev F.AI_WIN_HI (i : Nat) : Fld := ⟨A.AI_WIN i, 27, 16⟩
abbrev F.AI_WIN_LO (i : Nat) : Fld := ⟨A.AI_WIN i, 11, 0⟩
abbrev F.AI_VAL_RAW (i : Nat) : Fld := ⟨A.AI_VAL i, 27, 16⟩
abbrev F.AI_VAL_CODE (i : Nat) : Fld := ⟨A.AI_VAL i, 11, 0⟩
abbrev F.AI_STAT_BURDEN_OPEN (i : Nat) : Fld := ⟨A.AI_STAT i, 3, 3⟩
abbrev F.AI_STAT_RANGE_SEEN (i : Nat) : Fld := ⟨A.AI_STAT i, 2, 2⟩
abbrev F.AI_STAT_STALE (i : Nat) : Fld := ⟨A.AI_STAT i, 1, 1⟩
abbrev F.AI_STAT_RANGE (i : Nat) : Fld := ⟨A.AI_STAT i, 0, 0⟩
abbrev F.AI_ERRCNT_COUNT (i : Nat) : Fld := ⟨A.AI_ERRCNT i, 31, 0⟩
abbrev F.PT_CFG_WIDTH (i : Nat) : Fld := ⟨A.PT_CFG i, 31, 24⟩
abbrev F.PT_CFG_INVERT (i : Nat) : Fld := ⟨A.PT_CFG i, 17, 17⟩
abbrev F.PT_CFG_LEVEL (i : Nat) : Fld := ⟨A.PT_CFG i, 16, 16⟩
abbrev F.PT_CFG_CMP (i : Nat) : Fld := ⟨A.PT_CFG i, 14, 13⟩
abbrev F.PT_CFG_INPUT (i : Nat) : Fld := ⟨A.PT_CFG i, 12, 8⟩
abbrev F.PT_CFG_SRC (i : Nat) : Fld := ⟨A.PT_CFG i, 2, 0⟩
abbrev F.PT_PPM_PPM (i : Nat) : Fld := ⟨A.PT_PPM i, 31, 0⟩
abbrev F.PT_STAT_FREQ (i : Nat) : Fld := ⟨A.PT_STAT i, 31, 16⟩
abbrev F.PT_STAT_SYNTH_INVALID (i : Nat) : Fld := ⟨A.PT_STAT i, 2, 2⟩
abbrev F.PT_STAT_SHORT (i : Nat) : Fld := ⟨A.PT_STAT i, 1, 1⟩
abbrev F.PT_STAT_LINE (i : Nat) : Fld := ⟨A.PT_STAT i, 0, 0⟩
abbrev F.FB_GLOBAL_SNS_PWR_12V : Fld := ⟨A.FB_GLOBAL, 2, 2⟩
abbrev F.FB_GLOBAL_SNS_PWR_EN : Fld := ⟨A.FB_GLOBAL, 1, 1⟩
abbrev F.FB_GLOBAL_SNS5_EN : Fld := ⟨A.FB_GLOBAL, 0, 0⟩
abbrev F.PORT_CTRL_WAKE (i : Nat) : Fld := ⟨A.PORT_CTRL i, 4, 4⟩
abbrev F.PORT_CTRL_SLEEP (i : Nat) : Fld := ⟨A.PORT_CTRL i, 3, 3⟩
abbrev F.PORT_CTRL_BUSOFF_REC (i : Nat) : Fld := ⟨A.PORT_CTRL i, 2, 2⟩
abbrev F.PORT_CTRL_INIT (i : Nat) : Fld := ⟨A.PORT_CTRL i, 0, 0⟩
abbrev F.PORT_CFG_ADDR (i : Nat) : Fld := ⟨A.PORT_CFG i, 15, 8⟩
abbrev F.PORT_CFG_ACC_EN (i : Nat) : Fld := ⟨A.PORT_CFG i, 7, 7⟩
abbrev F.PORT_CFG_LOOP (i : Nat) : Fld := ⟨A.PORT_CFG i, 6, 6⟩
abbrev F.PORT_CFG_LISTEN (i : Nat) : Fld := ⟨A.PORT_CFG i, 5, 5⟩
abbrev F.PORT_CFG_BUSOFF_AUTO (i : Nat) : Fld := ⟨A.PORT_CFG i, 4, 4⟩
abbrev F.PORT_CFG_TERM (i : Nat) : Fld := ⟨A.PORT_CFG i, 3, 3⟩
abbrev F.PORT_CFG_XL_EN (i : Nat) : Fld := ⟨A.PORT_CFG i, 2, 2⟩
abbrev F.PORT_CFG_FD_EN (i : Nat) : Fld := ⟨A.PORT_CFG i, 1, 1⟩
abbrev F.PORT_CFG_MODE (i : Nat) : Fld := ⟨A.PORT_CFG i, 0, 0⟩
abbrev F.PORT_STAT_TDC_SAT (i : Nat) : Fld := ⟨A.PORT_STAT i, 13, 13⟩
abbrev F.PORT_STAT_TX_BAD_SEEN (i : Nat) : Fld := ⟨A.PORT_STAT i, 12, 12⟩
abbrev F.PORT_STAT_WAKE_SEEN (i : Nat) : Fld := ⟨A.PORT_STAT i, 11, 11⟩
abbrev F.PORT_STAT_BOFF_SEEN (i : Nat) : Fld := ⟨A.PORT_STAT i, 10, 10⟩
abbrev F.PORT_STAT_PASSIVE_SEEN (i : Nat) : Fld := ⟨A.PORT_STAT i, 9, 9⟩
abbrev F.PORT_STAT_RECOV (i : Nat) : Fld := ⟨A.PORT_STAT i, 8, 8⟩
abbrev F.PORT_STAT_LEC (i : Nat) : Fld := ⟨A.PORT_STAT i, 7, 4⟩
abbrev F.PORT_STAT_SOLO (i : Nat) : Fld := ⟨A.PORT_STAT i, 3, 3⟩
abbrev F.PORT_STAT_STATE (i : Nat) : Fld := ⟨A.PORT_STAT i, 2, 0⟩
abbrev F.PORT_ERR_REC (i : Nat) : Fld := ⟨A.PORT_ERR i, 23, 16⟩
abbrev F.PORT_ERR_TEC (i : Nat) : Fld := ⟨A.PORT_ERR i, 8, 0⟩
abbrev F.PORT_NBT_JUMP (i : Nat) : Fld := ⟨A.PORT_NBT i, 29, 23⟩
abbrev F.PORT_NBT_PH2 (i : Nat) : Fld := ⟨A.PORT_NBT i, 22, 16⟩
abbrev F.PORT_NBT_PH1 (i : Nat) : Fld := ⟨A.PORT_NBT i, 15, 8⟩
abbrev F.PORT_NBT_PRESC (i : Nat) : Fld := ⟨A.PORT_NBT i, 7, 0⟩
abbrev F.PORT_DBT_JUMP (i : Nat) : Fld := ⟨A.PORT_DBT i, 27, 24⟩
abbrev F.PORT_DBT_PH2 (i : Nat) : Fld := ⟨A.PORT_DBT i, 19, 16⟩
abbrev F.PORT_DBT_PH1 (i : Nat) : Fld := ⟨A.PORT_DBT i, 12, 8⟩
abbrev F.PORT_DBT_PRESC (i : Nat) : Fld := ⟨A.PORT_DBT i, 4, 0⟩
abbrev F.PORT_XBT_JUMP (i : Nat) : Fld := ⟨A.PORT_XBT i, 27, 24⟩
abbrev F.PORT_XBT_PH2 (i : Nat) : Fld := ⟨A.PORT_XBT i, 19, 16⟩
abbrev F.PORT_XBT_PH1 (i : Nat) : Fld := ⟨A.PORT_XBT i, 12, 8⟩
abbrev F.PORT_XBT_PRESC (i : Nat) : Fld := ⟨A.PORT_XBT i, 4, 0⟩
abbrev F.PORT_TDC_EN (i : Nat) : Fld := ⟨A.PORT_TDC i, 31, 31⟩
abbrev F.PORT_TDC_DELAY (i : Nat) : Fld := ⟨A.PORT_TDC i, 22, 16⟩
abbrev F.PORT_TDC_OFFSET (i : Nat) : Fld := ⟨A.PORT_TDC i, 6, 0⟩
abbrev F.PORT_TXCNT_COUNT (i : Nat) : Fld := ⟨A.PORT_TXCNT i, 31, 0⟩
abbrev F.PORT_RXCNT_FILTERED (i : Nat) : Fld := ⟨A.PORT_RXCNT i, 31, 16⟩
abbrev F.PORT_RXCNT_GOOD (i : Nat) : Fld := ⟨A.PORT_RXCNT i, 15, 0⟩
abbrev F.PORT_ERRCNT_ACK_ERR (i : Nat) : Fld := ⟨A.PORT_ERRCNT i, 31, 16⟩
abbrev F.PORT_ERRCNT_BUS_ERR (i : Nat) : Fld := ⟨A.PORT_ERRCNT i, 15, 0⟩
abbrev F.PORT_BOFFCNT_TX_BAD (i : Nat) : Fld := ⟨A.PORT_BOFFCNT i, 31, 16⟩
abbrev F.PORT_BOFFCNT_BUSOFF (i : Nat) : Fld := ⟨A.PORT_BOFFCNT i, 15, 0⟩
abbrev F.WAKE_CFG_LEN (i : Nat) : Fld := ⟨A.WAKE_CFG i, 11, 8⟩
abbrev F.WAKE_CFG_MODE (i : Nat) : Fld := ⟨A.WAKE_CFG i, 1, 0⟩
abbrev F.WAKE_ID_IDE (i : Nat) : Fld := ⟨A.WAKE_ID i, 29, 29⟩
abbrev F.WAKE_ID_ID (i : Nat) : Fld := ⟨A.WAKE_ID i, 28, 0⟩
abbrev F.WAKE_IDMASK_MASK (i : Nat) : Fld := ⟨A.WAKE_IDMASK i, 28, 0⟩
abbrev F.WAKE_DMASK_LO_DMASK (i : Nat) : Fld := ⟨A.WAKE_DMASK_LO i, 31, 0⟩
abbrev F.WAKE_DMASK_HI_DMASK (i : Nat) : Fld := ⟨A.WAKE_DMASK_HI i, 31, 0⟩
abbrev F.PORT_CORR_ID_EN (i : Nat) : Fld := ⟨A.PORT_CORR_ID i, 31, 31⟩
abbrev F.PORT_CORR_ID_IDE (i : Nat) : Fld := ⟨A.PORT_CORR_ID i, 29, 29⟩
abbrev F.PORT_CORR_ID_ID (i : Nat) : Fld := ⟨A.PORT_CORR_ID i, 28, 0⟩
abbrev F.PORT_CORR_IDMASK_MASK (i : Nat) : Fld := ⟨A.PORT_CORR_IDMASK i, 28, 0⟩
abbrev F.SF_ID_EN (i : Nat) (j : Nat) : Fld := ⟨A.SF_ID i j, 31, 31⟩
abbrev F.SF_ID_IDE (i : Nat) (j : Nat) : Fld := ⟨A.SF_ID i j, 29, 29⟩
abbrev F.SF_ID_ID (i : Nat) (j : Nat) : Fld := ⟨A.SF_ID i j, 28, 0⟩
abbrev F.SF_MASK_FMT (i : Nat) (j : Nat) : Fld := ⟨A.SF_MASK i j, 31, 30⟩
abbrev F.SF_MASK_MASK (i : Nat) (j : Nat) : Fld := ⟨A.SF_MASK i j, 28, 0⟩
abbrev F.SF_CHK_SIGNED (i : Nat) (j : Nat) : Fld := ⟨A.SF_CHK i j, 31, 31⟩
abbrev F.SF_CHK_MINLEN (i : Nat) (j : Nat) : Fld := ⟨A.SF_CHK i j, 30, 24⟩
abbrev F.SF_CHK_RANGE_EN (i : Nat) (j : Nat) : Fld := ⟨A.SF_CHK i j, 23, 23⟩
abbrev F.SF_CHK_WIDE (i : Nat) (j : Nat) : Fld := ⟨A.SF_CHK i j, 22, 22⟩
abbrev F.SF_CHK_OFFSET (i : Nat) (j : Nat) : Fld := ⟨A.SF_CHK i j, 21, 16⟩
abbrev F.SF_CHK_TIMEOUT (i : Nat) (j : Nat) : Fld := ⟨A.SF_CHK i j, 15, 0⟩
abbrev F.SF_RANGE_MAX (i : Nat) (j : Nat) : Fld := ⟨A.SF_RANGE i j, 31, 16⟩
abbrev F.SF_RANGE_MIN (i : Nat) (j : Nat) : Fld := ⟨A.SF_RANGE i j, 15, 0⟩
abbrev F.ISO_CFG_EN (i : Nat) : Fld := ⟨A.ISO_CFG i, 31, 31⟩
abbrev F.ISO_CFG_SA_INSERT (i : Nat) : Fld := ⟨A.ISO_CFG i, 30, 30⟩
abbrev F.ISO_CFG_DM1_EN (i : Nat) : Fld := ⟨A.ISO_CFG i, 29, 29⟩
abbrev F.ISO_CFG_PREF (i : Nat) : Fld := ⟨A.ISO_CFG i, 7, 0⟩
abbrev F.ISO_NAME_LO_NAME (i : Nat) : Fld := ⟨A.ISO_NAME_LO i, 31, 0⟩
abbrev F.ISO_NAME_HI_NAME (i : Nat) : Fld := ⟨A.ISO_NAME_HI i, 31, 0⟩
abbrev F.ISO_STAT_ACC_OVF (i : Nat) : Fld := ⟨A.ISO_STAT i, 17, 17⟩
abbrev F.ISO_STAT_LOST (i : Nat) : Fld := ⟨A.ISO_STAT i, 16, 16⟩
abbrev F.ISO_STAT_CLAIM (i : Nat) : Fld := ⟨A.ISO_STAT i, 10, 8⟩
abbrev F.ISO_STAT_ADDR (i : Nat) : Fld := ⟨A.ISO_STAT i, 7, 0⟩
abbrev F.TP_CNT_ABORT (i : Nat) : Fld := ⟨A.TP_CNT i, 31, 16⟩
abbrev F.TP_CNT_DONE (i : Nat) : Fld := ⟨A.TP_CNT i, 15, 0⟩
abbrev F.OBJ_CFG_DIR (i : Nat) (j : Nat) : Fld := ⟨A.OBJ_CFG i j, 31, 31⟩
abbrev F.OBJ_CFG_FORMAT (i : Nat) (j : Nat) : Fld := ⟨A.OBJ_CFG i j, 13, 12⟩
abbrev F.OBJ_CFG_LEN (i : Nat) (j : Nat) : Fld := ⟨A.OBJ_CFG i j, 6, 0⟩
abbrev F.OBJ_ID_EN (i : Nat) (j : Nat) : Fld := ⟨A.OBJ_ID i j, 31, 31⟩
abbrev F.OBJ_ID_IDE (i : Nat) (j : Nat) : Fld := ⟨A.OBJ_ID i j, 29, 29⟩
abbrev F.OBJ_ID_ID (i : Nat) (j : Nat) : Fld := ⟨A.OBJ_ID i j, 28, 0⟩
abbrev F.OBJ_MASK_FMT (i : Nat) (j : Nat) : Fld := ⟨A.OBJ_MASK i j, 31, 30⟩
abbrev F.OBJ_MASK_MASK (i : Nat) (j : Nat) : Fld := ⟨A.OBJ_MASK i j, 28, 0⟩
abbrev F.OBJ_CHK_SIGNED (i : Nat) (j : Nat) : Fld := ⟨A.OBJ_CHK i j, 31, 31⟩
abbrev F.OBJ_CHK_MINLEN (i : Nat) (j : Nat) : Fld := ⟨A.OBJ_CHK i j, 30, 24⟩
abbrev F.OBJ_CHK_RANGE_EN (i : Nat) (j : Nat) : Fld := ⟨A.OBJ_CHK i j, 23, 23⟩
abbrev F.OBJ_CHK_WIDE (i : Nat) (j : Nat) : Fld := ⟨A.OBJ_CHK i j, 22, 22⟩
abbrev F.OBJ_CHK_OFFSET (i : Nat) (j : Nat) : Fld := ⟨A.OBJ_CHK i j, 21, 16⟩
abbrev F.OBJ_CHK_TIMEOUT (i : Nat) (j : Nat) : Fld := ⟨A.OBJ_CHK i j, 15, 0⟩
abbrev F.OBJ_RANGE_MAX (i : Nat) (j : Nat) : Fld := ⟨A.OBJ_RANGE i j, 31, 16⟩
abbrev F.OBJ_RANGE_MIN (i : Nat) (j : Nat) : Fld := ⟨A.OBJ_RANGE i j, 15, 0⟩
abbrev F.OBJ_STAT_TX_DONE (i : Nat) (j : Nat) : Fld := ⟨A.OBJ_STAT i j, 7, 7⟩
abbrev F.OBJ_STAT_TIMEOUT (i : Nat) (j : Nat) : Fld := ⟨A.OBJ_STAT i j, 6, 6⟩
abbrev F.OBJ_STAT_CHECK (i : Nat) (j : Nat) : Fld := ⟨A.OBJ_STAT i j, 5, 5⟩
abbrev F.OBJ_STAT_OVERRUN (i : Nat) (j : Nat) : Fld := ⟨A.OBJ_STAT i j, 4, 4⟩
abbrev F.OBJ_STAT_FRESH (i : Nat) (j : Nat) : Fld := ⟨A.OBJ_STAT i j, 3, 3⟩
abbrev F.OBJ_CTRL_TX_ABORT (i : Nat) (j : Nat) : Fld := ⟨A.OBJ_CTRL i j, 1, 1⟩
abbrev F.OBJ_CTRL_SEND_REQ (i : Nat) (j : Nat) : Fld := ⟨A.OBJ_CTRL i j, 0, 0⟩
abbrev F.OBJ_T_LO_TIME (i : Nat) (j : Nat) : Fld := ⟨A.OBJ_T_LO i j, 31, 0⟩
abbrev F.OBJ_T_HI_TIME (i : Nat) (j : Nat) : Fld := ⟨A.OBJ_T_HI i j, 31, 0⟩
abbrev F.OBJ_DATA_DATA (i : Nat) (j : Nat) (k : Nat) : Fld := ⟨A.OBJ_DATA i j k, 31, 0⟩
abbrev F.AGATE_CTRL_CLEAR : Fld := ⟨A.AGATE_CTRL, 3, 3⟩
abbrev F.AGATE_CTRL_RD_SEQ : Fld := ⟨A.AGATE_CTRL, 2, 2⟩
abbrev F.AGATE_CTRL_RD_NEXT : Fld := ⟨A.AGATE_CTRL, 1, 1⟩
abbrev F.AGATE_CTRL_RD_FIRST : Fld := ⟨A.AGATE_CTRL, 0, 0⟩
abbrev F.AGATE_STAT_LEVEL : Fld := ⟨A.AGATE_STAT, 14, 8⟩
abbrev F.AGATE_STAT_TORN_SEEN : Fld := ⟨A.AGATE_STAT, 4, 4⟩
abbrev F.AGATE_STAT_DROP_INGEST : Fld := ⟨A.AGATE_STAT, 3, 3⟩
abbrev F.AGATE_STAT_DROP_FULL : Fld := ⟨A.AGATE_STAT, 2, 2⟩
abbrev F.AGATE_STAT_FLOOD : Fld := ⟨A.AGATE_STAT, 1, 1⟩
abbrev F.AGATE_STAT_BUSY : Fld := ⟨A.AGATE_STAT, 0, 0⟩
abbrev F.AGATE_RD_CFG_MINSEV : Fld := ⟨A.AGATE_RD_CFG, 2, 0⟩
abbrev F.AGATE_RD_STAT_RESULT : Fld := ⟨A.AGATE_RD_STAT, 1, 0⟩
abbrev F.AGATE_RD_REQ_LO_SEQ : Fld := ⟨A.AGATE_RD_REQ_LO, 31, 0⟩
abbrev F.AGATE_RD_REQ_HI_SEQ : Fld := ⟨A.AGATE_RD_REQ_HI, 7, 0⟩
abbrev F.AGATE_CLR_SEQ_LO_SEQ : Fld := ⟨A.AGATE_CLR_SEQ_LO, 31, 0⟩
abbrev F.AGATE_CLR_SEQ_HI_VALID : Fld := ⟨A.AGATE_CLR_SEQ_HI, 8, 8⟩
abbrev F.AGATE_CLR_SEQ_HI_SEQ : Fld := ⟨A.AGATE_CLR_SEQ_HI, 7, 0⟩
abbrev F.AGATE_DROP_COUNT (i : Nat) : Fld := ⟨A.AGATE_DROP i, 31, 0⟩
abbrev F.AGATE_SUPP_COUNT : Fld := ⟨A.AGATE_SUPP, 31, 0⟩
abbrev F.AGATE_TORN_COUNT : Fld := ⟨A.AGATE_TORN, 15, 0⟩
abbrev F.AGATE_WIN_DATA (i : Nat) : Fld := ⟨A.AGATE_WIN i, 31, 0⟩
abbrev F.HEALTH_POSTURED : Fld := ⟨A.HEALTH, 4, 4⟩
abbrev F.HEALTH_HOLD_ACTIVE : Fld := ⟨A.HEALTH, 3, 3⟩
abbrev F.HEALTH_SKEW_SEEN : Fld := ⟨A.HEALTH, 2, 2⟩
abbrev F.HEALTH_CONFIG_SKEW : Fld := ⟨A.HEALTH, 1, 1⟩
abbrev F.HEALTH_CULLET : Fld := ⟨A.HEALTH, 0, 0⟩
abbrev F.CULLET_CAUSE_CAUSE : Fld := ⟨A.CULLET_CAUSE, 6, 0⟩
abbrev F.CULLET_HIST_ENTRIES : Fld := ⟨A.CULLET_HIST, 23, 16⟩
abbrev F.CULLET_HIST_EVER : Fld := ⟨A.CULLET_HIST, 6, 0⟩
abbrev F.RESET_CTRL_WARM : Fld := ⟨A.RESET_CTRL, 1, 1⟩
abbrev F.RESET_CTRL_ENGINE : Fld := ⟨A.RESET_CTRL, 0, 0⟩
abbrev F.RESET_STAT_CAUSE : Fld := ⟨A.RESET_STAT, 11, 8⟩
abbrev F.RESET_STAT_KIND : Fld := ⟨A.RESET_STAT, 1, 0⟩
abbrev F.RESET_CNT_WARM : Fld := ⟨A.RESET_CNT, 31, 16⟩
abbrev F.RESET_CNT_ENGINE : Fld := ⟨A.RESET_CNT, 15, 0⟩
abbrev F.LOCKSTEP_CNT_DAY : Fld := ⟨A.LOCKSTEP_CNT, 31, 16⟩
abbrev F.LOCKSTEP_CNT_TOTAL : Fld := ⟨A.LOCKSTEP_CNT, 15, 0⟩
abbrev F.LEHR_CNT_REWINDS : Fld := ⟨A.LEHR_CNT, 31, 16⟩
abbrev F.LEHR_CNT_VOTED : Fld := ⟨A.LEHR_CNT, 15, 8⟩
abbrev F.LEHR_CNT_CORRECTED : Fld := ⟨A.LEHR_CNT, 7, 0⟩
abbrev F.SPARE_ROWS_PERCENT : Fld := ⟨A.SPARE_ROWS, 7, 0⟩
abbrev F.CFG_CTRL_BY_GTIME : Fld := ⟨A.CFG_CTRL, 5, 5⟩
abbrev F.CFG_CTRL_DISCARD : Fld := ⟨A.CFG_CTRL, 4, 4⟩
abbrev F.CFG_CTRL_ACT_NOW : Fld := ⟨A.CFG_CTRL, 3, 3⟩
abbrev F.CFG_CTRL_ACT_ARM : Fld := ⟨A.CFG_CTRL, 2, 2⟩
abbrev F.CFG_CTRL_CHECK : Fld := ⟨A.CFG_CTRL, 1, 1⟩
abbrev F.CFG_CTRL_STAGE_OPEN : Fld := ⟨A.CFG_CTRL, 0, 0⟩
abbrev F.CFG_STAT_RESULT : Fld := ⟨A.CFG_STAT, 7, 4⟩
abbrev F.CFG_STAT_CHECK_BUSY : Fld := ⟨A.CFG_STAT, 3, 3⟩
abbrev F.CFG_STAT_ACT_PEND : Fld := ⟨A.CFG_STAT, 2, 2⟩
abbrev F.CFG_STAT_STAGING : Fld := ⟨A.CFG_STAT, 1, 1⟩
abbrev F.CFG_GEN_LO_GEN : Fld := ⟨A.CFG_GEN_LO, 31, 0⟩
abbrev F.CFG_GEN_HI_GEN : Fld := ⟨A.CFG_GEN_HI, 31, 0⟩
abbrev F.CFG_ACT_LO_TIME : Fld := ⟨A.CFG_ACT_LO, 31, 0⟩
abbrev F.CFG_ACT_HI_TIME : Fld := ⟨A.CFG_ACT_HI, 31, 0⟩
abbrev F.CFG_EXP_DIGEST (i : Nat) : Fld := ⟨A.CFG_EXP i, 31, 0⟩
abbrev F.CFG_SDIG_DIGEST (i : Nat) : Fld := ⟨A.CFG_SDIG i, 31, 0⟩
abbrev F.FLEET_CFG_PORTS : Fld := ⟨A.FLEET_CFG, 5, 0⟩
abbrev F.FLEET_STAT_PEER_LOST : Fld := ⟨A.FLEET_STAT, 15, 0⟩
abbrev F.FLEET_PEER_EN (i : Nat) : Fld := ⟨A.FLEET_PEER i, 31, 31⟩
abbrev F.FLEET_PEER_PORT (i : Nat) : Fld := ⟨A.FLEET_PEER i, 10, 8⟩
abbrev F.FLEET_PEER_ADDR (i : Nat) : Fld := ⟨A.FLEET_PEER i, 7, 0⟩
abbrev F.FLEET_PID_DIGEST_ID (i : Nat) : Fld := ⟨A.FLEET_PID i, 31, 0⟩
abbrev F.STARTUP_STAT_WAKE_PORT : Fld := ⟨A.STARTUP_STAT, 18, 16⟩
abbrev F.STARTUP_STAT_WAKE : Fld := ⟨A.STARTUP_STAT, 15, 12⟩
abbrev F.STARTUP_STAT_IMAGE_BAD : Fld := ⟨A.STARTUP_STAT, 10, 10⟩
abbrev F.STARTUP_STAT_KIND : Fld := ⟨A.STARTUP_STAT, 5, 4⟩
abbrev F.STARTUP_STAT_PHASE : Fld := ⟨A.STARTUP_STAT, 3, 0⟩
abbrev F.SELFTEST_RES_CURRENT_SENSE : Fld := ⟨A.SELFTEST_RES, 7, 7⟩
abbrev F.SELFTEST_RES_RF_CHAIN : Fld := ⟨A.SELFTEST_RES, 6, 6⟩
abbrev F.SELFTEST_RES_DELAY_LINE : Fld := ⟨A.SELFTEST_RES, 5, 5⟩
abbrev F.SELFTEST_RES_MEMORIES : Fld := ⟨A.SELFTEST_RES, 4, 4⟩
abbrev F.SELFTEST_RES_PIPES : Fld := ⟨A.SELFTEST_RES, 3, 3⟩
abbrev F.SELFTEST_RES_NV_STORE : Fld := ⟨A.SELFTEST_RES, 2, 2⟩
abbrev F.SELFTEST_RES_OUTPUT_STAGE : Fld := ⟨A.SELFTEST_RES, 1, 1⟩
abbrev F.SELFTEST_RES_SUPERVISOR : Fld := ⟨A.SELFTEST_RES, 0, 0⟩
abbrev F.STARTUP_CTRL_FACTORY : Fld := ⟨A.STARTUP_CTRL, 0, 0⟩
abbrev F.STBY_CTRL_ENTER : Fld := ⟨A.STBY_CTRL, 0, 0⟩
abbrev F.STBY_CFG_SNAP_INT : Fld := ⟨A.STBY_CFG, 31, 24⟩
abbrev F.STBY_CFG_BUS_WAKE : Fld := ⟨A.STBY_CFG, 13, 8⟩
abbrev F.STBY_CFG_VBUS_WAKE : Fld := ⟨A.STBY_CFG, 2, 2⟩
abbrev F.STBY_CFG_WAKE_IN_EN : Fld := ⟨A.STBY_CFG, 1, 1⟩
abbrev F.STBY_STAT_SNAP_CNT : Fld := ⟨A.STBY_STAT, 31, 16⟩
abbrev F.STBY_STAT_SNAP_RES : Fld := ⟨A.STBY_STAT, 3, 0⟩
abbrev F.SVC_STAT_CORR_DISC : Fld := ⟨A.SVC_STAT, 31, 16⟩
abbrev F.SVC_STAT_TEST_BUSY : Fld := ⟨A.SVC_STAT, 4, 4⟩
abbrev F.SVC_STAT_METER_ACTIVE : Fld := ⟨A.SVC_STAT, 3, 3⟩
abbrev F.SVC_STAT_AUTO_HB : Fld := ⟨A.SVC_STAT, 2, 2⟩
abbrev F.SVC_STAT_UART_ACTIVE : Fld := ⟨A.SVC_STAT, 1, 1⟩
abbrev F.SVC_STAT_USB_OPEN : Fld := ⟨A.SVC_STAT, 0, 0⟩
abbrev F.SVC_METER_LEFT : Fld := ⟨A.SVC_METER, 31, 16⟩
abbrev F.SVC_METER_TARGET : Fld := ⟨A.SVC_METER, 14, 8⟩
abbrev F.SVC_METER_CHECK : Fld := ⟨A.SVC_METER, 3, 0⟩
abbrev F.SVC_METER_VAL_FED : Fld := ⟨A.SVC_METER_VAL, 17, 17⟩
abbrev F.SVC_METER_VAL_LINE : Fld := ⟨A.SVC_METER_VAL, 16, 16⟩
abbrev F.SVC_METER_VAL_MV : Fld := ⟨A.SVC_METER_VAL, 15, 0⟩
abbrev F.SVC_TEST_GO : Fld := ⟨A.SVC_TEST, 31, 31⟩
abbrev F.SVC_TEST_BUSY : Fld := ⟨A.SVC_TEST, 30, 30⟩
abbrev F.SVC_TEST_RESULT : Fld := ⟨A.SVC_TEST, 29, 28⟩
abbrev F.SVC_TEST_DETAIL : Fld := ⟨A.SVC_TEST, 23, 16⟩
abbrev F.SVC_TEST_PORT : Fld := ⟨A.SVC_TEST, 6, 4⟩
abbrev F.SVC_TEST_UNIT : Fld := ⟨A.SVC_TEST, 3, 0⟩
abbrev F.JAS_CTRL_ARMED_KEY : Fld := ⟨A.JAS_CTRL, 31, 16⟩
abbrev F.JAS_CTRL_ARMED_OK : Fld := ⟨A.JAS_CTRL, 8, 8⟩
abbrev F.JAS_CTRL_OFF : Fld := ⟨A.JAS_CTRL, 1, 1⟩
abbrev F.JAS_CTRL_REFRESH : Fld := ⟨A.JAS_CTRL, 0, 0⟩
abbrev F.JAS_STAT_LEFT : Fld := ⟨A.JAS_STAT, 23, 16⟩
abbrev F.JAS_STAT_ACTIVE : Fld := ⟨A.JAS_STAT, 7, 0⟩
abbrev F.JAS_SCHED_RATE : Fld := ⟨A.JAS_SCHED, 7, 0⟩
abbrev F.JAS_NAV_DELAY : Fld := ⟨A.JAS_NAV, 7, 0⟩
abbrev F.JAS_ONYX_ADD : Fld := ⟨A.JAS_ONYX, 7, 0⟩
abbrev F.JAS_TAP_OFFSET : Fld := ⟨A.JAS_TAP, 5, 0⟩
abbrev F.JAS_BUS_ONESHOT (i : Nat) : Fld := ⟨A.JAS_BUS i, 31, 31⟩
abbrev F.JAS_BUS_BIT (i : Nat) : Fld := ⟨A.JAS_BUS i, 15, 8⟩
abbrev F.JAS_BUS_EVERY (i : Nat) : Fld := ⟨A.JAS_BUS i, 7, 0⟩
abbrev F.JAS_ECC_ADDR_MEM : Fld := ⟨A.JAS_ECC_ADDR, 31, 28⟩
abbrev F.JAS_ECC_ADDR_GATHER : Fld := ⟨A.JAS_ECC_ADDR, 26, 20⟩
abbrev F.JAS_ECC_ADDR_ADDR : Fld := ⟨A.JAS_ECC_ADDR, 19, 0⟩
abbrev F.JAS_ECC_CTRL_DOUBLE : Fld := ⟨A.JAS_ECC_CTRL, 1, 1⟩
abbrev F.JAS_ECC_CTRL_INJECT : Fld := ⟨A.JAS_ECC_CTRL, 0, 0⟩
abbrev F.JAS_QBP_DUTY (i : Nat) : Fld := ⟨A.JAS_QBP i, 8, 0⟩
abbrev F.JAS_QDLY_DELAY (i : Nat) : Fld := ⟨A.JAS_QDLY i, 7, 0⟩
abbrev F.LOAD_WIN_DATA (i : Nat) : Fld := ⟨A.LOAD_WIN i, 31, 0⟩

end Sys2Proof.Machine
end

