-- ==== Sys2Proof/Machine/State.lean ====
section
/-! DEFINITION. The state of the Askat as plain data, the reasons a step can stop, and the state at reset. -/
namespace Sys2Proof.Machine

/-- Why the machine stops: for no reason. The spec gives every command an effect, so no command raises a fault. -/
inductive Fault
deriving DecidableEq, Repr

/-- Why a command has no meaning here. -/
inductive Refusal where
  /-- Raised by a dispatch arm whose command has no meaning yet; safe, since nothing is claimed of it. -/
  | notModelled (mnemonic : String)
deriving DecidableEq, Repr

/-- The state. Every register of the map stands in regs under its address (an unlisted one reads its
reset value); the other fields hold what the spec gives the machine beyond its registers. -/
structure State where
  regs : Tab Word
  mtime : Nat
  freeCtr : Nat
  pending : List Instr
  reply : Reply
  sup : Supply
  start : Startup
  own : Own
  acc : Access
  agate : Recorder
  nv : Stored
  stage : Staging
  rcv : Recovery
  fleet : Fleet
  svc : Service
  outs : Tab Out
  feeds : Tab Feed
  rems : Tab Remote
  qs : Tab Queue
  readCap : Option Capture
  leads : Tab (Nat × Nat × Nat)
  leadsOld : Tab (Nat × Nat × Nat)
  leadsAt : Nat
  eng : Engine
  gathers : Tab Gather
  maps : Maps
  onyx : Onyx
  marker : Marker
  nav : Nav
  clock : Clock
  fb : Feedback
  ports : Tab Port
deriving DecidableEq, Repr

/-- The Askat right after manufacture, with ECU_PWR qualified, in power-on reset (R575, R583):
every register at its reset or factory value, MTIME zero, no command waiting. DESIGN CHOICE, log entry 26. -/
def State.reset : State :=
  { regs := [], mtime := 0, freeCtr := 0, pending := [], reply := .none
    sup := { power := .normal, keep := true, foldA := none, foldB := none, sns5Fold := false, snsPwrFold := false, wake := none, inStandby := false, standbyEcu := false, groundLost := false, optBase := 0, pcc := 0 }
    start := { halted := false, gnsUp := false, currentSenseBad := [], warmAt := none, engineAt := none, engineHeld := false, restart := [], supervisorAt := none, factoryPending := false, electionOver := false }
    own := { order := [], hbDeadline := 0, hoDeadline := 0, lapseNoted := false, claims := [], electionEnd := 0, autoHb := false, autoNext := 0 }
    acc := { unlock := [], mbx := [], sessionDeadline := 0, keyed := none, queued := [], oemStored := List.replicate 8 0, commitDone := none }
    agate := { waiting := [], q103 := [], flood := none, store := [], nextSeq := 0, severe := 0, sel := none, ready := false }
    nv := { image := [], model := [], fieldSel := 0, generation := 0, pages := [], regions := [], prog := [], latencies := [], bound := [], oemHash := List.replicate 8 0 }
    stage := { staged := [], generation := 0, checkDone := none, lastActivation := none, storeDue := false, actNow := false }
    rcv := { holdEnd := none, lockstepTimes := [], eccWords := [] }
    fleet := { round := 0, nextRound := 0, peers := [] }
    svc := { meterEnd := none, meterSave := [], meterHeld := none, testEnd := none, testAll := [], jasEnd := none, oneshot := [], op := .none }
    outs := [], feeds := [], rems := [], qs := [], readCap := none, leads := [], leadsOld := [], leadsAt := 0
    eng := { issued := 0, completed := 0, prog := [], regions := [], cmem := [], verify := none, verifyDue := 0, snap := snapZero, snapTick := 0, ticks := 0, tickDue := none, snapNum := 0, popNum := 0 }
    gathers := []
    maps := { active := MapSet.init, staged := MapSet.init, retained := none, actAt := 0, pendAt := none, checkDue := none, retField := none }
    onyx := { dir := [], blocks := [], cache := [], slotWrites := [], dirWrites := [], retired := [], cmds := [] }
    marker := { poses := [], fields := [], joints := [], angles := [], done := 0, posed := false }
    nav := Nav.init, clock := Clock.init, fb := { ins := [], ais := [], pts := [], snsOffEnd := none }, ports := [] }

end Sys2Proof.Machine
end

