-- ==== Sys2Proof/Machine/Ops.lean ====
section
/-! DEFINITION. The named operations over registers, tables, time and recorder events that every meaning uses. -/
namespace Sys2Proof.Machine

/-- The outcome of a command. -/
abbrev Outcome := Host.Outcome State Fault Refusal

/-- The register that holds address a, if any (R83). -/
def regAt (a : Nat) : Option RegHit := findReg (famsOf a) a

/-- The word whose fields hold their reset values. -/
def fieldsReset : List FieldSpec → Nat
  | [] => 0
  | f :: t => f.reset * 2 ^ f.lo + fieldsReset t

/-- The reset word of address a: the table's Reset column, with the three factory values that
depend on the instance (FEED_CFG.BUDGET, PWM_DEAD, PORT_CFG.ADDR). -/
def regReset (a : Nat) : Word :=
  if A.FEED_CFG 8 ≤ a ∧ a ≤ A.FEED_CFG 9 ∧ (a - A.FEED_CFG 8) % 0x20 = 0 then 160
  else if A.PWM_DEAD 0 ≤ a ∧ a ≤ A.PWM_DEAD 83 ∧ (a - A.PWM_DEAD 0) % 0x40 = 0 then
    if A.PWM_DEAD 64 ≤ a ∧ a ≤ A.PWM_DEAD 75 then 0x08000800 else 0
  else match regAt a with
    | none => 0
    | some h =>
      let w := BitVec.ofNat 32 (fieldsReset h.fam.fields)
      if h.fam.base = A.PORT_CFG 0 then w + BitVec.ofNat 32 (0x100 * h.idx.headD 0) else w

/-- The register word at address a. -/
def rd (s : State) (a : Nat) : Word := tabGet regReset s.regs a

/-- Write the register word at address a. -/
def wr (s : State) (a : Nat) (w : Word) : State := { s with regs := tabSet regReset s.regs a w }

/-- The value of a field. -/
def fget (s : State) (f : Fld) : Nat := bitsOf (rd s f.reg) f.hi f.lo

/-- A field with its value replaced (modulo its width). -/
def fset (s : State) (f : Fld) (v : Nat) : State := wr s f.reg (withBits (rd s f.reg) f.hi f.lo v)

/-- A one-bit field as a Bool. -/
def flag (s : State) (f : Fld) : Bool := fget s f != 0

/-- Set or clear a one-bit field. -/
def fbool (s : State) (f : Fld) (b : Bool) : State := fset s f (if b then 1 else 0)

/-- A field read as a signed number. -/
def fgetS (s : State) (f : Fld) : Int :=
  let v := fget s f
  if v < 2 ^ (f.hi - f.lo) then (v : Int) else (v : Int) - (2 ^ (f.hi - f.lo + 1) : Nat)

/-- A field replaced by a signed number, which saturates at the width's range. -/
def fsetSat (s : State) (f : Fld) (v : Int) : State :=
  let h : Int := (2 ^ (f.hi - f.lo) : Nat)
  let c := max (-h) (min v (h - 1))
  fset s f (c % (2 * h)).toNat

/-- Add d to a counter that saturates. -/
def fsat (s : State) (f : Fld) (d : Nat) : State := fset s f (satAdd (f.hi - f.lo + 1) (fget s f) d)

/-- Add d to a counter that wraps. -/
def fwrap (s : State) (f : Fld) (d : Nat) : State := fset s f (fget s f + d)

/-- A field of the greatest value seen: it takes v, saturated, if that exceeds the value held. -/
def fmax (s : State) (f : Fld) (v : Nat) : State :=
  fset s f (max (fget s f) (min v (2 ^ (f.hi - f.lo + 1) - 1)))

/-- Apply a change when a condition holds. -/
def onlyIf (b : Bool) (f : State → State) (s : State) : State := if b then f s else s

/-- Apply a change for each element of a list, first to last. -/
def forAll {α : Type} (f : α → State → State) : List α → State → State
  | [], s => s
  | x :: xs, s => forAll f xs (f x s)

/-- Time never runs backwards: the state at MTIME t or later (R18). DESIGN CHOICE, log entry 27. -/
def atTime (t : Nat) (s : State) : State := { s with mtime := max s.mtime t }

/-- A W1S command written while it runs is queued once, and further writes merge into it (R86). -/
def queueCmd (f : Fld) (s : State) : State :=
  { s with acc := { s.acc with queued := if s.acc.queued.contains f then s.acc.queued else s.acc.queued ++ [f] } }
/-- A command has ended: where it is queued it runs again, as k does it (R86). -/
def runQueued (f : Fld) (k : State → State) (s : State) : State :=
  if s.acc.queued.contains f then k { s with acc := { s.acc with queued := s.acc.queued.erase f } } else s

/-- A fresh free value, and the state that has consumed it (DESIGN CHOICE, log entry 5). -/
def fresh (s : State) : Nat × State := (Config.free s.freeCtr, { s with freeCtr := s.freeCtr + 1 })

/-- Whether a meaning's end is a next state. -/
def done (s : State) : Outcome := .next s

/-- An event of the Askat's blocks. -/
def mkEvent (sev cls inst : Nat) (k : EvKind) (vals : List Int) : Event :=
  { sev := sev, cls := cls, inst := inst, kind := k, vals := vals, code := none, bytes := [] }

/-- Events other than LOG records that wait from the source of event e. -/
def waitingFrom (s : State) (e : Event) : Nat :=
  (s.agate.waiting.filter (fun x => x.cls == e.cls && x.inst == e.inst && x.kind != .log)).length

/-- The number of a source (R524): class and instance. -/
def sourceNum (e : Event) : Nat := 1024 * e.cls + e.inst

/-- Count one suppressed event of a source (R537): up to 64 sources, further ones together. -/
def suppress (src : Nat) (f : Flood) : Flood :=
  if f.counts.any (fun c => c.1 == src) then
    { f with counts := f.counts.map (fun c => if c.1 = src then (c.1, satAdd 16 c.2 1) else c) }
  else if f.counts.length < 64 then { f with counts := f.counts ++ [(src, 1)] }
  else { f with other := satAdd 16 f.other 1 }

/-- Coalesce an event in a flood (R537). -/
def coalesce (e : Event) (f : Flood) (s : State) : State :=
  fsat { s with agate := { s.agate with flood := some (suppress (sourceNum e) f) } } F.AGATE_SUPP_COUNT 1

/-- Drop an event that finds its source's buffer full (R538). -/
def dropEvent (e : Event) (s : State) : State :=
  fset (fsat s (F.AGATE_DROP_COUNT e.sev) 1) F.AGATE_STAT_DROP_INGEST 1

/-- Hand an event to the collector (R38). A source's buffer holds 4 events, and its events of severity 6
and 7 always find room; LOG records share a staging buffer of 1,024 (R536, R538). -/
def raiseEvent (e : Event) (s : State) : State :=
  let room : Bool :=
    if e.kind = .log then decide ((s.agate.waiting.filter (fun x => x.kind == .log)).length < 1024)
    else decide (6 ≤ e.sev) || decide (waitingFrom s e < 4)
  if room then { s with agate := { s.agate with waiting := s.agate.waiting ++ [e] } }
  else match s.agate.flood with
    | some f => if e.sev < 3 then coalesce e f s else dropEvent e s
    | none => dropEvent e s

/-- Raise an event of a block. -/
def raise (sev cls inst : Nat) (k : EvKind) (vals : List Int) (s : State) : State :=
  raiseEvent (mkEvent sev cls inst k vals) s

/-- Local output n beyond its registers. -/
def outOf (s : State) (n : Nat) : Out := tabGet (fun _ => Out.init) s.outs n
/-- Replace local output n beyond its registers. -/
def setOut (n : Nat) (o : Out) (s : State) : State :=
  { s with outs := tabSet (fun _ => Out.init) s.outs n o }
/-- Load feed f beyond its registers. -/
def feedOf (s : State) (f : Nat) : Feed := tabGet (fun _ => Feed.init) s.feeds f
/-- Replace load feed f beyond its registers. -/
def setFeed (f : Nat) (x : Feed) (s : State) : State :=
  { s with feeds := tabSet (fun _ => Feed.init) s.feeds f x }
/-- Remote descriptor d beyond its registers. -/
def remOf (s : State) (d : Nat) : Remote := tabGet (fun _ => Remote.init) s.rems d
/-- Replace remote descriptor d beyond its registers. -/
def setRem (d : Nat) (x : Remote) (s : State) : State :=
  { s with rems := tabSet (fun _ => Remote.init) s.rems d x }
/-- Queue q beyond its registers. -/
def queueOf (s : State) (q : Nat) : Queue := tabGet (fun _ => Queue.init) s.qs q
/-- Replace queue q beyond its registers. -/
def setQueue (q : Nat) (x : Queue) (s : State) : State :=
  { s with qs := tabSet (fun _ => Queue.init) s.qs q x }

/-- Whether local output n is armed. -/
def armed (s : State) (n : Nat) : Bool := flag s (F.OUT_STAT_ARMED n)
/-- Whether remote descriptor d is armed. -/
def remArmed (s : State) (d : Nat) : Bool := flag s (F.REM_CTRL_ARMED d)
/-- Whether any local output is armed. -/
def anyOutArmed (s : State) : Bool := (List.range 84).any (armed s)
/-- Whether any remote descriptor is armed. -/
def anyRemArmed (s : State) : Bool := (List.range 428).any (remArmed s)
/-- Whether any output or descriptor is armed. -/
def anyArmed (s : State) : Bool := anyOutArmed s || anyRemArmed s

/-- The start-up phase (R576). -/
def phase (s : State) : Nat := fget s F.STARTUP_STAT_PHASE
/-- Whether the logic is powered. -/
def powered (s : State) : Bool := s.sup.power != .off
/-- Whether the Askat is in bench-alive. -/
def bench (s : State) : Bool := s.sup.power == .bench
/-- Whether the logic runs: powered and out of power-on reset. -/
def running (s : State) : Bool := powered s && (phase s != 0 || s.start.warmAt.isSome)

/-- What an event of the environment or of a block does: it acts while the logic runs; unpowered or in
power-on reset the blocks stand still (DESIGN CHOICE, log entry 21). -/
def live (f : State → State) (s : State) : Outcome := done (if running s then f s else s)

/-- A quotient whose rounding the spec leaves open: exact where it is whole, else one of the two
neighbours (DESIGN CHOICE, log entry 8). -/
def roundOpen (num den : Nat) : Nat :=
  num / den + (if num % den = 0 then 0 else if Config.roundUp num den then 1 else 0)

/-- The nearest whole number, halves away from zero. -/
def roundHalfAway (num : Int) (den : Nat) : Int :=
  if 0 ≤ num then (2 * num + den) / (2 * den) else -((2 * (-num) + den) / (2 * den))

/-- The square root of n by bits k − 1 to 0, from the root r of the bits above. -/
def sqrtBits (n : Nat) : Nat → Nat → Nat
  | 0, r => r
  | k + 1, r => sqrtBits n k (if (r + 2 ^ k) * (r + 2 ^ k) ≤ n then r + 2 ^ k else r)

/-- The floor of the square root of a number below 2^(2k). -/
def sqrtFloor (k n : Nat) : Nat := sqrtBits n k 0

end Sys2Proof.Machine
end

