-- ==== Sys2Proof/Machine/Queues.lean ====
section
/-! DEFINITION. Hardware queues: depths, room, commits, pops, held items, flush (R314 to R339). -/
namespace Sys2Proof.Machine

/-- The depth of queue q in words; for Q103 in entries (R314). -/
def depth (q : Nat) : Nat :=
  if q < 84 then 64 else if q = 84 then 512 else if q < 97 then 128 else if q = 97 then 64
  else if q = 98 then 512 else if q < 103 then 256 else if q = 103 then 64 else 256

/-- Committed words of queue q that are not yet final (R316). Q0 to Q83 hold two words for each
pending event, Q103 counts entries. -/
def level (s : State) (q : Nat) : Nat :=
  if q < 84 then 2 * (outOf s q).evq.length
  else if q = 103 then s.agate.q103.length
  else (queueOf s q).slots.length

/-- Words pushed by gathers and not yet committed (R324). -/
def reserved (s : State) (q : Nat) : Nat := (queueOf s q).res.length

/-- The room that producers see (R324). -/
def freeRoom (s : State) (q : Nat) : Nat := depth q - level s q - reserved s q

/-- Words held provisionally by gathers (R326), those already final behind them left out. -/
def provisional (s : State) (q : Nat) : Nat :=
  ((queueOf s q).slots.filter (fun w => w.holder.isSome && !w.final)).length

/-- Words that a consumer may take: committed, held by no gather and not final. DESIGN CHOICE, log entry 9. -/
def visible (s : State) (q : Nat) : Nat :=
  if q < 84 ∨ q = 103 then level s q
  else ((queueOf s q).slots.filter (fun w => w.holder.isNone && !w.final)).length

/-- Note the present occupancy in the high-water mark: committed, reserved and provisional words. -/
def noteHwm (q : Nat) (s : State) : State := fmax s (F.QHWM_HIGH q) (level s q + reserved s q)

/-- Count n words as committed: the write pointer and QPCNT step by n (R317). -/
def countCommit (q n : Nat) (s : State) : State :=
  let s := setQueue q { queueOf s q with wp := ((queueOf s q).wp + n) % (2 * depth q) } s
  noteHwm q (fwrap s (F.QPCNT_COUNT q) n)

/-- Count n words as final: the read pointer and QCCNT step by n (R326). -/
def countFinal (q n : Nat) (s : State) : State :=
  let s := setQueue q { queueOf s q with rp := ((queueOf s q).rp + n) % (2 * depth q) } s
  fwrap s (F.QCCNT_COUNT q) n

/-- The slots of an item: its words, the last one marked (R321). -/
def itemSlots : List QWord → List QSlot
  | [] => []
  | [w] => [⟨w, true, none, false⟩]
  | w :: ws => ⟨w, false, none, false⟩ :: itemSlots ws

/-- Commit an item whole at the end of queue q. -/
def commitItem (q : Nat) (item : List QWord) (s : State) : State :=
  let x := queueOf s q
  countCommit q item.length (setQueue q { x with slots := x.slots ++ itemSlots item } s)

/-- Whether a producer of queue q sees it full for an item of n words: the room of R324, or a full
that Jasper forces (R609). Whether a forced full holds in a clock is a free value. -/
def fitsIn (s : State) (q n : Nat) : Bool :=
  decide (n ≤ freeRoom s q) &&
    !(decide (Config.free s.freeCtr % 256 < fget s (F.JAS_QBP_DUTY q)) && decide (fget s (F.JAS_QBP_DUTY q) ≠ 0))

/-- A hardware producer hands an item to queue q (R328, R329): it goes in when there is room and
nothing is held; otherwise it is held; with an item held that still lacks room it is dropped. -/
def deliver (q : Nat) (item : List QWord) (s : State) : State :=
  if depth q < item.length then
    fsat (fset s (F.QSTAT_DROP q) 1) (F.QDROP_COUNT q) 1
  else
    match (queueOf s q).held with
    | none =>
      if fitsIn s q item.length then commitItem q item s
      else fset (setQueue q { queueOf s q with held := some item } s) (F.QSTAT_BP_SEEN q) 1
    | some h =>
      if fitsIn s q h.length then
        let s := commitItem q h (setQueue q { queueOf s q with held := none } s)
        if fitsIn s q item.length then commitItem q item s
        else fset (setQueue q { queueOf s q with held := some item } s) (F.QSTAT_BP_SEEN q) 1
      else fsat (fset s (F.QSTAT_DROP q) 1) (F.QDROP_COUNT q) 1

/-- HELD_ITEM_ENTRY: a held item goes in once the room for all of it exists (R329); a full that Jasper forces is judged
anew at the next try. -/
def enterHeld (q : Nat) (s : State) : State :=
  match (queueOf s q).held with
  | none => s
  | some h =>
    if fitsIn s q h.length then commitItem q h (setQueue q { queueOf s q with held := none } s)
    else { s with freeCtr := s.freeCtr + 1 }

/-- Drop the leading words that are final, counting them (R326). -/
def dropFinal : List QSlot → List QSlot × Nat
  | [] => ([], 0)
  | w :: t => if w.final then ((dropFinal t).1, (dropFinal t).2 + 1) else (w :: t, 0)

/-- RP advances over every final word that has no provisional word before it (R326). -/
def advanceFinal (q : Nat) (s : State) : State :=
  let r := dropFinal (queueOf s q).slots
  countFinal q r.2 (setQueue q { queueOf s q with slots := r.1 } s)

/-- The words of the first whole packet that no gather holds. -/
def headPacket : List QSlot → List QWord
  | [] => []
  | w :: t => if w.last then [w.data] else w.data :: headPacket t

/-- Remove the first n slots; a hardware consumer's pop is final when made (R327). -/
def popHead (q n : Nat) (s : State) : State :=
  let x := queueOf s q
  countFinal q (min n x.slots.length) (setQueue q { x with slots := x.slots.drop n } s)

/-- A gather's provisional pop of one word (R326): the oldest visible word that the k pops before it leave, marked
as held. -/
def popProv (g : Nat) : Nat → List QSlot → Option (QWord × List QSlot)
  | _, [] => none
  | k, w :: t =>
    if w.holder.isNone && !w.final then
      match k with
      | 0 => some (w.data, { w with holder := some g } :: t)
      | j + 1 => (popProv g j t).map (fun r => (r.1, w :: r.2))
    else (popProv g k t).map (fun r => (r.1, w :: r.2))

/-- At gather g's EPOCH its provisional pops become final (R326). -/
def finalPops (g : Nat) (ws : List QSlot) : List QSlot :=
  ws.map (fun w => if w.holder == some g && !w.final then { w with final := true } else w)

/-- A rewind of gather g restores the words that it held (R189, R331). -/
def restorePops (g : Nat) (ws : List QSlot) : List QSlot :=
  ws.map (fun w => if w.holder == some g && !w.final then { w with holder := none } else w)

/-- The complete packets of gather g, in push order. -/
def closedOf (g : Nat) (rs : List QRes) : List QRes := rs.filter (fun r => r.gather == g && r.closed)

/-- The reserved words once gather g's complete packets are committed: its open packet stays open, and the EPOCH
has found its words (R188). -/
def epochWords (g : Nat) (rs : List QRes) : List QRes :=
  (rs.filter (fun r => !(r.gather == g && r.closed))).map (fun r => if r.gather = g then { r with old := true } else r)

/-- At gather g's EPOCH its complete packets are committed to queue q in the order in which they
were closed, and its pops become final (R323, R326). -/
def epochQueue (g q : Nat) (s : State) : State :=
  let x := queueOf s q
  let c := closedOf g x.res
  let s := setQueue q
    { x with slots := finalPops g x.slots ++ c.map (fun r => ⟨r.data, r.last, none, false⟩), res := epochWords g x.res } s
  advanceFinal q (if c.isEmpty then s else countCommit q c.length s)

/-- The reserved words after a rewind of gather g: those that it pushed since its last EPOCH are gone, and those that
its open packet held at that EPOCH are an open packet again (R188). -/
def rewoundWords (g : Nat) (rs : List QRes) : List QRes :=
  (rs.filter (fun r => r.gather != g || r.old)).map
    (fun r => if r.gather = g then { r with last := false, closed := false } else r)

/-- A rewind of gather g discards what it pushed since its last EPOCH, restores what it popped and ends a poisoning
(R188, R189, R333). -/
def rewindQueue (g q : Nat) (s : State) : State :=
  let x := queueOf s q
  advanceFinal q (setQueue q
    { x with slots := restorePops g x.slots, res := rewoundWords g x.res, poison := x.poison.filter (· != g) } s)

/-- A fault or a START of gather g discards every word of it that is not visible, as well (R188, R200, R220). -/
def clearQueue (g q : Nat) (s : State) : State :=
  let s := rewindQueue g q s
  setQueue q { queueOf s q with res := (queueOf s q).res.filter (fun r => r.gather != g) } s

/-- The gathers with an open packet in a queue. -/
def openGathers (rs : List QRes) : List Nat :=
  ((rs.filter (fun r => !r.closed)).map (·.gather)).dedup

/-- Flush queue q (R332, R333): every committed, reserved and provisional word is discarded, both
pointers describe an empty queue, and open packets of gathers are poisoned. -/
def flushQueue (q : Nat) (s : State) : State :=
  let x := queueOf s q
  let s := setQueue q { x with slots := [], res := [], poison := (x.poison ++ openGathers x.res).dedup,
                               rp := x.wp, taken := false } s
  if q < 84 then setOut q { outOf s q with evq := [] } s else s

/-- A reset clears queue q (R339, R554): it is flushed, and its registers take their reset values. An item that its
producer holds stays with the producer. -/
def resetQueue (q : Nat) (s : State) : State :=
  let s := setQueue q { Queue.init with held := (queueOf s q).held } s
  forAll (fun a s => wr s a (regReset a)) [A.QSTAT q, A.QPCNT q, A.QDROP q, A.QHWM q, A.QCCNT q] s

/-- The words that gathers reserved in queue q are discarded (R554). -/
def dropReserved (q : Nat) (s : State) : State := setQueue q { queueOf s q with res := [], poison := [] } s

/-- The live words of QSTAT, QPLEV, QPTRP, QCSTAT, QCFLAG and QPTRC: the rest of the word as
stored, the live fields from the queue. Pointer crossings are complete at every command (DESIGN CHOICE, log entry 9). -/
def viewQueue (s : State) (q off : Nat) (w : Word) : Word :=
  let x := queueOf s q
  if off = 0x04 then
    withBits (withBits w 1 1 (if level s q = depth q then 1 else 0)) 4 4 (if x.poison.isEmpty then 0 else 1)
  else if off = 0x08 then withBits (withBits w 25 16 (freeRoom s q)) 9 0 (reserved s q)
  else if off = 0x18 then withBits (withBits w 25 16 x.wp) 9 0 x.rp
  else if off = 0x20 then withBits (withBits w 25 16 (visible s q)) 9 0 (provisional s q)
  else if off = 0x24 then withBits w 0 0 (if visible s q = 0 then 1 else 0)
  else if off = 0x2C then withBits (withBits w 25 16 x.rp) 9 0 x.wp
  else w

/-- Why a flush of queue q is refused (R337). -/
def flushRefusal (s : State) (q : Nat) : Option Err :=
  if q < 84 then (if armed s q then some .armed else none)
  else if q = 84 then (if anyOutArmed s then some .state else none)
  else if q = 103 then some .state
  else none

end Sys2Proof.Machine
end

