-- ==== Sys2Proof/Machine/Pwm.lean ====
section
/-! DEFINITION. Pulse generation: compare, periods, short pulses and gaps, updates, phases, bank
spread, delay-line calibration (R368 to R387). -/
namespace Sys2Proof.Machine

/-- The full duty. -/
abbrev fullDuty : Nat := 0xFFFFFFFF

/-- Whether output n works on the fall-back path (R383, R385). -/
def onFallback (s : State) (n : Nat) : Bool := (outOf s n).onFallback

/-- The path that output n takes at its next reload (R383, R385). -/
def wantsFallback (s : State) (n : Nat) : Bool := flag s (F.PWM_STAT_FALLBACK n) || flag s F.PWM_GLOBAL_FB_FORCE

/-- Take the wanted path; at a reload, or at once if no carrier runs. -/
def takePath (n : Nat) (s : State) : State := setOut n { outOf s n with onFallback := wantsFallback s n } s

/-- Take the wanted path at once where no carrier runs. -/
def takePathIdle (n : Nat) (s : State) : State :=
  if flag s (F.PWM_STAT_CARRIER n) then s else takePath n s

/-- The shortest period of output n in ACT cycles (R369). -/
def shortestPeriod (n : Nat) : Nat := if n < 64 then 32000 else if n < 76 then 6400 else 16

/-- The rising and the falling delay together, in MTIME units (R373); ignored on the fall-back path (R384). -/
def delaySum (s : State) (n : Nat) : Nat := fget s (F.PWM_DEAD_DR n) + fget s (F.PWM_DEAD_DF n)

/-- The compare of R370 in MTIME units from the period start, none for FULL; on the fall-back
path without its fine part (R384). -/
def compare (s : State) (n : Nat) (duty period : Nat) : Option Nat :=
  if duty = fullDuty then none
  else
    let c := duty * period * 64 / 2 ^ 32
    some (if onFallback s n then 64 * (c / 64) else c)

/-- What a period does: whether the carrier rises, and where it falls (none: it stays on). -/
structure PeriodPlan where
  rises : Bool
  fall : Option Nat
  dropped : Bool
  gapDropped : Bool
  stretched : Bool
deriving DecidableEq, Repr

/-- The plan of a period of length p (MTIME units) with compare c: R371, R376, R377, R378. -/
def planPeriod (s : State) (n : Nat) (c : Option Nat) (p : Nat) : PeriodPlan :=
  match c with
  | none => ⟨true, none, false, false, false⟩
  | some 0 => ⟨false, none, false, false, false⟩
  | some t =>
    if onFallback s n then
      let m := 64 * fget s F.PWM_GLOBAL_FB_MIN
      if 2 * t < m then ⟨false, none, true, false, false⟩
      else
        let t' := max t m
        if p - t' < m then ⟨true, none, false, true, decide (t < m)⟩
        else ⟨true, some t', false, false, decide (t < m)⟩
    else if t ≤ delaySum s n then ⟨false, none, true, false, false⟩
    else if p - t ≤ delaySum s n then ⟨true, none, false, true, false⟩
    else ⟨true, some t, false, false, false⟩

/-- Whether output n has a complementary line (R374): a half-bridge, or a logic pair in class 1. -/
def hasComplement (s : State) (n : Nat) : Bool :=
  decide (64 ≤ n) && (decide (n < 76) || decide (fget s (F.CH_CFG_CLASS n) = 1))

/-- The delay from a rise of the carrier to the main line's rise (R374). On the fall-back path DR and DF are ignored, and
a turn-on waits 32 cycles after the opposite turn-off (R384). -/
def riseDelay (s : State) (n : Nat) : Nat :=
  if onFallback s n then (if hasComplement s n then 32 * 64 else 0) else fget s (F.PWM_DEAD_DR n)

/-- The delay from a fall of the carrier to the complementary line's rise, or to the main line's fall on an output
without one (R374, R384). -/
def fallDelay (s : State) (n : Nat) : Nat :=
  if onFallback s n then (if hasComplement s n then 32 * 64 else 0) else fget s (F.PWM_DEAD_DF n)

/-- The delay from a fall of the carrier to the main line's fall (R374). -/
def mainFallDelay (s : State) (n : Nat) : Nat := if hasComplement s n then 0 else fallDelay s n

/-- The carrier of output n. -/
def carrierOf (s : State) (n : Nat) : Carrier := (outOf s n).car
/-- Replace the carrier of output n. -/
def setCarrier (n : Nat) (c : Carrier) (s : State) : State := setOut n { outOf s n with car := c } s

/-- The edge of output n's carrier that belongs to MTIME g on the clock grid: later by the ON's fine offset (R372), which
the fall-back path drops (R384). -/
def edgeAt (s : State) (n g : Nat) : Nat := g + (if onFallback s n then 0 else (carrierOf s n).fine)
/-- An MTIME at which an edge of output n is asked for, as its path places it (R384). -/
def target (s : State) (n t : Nat) : Nat := if onFallback s n then 64 * (t / 64) else t
/-- The start of the ACT cycle after MTIME t. -/
def nextCycle (t : Nat) : Nat := (t / 64 + 1) * 64

/-- The other output of an H-bridge pair (R342). -/
def partner (n : Nat) : Nat := if n % 2 = 0 then n + 1 else n - 1
/-- Whether output n is of class 4. -/
def isBridge (s : State) (n : Nat) : Bool := decide (64 ≤ n) && decide (n < 76) && decide (fget s (F.CH_CFG_CLASS n) = 4)
/-- Whether output n belongs to an H-bridge in brake: both of its outputs are commanded ON (R342). -/
def braking (s : State) (n : Nat) : Bool :=
  isBridge s n && flag s (F.OUT_STAT_CMD_ON n) && flag s (F.OUT_STAT_CMD_ON (partner n))

/-- The drive that runs ends at MTIME f, or has no known end. -/
def refall (f : Option Nat) : List Drive → List Drive
  | [] => []
  | d :: ds => { d with fall := f } :: ds
/-- The drives with one that ends at MTIME f at the latest. -/
def cutDrive (f : Nat) : List Drive → List Drive
  | [] => []
  | d :: ds => { d with fall := some (match d.fall with | some g => min f g | none => f) } :: ds
/-- The drives of output n after a carrier that was on, or was off, is on from MTIME t until f; in brake both high
switches stay off. -/
def riseDrives (s : State) (n t : Nat) (f : Option Nat) (wasHigh : Bool) (ds : List Drive) : List Drive :=
  if braking s n then ds else if wasHigh then refall f ds else ⟨t, f⟩ :: ds.take 1

/-- The carrier as it stands at MTIME t: a fall that has passed is over. -/
def settleFall (t : Nat) (c : Carrier) : Carrier :=
  match c.fallAt with
  | some f => if f ≤ t then { c with high := false, fallAt := none } else c
  | none => c

/-- The fields that count what a carrier dropped and stretched. -/
def countFields (n : Nat) : List Fld :=
  [F.PWM_STAT_SHORT_DROPPED n, F.PWM_STAT_GAP_DROPPED n, F.PWM_SHORT_DROP n, F.PWM_SHORT_GAP_DROP n, F.PWM_STRETCH_COUNT n]

/-- Count a dropped pulse (R376). -/
def countDrop (n : Nat) (s : State) : State := fsat (fset s (F.PWM_STAT_SHORT_DROPPED n) 1) (F.PWM_SHORT_DROP n) 1
/-- Count a dropped gap (R377). -/
def countGap (n : Nat) (s : State) : State := fsat (fset s (F.PWM_STAT_GAP_DROPPED n) 1) (F.PWM_SHORT_GAP_DROP n) 1

/-- Start a period of output n at MTIME g on the clock grid (R368, R371): the reload. A gap before it that the carrier
stays on through counts now (R377). -/
def startPeriod (n g : Nat) (s : State) : State :=
  let o := outOf s n
  let c := settleFall (edgeAt s n g - 1) o.car
  let p := fget s (F.PWM_PERIOD_PERIOD n)
  let pl := planPeriod s n (compare s n (fget s (F.PWM_APPL_APPLIED n)) p) (64 * (p + c.delay))
  let e := edgeAt s n g
  let fall := pl.fall.map (e + ·)
  let ds := if pl.rises then riseDrives s n e fall c.high o.drives else if c.high then cutDrive e o.drives else o.drives
  let again : Replan := ⟨c.high, c.gapDrop, o.drives, (countFields n).map (fget s)⟩
  let c' := { c with start := g, reload := g + 64 * (p + c.delay), started := true, high := pl.rises, fallAt := fall,
                     gapDrop := pl.gapDropped, stretched := pl.stretched, replan := some again }
  let s := onlyIf (c.high && c.gapDrop && pl.rises) (countGap n) (setOut n { o with car := c', drives := ds } s)
  let s := onlyIf pl.dropped (countDrop n) s
  onlyIf pl.stretched (fun s => fsat s (F.PWM_STRETCH_COUNT n) 1) s

/-- A reload of output n at MTIME g on the clock grid: a delay of the period before it is over (R380). -/
def reloadPeriod (n g : Nat) (s : State) : State := startPeriod n g (setCarrier n { carrierOf s n with delay := 0 } s)

/-- Plan the period that runs once more, for an update in the cycle of its reload (R379). -/
def replanPeriod (n : Nat) (s : State) : State :=
  let o := outOf s n
  match o.car.replan with
  | none => s
  | some r =>
    let s := forAll (fun fv s => fset s fv.1 fv.2) ((countFields n).zip r.counts) s
    startPeriod n o.car.start
      (setOut n { o with car := { o.car with high := r.high, gapDrop := r.gapDrop, fallAt := none }, drives := r.drives } s)

/-- The counter value of output n's carrier at MTIME t: 0 to P − 1 (R368); at its start it waits at 0. -/
def counter (s : State) (n t : Nat) : Nat :=
  let c := carrierOf s n
  if c.started then min ((t - c.start) / 64) (fget s (F.PWM_PERIOD_PERIOD n) - 1) else 0

/-- The shortest pulse that a fall at once may leave (R379). -/
def minPulse (s : State) (n : Nat) : Nat :=
  if onFallback s n then 64 * fget s F.PWM_GLOBAL_FB_MIN else delaySum s n

/-- Whether a gap of length g is dropped (R377, R378). -/
def gapShort (s : State) (n g : Nat) : Bool :=
  if onFallback s n then decide (g < 64 * fget s F.PWM_GLOBAL_FB_MIN) else decide (g ≤ delaySum s n)

/-- A carrier that is on falls at MTIME f; where the gap that is left is too short, it stays on through the reload
(R377, R378). -/
def fallAt (n f : Nat) (s : State) : State :=
  let o := outOf s n
  let drop := gapShort s n (edgeAt s n o.car.reload - f)
  let f' := if drop then none else some f
  setOut n { o with car := { o.car with fallAt := f', gapDrop := drop, stretched := o.car.stretched },
                    drives := if braking s n then o.drives else refall f' o.drives } s

/-- Hold a pulse to its shortest length (R378, R379): each pulse counts once. -/
def holdPulse (n : Nat) (atOnce : Bool) (s : State) : State :=
  let s := onlyIf (atOnce || !onFallback s n) (fun s => fset s (F.PWM_STAT_HELD_MIN n) 1) s
  if (carrierOf s n).stretched then s
  else fsat (setCarrier n { carrierOf s n with stretched := true } s) (F.PWM_STRETCH_COUNT n) 1

/-- An update of the duty or the period of a running carrier, at MTIME t (R379): a carrier that is on falls at the new
compare, or at once, but not before its shortest length; one that is off stays off. DEDUCED, log entry 109. -/
def updateCompare (n t : Nat) (s : State) : State :=
  let c := settleFall t (carrierOf s n)
  if !flag s (F.PWM_STAT_CARRIER n) || !c.started then s
  else if t / 64 = c.start / 64 then replanPeriod n s
  else if !c.high then s
  else
    let s := setCarrier n c s
    match compare s n (fget s (F.PWM_APPL_APPLIED n)) (fget s (F.PWM_PERIOD_PERIOD n)) with
    | none =>
      let o := outOf s n
      setOut n { o with car := { o.car with fallAt := none, gapDrop := false },
                        drives := if braking s n then o.drives else refall none o.drives } s
    | some cmp =>
      let atOnce := decide (cmp ≤ 64 * ((t - c.start) / 64))
      let f := if atOnce then edgeAt s n (nextCycle t) else edgeAt s n c.start + cmp
      let r := match (outOf s n).drives.head? with | some d => d.rise | none => edgeAt s n c.start
      let m := r + minPulse s n
      if m ≤ f then fallAt n f s else fallAt n m (holdPulse n atOnce s)

/-- The compensated duty of R301: the base duty times v_loc over REF, clamped to 10 % to 100 %. -/
def compensated (n : Nat) (s : State) : Nat × State :=
  let base := fget s (F.PWM_DUTY_BASE n)
  if !flag s (F.OUT_COMP_EN n) || !(outOf s n).compOk then (base, fset s (F.OUT_STAT_RATE_UNATTAINABLE n) 0)
  else if base = 0 then (0, fset s (F.OUT_STAT_RATE_UNATTAINABLE n) 0)
  else
    let v := fgetS s (F.OUT_SPEED_LOCAL n)
    let r := fget s (F.OUT_COMP_REF n)
    let d := roundOpen (base * v.toNat) r
    let low := roundOpen (2 ^ 32) 10
    let flagged := fun s => fset (fset s (F.OUT_STAT_RATE_UNATTAINABLE n) 1) (F.OUT_STAT_RATE_FLAG n) 1
    if v ≤ 0 ∨ d < low then (low, flagged s)
    else if fullDuty < d then (fullDuty, flagged s)
    else (d, fset s (F.OUT_STAT_RATE_UNATTAINABLE n) 0)

/-- Whether output n is driven with no carrier: a steady drive or a PULSE (R369, R373). -/
def noCarrier (s : State) (n : Nat) : Bool := decide (fget s (F.PWM_PERIOD_PERIOD n) = 0) || (outOf s n).pulseEnd.isSome

/-- Recompute the applied duty of output n at MTIME t and let the update act (R359, R379). -/
def applyDuty (n t : Nat) (s : State) : State :=
  let (c, s) := compensated n s
  let o := outOf s n
  let law := fget s (F.CH_CFG_COMP_LAW n)
  let d :=
    if o.openPulse then fullDuty
    else if c = 0 ∨ law = 0 ∨ noCarrier s n then c
    else if o.kDen = 0 then fullDuty
    else roundOpen (c * o.kNum) o.kDen
  let sat := decide (fullDuty < d) || (decide (o.kDen = 0) && decide (c ≠ 0) && decide (law ≠ 0))
  let s := fbool s (F.CH_STAT_SUPPLY_SAT n) (sat && !noCarrier s n)
  updateCompare n t (fset s (F.PWM_APPL_APPLIED n) (min d fullDuty))

/-- The members of bank b's spread set, in ascending output number (R386). -/
def spreadSet (s : State) (b : Nat) : List Nat :=
  let on := (List.range 8).map (8 * b + ·) |>.filter (fun n =>
    flag s (F.OUT_STAT_CMD_ON n) && decide (fget s (F.PWM_PERIOD_PERIOD n) ≠ 0))
  match on with
  | [] => []
  | l :: _ => on.filter (fun n => fget s (F.PWM_PERIOD_PERIOD n) = fget s (F.PWM_PERIOD_PERIOD l))

/-- The next reload of output n comes with a delay of d cycles in all (R380); a gap that was to be dropped is judged
anew if its compare still lies ahead. -/
def delayReload (n d : Nat) (s : State) : State :=
  let c := carrierOf s n
  let p := fget s (F.PWM_PERIOD_PERIOD n)
  let s := setCarrier n { c with delay := d, reload := c.start + 64 * (if c.started then p + d else 0) } s
  match compare s n (fget s (F.PWM_APPL_APPLIED n)) p with
  | none => s
  | some cmp => if c.started ∧ c.gapDrop ∧ s.mtime < edgeAt s n c.start + cmp then fallAt n (edgeAt s n c.start + cmp) s else s

/-- Place member n of rank k among m behind the leader l, by delaying its next reload (R387). A member that waits at its
start, or a PULSE, has no reload to delay. -/
def spreadMove (l m k n : Nat) (s : State) : State :=
  let p := fget s (F.PWM_PERIOD_PERIOD n)
  let c := carrierOf s n
  if p = 0 ∨ !c.started ∨ !flag s (F.PWM_STAT_CARRIER l) then s
  else
    let want := (carrierOf s l).reload / 64 + k * p / m
    let base := max (c.start / 64 + p) (s.mtime / 64 + 1)
    delayReload n (base - (c.start / 64 + p) + (want + p - base % p) % p) s

/-- Recompute the spread of bank b after its set changed (R386, R387). With SPREAD clear the bank has no set. -/
def respread (b : Nat) (s : State) : State :=
  if 8 ≤ b then s
  else
    let on := flag s (F.PWM_BANK_SPREAD b)
    let ms := if on then spreadSet s b else []
    let l := ms.headD 0xFF
    let s := fset (fset s (F.PWM_BANK_LEADER b) l) (F.PWM_BANK_MEMBERS b) ms.length
    let s := forAll (fun i s =>
      fbool s (F.PWM_STAT_SPREAD_EXCL i)
        (on && flag s (F.OUT_STAT_CMD_ON i) && decide (fget s (F.PWM_PERIOD_PERIOD i) ≠ 0) && !ms.contains i))
      ((List.range 8).map (8 * b + ·)) s
    forAll (fun kn s => spreadMove l ms.length kn.1 kn.2 s) ((List.range ms.length).zip ms) s

/-- Whether output n is a member of its bank's spread set, so that its PHASE is kept but not applied. -/
def isSpread (s : State) (n : Nat) : Bool :=
  decide (n < 64) && flag s (F.PWM_BANK_SPREAD (n / 8)) && (spreadSet s (n / 8)).contains n

/-- The drive of output n's line ends at MTIME t; its carrier is off. -/
def endDrive (n t : Nat) (s : State) : State :=
  let o := outOf s n
  let c := settleFall t o.car
  setOut n { o with car := { c with high := false, fallAt := none, gapDrop := false, replan := none },
                    drives := if c.high then cutDrive (target s n t) o.drives else o.drives } s

/-- The line of output n is driven with no carrier from MTIME t on until f (R369, R373). -/
def driveSteady (n t : Nat) (f : Option Nat) (s : State) : State :=
  let o := outOf s n
  let c := settleFall t o.car
  setOut n { o with car := { c with high := true, fallAt := none, gapDrop := false, replan := none, started := false },
                    drives := riseDrives s n (target s n t) f c.high o.drives } s

/-- An ON at MTIME t schedules the carrier of output n (R372): its first period start lies the phase offset after t, and
the line stays off until then. An ON is also a reload, at which the wanted path is taken (R383, R385). -/
def scheduleCarrier (n t : Nat) (s : State) : State :=
  let s := takePath n s
  if fget s (F.PWM_PERIOD_PERIOD n) = 0 then driveSteady n t none s
  else
    let off := (carrierOf s n).phaseOff
    let s := onlyIf (decide (off ≠ 0)) (endDrive n t) s
    let g := 64 * (t / 64 + off)
    fset (setCarrier n { carrierOf s n with start := g, reload := g, fine := t % 64, started := false, offNow := off,
                                            delay := 0, replan := none } s) (F.PWM_STAT_CARRIER n) 1

/-- Stop the carrier of output n at MTIME t (R372): the counter stops at 0, the values are kept. -/
def stopCarrier (n t : Nat) (s : State) : State :=
  let s := endDrive n t s
  takePath n (fset (setCarrier n { carrierOf s n with started := false } s) (F.PWM_STAT_CARRIER n) 0)

/-- A PERIOD fires at MTIME t (R369, R379). -/
def setPeriod (n t v : Nat) (s : State) : State :=
  let low := decide (v ≠ 0) && decide (v < shortestPeriod n)
  let p := if low then shortestPeriod n else v
  let first := low && !flag s (F.PWM_STAT_PERIOD_CLAMP n)
  let s := onlyIf low (fun s => fset s (F.PWM_STAT_PERIOD_CLAMP n) 1) s
  let s := onlyIf first (raise 2 1 n .periodClamp [v, p]) s
  let old := fget s (F.PWM_PERIOD_PERIOD n)
  let s := fset s (F.PWM_PERIOD_PERIOD n) p
  let c := carrierOf s n
  let s :=
    if !flag s (F.OUT_STAT_CMD_ON n) || (outOf s n).pulseEnd.isSome then s
    else if p = 0 then
      (if old = 0 then s else takePath n (fset (driveSteady n t none s) (F.PWM_STAT_CARRIER n) 0))
    else if old = 0 then
      startPeriod n (64 * (t / 64)) (fset (setCarrier n { c with fine := t % 64, offNow := 0, delay := 0 } s) (F.PWM_STAT_CARRIER n) 1)
    else if !c.started then s
    else if t / 64 = c.start / 64 then replanPeriod n s
    else if (t - c.start) / 64 < p then updateCompare n t (setCarrier n { c with reload := c.start + 64 * (p + c.delay) } s)
    else
      let o := outOf s n
      let d := max (t / 64 + 1 - (c.start / 64 + p)) c.delay
      setOut n { o with car := { o.car with reload := c.start + 64 * (p + d), delay := d, fallAt := none, gapDrop := false },
                        drives := if c.high && !braking s n then refall none o.drives else o.drives } s
  respread (n / 8) s

/-- A PHASE fires (R380): a running carrier's present period grows by the change of the offset. -/
def setPhase (n v : Nat) (s : State) : State :=
  let s := fset s (F.PWM_PHASE_PHASE n) v
  let p := fget s (F.PWM_PERIOD_PERIOD n)
  let c := carrierOf s n
  let off := v * p / 2 ^ 32
  let s := setCarrier n { c with phaseOff := off } s
  if isSpread s n || decide (p = 0) || !flag s (F.PWM_STAT_CARRIER n) then s
  else
    let d := (off + p - c.offNow % p) % p
    let s := setCarrier n { carrierOf s n with offNow := off } s
    if c.started then delayReload n (c.delay + d) s
    else setCarrier n { carrierOf s n with start := c.start + 64 * d, reload := c.reload + 64 * d } s

/-- How far the tap offset of Jasper moves a logic edge of output n at MTIME e (R385, R609): the difference of two taps of
the line in use. -/
def tapMove (s : State) (n e : Nat) : Int :=
  let l := (outOf s n).lines.used
  let k := fgetS s F.JAS_TAP_OFFSET
  if onFallback s n ∨ k = 0 ∨ l.table = [] then 0
  else
    let a := l.table.getD (e % 64) 0
    let b := (max 0 (min 63 ((a : Int) + k))).toNat
    roundHalfAway ((l.taps.getD b 0 : Int) - l.taps.getD a 0) 3125
/-- Whether a logic edge asked for at MTIME e has come. -/
def edgePassed (s : State) (n e : Nat) : Bool := decide ((e : Int) + tapMove s n e ≤ s.mtime)

/-- Whether the main line of output n is high now by drive d (R374). -/
def mainHigh (s : State) (n : Nat) (d : Drive) : Bool :=
  edgePassed s n (d.rise + riseDelay s n) &&
    (match d.fall with | none => true | some f => !edgePassed s n (f + mainFallDelay s n))
/-- Whether drive d keeps the complementary line of output n low now (R374). -/
def complementBarred (s : State) (n : Nat) (d : Drive) : Bool :=
  edgePassed s n d.rise && (match d.fall with | none => true | some f => !edgePassed s n (f + fallDelay s n))

/-- Whether the channel of output n drives its line: it is on, or an OFF that its falling delay still outlasts found it on. -/
def drivesLine (s : State) (n : Nat) : Bool :=
  flag s (F.OUT_STAT_ACTUAL_ON n) ||
    (match (outOf s n).tail with | none => false | some u => decide (s.mtime < u + mainFallDelay s n))
/-- Whether the main line of output n is high now (PWM_STAT.LINE). A logic pair in its SAFE posture drives its line A
steadily (R364). -/
def lineNow (s : State) (n : Nat) : Bool :=
  match (outOf s n).safeLines with
  | some l => flag s (F.OUT_STAT_ACTUAL_ON n) && l.1
  | none => drivesLine s n && (outOf s n).drives.any (mainHigh s n)

/-- Whether a cause of its own keeps both switches of output n's half-bridge off (R361). -/
def switchesBarred (s : State) (n : Nat) : Bool :=
  let o := outOf s n
  o.latched || o.thermal.isSome || o.pauseEnd.isSome || o.gapEnd.isSome || o.feedHeld || s.sup.groundLost
/-- Whether output n's half-bridge or pair is in the off part of its drive, or in an H-bridge closes the current's path
for the other direction or for brake (R340, R342). -/
def offPart (s : State) (n : Nat) : Bool :=
  let own := flag s (F.OUT_STAT_ACTUAL_ON n) &&
    ((carrierOf s n).started || !flag s (F.PWM_STAT_CARRIER n) || braking s n)
  own || (isBridge s n && !flag s (F.OUT_STAT_CMD_ON n) && flag s (F.OUT_STAT_ACTUAL_ON (partner n)) && !switchesBarred s n)
/-- The complementary line of a half-bridge or of a class 1 logic pair: the opposite switch. It falls when the carrier
rises and rises DF after the carrier falls (R374), 32 cycles on the fall-back path (R384). -/
def complementNow (s : State) (n : Nat) : Bool :=
  match (outOf s n).safeLines with
  | some l => flag s (F.OUT_STAT_ACTUAL_ON n) && l.2
  | none => hasComplement s n && offPart s n && !(outOf s n).drives.any (complementBarred s n)

/-- The tap nearest to a delay; of two equally near ones a free choice (DESIGN CHOICE, log entry 122). -/
def nearestTap (taps : List Nat) (want : Nat) : Nat :=
  let far (k : Nat) : Nat := (taps.getD k 0 - want) + (want - taps.getD k 0)
  (List.range 64).foldl (fun b k => if far k < far b ∨ (far k = far b ∧ Config.roundUp want k) then k else b) 0
/-- The table of a calibration (R382): for each fine value the tap nearest to it. Delays count 1/32 ps, of which an MTIME
unit has 3,125. -/
def tapTable (taps : List Nat) : List Nat := (List.range 64).map (fun f => nearestTap taps (3125 * f))
/-- The longest tap's delay. -/
def tapSpan (taps : List Nat) : Nat := taps.foldl max 0
/-- Whether a table rises or stands from each entry to the next. -/
def monotonic : List Nat → Bool
  | a :: b :: t => decide (a ≤ b) && monotonic (b :: t)
  | _ => true
/-- Whether an entry of a table differs by more than 8 taps from the same entry of the last good table. -/
def tapsJump (old new : List Nat) : Bool := (old.zip new).any (fun p => decide (8 < (p.1 - p.2) + (p.2 - p.1)))
/-- Whether a calibration fails (R383): a span below 6.25 ns, a table that is not monotonic or that jumps. -/
def calibrationFails (last : DelayLine) (taps : List Nat) : Bool :=
  decide (tapSpan taps < 200000) || !monotonic (tapTable taps) || tapsJump last.table (tapTable taps)

/-- Whether an edge of output n falls in the ACT cycle of MTIME t. -/
def edgePending (s : State) (n t : Nat) : Bool :=
  let c := carrierOf s n
  decide ((flag s (F.PWM_STAT_CARRIER n) ∧ c.reload / 64 = t / 64) ∨ (c.fallAt.map (· / 64)) = some (t / 64) ∨
    ((outOf s n).pulseEnd.map (· / 64)) = some (t / 64))
/-- Exchange the delay lines of output n where a good calibration awaits it, in a cycle without an edge (R382). -/
def exchangeLines (n : Nat) (s : State) : State :=
  let o := outOf s n
  if !o.lines.exchange || edgePending s n s.mtime then s
  else
    fset (setOut n { o with lines := ⟨o.lines.idle, o.lines.used, false⟩ } s) (F.PWM_CAL_SPAN n)
      (min 255 (roundOpen (tapSpan o.lines.idle.taps) 3200))

/-- CARRIER_FALL: the carrier falls at the position of its compare (R371). -/
def carrierFall (n : Nat) (s : State) : State :=
  match (carrierOf s n).fallAt with
  | none => s
  | some t =>
    let s := atTime t s
    setCarrier n { carrierOf s n with high := false, fallAt := none } s

/-- DELAY_LINE_CALIBRATION of output n (R382, R383) measures the idle line's taps: a good one takes its place at the
exchange; three failures in a row move the output to the fall-back path. The cullet entry is the caller's. -/
def calibrate (n : Nat) (taps : List Nat) (s : State) : State :=
  let s := exchangeLines n s
  let o := outOf s n
  if calibrationFails o.lines.idle taps then
    let run := min 3 (fget s (F.PWM_CAL_RUN n) + 1)
    let s := fset (fsat s (F.PWM_CAL_CAL_ERR n) 1) (F.PWM_CAL_RUN n) run
    if run = 3 ∧ !flag s (F.PWM_STAT_FALLBACK n) then
      raise 4 1 n .fallback [n] (takePathIdle n (fset s (F.PWM_STAT_FALLBACK n) 1))
    else s
  else
    exchangeLines n (fset (setOut n { o with lines := ⟨o.lines.used, ⟨taps, tapTable taps⟩, true⟩ } s) (F.PWM_CAL_RUN n) 0)

end Sys2Proof.Machine
end

