-- ==== Sys2Proof/Machine/Channels.lean ====
section
/-! DEFINITION. Protected load channels, feeds, the feed budget, thermal classes, retry and latch,
supply compensation, postures, latency learning and captures (R340 to R367, R295 to R299). -/
namespace Sys2Proof.Machine

/-- The feed of output n; outputs 76 to 83 have none (R354). -/
def feedOfOut (n : Nat) : Option Nat :=
  if n < 64 then some (n / 8) else if n < 76 then some (8 + (n - 64) / 6) else none

/-- The outputs of feed f, ascending. -/
def outsOfFeed (f : Nat) : List Nat := (List.range 76).filter (fun n => feedOfOut n == some f)

/-- The reserve of output n on its feed in 0.25 A steps (R354). -/
def reserve (s : State) (n : Nat) : Nat :=
  let o := outOf s n
  if o.inrushEnd.isSome then fget s (F.CH_LIMIT_INRUSH_LIM n)
  else if flag s (F.OUT_STAT_CMD_ON n) && !o.latched && o.deferral.isNone then fget s (F.CH_LIMIT_NOM n)
  else 0

/-- The sum of the reserves of feed f's channels. -/
def feedReserve (s : State) (f : Nat) : Nat := ((outsOfFeed f).map (reserve s)).sum

/-- The turn-on reserve of output n (R355). -/
def turnOnReserve (s : State) (n : Nat) : Nat :=
  if fget s (F.CH_LIMIT_INRUSH_WIN n) = 0 then fget s (F.CH_LIMIT_NOM n) else fget s (F.CH_LIMIT_INRUSH_LIM n)

/-- Whether output n turned on in the ACT cycle of MTIME t. -/
def turnedOnAt (s : State) (n t : Nat) : Bool :=
  match (outOf s n).onSince with | some u => decide (u / 64 = t / 64) | none => false

/-- Whether a turn-on of output n at MTIME t is admitted under its feed's budget (R355): of those that turn on in the
same ACT cycle, the ones of a higher number are judged after it. -/
def admitted (s : State) (n t : Nat) : Bool :=
  match feedOfOut n with
  | none => true
  | some f =>
    let before := (outsOfFeed f).filter (fun m => m != n && !(decide (n < m) && turnedOnAt s m t))
    decide (before.foldl (fun a m => a + reserve s m) 0 + turnOnReserve s n ≤ fget s (F.FEED_CFG_BUDGET f))

/-- Whether the feed of output n is down, or a ground loss lasts (R63, R68). -/
def feedDown (s : State) (n : Nat) : Bool :=
  match feedOfOut n with
  | none => false
  | some f => flag s (F.FEED_STAT_UV f) || s.sup.groundLost
/-- Whether the feed of output n or a ground loss holds it off, its turn in the stagger included (R63, R68). -/
def feedHeld (s : State) (n : Nat) : Bool := feedDown s n || (decide (n < 76) && (outOf s n).feedHeld)

/-- Whether a pulse-class deferral holds output n (R351). -/
def pulseHot (s : State) (n : Nat) : Bool := flag s (F.CH_CFG_THERM_CLASS n) && (outOf s n).hotPulse

/-- The protection state of R361: the first cause that holds, in its order. A recovered feed holds no longer, so a
channel that waits for its turn shows the next cause (R362). DEDUCED, log entry 90. -/
def pstate (s : State) (n : Nat) : Nat :=
  let o := outOf s n
  if o.latched then 6 else if o.thermal.isSome then 5 else if feedDown s n then 7
  else if o.pauseEnd.isSome then 4 else if o.deferral.isSome then 3
  else if flag s (F.OUT_STAT_ACTUAL_ON n) then (if o.inrushEnd.isSome then 1 else 2) else 0

/-- Note the protection state in CH_STAT. -/
def notePstate (n : Nat) (s : State) : State := fset s (F.CH_STAT_PSTATE n) (pstate s n)

/-- The on lead or off lead of output n in MTIME units (R282). -/
def leadOf (s : State) (n : Nat) (on : Bool) : Nat :=
  tenUs * ((if on then fget s (F.OUT_LAT_ON n) else fget s (F.OUT_LAT_OFF n)) + fget s (F.OUT_TRANSIT_TRANSIT n))

/-- Record a rejected measurement with result code r (R298). -/
def rejectMeas (n : Nat) (on : Bool) (r v : Nat) (s : State) : State :=
  let fr := if on then F.OUT_MEAS_ON_RES n else F.OUT_MEAS_OFF_RES n
  let fj := if on then F.OUT_MEAS_ON_REJECT_RUN n else F.OUT_MEAS_OFF_REJECT_RUN n
  let fv := if on then F.OUT_MEAS_ON_VALUE n else F.OUT_MEAS_OFF_VALUE n
  let s := raise 1 1 n .measRejected [r, v] (fset (fsat (fset s fr r) fj 1) fv v)
  if fget s fj = 8 then raise 3 1 n .learnFail [n] (fset s (F.OUT_STAT_LEARN_FAIL n) 1) else s

/-- The learned value after an accepted measurement (R298). -/
def learn (l m : Nat) : Nat := ((l : Int) + roundHalfAway ((m : Int) - (l : Int)) 16).toNat

/-- Judge a measurement m in 10 µs units (R298). -/
def judgeMeas (n : Nat) (on : Bool) (m : Nat) (s : State) : State :=
  if m < 200 then rejectMeas n on 3 m s
  else
    let fr := if on then F.OUT_MEAS_ON_RES n else F.OUT_MEAS_OFF_RES n
    let fj := if on then F.OUT_MEAS_ON_REJECT_RUN n else F.OUT_MEAS_OFF_REJECT_RUN n
    let fv := if on then F.OUT_MEAS_ON_VALUE n else F.OUT_MEAS_OFF_VALUE n
    let fl := if on then F.OUT_LAT_ON n else F.OUT_LAT_OFF n
    fset (fset (fset (fset s fr 1) fj 0) fv (min m 0xFFFF)) fl (learn (fget s fl) m)

/-- Index, from k on, of the first difference over 4 samples that satisfies p (R297). -/
def findDiff (p : Int → Bool) (i : List Int) : Nat → Nat → Option Nat
  | 0, _ => none
  | fuel + 1, k =>
    match i[k]? with
    | none => none
    | some v => if 4 ≤ k ∧ p (v - i.getD (k - 4) 0) then some k else findDiff p i fuel (k + 1)

/-- The first index of the smallest value in the range from a to before b (R297). -/
def argMin (i : List Int) (a : Nat) : Nat → Nat → Nat
  | 0, best => best
  | n + 1, best =>
    let best := argMin i a n best
    if i.getD (a + n) 0 < i.getD best 0 then a + n else best

/-- The arrival or the release in a capture's samples (R297): its latency in 10 µs units. The release
is found as the arrival is in the negated samples. -/
def arrival (samples : List Nat) (on : Bool) (thr capDelay : Nat) : Option Nat :=
  let i : List Int := samples.map (fun x => if on then (x : Int) else -(x : Int))
  let k0 := 20 * capDelay
  let first := max (40 - k0) 4
  match findDiff (fun d => decide (d ≤ -(thr : Int))) i 5000 first with
  | none => none
  | some st =>
    match findDiff (fun d => decide (0 ≤ d)) i 5000 (st + 1) with
    | none => none
    | some e => if e < 5000 then some ((k0 + argMin i st (e - st) st) * 5) else none

/-- End the running capture of output n early (R295): the capture is kept, and a measurement that
was not yet made is rejected with code 4. -/
def endCaptureEarly (n : Nat) (s : State) : State :=
  let o := outOf s n
  match o.cap with
  | none => s
  | some c =>
    let begin := c.switched + ms * fget s (F.OUT_LEARN_CAP_DELAY n)
    let count := min 5000 ((s.mtime - begin) / (us * 50))
    let s := if c.measured then s else rejectMeas n c.isOn 4 0 s
    let res := if c.isOn then fget s (F.OUT_MEAS_ON_RES n) else fget s (F.OUT_MEAS_OFF_RES n)
    let pts := (List.range count).map (Config.capSample n begin)
    setOut n { outOf s n with cap := none, openPulse := false,
                              lastCap := if n < 76 then some ⟨c.isOn, res, pts, begin⟩ else o.lastCap } s

/-- A change of the actual state starts a capture for a direction that learns (R295, R296). -/
def startCapture (n t : Nat) (on : Bool) (s : State) : State :=
  let s := endCaptureEarly n s
  let en := if on then flag s (F.OUT_LEARN_EN_ON n) else flag s (F.OUT_LEARN_EN_OFF n)
  if en && decide (n < 76) then
    setOut n { outOf s n with cap := some ⟨t, on, false⟩, openPulse := on && flag s (F.OUT_LEARN_OPEN_PULSE n) } s
  else s

/-- The applied interval that is still open takes its end (R302). -/
def closeInterval (t lead : Nat) : List Interval → List Interval
  | [] => []
  | i :: is => if i.off.isNone then { i with off := some (t, lead) } :: is else i :: closeInterval t lead is

/-- Count a deferral that ends or is cancelled at MTIME t (R357, R358). -/
def countDeferral (n t : Nat) (s : State) : State :=
  match (outOf s n).deferral with
  | none => s
  | some d =>
    let delay := (t - d.since) / tenUs
    fmax (fsat s (F.CH_DEFER_COUNT n) 1) (F.CH_DEFER_MAX n) delay

/-- The actual state of output n becomes ON at MTIME t (R346): inrush window, applied interval, capture. -/
def actualOn (n t : Nat) (s : State) : State :=
  let s := match (outOf s n).deferral with
    | none => s
    | some d =>
      let first := !flag s (F.CH_STAT_DEFER n)
      let s := fset (countDeferral n t s) (F.CH_STAT_DEFER n) 1
      onlyIf first (raise 2 1 n .deferral [n, if d.budget then 1 else 0, (t - d.since : Nat)]) s
  let o := outOf s n
  let win := if n < 76 then fget s (F.CH_LIMIT_INRUSH_WIN n) else 0
  let s := setOut n { o with deferral := none, inrushEnd := if win = 0 then none else some (t + ms * win),
                             onSince := some t,
                             intervals := o.intervals ++ [⟨t, leadOf s n true, none⟩] } s
  let s := fset s (F.OUT_STAT_ACTUAL_ON n) 1
  applyDuty n t (startCapture n t true s)

/-- The actual state of output n becomes OFF at MTIME t: window, applied interval, capture. Out of brake the other
output of its H-bridge drives on, so no direction ends (R343). -/
def actualOff (n t : Nat) (s : State) : State :=
  if !flag s (F.OUT_STAT_ACTUAL_ON n) then s
  else
    let o := outOf s n
    let drove := !(isBridge s n && flag s (F.OUT_STAT_ACTUAL_ON (partner n)))
    let s := setOut n { o with inrushEnd := none, onSince := none, tail := none,
                               offAt := if drove then some t else o.offAt,
                               intervals := closeInterval t (leadOf s n false) o.intervals } s
    let s := fset s (F.OUT_STAT_ACTUAL_ON n) 0
    applyDuty n t (startCapture n t false s)

/-- Whether a meter check or a reversal gap holds output n off (R343, R602). -/
def otherHold (s : State) (n : Nat) : Bool := (outOf s n).gapEnd.isSome || s.svc.meterHeld == some n

/-- A turn-on of output n in the ACT cycle of MTIME t that a lower-numbered one displaces did not take place: it is
deferred (R355). -/
def retractOn (n t : Nat) (s : State) : State :=
  let o := outOf s n
  let s := setOut n { o with onSince := none, inrushEnd := none, cap := none, openPulse := false,
                             intervals := o.intervals.dropLast, deferral := some ⟨t, true⟩ } s
  notePstate n (fset s (F.OUT_STAT_ACTUAL_ON n) 0)

/-- The turn-ons of the ACT cycle of MTIME t that are judged after output n's, in ascending number: one that is no longer
admitted is deferred (R355). -/
def judgeLater (n t : Nat) (s : State) : State :=
  match feedOfOut n with
  | none => s
  | some f => forAll (fun m s => if turnedOnAt s m t && !admitted s m t then retractOn m t s else s)
      ((outsOfFeed f).filter (fun m => decide (n < m))) s

/-- Bring the channel to what R361 requires at MTIME t: off while a cause holds or nothing is
commanded, deferred while not admitted, on otherwise. -/
def settle (n t : Nat) (s : State) : State :=
  let o := outOf s n
  let on := flag s (F.OUT_STAT_ACTUAL_ON n)
  let s :=
    if !flag s (F.OUT_STAT_CMD_ON n) then actualOff n t s
    else if 76 ≤ n then (if otherHold s n then actualOff n t s else if on then s else actualOn n t s)
    else if o.latched || o.thermal.isSome || feedHeld s n || o.pauseEnd.isSome || otherHold s n then actualOff n t s
    else if on then s
    else if pulseHot s n || !admitted s n t then
      match o.deferral with
      | some _ => s
      | none => setOut n { o with deferral := some ⟨t, !pulseHot s n⟩ } s
    else judgeLater n t (actualOn n t s)
  notePstate n s

/-- A period of output n's carrier is due at MTIME g on the clock grid. While the pulse class defers turn-ons the counter
holds at its start (R353); a carrier that is on runs on through it, since a channel that is on is not switched off (R351).
DEDUCED, log entry 110. -/
def beginPeriod (n g : Nat) (s : State) : State :=
  let c := settleFall (edgeAt s n g - 1) (carrierOf s n)
  if pulseHot s n && decide (n < 76) && !c.high then
    let s := setCarrier n { c with start := g, reload := g, started := false, delay := 0 } s
    if flag s (F.OUT_STAT_ACTUAL_ON n) then
      let s := actualOff n (edgeAt s n g) s
      notePstate n (setOut n { outOf s n with deferral := some ⟨edgeAt s n g, false⟩ } s)
    else s
  else
    let first := !c.started
    onlyIf first (respread (n / 8)) (reloadPeriod n g s)

/-- The drives of an H-bridge end as it enters brake at MTIME t (R342, R343). -/
def enterBrake (n t : Nat) (s : State) : State :=
  if !braking s n then s
  else forAll (fun m s => setOut m { outOf s m with drives := cutDrive (target s m t) (outOf s m).drives } s) [n, partner n] s
/-- An H-bridge leaves brake at MTIME t: the carrier of output n, if it is on, drives again (R343). -/
def leaveBrake (n t : Nat) (s : State) : State :=
  let o := outOf s n
  if !o.car.high then s
  else setOut n { o with drives := ⟨target s n t, match o.pulseEnd with | some u => some u | none => o.car.fallAt⟩ :: o.drives.take 1 } s

/-- The end of the reversal gap that a turn-on of output n at MTIME t has to wait for (R343): REV_GAP after the other
direction went off. -/
def reversalGap (s : State) (n t : Nat) : Option Nat :=
  let p := partner n
  if !isBridge s n || flag s (F.OUT_STAT_CMD_ON p) then none
  else match (outOf s p).offAt with
    | none => none
    | some u =>
      let e := u + ms * fget s (F.CH_CFG_REV_GAP n)
      if t < e then some e else none

/-- Output n is commanded ON at MTIME t by an ON, a PULSE or a posture; the drive is what d makes of it. -/
def engage (n t : Nat) (d : State → State) (s : State) : State :=
  let again := flag s (F.OUT_STAT_CMD_ON n)
  let o := outOf s n
  let gap := if again then o.gapEnd else reversalGap s n t
  let s := setOut n { o with gapEnd := gap, pulseEnd := none, tail := none, posture := false, safeLines := none } s
  settle n t (enterBrake n t (d (fset s (F.OUT_STAT_CMD_ON n) 1)))

/-- An ON takes effect on output n at MTIME t (R284, R372): its carrier starts, at once where no phase offset delays it.
An ON that ends a PULSE starts the carrier too. DEDUCED, log entry 109. -/
def startOn (n t : Nat) (s : State) : State :=
  let s := engage n t (scheduleCarrier n t) s
  let c := carrierOf s n
  let now := flag s (F.PWM_STAT_CARRIER n) && decide (c.reload = 64 * (t / 64))
  respread (n / 8) (onlyIf now (beginPeriod n c.reload) s)

/-- The commanded state of output n becomes ON at MTIME t (R284): an ON to an output that runs its drive already changes
nothing (R372). -/
def commandOn (n t : Nat) (s : State) : State :=
  let o := outOf s n
  if flag s (F.OUT_STAT_CMD_ON n) && o.pulseEnd.isNone && o.safeLines.isNone then s else startOn n t s

/-- Whether an MTIME lies in the ACT cycle of MTIME t. -/
def sameCycle (t : Nat) : Option Nat → Bool
  | some u => decide (u / 64 = t / 64)
  | none => false

/-- The commanded state of output n becomes OFF at MTIME t (R284, R358, R363, R372). A reversal by
two events of one cycle passes through off for the gap of the output that turned on (R343). -/
def commandOff (n t : Nat) (s : State) : State :=
  if !flag s (F.OUT_STAT_CMD_ON n) then s
  else
    let s := if (outOf s n).deferral.isSome then
        setOut n { outOf s n with deferral := none } (fset (countDeferral n t s) (F.CH_STAT_DEFER_CANCEL n) 1)
      else s
    let o := outOf s n
    let wasOn := flag s (F.OUT_STAT_ACTUAL_ON n)
    let p := partner n
    let wasBrake := braking s n
    let s := setOut n { o with pulseEnd := none, gapEnd := none, openPulse := false, safeLines := none,
                               pauseEnd := if sameCycle t o.tripAt then none else o.pauseEnd } s
    let s := settle n t (stopCarrier n t (fset s (F.OUT_STAT_CMD_ON n) 0))
    let s := setOut n { outOf s n with tail := if wasOn then some (target s n t) else none } s
    let s := onlyIf wasBrake (leaveBrake p t) s
    let rev := wasBrake && flag s (F.OUT_STAT_ACTUAL_ON p) && turnedOnAt s p t
    let s := if rev then settle p t (setOut p { outOf s p with gapEnd := some (t + ms * fget s (F.CH_CFG_REV_GAP p)) } s) else s
    respread (n / 8) s

/-- Drive output n's line for a PULSE from MTIME t to MTIME e (R373): its carrier stops. -/
def drivePulse (n t e : Nat) (s : State) : State :=
  let s := driveSteady n t (some e) s
  takePath n (fset (setOut n { outOf s n with pulseEnd := some e } s) (F.PWM_STAT_CARRIER n) 0)

/-- A PULSE of length l fires at MTIME t (R373, R376, R378). -/
def commandPulse (n t l : Nat) (s : State) : State :=
  let s := takePathIdle n s
  let fb := onFallback s n
  let m := 64 * fget s F.PWM_GLOBAL_FB_MIN
  let l := if fb then 64 * (l / 64) else l
  let short := if fb then decide (2 * l < m) else decide (l ≤ delaySum s n)
  if l = 0 then commandOff n t s
  else if short then commandOff n t (countDrop n s)
  else
    let s := onlyIf (fb && decide (l < m)) (fun s => fsat s (F.PWM_STRETCH_COUNT n) 1) s
    let e := target s n t + (if fb then max l m else l)
    respread (n / 8) (engage n t (drivePulse n t e) s)

/-- The pause that follows the present one, doubled up to CAP (R348), in ms. -/
def nextPauseAfter (s : State) (n p : Nat) : Nat := min (2 * p) (100 * fget s (F.CH_RETRY_CAP n))

/-- The first pause, in ms. -/
def firstPause (s : State) (n : Nat) : Nat := fget s (F.CH_RETRY_PAUSE n)

/-- The applied limit of output n (R347). -/
def appliedLimit (s : State) (n : Nat) : Nat :=
  if (outOf s n).inrushEnd.isSome then fget s (F.CH_LIMIT_INRUSH_LIM n) else fget s (F.CH_LIMIT_PEAK n)

/-- The try count and the pause that a trip of output n at MTIME t starts from: those before an UNLATCH of the same ACT
cycle, which leaves a latching trip latched (R350). -/
def triesBefore (s : State) (n t : Nat) : Nat × Nat :=
  let o := outOf s n
  match o.cleared with
  | some (u, k, p) => if u / 64 = t / 64 then (k, p) else (fget s (F.CH_STAT_TRY n), o.nextPause)
  | none => (fget s (F.CH_STAT_TRY n), o.nextPause)

/-- Count a trip of output n at MTIME t (R348 to R350): pause, or latch at the TRIES-th. The pause of an output that was
commanded OFF in the same cycle ends at once (R363). -/
def countTrip (n t : Nat) (s : State) : State :=
  let lim := appliedLimit s n
  let b := triesBefore s n t
  let try' := min 15 (b.1 + 1)
  let s := fset (fset (fsat s (F.CH_TRIPCNT_COUNT n) 1) (F.CH_STAT_TRIP n) 1) (F.CH_STAT_TRY n) try'
  let s := endCaptureEarly n s
  let o := outOf s n
  let s := if fget s (F.CH_RETRY_TRIES n) ≤ try' then
      raise 4 1 n .latch [n, lim, try'] (raise 2 1 n .trip [n, lim, try']
        (setOut n { o with latched := true, tripAt := some t } s))
    else
      let p := if b.2 = 0 then firstPause s n else b.2
      let e := if flag s (F.OUT_STAT_CMD_ON n) then some (t + ms * p) else none
      raise 2 1 n .trip [n, lim, try']
        (setOut n { o with pauseEnd := e, nextPause := nextPauseAfter s n p, tripAt := some t } s)
  settle n t s

/-- Whether a trip of output n at MTIME t counts (R347, R363): the channel is on, or went off in the same ACT cycle by an
OFF, its feed or a thermal shutdown. -/
def tripCounts (s : State) (n t : Nat) : Bool :=
  flag s (F.OUT_STAT_ACTUAL_ON n) || (sameCycle t (outOf s n).offAt && !sameCycle t (outOf s n).tripAt)

/-- CHANNEL_TRIP of output n (R347, R343). A trip of an H-bridge turns both half-bridges off; in brake it is counted on
both. -/
def channelTrip (n : Nat) (s : State) : State :=
  let t := s.mtime
  if isBridge s n then
    let p := partner n
    let own := tripCounts s n t
    let other := tripCounts s p t
    onlyIf other (countTrip p t) (onlyIf own (countTrip n t) s)
  else if tripCounts s n t && decide (n < 76) then countTrip n t s
  else s

/-- RETRY_PAUSE_END of output n (R348). -/
def retryPauseEnd (n : Nat) (s : State) : State :=
  match (outOf s n).pauseEnd with
  | none => s
  | some t =>
    let s := atTime t s
    settle n s.mtime (setOut n { outOf s n with pauseEnd := none } s)

/-- The try count and the pause length return to their starting values (R349). -/
def resetTries (n : Nat) (s : State) : State :=
  setOut n { outOf s n with nextPause := 0 } (fset s (F.CH_STAT_TRY n) 0)

/-- TRY_COUNT_RESET of output n after 1 s of uninterrupted actual ON without a trip (R349). -/
def tryCountReset (n : Nat) (s : State) : State :=
  match (outOf s n).onSince with
  | none => s
  | some t => resetTries n (atTime (t + sec) s)

/-- UNLATCH of output n (R350, R351): in the ACT cycle of a latching trip the channel stays latched. A thermal latch ends; the channel stays off until its junction
has fallen to 140 °C (DEDUCED, log entry 12). -/
def unlatch (n : Nat) (s : State) : State :=
  let o := outOf s n
  let stays := o.latched && sameCycle s.mtime o.tripAt
  let cool := decide (fget s (F.CH_MEAS_TJ n) ≤ 140 + 64)
  let th := match o.thermal with
    | some .steadyLatched => if cool then none else some .steady
    | x => x
  if stays then settle n s.mtime (setOut n { o with thermal := th } s)
  else
    let cl := some (s.mtime, fget s (F.CH_STAT_TRY n), o.nextPause)
    settle n s.mtime (resetTries n (setOut n { o with latched := false, thermal := th, cleared := cl } s))

/-- INRUSH_WINDOW_END of output n (R346): the applied limit becomes PEAK. -/
def inrushWindowEnd (n : Nat) (s : State) : State :=
  match (outOf s n).inrushEnd with
  | none => s
  | some t =>
    let s := atTime t s
    notePstate n (setOut n { outOf s n with inrushEnd := none } s)

/-- THERMAL_SHUTDOWN of output n (R351, R352): at 175 °C, or in the steady class at 165 °C. THERM_LATCH latches the
steady class's own limit; a shutdown at 175 °C ends at 140 °C all the same (R362). -/
def thermalShutdown (n : Nat) (hot : Bool) (s : State) : State :=
  if 76 ≤ n ∨ (flag s (F.CH_CFG_THERM_CLASS n) ∧ !hot) ∨ (outOf s n).thermal.isSome then s
  else
    let kind : Thermal := if hot then .hot else if flag s (F.CH_CFG_THERM_LATCH n) then .steadyLatched else .steady
    let s := endCaptureEarly n (fset s (F.CH_STAT_THERM n) 1)
    let s := raise 3 1 n .thermal [n, if hot then 175 else 165] s
    settle n s.mtime (setOut n { outOf s n with thermal := some kind } s)

/-- THERMAL_RECOVERY of output n: the junction has fallen to 140 °C (R351, R352). -/
def thermalRecovery (n : Nat) (s : State) : State :=
  let o := outOf s n
  match o.thermal with
  | some .steady => settle n s.mtime (setOut n { o with thermal := none } s)
  | some .hot => settle n s.mtime (setOut n { o with thermal := none } s)
  | _ => s

/-- PULSE_DEFERRAL_END of output n: the difference has fallen to PULSE_DT − 20 K (R353). A carrier whose counter was
held at its start runs on from here; one whose first period start still lies ahead waits for it. -/
def pulseDeferralEnd (n : Nat) (s : State) : State :=
  if !(outOf s n).hotPulse then s
  else
    let s := setOut n { outOf s n with hotPulse := false } (fset s (F.CH_MEAS_DT n) (fget s (F.CH_CFG_PULSE_DT n) - 20))
    let s := settle n s.mtime s
    let c := carrierOf s n
    let held := flag s (F.PWM_STAT_CARRIER n) && !c.started && decide (c.reload ≤ s.mtime)
    onlyIf held (beginPeriod n (64 * (s.mtime / 64))) s

/-- BUDGET_ADMISSION of output n: a deferred turn-on is admitted (R355, R357). -/
def budgetAdmission (n : Nat) (s : State) : State :=
  if (outOf s n).deferral.isSome then settle n s.mtime s else s

/-- REVERSAL_GAP_END of output n (R343). -/
def reversalGapEnd (n : Nat) (s : State) : State :=
  match (outOf s n).gapEnd with
  | none => s
  | some t =>
    let s := atTime t s
    settle n s.mtime (setOut n { outOf s n with gapEnd := none } s)

/-- LP_SHORT on logic pair output n (R344). -/
def lpShort (n : Nat) (s : State) : State :=
  if n < 76 then s else raise 3 1 n .lpShort [n] (fset s (F.CH_STAT_LP_SHORT n) 1)

/-- CARRIER_RELOAD of output n (R368): the next period is due, on the path that is wanted. -/
def carrierReload (n : Nat) (s : State) : State :=
  let g := (carrierOf s n).reload
  if !flag s (F.PWM_STAT_CARRIER n) then s else beginPeriod n g (takePath n (atTime (edgeAt s n g) s))

/-- PULSE_END of output n (R373). -/
def pulseEnd (n : Nat) (s : State) : State :=
  match (outOf s n).pulseEnd with
  | none => s
  | some t => commandOff n (max t s.mtime) (atTime t s)

/-- The supply factor of output n from its feed's voltage, as a fraction (R359). -/
def supplyFactor (s : State) (n mv : Nat) : Nat × Nat :=
  match feedOfOut n with
  | none => (1, 1)
  | some f =>
    let v := fget s (F.FEED_CFG_VNOM f)
    match fget s (F.CH_CFG_COMP_LAW n) with
    | 1 => (v * v, mv * mv)
    | 2 => (v, mv)
    | _ => (1, 1)

/-- Note the measurement of output n (CH_MEAS); in the pulse class a difference at PULSE_DT starts
deferring turn-ons (R351). -/
def noteMeas (n : Nat) (m : ChanMeas) (s : State) : State :=
  let s := fset (fset (fset s (F.CH_MEAS_CUR n) (min m.cur 0xFFFF)) (F.CH_MEAS_TJ n) (min m.tj 255)) (F.CH_MEAS_DT n) (min m.dt 255)
  if fget s (F.CH_CFG_PULSE_DT n) ≤ m.dt then setOut n { outOf s n with hotPulse := true } s else s

/-- SUPPLY_COMP_UPDATE of feed f every 100 µs (R359): the averaged voltage and the channels'
measurements are noted, and unless the feed is frozen every factor is recomputed. -/
def supplyCompUpdate (f mv : Nat) (ms' : List ChanMeas) (s : State) : State :=
  let s := fset s (F.FEED_STAT_MV f) (min mv 0xFFFF)
  let chans := outsOfFeed f
  let s := forAll (fun nm s => noteMeas nm.1 nm.2 s) (chans.zip ms') s
  let s := fset s (F.FEED_CUR_MA f) (min 0xFFFF (ms'.map (·.cur)).sum)
  if flag s (F.FEED_STAT_FROZEN f) then s
  else forAll (fun n s =>
    let k := supplyFactor s n mv
    applyDuty n s.mtime (setOut n { outOf s n with kNum := k.1, kDen := k.2 } s)) chans s

/-- COMPENSATION_FREEZE of feed f (R360): the captures that run on it end early (R295), and with them an opening pulse
(R296). -/
def compensationFreeze (f : Nat) (s : State) : State :=
  let again := flag s (F.FEED_STAT_FROZEN f)
  let s := setFeed f { feedOf s f with freezeEnd := some (s.mtime + ms) } s
  if again then s
  else
    let s := fset (fset s (F.FEED_STAT_FROZEN f) 1) (F.FEED_STAT_FREEZE_SEEN f) 1
    let s := raise 1 3 f .freeze [f] s
    forAll (fun n s => applyDuty n s.mtime (endCaptureEarly n s)) (outsOfFeed f) s

/-- COMPENSATION_FREEZE_END of feed f (R360): no such fall for 1 ms. -/
def compensationFreezeEnd (f : Nat) (s : State) : State :=
  match (feedOf s f).freezeEnd with
  | none => s
  | some t => setFeed f { feedOf s f with freezeEnd := none } (fset (atTime t s) (F.FEED_STAT_FROZEN f) 0)

/-- FEED_UNDERVOLTAGE_ENTRY of feed f (R63 to R65): its channels are held off, one record. -/
def feedUvEntry (f : Nat) (reversed : Bool) (s : State) : State :=
  let s := fbool s (F.FEED_STAT_REVERSED f) reversed
  if flag s (F.FEED_STAT_UV f) then s
  else
    let s := fset (fset (fsat s (F.FEED_UVCNT_COUNT f) 1) (F.FEED_STAT_UV_SEEN f) 1) (F.FEED_STAT_UV f) 1
    let s := setFeed f { feedOf s f with stagger := [] } (raise 3 3 f .feedUv [f] s)
    forAll (fun n s => settle n s.mtime (endCaptureEarly n s)) (outsOfFeed f) s

/-- Hold the channels of a list that are commanded ON for their staggered turn-on, and let the
others go (R63). -/
def holdForStagger (k : Nat) (ns : List Nat) (s : State) : State :=
  let want := ns.filter (fun n => flag s (F.OUT_STAT_CMD_ON n))
  let s := forAll (fun n s => setOut n { outOf s n with feedHeld := want.contains n } s) ns s
  let s := setFeed k { feedOf s k with stagger := want, staggerAt := s.mtime } s
  forAll notePstate ns s

/-- FEED_UNDERVOLTAGE_EXIT of feed f: 1 ms at 7.5 V or more (R63). -/
def feedUvExit (f : Nat) (s : State) : State :=
  if !flag s (F.FEED_STAT_UV f) then s
  else holdForStagger f (outsOfFeed f) (fset (fset s (F.FEED_STAT_UV f) 0) (F.FEED_STAT_REVERSED f) 0)

/-- STAGGERED_TURN_ON: the next waiting channel of feed k, or of a ground-loss return (k = 10),
turns on; the next follows 100 µs later (R63, R68). -/
def staggeredTurnOn (k : Nat) (s : State) : State :=
  let x := feedOf s k
  match x.stagger with
  | [] => s
  | n :: ns =>
    let s := atTime x.staggerAt s
    let s := setFeed k { x with stagger := ns, staggerAt := x.staggerAt + 100 * us } s
    settle n s.mtime (setOut n { outOf s n with feedHeld := false } s)

/-- GROUND_LOSS (R68): every half-bridge and high-side channel goes off, commanded states kept. -/
def groundLoss (s : State) : State :=
  if s.sup.groundLost then s
  else
    let s := raise 4 15 4 .groundLoss [] { s with sup := { s.sup with groundLost := true } }
    forAll (fun n s => settle n s.mtime (endCaptureEarly n s)) (List.range 76) s

/-- GROUND_LOSS_END (R68): the channels return in the staggered order. -/
def groundLossEnd (s : State) : State :=
  if !s.sup.groundLost then s
  else holdForStagger 10 (List.range 76) { s with sup := { s.sup with groundLost := false } }

/-- The SAFE posture of an H-bridge (R364): brake, both outputs commanded ON at once. -/
def brakeBridge (n t : Nat) (s : State) : State :=
  let runs (m : Nat) : Bool := flag s (F.OUT_STAT_CMD_ON m) && (outOf s m).pulseEnd.isNone
  let pair := [n, partner n]
  let s := forAll (fun m s => fset (setOut m { outOf s m with gapEnd := none } s) (F.OUT_STAT_CMD_ON m) 1) pair s
  let s := enterBrake n t s
  forAll (fun m s => if runs m then settle m t s else startOn m t s) pair s

/-- The output takes its posture (R364), and stays so until it is disarmed or armed again (R365): a PULSE no longer ends
it. Where the two outputs of an H-bridge have unlike postures, brake holds both. DESIGN CHOICE, log entry 111. -/
def takePosture (n : Nat) (s : State) : State :=
  let duty := fget s (F.CH_CFG_SAFE_DUTY n)
  let t := s.mtime
  let p := partner n
  let braked := isBridge s n && decide (fget s (F.CH_CFG_POSTURE p) = 2) && (outOf s p).posture
  let s := match fget s (F.CH_CFG_POSTURE n) with
    | 0 => if braked then s else commandOff n t s
    | 1 => setOut n { outOf s n with pulseEnd := none } s
    | _ =>
      if 76 ≤ n then
        let s := fset (endDrive n t (fset s (F.PWM_STAT_CARRIER n) 0)) (F.OUT_STAT_CMD_ON n) 1
        settle n t (setOut n { outOf s n with pulseEnd := none, safeLines := some (duty % 2 = 1, duty / 2 % 2 = 1) } s)
      else if isBridge s n then brakeBridge n t s
      else if duty = 0 then commandOff n t s
      else if duty = 255 then commandOn n t (setPeriod n t 0 s)
      else
        let base := roundOpen (duty * 2 ^ 32) 255
        commandOn n t (applyDuty n t (fset s (F.PWM_DUTY_BASE n) (min base fullDuty)))
  setOut n { outOf s n with posture := true } s

/-- Discard the events that Qn still holds, counting them (R288). -/
def discardPending (n : Nat) (s : State) : State :=
  let k := (outOf s n).evq.length
  let s := countFinal n (2 * k) (fsat s (F.OUT_DISCNT_DISCARD n) k)
  setOut n { outOf s n with evq := [] } s

/-- Disarm output n by its posture (R224, R365): not taken off. -/
def disarmByPosture (n : Nat) (s : State) : State :=
  let s := discardPending n (fset s (F.OUT_STAT_ARMED n) 0)
  takePosture n (setOut n { outOf s n with holds := [] } s)

/-- Disarm output n: off at once, every queued event discarded (R25). -/
def disarmOut (n : Nat) (s : State) : State :=
  let s := discardPending n (fset s (F.OUT_STAT_ARMED n) 0)
  let s := commandOff n s.mtime s
  setOut n { outOf s n with posture := false, safeLines := none, holds := [] } s

/-- The local outputs go off at once, with no window (R42, R559). -/
def allOff (s : State) : State :=
  forAll (fun n s => commandOff n s.mtime s) (List.range 84) s

/-- LATENCY_MEASUREMENT of output n: the dip or bump of its capture has ended (R297, R298). -/
def latencyMeasurement (n : Nat) (samples : List Nat) (s : State) : State :=
  match (outOf s n).cap with
  | none => s
  | some c =>
    if c.measured then s
    else
      let thr := if c.isOn then fget s (F.OUT_LEARN_DIP_THR n) else fget s (F.OUT_LEARN_BUMP_THR n)
      match arrival samples c.isOn thr (fget s (F.OUT_LEARN_CAP_DELAY n)) with
      | none => s
      | some m =>
        let s := judgeMeas n c.isOn m s
        let o := outOf s n
        applyDuty n s.mtime (setOut n { o with cap := some { c with measured := true }, openPulse := false } s)

/-- CAPTURE_END of output n: the window has ended (R295, R297, R367). -/
def captureEnd (n : Nat) (samples : List Nat) (s : State) : State :=
  match (outOf s n).cap with
  | none => s
  | some c =>
    let begin := c.switched + ms * fget s (F.OUT_LEARN_CAP_DELAY n)
    let s := atTime (begin + 250 * ms) (latencyMeasurement n samples s)
    let made := match (outOf s n).cap with | some c => c.measured | none => false
    let s := if made then s else rejectMeas n c.isOn 2 0 s
    let res := if c.isOn then fget s (F.OUT_MEAS_ON_RES n) else fget s (F.OUT_MEAS_OFF_RES n)
    applyDuty n s.mtime (setOut n
      { outOf s n with cap := none, openPulse := false, lastCap := some ⟨c.isOn, res, samples.take 5000, begin⟩ } s)

/-- A write to CAP_SEL takes the read copy (R367). -/
def takeReadCopy (n : Nat) (s : State) : State :=
  let s := { s with readCap := (outOf s n).lastCap }
  match s.readCap with
  | none => fset s F.CAP_STAT_VALID 0
  | some c =>
    let s := fset (fbool (fset s F.CAP_STAT_VALID 1) F.CAP_STAT_DIR c.isOn) F.CAP_STAT_RES c.res
    let s := fset s F.CAP_STAT_POINTS c.points.length
    wr (wr s A.CAP_T_LO (loWord c.time)) A.CAP_T_HI (hiWord c.time)

/-- The word of CAP_WIN at index i: points 2i and 2i + 1 of the read copy. -/
def capWord (s : State) (i : Nat) : Word :=
  match s.readCap with
  | none => 0
  | some c => BitVec.ofNat 32 (min 0xFFFF (c.points.getD (2 * i) 0) + 0x10000 * min 0xFFFF (c.points.getD (2 * i + 1) 0))

/-- PULSE_END of output n (R373). -/
def execPulseEnd (n : OutId) (s : State) : Outcome := live (pulseEnd n) s
/-- LATENCY_MEASUREMENT of output n: the samples since the capture's start (R297, R298). -/
def execLatencyMeasurement (n : OutId) (samples : List Nat) (s : State) : Outcome := live (latencyMeasurement n samples) s
/-- CAPTURE_END of output n (R295, R367). -/
def execCaptureEnd (n : OutId) (samples : List Nat) (s : State) : Outcome := live (captureEnd n samples) s
/-- HELD_ITEM_ENTRY of queue q (R329). -/
def execHeldItemEntry (q : QId) (s : State) : Outcome := live (enterHeld q) s
/-- CHANNEL_TRIP of output n (R346 to R348). -/
def execChannelTrip (n : OutId) (s : State) : Outcome := live (channelTrip n) s
/-- RETRY_PAUSE_END of output n (R348). -/
def execRetryPauseEnd (n : OutId) (s : State) : Outcome := live (retryPauseEnd n) s
/-- TRY_COUNT_RESET of output n (R349). -/
def execTryCountReset (n : OutId) (s : State) : Outcome := live (tryCountReset n) s
/-- INRUSH_WINDOW_END of output n (R346). -/
def execInrushWindowEnd (n : OutId) (s : State) : Outcome := live (inrushWindowEnd n) s
/-- THERMAL_SHUTDOWN of output n, at 175 °C or at 165 °C (R351, R352). -/
def execThermalShutdown (n : OutId) (hot : Bool) (s : State) : Outcome := live (thermalShutdown n hot) s
/-- THERMAL_RECOVERY of output n (R351). -/
def execThermalRecovery (n : OutId) (s : State) : Outcome := live (thermalRecovery n) s
/-- PULSE_DEFERRAL_END of output n (R353). -/
def execPulseDeferralEnd (n : OutId) (s : State) : Outcome := live (pulseDeferralEnd n) s
/-- BUDGET_ADMISSION of output n (R357). -/
def execBudgetAdmission (n : OutId) (s : State) : Outcome := live (budgetAdmission n) s
/-- REVERSAL_GAP_END of output n (R343). -/
def execReversalGapEnd (n : OutId) (s : State) : Outcome := live (reversalGapEnd n) s
/-- LP_SHORT on output n (R344). -/
def execLpShort (n : OutId) (s : State) : Outcome := live (lpShort n) s
/-- SUPPLY_COMP_UPDATE of feed f: its averaged voltage, and its channels' measurements (R359). -/
def execSupplyCompUpdate (f : FeedId) (mv : BitVec 16) (meas : List ChanMeas) (s : State) : Outcome :=
  live (supplyCompUpdate f mv.toNat meas) s
/-- COMPENSATION_FREEZE of feed f (R360). -/
def execCompensationFreeze (f : FeedId) (s : State) : Outcome := live (compensationFreeze f) s
/-- COMPENSATION_FREEZE_END of feed f (R360). -/
def execCompensationFreezeEnd (f : FeedId) (s : State) : Outcome := live (compensationFreezeEnd f) s
/-- FEED_UNDERVOLTAGE_ENTRY of feed f, reversed or not (R63, R65). -/
def execFeedUndervoltageEntry (f : FeedId) (reversed : Bool) (s : State) : Outcome := live (feedUvEntry f reversed) s
/-- FEED_UNDERVOLTAGE_EXIT of feed f (R63). -/
def execFeedUndervoltageExit (f : FeedId) (s : State) : Outcome := live (feedUvExit f) s
/-- STAGGERED_TURN_ON of feed k, or for k = 10 of a ground-loss return (R63, R68). -/
def execStaggeredTurnOn (k : Fin 11) (s : State) : Outcome := live (staggeredTurnOn k) s
/-- GROUND_LOSS (R68). -/
def execGroundLoss (s : State) : Outcome := live groundLoss s
/-- GROUND_LOSS_END (R68). -/
def execGroundLossEnd (s : State) : Outcome := live groundLossEnd s
/-- CARRIER_RELOAD of output n (R368). -/
def execCarrierReload (n : OutId) (s : State) : Outcome := live (carrierReload n) s
/-- CARRIER_FALL of output n (R371). -/
def execCarrierFall (n : OutId) (s : State) : Outcome := live (carrierFall n) s

end Sys2Proof.Machine
end

