-- ==== Sys2Proof/Machine/Actuation.lean ====
section
/-! DEFINITION. Timed actuation: the distributor, placement, lateness and order, HOLD, firing, learned
latencies (R284 to R294, R299). -/
namespace Sys2Proof.Machine

/-- The action of an action code (R190). -/
def actionOf : Nat → Option Action
  | 1 => some .on
  | 2 => some .off
  | 3 => some .duty
  | 4 => some .period
  | 5 => some .phase
  | 6 => some .pulse
  | 7 => some .hold
  | _ => none

/-- The code of an action (R190). -/
def Action.code : Action → Nat
  | .on => 1
  | .off => 2
  | .duty => 3
  | .period => 4
  | .phase => 5
  | .pulse => 6
  | .hold => 7

/-- The event at the head of Q84: its output, target, action and value, from the two words of its
packet (R286). -/
def headEvent (s : State) : Option (Nat × Nat × Action × Nat) :=
  match headPacket (queueOf s 84).slots with
  | [w0, w1] =>
    match actionOf (w1.toNat / 2 ^ 52 % 16) with
    | some a => some (w1.toNat / 2 ^ 56, w0.toNat, a, w1.toNat % 2 ^ 32)
    | none => none
  | _ => none

/-- The firing time of the head event e of an output's queue (R289 to R291), and whether it counts as
late only because its predecessor held it back. -/
def fireTime (o : Out) (e : ActEvent) : Nat × Bool :=
  if e.order then (nextCycle o.lastFire, false)
  else if e.late then (max ((e.placed / 64 + 2) * 64) (if e.placed ≤ o.lastFire then nextCycle o.lastFire else 0), false)
  else if e.placed ≤ o.lastFire ∧ e.target < o.lastFire then
    if e.target / 64 = o.lastFire / 64 then (o.lastFire, false) else (nextCycle o.lastFire, true)
  else (e.target, false)

/-- Set LATE and count it (R289). -/
def markLate (n : Nat) (s : State) : State := fsat (fset s (F.OUT_STAT_LATE n) 1) (F.OUT_EVCNT_LATE n) 1

/-- Place an event at the tail of Qn, judging it late or out of order (R289, R290). The placement falls in an ACT cycle, at
whose start on the clock grid it is judged. -/
def placeEvent (n target : Nat) (a : Action) (v : Nat) (s : State) : State :=
  let o := outOf s n
  let late := decide (target < (s.mtime / 64 + 2) * 64)
  let order := match o.evq.getLast? with
    | some p => decide (target < p.target)
    | none => false
  let s := setOut n { o with evq := o.evq ++ [⟨target, a, v, s.mtime, late, order⟩] } s
  let s := countCommit n 2 s
  let s := onlyIf late (markLate n) s
  onlyIf order (fun s => fsat (fset s (F.OUT_STAT_ORDER n) 1) (F.OUT_EVCNT_ORDER n) 1) s

/-- Whether a HOLD selects an event (R292): target at or after the HOLD's, action in the mask. -/
def holdSelects (target mask : Nat) (e : ActEvent) : Bool :=
  decide (target ≤ e.target) && (decide (mask / 2 % 128 = 0) || decide (mask / 2 ^ e.action.code % 2 = 1))

/-- A firing: its time, whether it counts as late only because its predecessor held it back, its event. -/
structure Firing where
  time : Nat
  heldBack : Bool
  ev : ActEvent
deriving DecidableEq, Repr

/-- The events at the head of an output's queue that fire in ACT cycle c, in queue order (R291). -/
def firingsIn (o : Out) (c : Nat) : List ActEvent → List Firing
  | [] => []
  | e :: es =>
    let f := fireTime o e
    if f.1 / 64 = c then ⟨f.1, f.2, e⟩ :: firingsIn { o with lastFire := f.1 } c es else []

/-- The events that a HOLD at MTIME t leaves, the number withdrawn, and whether one that fires in
this ACT cycle was met (R292, R293). -/
def withdraw (o : Out) (target mask t : Nat) : List ActEvent × Nat × Bool :=
  let k := (firingsIn o (t / 64) o.evq).length
  let keep := o.evq.take k ++ (o.evq.drop k).filter (fun e => !holdSelects target mask e)
  (keep, o.evq.length - keep.length, (o.evq.take k).any (holdSelects target mask))

/-- An out-of-order event whose predecessors were all withdrawn waits for nothing: it fires at its
target, or in the next ACT cycle as late if that has passed (R290). -/
def releaseHead (t : Nat) : List ActEvent → List ActEvent × Bool
  | [] => ([], false)
  | e :: es =>
    if !e.order then (e :: es, false)
    else if e.target < t then ({ e with order := false, late := true, placed := t - 64 } :: es, !e.late)
    else ({ e with order := false, late := false } :: es, false)

/-- A HOLD for an armed output n acts (R292, R293). -/
def actHold (n target mask : Nat) (s : State) : State :=
  let o := outOf s n
  let (keep, k, miss) := withdraw o target mask s.mtime
  let headGone := decide (k ≠ 0) && (keep.head? != o.evq.head?)
  let (keep, lateNow) := if headGone then releaseHead s.mtime keep else (keep, false)
  let s := countFinal n (2 * k) (setOut n { o with evq := keep } s)
  let s := fsat s (F.OUT_DISCNT_WITHDRAWN n) k
  let s := onlyIf lateNow (markLate n) s
  onlyIf miss (fun s => fset s (F.OUT_STAT_HOLD_MISS n) 1) s

/-- The event at the head of Q84 leaves it; the distributor does not wait. -/
def takeHead (s : State) : State := fset (popHead 84 2 s) F.ACT_DIST_STAT_STALLED 0

/-- Discard an event for an output that is not armed (R288). -/
def discardEvent (n : Nat) (s : State) : State :=
  fsat (fset (takeHead s) (F.OUT_STAT_DISCARD n) 1) (F.OUT_DISCNT_DISCARD n) 1

/-- The distributor waits with the event at the head of Q84 for room in Qn (R287, R338): each wait is counted once. A
full that Jasper forces is judged anew at the next try. -/
def stallDistributor (n : Nat) (s : State) : State :=
  let s := fset { s with freeCtr := s.freeCtr + 1 } (F.QSTAT_BP_SEEN n) 1
  if flag s F.ACT_DIST_STAT_STALLED then s
  else fsat (fset s F.ACT_DIST_STAT_STALLED 1) F.ACT_DIST_STALL_COUNT 1

/-- EVENT_PLACEMENT (R286 to R288, R292): the distributor takes the event at the head of Q84. -/
def eventPlacement (s : State) : State :=
  match headEvent s with
  | none => s
  | some (n, target, a, v) =>
    if 84 ≤ n then takeHead s
    else if !armed s n then discardEvent n s
    else if a = .hold then actHold n target v (takeHead s)
    else if !fitsIn s n 2 then stallDistributor n s
    else placeEvent n target a v (takeHead s)

/-- HOLD: the placement of a HOLD event (R292). -/
def holdPlacement (s : State) : State :=
  match headEvent s with
  | some (_, _, .hold, _) => eventPlacement s
  | _ => s

/-- Account for the firings of one ACT cycle (R289 to R291): they leave Qn, and lateness counts. -/
def accountFirings (n : Nat) (fs : List Firing) (s : State) : State :=
  let o := outOf s n
  let last := match fs.getLast? with | some f => f.time | none => o.lastFire
  let s := countFinal n (2 * fs.length) (setOut n { o with evq := o.evq.drop fs.length, lastFire := last } s)
  forAll (fun f s =>
    let s := onlyIf f.heldBack (markLate n) s
    onlyIf (f.ev.late || f.heldBack) (fun s => fmax s (F.OUT_LATE_MAX_MAX n) ((f.time - f.ev.target) / 64)) s) fs s

/-- Whether an action changes the drive, not a value of the carrier. -/
def Action.drives : Action → Bool
  | .on | .off | .pulse => true
  | .duty | .period | .phase | .hold => false

/-- A value of the carrier takes effect at its firing (R284, R369, R379, R380). -/
def fireValue (n : Nat) (f : Firing) (s : State) : State :=
  match f.ev.action with
  | .duty => applyDuty n f.time (fset s (F.PWM_DUTY_BASE n) f.ev.value)
  | .period => setPeriod n f.time f.ev.value s
  | .phase => setPhase n f.ev.value s
  | .on | .off | .pulse | .hold => s

/-- A change of the drive takes effect at its firing (R284, R372, R373). again: an OFF or a PULSE of the same ACT cycle
comes before it, so an ON starts the carrier anew. -/
def fireDrive (n : Nat) (again : Bool) (f : Firing) (s : State) : State :=
  match f.ev.action with
  | .on => if again then startOn n f.time s else commandOn n f.time s
  | .off => commandOff n f.time s
  | .pulse => commandPulse n f.time f.ev.value s
  | .duty | .period | .phase | .hold => s

/-- The firings of one ACT cycle take effect together (R291, R381): the output takes the drive that the last change of it
leaves, with the values of the whole cycle, and the states in between make no edge. -/
def fireAll (n : Nat) (fs : List Firing) (s : State) : State :=
  let ds := fs.filter (fun f => f.ev.action.drives)
  let again := ds.dropLast.any (fun f => decide (f.ev.action ≠ .on))
  let values := forAll (fireValue n) (fs.filter (fun f => !f.ev.action.drives))
  match ds.getLast? with
  | none => values s
  | some d => if d.ev.action = .on then fireDrive n again d (values s) else values (fireDrive n again d s)

/-- The firing of the event at the head of output n's queue, if its action is a, with every event behind it that fires in
the same ACT cycle (R289 to R291). -/
def fireHead (n : Nat) (a : Action) (s : State) : State :=
  let o := outOf s n
  match o.evq with
  | [] => s
  | e :: es =>
    if e.action ≠ a then s
    else
      let t := (fireTime o e).1
      let fs := firingsIn o (t / 64) (e :: es)
      fireAll n fs (accountFirings n fs (atTime t s))

/-- ACTUATION_ON (R284). -/
def actuationOn (n : Nat) (s : State) : State := fireHead n .on s
/-- ACTUATION_OFF (R284). -/
def actuationOff (n : Nat) (s : State) : State := fireHead n .off s
/-- ACTUATION_DUTY (R284, R379): the base duty becomes the value. -/
def actuationDuty (n : Nat) (s : State) : State := fireHead n .duty s
/-- ACTUATION_PERIOD (R284, R379). -/
def actuationPeriod (n : Nat) (s : State) : State := fireHead n .period s
/-- ACTUATION_PHASE (R284, R380). -/
def actuationPhase (n : Nat) (s : State) : State := fireHead n .phase s
/-- ACTUATION_PULSE (R284, R373). -/
def actuationPulse (n : Nat) (s : State) : State := fireHead n .pulse s

/-- The addresses of the learned latencies of outputs and descriptors. -/
def latencyAddrs : List Nat :=
  (List.range 84).map (fun n => A.OUT_LAT n) ++ (List.range 428).map (fun d => A.REM_LAT d)

/-- LATENCY_STORE (R299): the learned values are in nonvolatile memory, with the outputs that were ever bound. -/
def latencyStore (s : State) : State :=
  { s with nv := { s.nv with latencies := s.regs.filter (fun p => latencyAddrs.contains p.1)
                             bound := (List.range 84).filter (fun n => (outOf s n).bound) } }

/-- What the RDLAT table holds of index i (R173): learned on- and off-latency and transit delay in
10 µs units; before the output is first bound, the initial values. Local outputs 0 to 83, remote
descriptors from 256 on. -/
def latenciesOf (s : State) (i : Nat) : Nat × Nat × Nat :=
  if i < 84 then
    let tr := fget s (F.OUT_TRANSIT_TRANSIT i)
    if (outOf s i).bound then (fget s (F.OUT_LAT_ON i), fget s (F.OUT_LAT_OFF i), tr)
    else (fget s (F.OUT_LATINIT_INIT_ON i), fget s (F.OUT_LATINIT_INIT_OFF i), tr)
  else if 256 ≤ i ∧ i < 684 then
    let d := i - 256
    let tr := fget s (F.REM_CFG_TRANSIT d)
    if flag s (F.REM_DESC_VALID d) then (fget s (F.REM_LAT_ON d), fget s (F.REM_LAT_OFF d), tr)
    else (fget s (F.REM_LATINIT_INIT_ON d), fget s (F.REM_LATINIT_INIT_OFF d), tr)
  else (0, 0, 0)

/-- The MTIME of the next refresh of the RDLAT table: a whole multiple of 1 ms (R173). -/
def nextRefresh (s : State) : Nat := (max s.mtime (s.leadsAt + 1) + ms - 1) / ms * ms

/-- LATENCY_TABLE_REFRESH (R173): the RDLAT table takes the values of that MTIME; the table before it may still be read
for 2 µs. -/
def latencyTableRefresh (s : State) : State :=
  let s := atTime (nextRefresh s) s
  let ix := (List.range 84) ++ (List.range 428).map (256 + ·)
  let now := ix.foldl (fun t i => tabSet (fun _ => (0, 0, 0)) t i (latenciesOf s i)) []
  { s with leads := now, leadsOld := if s.leadsAt = 0 then now else s.leads, leadsAt := s.mtime }

/-- What an RDLAT returns of index i with selector k (R173): the table's value, or within 2 µs of a
refresh possibly the one before, which of them being a free value. Before the first refresh the table holds what the
output stage starts with. -/
def rdlatValue (s : State) (i k : Nat) : Nat :=
  let old := decide (s.mtime < s.leadsAt + 2 * us) && decide (Config.free s.freeCtr % 2 = 1)
  let r := if s.leadsAt = 0 then latenciesOf s i
    else tabGet (fun _ => (0, 0, 0)) (if old then s.leadsOld else s.leads) i
  match k with
  | 0 => r.1 + r.2.2
  | 1 => r.2.1 + r.2.2
  | 2 => r.1
  | 3 => r.2.1
  | _ => r.2.2

/-- OUT_CTRLn.LATE_CLR (R289). -/
def lateClear (n : Nat) (s : State) : State := fset s (F.OUT_LATE_MAX_MAX n) 0

/-- OUT_LEARNn.RELEARN (R299): both learned values come from OUT_LATINITn. -/
def relearn (n : Nat) (s : State) : State :=
  fset (fset s (F.OUT_LAT_ON n) (fget s (F.OUT_LATINIT_INIT_ON n))) (F.OUT_LAT_OFF n) (fget s (F.OUT_LATINIT_INIT_OFF n))

/-- EVENT_PLACEMENT (R286 to R288). -/
def execEventPlacement (s : State) : Outcome := live eventPlacement s
/-- HOLD (R292). -/
def execHoldPlaced (s : State) : Outcome := live holdPlacement s
/-- ACTUATION_ON of output n (R284). -/
def execActuationOn (n : OutId) (s : State) : Outcome := live (actuationOn n) s
/-- ACTUATION_OFF of output n (R284). -/
def execActuationOff (n : OutId) (s : State) : Outcome := live (actuationOff n) s
/-- ACTUATION_DUTY of output n (R284). -/
def execActuationDuty (n : OutId) (s : State) : Outcome := live (actuationDuty n) s
/-- ACTUATION_PERIOD of output n (R284). -/
def execActuationPeriod (n : OutId) (s : State) : Outcome := live (actuationPeriod n) s
/-- ACTUATION_PHASE of output n (R284). -/
def execActuationPhase (n : OutId) (s : State) : Outcome := live (actuationPhase n) s
/-- ACTUATION_PULSE of output n (R284). -/
def execActuationPulse (n : OutId) (s : State) : Outcome := live (actuationPulse n) s
/-- LATENCY_STORE (R299). -/
def execLatencyStore (s : State) : Outcome := live latencyStore s
/-- LATENCY_TABLE_REFRESH (R173). -/
def execLatencyTableRefresh (s : State) : Outcome := live latencyTableRefresh s

end Sys2Proof.Machine
end

