-- ==== Sys2Proof/Machine/Crypto.lean ====
section
/-! DEFINITION. SHA-256, CRC-32C, CRC-24Q and the ECDSA check on P-256 that the spec names
(R237, R238, R278, R404, R566). -/
namespace Sys2Proof.Machine

/-- The largest x below 2^n with x^k at most v, over the multiples of 2^n from `low` on. -/
def rootFrom (k v : Nat) : Nat → Nat → Nat
  | 0, low => low
  | n + 1, low => rootFrom k v n (if (low + 2 ^ n) ^ k ≤ v then low + 2 ^ n else low)

/-- The first 32 bits of the fraction of the k-th root of p, for a root below 32. -/
def rootFraction (k p : Nat) : Word := BitVec.ofNat 32 (rootFrom k (p * 2 ^ (32 * k)) 37 0)

/-- The first 64 primes, as SHA-256 takes them. -/
def shaPrimes : List Nat :=
  [2, 3, 5, 7, 11, 13, 17, 19, 23, 29, 31, 37, 41, 43, 47, 53, 59, 61, 67, 71, 73, 79, 83, 89, 97, 101, 103, 107, 109, 113, 127, 131] ++
  [137, 139, 149, 151, 157, 163, 167, 173, 179, 181, 191, 193, 197, 199, 211, 223, 227, 229, 233, 239, 241, 251, 257, 263, 269, 271, 277, 281,
   283, 293, 307, 311]

/-- The round constants of SHA-256: the fractions of the cube roots of the primes. -/
def shaK : List Word := shaPrimes.map (rootFraction 3)

/-- The initial hash value of SHA-256: the fractions of the square roots of the first eight primes. -/
def shaInit : List Word := (shaPrimes.take 8).map (rootFraction 2)

/-- The n-th word of a list. -/
def nth (l : List Word) (i : Nat) : Word := l.getD i 0

/-- The first words of a message schedule lengthened by n words. The list is newest first. -/
def shaSchedule : Nat → List Word → List Word
  | 0, w => w
  | n + 1, w =>
    let x := nth w 1
    let y := nth w 14
    let s1 := x.rotateRight 17 ^^^ x.rotateRight 19 ^^^ (x >>> (10 : Nat))
    let s0 := y.rotateRight 7 ^^^ y.rotateRight 18 ^^^ (y >>> (3 : Nat))
    shaSchedule n ((nth w 15 + s0 + nth w 6 + s1) :: w)

/-- One round of SHA-256 with the sum of its constant and its schedule word. -/
def shaRound (h : List Word) (k : Word) : List Word :=
  let a := nth h 0
  let b := nth h 1
  let c := nth h 2
  let e := nth h 4
  let f := nth h 5
  let g := nth h 6
  let s1 := e.rotateRight 6 ^^^ e.rotateRight 11 ^^^ e.rotateRight 25
  let ch := (e &&& f) ^^^ (~~~e &&& g)
  let t1 := nth h 7 + s1 + ch + k
  let s0 := a.rotateRight 2 ^^^ a.rotateRight 13 ^^^ a.rotateRight 22
  let mj := (a &&& b) ^^^ (a &&& c) ^^^ (b &&& c)
  [t1 + s0 + mj, a, b, c, nth h 3 + t1, e, f, g]

/-- The big-endian word of four bytes. -/
def beWord (b : List Byte) : Word := BitVec.ofNat 32 (b.foldl (fun n x => n * 256 + x.toNat) 0)
/-- The four big-endian bytes of a word. -/
def wordBe (w : Word) : List Byte :=
  [w.extractLsb' 24 8, w.extractLsb' 16 8, w.extractLsb' 8 8, w.extractLsb' 0 8]

/-- Cut a list into n pieces of k. -/
def pieces {α : Type} (k : Nat) : Nat → List α → List (List α)
  | 0, _ => []
  | n + 1, l => l.take k :: pieces k n (l.drop k)

/-- One block of 64 bytes. -/
def shaBlock (h : List Word) (b : List Byte) : List Word :=
  let w := (shaSchedule 48 ((pieces 4 16 b).map beWord).reverse).reverse
  let r := ((shaK.zip w).map (fun p => p.1 + p.2)).foldl shaRound h
  (h.zip r).map (fun p => p.1 + p.2)

/-- The SHA-256 digest of a byte string. -/
def sha256 (m : List Byte) : List Byte :=
  let n := m.length
  let pad := List.replicate ((119 - n % 64) % 64) (0 : Byte)
  let len := wordBe (BitVec.ofNat 32 (8 * n / 2 ^ 32)) ++ wordBe (BitVec.ofNat 32 (8 * n))
  let msg := m ++ [0x80] ++ pad ++ len
  (((pieces 64 (msg.length / 64) msg).foldl shaBlock shaInit).map wordBe).flatten

/-- n steps of a reflected CRC with polynomial p. -/
def crcBits (p : Word) : Nat → Word → Word
  | 0, c => c
  | n + 1, c => crcBits p n (if c.getLsbD 0 then (c >>> (1 : Nat)) ^^^ p else c >>> (1 : Nat))

/-- A reflected 32-bit CRC of a byte string, all ones before and inverted after. -/
def crcReflected (p : Word) (m : List Byte) : Word :=
  ~~~(m.foldl (fun c b => crcBits p 8 (c ^^^ b.zeroExtend 32)) 0xFFFFFFFF)

/-- CRC-32C (Castagnoli). -/
def crc32c (m : List Byte) : Word := crcReflected 0x82F63B78 m

/-- n steps of CRC-24Q. -/
def crc24Bits : Nat → Nat → Nat
  | 0, c => c
  | n + 1, c => crc24Bits n (if 2 ^ 23 ≤ c then (2 * c ^^^ 0x1864CFB) % 2 ^ 24 else 2 * c)

/-- CRC-24Q of a byte string (R404). -/
def crc24q (m : List Byte) : Nat := m.foldl (fun c b => crc24Bits 8 (c ^^^ (b.toNat * 2 ^ 16))) 0

/-- The little-endian bytes of a word. -/
def wordLe (w : Word) : List Byte := (wordBe w).reverse
/-- The little-endian bytes of words. -/
def wordsLe (ws : List Word) : List Byte := (ws.map wordLe).flatten
/-- The little-endian words of n times four bytes. -/
def leWords (n : Nat) (b : List Byte) : List Word := (pieces 4 n b).map (fun p => beWord p.reverse)
/-- The big-endian number of a byte string. -/
def beNat (b : List Byte) : Nat := b.foldl (fun n x => n * 256 + x.toNat) 0

/-- The field prime of P-256. -/
abbrev pPrime : Nat := 2 ^ 256 - 2 ^ 224 + 2 ^ 192 + 2 ^ 96 - 1
/-- The order of the group of P-256. -/
abbrev pOrder : Nat := 0xffffffff00000000ffffffffffffffffbce6faada7179e84f3b9cac2fc632551
/-- The constant b of P-256. -/
abbrev pB : Nat := 0x5ac635d8aa3a93e7b3ebbd55769886bc651d06b0cc53b0f63bce3c3e27d2604b
/-- The base point of P-256. -/
abbrev pBase : Nat × Nat :=
  (0x6b17d1f2e12c4247f8bce6e563a440f277037d812deb33a0f4a13945d898c296,
   0x4fe342e2fe1a7f9b8ee7eb4a7c0f9e162bce33576b315ececbb6406837bf51f5)

/-- a to the power e modulo m, by k bits of e. -/
def powMod (m : Nat) : Nat → Nat → Nat → Nat
  | 0, _, _ => 1 % m
  | k + 1, a, e =>
    let r := powMod m k (a * a % m) (e / 2)
    if e % 2 = 1 then a * r % m else r

/-- The inverse modulo a prime of at most 256 bits. -/
def invMod (m a : Nat) : Nat := powMod m 256 (a % m) (m - 2)

/-- A point of P-256; none is the point at infinity. -/
abbrev EcPoint := Option (Nat × Nat)

/-- The sum of two points of P-256. -/
def ecAdd : EcPoint → EcPoint → EcPoint
  | none, q => q
  | p, none => p
  | some (x1, y1), some (x2, y2) =>
    let p := pPrime
    if x1 = x2 ∧ (y1 + y2) % p = 0 then none
    else
      let l := if x1 = x2 then (3 * x1 * x1 + (p - 3)) * invMod p (2 * y1) % p
        else (y2 + (p - y1)) * invMod p (x2 + (p - x1)) % p
      let x3 := (l * l + (p - x1) + (p - x2)) % p
      some (x3, (l * (x1 + (p - x3)) + (p - y1)) % p)

/-- A multiple of a point, by k bits of the factor. -/
def ecMul : Nat → Nat → EcPoint → EcPoint
  | 0, _, _ => none
  | k + 1, e, q =>
    let r := ecMul k (e / 2) (ecAdd q q)
    if e % 2 = 1 then ecAdd q r else r

/-- Whether a pair of numbers is a point of the curve. -/
def onCurve (x y : Nat) : Bool :=
  decide (x < pPrime) && decide (y < pPrime) &&
    decide (y * y % pPrime = (x * x * x + (pPrime - 3) * x + pB) % pPrime)

/-- Whether (r, s) is a valid ECDSA signature of digest number e under the key (x, y) (R238). DEDUCED, log entry 35. -/
def ecdsaValid (e r s x y : Nat) : Bool :=
  if 0 < r ∧ r < pOrder ∧ 0 < s ∧ s < pOrder ∧ onCurve x y then
    let w := invMod pOrder s
    match ecAdd (ecMul 256 (e * w % pOrder) (some pBase)) (ecMul 256 (r * w % pOrder) (some (x, y))) with
    | none => false
    | some (x1, _) => decide (x1 % pOrder = r)
  else false

end Sys2Proof.Machine
end

