-- ==== Sys2Proof/Machine/Operands.lean ====
section
/-! DEFINITION. The operands of Grikar instructions: registers, pairs, points, pending marks,
bindings, fetch, and how an instruction issues, stalls and retires (R134 to R150, R198, R199). -/
namespace Sys2Proof.Machine

/-- Gather g beyond its registers. -/
def gatherOf (s : State) (g : Nat) : Gather := tabGet (fun _ => Gather.init) s.gathers g
/-- Replace gather g beyond its registers. -/
def setGather (g : Nat) (x : Gather) (s : State) : State :=
  { s with gathers := tabSet (fun _ => Gather.init) s.gathers g x }

/-- A general register; w0 reads zero (R134). -/
def getW (c : Core) (n : Nat) : Word := if n = 0 then 0 else tabGet (fun _ => 0) c.w n
/-- Write a general register; a write to w0 is discarded (R135). -/
def setW (n : Nat) (v : Word) (c : Core) : Core :=
  if n = 0 then c else { c with w := tabSet (fun _ => 0) c.w n v }
/-- The 64-bit value of the pair wn (R137). -/
def getPair (c : Core) (n : Nat) : Nat := (getW c n).toNat + 2 ^ 32 * (getW c (n + 1)).toNat
/-- Write the pair wn (R137). -/
def setPair (n v : Nat) (c : Core) : Core := setW (n + 1) (hiWord v) (setW n (loWord v) c)
/-- The east coordinate of point register n. -/
def getX (c : Core) (n : Nat) : Word := tabGet (fun _ => 0) c.px n
/-- The north coordinate of point register n. -/
def getY (c : Core) (n : Nat) : Word := tabGet (fun _ => 0) c.py n
/-- Write point register n. -/
def setP (n : Nat) (x y : Word) (c : Core) : Core :=
  { c with px := tabSet (fun _ => 0) c.px n x, py := tabSet (fun _ => 0) c.py n y }

/-- The general registers with a pending mark (R210). -/
def pendingW (x : Gather) : List Nat := (x.ops.flatMap (·.wd)).filter (· != 0)
/-- The point registers with a pending mark (R210). -/
def pendingP (x : Gather) : List Nat := x.ops.flatMap (·.pd)
/-- Whether an instruction that reads or writes registers ws and points ps meets a pending one. -/
def meetsPending (x : Gather) (ws ps : List Nat) : Bool :=
  ws.any (fun n => (pendingW x).contains n) || ps.any (fun n => (pendingP x).contains n)
/-- The two registers of the pair n. -/
def pairOf (n : Nat) : List Nat := [n, n + 1]

/-- Whether bit k of a field of gather bindings is set. -/
def bindBit (s : State) (f : Fld) (k : Nat) : Bool := decide (fget s f / 2 ^ k % 2 = 1)
/-- Whether queue q is bound to gather g for pushing (R187, R230). -/
def pushBound (s : State) (g q : Nat) : Bool :=
  if 85 ≤ q ∧ q ≤ 90 then bindBit s (F.G_QPUSH_BUSTX g) (q - 85)
  else if 104 ≤ q ∧ q ≤ 127 then bindBit s (F.G_QPUSH_GEN g) (q - 104) else false
/-- Whether queue q is bound to gather g for popping (R187, R230). -/
def popBound (s : State) (g q : Nat) : Bool :=
  if 91 ≤ q ∧ q ≤ 102 then bindBit s (F.G_QPOPS_SYS g) (q - 91)
  else if 104 ≤ q ∧ q ≤ 127 then bindBit s (F.G_QPOPG_GEN g) (q - 104) else false
/-- Whether OUT_PERMITn names gather g (R232). -/
def permits (s : State) (n g : Nat) : Bool :=
  decide (n < 84) && bindBit s (F.OUT_PERMIT_GATHERS n (g / 32)) (g % 32)
/-- Whether remote descriptor d is bound to gather g (R233). -/
def remBound (s : State) (d g : Nat) : Bool :=
  decide (d < 428) && flag s (F.REM_GATHER_VALID d) && decide (fget s (F.REM_GATHER_GATHER d) = g)
/-- Whether gather g is in STARTING, RUN, a wait state or REWIND. -/
def GPhase.isRunning : GPhase → Bool
  | .starting | .run | .waitTick | .waitTime | .waitQueue | .rewind => true
  | _ => false
/-- Whether gather g is in STARTING, RUN, a wait state or REWIND. -/
def gRunning (s : State) (g : Nat) : Bool := (gatherOf s g).phase.isRunning
/-- Whether a word index lies in the program region bound to gather g (R167, R229). -/
def inRegion (s : State) (g pc : Nat) : Bool :=
  decide (pc ≤ 0x3FFFF) && flag s (F.G_REGION_VALID g) &&
    decide (fget s (F.G_REGION_FIRST g) ≤ pc / 4096) && decide (pc / 4096 ≤ fget s (F.G_REGION_LAST g))

/-- Operations in flight in the whole device (R148). -/
def inFlight (s : State) : Nat := (s.gathers.map (fun p => p.2.ops.length)).sum

/-- Put back the old bytes of local stores, newest entry first (R163). -/
def undoStores : List JEntry → Tab Byte → Tab Byte
  | [], m => m
  | .undo a old :: t, m => tabFill (fun _ => 0) (undoStores t m) a old
  | _ :: t, m => undoStores t m

/-- The local-store entries of a journal. -/
def undoEntries (j : List JEntry) : List JEntry :=
  j.filter (fun e => match e with | .undo _ _ => true | _ => false)

/-- The queues that a gather can hold work in: Q84 to Q102 and Q104 to Q127 (R187). -/
def gatherQueues : List Nat := (List.range 19).map (84 + ·) ++ (List.range 24).map (104 + ·)
/-- Discard what gather g pushed and restore what it popped since its last EPOCH (R188, R189). -/
def rewindQueueWork (g : Nat) (s : State) : State := forAll (rewindQueue g) gatherQueues s
/-- Discard all that gather g pushed and that is not visible, and restore what it popped since its last EPOCH (R188, R200). -/
def dropQueueWork (g : Nat) (s : State) : State := forAll (clearQueue g) gatherQueues s

/-- The hold window of LOAD_GLOBAL in MTIME units (R366). -/
def holdWindow (s : State) : Nat := ms * fget s F.LOAD_GLOBAL_HOLD_WIN
/-- The armed local outputs that name gather g (R223). -/
def heldOutputs (s : State) (g : Nat) : List Nat :=
  (List.range 84).filter (fun n => armed s n && permits s n g)

/-- The ticks that passed since the gather's last wake are put by while it does not run: they count at its next
WAITT, and those that pass meanwhile do not (R218). -/
def Gather.bankTicks (x : Gather) (ticks : Nat) : Gather :=
  { x with missed := x.missed + (ticks - x.tickSeen), tickSeen := ticks }

/-- A fault of gather g starts the hold window for outputs (R223); one that a START cancelled is forgotten (R220). -/
def holdOutputs (g : Nat) (outs : List Nat) (s : State) : State :=
  forAll (fun n s => setOut n { outOf s n with holds := (outOf s n).holds.filter (· != g) ++ (if outs.contains n then [g] else []) } s)
    ((List.range 84).filter (fun n => outs.contains n || (outOf s n).holds.contains g)) s

/-- Gather g enters FAULT with a code and a PC (R200, R223): its operations are cancelled, its held
stores, marks and records and its packets vanish, its pops return; the hold window of its armed
outputs starts. G_FAULT.PC takes the low 18 bits of the PC. DEDUCED, log entry 39; DESIGN CHOICE, log entry 103. -/
def enterFault (g code pc : Nat) (word : Word) (s : State) : State :=
  let x := gatherOf s g
  let outs := heldOutputs s g
  let due := if outs.isEmpty then none else some (s.mtime + holdWindow s)
  let x := { x.bankTicks s.eng.ticks with phase := .fault, ops := [], journal := undoEntries x.journal, stall := 0, waiting := .none, holdEnd := due }
  let s := holdOutputs g outs (dropQueueWork g (setGather g x s))
  let s := fset (fset s (F.G_FAULT_CODE g) code) (F.G_FAULT_PC g) pc
  let s := fbool s (F.G_FAULT_HOLD g) (!outs.isEmpty)
  raise 4 0 g .gatherFault [g, code, pc, word.toNat] s

/-- The program word at a word index; a page that is not verified and not loaded reads zero. -/
def progWord (s : State) (i : Nat) : Word := tabGet (fun _ => 0) s.eng.prog i

/-- The instruction at gather g's PC faults (R198). -/
def faultHere (g code : Nat) (s : State) : State :=
  enterFault g code (gatherOf s g).cur.pc (progWord s (gatherOf s g).cur.pc) s

/-- Note why gather g stalls (G_STAT.STALL, R147). -/
def stallAs (g code : Nat) (s : State) : State := setGather g { gatherOf s g with stall := code } s

/-- An instruction issues (mailbox 12). -/
def countIssue (s : State) : State := { s with eng := { s.eng with issued := (s.eng.issued + 1) % 2 ^ 64 } }

/-- An instruction completes: the core takes its effect, the PC steps to the next word. -/
def retire (g : Nat) (f : Core → Core) (s : State) : State :=
  let x := gatherOf s g
  let c := f x.cur
  countIssue (setGather g { x with cur := { c with pc := c.pc + 1 }, stall := 0 } s)

/-- An instruction of gather g as its next one (R167, R199, R205): it has an effect only in RUN; a
fetch outside the region faults; an illegal one faults at once; a pending register stalls it. DESIGN CHOICE, log entry 28. -/
def instruction (g : Nat) (illegal : Bool) (ws ps : List Nat) (body : State → State) (s : State) : State :=
  let x := gatherOf s g
  if x.phase ≠ .run then s
  else if !inRegion s g x.cur.pc then enterFault g 3 x.cur.pc 0 s
  else if illegal then faultHere g 1 s
  else if meetsPending x ws ps then stallAs g 1 s
  else body s

/-- An instruction that only changes the core. -/
def coreInstr (g : Nat) (illegal : Bool) (ws ps : List Nat) (f : Core → Core) (s : State) : State :=
  instruction g illegal ws ps (retire g f) s

/-- Whether a pair field is odd (R137). -/
def oddPair (n : Nat) : Bool := decide (n % 2 = 1)
/-- Whether a point field names no point register (R168). -/
def badPoint (n : Nat) : Bool := decide (8 ≤ n)
/-- Whether a point pair field is not p0, p2, p4 or p6 (R137). -/
def badPointPair (n : Nat) : Bool := badPoint n || oddPair n

/-- Note the journal's high-water mark (R214). -/
def noteJournal (g : Nat) (s : State) : State := fmax s (F.G_JHW_HIGH g) (gatherOf s g).journal.length
/-- Add an entry to gather g's journal. -/
def journalAdd (g : Nat) (e : JEntry) (s : State) : State :=
  let x := gatherOf s g
  noteJournal g (setGather g { x with journal := x.journal ++ [e] } s)
/-- Whether gather g's journal refuses an entry (R162). -/
def journalFull (s : State) (g : Nat) : Bool := decide (256 ≤ (gatherOf s g).journal.length)

/-- An asynchronous instruction as the gather's next one (R146, R148, R199): at the gather's 8 or the device's 512
operations in flight it stalls at issue, before any cause but ILLEGAL is judged. DEDUCED, log entry 29. -/
def asyncInstr (g : Nat) (illegal : Bool) (ws ps : List Nat) (body : State → State) (s : State) : State :=
  instruction g illegal ws ps (fun s =>
    if 8 ≤ (gatherOf s g).ops.length then stallAs g 4 s
    else if 512 ≤ inFlight s then stallAs g 5 s
    else body s) s

/-- Issue an asynchronous operation (R146): it takes a tag and marks its destinations pending. -/
def issueAsync (g : Nat) (k : OpKind) (wd pd : List Nat) (s : State) : State :=
  let x := gatherOf s g
  retire g id (setGather g { x with ops := x.ops ++ [⟨x.nextTag, k, wd, pd⟩], nextTag := x.nextTag + 1 } s)

/-- Whether an operation is a QPOP of queue q issued before the n-th (R189). -/
def isPopBefore (q n : Nat) (o : AsyncOp) : Bool :=
  match o.kind with
  | .qpop r k => r == q && decide (k < n)
  | _ => false
/-- The QPOPs of queue q in flight that were issued before the n-th: each has the word before it (R189). DEDUCED, log
entry 108. -/
def popsBefore (s : State) (q n : Nat) : Nat := (s.gathers.map (fun p => (p.2.ops.filter (isPopBefore q n)).length)).sum

end Sys2Proof.Machine
end

