-- ==== Sys2Proof/Machine/Geometry.lean ====
section
/-! DEFINITION. The implement model, footprints, prediction, the field frame, coverage of a segment,
zones and exclusion polygons (R244 to R260, R272 to R275, R178 to R182). -/
namespace Sys2Proof.Machine

/-- One in the fixed-point arithmetic of the geometry: 96 fraction bits. -/
abbrev fixOne : Int := 2 ^ 96
/-- π in that format. -/
abbrev fixPi : Int := 248902613312231085230521944622

/-- The product of two fixed-point numbers. -/
def fixMul (a b : Int) : Int := a * b / fixOne

/-- The alternating series whose terms start at t and multiply by −x²/(k(k+1)), n terms. -/
def series (x2 : Int) : Nat → Int → Nat → Int
  | 0, _, _ => 0
  | n + 1, t, k => t + series x2 n (-(fixMul t x2) / ((k : Int) * (k + 1))) (k + 2)

/-- An angle reduced to −π to π. -/
def fixReduce (x : Int) : Int := (x + fixPi) % (2 * fixPi) - fixPi
/-- The sine of a fixed-point angle. -/
def fixSin (x : Int) : Int := let y := fixReduce x; series (fixMul y y) 24 y 2
/-- The cosine of a fixed-point angle. -/
def fixCos (x : Int) : Int := let y := fixReduce x; series (fixMul y y) 24 fixOne 1
/-- The angle of a count of microradians. -/
def fixUrad (a : Int) : Int := a * fixOne / 1000000

/-- A coordinate in whole millimetres: the nearest, halves away from zero (R245, R260). -/
def mmRound (x : Int) : Int := roundHalfAway x fixOne.toNat

/-- The 32-bit word of a coordinate. -/
def mmWord (x : Int) : Word := BitVec.ofInt 32 x

/-- Word i of a model; in the factory state word 1 holds one body (R256). -/
def modelWord (m : MapSet) (i : Nat) : Word := tabGet (fun i => if i = 1 then 1 else 0) m.model i

/-- The model entry of a geometry output index, if it names an output (R175, R255). -/
def entryOf (i : Nat) : Option Nat :=
  if i < 84 then some i else if 256 ≤ i ∧ i < 684 then some (i - 256 + 84) else none

/-- An output entry of the model (R255, R256). -/
structure OutEntry where
  x : Int
  y : Int
  z : Int
  width : Nat
  mask : Nat
  body : Nat
deriving DecidableEq, Repr

/-- The entry e of a model, if valid. -/
def outEntry (m : MapSet) (e : Nat) : Option OutEntry :=
  let c := modelWord m (67 + 4 * e)
  if c.msb then
    let zw := modelWord m (66 + 4 * e)
    let z := bitsOf zw 15 0
    some ⟨(modelWord m (64 + 4 * e)).toInt, (modelWord m (65 + 4 * e)).toInt,
      if z < 0x8000 then (z : Int) else (z : Int) - 0x10000, bitsOf zw 31 16, bitsOf c 7 4, bitsOf c 1 0⟩
  else none

/-- A point carried into its parent's coordinates by joint k at angle α in µrad (R254). -/
def throughJoint (m : MapSet) (k : Nat) (al : Int) (p : Int × Int) : Int × Int :=
  let b := 16 + 8 * (k - 1)
  let f (i : Nat) : Int := (modelWord m (b + i)).toInt * fixOne
  let cx := p.1 - f 3
  let cy := p.2 - f 4
  let sn := fixSin (fixUrad al)
  let cs := fixCos (fixUrad al)
  (f 1 + (fixMul cx cs - fixMul cy sn), f 2 + (fixMul cx sn + fixMul cy cs))

/-- The parent of body k (R251). -/
def parentBody (m : MapSet) (k : Nat) : Nat := bitsOf (modelWord m (16 + 8 * (k - 1))) 1 0

/-- A point carried from body k to body 0 through at most n joints (R254). -/
def toBody0 (m : MapSet) (angles : List Int) : Nat → Nat → Int × Int → Int × Int
  | 0, _, p => p
  | n + 1, k, p =>
    if k = 0 then p
    else toBody0 m angles n (parentBody m k) (throughJoint m k (angles.getD (k - 1) 0) p)

/-- The bodies between body k and body 0. -/
def bodyPath (m : MapSet) : Nat → Nat → List Nat
  | 0, _ => []
  | n + 1, k => if k = 0 then [] else k :: bodyPath m n (parentBody m k)

/-- A pose from which footprints are taken: position in mm, velocity in mm/s and heading in rad, each in fixed point;
roll, pitch and joint angles in µrad, the rate in µrad/s. -/
structure PoseIn where
  e : Int
  n : Int
  head : Int
  roll : Int
  pitch : Int
  yaw : Int
  ve : Int
  vn : Int
  joints : List Int
deriving DecidableEq, Repr

/-- The pose tn/td seconds later, as position and heading in fixed point (R259). -/
def predict (p : PoseIn) (tn td : Int) : Int × Int × Int :=
  let beta := p.yaw * tn * fixOne / (td * 1000000)
  let sn := fixSin beta
  let c1 := fixOne - fixCos beta
  let (de, dn) :=
    if p.yaw = 0 then (p.ve * tn / td, p.vn * tn / td)
    else ((fixMul p.ve sn + fixMul p.vn c1) * 1000000 / p.yaw, (-(fixMul p.ve c1) + fixMul p.vn sn) * 1000000 / p.yaw)
  (p.e + de, p.n + dn, p.head + beta)

/-- A point of body 0 in the field frame (R258), in fixed point. -/
def toField (p : PoseIn) (at' : Int × Int × Int) (x y z : Int) : Int × Int :=
  let sr := fixSin (fixUrad p.roll)
  let cr := fixCos (fixUrad p.roll)
  let sp := fixSin (fixUrad p.pitch)
  let cp := fixCos (fixUrad p.pitch)
  let sh := fixSin at'.2.2
  let ch := fixCos at'.2.2
  let zr := fixMul y sr + fixMul z cr
  let fwd := fixMul x cp - fixMul zr sp
  let left := fixMul y cr - fixMul z sr
  (at'.1 + fixMul fwd sh - fixMul left ch, at'.2.1 + fixMul fwd ch + fixMul left sh)

/-- A point of the body of an output, dy half millimetres to its left, in the field frame, rounded. -/
def fieldPoint (m : MapSet) (o : OutEntry) (p : PoseIn) (tn td : Int) (dy : Int) : Int × Int :=
  let b := toBody0 m p.joints 4 o.body (o.x * fixOne, o.y * fixOne + dy * fixOne / 2)
  let q := toField p (predict p tn td) b.1 b.2 (o.z * fixOne)
  (mmRound q.1, mmRound q.2)

/-- A segment of ground: the end that belongs to it and the other end, in mm. -/
structure Seg where
  ax : Int
  ay : Int
  bx : Int
  by' : Int
deriving DecidableEq, Repr

/-- The footprint of an output (R257), tn/td seconds after the pose. -/
def footprint (m : MapSet) (o : OutEntry) (p : PoseIn) (tn td : Int) : Seg :=
  let a := fieldPoint m o p tn td o.width
  let b := fieldPoint m o p tn td (-(o.width : Int))
  ⟨a.1, a.2, b.1, b.2⟩

/-- Word i of a snapshot. -/
def snapWord (sn : List Word) (i : Nat) : Word := sn.getD i 0
/-- The quality of a snapshot (R169). -/
def snapQuality (sn : List Word) : Nat := bitsOf (snapWord sn 4) 2 0
/-- The pose of a snapshot (R169). -/
def snapPose (sn : List Word) : PoseIn :=
  let f (i : Nat) : Int := (snapWord sn i).toInt
  ⟨f 5 * fixOne, f 6 * fixOne, fixUrad (f 8), f 9, f 10, f 11, f 13 * fixOne, f 14 * fixOne, [f 18, f 19, f 20]⟩

/-- Whether a joint on the path of body k is stale in a snapshot (R178 bit 2, R253). -/
def pathStale (m : MapSet) (sn : List Word) (k : Nat) : Bool :=
  (bodyPath m 4 k).any (fun j =>
    decide (bitsOf (modelWord m (16 + 8 * (j - 1))) 9 8 ≠ 0) && (snapWord sn 21).getLsbD (j - 1))

/-- FOOT's result (R178): both points and the status, none where the output has no valid entry. DEDUCED, log entry 38. -/
def footResult (m : MapSet) (sn : List Word) (i off : Nat) : Option (Seg × Nat) :=
  let late := if 200000 < off then 8 else 0
  match (entryOf i).bind (outEntry m) with
  | none => none
  | some o =>
    if snapQuality sn = 0 then some (⟨0, 0, 0, 0⟩, 1 + late)
    else
      some (footprint m o (snapPose sn) (min off 200000) 100000,
        (if snapQuality sn = 1 then 2 else 0) + (if pathStale m sn o.body then 4 else 0) + late)

/-- The lines k × c strictly between two coordinates, as distances from the first. -/
def crossings (c : Nat) (p q : Int) : List Nat :=
  let lo := min p q
  let hi := max p q
  let k0 := lo / c + 1
  let n := ((hi - 1) / c + 1 - k0).toNat
  (List.range n).map (fun i => ((k0 + i) * c - p).natAbs)

/-- Insert into a list in rising order, dropping repeats. -/
def insertNat (x : Nat) : List Nat → List Nat
  | [] => [x]
  | y :: t => if x < y then x :: y :: t else if x = y then y :: t else y :: insertNat x t

/-- The parts of a segment between cell lines: start and end of each over the common denominator d,
and the cell that holds it (R261). -/
def cellParts (c : Nat) (g : Seg) : Nat × List (Nat × Nat × Int × Int) :=
  let dx := (g.bx - g.ax).natAbs
  let dy := (g.by' - g.ay).natAbs
  let fx := if dy = 0 then 1 else dy
  let fy := if dx = 0 then 1 else dx
  let d := if dx = 0 then dy else if dy = 0 then dx else dx * dy
  let cuts := (crossings c g.ax g.bx).map (· * fx) ++ (crossings c g.ay g.by').map (· * fy)
  let ts := (d :: cuts).foldl (fun l x => insertNat x l) [0]
  let cell (t : Nat) (p q : Int) : Int := (p * (2 * d) + (q - p) * t) / ((c : Int) * (2 * d))
  (d, (ts.zip ts.tail).map (fun r => (r.1, r.2, cell (r.1 + r.2) g.ax g.bx, cell (r.1 + r.2) g.ay g.by')))

/-- The covered share of a segment (R179) for a function that reads cells: bits 16:0 for once or more,
the twice-or-more share in 1/256. -/
def coverShare (c : Nat) (read : Int → Int → Nat) (g : Seg) : Nat × Nat :=
  if g.ax = g.bx ∧ g.ay = g.by' then
    let v := read (g.ax / c) (g.ay / c)
    (if 1 ≤ v then 0x10000 else 0, if 2 ≤ v then 255 else 0)
  else
    let (d, ps) := cellParts c g
    let len (k : Nat) : Nat := ((ps.filter (fun r => decide (k ≤ read r.2.2.1 r.2.2.2))).map (fun r => r.2.1 - r.1)).sum
    (len 1 * 0x10000 / d, min 255 (len 2 * 256 / d))

/-- The zone index under a point (R272). -/
def zoneAt (m : MapSet) (e n : Int) : Nat :=
  let nx := bitsOf m.rasDim 13 0
  let ny := bitsOf m.rasDim 29 16
  let r : Int := 100 * bitsOf m.rasCfg 5 0
  if r = 0 then 0
  else
    let x := (e - m.rasE.toInt) / r
    let y := (n - m.rasN.toInt) / r
    if 0 ≤ x ∧ x < nx ∧ 0 ≤ y ∧ y < ny then
      let i := y.toNat * nx + x.toNat
      bitsOf (tabGet (fun _ => 0) m.cells (i / 4)) (8 * (i % 4) + 7) (8 * (i % 4))
    else 0

/-- ZONQ's result (R181). -/
def zoneResult (m : MapSet) (e n : Int) (layer : Nat) : Word :=
  let z := zoneAt m e n
  BitVec.ofNat 32 (z + 256 * bitsOf (tabGet (fun _ => 0) m.rates (256 * layer + z)) 23 0)

/-- The polygons of a map copy, with their indices (R275). -/
def polygons (m : MapSet) : List (Nat × List (Int × Int)) :=
  (List.range (bitsOf m.polyCfg 8 0)).filterMap (fun p =>
    let d := tabGet (fun _ => 0) m.descs p
    if d.msb then
      let v (i : Nat) : Int := (tabGet (fun _ => (0 : Word)) m.verts i).toInt
      some (p, (List.range (bitsOf d 30 16)).map (fun i =>
        let k := bitsOf d 13 0 + i
        (v (2 * k), v (2 * k + 1))))
    else none)

/-- The edges of a closed polygon. -/
def edges (vs : List (Int × Int)) : List ((Int × Int) × (Int × Int)) := vs.zip (vs.tail ++ vs.take 1)

/-- Whether a point lies on an edge. -/
def onEdge (x y : Rat) (e : (Int × Int) × (Int × Int)) : Bool :=
  let (a, b) := e
  decide ((x - a.1) * (b.2 - a.2) = (y - a.2) * (b.1 - a.1)) &&
    decide (min (a.1 : Rat) b.1 ≤ x) && decide (x ≤ max (a.1 : Rat) b.1) &&
    decide (min (a.2 : Rat) b.2 ≤ y) && decide (y ≤ max (a.2 : Rat) b.2)

/-- Whether a ray to the east from a point crosses an edge. -/
def rayCrosses (x y : Rat) (e : (Int × Int) × (Int × Int)) : Bool :=
  let (a, b) := e
  (decide ((a.2 : Rat) ≤ y) != decide ((b.2 : Rat) ≤ y)) &&
    decide (x < a.1 + (y - a.2) * ((b.1 - a.1 : Int) : Rat) / ((b.2 - a.2 : Int) : Rat))

/-- Whether a point lies in a polygon, its boundary included (R275). -/
def inPolygon (vs : List (Int × Int)) (x y : Rat) : Bool :=
  (edges vs).any (onEdge x y) || decide (((edges vs).filter (rayCrosses x y)).length % 2 = 1)

/-- Where the line of a segment meets the line of an edge, as parameters 0 to 1 of the segment; for an
edge along the segment the parameters of both of its ends. -/
def meetParams (g : Seg) (e : (Int × Int) × (Int × Int)) : List Rat :=
  let dx := g.bx - g.ax
  let dy := g.by' - g.ay
  let (a, b) := e
  let ex := b.1 - a.1
  let ey := b.2 - a.2
  let den := dx * ey - dy * ex
  let on (p : Int × Int) : Rat := (((p.1 - g.ax) * dx + (p.2 - g.ay) * dy : Int) : Rat) / ((dx * dx + dy * dy : Int) : Rat)
  let ts : List Rat :=
    if den ≠ 0 then [(((a.1 - g.ax) * ey - (a.2 - g.ay) * ex : Int) : Rat) / (den : Rat)]
    else [on a, on b]
  ts.filter (fun t => decide (0 ≤ t) && decide (t ≤ 1))

/-- Insert a parameter into a list in rising order. -/
def insertRat (x : Rat) : List Rat → List Rat
  | [] => [x]
  | y :: t => if x < y then x :: y :: t else if x = y then y :: t else y :: insertRat x t

/-- The point of a segment at a parameter. -/
def segPoint (g : Seg) (t : Rat) : Rat × Rat :=
  ((g.ax : Rat) + t * ((g.bx - g.ax : Int) : Rat), (g.ay : Rat) + t * ((g.by' - g.ay : Int) : Rat))

/-- The parameters at which a segment may enter or leave a polygon. -/
def polyParams (g : Seg) (vs : List (Int × Int)) : List Rat := (0 : Rat) :: 1 :: (edges vs).flatMap (meetParams g)

/-- Whether a segment touches a polygon; without its far end where that end is excluded. -/
def touches (g : Seg) (open' : Bool) (vs : List (Int × Int)) : Bool :=
  (polyParams g vs).any (fun t => (!open' || decide (t < 1)) && inPolygon vs (segPoint g t).1 (segPoint g t).2)

/-- The share of a segment inside one or more polygons, truncated to 1/65,536 (R182). -/
def insideShare (g : Seg) (ps : List (Nat × List (Int × Int))) : Nat :=
  let ts := (ps.flatMap (fun p => polyParams g p.2)).foldl (fun l x => insertRat x l) []
  let parts := (ts.zip ts.tail).filter (fun r =>
    let q := segPoint g ((r.1 + r.2) / 2)
    ps.any (fun p => inPolygon p.2 q.1 q.2))
  ((parts.map (fun r => r.2 - r.1)).sum * 65536).floor.toNat

/-- EXCL's result (R182). -/
def exclResult (m : MapSet) (g : Seg) : Word :=
  let ps := polygons m
  let zero := decide (g.ax = g.bx) && decide (g.ay = g.by')
  let hit := ps.filter (fun p => if zero then inPolygon p.2 g.ax g.ay else touches g false p.2)
  let low := match hit with
    | [] => 0x1FF
    | p :: _ => p.1
  let share := if zero then (if hit.isEmpty then 0 else 0x10000) else insideShare g ps
  BitVec.ofNat 32 (share + 2 ^ 23 * low)

/-- What COVX watches along the path (R180): covered, zone under the centre, polygons overlapped. -/
structure PathState where
  covered : Bool
  zone : Nat
  polys : List Nat
deriving DecidableEq, Repr

/-- The state of an output's footprint h half steps of 10 µs after the tick. -/
def pathState (m : MapSet) (cell : Nat) (read : Int → Int → Nat) (o : OutEntry) (p : PoseIn) (thr h : Nat) : PathState :=
  let g := footprint m o p h 200000
  let c := fieldPoint m o p h 200000 0
  ⟨decide (thr ≤ (coverShare cell read g).1), zoneAt m c.1 c.2,
    ((polygons m).filter (fun q => touches g true q.2)).map (·.1)⟩

/-- The lowest cause of a change between two states (R180). -/
def changeCause (a b : PathState) : Option Nat :=
  if a.covered && !b.covered then some 1
  else if !a.covered && b.covered then some 2
  else if a.zone ≠ b.zone then some 3
  else if b.polys.any (fun p => !a.polys.contains p) then some 4
  else if !a.polys.isEmpty && b.polys.isEmpty then some 5
  else none

/-- Search from half step h on, at most n samples: a change between two samples that stand half a
10 µs step either side of a whole step is reported at that step. DEDUCED, log entry 31. -/
def searchPath (st : Nat → PathState) : Nat → Nat → PathState → Option (Nat × Nat)
  | 0, _, _ => none
  | n + 1, h, prev =>
    if 400000 ≤ h then none
    else
      let h' := min 400000 (if h % 2 = 0 then h + 1 else h + 2)
      match changeCause prev (st h') with
      | some k => some (k, h' / 2)
      | none => searchPath st n h' (st h')

/-- COVX's result for a valid query word (R180), none where the output has no valid entry. -/
def covxResult (m : MapSet) (cell : Nat) (read : Int → Int → Nat) (sn : List Word) (i thr start : Nat) : Option Word :=
  match (entryOf i).bind (outEntry m) with
  | none => none
  | some o =>
    if snapQuality sn = 0 then some 0
    else if 200000 ≤ start then some 200000
    else
      let st := pathState m cell read o (snapPose sn) thr
      match searchPath st 200002 (2 * start) (st (2 * start)) with
      | some (k, t) => some (BitVec.ofNat 32 (2 ^ 29 * k + t))
      | none => some 200000

/-- The fixed-point square root of a fixed-point number. -/
def fixSqrt (x : Int) : Int := sqrtFloor 130 (x * fixOne).toNat

/-- A WGS 84 position, latitude and longitude in units of 10⁻⁷ degree × k, height in mm, as ECEF
millimetres in fixed point (R245). -/
def ecef (k : Int) (lat lon hgt : Int) : Int × Int × Int :=
  let rad (x : Int) : Int := x * fixPi / (180 * 10000000 * k)
  let sl := fixSin (rad lat)
  let cl := fixCos (rad lat)
  let f : Int := fixOne * 1000000000 / 298257223563
  let e2 := fixMul f (2 * fixOne - f)
  let n := 6378137000 * fixOne * fixOne / fixSqrt (fixOne - fixMul e2 (fixMul sl sl))
  let h := hgt * fixOne
  (fixMul (fixMul (n + h) cl) (fixCos (rad lon)), fixMul (fixMul (n + h) cl) (fixSin (rad lon)),
   fixMul (fixMul n (fixOne - e2) + h) sl)

/-- The axes of the frame at an origin in 10⁻⁷ degree: sine and cosine of its latitude and longitude. -/
def frameAxes (lat0 lon0 : Int) : Int × Int × Int × Int :=
  let rad (x : Int) : Int := x * fixPi / (180 * 10000000)
  (fixSin (rad lat0), fixCos (rad lat0), fixSin (rad lon0), fixCos (rad lon0))

/-- A position, in units of 10⁻⁷ degree / k, in the frame of an origin in 10⁻⁷ degree (R245), in fixed point. -/
def toFrameFix (k : Int) (lat lon hgt lat0 lon0 hgt0 : Int) : Int × Int × Int :=
  let p := ecef k lat lon hgt
  let o := ecef 1 lat0 lon0 hgt0
  let dx := p.1 - o.1
  let dy := p.2.1 - o.2.1
  let dz := p.2.2 - o.2.2
  let (s0, c0, sl, cl) := frameAxes lat0 lon0
  (fixMul cl dy - fixMul sl dx, fixMul c0 dz - fixMul (fixMul s0 cl) dx - fixMul (fixMul s0 sl) dy,
   fixMul (fixMul c0 cl) dx + fixMul (fixMul c0 sl) dy + fixMul s0 dz)

/-- A position, in units of 10⁻⁷ degree / k, in the field frame of an origin in 10⁻⁷ degree (R245), in mm. -/
def toFrame (k : Int) (lat lon hgt lat0 lon0 hgt0 : Int) : Int × Int × Int :=
  let p := toFrameFix k lat lon hgt lat0 lon0 hgt0
  (mmRound p.1, mmRound p.2.1, mmRound p.2.2)

/-- The length of a fixed-point vector. -/
def fixHypot (x y : Int) : Int := sqrtFloor 150 (x * x + y * y).toNat

/-- Half of the angle whose cosine and sine are c and s, n times. -/
def halveAngle : Nat → Int → Int → Int × Int
  | 0, c, s => (c, s)
  | n + 1, c, s =>
    let h := fixSqrt ((fixOne + c) / 2)
    halveAngle n h (if h = 0 then fixOne else s * fixOne / (2 * h))

/-- The series of the arc tangent: z^k/k with alternating signs, n terms. -/
def atanSeries (z2 : Int) : Nat → Int → Int → Int
  | 0, _, _ => 0
  | n + 1, t, k => t / k + atanSeries z2 n (-(fixMul t z2)) (k + 2)

/-- The angle of the vector (x, y) from the x axis, in fixed point; zero for the zero vector. -/
def fixAtan2 (y x : Int) : Int :=
  let h := fixHypot x y
  if h = 0 then 0
  else
    let c := x.natAbs * fixOne / h
    let q := halveAngle 5 c (y * fixOne / h)
    let a := 32 * atanSeries (fixMul (q.2 * fixOne / q.1) (q.2 * fixOne / q.1)) 16 (q.2 * fixOne / q.1) 1
    if 0 ≤ x then a else if 0 ≤ y then fixPi - a else -fixPi - a

/-- The WGS 84 position of a point of the frame of an origin in 10⁻⁷ degree (R245's inverse): latitude and
longitude in 10⁻⁹ degree, height in mm. -/
def fromFrame (e n u lat0 lon0 hgt0 : Int) : Int × Int × Int :=
  let o := ecef 1 lat0 lon0 hgt0
  let (s0, c0, sl, cl) := frameAxes lat0 lon0
  let x := o.1 - fixMul sl e - fixMul (fixMul s0 cl) n + fixMul (fixMul c0 cl) u
  let y := o.2.1 + fixMul cl e - fixMul (fixMul s0 sl) n + fixMul (fixMul c0 sl) u
  let z := o.2.2 + fixMul c0 n + fixMul s0 u
  let f : Int := fixOne * 1000000000 / 298257223563
  let e2 := fixMul f (2 * fixOne - f)
  let a : Int := 6378137000 * fixOne
  let b := fixMul a (fixOne - f)
  let p := fixHypot x y
  let th := fixAtan2 z (fixMul p (fixOne - f))
  let st := fixSin th
  let ct := fixCos th
  let lat := fixAtan2 (z + fixMul (fixMul e2 b * fixOne / (fixOne - e2)) (fixMul st (fixMul st st))) (p - fixMul (fixMul e2 a) (fixMul ct (fixMul ct ct)))
  let sp := fixSin lat
  let h := fixMul p (fixCos lat) + fixMul z sp - fixMul a (fixSqrt (fixOne - fixMul e2 (fixMul sp sp)))
  let deg (x : Int) : Int := roundHalfAway (x * 180000000000) fixPi.toNat
  (deg lat, deg (fixAtan2 y x), roundHalfAway h fixOne.toNat)

end Sys2Proof.Machine
end

