-- ==== Sys2Proof/Machine/Health.lean ====
section
/-! DEFINITION. The cullet state (R560, R561). -/
namespace Sys2Proof.Machine

/-- Cause k becomes 1 (R561): a record names it, and the first cause is an entry into the cullet state.
CULLET_HIST keeps every bit. -/
def cullet (k : Nat) (s : State) : State :=
  let c := fget s F.CULLET_CAUSE_CAUSE
  if c / 2 ^ k % 2 = 1 then s
  else
    let s := fset s F.CULLET_CAUSE_CAUSE (c ||| 2 ^ k)
    let s := fset s F.CULLET_HIST_EVER (fget s F.CULLET_HIST_EVER ||| 2 ^ k)
    let s := raise 5 15 0 .cullet [k] s
    if flag s F.HEALTH_CULLET then s
    else fsat (fset s F.HEALTH_CULLET 1) F.CULLET_HIST_ENTRIES 1

/-- Cause k ends (R560): causes 2 and 3 at a cold start whose self-test passes. -/
def culletClear (k : Nat) (s : State) : State :=
  let c := fget s F.CULLET_CAUSE_CAUSE
  let c := if c / 2 ^ k % 2 = 1 then c - 2 ^ k else c
  fbool (fset s F.CULLET_CAUSE_CAUSE c) F.HEALTH_CULLET (c != 0)

end Sys2Proof.Machine
end

