-- ==== Sys2Proof/Machine/Onyx.lean ====
section
/-! DEFINITION. Onyx: field records, tiles, cache, write-back and marks (R244, R261 to R270). -/
namespace Sys2Proof.Machine

/-- A signed 16-bit field. -/
def half (v : Nat) : Int := if v < 0x8000 then (v : Int) else (v : Int) - 0x10000

/-- The edge of a cell of field f in mm (R244). -/
def cellEdge (s : State) (f : Nat) : Nat := 50 * 2 ^ fget s (F.FIELD_CFG_CELL f)
/-- The number of layers of field f. -/
def layerCount (s : State) (f : Nat) : Nat := fget s (F.FIELD_CFG_LAYERS f) + 1
/-- The directory entries that field f takes (R247). -/
def dirCount (s : State) (f : Nat) : Nat :=
  fget s (F.FIELD_SIZE_NE f) * fget s (F.FIELD_SIZE_NN f) * layerCount s f

/-- The directory index of layer l of the tile that holds cell (ce, cn) of field f, and the cell's place
in it (R261, R265); none outside the grid, for a layer that the field lacks, or for no valid record. -/
def cellPlace (s : State) (f l : Nat) (ce cn : Int) : Option (Nat × Nat) :=
  let i := ce / 64 - half (fget s (F.FIELD_GRID_TE0 f))
  let j := cn / 64 - half (fget s (F.FIELD_GRID_TN0 f))
  let ne := fget s (F.FIELD_SIZE_NE f)
  let nn := fget s (F.FIELD_SIZE_NN f)
  if flag s (F.FIELD_CFG_VALID f) ∧ 0 ≤ i ∧ i < ne ∧ 0 ≤ j ∧ j < nn ∧ l < layerCount s f then
    some (fget s (F.FIELD_STAT_DIR_BASE f) + l * ne * nn + j.toNat * ne + i.toNat,
      64 * (cn % 64).toNat + (ce % 64).toNat)
  else none

/-- The directory entry at an index. -/
def dirEntry (s : State) (i : Nat) : Word := tabGet (fun _ => 0) s.onyx.dir i
/-- Whether a directory entry names a slot (R265). -/
def isStored (e : Word) : Bool := decide (bitsOf e 31 30 = 1)
/-- The slot of a stored entry. -/
def entrySlot (e : Word) : Nat := bitsOf e 16 0

/-- The tile at a directory index as nonvolatile memory holds it, clean. -/
def storedTile (s : State) (i : Nat) : CacheTile :=
  let e := dirEntry s i
  if isStored e then
    let b := tabGet (fun _ => (0, [])) s.onyx.blocks (entrySlot e)
    ⟨i, b.1, b.2, none⟩
  else ⟨i, bitsOf e 1 0, [], none⟩

/-- The cached tile at a directory index. -/
def cachedTile (s : State) (i : Nat) : Option CacheTile := s.onyx.cache.find? (fun t => t.idx == i)
/-- The tile at a directory index as queries see it. -/
def tileAt (s : State) (i : Nat) : CacheTile := (cachedTile s i).getD (storedTile s i)
/-- The value of a cell of a tile. -/
def tileCell (t : CacheTile) (k : Nat) : Nat := tabGet (fun _ => t.base) t.cells k
/-- Replace the value of a cell of a tile. -/
def setTileCell (k v : Nat) (t : CacheTile) : CacheTile := { t with cells := tabSet (fun _ => t.base) t.cells k v }

/-- The value of a cell of field f on layer l; 0b00 outside the grid (R264). -/
def readCell (s : State) (f : Option Nat) (l : Nat) (ce cn : Int) : Nat :=
  match f with
  | none => 0
  | some f =>
    match cellPlace s f l ce cn with
    | none => 0
    | some (i, k) => tileCell (tileAt s i) k

/-- The block slots that the directory names. -/
def usedSlots (s : State) : List Nat := (s.onyx.dir.filter (fun p => isStored p.2)).map (fun p => entrySlot p.2)
/-- The count of free block slots (ONYX_FREE). -/
def freeSlots (s : State) : Nat := 129024 - (usedSlots s ++ s.onyx.retired).dedup.length
/-- The greatest write count of a slot or a directory word (R270). -/
def wearMax (s : State) : Nat := ((s.onyx.slotWrites ++ s.onyx.dirWrites).map (·.2)).foldl max 0
/-- Dirty cached tiles. -/
def dirtyTiles (s : State) : List CacheTile := s.onyx.cache.filter (fun t => t.dirty.isSome)

/-- The free slot with the lowest write count in a list. -/
def leastWorn (s : State) : List Nat → Option Nat
  | [] => none
  | k :: t =>
    match leastWorn s t with
    | none => some k
    | some j => if tabGet (fun _ => 0) s.onyx.slotWrites k ≤ tabGet (fun _ => 0) s.onyx.slotWrites j then some k else some j

/-- The slot that a write-back uses (R270): the free one with the lowest write count in a window of
1,024. Where the window stands is a free value; with no free slot in it any other serves. DESIGN CHOICE, log entry 36. -/
def chooseSlot (s : State) : Option Nat :=
  let taken := usedSlots s ++ s.onyx.retired
  let start := Config.free s.freeCtr % 129024
  let win := (List.range 1024).map (fun i => 2048 + (start + i) % 129024)
  match leastWorn s (win.filter (fun k => !taken.contains k)) with
  | some k => some k
  | none => leastWorn s (((List.range 129024).map (2048 + ·)).filter (fun k => !taken.contains k))

/-- Replace the cached tile of the same index in its place: a write-back is no use of the tile (R267). -/
def replaceTile (t : CacheTile) (s : State) : State :=
  { s with onyx := { s.onyx with cache := s.onyx.cache.map (fun u => if u.idx = t.idx then t else u) } }

/-- The tile of an index as the most recently used one of the cache (R267). -/
def putTile (t : CacheTile) (s : State) : State :=
  { s with onyx := { s.onyx with cache := (s.onyx.cache.filter (fun u => u.idx != t.idx)) ++ [t] } }

/-- Write a directory entry as one 4-byte write (R266); wear above 80 % is a cullet cause (R270). -/
def writeDir (i : Nat) (e : Word) (s : State) : State :=
  let o := s.onyx
  { s with onyx := { o with
      dir := tabSet (fun _ => 0) o.dir i e
      dirWrites := tabSet (fun _ => 0) o.dirWrites i (tabGet (fun _ => 0) o.dirWrites i + 1) } }

/-- Enter the cullet state for wear (R270). -/
def checkWear (s : State) : State := onlyIf (decide (8000000000 < wearMax s)) (cullet 4) s

/-- Write back the tile at a directory index if it is dirty (R266): as uniform if all its cells hold one
value, else into a free slot, then the directory entry. -/
def writeBack (i : Nat) (s : State) : State :=
  match cachedTile s i with
  | none => s
  | some t =>
    if t.dirty.isNone then s
    else if (List.range 4096).all (fun k => tileCell t k == tileCell t 0) then
      checkWear (writeDir i (BitVec.ofNat 32 (tileCell t 0)) (replaceTile { t with dirty := none } s))
    else
      match chooseSlot s with
      | none => s
      | some k =>
        let o := s.onyx
        let s := { s with
          freeCtr := s.freeCtr + 1
          onyx := { o with
            blocks := tabSet (fun _ => (0, [])) o.blocks k (t.base, t.cells)
            slotWrites := tabSet (fun _ => 0) o.slotWrites k (tabGet (fun _ => 0) o.slotWrites k + 1) } }
        checkWear (writeDir i (BitVec.ofNat 32 (2 ^ 30 + k)) (replaceTile { t with dirty := none } s))

/-- Write back every dirty tile (R267). -/
def flushTiles (s : State) : State := forAll (fun t s => writeBack t.idx s) (dirtyTiles s) s

/-- Make room for one more tile (R267): the least recently used clean tile leaves; with none clean the
least recently used dirty one is written back first. -/
def makeRoom (s : State) : State :=
  if s.onyx.cache.length < 16384 then s
  else
    let s := match s.onyx.cache.find? (fun t => t.dirty.isNone), s.onyx.cache with
      | none, t :: _ => writeBack t.idx s
      | _, _ => s
    match s.onyx.cache.find? (fun t => t.dirty.isNone) with
    | none => s
    | some u => { s with onyx := { s.onyx with cache := s.onyx.cache.filter (fun t => t.idx != u.idx) } }

/-- The field record and layer that own a directory index, with the tile. -/
def ownerOf (s : State) (i : Nat) : Option (Nat × Nat × Int × Int) :=
  (List.range 16).findSome? (fun f =>
    let b := fget s (F.FIELD_STAT_DIR_BASE f)
    let ne := fget s (F.FIELD_SIZE_NE f)
    let nn := fget s (F.FIELD_SIZE_NN f)
    if flag s (F.FIELD_CFG_VALID f) ∧ b ≤ i ∧ i < b + dirCount s f then
      let r := i - b
      some (f, r / (ne * nn), half (fget s (F.FIELD_GRID_TE0 f)) + (r % ne : Nat), half (fget s (F.FIELD_GRID_TN0 f)) + (r / ne % nn : Nat))
    else none)

/-- A block that cannot be read (R269): the tile becomes uniform BAD_TILE, its slot is retired. -/
def badTile (i : Nat) (s : State) : State :=
  match ownerOf s i with
  | none => s
  | some (f, l, te, tn) =>
    let s := putTile ⟨i, fget s (F.FIELD_CFG_BAD_TILE f), [], some s.mtime⟩ s
    let s := { s with onyx := { s.onyx with retired := (entrySlot (dirEntry s i) :: s.onyx.retired).dedup } }
    raise 4 13 1 .badTile [f, l, te, tn] (fset (fsat s F.BADTILE_CNT_COUNT 1) F.ONYX_STAT_BAD_TILE 1)

/-- Fetch the tile at a directory index if it is not cached (R267); a cached one becomes the most
recently used. -/
def fetchTile (i : Nat) (readable : Bool) (s : State) : State :=
  match cachedTile s i with
  | some t => putTile t s
  | none =>
    let s := fsat (makeRoom s) F.FETCH_CNT_COUNT 1
    if isStored (dirEntry s i) && !readable then badTile i s else putTile (storedTile s i) s

/-- TILE_FETCH: a tile of a valid record that is not cached. -/
def tileFetch (i : Nat) (readable : Bool) (s : State) : State :=
  if (cachedTile s i).isSome || (ownerOf s i).isNone then s else fetchTile i readable s

/-- A mark on one cell (R263, R264): one more, saturating at three, or counted as outside. -/
def markCell (f l : Nat) (ce cn : Int) (s : State) : State :=
  match cellPlace s f l ce cn with
  | none => fset (fsat s F.OUTSIDE_CNT_COUNT 1) F.ONYX_STAT_OUTSIDE 1
  | some (i, k) =>
    let s := fetchTile i true s
    let t := tileAt s i
    putTile { setTileCell k (min 3 (tileCell t k + 1)) t with dirty := t.dirty.orElse (fun _ => some s.mtime) } s

/-- A query or a mark for an output without a model entry (R255). -/
def noModel (s : State) : State := fset (fsat s F.NOMODEL_CNT_COUNT 1) F.ONYX_STAT_NOMODEL 1

/-- Set every tile of layer l of field f to uniform 00 and free its block (R249): each of its directory entries is
written, which counts as wear (R270). DEDUCED, log entry 112. -/
def clearLayer (f l : Nat) (s : State) : State :=
  let n := fget s (F.FIELD_SIZE_NE f) * fget s (F.FIELD_SIZE_NN f)
  let b := fget s (F.FIELD_STAT_DIR_BASE f) + l * n
  let inside (i : Nat) : Bool := decide (b ≤ i) && decide (i < b + n)
  let s := forAll (fun k s => writeDir (b + k) 0 s) (List.range n) s
  checkWear { s with onyx := { s.onyx with cache := s.onyx.cache.filter (fun t => !inside t.idx) } }

end Sys2Proof.Machine
end

