-- ==== Sys2Proof/Machine/Marking.lean ====
section
/-! DEFINITION. Marking: poses of past instants, swept regions, the marker's sweep and COVM
(R183, R250, R263, R302 to R305). -/
namespace Sys2Proof.Machine

/-- The field in effect at an instant (R250): the newest activation at or before it. -/
def fieldAt : List (Nat × Option Nat) → Nat → Option Nat
  | [], _ => none
  | (t0, f) :: r, t => if t0 ≤ t then f else fieldAt r t

/-- The latest pose record at or before an instant (R250). -/
def poseAt (s : State) (t : Nat) : Option Pose := s.marker.poses.find? (fun p => decide (p.time ≤ t))

/-- A field's origin (R244). -/
def originOf (s : State) (f : Nat) : Int × Int × Int :=
  ((rd s (A.FIELD_LAT f)).toInt, (rd s (A.FIELD_LON f)).toInt, (rd s (A.FIELD_HGT f)).toInt)

/-- Whether a valid pose stands at an instant: its record has a quality other than 0 (R183, R304). -/
def posedAt (s : State) (t : Nat) : Bool := match poseAt s t with | some p => decide (p.quality ≠ 0) | none => false

/-- The joint angles latched at the last tick at or before an instant (R253). -/
def anglesAt (s : State) (t : Nat) : List Int :=
  match s.marker.angles.find? (fun a => decide (a.1 ≤ t)) with | some a => a.2 | none => []

/-- A heading in 10⁻⁶ µrad as a fixed-point angle. -/
def headFix (h : Int) : Int := h * fixOne / 1000000000000

/-- A pose record's position in the frame of field f, in mm in fixed point: as published there, else transformed from
its WGS 84 position (R250, R420), which it holds in 10⁻⁹ degree. -/
def positionIn (s : State) (p : Pose) (f : Nat) : Int × Int × Int :=
  if p.field = some f then (p.e, p.n, p.u)
  else
    let o := originOf s f
    toFrameFix 100 p.lat p.lon p.hgt o.1 o.2.1 o.2.2

/-- The footprint of an output at an instant in field f, taken from pose record p by R259 with joint angles js (R250,
R257, R260). -/
def footprintFrom (s : State) (m : MapSet) (o : OutEntry) (f : Nat) (js : List Int) (p : Pose) (t : Nat) : Seg :=
  let q := positionIn s p f
  let pi : PoseIn := ⟨q.1, q.2.1, headFix p.heading, p.roll, p.pitch, p.yaw, p.ve, p.vn, js⟩
  footprint m o pi (((t - p.time : Nat) : Int) * 25) (256 * 1000000000)

/-- On which side of a segment's line a point lies. -/
def sideOf (g : Seg) (x y : Int) : Int := (g.bx - g.ax) * (y - g.ay) - (g.by' - g.ay) * (x - g.ax)
/-- How far along a segment a point lies, 0 at its first end and 1 at its other. -/
def alongOf (g : Seg) (x y : Int) : Rat :=
  (((x - g.ax) * (g.bx - g.ax) + (y - g.ay) * (g.by' - g.ay) : Int) : Rat) /
    (((g.bx - g.ax) ^ 2 + (g.by' - g.ay) ^ 2 : Int) : Rat)
/-- Whether a place along a segment belongs to the footprint: its first end does, its other does not (R257). -/
def withinSeg (r : Rat) : Bool := decide (0 ≤ r) && decide (r < 1)

/-- Whether the footprint passes a point while it moves from g to h, h included and g excluded (R263). -/
def passes (g h : Seg) (x y : Int) : Bool :=
  let a := sideOf g x y
  let b := sideOf h x y
  if b = 0 then
    withinSeg (alongOf h x y) && (decide (a ≠ 0) || !withinSeg (alongOf g x y))
  else if a * b < 0 then
    let l : Rat := (a : Rat) / ((a - b : Int) : Rat)
    withinSeg ((1 - l) * alongOf g x y + l * alongOf h x y)
  else false

/-- The whole numbers from a to b. -/
def intRange (a b : Int) : List Int := (List.range (b - a + 1).toNat).map (fun i => a + i)

/-- The cells of edge c near two segments whose centre has a property. -/
def cellsNear (c : Nat) (g h : Seg) (ok : Int → Int → Bool) : List (Int × Int) :=
  let xs := [g.ax, g.bx, h.ax, h.bx]
  let ys := [g.ay, g.by', h.ay, h.by']
  let lo (l : List Int) := l.foldl min (l.headD 0) / c
  let hi (l : List Int) := l.foldl max (l.headD 0) / c
  (intRange (lo xs) (hi xs)).flatMap (fun i => (intRange (lo ys) (hi ys)).filterMap (fun j =>
    if ok (i * c + (c / 2 : Nat)) (j * c + (c / 2 : Nat)) then some (i, j) else none))

/-- The cells of edge c whose centre the footprint passes from g to h. -/
def passedCells (c : Nat) (g h : Seg) : List (Int × Int) := cellsNear c g h (passes g h)

/-- Whether a point lies on a footprint (R257). -/
def standsOn (g : Seg) (x y : Int) : Bool :=
  if g.ax = g.bx ∧ g.ay = g.by' then decide (x = g.ax) && decide (y = g.ay)
  else decide (sideOf g x y = 0) && withinSeg (alongOf g x y)

/-- The result of a sweep: the cells by field, whether some instant had a valid pose, whether some had none. -/
structure Swept where
  cells : List (Nat × Int × Int)
  inside : Bool
  outside : Bool
deriving DecidableEq, Repr

/-- Add cells of field f. -/
def Swept.add (w : Swept) (f : Nat) (cs : List (Int × Int)) : Swept :=
  { w with cells := (w.cells ++ cs.map (fun c => (f, c.1, c.2))).dedup }

/-- The footprint of the one instant t is swept, if its pose is valid. -/
def sweepInstant (s : State) (m : MapSet) (o : OutEntry) (js : List Int) (t : Nat) (w : Swept) : Swept :=
  match poseAt s t with
  | none => { w with outside := true }
  | some p =>
    if p.quality = 0 then { w with outside := true }
    else
      let w := { w with inside := true }
      match fieldAt s.marker.fields t with
      | none => w
      | some f =>
        let g := footprintFrom s m o f js p t
        w.add f (cellsNear (cellEdge s f) g g (standsOn g))

/-- The sweep over the instants after a up to b, between which no pose record and no field takes effect: the footprint
moves by the record of a, and to that of the record of b at its end (R250, R263). Without an active field nothing is
marked. DEDUCED, log entry 33. -/
def sweepStep (s : State) (m : MapSet) (o : OutEntry) (js : List Int) (a b : Nat) (w : Swept) : Swept :=
  match poseAt s a with
  | none => sweepInstant s m o js b { w with outside := true }
  | some p =>
    if p.quality = 0 then sweepInstant s m o js b { w with outside := true }
    else
      let w := { w with inside := true, outside := w.outside || !posedAt s b }
      match fieldAt s.marker.fields a with
      | none => w
      | some f =>
        let q := match poseAt s b with | some q => if q.quality = 0 then p else q | none => p
        w.add f (passedCells (cellEdge s f) (footprintFrom s m o f js p a) (footprintFrom s m o f js q b))

/-- The sweep over (t0, t1] in n steps of at most 1 ms. DEDUCED, log entry 33. -/
def sweepFrom (s : State) (m : MapSet) (o : OutEntry) (js : List Int) (t1 : Nat) : Nat → Nat → Swept → Swept
  | 0, _, w => w
  | n + 1, t0, w =>
    if t1 ≤ t0 then w
    else sweepFrom s m o js t1 n (min t1 (t0 + ms)) (sweepStep s m o js t0 (min t1 (t0 + ms)) w)

/-- The parts of (a, b] between the instants at which a pose record or another field takes effect (R250). -/
def splitParts (s : State) (a b : Nat) : List (Nat × Nat) :=
  let cuts := (s.marker.poses.map (·.time) ++ s.marker.fields.map (·.1)).filter (fun t => decide (a < t) && decide (t < b))
  let ts := a :: (cuts.foldl (fun l x => insertNat x l) [] ++ [b])
  if a < b then ts.zip ts.tail else []

/-- The region that an output's footprint occupies over (t0, t1], or over [t0, t1], with the joint angles that stand at
its start (R253, R263). DEDUCED, log entry 34. -/
def sweep (s : State) (m : MapSet) (o : OutEntry) (closed : Bool) (t0 t1 : Nat) : Swept :=
  let js := anglesAt s t0
  let w : Swept := ⟨[], false, false⟩
  (splitParts s t0 t1).foldl (fun w p => sweepFrom s m o js p.2 ((p.2 - p.1) / ms + 1) p.1 w) (if closed then sweepInstant s m o js t0 w else w)

/-- Mark cells on a layer. -/
def markCells (l : Nat) (cs : List (Nat × Int × Int)) (s : State) : State :=
  forAll (fun c s => markCell c.1 l c.2.1 c.2.2 s) cs s

/-- The parts of an output's applied intervals within (lo, hi] (R302). -/
def appliedParts (o : Out) (lo hi : Nat) : List (Nat × Nat) :=
  o.intervals.filterMap (fun i =>
    let a := max lo (i.tOn + i.onLead)
    let b := match i.off with
      | none => hi
      | some (t, l) => min hi (t + l)
    if a < b then some (a, b) else none)

/-- Mark the applied parts of output n within (lo, hi] (R303): every layer of its mask. -/
def markOutput (n lo hi : Nat) (s : State) : State :=
  match outEntry s.maps.active n with
  | none => if (appliedParts (outOf s n) lo hi).isEmpty then s else noModel s
  | some o =>
    forAll (fun p s =>
      let w := sweep s s.maps.active o false p.1 p.2
      forAll (fun l s => markCells l w.cells s) ((List.range 4).filter (fun l => decide (o.mask / 2 ^ l % 2 = 1))) s)
      (appliedParts (outOf s n) lo hi) s

/-- Forget the intervals that end at or before an instant. -/
def forgetIntervals (n hi : Nat) (s : State) : State :=
  let o := outOf s n
  setOut n { o with intervals := o.intervals.filter (fun i => match i.off with
    | none => true
    | some (t, l) => decide (hi < t + l)) } s

/-- What a sweep over (lo, hi] leaves unmarked for an invalid pose (R304): whether a valid pose stands since the last such
gap, whether there is a gap, and whether one of them is the first after a valid pose. -/
def gapScan (s : State) (lo hi : Nat) : Bool × Bool × Bool :=
  (splitParts s lo hi).foldl (fun r p =>
    if posedAt s p.1 then (true, r.2)
    else if (List.range 84).any (fun n => !(appliedParts (outOf s n) p.1 p.2).isEmpty) then (false, true, r.2.2 || r.1)
    else r) (s.marker.posed, false, false)

/-- Mark what was applied in (lo, hi], by whichever output (R303, R304; DEDUCED, log entry 123). -/
def markUpTo (hi : Nat) (s : State) : State :=
  let lo := s.marker.done
  let g := gapScan s lo hi
  let s := forAll (fun n s => forgetIntervals n hi (markOutput n lo hi s)) (List.range 84) s
  let s := { s with marker := { s.marker with done := hi, posed := g.1 } }
  let s := onlyIf g.2.1 (fun s => fsat (fset s F.MARK_STAT_GAP 1) F.MARK_GAP_CNT_COUNT 1) s
  onlyIf g.2.2 (raise 3 13 0 .markGap []) s

/-- MARKER_SWEEP (R303): at the next whole multiple of 10 ms the applied part of the 10 ms that ended
10 ms before is marked, with what a reset kept the marker from (R556). -/
def markerSweep (s : State) : State :=
  let at' := max (s.mtime / (10 * ms) * (10 * ms)) (s.marker.done + 20 * ms)
  markUpTo (at' - 10 * ms) (atTime at' s)

/-- The copies of the maps that answer gather g's queries (R280). -/
def mapsFor (s : State) (g : Nat) : MapSet :=
  match s.maps.retained with
  | none => s.maps.active
  | some m => if (gatherOf s g).snapTick < s.maps.actAt then m else s.maps.active

/-- COVM's result and the cells to mark (R183): the instants within the pose history are no more than 10 s old, not in
the future, and have a valid pose; with no active field they mark no cell. An interval whose ends are one instant holds
no instant (DESIGN CHOICE, log entry 107). -/
def covmResult (s : State) (g : Nat) (word t0 t1 : Word) : Nat × Nat × List (Nat × Int × Int) :=
  let tick : Int := (gatherOf s g).snapTick
  let a : Int := tick + t0.toInt * tenUs
  let b : Int := tick + t1.toInt * tenUs
  let layer := bitsOf word 17 16
  if bitsOf word 31 18 ≠ 0 ∨ bitsOf word 15 10 ≠ 0 then (4, layer, [])
  else if b < a then (3, layer, [])
  else
    match (entryOf (bitsOf word 9 0)).bind (outEntry (mapsFor s g)) with
    | none => (5, layer, [])
    | some o =>
      if a = b then (0, layer, [])
      else
        let lo := max a (max 0 ((s.mtime : Int) - 10 * sec))
        let hi := min b s.mtime
        let cut := decide (lo ≠ a)
        if hi < lo ∨ (hi = lo ∧ !cut) then (2, layer, [])
        else
          let w := sweep s (mapsFor s g) o cut lo.toNat hi.toNat
          if !w.inside then (2, layer, [])
          else (if w.outside ∨ cut ∨ hi ≠ b then 1 else 0, layer, w.cells)

end Sys2Proof.Machine
end

