-- ==== Sys2Proof/Machine/Flags.lean ====
section
/-! DEFINITION. The flag computations of Grikar (R155 to R158) and the branch conditions (R144). -/
namespace Sys2Proof.Machine

/-- Set Z and N from a result (R158). -/
def setZN (r : Word) (c : Core) : Core := { c with z := decide (r = 0), n := r.msb }

/-- The sum of two words and a carry, and the flags of an addition (R158). -/
def addFlags (d : Nat) (a b : Word) (cin : Bool) (c : Core) : Core :=
  let r := a + b + (if cin then 1 else 0)
  let carry := decide (2 ^ 32 ≤ a.toNat + b.toNat + (if cin then 1 else 0))
  let v := (a.msb == b.msb) && (r.msb != a.msb)
  setW d r { setZN r c with c := carry, v := v }

/-- The difference by a + ~b + cin and the flags of a subtraction (R158). -/
def subFlags (d : Nat) (a b : Word) (cin : Bool) (c : Core) : Core :=
  let r := a + (~~~b) + (if cin then 1 else 0)
  let carry := decide (2 ^ 32 ≤ a.toNat + (~~~b).toNat + (if cin then 1 else 0))
  let v := (a.msb != b.msb) && (r.msb != a.msb)
  setW d r { setZN r c with c := carry, v := v }

/-- A result that sets Z and N alone (R155). -/
def logicFlags (d : Nat) (r : Word) (c : Core) : Core := setW d r (setZN r c)

/-- A result that sets no flag. -/
def plainResult (d : Nat) (r : Word) (c : Core) : Core := setW d r c

/-- The kinds of shift (R155, R157). -/
inductive Shift where
  | left | right | arith | rotate
deriving DecidableEq, Repr

/-- A shifted by n, 0 to 31. -/
def shiftResult (k : Shift) (a : Word) (n : Nat) : Word :=
  match k with
  | .left => a <<< n
  | .right => a >>> n
  | .arith => a.sshiftRight n
  | .rotate => a.rotateRight n

/-- The last bit shifted out, for a count above zero; for a rotate the new bit 31 (R158). -/
def shiftCarry (k : Shift) (a : Word) (n : Nat) : Bool :=
  match k with
  | .left => a.getLsbD (32 - n)
  | .right | .arith => a.getLsbD (n - 1)
  | .rotate => (a.rotateRight n).msb

/-- A shift and its flags: a count of zero leaves C (R158). -/
def shiftFlags (k : Shift) (d : Nat) (a : Word) (n : Nat) (c : Core) : Core :=
  let r := shiftResult k a n
  let c' := setZN r c
  setW d r (if n = 0 then c' else { c' with c := shiftCarry k a n })

/-- Whether a branch condition holds (R144); code 0xF is illegal. -/
def condHolds (k : Nat) (c : Core) : Bool :=
  match k with
  | 0 => true
  | 1 => c.z
  | 2 => !c.z
  | 3 => c.c
  | 4 => !c.c
  | 5 => c.c && !c.z
  | 6 => !c.c || c.z
  | 7 => c.n == c.v
  | 8 => c.n != c.v
  | 9 => !c.z && (c.n == c.v)
  | 10 => c.z || (c.n != c.v)
  | 11 => c.n
  | 12 => !c.n
  | 13 => c.v
  | 14 => !c.v
  | _ => false

end Sys2Proof.Machine
end

