-- ==== Sys2Proof/Machine/Memory.lean ====
section
/-! DEFINITION. Local and common memory, and the meanings of the load and store instructions (R160 to R165). -/
namespace Sys2Proof.Machine

/-- The byte of local memory at address a. -/
def lmemByte (m : Tab Byte) (a : Nat) : Byte := tabGet (fun _ => 0) m a
/-- n bytes of local memory from address a on. -/
def lmemBytes (m : Tab Byte) (a n : Nat) : List Byte := (List.range n).map (fun i => lmemByte m (a + i))
/-- The little-endian value of a list of bytes. -/
def leValue : List Byte → Nat
  | [] => 0
  | b :: t => b.toNat + 256 * leValue t
/-- The n little-endian bytes of a value. -/
def leBytes : Nat → Nat → List Byte
  | 0, _ => []
  | n + 1, v => BitVec.ofNat 8 v :: leBytes n (v / 256)
/-- The word of local memory at a word-aligned address. -/
def lmemWord (m : Tab Byte) (a : Nat) : Word := BitVec.ofNat 32 (leValue (lmemBytes m a 4))
/-- Store the n low bytes of a value at address a. -/
def lmemStore (m : Tab Byte) (a n v : Nat) : Tab Byte := tabFill (fun _ => 0) m a (leBytes n v)

/-- The byte address of a load or store: register plus sign-extended immediate, modulo 2^32 (R160, R161). -/
def loadAddr (c : Core) (a : Nat) (imm : BitVec 16) : Nat := (getW c a + imm.signExtend 32).toNat

/-- The value of a local load of n bytes, sign-extended or not. -/
def loadValue (m : Tab Byte) (a n : Nat) (signed : Bool) : Word :=
  let v := leValue (lmemBytes m a n)
  if signed && decide (2 ^ (8 * n - 1) ≤ v) then BitVec.ofInt 32 ((v : Int) - 2 ^ (8 * n)) else BitVec.ofNat 32 v

/-- Whether an error stands in word w of memory m, of gather g for local memory (R609): none, one bit, two bits. -/
def eccAt (s : State) (m g w : Nat) : Option Bool :=
  (s.rcv.eccWords.find? (fun e => e.1 == m && (m == 0 || e.2.1 == g) && e.2.2.1 == w)).map (·.2.2.2)
/-- A gather reads word w of memory m (R545, R609): a single-bit error is corrected and counted, and a word with an
uncorrectable one is not read, so that the gather waits for its rewind. DEDUCED, log entry 60. -/
def readWord (m g w : Nat) (k : State → State) (s : State) : State :=
  match eccAt s m g w with
  | none => k s
  | some true => s
  | some false =>
    let ws := s.rcv.eccWords.filter (fun e => !(e.1 == m && (m == 0 || e.2.1 == g) && e.2.2.1 == w && !e.2.2.2))
    k (fsat { s with rcv := { s.rcv with eccWords := ws } } F.LEHR_CNT_CORRECTED 1)

/-- A local load (R160). -/
def localLoad (g d a n : Nat) (imm : BitVec 16) (signed : Bool) (s : State) : State :=
  instruction g false [d, a] [] (fun s =>
    let x := gatherOf s g
    let p := loadAddr x.cur a imm
    if 0xFFF < p then faultHere g 3 s
    else if p % n ≠ 0 then faultHere g 2 s
    else readWord 1 g (p / 4) (retire g (setW d (loadValue x.lmem p n signed))) s) s

/-- A local store: the old bytes are journaled, the memory is written at once (R160, R163). -/
def localStore (g d a n : Nat) (imm : BitVec 16) (s : State) : State :=
  instruction g false [d, a] [] (fun s =>
    let x := gatherOf s g
    let p := loadAddr x.cur a imm
    if 0xFFF < p then faultHere g 3 s
    else if p % n ≠ 0 then faultHere g 2 s
    else if journalFull s g then faultHere g 4 s
    else
      let s := journalAdd g (.undo p (lmemBytes x.lmem p n)) s
      let s := setGather g { gatherOf s g with lmem := lmemStore x.lmem p n (getW x.cur d).toNat } s
      retire g id s) s

/-- The committed common-memory word at a byte address. DEDUCED, log entry 3. -/
def cmemWord (s : State) (a : Nat) : Word := tabGet (fun _ => 0) s.eng.cmem (a / 4)
/-- Write a common-memory word. -/
def cmemWrite (a : Nat) (v : Word) (s : State) : State :=
  { s with eng := { s.eng with cmem := tabSet (fun _ => 0) s.eng.cmem (a / 4) v } }

/-- The newest held store to an address in a journal (R164). -/
def heldStore (a : Nat) : List JEntry → Option Word
  | [] => none
  | .stc b v :: t => match heldStore a t with
    | some w => some w
    | none => if a = b then some v else none
  | _ :: t => heldStore a t

/-- LDW: load 4 byte(s) of local memory (R160). -/
def execLdw (g : GatherId) (d a : RegId) (imm : BitVec 16) (s : State) : Outcome := done (localLoad g d a 4 imm false s)

/-- LDH: load 2 byte(s) of local memory, sign-extended (R160). -/
def execLdh (g : GatherId) (d a : RegId) (imm : BitVec 16) (s : State) : Outcome := done (localLoad g d a 2 imm true s)

/-- LDHU: load 2 byte(s) of local memory (R160). -/
def execLdhu (g : GatherId) (d a : RegId) (imm : BitVec 16) (s : State) : Outcome := done (localLoad g d a 2 imm false s)

/-- LDB: load 1 byte(s) of local memory, sign-extended (R160). -/
def execLdb (g : GatherId) (d a : RegId) (imm : BitVec 16) (s : State) : Outcome := done (localLoad g d a 1 imm true s)

/-- LDBU: load 1 byte(s) of local memory (R160). -/
def execLdbu (g : GatherId) (d a : RegId) (imm : BitVec 16) (s : State) : Outcome := done (localLoad g d a 1 imm false s)

/-- STW: store 4 byte(s) to local memory (R160, R163). -/
def execStw (g : GatherId) (d a : RegId) (imm : BitVec 16) (s : State) : Outcome := done (localStore g d a 4 imm s)

/-- STH: store 2 byte(s) to local memory (R160, R163). -/
def execSth (g : GatherId) (d a : RegId) (imm : BitVec 16) (s : State) : Outcome := done (localStore g d a 2 imm s)

/-- STB: store 1 byte(s) to local memory (R160, R163). -/
def execStb (g : GatherId) (d a : RegId) (imm : BitVec 16) (s : State) : Outcome := done (localStore g d a 1 imm s)

/-- A common-memory load: asynchronous; it returns the gather's own newest held store to the address,
else the committed word (R161, R164). DEDUCED, log entry 30. -/
def commonLoad (g d a : Nat) (imm : BitVec 16) (s : State) : State :=
  asyncInstr g false [d, a] [] (fun s =>
    let x := gatherOf s g
    let p := loadAddr x.cur a imm
    if 0xFFFFF < p then faultHere g 3 s
    else if p % 4 ≠ 0 then faultHere g 2 s
    else issueAsync g (.ldc (heldStore p x.journal) p) [d] [] s) s

/-- A common-memory store, held in the journal until EPOCH (R161, R164). -/
def commonStore (g d a : Nat) (imm : BitVec 16) (s : State) : State :=
  instruction g false [d, a] [] (fun s =>
    let x := gatherOf s g
    let p := loadAddr x.cur a imm
    if 0xFFFFF < p then faultHere g 3 s
    else if p % 4 ≠ 0 then faultHere g 2 s
    else if journalFull s g then faultHere g 4 s
    else retire g id (journalAdd g (.stc p (getW x.cur d)) s)) s

/-- LDC (R161, R164). -/
def execLdc (g : GatherId) (d a : RegId) (imm : BitVec 16) (s : State) : Outcome := done (commonLoad g d a imm s)

/-- STC (R161, R164). -/
def execStc (g : GatherId) (d a : RegId) (imm : BitVec 16) (s : State) : Outcome := done (commonStore g d a imm s)

end Sys2Proof.Machine
end

