-- ==== Sys2Proof/Machine/Async.lean ====
section
/-! DEFINITION. The geometry instructions and the completion of asynchronous operations
(R146 to R152, R175 to R184). -/
namespace Sys2Proof.Machine

/-- FOOT issues (R178): the footprint into the point pair d, the status into w[c]. -/
def execFoot (g : GatherId) (d a b c : RegId) (s : State) : Outcome :=
  done (asyncInstr g (badPointPair d) [a, b, c] (pairOf d) (fun s =>
    let x := (gatherOf s g).cur
    issueAsync g (.foot (getW x a) (getW x b)) [c] (pairOf d) s) s)

/-- COVQ issues (R179). -/
def execCovq (g : GatherId) (d a b : RegId) (s : State) : Outcome :=
  done (asyncInstr g (badPointPair a) [d, b] (pairOf a) (fun s =>
    let x := (gatherOf s g).cur
    issueAsync g (.covq (getX x a) (getY x a) (getX x (a + 1)) (getY x (a + 1)) (getW x b)) [d] [] s) s)

/-- COVX issues (R180). -/
def execCovx (g : GatherId) (d a b c : RegId) (s : State) : Outcome :=
  done (asyncInstr g false [d, a, b, c] [] (fun s =>
    let x := (gatherOf s g).cur
    issueAsync g (.covx (getW x a) (getW x b) (getW x c)) [d] [] s) s)

/-- ZONQ issues (R181). -/
def execZonq (g : GatherId) (d a b : RegId) (s : State) : Outcome :=
  done (asyncInstr g (badPoint a) [d, b] [a] (fun s =>
    let x := (gatherOf s g).cur
    issueAsync g (.zonq (getX x a) (getY x a) (getW x b)) [d] [] s) s)

/-- EXCL issues (R182). -/
def execExcl (g : GatherId) (d a : RegId) (s : State) : Outcome :=
  done (asyncInstr g (badPointPair a) [d] (pairOf a) (fun s =>
    let x := (gatherOf s g).cur
    issueAsync g (.excl (getX x a) (getY x a) (getX x (a + 1)) (getY x (a + 1))) [d] [] s) s)

/-- COVM issues (R183): UNBOUND for a well-formed word whose index is no descriptor bound to the
gather; it takes a journal entry. -/
def markRemote (g d a b c : Nat) (s : State) : State :=
  asyncInstr g false [d, a, b, c] [] (fun s =>
    let x := gatherOf s g
    let w := getW x.cur a
    let i := bitsOf w 9 0
    let plain := decide (bitsOf w 31 18 = 0) && decide (bitsOf w 15 10 = 0)
    if plain && !(decide (256 ≤ i) && remBound s (i - 256) g) then faultHere g 5 s
    else if journalFull s g then faultHere g 4 s
    else issueAsync g (.covm w (getW x.cur b) (getW x.cur c)) [d] [] (journalAdd g (.mark x.nextTag 0 []) s)) s

/-- COVM (R183). -/
def execCovm (g : GatherId) (d a b c : RegId) (s : State) : Outcome := done (markRemote g d a b c s)

/-- Fill in the marks of the COVM with a tag. -/
def fillMark (tag layer : Nat) (cs : List (Nat × Int × Int)) (j : List JEntry) : List JEntry :=
  j.map (fun e => match e with
    | .mark t l c => if t = tag then .mark t layer cs else .mark t l c
    | e => e)

/-- Operation o of gather g leaves flight and writes its destinations at once (R149): general registers
from a list of values, points from a segment. -/
def finishOp (g : Nat) (o : AsyncOp) (vals : List Word) (p : Option Seg) (s : State) : State :=
  let x := gatherOf s g
  let c := (o.wd.zip vals).foldl (fun c r => setW r.1 r.2 c) x.cur
  let c := match p, o.pd with
    | some q, [d, e] => setP e (mmWord q.bx) (mmWord q.by') (setP d (mmWord q.ax) (mmWord q.ay) c)
    | _, _ => c
  let s := setGather g { x with cur := c, ops := x.ops.filter (fun q => q.tag != o.tag) } s
  { s with eng := { s.eng with completed := (s.eng.completed + 1) % 2 ^ 64 } }

/-- The cells that gather g's coverage queries read: the cell edge and the value of a cell of a layer. -/
def queryCells (s : State) (g layer : Nat) : Nat × (Int → Int → Nat) :=
  let f := (mapsFor s g).field
  (match f with
    | some k => cellEdge s k
    | none => 100, readCell s f layer)

/-- The cells that a coverage query reads under a segment (R179). -/
def cellsUnder (c : Nat) (q : Seg) : List (Int × Int) :=
  if q.ax = q.bx ∧ q.ay = q.by' then [(q.ax / c, q.ay / c)] else (cellParts c q).2.map (fun r => (r.2.2.1, r.2.2.2))

/-- A query's reads of the tiles under a segment: each is fetched if it is not cached, and is the most recently used
one after it (R267). -/
def fetchUnder (s : State) (g layer : Nat) (q : Seg) : State :=
  match (mapsFor s g).field with
  | none => s
  | some f =>
    forAll (fun c s => match cellPlace s f layer c.1 c.2 with
      | some (i, _) => fetchTile i true s
      | none => s) (cellsUnder (cellEdge s f) q) s

/-- Fetch the tiles under the footprints that COVX looks at, from search start h to its result's time t
(R180, R267). DEDUCED, log entry 32. -/
def fetchPath (s : State) (g layer i h t : Nat) : State :=
  let m := mapsFor s g
  let sn := (gatherOf s g).snap
  match (entryOf i).bind (outEntry m) with
  | none => s
  | some e =>
    if snapQuality sn = 0 ∨ 200000 ≤ h then s
    else
      forAll (fun k s => fetchUnder s g layer (footprint m e (snapPose sn) (min 400000 (2 * (h + k) - min k 1)) 200000))
        (List.range (t - h + 2)) s

/-- COVQ's result word (R176, R179). -/
def covqWord (s : State) (g : Nat) (q : Seg) (qw : Word) : Word :=
  if bitsOf qw 31 18 ≠ 0 then 0xFFFFFFFF
  else
    let r := queryCells s g (bitsOf qw 17 16)
    let v := coverShare r.1 r.2 q
    BitVec.ofNat 32 (v.1 + 2 ^ 24 * v.2)

/-- Operation o of gather g completes (R149 to R151); a QPOP waits for a visible word that no earlier pop takes. An index
that names no output counts as an output without a model entry, and FOOT's status without one is 1 alone (DESIGN CHOICE,
log entry 106). -/
def completeOp (g : Nat) (o : AsyncOp) (s : State) : State :=
  let x := gatherOf s g
  match o.kind with
  | .value v => finishOp g o [v] none s
  | .ldc (some v) _ => finishOp g o [v] none s
  | .ldc none a => readWord 0 g (a / 4) (finishOp g o [cmemWord s a] none) s
  | .foot i off =>
    match footResult (mapsFor s g) x.snap i.toNat off.toNat with
    | none => finishOp g o [1] (some ⟨0, 0, 0, 0⟩) (noModel s)
    | some (q, st) => finishOp g o [BitVec.ofNat 32 st] (some q) s
  | .covq x0 y0 x1 y1 qw =>
    let q : Seg := ⟨x0.toInt, y0.toInt, x1.toInt, y1.toInt⟩
    let s := if bitsOf qw 31 18 = 0 then fetchUnder s g (bitsOf qw 17 16) q else s
    finishOp g o [covqWord s g q qw] none s
  | .covx i qw st =>
    if bitsOf qw 31 18 ≠ 0 then finishOp g o [0xFFFFFFFF] none s
    else
      let r := queryCells s g (bitsOf qw 17 16)
      match covxResult (mapsFor s g) r.1 r.2 x.snap i.toNat (bitsOf qw 15 0) st.toNat with
      | none => finishOp g o [0] none (noModel s)
      | some v => finishOp g o [v] none (fetchPath s g (bitsOf qw 17 16) i.toNat st.toNat (bitsOf v 28 0))
  | .zonq e n l => finishOp g o [zoneResult (mapsFor s g) e.toInt n.toInt (bitsOf l 1 0)] none s
  | .excl x0 y0 x1 y1 => finishOp g o [exclResult (mapsFor s g) ⟨x0.toInt, y0.toInt, x1.toInt, y1.toInt⟩] none s
  | .covm w t0 t1 =>
    let r := covmResult s g w t0 t1
    let s := if r.1 = 5 then noModel s else s
    let s := setGather g { gatherOf s g with journal := fillMark o.tag r.2.1 r.2.2 (gatherOf s g).journal } s
    finishOp g o [BitVec.ofNat 32 r.1] none s
  | .qpop q n =>
    match popProv g (popsBefore s q n) (queueOf s q).slots with
    | none => s
    | some (v, ws) =>
      finishOp g o [loWord v.toNat, hiWord v.toNat] none (setQueue q { queueOf s q with slots := ws } s)

/-- ASYNC_COMPLETION: the k-th operation in flight of gather g, in order of issue, completes (R149). -/
def asyncCompletion (g k : Nat) (s : State) : State :=
  match (gatherOf s g).ops[k]? with
  | none => s
  | some o => completeOp g o s

/-- ASYNC_COMPLETION (R149). -/
def execAsyncCompletion (g : GatherId) (k : Fin 8) (s : State) : Outcome := done (asyncCompletion g k s)

end Sys2Proof.Machine
end

