-- ==== Sys2Proof/Machine/Gathers.lean ====
section
/-! DEFINITION. EPOCH, waits, and the states of a gather: start, stop, wake, rewind, hold window
(R194 to R197, R203 to R226, R545 to R549). -/
namespace Sys2Proof.Machine

/-- A held record reaches the collector (R194, R197): source the gather's number, the first 8 of its 32
data bytes the pair. -/
def handLog (g sev code : Nat) (lo hi : Word) (s : State) : State :=
  raiseEvent { sev := sev, cls := 0, inst := g, kind := .log, vals := [], code := some code, bytes := leBytes 8 (lo.toNat + 2 ^ 32 * hi.toNat) ++ List.replicate 24 0 } s

/-- The held stores reach common memory in program order (R164). -/
def commitStores : List JEntry → State → State
  | [], s => s
  | .stc a v :: t, s => commitStores t (cmemWrite a v s)
  | _ :: t, s => commitStores t s

/-- The held marks reach Onyx (R183). -/
def commitMarks : List JEntry → State → State
  | [], s => s
  | .mark _ l cs :: t, s => commitMarks t (markCells l cs s)
  | _ :: t, s => commitMarks t s

/-- The held records reach the collector. -/
def commitLogs (g : Nat) : List JEntry → State → State
  | [], s => s
  | .log sev code lo hi :: t, s => commitLogs g t (handLog g sev code lo hi s)
  | _ :: t, s => commitLogs g t s

/-- Steps 2 to 7 of EPOCH as one commit (R194), with the wait that follows it; the row of rewinds ends
(R216). -/
def commitEpoch (g : Nat) (w : GWait) (s : State) : State :=
  let j := (gatherOf s g).journal
  let s := commitLogs g j (commitMarks j (commitStores j s))
  let s := forAll (epochQueue g) gatherQueues s
  let x := gatherOf s g
  setGather g { x with journal := [], com := x.cur, row := 0, waiting := w } s

/-- An instruction that begins with EPOCH (R193, R194): it waits until nothing is in flight, completes,
commits, and then does the rest. -/
def epochThen (g : Nat) (w : GWait) (rest : State → State) (s : State) : State :=
  if (gatherOf s g).ops.isEmpty then rest (commitEpoch g w (retire g id s)) else stallAs g 3 s

/-- Set the state of a gather. -/
def setPhase' (g : Nat) (p : GPhase) (s : State) : State := setGather g { gatherOf s g with phase := p } s

/-- EPOCH (R194). -/
def execEpoch (g : GatherId) (s : State) : Outcome :=
  done (instruction g false [] [] (epochThen g .none id) s)

/-- Count the ticks that passed since the gather's last wake (R29, R218). -/
def countMissed (g : Nat) (s : State) : State :=
  let x := (gatherOf s g).bankTicks s.eng.ticks
  fsat (setGather g { x with missed := 0 } s) (F.G_MISSED_COUNT g) x.missed

/-- WAITT (R28, R29, R193). -/
def execWaitt (g : GatherId) (s : State) : Outcome :=
  done (instruction g false [] [] (epochThen g .tick (fun s => setPhase' g .waitTick (countMissed g s))) s)

/-- End a wait before it begins (R196). -/
def noWait (g : Nat) (s : State) : State := setGather g { gatherOf s g with waiting := .none } s

/-- WAITM (R193, R196): the pair holds the target. -/
def waitTime (g a : Nat) (s : State) : State :=
  instruction g (oddPair a) (pairOf a) [] (fun s =>
    let t := getPair (gatherOf s g).cur a
    epochThen g (.time t) (fun s => if t ≤ s.mtime then noWait g s else setPhase' g .waitTime s) s) s

/-- WAITM (R193). -/
def execWaitm (g : GatherId) (a : RegId) (s : State) : Outcome := done (waitTime g a s)

/-- WAITQ (R187, R193, R196). -/
def waitQueue (g q : Nat) (s : State) : State :=
  instruction g false [] [] (fun s =>
    if !popBound s g q then faultHere g 5 s
    else epochThen g (.queue q) (fun s => if 0 < visible s q then noWait g s else setPhase' g .waitQueue s) s) s

/-- WAITQ (R193). -/
def execWaitq (g : GatherId) (q : QId) (s : State) : Outcome := done (waitQueue g q s)

/-- HALT (R193, R225): every output and event stays; a severity 2 record. -/
def execHalt (g : GatherId) (s : State) : Outcome :=
  done (instruction g false [] [] (epochThen g .none (fun s => raise 2 0 g .gatherStopped [(g : Nat)] (setGather g { (gatherOf s g).bankTicks s.eng.ticks with phase := .halted } s))) s)

/-- FENCE (R193). -/
def execFence (g : GatherId) (s : State) : Outcome :=
  done (instruction g false [] [] (fun s =>
    if (gatherOf s g).ops.isEmpty then retire g id s else stallAs g 2 s) s)

/-- WAITA (R193). -/
def execWaita (g : GatherId) (d : RegId) (s : State) : Outcome :=
  done (instruction g false [] [] (fun s =>
    if meetsPending (gatherOf s g) [d] [] then stallAs g 2 s else retire g id s) s)

/-- NOP (R193). -/
def execNop (g : GatherId) (s : State) : Outcome := done (coreInstr g false [] [] id s)

/-- PRIO (R193, R208). -/
def execPrio (g : GatherId) (p : Fin 8) (s : State) : Outcome :=
  done (coreInstr g false [] [] (fun c => { c with prio := p }) s)

/-- LOG (R197): held in the journal; severities 5 to 7 are illegal. -/
def logRecord (g d sev code : Nat) (s : State) : State :=
  instruction g (oddPair d || decide (5 ≤ sev)) (pairOf d) [] (fun s =>
    if journalFull s g then faultHere g 4 s
    else
      let c := (gatherOf s g).cur
      retire g id (journalAdd g (.log sev code (getW c d) (getW c (d + 1))) s)) s

/-- LOG (R197). -/
def execLog (g : GatherId) (d : RegId) (sev : Fin 8) (code : Fin 2048) (s : State) : Outcome := done (logRecord g d sev code s)

/-- WAITM_WAKE (R226): MTIME reaches the target. -/
def waitmWake (g : Nat) (s : State) : State :=
  let x := gatherOf s g
  match x.phase, x.waiting with
  | .waitTime, .time t => setGather g { x with phase := .run, waiting := .none } (atTime t s)
  | _, _ => s

/-- WAITQ_WAKE (R226): a word is visible. -/
def waitqWake (g : Nat) (s : State) : State :=
  let x := gatherOf s g
  match x.phase, x.waiting with
  | .waitQueue, .queue q => if 0 < visible s q then setGather g { x with phase := .run, waiting := .none } s else s
  | _, _ => s

/-- WAITM_WAKE (R226). -/
def execWaitmWake (g : GatherId) (s : State) : Outcome := done (waitmWake g s)
/-- WAITQ_WAKE (R226). -/
def execWaitqWake (g : GatherId) (s : State) : Outcome := done (waitqWake g s)

/-- The state of a program page (R234). -/
def pageState (s : State) (k : Nat) : Nat := bitsOf (rd s (A.PAGE_STATE (k / 16))) (2 * (k % 16) + 1) (2 * (k % 16))
/-- Set the state of a program page. -/
def setPage (k v : Nat) (s : State) : State :=
  wr s (A.PAGE_STATE (k / 16)) (withBits (rd s (A.PAGE_STATE (k / 16))) (2 * (k % 16) + 1) (2 * (k % 16)) v)
/-- The pages of gather g's region. -/
def regionPages (s : State) (g : Nat) : List Nat :=
  (List.range 64).filter (fun k => decide (fget s (F.G_REGION_FIRST g) ≤ k) && decide (k ≤ fget s (F.G_REGION_LAST g)))

/-- Whether the bindings of gather g fail a condition of R221. -/
def regionBad (s : State) (g : Nat) : Bool :=
  !flag s (F.G_REGION_VALID g) || (regionPages s g).any (fun k => decide (pageState s k < 2)) ||
    !inRegion s g (fget s (F.G_ENTRY_ENTRY g)) ||
    (flag s F.OEM_KEY_CTRL_LOCKED && (regionPages s g).any (fun k => decide (pageState s k = 3)))

/-- Whether START of gather g is refused (R221, R578), or the engine stands in reset. -/
def startRefused (s : State) (g : Nat) : Bool :=
  gRunning s g || regionBad s g || s.start.halted || s.start.engineAt.isSome || s.start.engineHeld

/-- START (R220): the gather in its first committed state. It reads the last complete snapshot (R170; DESIGN CHOICE, log
entry 104). -/
def startGather (g : Nat) (s : State) : State :=
  let x := gatherOf s g
  let c : Core := { Core.init with pc := fget s (F.G_ENTRY_ENTRY g), prio := fget s (F.G_CTRL_PRIO g) }
  let x := { Gather.init with phase := .starting, cur := c, com := c, lmem := if flag s (F.G_CTRL_KEEP_LMEM g) then x.lmem else [], nextTag := x.nextTag, snap := s.eng.snap, snapTick := s.eng.snapTick, lastNow := x.lastNow, tickSeen := s.eng.ticks, missed := x.missed }
  let s := dropQueueWork g (setGather g x s)
  let s := fset (fset (fset s (F.G_JHW_HIGH g) 0) (F.G_FAULT_CODE g) 0) (F.G_FAULT_PC g) 0
  fset s (F.G_FAULT_HOLD g) 0

/-- Gather g returns to its last committed state (R139, R163, R188, R189). -/
def restoreGather (g : Nat) (s : State) : State :=
  let x := gatherOf s g
  let x := { x with cur := x.com, ops := [], lmem := undoStores x.journal x.lmem, journal := [], stall := 0 }
  rewindQueueWork g (setGather g x s)

/-- STOP (R222). -/
def stopGather (g : Nat) (s : State) : State :=
  match (gatherOf s g).phase with
  | .stopped => s
  | .halted | .fault => setPhase' g .stopped s
  | _ =>
    let s := restoreGather g s
    setGather g { (gatherOf s g).bankTicks s.eng.ticks with phase := .stopped, waiting := .none } s

/-- STARTING_COMPLETE (R226). -/
def startingComplete (g : Nat) (s : State) : State :=
  if (gatherOf s g).phase = .starting then setPhase' g .run s else s

/-- STARTING_COMPLETE (R226). -/
def execStartingComplete (g : GatherId) (s : State) : Outcome := done (startingComplete g s)

/-- The outputs for which a fault of gather g started the hold window and that stayed armed since (R224). -/
def heldBy (s : State) (g : Nat) : List Nat := (List.range 84).filter (fun n => armed s n && (outOf s n).holds.contains g)
/-- GATHER_HOLD_WINDOW_END (R223, R224): unless the gather runs again, the outputs that stayed armed
take their posture and are disarmed. -/
def gatherHoldEnd (g : Nat) (s : State) : State :=
  let x := gatherOf s g
  match x.holdEnd with
  | none => s
  | some t =>
    let s := atTime t s
    let outs := if x.phase.isRunning then [] else heldBy s g
    let s := forAll disarmByPosture outs s
    let s := fset (setGather g { x with holdEnd := none } s) (F.G_FAULT_HOLD g) 0
    if outs.isEmpty then s
    else raise 4 0 g .postured [g, outs.length] (fset s (F.G_FAULT_POSTURED g) 1)

/-- GATHER_HOLD_WINDOW_END (R224). -/
def execGatherHoldWindowEnd (g : GatherId) (s : State) : Outcome := done (gatherHoldEnd g s)

end Sys2Proof.Machine
end

