-- ==== Sys2Proof/Machine/Loader.lean ====
section
/-! DEFINITION. Program memory: pages, loads, VERIFY and release (R229, R234 to R241). -/
namespace Sys2Proof.Machine

/-- The pages of a run of words. -/
def pagesOf (base len : Nat) : List Nat :=
  (List.range 64).filter (fun k => decide (base / 4096 ≤ k) && decide (k ≤ (base + len - 1) / 4096) && decide (0 < len))
/-- The pages of the load range. -/
def loadPages (s : State) : List Nat := pagesOf (fget s F.LOAD_BASE_BASE) (fget s F.LOAD_LEN_LEN)

/-- Zero a page. -/
def zeroPage (k : Nat) (s : State) : State :=
  { s with eng := { s.eng with prog := s.eng.prog.filter (fun p => p.1 / 4096 != k) } }
/-- Return a page to FREE, zeroed. -/
def freePage (k : Nat) (s : State) : State := setPage k 0 (zeroPage k s)

/-- Why OPEN is refused (R236). -/
def openRefused (s : State) : Bool :=
  let b := fget s F.LOAD_BASE_BASE
  let n := fget s F.LOAD_LEN_LEN
  flag s F.LOAD_STAT_OPEN_ACTIVE || decide (b % 4096 ≠ 0) || decide (262144 < b + n) || decide (n = 0) ||
    (loadPages s).any (fun k => pageState s k != 0)

/-- OPEN (R235). -/
def openLoad (s : State) : State :=
  fset (forAll (fun k s => setPage k 1 (zeroPage k s)) (loadPages s) s) F.LOAD_STAT_OPEN_ACTIVE 1

/-- Whether a window write to word i is refused (R234, R239). -/
def windowRefused (s : State) (i : Nat) : Bool :=
  let b := fget s F.LOAD_BASE_BASE
  flag s F.LOAD_STAT_BUSY || !flag s F.LOAD_STAT_OPEN_ACTIVE || pageState s (i / 4096) != 1 ||
    !(decide (b ≤ i) && decide (i < b + fget s F.LOAD_LEN_LEN))

/-- A write through the load window (R234). -/
def writeProg (i : Nat) (v : Word) (s : State) : State :=
  { s with eng := { s.eng with prog := tabSet (fun _ => 0) s.eng.prog i v } }

/-- The words of a run of program memory. -/
def progWords (s : State) (base len : Nat) : List Word := (List.range len).map (fun i => progWord s (base + i))

/-- The digest that VERIFY computes (R237). -/
def loadDigest (s : State) (base len : Nat) : List Byte :=
  sha256 (wordLe (BitVec.ofNat 32 base) ++ wordLe (BitVec.ofNat 32 len) ++ wordsLe (progWords s base len))

/-- The bytes of a bank of n registers. -/
def bankBytes (s : State) (a : Nat → Nat) (n : Nat) : List Byte := wordsLe ((List.range n).map (fun i => rd s (a i)))

/-- VERIFY starts (R239); the time it may take. -/
def startVerify (signed : Bool) (s : State) : State :=
  let kb := (8 + 4 * fget s F.LOAD_LEN_LEN) / 1024 + 1
  let due := s.mtime + ms / 10 + kb * (53 * us / 10) + (if signed then 20 * ms else 0)
  fset { s with eng := { s.eng with verify := some signed, verifyDue := due } } F.LOAD_STAT_BUSY 1

/-- The result of VERIFY (R238): the checks in their order. -/
def verifyResult (s : State) (signed : Bool) (digest : List Byte) : Nat :=
  let locked := flag s F.OEM_KEY_CTRL_LOCKED
  let key := bankBytes s A.LOAD_KEY 16
  let sig := bankBytes s A.LOAD_SIG 16
  if digest ≠ bankBytes s A.LOAD_DIGEST 8 then 3
  else if locked && !signed then 6
  else if locked && decide (sha256 key ≠ wordsLe s.nv.oemHash) then 4
  else if locked && !ecdsaValid (beNat digest) (beNat (sig.take 32)) (beNat (sig.drop 32)) (beNat (key.take 32)) (beNat (key.drop 32)) then 5
  else if locked then 1 else 2

/-- The load closes. -/
def closeLoad (r : Nat) (s : State) : State :=
  let s := { s with eng := { s.eng with verify := none } }
  fset (fset (fset s F.LOAD_STAT_RESULT r) F.LOAD_STAT_BUSY 0) F.LOAD_STAT_OPEN_ACTIVE 0

/-- LOAD_VERIFY_DONE (R237, R238). -/
def verifyDone (s : State) : State :=
  match s.eng.verify with
  | none => s
  | some signed =>
    let b := fget s F.LOAD_BASE_BASE
    let n := fget s F.LOAD_LEN_LEN
    let d := loadDigest s b n
    let r := verifyResult s signed d
    let s := wr s A.LOAD_CRC (crc32c (wordsLe (progWords s b n)))
    let vals := [(b : Int), n] ++ (d.take 8).map (fun x => (x.toNat : Int))
    if r = 1 ∨ r = 2 then
      let s := forAll (fun k s => setPage k (r + 1) s) (loadPages s) s
      let s := { s with eng := { s.eng with regions := s.eng.regions ++ [(b, n)] } }
      raise 2 12 5 .load vals (closeLoad r s)
    else
      raise 4 12 5 .loadFail vals (closeLoad r (forAll freePage (loadPages s) s))

/-- ABORT (R236, R239): the pages of the open load return to FREE. -/
def abortLoad (s : State) : State :=
  if flag s F.LOAD_STAT_OPEN_ACTIVE then closeLoad 7 (forAll freePage (loadPages s) s) else s

/-- The pages that PAGE_RELEASE names. -/
def releasePages (s : State) : List Nat :=
  (List.range 64).filter (fun k => decide (fget s F.PAGE_RELEASE_FIRST ≤ k) && decide (k ≤ fget s F.PAGE_RELEASE_LAST))

/-- Whether PAGE_RELEASE.GO of pages is refused (R240). -/
def releaseRefused (s : State) (ps : List Nat) : Bool :=
  ps.any (fun k => pageState s k == 1) ||
    (List.range 128).any (fun g => gRunning s g && (regionPages s g).any (fun k => ps.contains k))

/-- PAGE_RELEASE.GO (R240). -/
def releaseRun (s : State) : State :=
  let ps := releasePages s
  let s := forAll freePage ps s
  { s with eng := { s.eng with regions := s.eng.regions.filter (fun r => !(pagesOf r.1 r.2).any (fun k => ps.contains k)) } }

/-- LOAD_VERIFY_DONE (R238). -/
def execLoadVerifyDone (s : State) : Outcome := done (verifyDone s)

end Sys2Proof.Machine
end

