-- ==== Sys2Proof/Machine/Feedback.lean ====
section
/-! DEFINITION. Feedback inputs, position compares, SSI, analog inputs, joint angles, pass-through pins (R252, R253, R455
to R480). -/
namespace Sys2Proof.Machine

/-- Feedback input n beyond its registers. -/
def fbOf (s : State) (n : Nat) : FbIn := tabGet (fun _ => FbIn.init) s.fb.ins n
/-- Replace feedback input n beyond its registers. -/
def setFb (n : Nat) (x : FbIn) (s : State) : State :=
  { s with fb := { s.fb with ins := tabSet (fun _ => FbIn.init) s.fb.ins n x } }
/-- Analog input m beyond its registers. -/
def aiOf (s : State) (m : Nat) : AiIn := tabGet (fun _ => AiIn.init) s.fb.ais m
/-- Replace analog input m beyond its registers. -/
def setAi (m : Nat) (x : AiIn) (s : State) : State :=
  { s with fb := { s.fb with ais := tabSet (fun _ => AiIn.init) s.fb.ais m x } }
/-- Pass-through pin p beyond its registers. -/
def ptOf (s : State) (p : Nat) : PtPin := tabGet (fun _ => PtPin.init) s.fb.pts p
/-- Replace pass-through pin p beyond its registers. -/
def setPt (p : Nat) (x : PtPin) (s : State) : State :=
  { s with fb := { s.fb with pts := tabSet (fun _ => PtPin.init) s.fb.pts p x } }

/-- The mode of input n (R457). -/
def fbMode (s : State) (n : Nat) : Nat :=
  if n % 2 = 1 ∧ 2 ≤ fget s (F.FB_CFG_MODE (n - 1)) ∧ fget s (F.FB_CFG_MODE (n - 1)) ≤ 4 then 6 else fget s (F.FB_CFG_MODE n)
/-- Whether pin p is taken over as the clock of an SSI input, not counting input n (R473). -/
def ptTaken (s : State) (p n : Nat) : Bool :=
  (List.range 24).any (fun k => k != n && decide (fbMode s k = 5) && decide (fget s (F.FB_SSI_PT k) = p))
/-- The source of pin p as it reads: an SSI clock while an input has taken it over (R473). -/
def ptSrc (s : State) (p : Nat) : Nat := if ptTaken s p 24 then 4 else fget s (F.PT_CFG_SRC p)
/-- The input that counts for line n: its even partner if it is paired (R458). -/
def fbOwner (s : State) (n : Nat) : Nat := if fbMode s n = 6 ∧ n % 2 = 1 then n - 1 else n
/-- Counts in a period between timing edges (R464). -/
def countsOf (s : State) (n : Nat) : Nat := if fbMode s n = 2 then 4 else 1
/-- The state code of a state record (R468). -/
def fbState (s : State) (n : Nat) : Nat :=
  if flag s (F.FB_STAT_FAULTY n) then 3 else if flag s (F.FB_STAT_RANGE n) then 2 else if flag s (F.FB_STAT_STALE n) then 1 else 0
/-- Saturate at ±32,767. -/
def sat16 (v : Int) : Int := max (-32767) (min v 32767)

/-- The periods that give the speed at an instant (R464): those that ended within the last AVG ms, or
the last alone. DEDUCED, log entry 45. -/
def speedPeriods (x : FbIn) (avg now : Nat) : List (Nat × Nat) :=
  let ps := x.periods.filter (fun p => decide (avg ≠ 0) && decide (now < p.1 + avg * ms + 1))
  if ps.isEmpty then x.periods.take 1 else ps

/-- The speed of input n now (R464, R465, R467). -/
def speedNow (s : State) (n : Nat) : Int :=
  let x := fbOf s n
  if fbState s n ≠ 0 ∨ !flag s (F.FB_CFG_TIMED n) then 0
  else if flag s (F.FB_STAT_REV_HOLD n) then fgetS s (F.FB_SPEED_SPEED n)
  else
    let ps := speedPeriods x (fget s (F.FB_CFG_AVG n)) s.mtime
    let sum := (ps.map (·.2)).sum
    let k : Int := fget s (F.FB_SCALE_SCALE n) * countsOf s n * sec
    if sum = 0 then 0
    else
      let v := roundHalfAway (k * ps.length) (65536 * sum)
      let quiet := match x.timing with | some t => s.mtime - t | none => 0
      let last := (x.periods.headD (0, 0)).2
      let v := if last < quiet then min v (roundHalfAway k (65536 * quiet)) else v
      let v := min v 32767
      if flag s (F.FB_STAT_DIR n) && decide (fbMode s n ≠ 1) then -v else v

/-- The flags of a record of input n (R468). -/
def fbFlags (s : State) (n : Nat) (rev late : Bool) (k : Nat) : Nat :=
  let b (v : Bool) (i : Nat) : Nat := if v then 2 ^ i else 0
  b (flag s (F.FB_STAT_STALE n)) 0 + b rev 1 + b late 2 + b (flag s (F.FB_STAT_DIR n)) 3 +
    b (flag s (F.FB_STAT_RANGE n)) 4 + b (flag s (F.FB_STAT_FAULTY n)) 5 + 64 * k

/-- A record of input n enters its queue (R468). -/
def fbRecord (n kind t flags hi : Nat) (s : State) : State :=
  let w := fget s (F.FB_COUNT_COUNT n) + 2 ^ 32 * (hi % 65536) + 2 ^ 48 * flags + 2 ^ 56 * kind + 2 ^ 59 * n
  deliver (99 + n / 6) [BitVec.ofNat 64 t, BitVec.ofNat 64 w] s

/-- A speed as 16 bits. -/
def speedBits (v : Int) : Nat := (v % 65536).toNat

/-- A state record at each change of state (R469). -/
def noteFbState (n t : Nat) (s : State) : State :=
  let c := fbState s n
  if (fbOf s n).said = c then s
  else fbRecord n 3 t (fbFlags s n false false 0) c (setFb n { fbOf s n with said := c } s)

/-- Note that the speed of input n is at least 0.1 m/s at MTIME t, and for how long R465 alone lets it stay
so (R130). -/
def noteFast (n t : Nat) (s : State) : State :=
  if (speedNow s n).natAbs < 100 then s
  else
    let stay := fget s (F.FB_SCALE_SCALE n) * countsOf s n * sec / 6553600
    setFb n { fbOf s n with fastUntil := some (t + stay) } s

/-- Forget the periods of input n; its speed is zero until a new one. -/
def dropPeriods (n : Nat) (s : State) : State :=
  let s := if (speedNow s n).natAbs < 100 then s else setFb n { fbOf s n with fastUntil := some s.mtime } s
  fset (fset (setFb n { fbOf s n with periods := [], timing := none, skip := false } s) (F.FB_STAT_REV_HOLD n) 0) (F.FB_SPEED_SPEED n) 0

/-- Start the pulse of every pin set to compare k of input n (R470, R476). -/
def comparePulse (n k t : Nat) (s : State) : State :=
  forAll (fun p s =>
    if ptSrc s p = 5 ∧ fget s (F.PT_CFG_INPUT p) = n ∧ fget s (F.PT_CFG_CMP p) = k then
      setPt p { ptOf s p with pulseEnd := some (t + fget s (F.PT_CFG_WIDTH p) * (ms / 10)) } s
    else s) (List.range 8) s

/-- Whether compare k of input n is enabled. -/
def cmpEnabled (s : State) (n k : Nat) : Bool := decide (fget s (F.FB_CMPCTRL_EN n) / 2 ^ k % 2 = 1)
/-- How far the value of compare k lies ahead of the count, as a signed 32-bit difference. -/
def cmpAhead (s : State) (n k : Nat) : Int :=
  (rd s (A.FB_CMPVAL n k) - rd s (A.FB_COUNT n)).toInt
/-- The distance by which compare k lies behind the count in the direction of the last counted edge, if it
does (R471). -/
def cmpBehind (s : State) (n k : Nat) : Option Nat :=
  let d := cmpAhead s n k
  if !(fbOf s n).moved then none
  else if flag s (F.FB_STAT_DIR n) then (if 0 ≤ d then some d.toNat else none)
  else (if d ≤ 0 then some (-d).toNat else none)

/-- Compare k of input n fires at MTIME t (R470, R471). -/
def fireCompare (n k t : Nat) (late : Bool) (dist : Nat) (s : State) : State :=
  let s := fset s (F.FB_STAT_CMP_FIRED n) (fget s (F.FB_STAT_CMP_FIRED n) ||| 2 ^ k)
  let s := if late then
      let s := fset s (F.FB_STAT_CMP_LATE n) (fget s (F.FB_STAT_CMP_LATE n) ||| 2 ^ k)
      fset s (F.FB_CMPLATE_DIST n k) (min dist 65535)
    else s
  let s := fbRecord n 2 t (fbFlags s n false late k) (min dist 65535) s
  let s := comparePulse n k t s
  let step := rd s (A.FB_CMPSTEP n k)
  if step = 0 then fset s (F.FB_CMPCTRL_EN n) (fget s (F.FB_CMPCTRL_EN n) - 2 ^ k)
  else wr s (A.FB_CMPVAL n k) (rd s (A.FB_CMPVAL n k) + step)

/-- Judge compare k of input n up to n' + 1 times: a value behind fires late at once and steps again (R471, R472). -/
def judgeTimes (n k t : Nat) : Nat → State → State
  | 0, s => s
  | f + 1, s =>
    if !cmpEnabled s n k then s
    else match cmpBehind s n k with
      | none => s
      | some d => judgeTimes n k t f (fireCompare n k t true d s)

/-- Judge compare k of input n at MTIME t (R471). The value passes the whole range of the count at most
once, which bounds its firings. -/
def judgeCompare (n k t : Nat) (s : State) : State :=
  let st := (rd s (A.FB_CMPSTEP n k)).toInt.natAbs
  judgeTimes n k t (2 ^ 32 / max st 1 + 2) s

/-- Whether a move of the count from c to the present count by way of d brings it onto or across value v. -/
def movesOver (c d v : Int) : Bool :=
  if 0 < d then decide (c < v) && decide (v ≤ c + d) else if d < 0 then decide (v < c) && decide (c + d ≤ v) else false

/-- An edge, or an SSI frame, moved the count by d from word c: compares fire (R470), and re-stepped ones
are judged again (R472). DEDUCED, log entry 46. -/
def moveCompares (n t : Nat) (c : Word) (d : Int) (s : State) : State :=
  forAll (fun k s =>
    let v := (rd s (A.FB_CMPVAL n k) - c).toInt
    if cmpEnabled s n k && movesOver 0 d v then
      judgeCompare n k t (fireCompare n k t false (d - v).natAbs s)
    else s) (List.range 4) s

/-- The range check of input o fails (R462). -/
def failRange (o t : Nat) (s : State) : State :=
  if flag s (F.FB_STAT_RANGE o) then s
  else
    let s := fset (fset (fset (dropPeriods o s) (F.FB_STAT_RANGE o) 1) (F.FB_STAT_RANGE_SEEN o) 1) (F.FB_STAT_STALE o) 1
    noteFbState o t (raise 2 6 o .fbRange [o] (fsat s (F.FB_ERRCNT_RANGE_ERR o) 1))

/-- Check one change of line l of input o at MTIME t, counted or not (R462); the line's times step on. -/
def checkLine (o l t : Nat) (isCounted : Bool) (s : State) : State :=
  let x := fbOf s l
  let minw := fget s (F.FB_CHK_MINW o) * (us / 10)
  let short := match x.change with | some c => decide (t - c < minw) | none => false
  let fast := match x.counted with
    | some c => isCounted && decide ((t - c) * (100 * fget s (F.FB_CHK_FMAX o)) < sec)
    | none => false
  let bad := short || (isCounted && x.viol) || fast
  let full := x.counted.isSome
  let s := setFb l { x with change := some t, counted := if isCounted then some t else x.counted,
                            viol := if isCounted then false else x.viol || short } s
  if bad then failRange o t s
  else if isCounted && full then fset s (F.FB_STAT_RANGE o) 0 else s

/-- The angle that joint k's source gives, if it is good (R252, R253). -/
def jointAngle (s : State) (m : MapSet) (k : Nat) : Option Int :=
  let b := 16 + 8 * (k - 1)
  let c := modelWord m b
  let n := bitsOf c 20 16
  let scale := (modelWord m (b + 5)).toInt
  let off := (modelWord m (b + 6)).toInt
  let al (x : Int) : Option Int :=
    let a := off + roundHalfAway (scale * x) 65536
    if (a.natAbs : Int) ≤ (modelWord m (b + 7)).toNat then some a else none
  match bitsOf c 9 8 with
  | 0 => some off
  | 3 => if flag s (F.AI_STAT_STALE n) || flag s (F.AI_STAT_RANGE n) then none else al (fget s (F.AI_VAL_CODE n))
  | _ => if flag s (F.FB_STAT_STALE n) then none else al (rd s (A.FB_COUNT n)).toInt

/-- The joint angles now, with their stale bits: a joint without a good angle holds the last one delivered (R253). -/
def jointsNow (s : State) : List (Int × Bool) :=
  let m := s.maps.active
  [1, 2, 3].map (fun k =>
    if k < bitsOf (modelWord m 1) 2 0 then
      match jointAngle s m k with
      | some a => (a, false)
      | none => ((s.marker.joints.getD (k - 1) (0, false)).1, true)
    else (0, false))

/-- A source has delivered a value: the joints take what is good of it (R253). -/
def noteJoints (s : State) : State := { s with marker := { s.marker with joints := jointsNow s } }

/-- Whether a sensor supply gives no power: it is folded back (R75), or SNS_PWR is switched off for a change of its level (R478). -/
def supplyDown (s : State) (k : Nat) : Bool :=
  (decide (k = 1) && s.sup.sns5Fold) || (decide (k = 2) && (s.sup.snsPwrFold || s.fb.snsOffEnd.isSome))
/-- Whether input i, FB inputs before analog inputs, is powered from such a supply: none of its values is good (R75). -/
def inputDown (s : State) (i : Nat) : Bool := supplyDown s (Config.inputSupply i)

/-- A timing edge of input n at MTIME t (R464, R467): a period ends. -/
def timingEdge (n t : Nat) (reversal : Bool) (s : State) : State :=
  let x := fbOf s n
  let s' := setFb n { x with timing := some t, skip := reversal } s
  match x.timing with
  | none => s'
  | some t0 =>
    if x.skip ∨ reversal ∨ t ≤ t0 then s'
    else
      let s := onlyIf (decide (100 ≤ (speedNow s n).natAbs)) (fun s => setFb n { fbOf s n with fastUntil := some t } s) s
      let s := setFb n { fbOf s n with timing := some t, periods := (t, t - t0) :: x.periods.filter (fun p => decide (t < p.1 + 256 * ms)) } s
      let s := wr (fset s (F.FB_STAT_REV_HOLD n) 0) (A.FB_PERIOD n) (BitVec.ofNat 32 ((t - t0) * 25 / 2560))
      noteFast n t (fsetSat s (F.FB_SPEED_SPEED n) (speedNow s n))

/-- A counted edge of input n at MTIME t (R459, R463, R464, R466, R467, R470). -/
def countEdge (n t : Nat) (d : Int) (timing : Bool) (s : State) : State :=
  let x := fbOf s n
  let timed := flag s (F.FB_CFG_TIMED n)
  let rev := x.moved && (flag s (F.FB_STAT_DIR n) != decide (d < 0))
  let held := speedNow s n
  let c := rd s (A.FB_COUNT n)
  let s := wr s (A.FB_COUNT n) (c + wordOf d)
  let s := setFb n { x with lastCount := some t, moved := true, skip := x.skip || (rev && timed), revFlag := x.revFlag || (rev && timed) } s
  let s := fset (fbool s (F.FB_STAT_DIR n) (decide (d < 0))) (F.FB_STAT_STALE n) 0
  let s := noteFbState n t s
  let s := if rev then
      if timed then fset (fsetSat s (F.FB_SPEED_SPEED n) held) (F.FB_STAT_REV_HOLD n) 1
      else fbRecord n 1 t (fbFlags s n true false 0) 0 (fset s (F.FB_STAT_DIR_CHG n) 1)
    else s
  let s := onlyIf (timing && timed) (timingEdge n t rev) s
  noteJoints (moveCompares n t c d s)

/-- A phase error of input n at MTIME t (R460, R461). -/
def phaseError (n t : Nat) (s : State) : State :=
  let x := fbOf s n
  let errs := t :: x.errs.filter (fun u => decide (t < u + sec))
  let s := setFb n { x with errs := errs, skip := true } s
  let s := raise 2 6 n .fbPhase [n] (fsat s (F.FB_ERRCNT_PHASE_ERR n) 1)
  if errs.length < 16 ∨ flag s (F.FB_STAT_FAULTY n) then s
  else
    let s := fset (fset (dropPeriods n s) (F.FB_STAT_FAULTY n) 1) (F.FB_STAT_STALE n) 1
    noteFbState n t (raise 3 6 n .fbFaulty [n] s)

/-- What an accepted change does in the mode of input o (R457, R459, R460): the count's step, whether it is
a timing edge, whether it is a phase error. l is the line, both whether the pair's other line changes in the
same sample. -/
def edgeOf (s : State) (o l : Nat) (both : Bool) : Option (Int × Bool) × Bool :=
  let a := flag s (F.FB_STAT_LINE o)
  let b := flag s (F.FB_STAT_LINE (o + 1))
  match fbMode s o with
  | 1 =>
    match fget s (F.FB_CFG_EDGE o), a with
    | 0, true => (some (1, true), false)
    | 1, false => (some (1, true), false)
    | 2, _ => (some (1, true), false)
    | _, _ => (none, false)
  | 2 =>
    if both then (none, true)
    else if l = o then (some (if a != b then 1 else -1, a), false)
    else (some (if a == b then 1 else -1, false), false)
  | 3 => if (l = o ∨ both) ∧ a then (some (if (b != both) then -1 else 1, true), false) else (none, false)
  | 4 =>
    let up := (decide (l = o) || both) && a
    let down := (decide (l = o + 1) || both) && b
    if up = down then (none, false) else (some (if up then 1 else -1, true), false)
  | _ => (none, false)

/-- Whether line l has a counted edge of its own (R462): modes 3 and 4 count rising edges only. -/
def countsOwn (s : State) (o l : Nat) : Bool :=
  match fbMode s o with
  | 1 => (edgeOf s o l false).1.isSome
  | 2 => true
  | 3 => decide (l = o) && flag s (F.FB_STAT_LINE o)
  | 4 => flag s (F.FB_STAT_LINE l)
  | _ => false

/-- The delay of the filters of input n (R456). -/
def filterDelay (s : State) (n : Nat) : Nat :=
  fget s (F.FB_FILT_GLITCH n) * 1024 / 10 + fget s (F.FB_FILT_DEBOUNCE n) * (ms / 10)

/-- The filter of line n accepts the raw level. -/
def takeLine (n : Nat) (s : State) : State := fbool s (F.FB_STAT_LINE n) (fbOf s n).raw

/-- FB_EDGE of line n (R456 to R472): the filter accepts the raw change; both says that the pair's other
line changes in the same sample. The edge lies at the raw change that began it. -/
def fbEdge (n : Nat) (both : Bool) (s : State) : State :=
  let x := fbOf s n
  if flag s (F.FB_STAT_LINE n) = x.raw then s
  else
    let t := x.rawAt
    let o := fbOwner s n
    let pair := decide (2 ≤ fbMode s o) && decide (fbMode s o ≤ 4)
    let other := if n = o then o + 1 else o
    let both := both && pair && (flag s (F.FB_STAT_LINE other) != (fbOf s other).raw)
    let s := takeLine n (atTime (t + filterDelay s n) s)
    let s := onlyIf both (takeLine other) s
    let e := edgeOf s o n both
    if inputDown s o && decide (1 ≤ fbMode s o) && decide (fbMode s o ≤ 4) then failRange o t s
    else if 1 ≤ fbMode s o ∧ fbMode s o ≤ 4 then
      let s := checkLine o n t (countsOwn s o n && !e.2) s
      let s := onlyIf both (checkLine o other t (countsOwn s o other && !e.2)) s
      if e.2 then phaseError o t s
      else if flag s (F.FB_STAT_FAULTY o) || flag s (F.FB_STAT_RANGE o) then s
      else match e.1 with
        | none => s
        | some (d, tm) => countEdge o t d tm s
    else s

/-- RAW_LINE_CHANGE of line n (R456, R476). -/
def rawLineChange (n : Nat) (level : Bool) (s : State) : State :=
  let x := fbOf s n
  if x.raw = level then s else setFb n { x with raw := level, rawAt := s.mtime / 64 * 64 } s

/-- FB_STALE_TIMEOUT of input n (R463). -/
def fbStaleTimeout (n : Nat) (s : State) : State :=
  match (fbOf s n).lastCount with
  | none => s
  | some t =>
    if flag s (F.FB_STAT_STALE n) ∨ fbMode s n < 1 ∨ 4 < fbMode s n then s
    else
      let s := atTime (t + fget s (F.FB_CHK_STALE n) * ms) s
      let s := fset (dropPeriods n s) (F.FB_STAT_STALE n) 1
      noteFbState n s.mtime (raise 1 6 n .fbStale [n] s)

/-- FB_PERIODIC_RECORD of input n (R469). -/
def fbPeriodicRecord (n : Nat) (s : State) : State :=
  let p := fget s (F.FB_CFG_REC n) * ms
  if p = 0 ∨ fbMode s n = 6 then s
  else
    let x := fbOf s n
    let t := max (x.lastRec / p * p + p) (s.mtime / p * p)
    let s := atTime t (setFb n { x with lastRec := t, revFlag := false } s)
    fbRecord n 0 t (fbFlags s n x.revFlag false 0) (speedBits (speedNow s n)) s

/-- FB_CTRLn.CLEAR_FAULT (R461). -/
def clearFault (n : Nat) (s : State) : State :=
  let s := setFb n { fbOf s n with errs := [] } (fset s (F.FB_STAT_FAULTY n) 0)
  noteFbState n s.mtime s

/-- A count load of input n judges every enabled compare (R472). -/
def countLoaded (n : Nat) (s : State) : State := noteJoints (forAll (fun k s => judgeCompare n k s.mtime s) (List.range 4) s)

/-- A Gray code of n bits, as a binary number. -/
def grayBits (g : Nat) : Nat → Nat
  | 0 => 0
  | n + 1 => let hi := grayBits (g / 2) n; 2 * hi + (hi + g) % 2

/-- The ones of an n-bit number. -/
def onesOf (v : Nat) : Nat → Nat
  | 0 => 0
  | n + 1 => v % 2 + onesOf (v / 2) n

/-- SSI_FRAME of input n (R473, R474): the data bits, and what the line showed around them. -/
def ssiFrame (n : Nat) (bits : Word) (parity startHigh endLow : Bool) (s : State) : State :=
  if fbMode s n ≠ 5 then s
  else
    let x := fbOf s n
    let t := s.mtime
    let k := fget s (F.FB_SSI_BITS n)
    let v := bits.toNat % 2 ^ k
    let even := decide ((onesOf v 32 + (if parity then 1 else 0)) % 2 = 0)
    if startHigh && endLow && (even || !flag s (F.FB_SSI_PARITY n)) && !inputDown s n then
      let v := if flag s (F.FB_SSI_GRAY n) then grayBits v 32 else v
      let i : Int := if flag s (F.FB_SSI_SIGNED n) ∧ 2 ^ (k - 1) ≤ v then (v : Int) - (2 ^ k : Nat) else v
      let c := rd s (A.FB_COUNT n)
      let s := setFb n { x with ssiGood := some t, ssiBad := false } s
      let s := wr (wr (fwrap s (F.FB_SSICNT_GOOD n) 1) (A.FB_SSIVAL n) (wordOf i)) (A.FB_COUNT n) (wordOf i)
      let s := noteFbState n t (fset s (F.FB_STAT_STALE n) 0)
      noteJoints (moveCompares n t c (wordOf i - c).toInt s)
    else
      let first := x.ssiGood.isSome && !x.ssiBad
      let s := setFb n { x with ssiBad := true } (fset (fsat s (F.FB_SSICNT_ERR n) 1) (F.FB_STAT_SSI_ERR n) 1)
      onlyIf first (raise 2 6 n .ssiBad [n]) s

/-- SSI_STALE_TIMEOUT of input n (R474). -/
def ssiStaleTimeout (n : Nat) (s : State) : State :=
  match (fbOf s n).ssiGood with
  | none => s
  | some t =>
    if fbMode s n ≠ 5 ∨ flag s (F.FB_STAT_STALE n) then s
    else
      let s := fset (atTime (t + fget s (F.FB_CHK_STALE n) * ms) s) (F.FB_STAT_STALE n) 1
      noteFbState n s.mtime (raise 3 6 n .ssiStale [n] s)

/-- The filter's next value (R475): with TAU 0 the conversion itself; otherwise between its last value and
the conversion, where is a free value (DESIGN CHOICE, log entry 14). -/
def aiFilter (s : State) (m raw : Nat) : Nat :=
  if fget s (F.AI_CFG_TAU m) = 0 then raw
  else
    let y := (aiOf s m).filt
    min y raw + Config.free s.freeCtr % (max y raw - min y raw + 1)

/-- Input m enters a failure of its window or of its current (R475): flags, count and a record. -/
def failAi (m : Nat) (k : EvKind) (vals : List Int) (s : State) : State :=
  let s := fset (fset s (F.AI_STAT_RANGE m) 1) (F.AI_STAT_RANGE_SEEN m) 1
  raise 2 7 m k vals (fsat s (F.AI_ERRCNT_COUNT m) 1)

/-- AI_CONVERSION of input m (R475): the code, and whether the current exceeds 25 mA. Each of the two failures is recorded
at its entry. DEDUCED, log entry 115. -/
def aiConversion (m raw : Nat) (over25 : Bool) (s : State) : State :=
  if !flag s (F.AI_CFG_EN m) then s
  else
    let y := aiFilter s m raw
    let s := setAi m ⟨some s.mtime, y⟩ { s with freeCtr := s.freeCtr + 1 }
    let s := fset (fset s (F.AI_VAL_RAW m) raw) (F.AI_STAT_STALE m) 0
    let opens := over25 && decide (fget s (F.AI_CFG_RANGE m) = 2) && !flag s (F.AI_STAT_BURDEN_OPEN m)
    let s := onlyIf opens (fun s => failAi m .burden [m] (fset s (F.AI_STAT_BURDEN_OPEN m) 1)) s
    if fget s (F.AI_WIN_LO m) ≤ y ∧ y ≤ fget s (F.AI_WIN_HI m) ∧ !flag s (F.AI_STAT_BURDEN_OPEN m) ∧ !inputDown s (24 + m) then
      noteJoints (fset (fset s (F.AI_VAL_CODE m) y) (F.AI_STAT_RANGE m) 0)
    else if flag s (F.AI_STAT_RANGE m) then s
    else failAi m .aiRange [m, y] s

/-- AI_BURDEN_RECLOSE of input m (R475). -/
def aiBurdenReclose (m : Nat) (s : State) : State := fset s (F.AI_STAT_BURDEN_OPEN m) 0

/-- AI_STALE_TIMEOUT of input m (R475): no record, since its chapter names no severity (R39; DESIGN CHOICE, log entry 102). -/
def aiStaleTimeout (m : Nat) (s : State) : State :=
  match (aiOf s m).last with
  | none => s
  | some t => if flag s (F.AI_STAT_STALE m) then s else fset (atTime (t + 10 * ms) s) (F.AI_STAT_STALE m) 1

/-- Whether pin p is driven high, before INVERT (R476, R477). -/
def ptSource (s : State) (p : Nat) : Bool :=
  let x := ptOf s p
  match ptSrc s p with
  | 1 => flag s (F.FB_STAT_LINE (fget s (F.PT_CFG_INPUT p)))
  | 2 => (fbOf s (fget s (F.PT_CFG_INPUT p))).raw
  | 3 => decide (x.freq ≠ 0) && !flag s (F.PT_STAT_SYNTH_INVALID p) &&
      decide (2 * (s.mtime - x.periodAt) * x.freq < sec * 65536000)
  | 4 => true
  | 5 => match x.pulseEnd with | some t => decide (s.mtime < t) | none => false
  | _ => false

/-- The level of pin p (PT_STATp.LINE): a pin at SNS_PWR level is low while that supply is off (R57, R476, R478). -/
def ptLine (s : State) (p : Nat) : Bool :=
  (ptSource s p != flag s (F.PT_CFG_INVERT p)) &&
    !(flag s (F.PT_CFG_LEVEL p) && (bench s || !flag s F.FB_GLOBAL_SNS_PWR_EN || s.fb.snsOffEnd.isSome))

/-- PT_SHORT of pin p (R478). -/
def ptShort (p : Nat) (s : State) : State := raise 3 8 p .ptShort [p] (fset s (F.PT_STAT_SHORT p) 1)

/-- PT_COMPARE_PULSE_END of pin p (R476). -/
def ptPulseEnd (p : Nat) (s : State) : State :=
  match (ptOf s p).pulseEnd with
  | none => s
  | some t => setPt p { ptOf s p with pulseEnd := none } (atTime t s)

/-- SYNTHESISED_SPEED_PERIOD of pin p (R477): a period starts, with the new frequency. -/
def synthPeriod (p : Nat) (s : State) : State :=
  let x := ptOf s p
  let t := if x.freq = 0 then s.mtime else x.periodAt + sec * 65536000 / x.freq
  setPt p { x with freq := x.next, periodAt := t } (atTime t s)

/-- Set the frequency that the next period of pin p takes (R477): speed in mm/s, quality 0 or not. -/
def setSynth (p : Nat) (v : Int) (valid : Bool) (s : State) : State :=
  if ptSrc s p ≠ 3 then s
  else if !valid then
    fset (fset (setPt p { ptOf s p with freq := 0, next := 0 } s) (F.PT_STAT_FREQ p) 0) (F.PT_STAT_SYNTH_INVALID p) 1
  else
    let f := min (v.natAbs * fget s (F.PT_PPM_PPM p)) (50000 * 65536000)
    fset (fset (setPt p { ptOf s p with next := f } s) (F.PT_STAT_FREQ p) (roundOpen f 65536000)) (F.PT_STAT_SYNTH_INVALID p) 0

/-- SSI input n goes stale with its last good value held (R474). -/
def failSsi (n : Nat) (s : State) : State :=
  if fbMode s n ≠ 5 ∨ flag s (F.FB_STAT_STALE n) then s
  else noteFbState n s.mtime (raise 3 6 n .ssiStale [n] (fset s (F.FB_STAT_STALE n) 1))

/-- Every input powered from a supply that goes down fails its checks and timeouts (R75, R478). -/
def failPowered (k : Nat) (s : State) : State :=
  let on (i : Nat) : Bool := decide (Config.inputSupply i = k)
  let s := forAll (fun n s => if 1 ≤ fbMode s n ∧ fbMode s n ≤ 4 then failRange n s.mtime s else failSsi n s) ((List.range 24).filter on) s
  forAll (fun m s => if flag s (F.AI_CFG_EN m) && !flag s (F.AI_STAT_RANGE m) then failAi m .aiRange [m, (aiOf s m).filt] s else s)
    ((List.range 16).filter (fun m => on (24 + m))) s

/-- A change of the SNS_PWR level switches the supply off for 10 ms (R478). -/
def snsLevelChange (s : State) : State := failPowered 2 { s with fb := { s.fb with snsOffEnd := some (s.mtime + 10 * ms) } }

/-- SENSOR_SUPPLY_RESTORE (R478). -/
def snsRestore (s : State) : State :=
  match s.fb.snsOffEnd with
  | none => s
  | some t => let s := atTime t s; { s with fb := { s.fb with snsOffEnd := none } }

/-- A warm reset zeroes counts, leaves every input stale and disables compares (R480). DEDUCED, log entry 56. -/
def feedbackWarm (s : State) : State :=
  let s := { s with fb := { s.fb with ins := s.fb.ins.map (fun p => (p.1, { FbIn.init with raw := p.2.raw, rawAt := p.2.rawAt })) |>.filter (fun p => p.2 != FbIn.init) } }
  forAll (fun n s => fset (wr s (A.FB_COUNT n) 0) (F.FB_CMPCTRL_EN n) 0) (List.range 24) s

/-- FB_EDGE (R456). -/
def execFbEdge (n : Fin 24) (both : Bool) (s : State) : Outcome := live (fbEdge n both) s
/-- FB_STALE_TIMEOUT (R463). -/
def execFbStaleTimeout (n : Fin 24) (s : State) : Outcome := live (fbStaleTimeout n) s
/-- FB_PERIODIC_RECORD (R469). -/
def execFbPeriodicRecord (n : Fin 24) (s : State) : Outcome := live (fbPeriodicRecord n) s
/-- SSI_FRAME (R474). -/
def execSsiFrame (n : Fin 24) (bits : Word) (parity startHigh endLow : Bool) (s : State) : Outcome :=
  live (ssiFrame n bits parity startHigh endLow) s
/-- SSI_STALE_TIMEOUT (R474). -/
def execSsiStaleTimeout (n : Fin 24) (s : State) : Outcome := live (ssiStaleTimeout n) s
/-- AI_CONVERSION (R475). -/
def execAiConversion (m : Fin 16) (raw : BitVec 12) (over25 : Bool) (s : State) : Outcome := live (aiConversion m raw.toNat over25) s
/-- AI_BURDEN_RECLOSE (R475). -/
def execAiBurdenReclose (m : Fin 16) (s : State) : Outcome := live (aiBurdenReclose m) s
/-- AI_STALE_TIMEOUT (R475). -/
def execAiStaleTimeout (m : Fin 16) (s : State) : Outcome := live (aiStaleTimeout m) s
/-- PT_SHORT (R478). -/
def execPtShort (p : Fin 8) (s : State) : Outcome := live (ptShort p) s
/-- RAW_LINE_CHANGE (R476). -/
def execRawLineChange (n : Fin 24) (level : Bool) (s : State) : Outcome := live (rawLineChange n level) s
/-- PT_COMPARE_PULSE_END (R476). -/
def execPtComparePulseEnd (p : Fin 8) (s : State) : Outcome := live (ptPulseEnd p) s
/-- SYNTHESISED_SPEED_PERIOD (R477). -/
def execSynthesisedSpeedPeriod (p : Fin 8) (s : State) : Outcome := live (synthPeriod p) s
/-- SENSOR_SUPPLY_RESTORE (R478). -/
def execSensorSupplyRestore (s : State) : Outcome := live snsRestore s

end Sys2Proof.Machine
end

