-- ==== Sys2Proof/Machine/Time.lean ====
section
/-! DEFINITION. MTIME, GTIME, PPS_OUT, time messages and the network time master (R428 to R454). -/
namespace Sys2Proof.Machine

/-- Bus port p beyond its registers. -/
def portOf (s : State) (p : Nat) : Port := tabGet (fun _ => Port.init) s.ports p
/-- Replace bus port p beyond its registers. -/
def setPort (p : Nat) (x : Port) (s : State) : State :=
  { s with ports := tabSet (fun _ => Port.init) s.ports p x }

/-- The source address of the Askat on port p (R510). -/
def portAddr (s : State) (p : Nat) : Nat :=
  if flag s (F.ISO_CFG_EN p) then fget s (F.ISO_STAT_ADDR p) else fget s (F.PORT_CFG_ADDR p)

/-- The time state (R431). -/
def timeState (s : State) : Nat := fget s F.TIME_STAT_STATE
/-- 2⁴⁰, the unit of RATE. -/
abbrev rateOne : Int := 2 ^ 40
/-- 50 ns and 1 ms in 1/256 ns. -/
abbrev fiftyNs : Int := 12800
/-- 1 ms in 1/256 ns. -/
abbrev oneMs256 : Int := 256000000

/-- GTIME in 1/256 ns at MTIME m (R436): one unit of MTIME is 25/256 ns. -/
def gtimeAt (s : State) (m : Nat) : Int :=
  let d : Int := ((m : Int) - s.clock.refM) * 25
  s.clock.refG + d + d * (s.clock.rate + s.clock.slewRate) / rateOne
/-- GTIME at MTIME m in whole ns; zero in NONE (R431). -/
def gtimeWhole (s : State) (m : Nat) : Nat := if timeState s = 0 then 0 else (gtimeAt s m / 256).toNat
/-- GTIME now in whole ns. -/
def gtimeNow (s : State) : Nat := gtimeWhole s s.mtime

/-- Take MTIME now as the reference of GTIME. -/
def rebase (s : State) : State :=
  { s with clock := { s.clock with refM := s.mtime, refG := gtimeAt s s.mtime } }

/-- The error that a slew has not yet removed, in 1/256 ns (R446). -/
def slewLeft (s : State) : Int :=
  let c := s.clock
  c.slewErr.natAbs - ((s.mtime : Int) - c.slewFrom) * 25 * c.slewRate.natAbs / rateOne

/-- The uncertainty of GTIME in ns, none if unknown (R434, R445, R446). -/
def uncertainty (s : State) : Option Nat :=
  if flag s F.TIME_STAT_SLEW then some ((slewLeft s / 256).toNat + 20)
  else
    match s.clock.unc with
    | none => none
    | some u =>
      if timeState s = 1 then some u
      else
        let since := s.mtime - s.clock.lastSol.getD s.mtime
        some (u + roundOpen (since * 25 * fget s F.TIME_HOLD_FREQ_UNC) (256 * 10000000000))

/-- Enter a time state, with its record (R448). -/
def enterTime (st sev : Nat) (k : EvKind) (s : State) : State :=
  raise sev 11 0 k [timeState s, st] (fset s F.TIME_STAT_STATE st)

/-- Drop a slew or a scheduled step. -/
def dropCorrection (s : State) : State :=
  let s := rebase s
  fset (fset { s with clock := { s.clock with slewRate := 0, slewErr := 0, step := none } } F.TIME_STAT_SLEW 0) F.TIME_STAT_STEP_PEND 0

/-- Start a slew of error e (R446): the rate is offset by SLEW_MAX against it (DESIGN CHOICE, log entry 15). -/
def startSlew (e : Int) (s : State) : State :=
  let r : Int := fget s F.TIME_HOLD_SLEW_MAX * rateOne / 1000000
  fset { s with clock := { s.clock with slewRate := if 0 < e then -r else r, slewErr := e, slewFrom := s.mtime } } F.TIME_STAT_SLEW 1

/-- The rate that the time unit keeps after a solution (R432): that of the solutions, from the last one to this, but for a free
part so small that the error of the kept GTIME, e in 1/256 ns now, stays within 50 ns for the next second, and after the
first solution for the next 10 ms. DESIGN CHOICE, log entry 15. -/
def solvedRate (s : State) (m g : Nat) (e : Int) : Int :=
  let room : Int := max 0 (fiftyNs - e.natAbs)
  let slope := match s.clock.lastSol with
    | some m0 => if m0 < m then some (((g : Int) - s.clock.solG) * 256 * rateOne / (25 * ((m : Int) - m0)) - rateOne) else none
    | none => none
  let d := (room * rateOne / (if slope.isSome then 256000000000 else 2560000000)).toNat
  slope.getD 0 + (Config.free s.freeCtr % (2 * d + 1) : Nat) - d

/-- A time solution: at MTIME m the solution's GTIME is g ns, to within u ns (R432, R446 to R448). The temperature
model's figure that it learns in LOCKED is a free value (DESIGN CHOICE, log entry 15). -/
def timeSolution (m g u : Nat) (s : State) : State :=
  let st := timeState s
  let e0 := if st = 0 then 0 else gtimeAt s m - 256 * g
  let rate := solvedRate s m g (if (e0.natAbs : Int) ≤ fiftyNs then e0 else 0)
  let c := { s.clock with lastSol := some m, solG := g, unc := some u }
  if st = 0 then
    let c := { c with refM := m, refG := 256 * g, rate := rate, nextMin := s.mtime + sec / 2 }
    enterTime 1 2 .timeState { s with clock := c, freeCtr := s.freeCtr + 1 }
  else
    let e := gtimeAt s m - 256 * g
    let s := dropCorrection { s with clock := c }
    let s := { s with clock := { s.clock with rate := rate }, freeCtr := s.freeCtr + 1 }
    if (e.natAbs : Int) ≤ fiftyNs then
      if st = 1 then
        fset { s with freeCtr := s.freeCtr + 1 } F.TIME_HOLD_FREQ_UNC (Config.free s.freeCtr % 65536)
      else enterTime 1 1 .timeState s
    else if (e.natAbs : Int) ≤ oneMs256 then startSlew e s
    else fset { s with clock := { s.clock with step := some (.correct e) } } F.TIME_STAT_STEP_PEND 1

/-- SLEW_COMPLETE (R446, R448): the remaining error is within 50 ns. -/
def slewComplete (s : State) : State :=
  if !flag s F.TIME_STAT_SLEW then s
  else
    let c := s.clock
    let n : Int := ((c.slewErr.natAbs : Int) - fiftyNs) * rateOne
    let d : Int := 25 * max (c.slewRate.natAbs : Int) 1
    let t := c.slewFrom + ((n + d - 1) / d).toNat
    let s := dropCorrection (atTime t s)
    if timeState s = 1 then s else enterTime 1 1 .timeState s

/-- HOLDOVER_ENTRY (R448): 1 s without a time solution in LOCKED. -/
def holdoverEntry (s : State) : State :=
  match s.clock.lastSol with
  | none => s
  | some t => if timeState s ≠ 1 then s else enterTime 2 2 .timeState (atTime (t + sec) s)

/-- HOLDOVER_LIMIT_EXCEEDED at MTIME t (R448): in HOLDOVER, an uncertainty above LIMIT. -/
def holdoverLimit (t : Nat) (s : State) : State :=
  let s := atTime t s
  let beyond := match uncertainty s with | some u => decide (1000 * fget s F.TIME_HOLD_LIMIT < u) | none => false
  if timeState s = 2 ∧ beyond = true then enterTime 3 3 .holdoverLimit s else s

/-- A step or a set takes effect (R446, R448): old and new GTIME at its MTIME, in 1/256 ns. -/
def takeStep (k : EvKind) (new : Int) (s : State) : State :=
  let old := gtimeAt s s.mtime
  let s := dropCorrection s
  let s := { s with clock := { s.clock with refM := s.mtime, refG := new, nextMin := s.mtime + sec / 2 } }
  raise 3 11 0 k [old / 256, new / 256] (fsat s F.TIME_STEP_CNT_COUNT 1)

/-- The GTIME of TIME_SET. -/
def timeSetValue (s : State) : Nat := fget s F.TIME_SET_LO_GTIME + 2 ^ 32 * fget s F.TIME_SET_HI_GTIME

/-- TIME_CTRL.SET (R448): at once from NONE, at the next edge from UNSYNC. -/
def timeSet (s : State) : State :=
  let g := timeSetValue s
  if timeState s = 0 then
    let s := { s with clock := { s.clock with refM := s.mtime, refG := 0, rate := 0, unc := none, lastSol := none } }
    takeStep .timeSet (256 * g) (fset s F.TIME_STAT_STATE 3)
  else
    let s := dropCorrection s
    fset { s with clock := { s.clock with step := some (.set g) } } F.TIME_STAT_STEP_PEND 1

/-- The uncertainty code of a time message (R443): the least u with uncertainty ≤ 2^u ns, 31 if unknown or larger. -/
def uncCode : Option Nat → Nat
  | none => 31
  | some u => ((List.range 31).find? (fun k => decide (u ≤ 2 ^ k))).getD 31

/-- The MTIME at which GTIME reaches a number of ns, rounded to a unit (DESIGN CHOICE, log entry 8). -/
def gtimeReaches (s : State) (g : Nat) : Nat :=
  let n : Int := ((256 * g : Nat) - s.clock.refG) * rateOne
  let d : Int := 25 * (rateOne + s.clock.rate + s.clock.slewRate)
  s.clock.refM + roundOpen n.toNat d.toNat

/-- UTC_OFFSET_CHANGE (R435): the announced change takes effect at its GTIME. -/
def utcChange (s : State) : State :=
  match s.clock.utcNext with
  | none => s
  | some (g, o) =>
    let s := atTime (gtimeReaches s g) s
    { s with clock := { s.clock with utc := some o, utcNext := none } }

/-- The pulse of a whole second (R439, R442): the edge on the ACT grid, a fine part of 32 or more taking the
later cycle, and its error in ps. -/
def pulseOf (s : State) (sc : Nat) : Pulse :=
  let m := gtimeReaches s (1000000000 * sc)
  let e := (m + 32) / 64 * 64
  ⟨e, roundHalfAway (((e : Int) - m) * 3125) 32, sc, timeState s⟩

/-- The next pulse: the first whole second no earlier than 0.5 s after GTIME became valid, EN was set, or
the last edge rose (R440, R441, R446). -/
def nextPulse (s : State) : Pulse :=
  let g := gtimeAt s (max s.clock.nextMin s.mtime)
  pulseOf s ((g + 255999999999) / 256000000000).toNat

/-- The data of the time message for a pulse (R443). -/
def timeMessage (s : State) (p : Pulse) : List Byte :=
  let b : Byte := BitVec.ofNat 8 (p.state + (if flag s F.TIME_STAT_SLEW then 4 else 0) + 8 * uncCode (uncertainty s))
  [0x48, b] ++ (wordLe (wordOf p.err)).take 2 ++ wordLe (loWord p.second)

/-- PPS_PREPARE (R442, R443): 500 ms before the edge, mailbox 3 and the time messages. -/
def ppsPrepare (s : State) : State :=
  if !flag s F.PPS_CFG_EN ∨ timeState s = 0 ∨ s.clock.pulse.isSome then s
  else
    let p := nextPulse s
    let s := atTime (p.edge - sec / 2) s
    let s := { s with clock := { s.clock with pulse := some p, lastPulse := some p } }
    forAll (fun k s =>
      let x := portOf s k
      setPort k { x with time := { x.time with msg := some (p.edge, timeMessage s p) } } s)
      ((List.range 6).filter (fun k => decide (fget s F.TIME_MSG_PORTS / 2 ^ k % 2 = 1))) s

/-- PPS_EDGE (R439, R446, R448): PPS_OUT rises; a pending step takes effect. DEDUCED, log entry 125. -/
def ppsEdge (s : State) : State :=
  match s.clock.pulse with
  | none => s
  | some p =>
    let s := atTime p.edge s
    let s := { s with clock := { s.clock with pulse := none, lastEdge := some p.edge, nextMin := p.edge + sec / 2,
                                              fallAt := some (p.edge + ms * fget s F.PPS_CFG_WIDTH) } }
    match s.clock.step with
    | none => s
    | some (.correct e) => fset (takeStep .timeStep (gtimeAt s s.mtime - e) s) F.TIME_STAT_STATE 1
    | some (.set g) =>
      let s := takeStep .timeSet (256 * g) s
      fset { s with clock := { s.clock with unc := none } } F.TIME_STAT_STATE 3

/-- PPS_FALL (R439). -/
def ppsFall (s : State) : State :=
  match s.clock.fallAt with
  | none => s
  | some t => { atTime t s with clock := { s.clock with fallAt := none } }

/-- TIME_MSG_WITHDRAW on port p (R444): a message not completed 10 ms before its edge. -/
def timeMsgWithdraw (p : Nat) (s : State) : State :=
  let x := portOf s p
  match x.time.msg with
  | none => s
  | some (edge, _) =>
    let s := atTime (edge - 10 * ms) s
    let cur := match x.cur with | some (.msg, _) => none | c => c
    fsat (setPort p { x with time := { x.time with msg := none }, cur := cur } s) F.TIME_STAT_MSG_MISS 1

/-- Suspension of the reference messages of port p (R453): what the slot holds of them is withdrawn. -/
def tmSuspend (p : Nat) (s : State) : State :=
  if !flag s F.TM_CFG_EN ∨ fget s F.TM_CFG_PORT ≠ p ∨ flag s F.TM_STAT_SUSPENDED then s
  else
    let x := portOf s p
    let time := if x.time.ref then { x.time with ref := false, fol := none } else x.time
    let cur := match x.cur with | some (.ref, _) => none | c => c
    let s := setPort p { x with time := time, cur := cur } (fset s F.TM_STAT_SUSPENDED 1)
    raise 3 11 0 .tmSuspended [p] (fsat s F.TM_STAT_SUSP_CNT 1)

/-- TM_REFERENCE_PERIOD (R449, R453): the reference message and its follow-up enter the time slot. -/
def tmPeriod (s : State) : State :=
  if !flag s F.TM_CFG_EN then s
  else
    let p := fget s F.TM_CFG_PORT
    let t := max s.clock.tmNext s.mtime
    let s := { atTime t s with clock := { s.clock with tmNext := t + ms * fget s F.TM_CFG_PERIOD } }
    let st := fget s (F.PORT_STAT_STATE p)
    if st = 2 ∨ st = 3 then tmSuspend p s
    else
      let x := portOf s p
      setPort p { x with time := { x.time with ref := true, fol := some none } } (fset s F.TM_STAT_SUSPENDED 0)

/-- The reference message at a start of frame (R451): cycle count and MTIME bits 61:6. DEDUCED, log entry 43. -/
def refMessage (s : State) (sof : Nat) : List Byte :=
  let c := (fget s F.TM_STAT_CYCLE + 1) % 64
  let b (i : Nat) : Byte := BitVec.ofNat 8 (sof / 2 ^ i)
  [BitVec.ofNat 8 c, b 6, b 14, b 22, b 30, b 38, b 46, BitVec.ofNat 8 (sof / 2 ^ 54 % 256)]

/-- The follow-up message for a reference message's start of frame (R452). -/
def folMessage (s : State) (sof : Nat) : List Byte :=
  let st := timeState s
  let g := if st = 0 then 0 else (gtimeAt s sof / 256).toNat
  wordLe (loWord (g / 1000000000)) ++ wordLe (BitVec.ofNat 32 (g % 1000000000 + 2 ^ 30 * st))

/-- The words of mailboxes 0 to 3 at the latch (R430, R434, R436, R442). -/
def timeMailbox (s : State) (k : Nat) : List Word :=
  let m := s.mtime / 64 * 64
  match k with
  | 0 => [loWord m, hiWord m, rd s A.TICK_NUM, BitVec.ofNat 32 ((m - s.nav.lastTick.getD 0) / 64)]
  | 1 =>
    let g := gtimeWhole s m
    let u := match s.clock.utc with | none => 0 | some o => o.toNat + 2 ^ 8
    let d2 := u + 2 ^ 9 * timeState s + (if flag s F.TIME_STAT_SLEW then 2 ^ 11 else 0)
    [loWord g, hiWord g, BitVec.ofNat 32 d2, match uncertainty s with | none => 0xFFFFFFFF | some u => BitVec.ofNat 32 (min u 0xFFFFFFFE)]
  | 2 =>
    if timeState s = 0 then [0, 0, 0, 0]
    else
      let o : Int := (gtimeAt s m - (m : Int) * 25) / 256
      [loWord (o % 2 ^ 64).toNat, hiWord (o % 2 ^ 64).toNat, wordOf (s.clock.rate + s.clock.slewRate), BitVec.ofNat 32 (m / 64)]
  | _ =>
    match s.clock.lastPulse with
    | none => [0, 0, 0, 0]
    | some p => [loWord p.edge, hiWord p.edge, BitVec.ofNat 32 ((p.err % 65536).toNat + 65536 * p.state), loWord p.second]

/-- SLEW_COMPLETE (R446). -/
def execSlewComplete (s : State) : Outcome := live slewComplete s
/-- HOLDOVER_ENTRY (R448). -/
def execHoldoverEntry (s : State) : Outcome := live holdoverEntry s
/-- HOLDOVER_LIMIT_EXCEEDED (R448). -/
def execHoldoverLimitExceeded (t : Nat) (s : State) : Outcome := live (holdoverLimit t) s
/-- UTC_OFFSET_CHANGE (R435). -/
def execUtcOffsetChange (s : State) : Outcome := live utcChange s
/-- PPS_PREPARE (R442). -/
def execPpsPrepare (s : State) : Outcome := live ppsPrepare s
/-- PPS_EDGE (R439). -/
def execPpsEdge (s : State) : Outcome := live ppsEdge s
/-- PPS_FALL (R439). -/
def execPpsFall (s : State) : Outcome := live ppsFall s
/-- TIME_MSG_WITHDRAW (R444). -/
def execTimeMsgWithdraw (p : PortId) (s : State) : Outcome := live (timeMsgWithdraw p) s
/-- TM_REFERENCE_PERIOD (R449). -/
def execTmReferencePeriod (s : State) : Outcome := live tmPeriod s

end Sys2Proof.Machine
end

