-- ==== Sys2Proof/Machine/Gnss.lean ====
section
/-! DEFINITION. Receiver, corrections, pose engine, tick snapshots and snapshot captures (R388 to R426,
R27, R28, R169, R170, R300, R412). -/
namespace Sys2Proof.Machine

/-- Replace the navigation state. -/
def setNav (n : Nav) (s : State) : State := { s with nav := n }

/-- Jasper's delay of measurements (R609). -/
def navDelay (s : State) : Nat := ms * fget s F.JAS_NAV_DELAY
/-- The epoch that an event belongs to (R400): the latest one whose measurements have come with Jasper's delay (R609), no
earlier than the next one due. -/
def epochOf (s : State) (next : Nat) : Nat := max next ((s.mtime - navDelay s - fget s F.EPOCH_PHASE_PHASE) / (10 * ms))
/-- The MTIME of epoch k (R400). -/
def epochTime (s : State) (k : Nat) : Nat := k * (10 * ms) + fget s F.EPOCH_PHASE_PHASE

/-- A frame of four or eight queue words from 32-bit words (R402). -/
def packWords : List Word → List QWord
  | a :: b :: t => (b ++ a) :: packWords t
  | _ => []

/-- Whether a signal belongs to the L5 family (R388). -/
def isL5 (sig : Nat) : Bool := [2, 4, 6, 9].contains sig
/-- The tap spacing that the manager gives a signal (R395), in 0.05 chip. -/
def managerSpacing (sig : Nat) : Nat := if isL5 sig then 10 else if [1, 3, 5, 8].contains sig then 3 else 2

/-- The words of a measurement record (R402). -/
def measWords (k : Nat) (r : MeasRec) : List Word :=
  let b (v : Bool) (i : Nat) : Nat := if v then 2 ^ i else 0
  [loWord k, BitVec.ofNat 32 (r.sig + 16 * (r.chain / 2) + 2 ^ 8 * r.prn.toNat + 2 ^ 16 * r.cn0.toNat + 2 ^ 24 * r.chan),
   loWord r.range.toNat, hiWord r.range.toNat, loWord r.phase.toNat, hiWord r.phase.toNat, r.doppler,
   BitVec.ofNat 32 (b r.rangeOk 0 + b r.phaseOk 1 + b r.halfOk 2 + b r.slip 3 + 2 ^ 16 * r.lock.toNat)]

/-- Whether a channel in carrier lock sends its record of epoch k to Q98 (R403). -/
def measSelected (s : State) (k : Nat) (r : MeasRec) : Bool :=
  flag s F.MEAS_CFG_EN && decide (k % max 1 (fget s F.MEAS_CFG_DIV) = 0) &&
    decide (fget s F.MEAS_CFG_ANT / 2 ^ (r.chain.val / 2) % 2 = 1) && decide (fget s F.MEAS_CFG_SIG / 2 ^ r.sig.val % 2 = 1)

/-- The next measurement record of channel k shows a cycle slip (R401). -/
def noteSlip (k : Nat) (s : State) : State := setNav { s.nav with slips := if s.nav.slips.contains k then s.nav.slips else k :: s.nav.slips } s
/-- Channel k shows state st of TRK_STAT and nothing else; one that was in carrier lock has lost it (R401). -/
def leaveLock (k st : Nat) (s : State) : State :=
  let s := onlyIf (decide (4 ≤ fget s (F.TRK_STAT_STATE k))) (noteSlip k) s
  wr (wr s (A.TRK_STAT k) (BitVec.ofNat 32 st)) (A.TRK_DOP k) 0
/-- A channel stops: TRK_STAT and TRK_DOP return to idle, and its NCOs to zero (DESIGN CHOICE, log entry 117). -/
def idleChannel (k : Nat) (s : State) : State :=
  let s := leaveLock k 0 s
  setNav { s.nav with ncos := tabSet (fun _ => (0, 0)) s.nav.ncos k (0, 0) } s
/-- The acquisition engine searches for the signal of channel k (R398). -/
def searchChannel (k : Nat) (s : State) : State := fset (leaveLock k 1 (idleChannel k s)) F.GNSS_STAT_ACQ_BUSY 1

/-- The system of a signal (R388): GPS, Galileo, BeiDou, QZSS, SBAS, as GNSS_CTRL.SYS_EN numbers them. -/
def systemOf (sig : Nat) : Nat := if sig ≤ 2 then 0 else if sig ≤ 4 then 1 else if sig ≤ 6 then 2 else if sig ≤ 9 then 3 else 4
/-- Whether chain c has failed (R391). -/
def chainBad (s : State) (c : Nat) : Bool := decide (fget s F.GNSS_STAT_CHAIN_FAIL / 2 ^ c % 2 = 1)
/-- Whether a manual channel is enabled (R394). -/
def manualOn (s : State) (k : Nat) : Bool := flag s (F.TRK_CFG_MANUAL k) && flag s (F.TRK_CFG_EN k)
/-- Whether a channel can track what it is said to track: on a working chain of the signal's band (R391, R393); a channel of
the manager a satellite of an enabled system above the elevation mask, a manual one the signal that it is set to (R394). -/
def canTrack (s : State) (r : MeasRec) : Bool :=
  let k := r.chan.val
  !chainBad s r.chain && (isL5 r.sig == decide (r.chain.val % 2 = 1)) &&
    (if flag s (F.TRK_CFG_MANUAL k) then
      flag s (F.TRK_CFG_EN k) && decide (fget s (F.TRK_CFG_SIGNAL k) = r.sig) && decide (fget s (F.TRK_CFG_PRN k) = r.prn.toNat) &&
        decide (fget s (F.TRK_CFG_CHAIN k) = r.chain)
    else decide (fget s F.GNSS_CTRL_SYS_EN / 2 ^ systemOf r.sig % 2 = 1) && decide (fget s F.GNSS_CTRL_ELEV_MASK < r.elev))

/-- Note a channel's state at an epoch (R394 to R397): a channel under the manager shows the manager's values. -/
def noteChannel (r : MeasRec) (s : State) : State :=
  let k := r.chan.val
  let s := onlyIf (decide (4 ≤ fget s (F.TRK_STAT_STATE k)) && decide (r.state.val < 4)) (noteSlip k) s
  let s := setNav { s.nav with ncos := tabSet (fun _ => (0, 0)) s.nav.ncos k (r.carrierNco, r.codeNco) } s
  let s := fset (fset (fset s (F.TRK_STAT_STATE k) r.state) (F.TRK_STAT_CN0 k) r.cn0.toNat) (F.TRK_STAT_LOCK_TIME k) r.lock.toNat
  let s := wr s (A.TRK_DOP k) r.doppler
  if flag s (F.TRK_CFG_MANUAL k) then s
  else
    let s := fset (fset (fset s (F.TRK_CFG_CHAIN k) r.chain) (F.TRK_CFG_SIGNAL k) r.sig) (F.TRK_CFG_PRN k) r.prn.toNat
    let s := fset s (F.TRK_CFG_SPACING k) (managerSpacing r.sig)
    let lock := decide (4 ≤ r.state.val)
    let s := fset (fset s (F.TRK_LOOP_PLL_BW k) 60) (F.TRK_LOOP_FLL_BW k) (if lock then 0 else 20)
    fset (fset s (F.TRK_LOOP_DLL_BW k) (if lock then 20 else 100)) (F.TRK_LOOP_INT k) 10

/-- A channel that receives nothing at an epoch: an enabled manual one goes on searching, any other is idle (R394, R398). -/
def missChannel (k : Nat) (s : State) : State :=
  if manualOn s k then leaveLock k 1 s else if rd s (A.TRK_STAT k) ≠ 0 then idleChannel k s else s

/-- The satellites of a list of measurements, as system and satellite number. -/
def satellites (rs : List MeasRec) : List (Nat × Nat) := (rs.map (fun r => (systemOf r.sig, r.prn.toNat))).dedup

/-- Whether the GNS domain works: powered, past its self-test (R36, R400). -/
def gnsUp (s : State) : Bool := powered s && !bench s && s.start.gnsUp

/-- The header and the selected records of epoch k at MTIME t go to Q98 (R402, R403); a slip is shown once (R401). -/
def sendMeasurements (k t : Nat) (rs : List MeasRec) (s : State) : State :=
  if flag s F.MEAS_CFG_EN ∧ k % max 1 (fget s F.MEAS_CFG_DIV) = 0 then
    let sel := rs.filter (measSelected s k)
    let g := if timeState s = 0 then 0 else (gtimeAt s t / 256).toNat
    let head : List Word := [loWord k, 15, loWord g, hiWord g, BitVec.ofNat 32 (sel.length + (if timeState s = 0 then 0 else 256)), 0, 0, 0]
    let s := forAll (fun r s => deliver 98 (packWords (measWords k r)) s) sel (deliver 98 (packWords head) s)
    setNav { s.nav with slips := s.nav.slips.filter (fun c => !sel.any (fun r => r.chan.val == c)) } s
  else s

/-- MEASUREMENT_EPOCH (R398, R400 to R403): the channels in ascending number, then their measurements to the pose engine and
to Q98. DEDUCED, log entry 117. -/
def measurementEpoch (i : EpochInput) (s : State) : State :=
  if !gnsUp s then s
  else
    let k := epochOf s s.nav.measNext
    let t := epochTime s k
    let s := atTime (t + navDelay s) (setNav { s.nav with measNext := k + 1 } s)
    let recs := (List.range 200).filterMap (fun c => (i.recs.filter (canTrack s)).find? (fun r => r.chan.val == c))
    let missed := (List.range 200).filter (fun c => !recs.any (fun r => r.chan.val == c))
    let s := forAll noteChannel recs (forAll missChannel missed s)
    let s := forAll (fun c s => fset (fset s (F.CHAIN_STAT_GAIN c.1) c.2.1.toNat) (F.CHAIN_STAT_NOISE c.1) c.2.2.toNat)
      ((List.range 4).zip i.gains) s
    let locked := recs.filter (fun r => decide (4 ≤ r.state.val))
    let s := forAll (fun r s => onlyIf r.slip (noteSlip r.chan) s) locked s
    let rs := locked.map (fun r => { r with slip := s.nav.slips.contains r.chan.val })
    let s := setNav { s.nav with meas := some (k, rs) } s
    let s := fbool s F.GNSS_STAT_ACQ_BUSY ((List.range 200).any (fun c => decide (fget s (F.TRK_STAT_STATE c) = 1)))
    let s := fset (fset s F.GNSS_STAT_SATS (satellites rs).length) F.GNSS_STAT_TRACKED rs.length
    sendMeasurements k t rs s

/-- CHAIN_FAILURE of chain c (R391): until the next cold start. -/
def chainFailure (c : Nat) (s : State) : State :=
  let f := fget s F.GNSS_STAT_CHAIN_FAIL
  if f / 2 ^ c % 2 = 1 then s
  else
    let s := raise 4 9 c .chainFail [c] (fset s F.GNSS_STAT_CHAIN_FAIL (f + 2 ^ c))
    cullet 2 (forAll idleChannel ((List.range 200).filter (fun k => fget s (F.TRK_CFG_CHAIN k) = c)) s)

/-- ANT_OPEN of antenna a, set or cleared (R392). -/
def antOpen (a : Nat) (isOpen : Bool) (s : State) : State :=
  let f := fget s F.GNSS_STAT_ANT_OPEN
  let was := decide (f / 2 ^ a % 2 = 1)
  if was = isOpen then s
  else if isOpen then raise 3 9 (2 * a) .antOpen [a] (fset s F.GNSS_STAT_ANT_OPEN (f + 2 ^ a))
  else fset s F.GNSS_STAT_ANT_OPEN (f - 2 ^ a)

/-- GNSS_CTRL.COLD (R399): the stored data go, all but the temperature model; acquisition restarts. -/
def gnssCold (s : State) : State :=
  let s := setNav { s.nav with ephemeris := false, almanac := false, lastPos := none, storedPos := none, storedEphemeris := false, storedAlmanac := false } s
  let s := forAll idleChannel ((List.range 200).filter (fun k => !flag s (F.TRK_CFG_MANUAL k))) s
  fset s F.GNSS_STAT_ACQ_BUSY 1

/-- NAV_DATA_STORE (R399). -/
def navStore (s : State) : State :=
  setNav { s.nav with storedPos := s.nav.lastPos, storedEphemeris := s.nav.ephemeris, storedAlmanac := s.nav.almanac } s
/-- The GNS front end and correlators lose their power (R36): no channel tracks, no measurement stands; the pose engine runs
on. DEDUCED, log entry 126. -/
def gnsDown (s : State) : State :=
  let s := forAll idleChannel (List.range 200) { s with start := { s.start with gnsUp := false } }
  let s := fset (fset (fset s F.GNSS_STAT_ACQ_BUSY 0) F.GNSS_STAT_SATS 0) F.GNSS_STAT_TRACKED 0
  setNav { s.nav with meas := none } s

/-- A correction frame is bad, or a set is rejected (R404, R406): no record, since its chapter names no severity (R39;
DESIGN CHOICE, log entry 102). -/
def badCorrection (crc : Bool) (s : State) : State :=
  let s := fsat s F.CORR_CNT_BAD 1
  if crc then fset s F.CORR_STAT_CRC_ERR 1 else s

/-- The bytes of message in an RTCM 3 frame, by its header. -/
def rtcmLength (b : List Byte) : Nat := (b.getD 1 0).toNat % 4 * 256 + (b.getD 2 0).toNat
/-- Whether bytes are a good RTCM 3 frame (R404). -/
def goodFrame (b : List Byte) : Bool :=
  let len := rtcmLength b
  decide (b.getD 0 0 = 0xD3) && decide ((b.getD 1 0).toNat < 4) && decide (b.length = len + 6) &&
    decide (crc24q (b.take (len + 3)) = beNat (b.drop (len + 3)))

/-- Field of n bits at a place of a message, the first bit its most significant one (RTCM 10403; PRESUMED, log entry 116). -/
def rtcmField (p : List Byte) (pos n : Nat) : Nat := beNat p / 2 ^ (8 * p.length - pos - n) % 2 ^ n
/-- A signed field of 38 bits. -/
def rtcmCoord (p : List Byte) (pos : Nat) : Int := let v := rtcmField p pos 38; if v < 2 ^ 37 then (v : Int) else (v : Int) - 2 ^ 38
/-- The base position of a message 1005 or 1006 (R405; PRESUMED, log entry 116). -/
def baseOf (p : List Byte) : Option BasePos :=
  let n := rtcmField p 0 12
  if (n = 1005 ∧ p.length = 19) ∨ (n = 1006 ∧ p.length = 21) then
    some ⟨rtcmField p 12 12, rtcmCoord p 34, rtcmCoord p 74, rtcmCoord p 114, if n = 1006 then some (rtcmField p 152 16) else none⟩
  else none

/-- The system of an MSM4 to MSM7 message that is used (R405), by its number. -/
def msmSystem (n : Nat) : Option Nat :=
  if 1074 ≤ n ∧ n ≤ 1077 then some 0 else if 1094 ≤ n ∧ n ≤ 1097 then some 1
  else if 1124 ≤ n ∧ n ≤ 1127 then some 2 else if 1114 ≤ n ∧ n ≤ 1117 then some 3 else none
/-- The signal code of R388 of an MSM signal of a system (PRESUMED, log entry 116). -/
def msmSignal (y i : Nat) : Option Nat :=
  let l5 := decide (22 ≤ i ∧ i ≤ 24)
  let l1c := decide (30 ≤ i ∧ i ≤ 32)
  match y with
  | 0 => if i = 2 then some 0 else if l1c then some 1 else if l5 then some 2 else none
  | 1 => if i = 2 ∨ i = 4 ∨ i = 5 then some 3 else if l5 then some 4 else none
  | 2 => if l1c then some 5 else if l5 then some 6 else none
  | 3 => if i = 2 then some 7 else if l1c then some 8 else if l5 then some 9 else none
  | _ => none
/-- The bits of a satellite and of a cell in MSM4 to MSM7 (PRESUMED, log entry 116). -/
def msmBits (n : Nat) : Nat × Nat := match n % 10 with | 4 => (18, 48) | 5 => (36, 63) | 6 => (18, 65) | _ => (36, 80)
/-- A week in ms. -/
abbrev weekMs : Nat := 604800000
/-- What an MSM message of system y says (R406; PRESUMED, log entry 116): base epoch, whether its cells agree with its
satellite and signal masks, cells used; and whether more messages of its epoch follow. -/
def msmOf (y : Nat) (p : List Byte) : MsmSet × Bool :=
  let ones (pos n : Nat) : List Nat := (List.range n).filter (fun i => decide (rtcmField p (pos + i) 1 = 1))
  let pairs := (ones 73 64).flatMap (fun a => (ones 137 32).map (fun b => (a + 1, b + 1)))
  let chosen := ((pairs.zip (List.range pairs.length)).filter (fun c => decide (rtcmField p (169 + c.2) 1 = 1))).map (·.1)
  let w := msmBits (rtcmField p 0 12)
  let bits := 169 + pairs.length + (ones 73 64).length * w.1 + chosen.length * w.2
  let tow := if y = 2 then (rtcmField p 24 30 + 14000) % weekMs else rtcmField p 24 30
  (⟨tow, decide (pairs.length ≤ 64) && decide (bits ≤ 8 * p.length) && decide (8 * p.length < bits + 8),
    chosen.filterMap (fun c => (msmSignal y c.2).map (fun g => (g, c.1)))⟩, decide (rtcmField p 54 1 = 1))

/-- The correction age at GTIME g in ns, none without a set (R406). -/
def corrAge (s : State) (g : Nat) : Option Nat := s.nav.setNewest.map (fun t => g - t)

/-- Whether corrections are too old or absent at GTIME g (R408). -/
def corrOld (s : State) (g : Option Nat) : Bool :=
  match g.bind (corrAge s) with
  | none => true
  | some a => decide (fget s F.CORR_CFG_AGE * 1000000000 < a)

/-- A base position arrives (R407). -/
def takeBase (b : BasePos) (s : State) : State :=
  let far := match s.nav.base with
    | none => true
    | some o => o.station != b.station || decide (10000 < (o.x - b.x) ^ 2 + (o.y - b.y) ^ 2 + (o.z - b.z) ^ 2)
  if far then fset (setNav { s.nav with base := some b, ambDrop := true } s) F.CORR_STAT_BASE_VALID 1 else s

/-- A message of an observation set arrives; a complete set that agrees with its masks waits for the next epoch (R406, R407). -/
def takeMsm (m : MsmSet) (more : Bool) (s : State) : State :=
  let m := match s.nav.setOpen with
    | some o => if o.tow = m.tow then { m with ok := o.ok && m.ok, cells := (o.cells ++ m.cells).dedup } else m
    | none => m
  if more then setNav { s.nav with setOpen := some m } s
  else
    let s := setNav { s.nav with setOpen := none } s
    if m.ok then setNav { s.nav with setWait := some m } s else badCorrection false s

/-- The message of a good frame is used, or ignored and counted (R389, R405). -/
def takeMessage (p : List Byte) (s : State) : State :=
  let s := fsat s F.CORR_CNT_GOOD 1
  match baseOf p, (if p.length < 22 then none else msmSystem (rtcmField p 0 12)) with
  | some b, _ => takeBase b s
  | none, some y => let m := msmOf y p; takeMsm m.1 m.2 s
  | none, none => fsat s F.CORR_IGN_COUNT 1

/-- The parser takes the next frame of its buffer (R404): it seeks 0xD3, and goes on from the byte after it where the frame is
bad; a frame that is not whole waits for more bytes. DEDUCED, log entry 118. -/
def parseFrame : Nat → State → State
  | 0, s => s
  | n + 1, s =>
    let b := s.nav.corrBuf.dropWhile (fun x => x != 0xD3)
    let len := rtcmLength b + 6
    let reserved := decide (4 ≤ (b.getD 1 0).toNat)
    if b.length < 3 ∨ (!reserved ∧ b.length < len) then setNav { s.nav with corrBuf := b } s
    else if !reserved && goodFrame (b.take len) then
      takeMessage ((b.take (len - 3)).drop 3) (setNav { s.nav with corrBuf := b.drop len } s)
    else parseFrame n (badCorrection true (setNav { s.nav with corrBuf := b.drop 1 } s))

/-- A byte from a source enters the parser's 4 KB buffer (R404, R523); while EN is 0 it is discarded. -/
def feedByte (src : Nat) (b : Byte) (s : State) : State :=
  if flag s F.CORR_CFG_EN ∧ fget s F.CORR_CFG_SOURCE = src then
    setNav { s.nav with corrBuf := (s.nav.corrBuf ++ [b]).drop (s.nav.corrBuf.length + 1 - 4096) } s
  else s

/-- RTCM_FRAME from a source (R404 to R407): the next frame of the parser's buffer is checked and used or ignored. The bytes of
a bus port and of CORR_FEED stand in the buffer already; those of the Gaffer port come with the command, and are
discarded and counted while CORR_CFG names another source (R593). DEDUCED, log entry 118. -/
def rtcmFrame (src : Nat) (b : List Byte) (s : State) : State :=
  if src = 6 ∧ fget s F.CORR_CFG_SOURCE ≠ 6 then fsat s F.SVC_STAT_CORR_DISC b.length
  else if !flag s F.CORR_CFG_EN ∨ fget s F.CORR_CFG_SOURCE ≠ src then s
  else
    let s := onlyIf (decide (src = 6)) (forAll (feedByte 6) b) s
    parseFrame (s.nav.corrBuf.length + 1) s

/-- The corrections become stale (R408): a record at the fall of an RTK pose. -/
def corrStale (s : State) : State :=
  if flag s F.CORR_STAT_STALE then s
  else
    let s := fset s F.CORR_STAT_STALE 1
    onlyIf (decide (4 ≤ fget s F.POSE_STAT_QUALITY)) (raise 3 10 0 .corrStale []) s

/-- Whether inertial data are excluded at MTIME m (R412). -/
def imuExcluded (s : State) (m : Nat) : Bool :=
  s.nav.imuMiss.isSome || (match s.nav.imuSat with | some t => decide (m < t) | none => false)

/-- A correction set that waits is taken at an epoch of GTIME g in ns (R406, R407): its base epoch is the time of week nearest
to g; more than 1 s ahead it is discarded, and an older one than the newest replaces nothing. Within the age limit it
ends the staleness (R408). -/
def takeSet (g : Option Nat) (s : State) : State :=
  match s.nav.setWait, g with
  | some m, some g =>
    let w : Int := weekMs * 1000000
    let t : Int := m.tow * 1000000
    let e := (t + w * (((g : Int) - t + w / 2) / w)).toNat
    let s := setNav { s.nav with setWait := none } s
    if g + 1000000000 < e then badCorrection false s
    else if (match s.nav.setNewest with | some o => decide (e < o) | none => false) then s
    else
      let s := setNav { s.nav with setNewest := some e, setCells := m.cells } s
      if corrOld s (some g) then s else fset s F.CORR_STAT_STALE 0
  | _, _ => s

/-- CORRECTION_STALE (R408): at the next epoch, if the age exceeds its limit there or no set is held. -/
def correctionStale (s : State) : State :=
  let m := epochTime s (epochOf s s.nav.pubNext)
  let g := if timeState s = 0 then none else some (gtimeAt s m / 256).toNat
  if corrOld s g then corrStale (atTime m s) else s

/-- The component of a vector along an axis mark of the lid (R256). -/
def alongMark (c : Nat) : Int × Int × Int :=
  let k : Int := if c % 2 = 0 then 1 else -1
  match c / 2 with | 0 => (k, 0, 0) | 1 => (0, k, 0) | _ => (0, 0, k)
/-- The angular rate about implement z of a rate about the lid's axes, by the mounting of the model (R256). -/
def upRate (m : MapSet) (w : Int × Int × Int) : Int :=
  let x := alongMark (bitsOf (modelWord m 2) 2 0)
  let y := alongMark (bitsOf (modelWord m 2) 6 4)
  (x.2.1 * y.2.2 - x.2.2 * y.2.1) * w.1 + (x.2.2 * y.1 - x.1 * y.2.2) * w.2.1 + (x.1 * y.2.1 - x.2.1 * y.1) * w.2.2
/-- The yaw rate of a sample in µrad/s, clockwise positive (R412). -/
def ImuSample.yaw (m : MapSet) (x : ImuSample) : Int := -upRate m x.rate
/-- Whether a sample is at an end of a range, ±300 °/s or ±8 g (R412). -/
def ImuSample.saturated (x : ImuSample) : Bool :=
  [x.rate.1, x.rate.2.1, x.rate.2.2].any (fun v => decide (5235987 < v.natAbs)) || [x.acc.axes.1, x.acc.axes.2.1, x.acc.axes.2.2].any (fun v => decide (78453 < v.natAbs))
/-- Whether a sample shows motion: not below 0.2 m/s² and 1 °/s (R131). -/
def ImuSample.moving (m : MapSet) (x : ImuSample) : Bool := decide (200 ≤ x.acc.level) || decide (17454 ≤ (x.yaw m).natAbs)

/-- A sample that shows motion is noted, and apart where no valid pose stands (R131). -/
def noteMotion (s : State) : State :=
  let blind := match s.marker.poses with | p :: _ => decide (p.quality = 0) | [] => true
  setNav { s.nav with imuMoved := some s.mtime, imuBlind := if blind then some s.mtime else s.nav.imuBlind } s

/-- INERTIAL_SAMPLE (R412): a sample, saturated or good, or a missing one. A good one outside an exclusion adds its yaw rate
to those of its epoch. DEDUCED, log entry 119. An exclusion writes no record (R39; DESIGN CHOICE, log entry 102). -/
def inertialSample (x : Option ImuSample) (s : State) : State :=
  let m := s.mtime
  match x with
  | none =>
    let s := onlyIf s.nav.imuMiss.isNone (fun s => fset s F.IMU_STAT_MISS 1) (fsat s F.IMU_MISS_CNT_COUNT 1)
    fbool (setNav { s.nav with imuMiss := some 0 } s) F.IMU_STAT_EXCL true
  | some x =>
    let s := onlyIf (x.moving s.maps.active) noteMotion s
    let run := match s.nav.imuMiss with
      | none => none
      | some k => if 100 ≤ k + 1 then none else some (k + 1)
    let held := match s.nav.imuSat with | some t => decide (m < t) | none => false
    let s := setNav { s.nav with imuMiss := run } s
    let s :=
      if x.saturated then setNav { s.nav with imuSat := some (m + sec) } (onlyIf (!held) (fun s => fset s F.IMU_STAT_SAT 1) s)
      else if held then s else setNav { s.nav with imuSat := none } s
    let excl := imuExcluded s m
    let n := s.nav.turn
    let s := onlyIf (!excl) (setNav { s.nav with turn := (n.1 + x.yaw s.maps.active, n.2 + 1) }) s
    fbool s F.IMU_STAT_EXCL excl

/-- The input of ground-speed source k, if it is in use (R413). -/
def speedInput (s : State) (k : Nat) : Option Nat :=
  if k = 0 then (if flag s F.SPEED_SRC_EN0 then some (fget s F.SPEED_SRC_INPUT0) else none)
  else if flag s F.SPEED_SRC_EN1 then some (fget s F.SPEED_SRC_INPUT1) else none
/-- Whether the source on input n is stale. -/
def sourceStale (s : State) (n : Nat) : Bool := fbState s n != 0
/-- The speed of source k in mm/s with its sign (R413): an unsigned one takes the direction of travel. -/
def sourceSpeed (s : State) (k n : Nat) (forward : Bool) : Int :=
  let v := speedNow s n
  let signed := if k = 0 then flag s F.SPEED_SRC_SIGNED0 else flag s F.SPEED_SRC_SIGNED1
  if signed then v else if forward then v.natAbs else -(v.natAbs : Int)
/-- The scaled speed for dead reckoning: of the lowest-numbered source that is not stale (DESIGN CHOICE, log entry 16). -/
def drSpeed (s : State) (forward : Bool) : Option Int :=
  ([0, 1].filterMap (fun k => match speedInput s k with
    | none => none
    | some n => if sourceStale s n then none
      else some (roundHalfAway (sourceSpeed s k n forward * fget s (F.SPEED_SCALE_SCALE k)) 65536))).head?

/-- Learn the scale of source k against the satellite speed v in mm/s (R413): weight 1/256, held within
0.900 to 1.100. -/
def learnScale (v : Int) (k : Nat) (s : State) : State :=
  match speedInput s k with
  | none => s
  | some n =>
    let f := (speedNow s n).natAbs
    if sourceStale s n ∨ f = 0 then s
    else
      let new := roundOpen (255 * fget s (F.SPEED_SCALE_SCALE k) * f + 65536 * v.natAbs) (256 * f)
      fset s (F.SPEED_SCALE_SCALE k) (max 58983 (min new 72089))

/-- 2π in 10⁻⁶ µrad. -/
abbrev fullTurn : Int := 6283185307180
/-- A fixed-point angle in 10⁻⁶ µrad, from 0 to a full turn. -/
def turnOf (x : Int) : Int := roundHalfAway (x * 1000000000000) fixOne.toNat % fullTurn
/-- Whole microradians from 0 to 6,283,184. -/
def headWord (h : Int) : Int := let w := roundHalfAway h 1000000; if 6283184 < w then 0 else w

/-- The horizontal length of a vector in mm, in units of 10⁻³ mm. -/
def lengthUm (x y : Int) : Int := sqrtFloor 60 ((x * x + y * y) * 1000000).toNat

/-- The model's baseline, B to A, in body 0 (R256, R410). -/
def modelBaseline (m : MapSet) : Int × Int :=
  ((modelWord m 4).toInt - (modelWord m 7).toInt, (modelWord m 5).toInt - (modelWord m 8).toInt)

/-- Whether a baseline agrees with the model to 20 mm plus 1 % (R410). -/
def baselineFits (m : MapSet) (b : Int × Int × Int) : Bool :=
  let k := modelBaseline m
  let l := lengthUm k.1 k.2
  decide (100 * ((lengthUm b.1 b.2.1 - l).natAbs : Int) ≤ 2000000 + l)

/-- Heading in 10⁻⁶ µrad, roll and pitch in µrad from a baseline, B to A (R410): a baseline along implement
x yields pitch in place of roll. -/
def attitudeOf (m : MapSet) (b : Int × Int × Int) (roll pitch : Int) : Int × Int × Int :=
  let k := modelBaseline m
  let psi := fixAtan2 (b.1 * fixOne) (b.2.1 * fixOne) - fixAtan2 (-k.2 * fixOne) (k.1 * fixOne)
  let el := roundHalfAway (fixAtan2 (b.2.2 * fixOne) (fixHypot (b.1 * fixOne) (b.2.1 * fixOne)) * 1000000) fixOne.toNat
  if k.2 = 0 then (turnOf psi, roll, el * k.1.sign) else (turnOf psi, el * k.2.sign, pitch)

/-- A record of quality 0 keeps words 4 to 14 of the last record that had another (R417). -/
def heldWords (good words : List Word) : List Word := words.take 4 ++ (good.drop 4).take 11 ++ words.drop 15

/-- Two signed halves of a word. -/
def halves (hi lo : Int) : Word := BitVec.ofInt 32 ((hi % 65536) * 65536 + lo % 65536)
/-- A word from an unbounded integer that saturates at the 16-bit range. -/
def satS16 (v : Int) : Int := max (-32768) (min v 32767)

/-- A quality change's severity (R416). -/
def qualitySev (old new : Nat) : Nat := if new = 0 then 3 else if new = 1 then 2 else if new < old then 2 else 1

/-- Frame origin for positions: the active field's, else where the pose last was (DESIGN CHOICE, log entry 16). -/
def poseOrigin (s : State) (lat lon hgt : Int) : Int × Int × Int :=
  match s.maps.active.field with
  | some f => originOf s f
  | none => (lat / 100, lon / 100, hgt)

/-- The antenna that gives the position (R391): ANT_A, or ANT_B while both chains of ANT_A have failed; none with all failed. -/
def antennaOf (s : State) : Option Nat :=
  [0, 1].find? (fun a => !(chainBad s (2 * a) && chainBad s (2 * a + 1)))

/-- The reference point from the position of antenna a (R409, R258): its offset in the model, turned by the attitude, is
taken away. In fixed point, in the frame of the origin. -/
def refPoint (m : MapSet) (a : Nat) (e n u : Int) (head : Int) (roll pitch : Int) : Int × Int × Int :=
  let f (i : Nat) : Int := (modelWord m (4 + 3 * a + i)).toInt * fixOne
  let p : PoseIn := ⟨0, 0, 0, roll, pitch, 0, 0, 0, []⟩
  let o := toField p (0, 0, headFix head) (f 0) (f 1) (f 2)
  let sr := fixSin (fixUrad roll)
  let cr := fixCos (fixUrad roll)
  let up := fixMul (f 0) (fixSin (fixUrad pitch)) + fixMul (fixMul (f 1) sr + fixMul (f 2) cr) (fixCos (fixUrad pitch))
  (e - o.1, n - o.2, u - up)

/-- The measurements that the pose engine has of epoch k (R401): none while the GNS domain does not work (R36). -/
def measOf (s : State) (k : Nat) : List MeasRec :=
  match s.nav.meas with | some (j, rs) => if j = k ∧ gnsUp s = true then rs else [] | none => []

/-- A satellite solution rests on the measurements of its epoch: no more satellites of a system than are tracked, and none
without an antenna (R391, R409). DEDUCED, log entry 120. -/
def fixFrom (s : State) (k : Nat) (i : PoseInput) : Option SatFix :=
  let sats := satellites (measOf s k)
  match i.fix, antennaOf s with
  | some f, some _ =>
    let used := (List.range 5).map (fun y => min (f.used.getD y 0) (sats.filter (fun p => p.1 == y)).length)
    some { f with used := used, sbas := min f.sbas used.sum }
  | _, _ => none

/-- The satellites with a signal tracked on both antennas (R410). -/
def onBoth (rs : List MeasRec) : List (Nat × Nat) :=
  satellites (rs.filter (fun r => decide (r.chain.val < 2) && rs.any (fun q => decide (2 ≤ q.chain.val) && q.sig == r.sig && q.prn == r.prn)))
/-- The baseline of epoch k: solved only with at least 5 satellites on both antennas (R410). -/
def baselineOf (s : State) (k : Nat) (i : PoseInput) : Option (Int × Int × Int) :=
  if 5 ≤ (onBoth (measOf s k)).length then i.baseline else none
/-- The satellites with common signals at base and rover (R415). -/
def commonSats (s : State) (k : Nat) : Nat :=
  (satellites ((measOf s k).filter (fun r => s.nav.setCells.contains (r.sig.val, r.prn.toNat)))).length

/-- A signed value of 32 bits that nothing fixes. -/
def freeInt (k : Nat) : Int := (Config.free k % 2 ^ 32 : Nat) - 2 ^ 31
/-- Whether the epoch has inertial data (R412). -/
def hasInertial (s : State) (m : Nat) : Bool := !imuExcluded s m && decide (s.nav.turn.2 ≠ 0)
/-- Yaw rate, roll and pitch of an epoch (R409, R412): the mean of the samples, and what the fusion gives. Without inertial
data the spec gives no value, and each is a free one. DESIGN CHOICE, log entry 119. -/
def ratesOf (s : State) (i : PoseInput) (m : Nat) : Int × Int × Int :=
  if hasInertial s m then (roundHalfAway s.nav.turn.1 s.nav.turn.2, i.roll, i.pitch)
  else (freeInt s.freeCtr, freeInt (s.freeCtr + 1), freeInt (s.freeCtr + 2))

/-- What the pose engine finds at an epoch. -/
structure Solved where
  pose : Pose
  src : Nat
  head : Int
  solved : Bool
  slow : Option Nat
  fine : Int × Int × Int
  origin : Int × Int × Int
deriving DecidableEq, Repr

/-- A speed in mm/s along a heading, as east and north velocity in fixed point. -/
def alongHead (v : Int) (head : Int) : Int × Int := (v * fixSin (headFix head), v * fixCos (headFix head))

/-- Since when the yaw rate lies below 20,000 µrad/s, with the epoch at MTIME m (R411). -/
def slowSince (s : State) (yaw : Int) (m : Nat) : Option Nat :=
  if yaw.natAbs < 20000 then (match s.nav.slow with | none => some m | x => x) else none

/-- The heading source (R411): 1 baseline, 2 inertial hold, 3 course over ground, 0 none. -/
def headSource (s : State) (f : Option SatFix) (slow : Option Nat) (m : Nat) (accepted : Bool) : Nat :=
  let held := match s.nav.head with
    | some (t, _) => decide (m - t ≤ 10 * sec * fget s F.POSE_CFG_HEAD_HOLD)
    | none => false
  let course := match f, slow with
    | some f, some t => decide (1000000 ≤ f.ve ^ 2 + f.vn ^ 2) && decide (t + 2 * sec ≤ m)
    | _, _ => false
  if accepted then 1 else if held then 2 else if course then 3 else 0

/-- The solution's quality before the limits of R415. -/
def fixQuality (s : State) (k : Nat) (f : SatFix) (old : Bool) : Nat :=
  let rtk := !old && s.nav.base.isSome && decide (5 ≤ commonSats s k)
  if rtk && f.fixed && !s.nav.ambDrop then 5
  else if rtk then 4
  else if 4 ≤ f.sbas then 3
  else if f.used.any (fun n => decide (4 ≤ n)) || decide (5 ≤ f.used.sum) then 2
  else 0

/-- The time in dead reckoning at MTIME m: since the first epoch without a satellite solution (R414; DEDUCED, log entry 121). -/
def reckoned (s : State) (m : Nat) : Nat := m - (s.nav.lastSat.getD m + 10 * ms)

/-- The position and velocity of an epoch, in fixed point in the frame of an origin, and that origin: of a satellite solution of
quality 2 or better, else advanced by the scaled speed along the heading (R409, R414). -/
def placePose (s : State) (f : Option SatFix) (head roll pitch : Int) (steps : Int) (v : Int) :
    (Int × Int × Int) × (Int × Int) × (Int × Int × Int) :=
  match f with
  | some f =>
    let o := poseOrigin s f.lat f.lon f.hgt
    let a := toFrameFix 100 f.lat f.lon f.hgt o.1 o.2.1 o.2.2
    (refPoint s.maps.active ((antennaOf s).getD 0) a.1 a.2.1 a.2.2 head roll pitch, (f.ve * fixOne, f.vn * fixOne), o)
  | none =>
    let last := s.marker.poses.headD Pose.none
    let o := match s.maps.active.field with | some f => originOf s f | none => s.nav.origin
    let b := if s.nav.origin = o then s.nav.fine else toFrameFix 100 last.lat last.lon last.hgt o.1 o.2.1 o.2.2
    let w := alongHead v head
    ((b.1 + w.1 * steps / 100, b.2.1 + w.2 * steps / 100, b.2.2), w, o)

/-- Solve epoch k at MTIME m (R409 to R415). -/
def solvePose (s : State) (i : PoseInput) (k m : Nat) (old : Bool) : Solved :=
  let md := s.maps.active
  let fix := fixFrom s k i
  let rates := ratesOf s i m
  let slow := slowSince s rates.1 m
  let base := (baselineOf s k i).filter (baselineFits md)
  let src := headSource s fix slow m base.isSome
  let att := match base with
    | some b => attitudeOf md b rates.2.1 rates.2.2
    | none => (0, rates.2.1, rates.2.2)
  let turn := if hasInertial s m then s.nav.turn.1 * 1000 else 0
  let head := match src with
    | 1 => att.1
    | 2 => ((s.nav.head.map (·.2)).getD 0 + turn) % fullTurn
    | 3 => match fix with | some f => turnOf (fixAtan2 (f.ve * fixOne) (f.vn * fixOne)) | none => 0
    | _ => 0
  let q0 := match fix with | some f => fixQuality s k f old | none => 0
  let dv := drSpeed s i.forward
  let dr := decide (q0 = 0) && decide (1 ≤ fget s F.POSE_STAT_QUALITY) && !imuExcluded s m && dv.isSome && decide (src = 2) &&
    s.nav.lastSat.isSome && decide (reckoned s m ≤ sec * fget s F.POSE_CFG_DR_LIMIT)
  let q := if 2 ≤ q0 then q0 else if dr then 1 else 0
  let q := if fget s F.POSE_CFG_SIGMA_MAX < i.sigmaH ∨ src = 0 ∨ 35000 < i.sigmaHead then 0 else q
  let fix := if 2 ≤ q0 then fix else none
  let (p, v, o) := placePose s fix head att.2.1 att.2.2 ((k + 1 - s.nav.pubNext : Nat) : Int) (dv.getD 0)
  let g := fromFrame p.1 p.2.1 p.2.2 o.1 o.2.1 o.2.2
  let sp := match fix with
    | some _ => roundHalfAway (fixMul v.1 (fixSin (headFix head)) + fixMul v.2 (fixCos (headFix head))) fixOne.toNat
    | none => dv.getD 0
  let r : Pose :=
    { time := m, quality := q, e := p.1, n := p.2.1, u := p.2.2, heading := head, roll := att.2.1,
      pitch := att.2.2, yaw := rates.1, speed := max (-32767) (min sp 32767), ve := v.1, vn := v.2, sigmaH := i.sigmaH,
      sigmaHead := i.sigmaHead, inDr := if q = 1 then reckoned s m / (10 * ms) else 0, headHeld := decide (src = 2),
      field := s.maps.active.field, lat := g.1, lon := g.2.1, hgt := g.2.2 }
  ⟨r, src, head, decide (2 ≤ q0), slow, p, o⟩

/-- The record's words (R418). -/
def recordWords (s : State) (p : Pose) (src : Nat) (g : Option Nat) (excl stale : Bool) : List Word :=
  let fv := p.field.isSome
  let b (v : Bool) (i : Nat) : Nat := if v then 2 ^ i else 0
  let pos (x : Int) : Word := if fv then wordOf (mmRound x) else 0
  let vel (x : Int) : Int := max (-32767) (min (mmRound x) 32767)
  let words := [loWord p.time, hiWord p.time, loWord (g.getD 0), hiWord (g.getD 0),
    wordOf (roundHalfAway p.lat 100), wordOf (roundHalfAway p.lon 100), wordOf p.hgt, pos p.e, pos p.n, pos p.u, halves (vel p.ve) (vel p.vn),
    BitVec.ofNat 32 ((headWord p.heading).toNat + b g.isSome 23 + b fv 24 + 2 ^ 25 * src + b excl 27 + b stale 28),
    halves (satS16 (roundHalfAway p.roll 100)) (satS16 (roundHalfAway p.pitch 100)), wordOf p.yaw,
    halves p.speed (min p.sigmaH 65535),
    BitVec.ofNat 32 (p.quality + 16 * p.field.getD 0 + 2 ^ 8 * min 255 (roundHalfAway p.sigmaHead 100).toNat + 2 ^ 16 * min 65535 p.inDr)]
  if p.quality = 0 then heldWords s.nav.goodRec words else words

/-- The pose records of the last 10 s, and the one before them (R183, R250). -/
def prunePoses (m : Nat) : List Pose → List Pose
  | [] => []
  | p :: ps => if p.time + 10 * sec ≤ m then [p] else p :: prunePoses m ps

/-- What the record changes: heading, satellite time, position, ambiguities, navigation data (R399, R407, R411, R414). -/
def noteSolved (i : PoseInput) (r : Solved) (k m : Nat) (s : State) : State :=
  let p := r.pose
  let head := if r.src = 1 ∨ r.src = 3 then some (m, r.head)
    else if r.src = 2 then s.nav.head.map (fun h => (h.1, r.head)) else s.nav.head
  setNav { s.nav with
             pubNext := k + 1, head := head, slow := r.slow, turn := (0, 0), ambDrop := s.nav.ambDrop && !r.solved
             lastSat := if r.solved then some m else s.nav.lastSat
             fine := if p.quality ≠ 0 then r.fine else s.nav.fine
             origin := if p.quality ≠ 0 then r.origin else s.nav.origin
             ephemeris := s.nav.ephemeris || r.solved
             almanac := s.nav.almanac || i.almanac
             lastPos := if 2 ≤ p.quality then some (p.lat, p.lon, p.hgt) else s.nav.lastPos }
    { s with freeCtr := s.freeCtr + (if hasInertial s m then 0 else 3) }

/-- What an epoch says of UTC and of GTIME (R434, R445). DEDUCED, log entry 42. -/
def poseTime (i : PoseInput) (p : Pose) (m : Nat) (s : State) : State :=
  let s := match i.utc with | some o => { s with clock := { s.clock with utc := some o } } | none => s
  let s := match i.utcNext with | some x => { s with clock := { s.clock with utcNext := some x } } | none => s
  match i.gtime with
  | some x => if 2 ≤ p.quality then timeSolution m x.1 x.2 s else s
  | none => s

/-- The record of an epoch is published: the status registers, the history, the record in Q97. -/
def poseRecorded (i : PoseInput) (used : Option Nat) (p : Pose) (src : Nat) (words : List Word) (m : Nat) (s : State) : State :=
  let q0 := fget s F.POSE_STAT_QUALITY
  let s := setNav { s.nav with lastRec := words, goodRec := if p.quality = 0 then s.nav.goodRec else words } s
  let s := { s with marker := { s.marker with poses := p :: prunePoses m s.marker.poses } }
  let s := fset (fset (fbool s F.POSE_STAT_FIELD_VALID p.field.isSome) F.POSE_STAT_HEAD_SRC src) F.POSE_STAT_QUALITY p.quality
  let s := match used with | some n => fset s F.POSE_STAT_SATS_USED (min 63 n) | none => s
  let s := onlyIf (decide (2 ≤ p.quality)) (fun s => fset s F.GNSS_STAT_FIRST_FIX 1) s
  let s := onlyIf (decide (2 ≤ p.quality) && decide (1000 ≤ p.speed.natAbs)) (fun s => learnScale p.speed 1 (learnScale p.speed 0 s)) s
  let s := onlyIf (q0 != p.quality) (raise (qualitySev q0 p.quality) 10 0 .qualityChange [q0, p.quality]) s
  let s := onlyIf (q0 != 0 && p.quality == 0) (fun s => fsat s F.QUAL_CNT_COUNT 1) s
  poseTime i p m (deliver 97 (packWords words) (fwrap s F.POSE_CNT_COUNT 1))

/-- POSE_RECORD_PUBLISH (R409 to R421). -/
def posePublish (i : PoseInput) (s : State) : State :=
  let k := epochOf s s.nav.pubNext
  let m := epochTime s k
  let s := atTime (m + navDelay s) s
  let fix := fixFrom s k i
  let i := if fix.isSome then i else { i with gtime := none }
  let g := match i.gtime with
    | some x => some x.1
    | none => if timeState s ≠ 0 then some (gtimeAt s m / 256).toNat else none
  let s := takeSet g s
  let old := corrOld s g
  let s := onlyIf old corrStale s
  let s := fset s F.CORR_STAT_AGE (match g.bind (corrAge s) with | none => 0xFFFF | some a => min 0xFFFF (a / 100000000))
  let s := match baselineOf s k i with
    | none => s
    | some b =>
      if baselineFits s.maps.active b then fset s F.HEAD_STAT_BASE_MM (min 65535 (roundHalfAway (lengthUm b.1 b.2.1) 1000).toNat)
      else fsat s F.HEAD_STAT_BASE_REJ_CNT 1
  let r := solvePose s i k m (old || flag s F.CORR_STAT_STALE)
  let excl := imuExcluded s m
  let s := fbool s F.IMU_STAT_EXCL excl
  let stale := [0, 1].any (fun k => match speedInput s k with | some n => sourceStale s n | none => false)
  let words := recordWords s r.pose r.src g excl stale
  poseRecorded i (fix.map (·.used.sum)) r.pose r.src words m (noteSolved i r k m s)

/-- The next tick (R437, R438): the first at MTIME 0, then the first multiple of the period at least 2 ms
after the last tick and not before the last change of period. -/
def nextTick (s : State) : Nat :=
  match s.nav.lastTick with
  | none => 0
  | some t =>
    let p := ms * max 1 (fget s F.TICK_CFG_PERIOD)
    (max (t + 2 * ms) s.nav.regrid + p - 1) / p * p

/-- The velocity of a pose turned by its yaw rate over tn/td seconds (R259), rounded to mm/s. -/
def turnedVelocity (p : Pose) (tn td : Int) : Int × Int :=
  let b := p.yaw * tn * fixOne / (td * 1000000)
  (mmRound (fixMul p.ve (fixCos b) + fixMul p.vn (fixSin b)), mmRound (fixMul p.vn (fixCos b) - fixMul p.ve (fixSin b)))

/-- The words of the snapshot of a tick at MTIME t with number num (R27, R169, R170, R420): the latest record extrapolated at
its full resolution. Word 17 is zero while no field is active (DESIGN CHOICE, log entry 105). -/
def snapshotWords (s : State) (t num : Nat) : List Word :=
  let p := s.marker.poses.headD Pose.none
  let f := s.maps.active.field
  let q := if f.isNone then 0 else p.quality
  let tn : Int := ((t - p.time : Nat) : Int) * 25
  let td : Int := 256 * 1000000000
  let pos := positionIn s p (f.getD 0)
  let pi : PoseIn := ⟨pos.1, pos.2.1, headFix p.heading, p.roll, p.pitch, p.yaw, p.ve, p.vn, []⟩
  let e := predict pi tn td
  let v := turnedVelocity p tn td
  let h := headWord (turnOf e.2.2)
  let flags := (if 20 * ms < t - p.time then 1 else 0) + (if p.headHeld then 2 else 0)
  let js := s.marker.joints
  let stale := (List.range 3).foldl (fun a k => a + if (js.getD k (0, false)).2 then 2 ^ k else 0) 0
  let mid := if q = 0 then (s.nav.goodSnap.drop 5).take 12
    else [mmWord (mmRound e.1), mmWord (mmRound e.2.1), mmWord (mmRound pos.2.2), wordOf h, wordOf p.roll, wordOf p.pitch, wordOf p.yaw,
      wordOf p.speed, wordOf v.1, wordOf v.2, loWord p.sigmaH, loWord p.sigmaHead]
  [loWord t, hiWord t, loWord p.time, hiWord p.time, BitVec.ofNat 32 (q + 65536 * min 65535 p.inDr)] ++ mid ++
    [BitVec.ofNat 32 (f.getD 0)] ++ (List.range 3).map (fun k => wordOf (js.getD k (0, false)).1) ++
    [BitVec.ofNat 32 stale, loWord num, BitVec.ofNat 32 flags]

/-- The joint angles of a tick join those of the last 11 s, with the ones before them (R253). -/
def pruneAngles (t : Nat) : List (Nat × List Int) → List (Nat × List Int)
  | [] => []
  | a :: r => if a.1 + 11 * sec ≤ t then [a] else a :: pruneAngles t r

/-- A tick at MTIME t latches its snapshot (R27, R253, R437). -/
def latchTick (t : Nat) (s : State) : State :=
  let s := match s.nav.lastTick with
    | none => s
    | some _ => fwrap s F.TICK_NUM_COUNT 1
  let s := noteJoints (setNav { s.nav with lastTick := some t } s)
  let s := { s with marker := { s.marker with angles := (t, s.marker.joints.map (·.1)) :: pruneAngles t s.marker.angles } }
  let w := snapshotWords s t (fget s F.TICK_NUM_COUNT)
  let s := if bitsOf (w.getD 4 0) 2 0 = 0 then s else setNav { s.nav with goodSnap := w } s
  { s with eng := { s.eng with tickDue := some (t, w), snapNum := s.eng.snapNum + 1 } }

/-- A gather that waits on the tick is woken with the snapshot (R28). -/
def wakeTick (g : Nat) (s : State) : State :=
  let x := gatherOf s g
  if x.phase = .waitTick then
    setGather g { x with phase := .run, waiting := .none, snap := s.eng.snap, snapTick := s.eng.snapTick, tickSeen := s.eng.ticks } s
  else s

/-- The local speed of output n from the snapshot (R300). DEDUCED, log entry 44. -/
def turnSpeed (n : Nat) (s : State) : State :=
  match outEntry s.maps.active n with
  | none => setOut n { outOf s n with compOk := false } s
  | some o =>
    let sn := s.eng.snap
    let js := (snapPose sn).joints
    let y := (toBody0 s.maps.active js 4 o.body (o.x * fixOne, o.y * fixOne)).2
    let v := ((snapWord sn 12).toInt * 1000000 * fixOne + (snapWord sn 11).toInt * y) / (1000000 * fixOne)
    fsetSat (setOut n { outOf s n with compOk := true } s) (F.OUT_SPEED_LOCAL n) v

/-- SNAPSHOT_COMPLETE (R28, R300, R477): the snapshot is delivered, waiting gathers wake, turn compensation
and synthesised speeds take it. -/
def snapshotComplete (s : State) : State :=
  match s.eng.tickDue with
  | none => s
  | some (t, w) =>
    let s := { s with eng := { s.eng with tickDue := none, snap := w, snapTick := t, ticks := s.eng.ticks + 1 } }
    let s := forAll wakeTick (List.range 128) s
    let outs := (List.range 84).filter (fun n => flag s (F.OUT_COMP_EN n))
    let s := forAll (fun n s => let s := turnSpeed n s; applyDuty n s.mtime s) outs s
    forAll (fun p s => setSynth p (snapWord w 12).toInt (decide (snapQuality w ≠ 0)) s) (List.range 8) s

/-- Whether CAPTURE is refused (R422). -/
def captureRefused (s : State) : Bool :=
  bench s || flag s F.SNAP_STAT_CAP_BUSY || flag s F.SNAP_STAT_SOLVE_BUSY || decide (fget s F.SNAP_CFG_CHAINS = 0)
/-- SNAP_CTRL.CAPTURE (R422). -/
def startCaptureSnap (s : State) : State :=
  let s := setNav { s.nav with cap := some ⟨s.mtime, fget s F.SNAP_CFG_CHAINS, fget s F.SNAP_CFG_LEN⟩ } s
  fset (fset s F.SNAP_STAT_VALID 0) F.SNAP_STAT_CAP_BUSY 1

/-- The number of chains in a mask. -/
def chainCount (c : Nat) : Nat := onesOf c 4

/-- The header of a capture (R423). -/
def snapHeader (s : State) (c : SnapRun) (temp : BitVec 16) : List Byte :=
  let m := c.start
  let g := if timeState s = 0 then 0 else (gtimeAt s m / 256).toNat
  let u : Word := if timeState s = 0 then 0xFFFFFFFF
    else match uncertainty s with | none => 0xFFFFFFFF | some u => BitVec.ofNat 32 (min 0xFFFFFFFE ((u + 999) / 1000))
  let gain (f : Nat → Fld) : List Byte := (List.range 4).map (fun k => BitVec.ofNat 8 (fget s (f k)))
  wordsLe [loWord m, hiWord m, loWord g, hiWord g, u] ++ [BitVec.ofNat 8 c.chains, BitVec.ofNat 8 c.len, 1, 0] ++
    gain F.CHAIN_STAT_GAIN ++ gain F.CHAIN_STAT_NOISE ++ [BitVec.ofNat 8 temp.toNat, BitVec.ofNat 8 (temp.toNat / 256)] ++ List.replicate 30 0

/-- SNAP_CAPTURE_DONE (R422, R423): the samples of the chains in ascending order, and the TCXO temperature. -/
def captureDone (data : List Byte) (temp : BitVec 16) (s : State) : State :=
  match s.nav.cap with
  | none => s
  | some c =>
    let n := chainCount c.chains * c.len * 15345
    let s := atTime (c.start + 2 * ms * c.len) s
    let b := snapHeader s c temp ++ data.take n
    let s := setNav { s.nav with cap := none, snapBuf := tabFill (fun _ => 0) [] 0 b } s
    fset (fset (fset s F.SNAP_STAT_BYTES (64 + n)) F.SNAP_STAT_VALID 1) F.SNAP_STAT_CAP_BUSY 0

/-- Byte b of the snapshot buffer. -/
def snapByte (s : State) (b : Nat) : Byte := tabGet (fun _ => 0) s.nav.snapBuf b
/-- SNAP_WINi (R424). -/
def snapWinWord (s : State) (i : Nat) : Word :=
  let b := 4096 * fget s F.SNAP_PAGE_PAGE + 4 * i
  beWord [snapByte s (b + 3), snapByte s (b + 2), snapByte s (b + 1), snapByte s b]

/-- SNAP_CTRL.SOLVE (R425). -/
def startSolve (s : State) : State :=
  fset (setNav { s.nav with solveDue := some (s.mtime + 3 * sec) } s) F.SNAP_STAT_SOLVE_BUSY 1

/-- The result of a SOLVE: the position found, if at least 5 satellites were (R425). An almanac
counts as navigation data. DEDUCED, log entry 127. -/
def solveResult (found : Option (Int × Int × Int × Nat)) (s : State) : State :=
    let u := beNat [snapByte s 19, snapByte s 18, snapByte s 17, snapByte s 16]
    if !(s.nav.storedEphemeris || s.nav.ephemeris || s.nav.storedAlmanac || s.nav.almanac) then fset s F.SNAP_STAT_RESULT 3
    else if 2000000 < u then fset s F.SNAP_STAT_RESULT 4
    else match found with
      | none => fset s F.SNAP_STAT_RESULT 2
      | some (lat, lon, h, sg) =>
        let s := wr (wr (wr (wr s A.SNAP_LAT (wordOf lat)) A.SNAP_LON (wordOf lon)) A.SNAP_HGT (wordOf h)) A.SNAP_SIG (loWord sg)
        fset s F.SNAP_STAT_RESULT 1
/-- SNAP_SOLVE_DONE (R425), and a SOLVE that was queued meanwhile (R86). -/
def solveDone (found : Option (Int × Int × Int × Nat)) (s : State) : State :=
  if !flag s F.SNAP_STAT_SOLVE_BUSY then s
  else
    let s := solveResult found (fset (setNav { s.nav with solveDue := none } s) F.SNAP_STAT_SOLVE_BUSY 0)
    runQueued F.SNAP_CTRL_SOLVE startSolve s

/-- A reset aborts a running capture or SOLVE (R425). -/
def abortSnap (s : State) : State :=
  let s := onlyIf (flag s F.SNAP_STAT_SOLVE_BUSY) (fun s => fset s F.SNAP_STAT_RESULT 5) s
  fset (fset (setNav { s.nav with cap := none, solveDue := none } s) F.SNAP_STAT_SOLVE_BUSY 0) F.SNAP_STAT_CAP_BUSY 0

/-- GNS_SELFTEST_END (R400, R391): the epoch grid is fixed at the first one after a cold start; chains that fail self-test. -/
def gnsSelftestEnd (bad : Nat) (s : State) : State :=
  if bench s ∨ !powered s ∨ s.start.gnsUp then s
  else
    let s := if s.nav.phaseSet then s else fset (setNav { s.nav with phaseSet := true } s) F.EPOCH_PHASE_PHASE (s.mtime % (10 * ms))
    let s := setNav { s.nav with measNext := max s.nav.measNext (s.mtime / (10 * ms)), pubNext := max s.nav.pubNext (s.mtime / (10 * ms)) } s
    let s := fset { s with start := { s.start with gnsUp := true } } F.GNSS_STAT_ACQ_BUSY 1
    let s := fbool s F.SELFTEST_RES_RF_CHAIN (bad != 0)
    let s := onlyIf (decide (bad = 0) && decide (fget s F.STARTUP_STAT_KIND ≠ 2)) (culletClear 2) s
    forAll chainFailure ((List.range 4).filter (fun c => decide (bad / 2 ^ c % 2 = 1))) s

/-- GNS_SELFTEST_END (R400). -/
def execGnsSelftestEnd (bad : BitVec 4) (s : State) : Outcome := live (gnsSelftestEnd bad.toNat) s
/-- MEASUREMENT_EPOCH (R400). -/
def execMeasurementEpoch (i : EpochInput) (s : State) : Outcome := live (measurementEpoch i) s
/-- POSE_RECORD_PUBLISH (R419). -/
def execPoseRecordPublish (i : PoseInput) (s : State) : Outcome := live (posePublish i) s
/-- CHAIN_FAILURE (R391). -/
def execChainFailure (c : Fin 4) (s : State) : Outcome := live (chainFailure c) s
/-- ANT_OPEN (R392). -/
def execAntOpen (a : Fin 2) (isOpen : Bool) (s : State) : Outcome := live (antOpen a isOpen) s
/-- NAV_DATA_STORE (R399). -/
def execNavDataStore (s : State) : Outcome := live navStore s
/-- RTCM_FRAME (R404). -/
def execRtcmFrame (src : Fin 8) (b : Byte) (bs : List Byte) (s : State) : Outcome := live (rtcmFrame src (b :: bs)) s
/-- CORRECTION_STALE (R408). -/
def execCorrectionStale (s : State) : Outcome := live correctionStale s
/-- INERTIAL_SAMPLE (R412). -/
def execInertialSample (missing : Bool) (rate : Int × Int × Int) (acc : ImuAcc) (s : State) : Outcome :=
  live (inertialSample (if missing then none else some ⟨rate, acc⟩)) s
/-- SNAPSHOT_COMPLETE (R28). -/
def execSnapshotComplete (s : State) : Outcome := live snapshotComplete s

end Sys2Proof.Machine
end

