-- ==== Sys2Proof/Machine/Owner.lean ====
section
/-! DEFINITION. The punty and the bus session (R121 to R133). -/
namespace Sys2Proof.Machine

/-- Replace the ownership state. -/
def setOwn (o : Own) (s : State) : State := { s with own := o }
/-- The owner's master code, 0 for none (R124). -/
def ownerCode (s : State) : Nat := fget s F.OWN_STAT_OWNER
/-- Whether a handover is pending. -/
def handoverPending (s : State) : Bool := flag s F.OWN_STAT_HANDOVER_PEND
/-- Whether the election window is open. -/
def electionOpen (s : State) : Bool := flag s F.OWN_STAT_ELECTION
/-- Whether a master code stands in the order in effect (R125). -/
def inOrder (s : State) (c : Nat) : Bool := s.own.order.contains c
/-- The heartbeat timeout (R129). -/
def hbTimeout (s : State) : Nat := sec * fget s F.OWN_CFG_HB_TIMEOUT

/-- No handover is pending any more; its note ends with it (R129). -/
def endHandover (s : State) : State :=
  fset (fset (setOwn { s.own with lapseNoted := false } s) F.OWN_STAT_HANDOVER_PEND 0) F.OWN_STAT_TARGET 0

/-- Whether an address claim runs on an ISO port (R580). DEDUCED, log entry 54. -/
def claimRuns (s : State) : Bool := [0, 1].any (fun p => flag s (F.ISO_CFG_EN p) && decide (fget s (F.ISO_STAT_CLAIM p) = 1))
/-- Start-up completes once the election and the address claim have ended (R580). -/
def completeStart (s : State) : State :=
  if phase s = 3 ∧ s.start.electionOver ∧ !claimRuns s then fset s F.STARTUP_STAT_PHASE 4 else s
/-- The election window closes. -/
def closeElection (s : State) : State :=
  let s := setOwn { s.own with claims := [] } s
  completeStart (fset { s with start := { s.start with electionOver := true } } F.OWN_STAT_ELECTION 0)

/-- Master c gains the punty: the heartbeat starts (R126), and automatic refresh ends with the Gaffer port's ownership (R598). -/
def gainOwner (c : Nat) (s : State) : State :=
  let s := endHandover (onlyIf (electionOpen s) closeElection s)
  fset (setOwn { s.own with hbDeadline := s.mtime + hbTimeout s, autoHb := s.own.autoHb && decide (c = 3) } s) F.OWN_STAT_OWNER c

/-- There is no owner any more. -/
def loseOwner (s : State) : State := fset (setOwn { (endHandover s).own with autoHb := false } (endHandover s)) F.OWN_STAT_OWNER 0

/-- A record of the ownership logic: old owner, new owner. -/
def ownRecord (sev : Nat) (k : EvKind) (old : Nat) (s : State) : State := raise sev 15 1 k [old, ownerCode s] s

/-- Whether a claim by master c is refused (R125). -/
def claimRefused (s : State) (c : Nat) : Bool :=
  !inOrder s c || decide (ownerCode s ≠ 0) || !(electionOpen s || s.start.electionOver)

/-- A claim by master c (R126): slot 0 of the order in effect wins at once, later slots wait for the window's end. -/
def claimBy (c : Nat) (s : State) : State :=
  if electionOpen s ∧ s.own.order.head? ≠ some c then
    setOwn { s.own with claims := if s.own.claims.contains c then s.own.claims else s.own.claims ++ [c] } s
  else ownRecord 2 .ownerChange 0 (gainOwner c s)

/-- The pending claimant in the earliest slot. -/
def bestClaim (s : State) : Option Nat := s.own.order.find? (fun c => s.own.claims.contains c)

/-- The window's end (R126): the best claim wins; without one there is no owner. -/
def electionEnds (s : State) : State :=
  match bestClaim s with
  | some c => ownRecord 2 .ownerChange 0 (gainOwner c s)
  | none => closeElection s

/-- Why a handover to a code is refused (R128). -/
def handoverRefused (s : State) (t : Nat) : Option Err :=
  if t = 0 ∨ t = 7 then none
  else if t = ownerCode s ∨ !inOrder s t then some .value
  else if handoverPending s then some .state
  else if t = 2 ∧ !flag s F.BUS_SESSION_OPEN then some .state
  else none

/-- A keyed handover (R126): start, release, or cancel. -/
def handover (t : Nat) (s : State) : State :=
  let o := ownerCode s
  if t = 0 then
    let s := onlyIf (handoverPending s) (fun s => fset s F.OWN_STAT_HANDOVER_CANCEL 1) s
    ownRecord 2 .ownerChange o (loseOwner s)
  else if t = 7 then
    if handoverPending s then
      let s := endHandover (fset s F.OWN_STAT_HANDOVER_CANCEL 1)
      ownRecord 2 .handoverCancel o (setOwn { s.own with hbDeadline := s.mtime + hbTimeout s } s)
    else s
  else
    fset (fset (setOwn { s.own with hoDeadline := s.mtime + 2 * sec, lapseNoted := false } s) F.OWN_STAT_HANDOVER_PEND 1) F.OWN_STAT_TARGET t

/-- OWN_ACCEPT by master c, which is the target (R126, R128). -/
def acceptBy (c : Nat) (s : State) : State :=
  let o := ownerCode s
  let s := gainOwner c s
  ownRecord 2 .ownerChange o (onlyIf (o != c) (fun s => setOwn { s.own with autoHb := false } s) s)

/-- Whether OWN_ACCEPT by master c is refused (R128). DEDUCED, log entry 71. -/
def acceptRefused (s : State) (c : Nat) : Bool := !handoverPending s || decide (fget s F.OWN_STAT_TARGET ≠ c)

/-- OWN_HEARTBEAT.REFRESH (R129). -/
def refreshHeartbeat (s : State) : State := setOwn { s.own with hbDeadline := s.mtime + hbTimeout s } s

/-- The owner's heartbeat times out, or its address is lost (R126, R129). -/
def lapse (s : State) : State :=
  let o := ownerCode s
  if o = 0 then s
  else
    let s := fset s F.OWN_STAT_LAPSED 1
    if handoverPending s then setOwn { s.own with lapseNoted := true } s
    else ownRecord 3 .lapse o (loseOwner s)

/-- Whether the supervisor restarts: the timeouts of ownership and of the bus session pause (R553). -/
def timeoutsPause (s : State) : Bool := s.start.supervisorAt.isSome

/-- HEARTBEAT_TIMEOUT (R126): a lapse that was noted leaves the heartbeat run out. -/
def heartbeatTimeout (s : State) : State :=
  if timeoutsPause s || decide (ownerCode s = 0) then s else lapse (atTime s.own.hbDeadline s)

/-- HANDOVER_TIMEOUT (R126): 2 s elapsed. -/
def handoverTimeout (s : State) : State :=
  if timeoutsPause s || !handoverPending s then s
  else
    let s := atTime s.own.hoDeadline s
    let o := ownerCode s
    let noted := s.own.lapseNoted
    let s := fset s F.OWN_STAT_HANDOVER_CANCEL 1
    if noted then ownRecord 3 .handoverCancel o (loseOwner s) else ownRecord 2 .handoverCancel o (endHandover s)

/-- Whether an instant lies within the last 5 s. -/
def recent (s : State) (t : Nat) : Bool := decide (s.mtime < t + 5 * sec)

/-- Whether something last noted at an instant was not noted within the last 5 s. -/
def quietFor (s : State) (t : Option Nat) : Bool := match t with | some t => !recent s t | none => true

/-- The pose condition of a seizure (R130, R131): while the pose is invalid the inertial one over the same 5 s; with a
valid pose, every valid record of the 5 s, and the inertial one for the stretches in which no valid pose stood. An
inertial sample that did not come, and a time before the first sample, count as no motion. DESIGN CHOICE, log entry 99. -/
def poseStill (s : State) : Bool :=
  match s.marker.poses with
  | p :: _ =>
    if p.quality = 0 then quietFor s s.nav.imuMoved
    else quietFor s s.nav.imuBlind &&
      s.marker.poses.all (fun p => !recent s p.time || decide (p.quality = 0) || decide (p.speed.natAbs < 100))
  | [] => quietFor s s.nav.imuMoved

/-- The feedback condition of a seizure (R130, R131). -/
def feedbackStill (s : State) : Bool :=
  [0, 1].all (fun k => match speedInput s k with
    | none => true
    | some n => decide ((speedNow s n).natAbs < 100) && quietFor s (fbOf s n).fastUntil)

/-- Whether an output or a remote descriptor is in its ON state (R131). -/
def anyOn (s : State) : Bool :=
  (List.range 84).any (fun n => flag s (F.OUT_STAT_CMD_ON n)) ||
    (List.range 428).any (fun d => flag s (F.REM_CTRL_ON d) && !flag s (F.REM_CTRL_STALE d))

/-- Whether a seizure is refused (R130, R131). -/
def seizeRefused (s : State) : Bool :=
  !(electionOpen s || s.start.electionOver) ||
    (decide (ownerCode s ≠ 3) && (!(bench s || (poseStill s && feedbackStill s)) || anyOn s))

/-- A seizure by the Gaffer port (R126, R130): a handover that it cancels shows in HANDOVER_CANCEL as any cancelled one
does. DEDUCED, log entry 98. -/
def seize (s : State) : State :=
  let o := ownerCode s
  if o = 3 then s
  else
    let s := onlyIf (handoverPending s) (fun s => fset s F.OWN_STAT_HANDOVER_CANCEL 1) s
    ownRecord 4 .seizure o (fset (gainOwner 3 s) F.OWN_STAT_SEIZED 1)

/-- Whether R122 holds the bus session for its identity. -/
def sessionHeld (s : State) : Bool :=
  decide (ownerCode s = 2) || (handoverPending s && decide (fget s F.OWN_STAT_TARGET = 2))
/-- Whether port p and address a hold the open bus session (R121). -/
def isHolder (s : State) (p a : Nat) : Bool :=
  flag s F.BUS_SESSION_OPEN && decide (fget s F.BUS_SESSION_PORT = p) && decide (fget s F.BUS_SESSION_SRC = a)
/-- A register-access frame from the holder restarts the timeout (R121, R520). -/
def touchSession (s : State) : State := { s with acc := { s.acc with sessionDeadline := s.mtime + 5 * sec } }
/-- The bus session opens for port p and address a (R512, R520): the NAME last claimed there is noted. -/
def openSession (p a : Nat) (s : State) : State :=
  let x := portOf s p
  let s := setPort p { x with sessName := tabFind x.names a } s
  touchSession (fset (fset (fset s F.BUS_SESSION_OPEN 1) F.BUS_SESSION_PORT p) F.BUS_SESSION_SRC a)
/-- The bus session ends. -/
def endSession (s : State) : State := fset s F.BUS_SESSION_OPEN 0

/-- BUS_SESSION_TIMEOUT (R121): the session ends, also one whose identity R122 holds; R122 then bars the others from
opening it. DEDUCED, log entry 100. -/
def sessionTimeout (s : State) : State :=
  if timeoutsPause s || !flag s F.BUS_SESSION_OPEN then s else endSession (atTime s.acc.sessionDeadline s)

/-- The session holder's address is lost (R512): the session ends, and the punty lapses if it held it. -/
def holderLost (s : State) : State :=
  let s := endSession s
  if ownerCode s = 2 then lapse s else s

/-- BUS_SESSION_TIMEOUT (R121). -/
def execBusSessionTimeout (s : State) : Outcome := live sessionTimeout s

end Sys2Proof.Machine
end

