-- ==== Sys2Proof/Machine/Remote.lean ====
section
/-! DEFINITION. Arming of local outputs and remote descriptors, and the reports of remote nodes
(R298, R306 to R313, R356, R581, R607). -/
namespace Sys2Proof.Machine

/-- Whether a Jasper field of a list is not zero. -/
def anyField (s : State) (fs : List Fld) : Bool := fs.any (fun f => fget s f != 0)
/-- The Jasper fields whose perturbation ARMED_OK allows beside armed outputs (R606). -/
def queueFields : List Fld := (List.range 128).map F.JAS_QBP_DUTY ++ (List.range 19).map F.JAS_QDLY_DELAY
/-- The other Jasper fields that keep a perturbation active (R606, R609). -/
def otherFields : List Fld :=
  [F.JAS_SCHED_RATE, F.JAS_NAV_DELAY, F.JAS_ONYX_ADD, F.JAS_TAP_OFFSET] ++ (List.range 6).map F.JAS_BUS_EVERY
/-- Whether a perturbation is active (R606); a ONESHOT until its frame. -/
def perturbed (s : State) : Bool := anyField s (queueFields ++ otherFields) || !s.svc.oneshot.isEmpty
/-- Whether an active perturbation refuses an ARM (R607). -/
def perturbationBars (s : State) : Bool :=
  anyField s otherFields || !s.svc.oneshot.isEmpty || (anyField s queueFields && !flag s F.JAS_CTRL_ARMED_OK)

/-- Whether the start-up state refuses every ARM (R578, R581, R592). -/
def armBarred (s : State) : Bool :=
  (if fget s F.STARTUP_STAT_KIND = 2 then s.start.warmAt.isSome else decide (phase s ≠ 4)) || s.start.halted || bench s || perturbationBars s

/-- Whether OUT_PERMITn names a gather (R231). -/
def permitted (s : State) (n : Nat) : Bool := (List.range 4).any (fun j => rd s (A.OUT_PERMIT n j) != 0)

/-- Whether the channel configuration of output n is incomplete (R342, R356). -/
def channelIncomplete (s : State) (n : Nat) : Bool :=
  let c := fget s (F.CH_CFG_CLASS n)
  if 76 ≤ n then decide (c ≠ 1 ∧ c ≠ 2)
  else
    decide (c = 0) ||
    (decide (64 ≤ n ∧ c = 4) && decide (fget s (F.CH_CFG_CLASS (partner n)) ≠ 4)) ||
    decide (fget s (F.CH_LIMIT_PEAK n) = 0) || decide (fget s (F.CH_RETRY_TRIES n) = 0) ||
    (outOf s n).latched ||
    (match feedOfOut n with
     | none => false
     | some f =>
       (decide (fget s (F.CH_CFG_COMP_LAW n) ≠ 0) && decide (fget s (F.FEED_CFG_VNOM f) = 0)) ||
       decide (fget s (F.FEED_CFG_BUDGET f) <
         (((outsOfFeed f).filter (fun k => armed s k && k != n)).map (fun k => fget s (F.CH_LIMIT_NOM k))).sum
           + fget s (F.CH_LIMIT_NOM n)))

/-- Whether an ARM of output n is refused (R356, R577, R581, R602, R607). -/
def armRefused (s : State) (n : Nat) : Bool :=
  armBarred s || s.svc.meterHeld == some n || s.start.currentSenseBad.contains n || !permitted s n || (outEntry s.maps.active n).isNone || channelIncomplete s n

/-- An output that a gather may command is bound: the first time, its learned latencies start at OUT_LATINITn (R299). -/
def bindOut (n : Nat) (s : State) : State :=
  if permitted s n && !(outOf s n).bound then relearn n (setOut n { outOf s n with bound := true } s) else s

/-- OUT_CTRLn.ARM (R25): a posture ends as a posture, its drive stands until events change it (R365), and a hold window
that runs concerns the output no longer (R224). -/
def armOut (n : Nat) (s : State) : State :=
  setOut n { outOf s n with posture := false, holds := [] } (fset s (F.OUT_STAT_ARMED n) 1)

/-- Whether the binding of descriptor d is incomplete (R310). -/
def remIncomplete (s : State) (d : Nat) : Bool :=
  !flag s (F.REM_DESC_VALID d) || !flag s (F.REM_GATHER_VALID d) || (outEntry s.maps.active (84 + d)).isNone
/-- Whether an ARM of descriptor d is refused (R310, R581, R607). -/
def remArmRefused (s : State) (d : Nat) : Bool := armBarred s || remIncomplete s d
/-- REM_CTRLd.ARM (R310). -/
def armRem (d : Nat) (s : State) : State := fset s (F.REM_CTRL_ARMED d) 1

/-- Disarm descriptor d (R311): the OFF frame to its node and channel enters the command slot of its port. -/
def disarmRem (d : Nat) (s : State) : State :=
  if !remArmed s d then s
  else
    let s := fset s (F.REM_CTRL_ARMED d) 0
    let p := fget s (F.REM_DESC_PORT d)
    let x := portOf s p
    let c : OffCmd := ⟨d, fget s (F.REM_DESC_ADDR d), fget s (F.REM_DESC_CHANNEL d)⟩
    setPort p { x with cmd := x.cmd ++ [c] } s

/-- The descriptors that name a channel of a node on port p. DEDUCED, log entry 50. -/
def remsAt (s : State) (p node chan : Nat) : List Nat :=
  (List.range 428).filter (fun d => flag s (F.REM_DESC_VALID d) && decide (fget s (F.REM_DESC_PORT d) = p) &&
    decide (fget s (F.REM_DESC_ADDR d) = node) && decide (fget s (F.REM_DESC_CHANNEL d) = chan))

/-- A STATE_REPORT for descriptor d (R312). -/
def stateReport (on late : Bool) (d : Nat) (s : State) : State :=
  let s := fset (fbool s (F.REM_CTRL_ON d) on) (F.REM_CTRL_STALE d) 0
  let s := setRem d { remOf s d with staleAt := some (s.mtime + 10 * ms * fget s (F.REM_CFG_TIMEOUT d)) } s
  if late then fset s (F.REM_CTRL_LATE_REP d) 1 else s

/-- A LATENCY_REPORT of m, in 10 µs units, for descriptor d (R298, R312). -/
def latencyReport (on : Bool) (m d : Nat) (s : State) : State :=
  let x := remOf s d
  let f := if on then F.REM_LAT_ON d else F.REM_LAT_OFF d
  if m < 200 ∨ 40000 < m then
    let run := (if on then x.runOn else x.runOff) + 1
    let s := setRem d (if on then { x with runOn := run } else { x with runOff := run }) s
    let s := raise 1 2 d .measRejected [m] s
    if run = 8 then raise 3 2 d .learnFail [d] s else s
  else
    fset (setRem d (if on then { x with runOn := 0 } else { x with runOff := 0 }) s) f (learn (fget s f) m)

/-- REMOTE_REPORT_TIMEOUT of descriptor d (R312). -/
def reportTimeout (d : Nat) (s : State) : State :=
  match (remOf s d).staleAt with
  | none => s
  | some t =>
    let s := setRem d { remOf s d with staleAt := none } (atTime t s)
    raise 3 2 d .remStale [d] (fset s (F.REM_CTRL_STALE d) 1)

/-- The MTIME that a time field names at MTIME m (R306): none for "at once". -/
def timeField (fld m : Nat) : Option Int :=
  if fld = 0xFFFFFF then none
  else
    let w : Int := 2 ^ 38
    let d : Int := ((fld * 2 ^ 14 : Nat) - (m : Int)) % w
    some (m + (if d < w / 2 then d else d - w))

/-- REMOTE_REPORT_TIMEOUT (R312). -/
def execRemoteReportTimeout (d : DescId) (s : State) : Outcome := live (reportTimeout d) s

end Sys2Proof.Machine
end

