-- ==== Sys2Proof/Machine/ConfigImage.lean ====
section
/-! DEFINITION. The configuration image, its digest, and staging up to CHECK (R565 to R569). -/
namespace Sys2Proof.Machine

/-- The bits of a field. -/
def fieldMask (f : FieldSpec) : Nat := 2 ^ f.lo * (2 ^ (f.hi - f.lo + 1) - 1)
/-- The bits of a register that belong to the configuration image (R565). -/
def imageMask (r : RegFam) : Nat := ((r.fields.filter (·.image)).map fieldMask).sum
/-- The image bits of the register at address a, zero where there are none. -/
def imageBits (a : Nat) : Nat := match regAt a with | some h => imageMask h.fam | none => 0
/-- The image registers in ascending address order with their image bits. -/
def imageRegs : List (Nat × Nat) :=
  (List.range 0x3E000).filterMap (fun i => if imageBits (4 * i) = 0 then none else some (4 * i, imageBits (4 * i)))

/-- The field selection word: MAP_FIELD with STAGED_FIELD zero (R281, DEDUCED, log entry 17). -/
def selectionWord (m : MapSet) : Word :=
  match m.field with
  | none => 0
  | some f => withBits (withBits 0 19 16 f) 24 24 1

/-- The configuration digest of the state's registers, model, selection and program (R566). -/
def imageDigest (s : State) : List Byte :=
  let regs := imageRegs.flatMap (fun p => [BitVec.ofNat 32 p.1, rd s p.1 &&& BitVec.ofNat 32 p.2])
  let model := (List.range 2112).map (modelWord s.maps.active)
  let pages := ((List.range 64).filter (fun k => decide (2 ≤ pageState s k))).flatMap (fun k =>
    [BitVec.ofNat 32 k, BitVec.ofNat 32 (pageState s k)] ++ progWords s (4096 * k) 4096)
  sha256 (wordsLe (regs ++ model ++ [selectionWord s.maps.active] ++ pages))

/-- Whether staging is open. -/
def staging (s : State) : Bool := flag s F.CFG_STAT_STAGING
/-- Replace the staging. -/
def setStage (x : Staging) (s : State) : State := { s with stage := x }

/-- The word of an image register in the staged image (R568). -/
def stagedWord (s : State) (a : Nat) : Word := (tabFind s.stage.staged a).getD (rd s a)
/-- A write of image bits to the staged image (R568, R569): RESULT returns to 0. -/
def stageWrite (a : Nat) (w : Word) (s : State) : State :=
  fset (setStage { s.stage with staged := tabInsert (tabErase s.stage.staged a) a w } s) F.CFG_STAT_RESULT 0

/-- The state with the staged image as its active image, for the checks of R569. -/
def candidateImage (s : State) : State := forAll (fun p s => wr s p.1 p.2) s.stage.staged s

/-- CFG_GEN. -/
def cfgGen (s : State) : Nat := fget s F.CFG_GEN_LO_GEN + 2 ^ 32 * fget s F.CFG_GEN_HI_GEN
/-- CFG_ACT. -/
def cfgAct (s : State) : Nat := fget s F.CFG_ACT_LO_TIME + 2 ^ 32 * fget s F.CFG_ACT_HI_TIME

/-- CFG_CTRL.STAGE_OPEN (R568): the staged image starts as the active image. -/
def stageOpen (s : State) : State :=
  fset (fset (setStage { s.stage with staged := [] } s) F.CFG_STAT_STAGING 1) F.CFG_STAT_RESULT 0

/-- CFG_CTRL.CHECK starts (R569). -/
def cfgCheck (s : State) : State :=
  fset (setStage { s.stage with checkDone := some (s.mtime + 20 * ms) } s) F.CFG_STAT_CHECK_BUSY 1

/-- The result of CHECK with the staged digest, the checks in their order (R569). -/
def cfgResult (s : State) (d : List Byte) : Nat :=
  let c := candidateImage s
  if cfgGen s ≤ s.stage.generation then 2
  else if (List.range 128).any (fun g => flag c (F.G_REGION_VALID g) && regionBad c g) then 3
  else if (List.range 84).any (fun n => armed s n && channelIncomplete c n) ||
    (List.range 428).any (fun k => remArmed s k && remIncomplete c k) then 4
  else
    let e := bankBytes c A.CFG_EXP 8
    if e ≠ List.replicate 32 0 ∧ e ≠ d then 5 else 1

/-- CFG_CHECK_DONE (R569), and a CHECK that was queued meanwhile (R86). -/
def cfgCheckDone (s : State) : State :=
  match s.stage.checkDone with
  | none => s
  | some _ =>
    let d := imageDigest (candidateImage s)
    let r := cfgResult s d
    let s := fset (fset (setStage { s.stage with checkDone := none } s) F.CFG_STAT_CHECK_BUSY 0) F.CFG_STAT_RESULT r
    let s := if r = 1 then forAll (fun p s => wr s (A.CFG_SDIG p.1) p.2) ((List.range 8).zip (leWords 8 d)) s else s
    runQueued F.CFG_CTRL_CHECK cfgCheck s

/-- CFG_CTRL.DISCARD (R570): an armed activation is withdrawn, otherwise staging ends. -/
def cfgDiscard (s : State) : State :=
  if flag s F.CFG_STAT_ACT_PEND then fset s F.CFG_STAT_ACT_PEND 0
  else
    let s := setStage { s.stage with staged := [], checkDone := none } (runQueued F.CFG_CTRL_CHECK id s)
    fset (fset (fset s F.CFG_STAT_STAGING 0) F.CFG_STAT_RESULT 0) F.CFG_STAT_CHECK_BUSY 0

/-- The registers without the settings that a running meter check changed (R602). -/
def lastingRegs (s : State) : Tab Word := (forAll (fun p s => wr s p.1 p.2) s.svc.meterSave s).regs
/-- IMAGE_STORE (R567): the active image is in nonvolatile memory, whole. -/
def imageStore (s : State) : State :=
  { s with
    nv := { s.nv with
              image := (lastingRegs s).filterMap (fun p => if imageBits p.1 = 0 then none else some (p.1, p.2 &&& BitVec.ofNat 32 (imageBits p.1))),
              model := s.maps.active.model, fieldSel := (match s.maps.active.field with | none => 0 | some f => f + 1), generation := s.stage.generation,
              pages := (List.range 64).map (pageState s), regions := s.eng.regions,
              prog := s.eng.prog.filter (fun p => decide (2 ≤ pageState s (p.1 / 4096))) }
    stage := { s.stage with storeDue := false } }

/-- CFG_CHECK_DONE (R569). -/
def execCfgCheckDone (s : State) : Outcome := live cfgCheckDone s
/-- IMAGE_STORE (R567). -/
def execImageStore (s : State) : Outcome := live imageStore s

end Sys2Proof.Machine
end

