-- ==== Sys2Proof/Machine/Fleet.lean ====
section
/-! DEFINITION. Configuration digests: publication, comparison with peers, mailboxes 9 to 11 (R572 to R574). -/
namespace Sys2Proof.Machine

/-- Replace the fleet state. -/
def setFleet (f : Fleet) (s : State) : State := { s with fleet := f }
/-- A peer of which nothing has arrived. -/
def PeerRound.init : PeerRound := ⟨0, 0, [], 0, false, false, 0⟩
/-- The collection of peer k. -/
def peerOf (s : State) (k : Nat) : PeerRound := tabGet (fun _ => PeerRound.init) s.fleet.peers k
/-- Replace the collection of peer k. -/
def setPeer (k : Nat) (x : PeerRound) (s : State) : State :=
  setFleet { s.fleet with peers := tabSet (fun _ => PeerRound.init) s.fleet.peers k x } s

/-- The eight bytes of a 64-bit number, little-endian. -/
def le8 (n : Nat) : List Byte := wordLe (loWord n) ++ wordLe (hiWord n)
/-- The number of little-endian bytes. -/
def leNat (b : List Byte) : Nat := b.foldr (fun x n => x.toNat + 256 * n) 0

/-- The 42-byte string of a round (R572). -/
def fleetString (s : State) : List Byte :=
  let flags := fget s F.CFG_STAT_ACT_PEND + 2 * fget s F.HEALTH_CONFIG_SKEW
  le8 s.stage.generation ++ imageDigest s ++ [BitVec.ofNat 8 flags, 0]

/-- The frame of part k of round r (R572). -/
def fleetPart (str : List Byte) (addr r k : Nat) : CanFrame :=
  ⟨0x0CEFFF00 + addr, true, false, 0, [0x50, BitVec.ofNat 8 (k + 8 * r)] ++ (str.drop (6 * k)).take 6, 0, false⟩

/-- FLEET_ROUND_SEND (R572): seven frames in the protocol slot of each publishing port that takes part on its
bus. -/
def fleetRound (s : State) : State :=
  let s := atTime s.fleet.nextRound s
  let r := (s.fleet.round + 1) % 32
  let s := setFleet { s.fleet with round := r, nextRound := s.mtime + sec } s
  let ports := (List.range 6).filter (fun p => decide (fget s F.FLEET_CFG_PORTS / 2 ^ p % 2 = 1) &&
    decide (fget s (F.PORT_STAT_STATE p) ≠ 0 ∧ fget s (F.PORT_STAT_STATE p) ≠ 4))
  if ports = [] then s
  else
    let str := fleetString s
    forAll (fun p s =>
      let x := portOf s p
      setPort p { x with prot := x.prot ++ (List.range 7).map (fleetPart str (portAddr s p) r) } s) ports s

/-- Whether CFG_EXP is set and the active digest differs from it (R573). -/
def expectationMissed (s : State) : Bool :=
  let e := bankBytes s A.CFG_EXP 8
  if e = List.replicate 32 0 then false else decide (e ≠ imageDigest s)

/-- The first enabled peer whose rounds show skew (R573). -/
def skewPeer (s : State) : Option Nat :=
  (List.range 16).find? (fun k => flag s (F.FLEET_PEER_EN k) && (decide (2 ≤ (peerOf s k).skewRun) || (peerOf s k).mismatch))

/-- Judge CONFIG_SKEW (R573): a record names the peer with its generation, or the Askat itself (peer 16). DEDUCED, log entry 88. -/
def judgeSkew (gen : Nat) (s : State) : State :=
  let who := match skewPeer s with
    | some k => some k
    | none => if expectationMissed s then some 16 else none
  match who with
  | none => fset s F.HEALTH_CONFIG_SKEW 0
  | some k =>
    if flag s F.HEALTH_CONFIG_SKEW then s
    else raise 4 15 0 .configSkew [k, s.stage.generation, gen] (fset (fset s F.HEALTH_CONFIG_SKEW 1) F.HEALTH_SKEW_SEEN 1)

/-- A complete round of peer k (R573). -/
def peerComplete (k : Nat) (str : List Byte) (s : State) : State :=
  let x := peerOf s k
  let gen := leNat (str.take 8)
  let own := s.stage.generation
  let settled := !flag s F.CFG_STAT_ACT_PEND &&
    (match s.stage.lastActivation with | none => true | some t => decide (t + 2 * sec ≤ s.mtime))
  let id := fget s (F.FLEET_PID_DIGEST_ID k)
  let bad := decide (gen = own ∧ id ≠ 0 ∧ id ≠ leNat ((str.drop 8).take 4))
  let run := if gen ≠ own ∧ settled then x.skewRun + 1 else 0
  judgeSkew gen (setPeer k { x with parts := [], skewRun := run, mismatch := bad, agreed := decide (gen = own) && !bad, lastComplete := s.mtime } s)

/-- A digest frame for peer k (R572): a round is complete when its seven parts arrive within 100 ms. -/
def peerPart (k : Nat) (d : List Byte) (s : State) : State :=
  let b := (d.getD 1 0).toNat
  let part := b % 8
  let r := b / 8
  let x := peerOf s k
  let fresh := decide (x.parts = [] ∨ x.round ≠ r ∨ x.started + 100 * ms < s.mtime)
  let x := if fresh then { x with parts := [], round := r, started := s.mtime } else x
  if 7 ≤ part then s
  else
    let x := { x with parts := tabInsert (tabErase x.parts part) part ((d.drop 2).take 6) }
    let s := setPeer k x s
    if x.parts.length = 7 then peerComplete k ((x.parts.map (·.2)).flatten) s else s

/-- A configuration digest frame from a source on port p (R573). -/
def fleetFrame (p src : Nat) (d : List Byte) (s : State) : State :=
  forAll (fun k s => peerPart k d s)
    ((List.range 16).filter (fun k => flag s (F.FLEET_PEER_EN k) && decide (fget s (F.FLEET_PEER_PORT k) = p) &&
      decide (fget s (F.FLEET_PEER_ADDR k) = src))) s

/-- FLEET_PEER_TIMEOUT of peer k (R573). -/
def peerTimeout (k : Nat) (s : State) : State :=
  if !flag s (F.FLEET_PEER_EN k) then s
  else
    let x := peerOf s k
    let s := atTime (x.lastComplete + 3 * sec) s
    let s := setPeer k { x with lastComplete := s.mtime } s
    let lost := fget s F.FLEET_STAT_PEER_LOST
    if lost / 2 ^ k % 2 = 1 then s else raise 3 15 0 .peerLost [k] (fset s F.FLEET_STAT_PEER_LOST (lost + 2 ^ k))

/-- The words of mailboxes 9 to 11 (R574). -/
def fleetMailbox (s : State) (k : Nat) : List Word :=
  if k = 9 then (leWords 8 (imageDigest s)).take 4
  else if k = 10 then (leWords 8 (imageDigest s)).drop 4
  else
    let flags := fget s F.CFG_STAT_STAGING + 2 * fget s F.CFG_STAT_ACT_PEND + 4 * fget s F.HEALTH_CONFIG_SKEW
    let peers := ((List.range 16).map (fun k =>
      if flag s (F.FLEET_PEER_EN k) then 2 ^ k + (if (peerOf s k).agreed then 2 ^ (16 + k) else 0) else 0)).sum
    [loWord s.stage.generation, hiWord s.stage.generation, BitVec.ofNat 32 flags, BitVec.ofNat 32 peers]

/-- FLEET_ROUND_SEND (R572). -/
def execFleetRoundSend (s : State) : Outcome := live fleetRound s
/-- FLEET_PEER_TIMEOUT (R573). -/
def execFleetPeerTimeout (k : Fin 16) (s : State) : Outcome := live (peerTimeout k) s

end Sys2Proof.Machine
end

