-- ==== Sys2Proof/Machine/Bus.lean ====
section
/-! DEFINITION. Bus ports: frames and items, port states, errors, sleep (R484, R488 to R491, R501 to R507). -/
namespace Sys2Proof.Machine

/-- The state of port p (PORT_STAT.STATE). -/
def busState (s : State) (p : Nat) : Nat := fget s (F.PORT_STAT_STATE p)
/-- Whether port p takes part on its bus: error-active or error-passive. -/
def onBus (s : State) (p : Nat) : Bool := powered s && decide (busState s p = 1 ∨ busState s p = 2)
/-- Whether port p may send (R484). -/
def maySend (s : State) (p : Nat) : Bool := onBus s p && !flag s (F.PORT_CFG_LISTEN p)
/-- Whether port p is the ISO 11783 port (R508). -/
def isoPort (s : State) (p : Nat) : Bool := flag s (F.ISO_CFG_EN p)
/-- Whether port p holds an address (R509): off the ISO port it always does. -/
def hasAddress (s : State) (p : Nat) : Bool := !isoPort s p || decide (fget s (F.ISO_STAT_CLAIM p) = 2)
/-- Append a frame to the protocol slot of port p (R493). -/
def sendProt (p : Nat) (f : CanFrame) (s : State) : State :=
  setPort p { portOf s p with prot := (portOf s p).prot ++ [f] } s

/-- A classical frame with a 29-bit identifier. -/
def extFrame (id : Nat) (data : List Byte) : CanFrame := ⟨id, true, false, 0, data, 0, false⟩
/-- A frame of PGN 0xEF00 with priority 3 (R306, R519). -/
def ownFrame (dest src : Nat) (data : List Byte) : CanFrame := extFrame (0x0CEF0000 + dest * 256 + src) data
/-- The parameter group's format byte, destination or extension byte, and source of a 29-bit identifier. -/
def pf (id : Nat) : Nat := id / 65536 % 256
/-- The destination or group extension byte. -/
def ps (id : Nat) : Nat := id / 256 % 256
/-- The source address. -/
def sa (id : Nat) : Nat := id % 256
/-- The 18-bit parameter group number of a 29-bit identifier. -/
def pgnOf (id : Nat) : Nat := if pf id < 240 then id / 65536 % 1024 * 256 else id / 256 % 262144

/-- Data bytes packed eight to a word (R489). -/
def packBytes (b : List Byte) : List QWord :=
  (List.range ((b.length + 7) / 8)).map (fun i => BitVec.ofNat 64 (leNat ((b.drop (8 * i)).take 8)))
/-- The bytes of packed words. -/
def unpackBytes (ws : List QWord) : List Byte := ws.flatMap (fun w => leBytes 8 w.toNat)

/-- The header of a frame (R489, R490) without its receive bits. -/
def frameHeader (f : CanFrame) : Nat :=
  f.id + (if f.ide then 2 ^ 29 else 0) + (if f.rtr then 2 ^ 30 else 0) + 2 ^ 48 * f.data.length + 2 ^ 60 * f.fmt.val
    + (if f.esi ∧ f.fmt ≠ 0 then 2 ^ 62 else 0)

/-- Deliver a received frame to Q91 + p (R490). -/
def deliverFrame (p : Nat) (f : CanFrame) (filt : Nat) (bad own : Bool) (sof : Nat) (s : State) : State :=
  let h := frameHeader f + 2 ^ 32 * filt + (if bad then 2 ^ 38 else 0) + (if own then 2 ^ 40 else 0)
  let w1 := if f.fmt = 3 then [f.xl] else []
  deliver (91 + p) ([BitVec.ofNat 64 h, BitVec.ofNat 64 sof] ++ w1 ++ packBytes f.data) s

/-- Deliver an item of the port's own: header bits, word 1, data. The FILTER field, which no filter gave it, is a
free value (DESIGN CHOICE, log entry 18). -/
def deliverOwn (p h w1 : Nat) (data : List Byte) (s : State) : State :=
  let (v, s) := fresh s
  deliver (91 + p) ([BitVec.ofNat 64 (h + 2 ^ 32 * (v % 64)), BitVec.ofNat 64 w1] ++ packBytes data) s

/-- A transmit item (R489): header, total length or XL word, data, how many words it takes. -/
structure TxItem where
  hdr : Nat
  w1 : Nat
  data : List Byte
  words : Nat
deriving DecidableEq, Repr

/-- Bits hi to lo of a number. -/
def nbits (w hi lo : Nat) : Nat := w / 2 ^ lo % 2 ^ (hi - lo + 1)
/-- The LEN of a header. -/
def hdrLen (h : Nat) : Nat := nbits h 59 48
/-- The FORMAT of a header. -/
def hdrFmt (h : Nat) : Nat := nbits h 61 60
/-- The MSG bit of a header. -/
def hdrMsg (h : Nat) : Bool := h.testBit 41
/-- The CONT bit of a header. -/
def hdrCont (h : Nat) : Bool := h.testBit 42

/-- The head item of Q85 + p. A part after the first of a message has no word 1. -/
def headItem (s : State) (p : Nat) (later : Bool) : Option TxItem :=
  match headPacket (queueOf s (85 + p)).slots with
  | [] => none
  | h :: t =>
    let hd := h.toNat
    let w1 := decide (hdrFmt hd = 3) || (hdrMsg hd && !later)
    let body := if w1 then t.drop 1 else t
    some ⟨hd, if w1 then (t.headD 0).toNat else 0, (unpackBytes body).take (hdrLen hd), t.length + 1⟩

/-- Whether LEN is allowed for a format (R489). -/
def lenAllowed (fmt len : Nat) (msg : Bool) : Bool :=
  if msg then decide (1 ≤ len ∧ len ≤ 1000)
  else if fmt = 0 then decide (len ≤ 8)
  else if fmt = 3 then decide (1 ≤ len ∧ len ≤ 1000)
  else decide (len ≤ 8) || [12, 16, 20, 24, 32, 48, 64].contains len

/-- Whether a transmit item is malformed (R491, R515). -/
def malformed (s : State) (p : Nat) (i : TxItem) (later : Bool) : Bool :=
  let fmt := hdrFmt i.hdr
  let msg := hdrMsg i.hdr
  !lenAllowed fmt (hdrLen i.hdr) msg ||
    (decide (fmt = 3) && (decide (p < 4) || !flag s (F.PORT_CFG_XL_EN p))) ||
    (decide (fmt = 1 ∨ fmt = 2) && !flag s (F.PORT_CFG_FD_EN p)) ||
    (i.hdr.testBit 30 && decide (fmt ≠ 0)) || (msg && !isoPort s p) ||
    decide (nbits i.hdr 40 31 ≠ 0 ∨ nbits i.hdr 47 43 ≠ 0 ∨ nbits i.hdr 63 62 ≠ 0) ||
    (decide (fmt = 3) && decide (i.w1 / 2 ^ 49 ≠ 0)) ||
    (msg && !later && (decide (i.w1 / 2 ^ 32 ≠ 0) ||
      (decide (1785 < i.w1) && decide (240 ≤ pf i.hdr ∨ ps i.hdr = 255))))

/-- The frame of a transmit item. -/
def itemFrame (i : TxItem) : CanFrame :=
  ⟨nbits i.hdr 28 0, i.hdr.testBit 29, i.hdr.testBit 30, Fin.ofNat 4 (hdrFmt i.hdr), i.data, BitVec.ofNat 64 i.w1, false⟩

/-- Count a malformed item (R491). -/
def countBad (p : Nat) (s : State) : State :=
  let first := !flag s (F.PORT_STAT_TX_BAD_SEEN p)
  let s := fset (fsat s (F.PORT_BOFFCNT_TX_BAD p) 1) (F.PORT_STAT_TX_BAD_SEEN p) 1
  if first then raise 2 5 p .txBad [p] s else s

/-- Enter error-passive, with its record (R501, R453). -/
def enterPassive (p : Nat) (s : State) : State :=
  tmSuspend p (raise 2 5 p .busOff [2] (fset (fset s (F.PORT_STAT_PASSIVE_SEEN p) 1) (F.PORT_STAT_STATE p) 2))

/-- Enter bus-off (R501, R505). -/
def enterBusOff (p : Nat) (s : State) : State :=
  let s := setPort p { portOf s p with recCmd := false } s
  let s := fset (fset s (F.PORT_STAT_BOFF_SEEN p) 1) (F.PORT_STAT_STATE p) 3
  let s := fbool (fsat s (F.PORT_BOFFCNT_BUSOFF p) 1) (F.PORT_STAT_RECOV p) (flag s (F.PORT_CFG_BUSOFF_AUTO p))
  tmSuspend p (raise 4 5 p .busOff [3] s)

/-- Judge the error counters of port p (R501). -/
def judgeErrors (p : Nat) (s : State) : State :=
  let t := fget s (F.PORT_ERR_TEC p)
  let r := fget s (F.PORT_ERR_REC p)
  let st := busState s p
  if st ≠ 1 ∧ st ≠ 2 then s
  else if 255 < t then enterBusOff p s
  else if 128 ≤ t ∨ 128 ≤ r then (if st = 1 then enterPassive p s else s)
  else fset s (F.PORT_STAT_STATE p) 1

/-- What acts at the end of a frame in progress: a requested INIT (R488). -/
def enterInit (p : Nat) (s : State) : State :=
  let x := portOf s p
  let st := busState s p
  let off := decide (st = 3 ∨ (st = 4 ∧ x.slept = 3))
  let s := setPort p { x with initReq := false, slept := 0, fullCount := x.fullCount || off } s
  if st = 4 then s else fset (fset s (F.PORT_STAT_STATE p) 0) (F.PORT_STAT_RECOV p) 0

/-- The frame of port p in arbitration ends, completed or not: a waiting INIT takes effect. -/
def frameEnds (p : Nat) (s : State) : State :=
  let s := setPort p { portOf s p with cur := none } s
  if (portOf s p).initReq then enterInit p s else s

/-- Note an acknowledgement error in a row (R503). -/
def noteAckError (p : Nat) (s : State) : State :=
  let x := portOf s p
  let s := setPort p { x with ackRun := x.ackRun + 1 } (fsat s (F.PORT_ERRCNT_ACK_ERR p) 1)
  if x.ackRun + 1 = 32 then raise 3 5 p .busSolo [p] (fset s (F.PORT_STAT_SOLO p) 1) else s

/-- The one-shot perturbation of port p has acted (R609). -/
def endOneshot (p : Nat) (s : State) : State := { s with svc := { s.svc with oneshot := s.svc.oneshot.filter (· != p) } }

/-- BUS_ERROR on port p (R501 to R503): kind 0 lost arbitration, else the LEC code; whether the port was the
sender; whether the receive counter rises by 8. -/
def busError (p kind : Nat) (tx eight : Bool) (s : State) : State :=
  if !onBus s p || (tx && !maySend s p) then s
  else if kind = 0 then frameEnds p s
  else
    let passive := decide (busState s p = 2)
    let s := fset s (F.PORT_STAT_LEC p) kind
    let s := if tx then
        let s := endOneshot p s
        if kind = 3 then
          let s := noteAckError p s
          if passive then s else fset s (F.PORT_ERR_TEC p) (min 256 (fget s (F.PORT_ERR_TEC p) + 8))
        else
          let s := setPort p { portOf s p with ackRun := 0 } (fsat s (F.PORT_ERRCNT_BUS_ERR p) 1)
          fset s (F.PORT_ERR_TEC p) (min 256 (fget s (F.PORT_ERR_TEC p) + 8))
      else fsat (fsat s (F.PORT_ERRCNT_BUS_ERR p) 1) (F.PORT_ERR_REC p) (if eight then 8 else 1)
    let s := judgeErrors p s
    if tx then frameEnds p s else s

/-- BUSOFF_RECOVERY_COMPLETE (R505). -/
def busoffRecovered (p : Nat) (s : State) : State :=
  if busState s p ≠ 3 ∨ !flag s (F.PORT_STAT_RECOV p) then s
  else
    let s := fset (fset (fset s (F.PORT_ERR_TEC p) 0) (F.PORT_ERR_REC p) 0) (F.PORT_STAT_RECOV p) 0
    let s := setPort p { portOf s p with fullCount := false, ackRun := 0 } s
    raise 2 5 p .busOff [1] (fset s (F.PORT_STAT_STATE p) 1)

/-- PORT_CTRL.BUSOFF_REC (R505). -/
def startRecovery (p : Nat) (s : State) : State :=
  if busState s p = 3 then setPort p { portOf s p with recCmd := true } (fset s (F.PORT_STAT_RECOV p) 1) else s

/-- The NAME of port p. -/
def isoName (s : State) (p : Nat) : Nat := fget s (F.ISO_NAME_LO_NAME p) + 2 ^ 32 * fget s (F.ISO_NAME_HI_NAME p)
/-- An address claim from address a, or with 0xFE a cannot-claim (R511). -/
def claimFrame (s : State) (p a : Nat) : CanFrame := extFrame (0x18EEFF00 + a) (le8 (isoName s p))
/-- Claim address a on port p (R511): the claim is sent and 250 ms are waited. -/
def startClaim (p a : Nat) (s : State) : State :=
  let s := setPort p { portOf s p with claimAddr := a, claimEnd := some (s.mtime + 250 * ms) } s
  sendProt p (claimFrame s p a) (fset (fset s (F.ISO_STAT_CLAIM p) 1) (F.ISO_STAT_ADDR p) 0xFE)

/-- Port p leaves INIT (R488, R500, R505, R511). -/
def leaveInit (p : Nat) (s : State) : State :=
  let x := portOf s p
  let s := setPort p { x with openAt := s.mtime, lastGood := [], timedOut := [], lastBad := [], dm1Next := s.mtime, recCmd := false } s
  let s := if x.fullCount then fset (fset s (F.PORT_STAT_STATE p) 3) (F.PORT_STAT_RECOV p) 1
    else judgeErrors p (fset s (F.PORT_STAT_STATE p) 1)
  if isoPort s p then startClaim p (fget s (F.ISO_CFG_PREF p)) s else s

/-- A write of PORT_CTRL.INIT (R488): the configuration state is entered at the end of the frame in progress. -/
def portInit (p : Nat) (v : Bool) (s : State) : State :=
  let s := fbool s (F.PORT_CTRL_INIT p) v
  let x := portOf s p
  if v then
    if busState s p = 0 then s
    else if x.cur.isSome then setPort p { x with initReq := true } s
    else enterInit p s
  else if x.initReq then setPort p { x with initReq := false } s
  else if busState s p = 0 then leaveInit p s
  else if busState s p = 4 ∧ x.slept = 0 then setPort p { x with slept := if x.fullCount then 3 else 1 } s
  else s

/-- A wake of port p (R507): it returns to the state that it left. -/
def wakePort (p : Nat) (s : State) : State :=
  let x := portOf s p
  if busState s p = 4 then
    setPort p { x with sleepReq := false, wakeReq := false }
      (fset (fset s (F.PORT_STAT_STATE p) x.slept) (F.PORT_STAT_WAKE_SEEN p) 1)
  else if x.sleepReq then setPort p { x with wakeReq := true } s
  else s

/-- PORT_CTRL.SLEEP (R506): sleep at the next bus idle. -/
def requestSleep (p : Nat) (s : State) : State :=
  if busState s p = 4 then s else setPort p { portOf s p with sleepReq := true } s

/-- PORT_SLEEP_ENTRY (R506, R507): at bus idle; a wake condition that came meanwhile wakes the port at once. -/
def sleepEntry (p : Nat) (s : State) : State :=
  let x := portOf s p
  if !x.sleepReq ∨ busState s p = 4 then s
  else
    let s := setPort p { x with sleepReq := false, slept := busState s p, cur := none } s
    let s := fset s (F.PORT_STAT_STATE p) 4
    if x.wakeReq then wakePort p s else s

/-- Whether a wake condition holds on port p (R506). -/
def wakes (s : State) (p : Nat) : WakeCond → Bool
  | .pattern => decide (fget s (F.WAKE_CFG_MODE p) = 0)
  | .frameErrors => decide (fget s (F.WAKE_CFG_MODE p) = 1)
  | .frame id ide data =>
    decide (fget s (F.WAKE_CFG_MODE p) = 1) && (ide == flag s (F.WAKE_ID_IDE p)) &&
      decide ((id ^^^ fget s (F.WAKE_ID_ID p)) &&& fget s (F.WAKE_IDMASK_MASK p) = 0) &&
      decide (data.length = fget s (F.WAKE_CFG_LEN p)) &&
      decide (leNat data &&& (fget s (F.WAKE_DMASK_LO_DMASK p) + 2 ^ 32 * fget s (F.WAKE_DMASK_HI_DMASK p)) ≠ 0)

/-- PORT_WAKE_CONDITION (R506, R507). -/
def wakeCondition (p : Nat) (c : WakeCond) (s : State) : State := if wakes s p c then wakePort p s else s

/-- BUS_ERROR (R501). -/
def execBusError (p : PortId) (kind : Fin 7) (tx eight : Bool) (s : State) : Outcome := live (busError p kind tx eight) s
/-- BUSOFF_RECOVERY_COMPLETE (R505). -/
def execBusoffRecoveryComplete (p : PortId) (s : State) : Outcome := live (busoffRecovered p) s
/-- PORT_SLEEP_ENTRY (R506). -/
def execPortSleepEntry (p : PortId) (s : State) : Outcome := live (sleepEntry p) s
/-- PORT_WAKE_CONDITION (R507). -/
def execPortWakeCondition (p : PortId) (c : WakeCond) (s : State) : Outcome := live (wakeCondition p c) s

end Sys2Proof.Machine
end

