-- ==== Sys2Proof/Machine/Transport.lean ====
section
/-! DEFINITION. The ISO 11783 port: address claim, diagnostics, transport sessions (R508 to R516). Frame layouts
that the spec leaves to ISO 11783-3 and 11783-5 are PRESUMED (log entry 19). -/
namespace Sys2Proof.Machine

/-- The addresses 128 to 247 of which no claim was seen on port p. -/
def freeAddresses (s : State) (p : Nat) : List Nat :=
  ((List.range 120).map (· + 128)).filter (fun a => (tabFind (portOf s p).names a).isNone)

/-- Port p loses its address (R511). -/
def loseAddress (p : Nat) (s : State) : State :=
  let s := raise 3 5 p .addressLost [(portOf s p).claimAddr] (fset s (F.ISO_STAT_LOST p) 1)
  let s := setPort p { portOf s p with claimEnd := none } s
  match (if isoName s p / 2 ^ 63 % 2 = 1 then (freeAddresses s p).head? else none) with
  | some a => startClaim p a s
  | none =>
    let s := setPort p { portOf s p with claimAddr := 0xFE } s
    completeStart (sendProt p (claimFrame s p 0xFE) (fset (fset s (F.ISO_STAT_CLAIM p) 3) (F.ISO_STAT_ADDR p) 0xFE))

/-- Whether a claim of an address by a NAME takes it from the holder of the bus session (R512). -/
def takesHolder (s : State) (p a name : Nat) : Bool :=
  flag s F.BUS_SESSION_OPEN && decide (fget s F.BUS_SESSION_PORT = p) &&
    (match (portOf s p).sessName with
     | none => false
     | some n => (decide (fget s F.BUS_SESSION_SRC = a) && decide (n ≠ name)) || (decide (a = 0xFE) && decide (n = name)))

/-- ADDRESS_CLAIM_RECEIVED on port p: a claim of address a by a NAME, 0xFE for a cannot-claim (R511, R512). PRESUMED, log entry 48. -/
def claimReceived (p a name : Nat) (s : State) : State :=
  if !isoPort s p then s
  else
    let s := if takesHolder s p a name then holderLost s else s
    let x := portOf s p
    let gone := if a = 0xFE then x.names.filter (fun e => e.2 != name) else x.names
    let s := setPort p { x with names := if a = 0xFE then gone else tabInsert (tabErase x.names a) a name } s
    let st := fget s (F.ISO_STAT_CLAIM p)
    if a = 0xFE ∨ a ≠ x.claimAddr ∨ (st ≠ 1 ∧ st ≠ 2) then s
    else if name < isoName s p then loseAddress p s
    else sendProt p (claimFrame s p a) s

/-- REQUEST_FOR_ADDRESS_CLAIM (R511). -/
def claimRequested (p : Nat) (s : State) : State :=
  let st := fget s (F.ISO_STAT_CLAIM p)
  if !isoPort s p ∨ st = 0 then s else sendProt p (claimFrame s p (if st = 3 then 0xFE else (portOf s p).claimAddr)) s

/-- ADDRESS_CLAIM_TIMEOUT (R511): 250 ms without a contest. -/
def claimTimeout (p : Nat) (s : State) : State :=
  match (portOf s p).claimEnd with
  | none => s
  | some t =>
    let s := setPort p { portOf s p with claimEnd := none } (atTime t s)
    completeStart (fset (fset s (F.ISO_STAT_CLAIM p) 2) (F.ISO_STAT_ADDR p) (portOf s p).claimAddr)

/-- The trouble code bytes: the replace-request code or zeros (R516). -/
def troubleCode (s : State) (active : Bool) : List Byte :=
  if active then [0xA0, 0xF0, 0xEC, BitVec.ofNat 8 (min 126 (fget s F.CULLET_HIST_ENTRIES))] else [0, 0, 0, 0]
/-- A diagnostic message of group g with its lamp byte (R516). -/
def dmFrame (s : State) (p g : Nat) (active : Bool) : CanFrame :=
  extFrame (0x18000000 + g * 256 + portAddr s p)
    ([if flag s F.HEALTH_CULLET then 0x04 else 0, 0xFF] ++ troubleCode s active ++ [0xFF, 0xFF])
/-- What DM1 reports: the entry count while a code is active, else 0. -/
def dmState (s : State) : Nat := if flag s F.HEALTH_CULLET then 1 + fget s F.CULLET_HIST_ENTRIES else 0

/-- DM1_PERIOD (R516): every 1 s, and at once after a change. -/
def dm1Period (p : Nat) (s : State) : State :=
  if !isoPort s p || !flag s (F.ISO_CFG_DM1_EN p) || !onBus s p then s
  else
    let x := portOf s p
    let s := if x.dm1Sent = dmState s then atTime x.dm1Next s else s
    let s := setPort p { portOf s p with dm1Next := s.mtime + sec, dm1Sent := dmState s } s
    sendProt p (dmFrame s p 0xFECA (flag s F.HEALTH_CULLET)) s

/-- DM2_REQUEST (R516). DEDUCED, log entry 55. -/
def dm2Request (p : Nat) (s : State) : State :=
  if !isoPort s p then s else sendProt p (dmFrame s p 0xFECB (decide (0 < fget s F.CULLET_HIST_ENTRIES))) s

/-- DM3_RECEIVED from a source (R516): acknowledged, and nothing else. -/
def dm3Received (p src : Nat) (s : State) : State :=
  if !isoPort s p then s
  else sendProt p (extFrame (0x18E8FF00 + portAddr s p) [0, 0xFF, 0xFF, 0xFF, BitVec.ofNat 8 src, 0xCC, 0xFE, 0]) s

/-- A connection management frame to a node. -/
def cmFrame (s : State) (p : Nat) (etp : Bool) (dest pgn : Nat) (head : List Byte) : CanFrame :=
  extFrame ((if etp then 0x1CC80000 else 0x1CEC0000) + dest * 256 + portAddr s p) (head ++ leBytes 3 pgn)
/-- A connection abort with a reason. -/
def abortFrame (s : State) (p : Nat) (etp : Bool) (dest reason pgn : Nat) : CanFrame :=
  cmFrame s p etp dest pgn [0xFF, BitVec.ofNat 8 reason, 0xFF, 0xFF, 0xFF]
/-- The packets of a message. -/
def packets (total : Nat) : Nat := (total + 6) / 7

/-- Whether a receive session is the one of a sender and kind. -/
def isRx (src : Nat) (bam etp : Bool) (r : RxSession) : Bool := r.src == src && r.bam == bam && r.etp == etp
/-- The receive session of a sender and kind. -/
def findRx (s : State) (p src : Nat) (bam etp : Bool) : Option RxSession := (portOf s p).rx.find? (isRx src bam etp)
/-- Remove a receive session. -/
def dropRx (p src : Nat) (bam etp : Bool) (s : State) : State :=
  setPort p { portOf s p with rx := (portOf s p).rx.filter (fun r => !isRx src bam etp r) } s
/-- Replace a receive session. -/
def putRx (p : Nat) (r : RxSession) (s : State) : State :=
  setPort p { portOf s p with rx := (portOf s p).rx.map (fun q => if isRx r.src r.bam r.etp q then r else q) } s

/-- The identifier that a delivered message carries (R514). -/
def messageId (s : State) (p : Nat) (r : RxSession) : Nat :=
  let dest := if r.bam then 255 else portAddr s p
  r.prio * 2 ^ 26 + r.pgn * 256 + r.src + (if r.pgn / 256 % 256 < 240 then dest * 256 else 0)
/-- The header bits of a message item (R490). -/
def messageHeader (id len : Nat) (cont stop : Bool) : Nat :=
  id + 2 ^ 29 + 2 ^ 41 + (if cont then 2 ^ 42 else 0) + (if stop then 2 ^ 43 else 0) + 2 ^ 48 * len

/-- A receive session ends aborted (R514): counted, and after a delivered part an ABORT item. -/
def failRx (p : Nat) (r : RxSession) (s : State) : State :=
  let s := fsat (dropRx p r.src r.bam r.etp s) (F.TP_CNT_ABORT p) 1
  if r.parts = 0 then s else deliverOwn p (messageHeader (messageId s p r) 0 false true) s.mtime [] s

/-- Ask for the next packets (R513): the smaller of the sender's maximum and 16. -/
def sendCts (p : Nat) (r : RxSession) (s : State) : State :=
  let n := min r.maxPk (packets r.total - r.taken / 7)
  let next := r.taken / 7 + 1
  let head : List Byte := if r.etp then [0x15, BitVec.ofNat 8 n] ++ leBytes 3 next
    else [0x11, BitVec.ofNat 8 n, BitVec.ofNat 8 next, 0xFF, 0xFF]
  let s := putRx p { r with window := if r.etp then 0 else n, base := if r.etp then r.taken / 7 else 0 } s
  sendProt p (cmFrame s p r.etp r.src r.pgn head) s

/-- TP_RTS_RECEIVED (R513). A new request of the same sender replaces its open session (PRESUMED, log entry 19). -/
def rtsReceived (p src prio total most pgn : Nat) (etp : Bool) (s : State) : State :=
  if !isoPort s p then s
  else
    let s := match findRx s p src false etp with | some r => failRx p r s | none => s
    if 8 ≤ (portOf s p).rx.length then sendProt p (abortFrame s p etp src 2 pgn) s
    else
      let r : RxSession := ⟨src, false, etp, pgn, prio, total, 0, [], 0, min 16 most, 0, 0⟩
      sendCts p r (setPort p { portOf s p with rx := (portOf s p).rx ++ [r] } s)

/-- TP_BAM_RECEIVED (R513). -/
def bamReceived (p src prio total pgn : Nat) (s : State) : State :=
  if !isoPort s p then s
  else
    let s := match findRx s p src true false with | some r => failRx p r s | none => s
    let x := portOf s p
    if 8 ≤ x.rx.length then setPort p { x with bamIgnored := x.bamIgnored + 1 } s
    else setPort p { x with rx := x.rx ++ [⟨src, true, false, pgn, prio, total, 0, [], packets total, 0, 0, 0⟩] } s

/-- Deliver what a session may deliver (R514): parts of 1,000 bytes while more follow, at its end the rest. -/
def deliverParts (p : Nat) (r : RxSession) (s : State) : RxSession × State :=
  if r.taken = r.total then (r, deliverOwn p (messageHeader (messageId s p r) r.buf.length false false) s.mtime r.buf s)
  else if 1000 < r.total ∧ 1000 ≤ r.buf.length then
    ({ r with buf := r.buf.drop 1000, parts := r.parts + 1 },
      deliverOwn p (messageHeader (messageId s p r) 1000 true false) s.mtime (r.buf.take 1000) s)
  else (r, s)

/-- The end of a received message (R513): acknowledged and counted. -/
def finishRx (p : Nat) (r : RxSession) (s : State) : State :=
  let s := fwrap (dropRx p r.src r.bam r.etp s) (F.TP_CNT_DONE p) 1
  if r.bam then s
  else
    let head : List Byte := if r.etp then [0x17] ++ leBytes 4 r.total
      else [0x13] ++ leBytes 2 r.total ++ [BitVec.ofNat 8 (packets r.total), 0xFF]
    sendProt p (cmFrame s p r.etp r.src r.pgn head) s

/-- A packet that ends in more than one part: a last packet may close a part of 1,000 bytes and the rest. -/
def takePacket (p : Nat) (r : RxSession) (data : List Byte) (s : State) : State :=
  let n := min 7 (r.total - r.taken)
  let buf := r.buf ++ data.take n
  let full := decide (1000 < r.total ∧ 1000 < buf.length)
  let (r, s) := if full then
      ({ r with taken := r.taken + n, buf := buf.drop 1000, parts := r.parts + 1, window := r.window - 1 },
        deliverOwn p (messageHeader (messageId s p r) 1000 true false) s.mtime (buf.take 1000) s)
    else ({ r with taken := r.taken + n, buf := buf, window := r.window - 1 }, s)
  let (r, s) := deliverParts p r s
  let s := putRx p r s
  if r.taken = r.total then finishRx p r s
  else if r.window = 0 ∧ !r.bam then sendCts p r s
  else s

/-- TP_DATA_RECEIVED (R513, R514): a packet out of sequence aborts its session (PRESUMED, log entry 19). -/
def dataReceived (p src seq : Nat) (bam etp : Bool) (data : List Byte) (s : State) : State :=
  match findRx s p src bam etp with
  | none => s
  | some r =>
    if r.window = 0 then s
    else if seq = r.taken / 7 - r.base + 1 then takePacket p r data s
    else
      let s := failRx p r s
      if bam then s else sendProt p (abortFrame s p etp src 7 r.pgn) s

/-- A data packet offset frame of ETP opens its window. -/
def dpoReceived (p src n offset : Nat) (s : State) : State :=
  match findRx s p src false true with
  | none => s
  | some r => if offset = r.base then putRx p { r with window := min n (min r.maxPk (packets r.total - r.base)) } s else s

/-- Whether the send session of port p is with a node. -/
def txWith (s : State) (p node : Nat) (etp : Bool) : Option TxSession :=
  match (portOf s p).tx with
  | none => none
  | some t => if !t.bam ∧ t.etp = etp ∧ ps t.id = node then some t else none

/-- TP_CTS_RECEIVED (R515): the next packets may be sent, from packet next on; for ETP an offset frame goes first. -/
def ctsReceived (p node n next : Nat) (etp : Bool) (s : State) : State :=
  match txWith s p node etp with
  | none => s
  | some t =>
    let off := 7 * (next - 1)
    if n = 0 ∨ t.sent < off ∨ t.back.length < t.sent - off then s
    else
      let again := t.back.drop (t.back.length - (t.sent - off))
      let s := setPort p { portOf s p with tx := some { t with sent := off, buf := again ++ t.buf, back := [], window := n, base := off / 7 } } s
      if etp then sendProt p (cmFrame s p true node (pgnOf t.id) ([0x16, BitVec.ofNat 8 n] ++ leBytes 3 (off / 7))) s else s

/-- The send session of port p ends; parts not consumed are swallowed. -/
def endTx (p : Nat) (t : TxSession) (s : State) : State :=
  let x := portOf s p
  let cur := match x.cur with | some (.stream, _) => none | c => c
  setPort p { x with tx := none, swallow := !t.last, cur := cur } s

/-- A send session is aborted or times out (R515). -/
def failTx (p : Nat) (t : TxSession) (s : State) : State :=
  let s := fsat (endTx p t s) (F.TP_CNT_ABORT p) 1
  let s := deliverOwn p (messageHeader (t.id % 2 ^ 29) 0 false true) s.mtime [] s
  raise 2 5 p .tpAbort [pgnOf t.id] s

/-- TP_ABORT_RECEIVED from a node (R514, R515). -/
def abortReceived (p node : Nat) (etp : Bool) (s : State) : State :=
  let s := match findRx s p node false etp with | some r => failRx p r s | none => s
  match txWith s p node etp with | some t => failTx p t s | none => s

/-- TP_END_OF_MESSAGE_ACK (R513). -/
def endAck (p node : Nat) (etp : Bool) (s : State) : State :=
  match txWith s p node etp with
  | none => s
  | some t => fwrap (endTx p t s) (F.TP_CNT_DONE p) 1

/-- TP_TIMEOUT (R513 to R515): of the receive session of a sender and kind, or of the send session. -/
def tpTimeout (p : Nat) (rx : Option (Nat × Bool × Bool)) (s : State) : State :=
  match rx with
  | some (src, bam, etp) =>
    match findRx s p src bam etp with
    | none => s
    | some r => let s := failRx p r s; if bam then s else sendProt p (abortFrame s p etp src 3 r.pgn) s
  | none =>
    match (portOf s p).tx with
    | none => s
    | some t => let s := failTx p t s; if t.bam then s else sendProt p (abortFrame s p t.etp (ps t.id) 3 (pgnOf t.id)) s

/-- BAM_PACKET_SEND (R513): 50 ms after the packet before, the next may go. -/
def bamPacket (p : Nat) (s : State) : State :=
  match (portOf s p).tx with
  | none => s
  | some t =>
    if !t.bam ∨ t.window ≠ 0 then s
    else let s := atTime t.deadline s; setPort p { portOf s p with tx := some { t with window := 1 } } s

/-- Start the send session of a message (R515): the RTS or the BAM announcement enters the protocol slot. -/
def startTx (p : Nat) (i : TxItem) (s : State) : State :=
  let id := nbits i.hdr 28 0
  let bam := decide (240 ≤ pf id ∨ ps id = 255)
  let etp := decide (1785 < i.w1)
  let t : TxSession := ⟨id, i.w1, 0, i.data, !hdrCont i.hdr, 0, s.mtime + 50 * ms, bam, etp, 0, []⟩
  let s := setPort p { portOf s p with tx := some t } (popHead (85 + p) i.words s)
  let head : List Byte := if etp then [0x14] ++ leBytes 4 i.w1
    else [if bam then 0x20 else 0x10] ++ leBytes 2 i.w1 ++ [BitVec.ofNat 8 (packets i.w1), 0xFF]
  sendProt p (cmFrame s p etp (if bam then 255 else ps id) (pgnOf id) head) s

/-- The next data packet of the send session, if it may be sent (R515). -/
def txPacket (s : State) (p : Nat) : Option CanFrame :=
  match (portOf s p).tx with
  | none => none
  | some t =>
    let n := min 7 (t.total - t.sent)
    if t.window = 0 ∨ n = 0 ∨ (t.buf.length < n ∧ !t.last) then none
    else
      let seq := if t.etp then t.sent / 7 - t.base + 1 else t.sent / 7 + 1
      let d := t.buf.take n
      let dest := if t.bam then 255 else ps t.id
      some (extFrame ((if t.etp then 0x1CC70000 else 0x1CEB0000) + dest * 256 + portAddr s p)
        ([BitVec.ofNat 8 seq] ++ d ++ List.replicate (7 - d.length) 0xFF))

/-- A data packet is out (R513, R515): a BAM ends with its last packet. -/
def packetSent (p : Nat) (t : TxSession) (s : State) : State :=
  let n := min 7 (t.total - t.sent)
  let t := { t with sent := t.sent + n, buf := t.buf.drop n, back := t.back ++ t.buf.take n, window := t.window - 1, deadline := s.mtime + 50 * ms }
  let s := setPort p { portOf s p with tx := some t } s
  if t.bam ∧ t.total ≤ t.sent then fwrap (endTx p t s) (F.TP_CNT_DONE p) 1 else s

/-- ADDRESS_CLAIM_TIMEOUT (R511). -/
def execAddressClaimTimeout (p : PortId) (s : State) : Outcome := live (claimTimeout p) s
/-- TP_TIMEOUT (R515). -/
def execTpTimeout (p : PortId) (rx : Option (Nat × Bool × Bool)) (s : State) : Outcome := live (tpTimeout p rx) s
/-- BAM_PACKET_SEND (R513). -/
def execBamPacketSend (p : PortId) (s : State) : Outcome := live (bamPacket p) s
/-- DM1_PERIOD (R516). -/
def execDm1Period (p : PortId) (s : State) : Outcome := live (dm1Period p) s

end Sys2Proof.Machine
end

