-- ==== Sys2Proof/Machine/Send.lean ====
section
/-! DEFINITION. What a port sends: hardware slots, stream, send objects (R492, R493, R495, R497, R307, R311). -/
namespace Sys2Proof.Machine

/-- The frame as it goes out: on the ISO port with SA_INSERT the claimed address stands in it (R509). -/
def insertAddress (s : State) (p : Nat) (f : CanFrame) : CanFrame :=
  if isoPort s p && flag s (F.ISO_CFG_SA_INSERT p) && f.ide && decide (pf f.id ≠ 0xEE) then
    { f with id := f.id / 256 * 256 + portAddr s p } else f

/-- The OFF frame of a disarmed descriptor (R308, R311); its sequence is a free value (DESIGN CHOICE, log entry 18). -/
def offFrame (s : State) (p : Nat) (c : OffCmd) : CanFrame :=
  ownFrame c.addr (portAddr s p)
    [0x41, BitVec.ofNat 8 c.chan, BitVec.ofNat 8 (32 + Config.free s.freeCtr % 16), 0xFF, 0xFF, 0xFF, 0, 0]

/-- The first ready frame of the hardware slots (R493), a reference message still without data. -/
def slotFrame (s : State) (p : Nat) : Option (TxSrc × CanFrame) :=
  let x := portOf s p
  let prot := (if hasAddress s p then x.prot else x.prot.filter (fun f => pf f.id == 0xEE)).head?.map (fun f => (TxSrc.prot, f))
  if !hasAddress s p then prot
  else if x.time.ref then some (.ref, ⟨fget s F.TM_REF_ID_ID, flag s F.TM_REF_ID_IDE, false, 0, [], 0, false⟩)
  else match x.time.fol with
  | some (some t) => some (.fol, ⟨fget s F.TM_FOL_ID_ID, flag s F.TM_FOL_ID_IDE, false, 0, folMessage s t, 0, false⟩)
  | _ => match x.time.msg with
    | some (_, d) => some (.msg, ownFrame 0xFF (portAddr s p) d)
    | none => match x.cmd with
      | c :: _ => some (.cmd c, offFrame s p c)
      | [] => prot

/-- The bytes of object o. -/
def objBytes (s : State) (p o : Nat) : List Byte := bankBytes s (A.OBJ_DATA p o) 16
/-- The frame of send object o. -/
def objFrame (s : State) (p o : Nat) : CanFrame :=
  ⟨if flag s (F.OBJ_ID_IDE p o) then fget s (F.OBJ_ID_ID p o) else fget s (F.OBJ_ID_ID p o) % 2048, flag s (F.OBJ_ID_IDE p o), false,
    Fin.ofNat 4 (fget s (F.OBJ_CFG_FORMAT p o)), (objBytes s p o).take (fget s (F.OBJ_CFG_LEN p o)), 0, false⟩
/-- Whether object o is a pending send object (R497). -/
def objPending (s : State) (p o : Nat) : Bool :=
  flag s (F.OBJ_CTRL_SEND_REQ p o) && flag s (F.OBJ_CFG_DIR p o) && flag s (F.OBJ_ID_EN p o)
/-- The place of an identifier in arbitration: the lower wins. -/
def arbKey (f : CanFrame) : Nat := if f.ide then (f.id / 2 ^ 18 * 2 + 1) * 2 ^ 18 + f.id % 2 ^ 18 else f.id * 2 ^ 19
/-- The pending object of a list whose identifier wins arbitration, of equal ones the lowest-numbered (R497). -/
def bestObject (s : State) (p : Nat) : List Nat → Option Nat
  | [] => none
  | o :: t =>
    match bestObject s p t with
    | none => if objPending s p o then some o else none
    | some b => if objPending s p o ∧ arbKey (objFrame s p o) ≤ arbKey (objFrame s p b) then some o else some b

/-- The next frame to enter arbitration (R493). -/
def chooseFrame (s : State) (p : Nat) : Option (TxSrc × CanFrame) :=
  match slotFrame s p with
  | some c => some c
  | none =>
    if !hasAddress s p then none
    else if flag s (F.PORT_CFG_MODE p) then (bestObject s p (List.range 128)).map (fun o => (.object o, objFrame s p o))
    else match txPacket s p with
      | some f => some (.stream, f)
      | none => (portOf s p).head.map (fun f => (.stream, f))

/-- Whether a frame is a TIMED_CMD (R308): PGN 0xEF00, with both page bits zero. -/
def isTimedCmd (f : CanFrame) : Bool :=
  f.ide && f.fmt == 0 && !f.rtr && decide (f.id / 2 ^ 24 % 4 = 0) && decide (pf f.id = 0xEF) && decide (f.data.length = 8) && decide (f.data.headD 0 = 0x41)
/-- The descriptors that a TIMED_CMD on port p names. -/
def cmdRems (s : State) (p : Nat) (f : CanFrame) : List Nat := remsAt s p (ps f.id) (f.data.getD 1 0).toNat

/-- The head item leaves Q85 + p. -/
def popItem (p n : Nat) (s : State) : State :=
  let s := popHead (85 + p) n s
  setPort p { portOf s p with head := none } (setQueue (85 + p) { queueOf s (85 + p) with taken := false } s)

/-- The stream's frame has gone out: its item leaves Q85 + p, unless a flush discarded it meanwhile (R334). -/
def popSent (p : Nat) (s : State) : State :=
  let x := queueOf s (85 + p)
  if x.taken then popItem p (headPacket x.slots).length s else setPort p { portOf s p with head := none } s

/-- Discard a TIMED_CMD that no armed descriptor matches (R311). -/
def discardCmd (p : Nat) (ds : List Nat) (n : Nat) (s : State) : State :=
  let s := popItem p n s
  if ds = [] then fsat s F.REM_NOMATCH_CNT_COUNT 1
  else forAll (fun d s => fset s (F.REM_CTRL_DISCARD d) 1) ds s

/-- A head item enters arbitration, or starts a transport session, or is discarded (R311, R491, R515). -/
def takeItem (p : Nat) (i : TxItem) (s : State) : State :=
  let f := itemFrame i
  let msg := hdrMsg i.hdr
  if malformed s p i false then
    let s := popItem p i.words (countBad p s)
    if msg ∧ hdrCont i.hdr then setPort p { portOf s p with swallow := true } s else s
  else if (!msg ∨ i.w1 ≤ 8) ∧ isTimedCmd f ∧ !(cmdRems s p f).any (remArmed s) then discardCmd p (cmdRems s p f) i.words s
  else if msg ∧ 8 < i.w1 then startTx p i s
  else
    let s := setQueue (85 + p) { queueOf s (85 + p) with taken := true } s
    setPort p { portOf s p with head := some f, cur := some (.stream, f) } s

/-- STREAM_ITEM_TAKEN on port p (R311, R491, R515): the head item of Q85 + p is taken and checked. -/
def streamItemTaken (p : Nat) (s : State) : State :=
  let x := portOf s p
  if !maySend s p || flag s (F.PORT_CFG_MODE p) || x.cur.isSome || (slotFrame s p).isSome || !hasAddress s p then s
  else if x.swallow then
    match headItem s p true with
    | none => s
    | some i => let s := popItem p i.words s; setPort p { portOf s p with swallow := hdrMsg i.hdr && hdrCont i.hdr } s
  else match x.tx with
  | some t =>
    match headItem s p true with
    | none => s
    | some i =>
      if t.last ∨ 7 ≤ t.buf.length ∨ !hdrMsg i.hdr then s
      else if malformed s p i true then popItem p i.words (countBad p s)
      else
        let s := popItem p i.words s
        setPort p { portOf s p with tx := some { t with buf := t.buf ++ i.data, last := !hdrCont i.hdr } } s
  | none =>
    match headItem s p false with
    | none => s
    | some i => takeItem p i s

/-- A TIMED_CMD that is sent with its target more than 100 ms in the past (R307). -/
def checkPast (p sof : Nat) (f : CanFrame) (s : State) : State :=
  match (if isTimedCmd f then timeField (leNat ((f.data.drop 3).take 3)) sof else none) with
  | none => s
  | some t =>
    if t + 100 * ms < sof then
      forAll (fun d s => raise 3 2 d .remPastSent [d] (fset s (F.REM_CTRL_PAST_SENT d) 1)) (cmdRems s p f) s
    else s

/-- What the completion of a frame does at its source (R450, R492, R497). -/
def sourceDone (p sof : Nat) (src : TxSrc) (f : CanFrame) (s : State) : State :=
  let x := portOf s p
  match src with
  | .ref =>
    let fol := match x.time.fol with | some _ => some (some sof) | none => none
    setPort p { x with time := { x.time with ref := false, fol := fol } } (fwrap s F.TM_STAT_CYCLE 1)
  | .fol => setPort p { x with time := { x.time with fol := none } } s
  | .msg => setPort p { x with time := { x.time with msg := none } } s
  | .cmd c => { setPort p { x with cmd := x.cmd.erase c } s with freeCtr := s.freeCtr + 1 }
  | .prot => setPort p { x with prot := x.prot.erase f } s
  | .object o => checkPast p sof f (fset (fset s (F.OBJ_CTRL_SEND_REQ p o) 0) (F.OBJ_STAT_TX_DONE p o) 1)
  | .stream =>
    match x.tx with
    | some t => packetSent p t s
    | none => checkPast p sof f (popSent p s)

/-- The transmitter delay measured by the frame (R486). -/
def noteTdc (p tdc : Nat) (f : CanFrame) (s : State) : State :=
  if flag s (F.PORT_TDC_EN p) ∧ (f.fmt = 2 ∨ f.fmt = 3) then
    let s := fset s (F.PORT_TDC_DELAY p) (min tdc 127)
    if 127 < tdc + fget s (F.PORT_TDC_OFFSET p) then fset s (F.PORT_STAT_TDC_SAT p) 1 else s
  else s

/-- FRAME_TRANSMIT_COMPLETE on port p (R492, R501, R503): the frame in arbitration, or the one that entered it,
completes; its start of frame and the transmitter delay. -/
def transmitComplete (p sof tdc : Nat) (s : State) : State :=
  if !maySend s p then s
  else
    match (match (portOf s p).cur with | some c => some c | none => chooseFrame s p) with
    | none => s
    | some (src, f) =>
      let s := atTime sof s
      let out := insertAddress s p (match src with | .ref => { f with data := refMessage s sof } | _ => f)
      let s := sourceDone p sof src f s
      let s := fset (fwrap s (F.PORT_TXCNT_COUNT p) 1) (F.PORT_STAT_SOLO p) 0
      let s := setPort p { portOf s p with ackRun := 0 } (fset s (F.PORT_ERR_TEC p) (fget s (F.PORT_ERR_TEC p) - 1))
      let s := noteTdc p tdc out (endOneshot p (judgeErrors p s))
      let s := if flag s (F.PORT_CFG_LOOP p) then deliverFrame p out ((fresh s).1 % 64) false true sof (fresh s).2 else s
      frameEnds p s

/-- OBJ_CTRL.SEND_REQ (R497). -/
def sendReq (p o : Nat) (s : State) : State :=
  if flag s (F.OBJ_CFG_DIR p o) then fset s (F.OBJ_CTRL_SEND_REQ p o) 1 else s

/-- OBJ_CTRL.TX_ABORT (R497). When the frame that the port would send next enters arbitration depends on the bus:
whether the object's frame has entered it is a free value (DESIGN CHOICE, log entry 18). -/
def txAbort (p o : Nat) (s : State) : State :=
  let x := portOf s p
  if !flag s (F.OBJ_CTRL_SEND_REQ p o) then s
  else
    let inArb : Bool := match x.cur with
      | some (.object k, _) => k == o
      | some _ => false
      | none => maySend s p && (match chooseFrame s p with | some (.object k, _) => k == o | _ => false) && decide ((fresh s).1 % 2 = 1)
    let s := (fresh s).2
    if inArb then setPort p { x with cur := some (.object o, objFrame s p o) } s
    else fset s (F.OBJ_CTRL_SEND_REQ p o) 0

/-- STREAM_ITEM_TAKEN (R311). -/
def execStreamItemTaken (p : PortId) (s : State) : Outcome := live (streamItemTaken p) s
/-- FRAME_TRANSMIT_COMPLETE (R492). -/
def execFrameTransmitComplete (p : PortId) (sof : Nat) (tdc : BitVec 8) (s : State) : Outcome :=
  live (transmitComplete p sof tdc.toNat) s

end Sys2Proof.Machine
end

