-- ==== Sys2Proof/WellFormed.lean ====
section
/-! DEFINITION. Well-formed commands: the operand types bound every operand but the data of a received frame,
which is checked here. -/
namespace Sys2Proof

open Sys2Proof.Machine

/-- The most data bytes of a frame of each format (R481, R489). -/
def mostBytes (fmt : Fin 4) : Nat := if fmt = 0 then 8 else if fmt = 3 then 1000 else 64
/-- The data lengths of a CAN FD frame above 8 bytes (ISO 11898-1). -/
def fdLengths : List Nat := [12, 16, 20, 24, 32, 48, 64]
/-- Whether a number of data bytes is one that a frame of a format can carry (R489). -/
def lengthOk (fmt : Fin 4) (n : Nat) : Bool :=
  if fmt = 3 then decide (1 ≤ n ∧ n ≤ mostBytes fmt)
  else decide (n ≤ 8) || (decide (n ≤ mostBytes fmt) && fdLengths.contains n)
/-- Whether a frame can be on a bus: its length, its identifier, no remote frame but a classical one, no
extended identifier in CAN XL. -/
def frameOk (f : CanFrame) : Bool :=
  lengthOk f.fmt f.data.length && decide (f.id < if f.ide then 2 ^ 29 else 2 ^ 11) && (f.fmt == 0 || !f.rtr) && (f.fmt != 3 || !f.ide)
/-- Whether a command is well formed. A FRAME_RECEIVED that is not delivers no frame and changes nothing. -/
def Instr.wellFormed : Instr → Bool
  | .frameReceived _ f _ => frameOk f
  | _ => true

end Sys2Proof
end

