-- ==== Sys2Proof/Machine/Receive.lean ====
section
/-! DEFINITION. Received frames: register access, transport, claims, reports, filters and objects
(R312, R496, R499, R500, R519, R522, R523). -/
namespace Sys2Proof.Machine

/-- A good frame was received (ISO 11898-1): counted, and the receive error counter falls. Above 127 it falls to
a value from 119 to 127, which is a free value (DESIGN CHOICE, log entry 18). -/
def countGood (p : Nat) (s : State) : State :=
  let s := fwrap s (F.PORT_RXCNT_GOOD p) 1
  let r := fget s (F.PORT_ERR_REC p)
  if 127 < r then
    let (v, s) := fresh s
    judgeErrors p (fset s (F.PORT_ERR_REC p) (119 + v % 9))
  else fset s (F.PORT_ERR_REC p) (r - 1)

/-- Whether a frame matches identifier, IDE, mask and format code (R496, R499). -/
def frameMatches (f : CanFrame) (id mask fmt : Nat) (ide : Bool) : Bool :=
  (f.ide == ide) && decide ((f.id ^^^ id) &&& mask = 0) &&
    (match fmt with | 0 => true | 1 => f.fmt == 0 | 2 => f.fmt == 1 || f.fmt == 2 | _ => f.fmt == 3)

/-- Whether data fail the length or range check of a CHK and RANGE word (R500). A field beyond the data fails. DEDUCED, log entry 52. -/
def checkFails (c r : Word) (d : List Byte) : Bool :=
  let off := bitsOf c 21 16
  let wide := c.getLsbD 22
  let n := if wide then 2 else 1
  let raw := leNat ((d.drop off).take n)
  let sgn (v w : Nat) : Int := if c.msb ∧ 2 ^ (w - 1) ≤ v then (v : Int) - (2 ^ w : Nat) else v
  let v := sgn raw (8 * n)
  decide (d.length < bitsOf c 30 24) ||
    (c.getLsbD 23 && (decide (d.length < off + n) || decide (v < sgn (bitsOf r 15 0) 16) || decide (sgn (bitsOf r 31 16) 16 < v)))

/-- The CHK word of check i of port p: stream filters 0 to 31, objects from 32 on. -/
def chkWord (s : State) (p i : Nat) : Word := if i < 32 then rd s (A.SF_CHK p i) else rd s (A.OBJ_CHK p (i - 32))
/-- The RANGE word of check i. -/
def rangeWord (s : State) (p i : Nat) : Word := if i < 32 then rd s (A.SF_RANGE p i) else rd s (A.OBJ_RANGE p (i - 32))

/-- Judge a frame by check i (R500): whether it fails, and the bookkeeping of its timeout and first failure. DEDUCED, log entry 51. -/
def judgeCheck (p i : Nat) (d : List Byte) (s : State) : Bool × State :=
  let x := portOf s p
  if checkFails (chkWord s p i) (rangeWord s p i) d then
    let first := (tabFind x.lastGood i).isSome && !x.lastBad.contains i
    let s := setPort p { x with lastBad := if x.lastBad.contains i then x.lastBad else i :: x.lastBad } s
    (true, if first then raise 1 5 p .rxCheck [i] s else s)
  else
    (false, setPort p { x with lastGood := tabInsert (tabErase x.lastGood i) i s.mtime, lastBad := x.lastBad.filter (· != i),
                               timedOut := x.timedOut.filter (· != i) } s)

/-- The stream filter that accepts a frame (R499). -/
def acceptFilter (s : State) (p : Nat) (f : CanFrame) : Option Nat :=
  (List.range 32).find? (fun k => flag s (F.SF_ID_EN p k) &&
    frameMatches f (fget s (F.SF_ID_ID p k)) (fget s (F.SF_MASK_MASK p k)) (fget s (F.SF_MASK_FMT p k)) (flag s (F.SF_ID_IDE p k)))
/-- The receive object that stores a frame (R496). -/
def acceptObject (s : State) (p : Nat) (f : CanFrame) : Option Nat :=
  if 64 < f.data.length then none
  else (List.range 128).find? (fun o => flag s (F.OBJ_ID_EN p o) && !flag s (F.OBJ_CFG_DIR p o) &&
    frameMatches f (fget s (F.OBJ_ID_ID p o)) (fget s (F.OBJ_MASK_MASK p o)) (fget s (F.OBJ_MASK_FMT p o)) (flag s (F.OBJ_ID_IDE p o)))

/-- Store a frame in receive object o (R496). -/
def storeObject (p o : Nat) (f : CanFrame) (sof : Nat) (s : State) : State :=
  let b := f.data ++ (objBytes s p o).drop f.data.length
  let s := forAll (fun e s => wr s (A.OBJ_DATA p o e.1) e.2) ((List.range 16).zip (leWords 16 b)) s
  let s := wr (wr (fset s (F.OBJ_CFG_LEN p o) f.data.length) (A.OBJ_T_LO p o) (loWord sof)) (A.OBJ_T_HI p o) (hiWord sof)
  let s := if flag s (F.OBJ_STAT_FRESH p o) then fset s (F.OBJ_STAT_OVERRUN p o) 1 else s
  fset s (F.OBJ_STAT_FRESH p o) 1

/-- Step 5 of R499, in either mode. -/
def deliverReceived (p : Nat) (f : CanFrame) (sof : Nat) (s : State) : State :=
  if flag s (F.PORT_CFG_MODE p) then
    match acceptObject s p f with
    | none => fsat s (F.PORT_RXCNT_FILTERED p) 1
    | some o =>
      let (bad, s) := judgeCheck p (32 + o) f.data s
      if bad then fset s (F.OBJ_STAT_CHECK p o) 1 else storeObject p o f sof s
  else
    match acceptFilter s p f with
    | none => fsat s (F.PORT_RXCNT_FILTERED p) 1
    | some k =>
      let (bad, s) := judgeCheck p k f.data s
      deliverFrame p f k bad false sof s

/-- Whether a frame is a classical 8-byte frame of the own group (R306, R519). -/
def isOwnGroup (f : CanFrame) : Bool :=
  f.ide && f.fmt == 0 && !f.rtr && decide (f.id / 65536 = 0x0CEF) && decide (f.data.length = 8)
/-- Byte i of a frame. -/
def byteOf (f : CanFrame) (i : Nat) : Nat := (f.data.getD i 0).toNat
/-- Bytes i to i + n − 1 of a frame as a little-endian number. -/
def fieldOf (f : CanFrame) (i n : Nat) : Nat := leNat ((f.data.drop i).take n)

/-- The register-access request of a frame (R519). -/
def accessRequest (f : CanFrame) : Option AccReq :=
  let a := byteOf f 1 / 4 * 4 + 256 * byteOf f 2 + 65536 * byteOf f 3
  let t := byteOf f 1 % 4
  match byteOf f 0 with
  | 0x20 => some .open'
  | 0x21 => some .close
  | 0x22 => some (.read a t)
  | 0x23 => some (.write a t (BitVec.ofNat 32 (fieldOf f 4 4)))
  | 0x24 => some (.keyedAddr a t (fieldOf f 4 2))
  | 0x25 => some (.keyedData a t (BitVec.ofNat 32 (fieldOf f 4 4)))
  | _ => none

/-- The frame of a register-access request (R519). -/
def requestFrame (s : State) (p src : Nat) (q : AccReq) : CanFrame :=
  let ad (a t : Nat) : List Byte := [BitVec.ofNat 8 (a / 4 % 64 * 4 + t % 4), BitVec.ofNat 8 (a / 256), BitVec.ofNat 8 (a / 65536)]
  ownFrame (portAddr s p) src (match q with
    | .open' => [0x20] ++ List.replicate 7 0xFF
    | .close => [0x21] ++ List.replicate 7 0xFF
    | .read a t => [0x22] ++ ad a t ++ List.replicate 4 0xFF
    | .write a t v => [0x23] ++ ad a t ++ wordLe v
    | .keyedAddr a t k => [0x24] ++ ad a t ++ leBytes 2 k ++ [0xFF, 0xFF]
    | .keyedData a t v => [0x25] ++ ad a t ++ wordLe v)

/-- A register-access request arrives (R522): at most four wait. DEDUCED, log entry 49. -/
def queueRequest (p src : Nat) (q : AccReq) (s : State) : State :=
  let x := portOf s p
  if x.acc.length < 4 then setPort p { x with acc := x.acc ++ [(src, q)] } s
  else fset s (F.ISO_STAT_ACC_OVF p) 1

/-- A connection management frame of TP or ETP (R513 to R515). -/
def cmReceived (p : Nat) (etp : Bool) (f : CanFrame) (s : State) : State :=
  let src := sa f.id
  let prio := f.id / 2 ^ 26
  let pgn := fieldOf f 5 3
  match byteOf f 0, etp with
  | 0x10, false => rtsReceived p src prio (fieldOf f 1 2) (byteOf f 4) pgn false s
  | 0x20, false => bamReceived p src prio (fieldOf f 1 2) pgn s
  | 0x11, false => ctsReceived p src (byteOf f 1) (byteOf f 2) false s
  | 0x13, false => endAck p src false s
  | 0x14, true => rtsReceived p src prio (fieldOf f 1 4) 255 pgn true s
  | 0x15, true => ctsReceived p src (byteOf f 1) (fieldOf f 2 3) true s
  | 0x16, true => dpoReceived p src (byteOf f 1) (fieldOf f 2 3) s
  | 0x17, true => endAck p src true s
  | 0xFF, _ => abortReceived p src etp s
  | _, _ => s

/-- A request for a parameter group (R511, R516). -/
def requestReceived (p src pgn : Nat) (s : State) : State :=
  if pgn = 0xEE00 then claimRequested p s
  else if pgn = 0xFECB then dm2Request p s
  else if pgn = 0xFECC then dm3Received p src s
  else s

/-- What acts on a frame of the ISO 11783 port in step 3 of R499, and on requests for diagnostics. -/
def actOnIso (p : Nat) (f : CanFrame) (s : State) : State :=
  if !isoPort s p || !f.ide || f.fmt != 0 then s
  else if pf f.id = 0xEE ∧ f.data.length = 8 then claimReceived p (sa f.id) (leNat f.data) s
  else if pf f.id = 0xEA ∧ 3 ≤ f.data.length ∧ (ps f.id = 255 ∨ ps f.id = portAddr s p) then requestReceived p (sa f.id) (fieldOf f 0 3) s
  else s

/-- Whether a frame is taken by the transport assist (R499). DEDUCED, log entry 53. -/
def isTransport (s : State) (p : Nat) (f : CanFrame) : Bool :=
  isoPort s p && f.ide && f.fmt == 0 && decide (f.data.length = 8) && [0xEC, 0xEB, 0xC8, 0xC7].contains (pf f.id) &&
    decide (ps f.id = 255 ∨ ps f.id = portAddr s p)

/-- The transport assist takes a frame. -/
def takeTransport (p : Nat) (f : CanFrame) (s : State) : State :=
  let g := pf f.id
  if g = 0xEC then cmReceived p false f s
  else if g = 0xC8 then cmReceived p true f s
  else dataReceived p (sa f.id) (byteOf f 0) (decide (ps f.id = 255)) (decide (g = 0xC7)) (f.data.drop 1) s

/-- The descriptors that a report on port p addresses (R312). -/
def reportRems (s : State) (p : Nat) (f : CanFrame) : List Nat :=
  if isOwnGroup f ∧ ps f.id = portAddr s p ∧ (byteOf f 0 = 0x43 ∨ byteOf f 0 = 0x44) then remsAt s p (sa f.id) (byteOf f 1) else []

/-- Act on a report (R312). -/
def actOnReport (f : CanFrame) (d : Nat) (s : State) : State :=
  let b := byteOf f 2
  if byteOf f 0 = 0x43 then stateReport (decide (128 ≤ b)) (decide (64 ≤ b % 128)) d s
  else if b / 16 = 1 ∨ b / 16 = 2 then latencyReport (decide (b / 16 = 1)) (fieldOf f 3 2) d s
  else s

/-- The correction filter of port p takes the bytes of a frame (R523). -/
def takeCorrection (p : Nat) (f : CanFrame) (s : State) : State :=
  if flag s (F.PORT_CORR_ID_EN p) &&
      frameMatches f (fget s (F.PORT_CORR_ID_ID p)) (fget s (F.PORT_CORR_IDMASK_MASK p)) 0 (flag s (F.PORT_CORR_ID_IDE p)) then
    forAll (feedByte p) f.data s
  else s

/-- FRAME_RECEIVED on port p (R499). -/
def frameReceived (p : Nat) (f : CanFrame) (sof : Nat) (s : State) : State :=
  if !onBus s p then s
  else
    let s := countGood p (atTime sof s)
    match (if isOwnGroup f ∧ ps f.id = portAddr s p ∧ flag s (F.PORT_CFG_ACC_EN p) then accessRequest f else none) with
    | some q => queueRequest p (sa f.id) q s
    | none =>
      if isTransport s p f then takeTransport p f s
      else
        let s := actOnIso p f s
        let s := if isOwnGroup f ∧ ps f.id = 255 ∧ byteOf f 0 = 0x50 then fleetFrame p (sa f.id) f.data s else s
        let s := takeCorrection p f s
        match reportRems s p f with
        | [] => deliverReceived p f sof s
        | ds => deliverFrame p f 63 false false sof (forAll (actOnReport f) ds s)

/-- RECEIVE_CHECK_TIMEOUT of check i of port p (R500). The identifier of a TIMEOUT item is a free value
(DESIGN CHOICE, log entry 18). -/
def checkTimeout (p i : Nat) (s : State) : State :=
  let x := portOf s p
  let t := bitsOf (chkWord s p i) 15 0
  let on := if i < 32 then flag s (F.SF_ID_EN p i) && !flag s (F.PORT_CFG_MODE p)
    else flag s (F.OBJ_ID_EN p (i - 32)) && !flag s (F.OBJ_CFG_DIR p (i - 32)) && flag s (F.PORT_CFG_MODE p)
  if t = 0 || !on || x.timedOut.contains i || decide (busState s p = 0) then s
  else
    let s := atTime (((tabFind x.lastGood i).getD x.openAt) + ms * t) s
    let s := raise 2 5 p .rxTimeout [i] (setPort p { x with timedOut := i :: x.timedOut } s)
    if i < 32 then
      let (v, s) := fresh s
      deliver (91 + p) [BitVec.ofNat 64 (v % 2 ^ 30 + 2 ^ 32 * i + 2 ^ 39), BitVec.ofNat 64 s.mtime] s
    else fset s (F.OBJ_STAT_TIMEOUT p (i - 32)) 1

/-- FRAME_RECEIVED (R499). What no format carries is no frame, so the port receives none (DESIGN CHOICE, log
entry 94). -/
def execFrameReceived (p : PortId) (f : CanFrame) (sof : Nat) (s : State) : Outcome :=
  if frameOk f then live (frameReceived p f sof) s else .next s
/-- RECEIVE_CHECK_TIMEOUT (R500). -/
def execReceiveCheckTimeout (p : PortId) (i : Fin 160) (s : State) : Outcome := live (checkTimeout p i) s
/-- STATE_REPORT (R308, R312). -/
def execStateReport (p : PortId) (node chan : Byte) (on late : Bool) (seq : BitVec 4) (time : BitVec 24) (s : State) : Outcome :=
  let b : Nat := (if on then 128 else 0) + (if late then 64 else 0) + seq.toNat
  live (frameReceived p (ownFrame (portAddr s p) node.toNat
    ([0x43, chan, BitVec.ofNat 8 b] ++ leBytes 3 time.toNat ++ [0xFF, 0xFF])) s.mtime) s
/-- LATENCY_REPORT (R308, R312). -/
def execLatencyReport (p : PortId) (node chan : Byte) (on : Bool) (seq : BitVec 4) (lat : BitVec 16) (s : State) : Outcome :=
  let b : Nat := (if on then 16 else 32) + seq.toNat
  live (frameReceived p (ownFrame (portAddr s p) node.toNat
    ([0x44, chan, BitVec.ofNat 8 b] ++ leBytes 2 lat.toNat ++ [0xFF, 0xFF, 0xFF])) s.mtime) s
/-- ADDRESS_CLAIM_RECEIVED (R511). -/
def execAddressClaimReceived (p : PortId) (a : Byte) (name : BitVec 64) (s : State) : Outcome :=
  live (frameReceived p (extFrame (0x18EEFF00 + a.toNat) (le8 name.toNat)) s.mtime) s
/-- REQUEST_FOR_ADDRESS_CLAIM (R511). -/
def execRequestForAddressClaim (p : PortId) (src : Byte) (s : State) : Outcome :=
  live (frameReceived p (extFrame (0x18EAFF00 + src.toNat) [0x00, 0xEE, 0x00]) s.mtime) s
/-- DM2_REQUEST (R516). -/
def execDm2Request (p : PortId) (src : Byte) (s : State) : Outcome :=
  live (frameReceived p (extFrame (0x18EAFF00 + src.toNat) [0xCB, 0xFE, 0x00]) s.mtime) s
/-- DM3_RECEIVED (R516). -/
def execDm3Received (p : PortId) (src : Byte) (s : State) : Outcome :=
  live (frameReceived p (extFrame (0x18EAFF00 + src.toNat) [0xCC, 0xFE, 0x00]) s.mtime) s
/-- A connection management frame from a node to the Askat. -/
def cmFrom (s : State) (p src : Nat) (etp : Bool) (pgn : BitVec 24) (head : List Byte) : CanFrame :=
  extFrame ((if etp then 0x1CC80000 else 0x1CEC0000) + portAddr s p * 256 + src) (head ++ leBytes 3 pgn.toNat)
/-- TP_RTS_RECEIVED (R513). -/
def execTpRtsReceived (p : PortId) (src : Byte) (etp : Bool) (total : Word) (most : Byte) (pgn : BitVec 24) (s : State) : Outcome :=
  let head : List Byte := if etp then [0x14] ++ leBytes 4 total.toNat
    else [0x10] ++ leBytes 2 total.toNat ++ [BitVec.ofNat 8 (packets (total.toNat % 65536)), most]
  live (frameReceived p (cmFrom s p src.toNat etp pgn head) s.mtime) s
/-- TP_BAM_RECEIVED (R513). -/
def execTpBamReceived (p : PortId) (src : Byte) (total : BitVec 16) (pgn : BitVec 24) (s : State) : Outcome :=
  live (frameReceived p (extFrame (0x1CECFF00 + src.toNat)
    ([0x20] ++ leBytes 2 total.toNat ++ [BitVec.ofNat 8 (packets total.toNat), 0xFF] ++ leBytes 3 pgn.toNat)) s.mtime) s
/-- TP_DATA_RECEIVED (R514). -/
def execTpDataReceived (p : PortId) (src seq : Byte) (bam etp : Bool) (d : BitVec 56) (s : State) : Outcome :=
  let dest := if bam then 255 else portAddr s p
  live (frameReceived p (extFrame ((if etp then 0x1CC70000 else 0x1CEB0000) + dest * 256 + src.toNat) (seq :: leBytes 7 d.toNat)) s.mtime) s
/-- TP_CTS_RECEIVED (R515). -/
def execTpCtsReceived (p : PortId) (src : Byte) (etp : Bool) (n : Byte) (next pgn : BitVec 24) (s : State) : Outcome :=
  let head : List Byte := if etp then [0x15, n] ++ leBytes 3 next.toNat else [0x11, n] ++ leBytes 1 next.toNat ++ [0xFF, 0xFF]
  live (frameReceived p (cmFrom s p src.toNat etp pgn head) s.mtime) s
/-- TP_ABORT_RECEIVED (R515). -/
def execTpAbortReceived (p : PortId) (src : Byte) (etp : Bool) (reason : Byte) (pgn : BitVec 24) (s : State) : Outcome :=
  live (frameReceived p (cmFrom s p src.toNat etp pgn [0xFF, reason, 0xFF, 0xFF, 0xFF]) s.mtime) s
/-- TP_END_OF_MESSAGE_ACK (R513). -/
def execTpEndOfMessageAck (p : PortId) (src : Byte) (etp : Bool) (total : Word) (pgn : BitVec 24) (s : State) : Outcome :=
  let head : List Byte := if etp then [0x17] ++ leBytes 4 total.toNat
    else [0x13] ++ leBytes 2 total.toNat ++ [BitVec.ofNat 8 (packets (total.toNat % 65536)), 0xFF]
  live (frameReceived p (cmFrom s p src.toNat etp pgn head) s.mtime) s
/-- FLEET_DIGEST_FRAME (R572, R573). -/
def execFleetDigestFrame (p : PortId) (src : Byte) (part : BitVec 3) (round : BitVec 5) (d : BitVec 48) (s : State) : Outcome :=
  live (frameReceived p (ownFrame 255 src.toNat ([0x50, BitVec.ofNat 8 (part.toNat + 8 * round.toNat)] ++ leBytes 6 d.toNat)) s.mtime) s

end Sys2Proof.Machine
end

