-- ==== Sys2Proof/Machine/Agate.lean ====
section
/-! DEFINITION. The event recorder (R524 to R544). -/
namespace Sys2Proof.Machine

/-- Replace the recorder. -/
def setAgate (r : Recorder) (s : State) : State := { s with agate := r }

/-- The operating time OPT: 48 bits, units of 10 ms of logic-powered time. -/
def optNow (s : State) : Nat := (s.sup.optBase + s.mtime / (10 * ms)) % 2 ^ 48

/-- The collector's stamps (R529). -/
def stamp (s : State) (e : Event) : Stamped := ⟨e, optNow s, s.sup.pcc, gtimeNow s, timeState s⟩

/-- An entry enters Q103; the flood begins at 56 entries (R537). -/
def enterQ103 (e : Stamped) (s : State) : State :=
  let s := countCommit 103 1 (setAgate { s.agate with q103 := s.agate.q103 ++ [e] } s)
  if s.agate.flood.isNone ∧ 56 ≤ s.agate.q103.length then setAgate { s.agate with flood := some ⟨s.mtime, [], 0⟩ } s else s

/-- Whether the collector can serve an event now (R536): admit it, or in a flood coalesce it. -/
def servable (s : State) (e : Event) : Bool :=
  let n := s.agate.q103.length
  if 6 ≤ e.sev then decide (n < 64) else if 3 ≤ e.sev then decide (n < 56) else s.agate.flood.isSome || decide (n < 56)

/-- The servable event of highest severity, of equal ones the first to arrive (R536). -/
def nextEvent (s : State) : List Event → Option Event
  | [] => none
  | e :: t =>
    match nextEvent s t with
    | none => if servable s e then some e else none
    | some b => if servable s e ∧ b.sev ≤ e.sev then some e else some b

/-- RECORDER_EVENT_ACCEPT (R536, R537). Events that none of the limits of Q103 lets in meet back-pressure (R338). -/
def acceptEvent (s : State) : State :=
  match nextEvent s s.agate.waiting with
  | none => if s.agate.waiting.isEmpty then s else fset s (F.QSTAT_BP_SEEN 103) 1
  | some e =>
    let s := setAgate { s.agate with waiting := s.agate.waiting.erase e } s
    match (if e.sev < 3 then s.agate.flood else none) with
    | some f => coalesce e f s
    | none => enterQ103 (stamp s e) s

/-- Sources with their counts in descending count, then ascending source (R539). -/
def insertCount (c : Nat × Nat) : List (Nat × Nat) → List (Nat × Nat)
  | [] => [c]
  | d :: t => if d.2 < c.2 ∨ (d.2 = c.2 ∧ c.1 ≤ d.1) then c :: d :: t else d :: insertCount c t

/-- Every source's suppressed count, further sources under 0xFFFF. -/
def floodCounts (f : Flood) : List (Nat × Nat) := f.counts ++ (if f.other = 0 then [] else [(0xFFFF, f.other)])
/-- The total of the suppressed counts. -/
def floodTotal (f : Flood) : Nat := ((floodCounts f).map (·.2)).sum

/-- The DATA of a flood summary (R539). -/
def summaryData (f : Flood) (now : Nat) : List Byte :=
  let cs := (f.counts.foldr insertCount [])
  let many := decide (6 < (floodCounts f).length)
  let rest := ((cs.drop 5).map (·.2)).sum + f.other
  let pairs := if many then cs.take 5 ++ [(0xFFFF, min rest 0xFFFF)] else floodCounts { f with counts := cs }
  let b := leBytes 4 (min ((now - f.start) / us) 0xFFFFFFFF) ++ leBytes 2 (floodCounts f).length ++ [0, 0] ++
    pairs.flatMap (fun c => leBytes 2 c.1 ++ leBytes 2 c.2)
  b ++ List.replicate (32 - b.length) 0

/-- The end of a flood (R537, R539): its summary enters Q103 ahead of any event that waits. -/
def endFlood (s : State) : State :=
  match s.agate.flood with
  | none => s
  | some f =>
    if 8 < s.agate.q103.length then s
    else
      let e : Event := { sev := 2, cls := 16, inst := 0, kind := .floodSummary, vals := [], code := some 1, bytes := summaryData f s.mtime }
      enterQ103 (stamp s e) (setAgate { s.agate with flood := none } s)

/-- The present record that a new one of severity v replaces (R530). -/
def victim (v : Nat) (st : List Record) : Option Record := st.find? (fun r => !r.pinned && decide (r.entry.ev.sev ≤ v))

/-- Store an entry as a record (R530, R531, R533), or drop it. -/
def storeRecord (e : Stamped) (s : State) : State :=
  let r := s.agate
  let v := e.ev.sev
  let pin := decide (5 ≤ v) && decide (r.severe < 256)
  let put (st : List Record) := setAgate { r with store := st ++ [⟨r.nextSeq, pin, e⟩], nextSeq := r.nextSeq + 1, severe := r.severe + (if pin then 1 else 0) } s
  if r.store.length < 65536 then put r.store
  else match victim v r.store with
    | some x => put (r.store.erase x)
    | none => fset (fsat s (F.AGATE_DROP_COUNT v) 1) F.AGATE_STAT_DROP_FULL 1

/-- RECORD_WRITE (R532, R535). -/
def recordWrite (s : State) : State :=
  match s.agate.q103 with
  | [] => s
  | e :: t =>
    if !s.agate.ready then s
    else
      let s := countFinal 103 1 (setAgate { s.agate with q103 := t } s)
      endFlood (storeRecord e s)

/-- The event code of an event: the code it carries, for a time step the one that the spec's example shows
(R599), else a free value (DESIGN CHOICE, log entry 6). -/
def codeOf (e : Event) : Nat :=
  match e.code with
  | some c => c
  | none => if e.kind = .timeStep then 3 else (Config.eventCode e.kind.ctorIdx).toNat

/-- The 32 DATA bytes of an event. The supply-loss record of a flood holds the suppressed total (R539). -/
def dataOf (e : Event) : List Byte :=
  if e.code.isSome then (e.bytes ++ List.replicate 32 0).take 32
  else
    let b := (List.range 32).map (Config.eventByte e.kind.ctorIdx e.vals)
    match (if e.kind = .supplyLoss then e.vals.getLast? else none) with
    | some n => if n = 0 then b else b.take 28 ++ leBytes 4 (min n.toNat 0xFFFFFFFF)
    | none => b

/-- The 64 bytes of a record (R524, R525). -/
def recordBytes (r : Record) : List Byte :=
  let e := r.entry.ev
  let st := r.entry.tstate
  let flags := e.sev + (if st = 1 ∨ st = 2 then 8 else 0) + 16 * st + (if r.pinned then 64 else 0) + (if e.kind = .floodSummary then 128 else 0)
  let front := leBytes 5 r.seq ++ [BitVec.ofNat 8 flags] ++ leBytes 2 (sourceNum e) ++ leBytes 6 r.entry.opt ++ leBytes 2 (codeOf e) ++
    leBytes 4 r.entry.pcc ++ leBytes 8 r.entry.gtime
  front ++ wordLe (crc32c (front ++ dataOf e)) ++ dataOf e

/-- A read command finds a record (R541). -/
def selectRecord (r : Record) (s : State) : State :=
  let s := setAgate { s.agate with sel := some r.seq } s
  let s := forAll (fun p s => wr s (A.AGATE_WIN p.1) p.2) ((List.range 16).zip (leWords 16 (recordBytes r))) s
  fset s F.AGATE_RD_STAT_RESULT 1

/-- AGATE_CTRL.RD_FIRST (R541). -/
def rdFirst (s : State) : State :=
  match s.agate.store.find? (fun r => decide (fget s F.AGATE_RD_CFG_MINSEV ≤ r.entry.ev.sev)) with
  | some r => selectRecord r s
  | none => fset s F.AGATE_RD_STAT_RESULT 3

/-- AGATE_CTRL.RD_NEXT (R541). -/
def rdNext (s : State) : State :=
  match s.agate.sel with
  | none => rdFirst s
  | some q =>
    match s.agate.store.find? (fun r => decide (q < r.seq) && decide (fget s F.AGATE_RD_CFG_MINSEV ≤ r.entry.ev.sev)) with
    | some r => selectRecord r s
    | none => fset s F.AGATE_RD_STAT_RESULT 3

/-- AGATE_CTRL.RD_SEQ (R541). -/
def rdSeq (s : State) : State :=
  let q := fget s F.AGATE_RD_REQ_LO_SEQ + 2 ^ 32 * fget s F.AGATE_RD_REQ_HI_SEQ
  match s.agate.store.find? (fun r => r.seq == q) with
  | some r => selectRecord r s
  | none => fset s F.AGATE_RD_STAT_RESULT 2

/-- The drop counters. -/
def dropCounts (s : State) : List Nat := (List.range 8).map (fun v => fget s (F.AGATE_DROP_COUNT v))

/-- The highest sequence number cleared. -/
def clearedSeq (s : State) : Nat := fget s F.AGATE_CLR_SEQ_LO_SEQ + 2 ^ 32 * fget s F.AGATE_CLR_SEQ_HI_SEQ

/-- AGATE_CTRL.CLEAR by a master (R528, R543): the store empties, and the store-cleared record is the first after. -/
def clearStore (m : Master) (s : State) : State :=
  let s := match s.agate.store.getLast? with
    | none => s
    | some r => fset (fset (fset s F.AGATE_CLR_SEQ_LO_SEQ (r.seq % 2 ^ 32)) F.AGATE_CLR_SEQ_HI_SEQ (r.seq / 2 ^ 32)) F.AGATE_CLR_SEQ_HI_VALID 1
  let bytes := leBytes 5 (clearedSeq s) ++ [0, 0, 0] ++ (dropCounts s).flatMap (fun n => leBytes 2 (min n 0xFFFF)) ++ [BitVec.ofNat 8 m.code]
  let s := forAll (fun v s => fset s (F.AGATE_DROP_COUNT v) 0) (List.range 8) s
  let s := fset (setAgate { s.agate with store := [], severe := 0, sel := none } s) F.AGATE_RD_STAT_RESULT 0
  storeRecord (stamp s { sev := 4, cls := 16, inst := 0, kind := .storeCleared, vals := [], code := some 2, bytes := bytes }) s

/-- The sequence number that follows the highest present or cleared one (R534). -/
def seqAfter (st : List Record) (s : State) : Nat :=
  max (match st.getLast? with | some r => r.seq + 1 | none => 0) (if flag s F.AGATE_CLR_SEQ_HI_VALID then clearedSeq s + 1 else 0)

/-- The Agate's start-up read (R534): slots whose CRC fails are empty. -/
def agateStart (torn : List Nat) (s : State) : State :=
  let st := s.agate.store.filter (fun r => !torn.contains r.seq)
  let n := s.agate.store.length - st.length
  let s := setAgate { s.agate with ready := true, store := st, nextSeq := seqAfter st s } s
  let s := fset s F.AGATE_TORN_COUNT (min n 65535)
  if n = 0 then s
  else raiseEvent { sev := 2, cls := 16, inst := 0, kind := .tornFound, vals := [], code := some 3, bytes := leBytes 2 n } (fset s F.AGATE_STAT_TORN_SEEN 1)

/-- The words of mailbox 13 (R544). -/
def agateMailbox (s : State) : List Word :=
  let pinned := (s.agate.store.filter (·.pinned)).length
  [loWord s.agate.nextSeq, BitVec.ofNat 32 (s.agate.nextSeq / 2 ^ 32 % 256 + 256 * pinned), BitVec.ofNat 32 s.agate.store.length,
   BitVec.ofNat 32 (min (dropCounts s).sum 0xFFFFFFFF)]

/-- RECORDER_EVENT_ACCEPT (R536). -/
def execRecorderEventAccept (s : State) : Outcome := live acceptEvent s
/-- RECORD_WRITE (R532). -/
def execRecordWrite (s : State) : Outcome := live recordWrite s

end Sys2Proof.Machine
end

