-- ==== Sys2Proof/Machine/Alu.lean ====
section
/-! DEFINITION. The meanings of the integer instructions of Grikar (R155 to R159). -/
namespace Sys2Proof.Machine

/-- An ALU instruction: d from registers a and b (R155). -/
def aluReg (g d a b : Nat) (f : Nat → Word → Word → Core → Core) (s : State) : State :=
  coreInstr g false [d, a, b] [] (fun c => f d (getW c a) (getW c b) c) s

/-- An ALU instruction with a 32-bit immediate operand (R156). -/
def aluImm (g d a : Nat) (i : Word) (f : Nat → Word → Word → Core → Core) (s : State) : State :=
  coreInstr g false [d, a] [] (fun c => f d (getW c a) i c) s

/-- The 64-bit signed product. -/
def mulSigned (a b : Word) : BitVec 64 := a.signExtend 64 * b.signExtend 64
/-- The 64-bit unsigned product. -/
def mulUnsigned (a b : Word) : BitVec 64 := a.zeroExtend 64 * b.zeroExtend 64

/-- d = a + b with Z N C V (R155). -/
def execAdd (g : GatherId) (d a b : RegId) (s : State) : Outcome :=
  done (aluReg g d a b (fun d x y c => addFlags d x y false c) s)

/-- d = a − b with Z N C V (R155). -/
def execSub (g : GatherId) (d a b : RegId) (s : State) : Outcome :=
  done (aluReg g d a b (fun d x y c => subFlags d x y true c) s)

/-- d = a + b + C with Z N C V (R155). -/
def execAdc (g : GatherId) (d a b : RegId) (s : State) : Outcome :=
  done (aluReg g d a b (fun d x y c => addFlags d x y c.c c) s)

/-- d = a − b − (1 − C) with Z N C V (R155). -/
def execSbc (g : GatherId) (d a b : RegId) (s : State) : Outcome :=
  done (aluReg g d a b (fun d x y c => subFlags d x y c.c c) s)

/-- Bitwise and, with Z N (R155). -/
def execAnd (g : GatherId) (d a b : RegId) (s : State) : Outcome :=
  done (aluReg g d a b (fun d x y c => logicFlags d (x &&& y) c) s)

/-- Bitwise or, with Z N (R155). -/
def execOr (g : GatherId) (d a b : RegId) (s : State) : Outcome :=
  done (aluReg g d a b (fun d x y c => logicFlags d (x ||| y) c) s)

/-- Bitwise exclusive or, with Z N (R155). -/
def execXor (g : GatherId) (d a b : RegId) (s : State) : Outcome :=
  done (aluReg g d a b (fun d x y c => logicFlags d (x ^^^ y) c) s)

/-- a and not b, with Z N (R155). -/
def execAndn (g : GatherId) (d a b : RegId) (s : State) : Outcome :=
  done (aluReg g d a b (fun d x y c => logicFlags d (x &&& ~~~y) c) s)

/-- Bits 31:0 of the product, with Z N (R155). -/
def execMul (g : GatherId) (d a b : RegId) (s : State) : Outcome :=
  done (aluReg g d a b (fun d x y c => logicFlags d (x * y) c) s)

/-- Bits 63:32 of the signed product, with Z N (R155). -/
def execMulh (g : GatherId) (d a b : RegId) (s : State) : Outcome :=
  done (aluReg g d a b (fun d x y c => logicFlags d ((mulSigned x y).extractLsb' 32 32) c) s)

/-- Bits 63:32 of the unsigned product, with Z N (R155). -/
def execMulhu (g : GatherId) (d a b : RegId) (s : State) : Outcome :=
  done (aluReg g d a b (fun d x y c => logicFlags d ((mulUnsigned x y).extractLsb' 32 32) c) s)

/-- Signed minimum, with Z N (R155). -/
def execMin (g : GatherId) (d a b : RegId) (s : State) : Outcome :=
  done (aluReg g d a b (fun d x y c => logicFlags d (if x.sle y then x else y) c) s)

/-- Signed maximum, with Z N (R155). -/
def execMax (g : GatherId) (d a b : RegId) (s : State) : Outcome :=
  done (aluReg g d a b (fun d x y c => logicFlags d (if x.sle y then y else x) c) s)

/-- Unsigned minimum, with Z N (R155). -/
def execMinu (g : GatherId) (d a b : RegId) (s : State) : Outcome :=
  done (aluReg g d a b (fun d x y c => logicFlags d (if x ≤ y then x else y) c) s)

/-- Unsigned maximum, with Z N (R155). -/
def execMaxu (g : GatherId) (d a b : RegId) (s : State) : Outcome :=
  done (aluReg g d a b (fun d x y c => logicFlags d (if x ≤ y then y else x) c) s)

/-- Shift left by b[4:0], with Z N C (R155, R158). -/
def execShl (g : GatherId) (d a b : RegId) (s : State) : Outcome :=
  done (aluReg g d a b (fun d x y c => shiftFlags .left d x (y.toNat % 32) c) s)

/-- Logical shift right by b[4:0], with Z N C (R155, R158). -/
def execShr (g : GatherId) (d a b : RegId) (s : State) : Outcome :=
  done (aluReg g d a b (fun d x y c => shiftFlags .right d x (y.toNat % 32) c) s)

/-- Arithmetic shift right by b[4:0], with Z N C (R155, R158). -/
def execSar (g : GatherId) (d a b : RegId) (s : State) : Outcome :=
  done (aluReg g d a b (fun d x y c => shiftFlags .arith d x (y.toNat % 32) c) s)

/-- Rotate right by b[4:0], with Z N C (R155, R158). -/
def execRor (g : GatherId) (d a b : RegId) (s : State) : Outcome :=
  done (aluReg g d a b (fun d x y c => shiftFlags .rotate d x (y.toNat % 32) c) s)

/-- D = a + imm, flags as ADD (R142, R156). -/
def execAddi (g : GatherId) (d a : RegId) (imm : BitVec 16) (s : State) : Outcome :=
  done (aluImm g d a (imm.signExtend 32) (fun d x y c => addFlags d x y false c) s)

/-- D = a − imm, flags as SUB (R142, R156). -/
def execSubi (g : GatherId) (d a : RegId) (imm : BitVec 16) (s : State) : Outcome :=
  done (aluImm g d a (imm.signExtend 32) (fun d x y c => subFlags d x y true c) s)

/-- And with the zero-extended immediate (R142, R156). -/
def execAndi (g : GatherId) (d a : RegId) (imm : BitVec 16) (s : State) : Outcome :=
  done (aluImm g d a (imm.zeroExtend 32) (fun d x y c => logicFlags d (x &&& y) c) s)

/-- Or with the zero-extended immediate (R142, R156). -/
def execOri (g : GatherId) (d a : RegId) (imm : BitVec 16) (s : State) : Outcome :=
  done (aluImm g d a (imm.zeroExtend 32) (fun d x y c => logicFlags d (x ||| y) c) s)

/-- Exclusive or with the zero-extended immediate (R142, R156). -/
def execXori (g : GatherId) (d a : RegId) (imm : BitVec 16) (s : State) : Outcome :=
  done (aluImm g d a (imm.zeroExtend 32) (fun d x y c => logicFlags d (x ^^^ y) c) s)

/-- SHLI: as the register form with an immediate count (R157). -/
def execShli (g : GatherId) (d a : RegId) (count : Fin 32) (s : State) : Outcome :=
  done (coreInstr g false [d, a] [] (fun c => shiftFlags .left d (getW c a) count c) s)

/-- SHRI: as the register form with an immediate count (R157). -/
def execShri (g : GatherId) (d a : RegId) (count : Fin 32) (s : State) : Outcome :=
  done (coreInstr g false [d, a] [] (fun c => shiftFlags .right d (getW c a) count c) s)

/-- SARI: as the register form with an immediate count (R157). -/
def execSari (g : GatherId) (d a : RegId) (count : Fin 32) (s : State) : Outcome :=
  done (coreInstr g false [d, a] [] (fun c => shiftFlags .arith d (getW c a) count c) s)

/-- RORI: as the register form with an immediate count (R157). -/
def execRori (g : GatherId) (d a : RegId) (count : Fin 32) (s : State) : Outcome :=
  done (coreInstr g false [d, a] [] (fun c => shiftFlags .rotate d (getW c a) count c) s)

/-- LUI: d = imm16 << 16, no flags (R156). -/
def execLui (g : GatherId) (d : RegId) (imm : BitVec 16) (s : State) : Outcome :=
  done (coreInstr g false [d] [] (fun c => setW d (imm.zeroExtend 32 <<< (16 : Nat)) c) s)

/-- Signed quotient rounded toward zero, with the corners of R159. -/
def divResult (a b : Word) : Word :=
  if b = 0 then (if a.msb then 0x80000000 else 0x7FFFFFFF) else a.sdiv b
/-- Unsigned quotient (R159). -/
def divuResult (a b : Word) : Word := if b = 0 then 0xFFFFFFFF else a.udiv b
/-- Signed remainder with the sign of a (R159). -/
def remResult (a b : Word) : Word := if b = 0 then a else a.srem b
/-- Unsigned remainder (R159). -/
def remuResult (a b : Word) : Word := if b = 0 then a else a.umod b

/-- An asynchronous arithmetic instruction: its operands are read when it issues (R146, R159). -/
def asyncArith (g d a b : Nat) (f : Word → Word → Word) (s : State) : State :=
  asyncInstr g false [d, a, b] [] (fun s =>
    let c := (gatherOf s g).cur
    issueAsync g (.value (f (getW c a) (getW c b))) [d] [] s) s

/-- DIV: issues an asynchronous operation (R159). -/
def execDiv (g : GatherId) (d a b : RegId) (s : State) : Outcome := done (asyncArith g d a b divResult s)

/-- DIVU: issues an asynchronous operation (R159). -/
def execDivu (g : GatherId) (d a b : RegId) (s : State) : Outcome := done (asyncArith g d a b divuResult s)

/-- REM: issues an asynchronous operation (R159). -/
def execRem (g : GatherId) (d a b : RegId) (s : State) : Outcome := done (asyncArith g d a b remResult s)

/-- REMU: issues an asynchronous operation (R159). -/
def execRemu (g : GatherId) (d a b : RegId) (s : State) : Outcome := done (asyncArith g d a b remuResult s)

/-- SQRT: floor of the square root of a, unsigned; the b field is zero (R159). -/
def execSqrt (g : GatherId) (d a : RegId) (s : State) : Outcome :=
  done (asyncArith g d a 0 (fun x _ => BitVec.ofNat 32 (sqrtFloor 16 x.toNat)) s)

end Sys2Proof.Machine
end

