-- ==== Sys2Proof/Machine/Rule.lean ====
section
/-! DEFINITION. What a register adds to the field types of R86: its live value, the refusals of its own
and the effect of a write. -/
namespace Sys2Proof.Machine

/-- A write that has reached its register: the writing master, the register's indices and address, the written
word, the bits that the write covers (all, or one through the alias window), the value before, the value that
the RW, KRW and CNT fields take, and the commands (W1S bits written 1). -/
structure WriteCtx where
  m : Master
  idx : List Nat
  addr : Nat
  data : Word
  sel : Word
  old : Word
  new : Word
  cmds : Word
deriving DecidableEq, Repr

/-- The rule of a register beside its fields. stores: whether the register map itself holds the value. -/
structure RegRule where
  stores : Bool
  view : State → Master → List Nat → Word → Word
  readState : State → List Nat → Bool
  once : WriteCtx → State → Bool
  value : WriteCtx → State → Bool
  state : WriteCtx → State → Bool
  armed : WriteCtx → State → Bool
  effect : WriteCtx → State → State

/-- A register whose fields say everything. -/
def plainRule : RegRule :=
  { stores := true, view := fun _ _ _ w => w, readState := fun _ _ => false, once := fun _ _ => false
    value := fun _ _ => false, state := fun _ _ => false, armed := fun _ _ => false, effect := fun _ s => s }

/-- The first index. -/
def WriteCtx.i (c : WriteCtx) : Nat := c.idx.headD 0
/-- The second index. -/
def WriteCtx.j (c : WriteCtx) : Nat := c.idx.getD 1 0
/-- The value that a field takes (R86). -/
def WriteCtx.get (c : WriteCtx) (f : Fld) : Nat := bitsOf c.new f.hi f.lo
/-- The value that a field had. -/
def WriteCtx.was (c : WriteCtx) (f : Fld) : Nat := bitsOf c.old f.hi f.lo
/-- The value of a field in the written word. -/
def WriteCtx.put (c : WriteCtx) (f : Fld) : Nat := bitsOf (c.data &&& c.sel) f.hi f.lo
/-- Whether the write starts a command (R86). -/
def WriteCtx.cmd (c : WriteCtx) (f : Fld) : Bool := bitsOf c.cmds f.hi f.lo != 0
/-- Whether the write covers a field. -/
def WriteCtx.covers (c : WriteCtx) (f : Fld) : Bool := bitsOf c.sel f.hi f.lo != 0
/-- Whether the write changes a field. -/
def WriteCtx.changes (c : WriteCtx) (f : Fld) : Bool := c.get f != c.was f

/-- A word with a field replaced. -/
def putField (w : Word) (f : Fld) (v : Nat) : Word := withBits w f.hi f.lo v
/-- A word with a one-bit field replaced. -/
def putFlag (w : Word) (f : Fld) (b : Bool) : Word := putField w f (if b then 1 else 0)

/-- Do a change for a command that the write starts. -/
def onCmd (c : WriteCtx) (f : Fld) (k : State → State) (s : State) : State := onlyIf (c.cmd f) k s

/-- The bits of the fields of one type. -/
def typeBits (ty : FTy) (fs : List FieldSpec) : Nat :=
  ((fs.filter (fun f => f.ty == ty)).map (fun f => 2 ^ f.lo * (2 ^ (f.hi - f.lo + 1) - 1))).sum
/-- The word of the bits of the fields of one type. -/
def typeMask (ty : FTy) (fs : List FieldSpec) : Word := BitVec.ofNat 32 (typeBits ty fs)
/-- The bits that a write loads: RW and KRW, and CNT by a write to the whole register (R88, R100). -/
def loadMask (whole : Bool) (fs : List FieldSpec) : Word :=
  typeMask .rw fs ||| typeMask .krw fs ||| (if whole then typeMask .cnt fs ||| typeMask .won fs else 0)
/-- The field of a register that holds bit b. -/
def bitField (fs : List FieldSpec) (b : Nat) : Option FieldSpec := fs.find? (fun f => decide (f.lo ≤ b ∧ b ≤ f.hi))
/-- Whether a register holds a KRW field. -/
def hasKrw (fs : List FieldSpec) : Bool := fs.any (fun f => f.ty == .krw)
/-- Whether all fields of a register are RO, MBX or Reserved (R90). -/
def allReadOnly (fs : List FieldSpec) : Bool := fs.all (fun f => f.ty == .ro || f.ty == .mbx)
/-- The W1S bits that need the key when a write starts their command (R610). -/
def keyedMask (fs : List FieldSpec) : Word :=
  BitVec.ofNat 32 (((fs.filter (fun f => f.keyed && f.ty == .w1s)).map (fun f => 2 ^ f.lo * (2 ^ (f.hi - f.lo + 1) - 1))).sum)

/-- Whether a value lies in the stated ranges of a field; a field without ranges takes every value. -/
def inRanges (f : FieldSpec) (v : Nat) : Bool := f.ok.isEmpty || f.ok.any (fun r => decide (r.1 ≤ v ∧ v ≤ r.2))
/-- Whether a written field of word w lies outside its stated ranges (R104). -/
def rangeBad (fs : List FieldSpec) (sel w : Word) : Bool :=
  fs.any (fun f => (f.ty == .rw || f.ty == .krw || f.ty == .cnt) && bitsOf sel f.hi f.lo != 0 && !inRanges f (bitsOf w f.hi f.lo))

end Sys2Proof.Machine
end

