-- ==== Sys2Proof/Machine/RulesAct.lean ====
section
/-! DEFINITION. The registers of the queues and of the ACT domain beyond their field types: channels, feeds,
outputs, remote descriptors, carriers, the tick and the time unit. -/
namespace Sys2Proof.Machine

/-- QCTRLq (R332, R337, R338). -/
def ruleQctrl : RegRule :=
  { plainRule with
      state := fun c s => c.cmd (F.QCTRL_QFLUSH c.i) && flushRefusal s c.i == some .state
      armed := fun c s => c.cmd (F.QCTRL_QFLUSH c.i) && flushRefusal s c.i == some .armed
      effect := fun c s =>
        let s := onCmd c (F.QCTRL_QFLUSH c.i) (flushQueue c.i) s
        onCmd c (F.QCTRL_HWM_CLR c.i) (fun s => fset s (F.QHWM_HIGH c.i) (level s c.i + reserved s c.i)) s }
/-- A register of a queue that shows its pointers and levels (R320, R324, R338). -/
def ruleQview (off : Nat) : RegRule := { plainRule with view := fun s _ ix w => viewQueue s (ix.headD 0) off w }

/-- Whether a class code is one of output n (R340). -/
def classOk (n k : Nat) : Bool := if n < 64 then decide (k ≤ 1) else if n < 76 then decide (k ≤ 4) else decide (k ≤ 2)
/-- CH_CFGn (R340, R343, R359, R364). -/
def ruleChCfg : RegRule :=
  { plainRule with
      value := fun c _ =>
        !classOk c.i (c.get (F.CH_CFG_CLASS c.i)) || decide (c.get (F.CH_CFG_POSTURE c.i) = 3) ||
          (decide (76 ≤ c.i) && decide (c.get (F.CH_CFG_COMP_LAW c.i) ≠ 0)) ||
          (decide (c.get (F.CH_CFG_CLASS c.i) ≠ 4) && decide (c.get (F.CH_CFG_REV_GAP c.i) ≠ 0))
      armed := fun c s => armed s c.i }
/-- CH_LIMITn (R345). -/
def ruleChLimit : RegRule :=
  { plainRule with
      value := fun c _ =>
        let nom := c.get (F.CH_LIMIT_NOM c.i)
        let peak := c.get (F.CH_LIMIT_PEAK c.i)
        let inr := c.get (F.CH_LIMIT_INRUSH_LIM c.i)
        if 76 ≤ c.i then decide (c.new ≠ 0)
        else
          let top := if c.i < 64 then 160 else 120
          let most := if c.i < 64 then 16 else 40
          decide (most < nom) || decide (peak < 2) || decide (top < peak) || decide (inr < peak) || decide (top < inr) || decide (peak < nom)
      armed := fun c s => armed s c.i }
/-- CH_RETRYn (R348). DEDUCED, log entry 73. -/
def ruleChRetry : RegRule :=
  { plainRule with
      value := fun c _ => decide (c.get (F.CH_RETRY_TRIES c.i) = 0) ||
        decide (100 * c.get (F.CH_RETRY_CAP c.i) < c.get (F.CH_RETRY_PAUSE c.i))
      armed := fun c s => armed s c.i }
/-- CH_CTRLn.UNLATCH (R350). -/
def ruleChCtrl : RegRule := { plainRule with effect := fun c s => onCmd c (F.CH_CTRL_UNLATCH c.i) (unlatch c.i) s }
/-- FEED_CFGf. -/
def ruleFeedCfg : RegRule :=
  { plainRule with
      value := fun c _ => decide ((if c.i < 8 then 80 else 160) < c.get (F.FEED_CFG_BUDGET c.i))
      armed := fun c s => (outsOfFeed c.i).any (armed s) }
/-- FEED_STATf.RESERVE (R354). -/
def ruleFeedStat : RegRule :=
  { plainRule with view := fun s _ ix w => putField w (F.FEED_STAT_RESERVE 0) (min 255 (feedReserve s (ix.headD 0))) }
/-- CAP_SEL (R367). -/
def ruleCapSel : RegRule := { plainRule with effect := fun c s => takeReadCopy (c.get F.CAP_SEL_OUTPUT) s }
/-- CAP_WIN_i (R367). -/
def ruleCapWin : RegRule := { plainRule with view := fun s _ ix _ => capWord s (ix.headD 0) }

/-- OUT_CTRLn (R25, R289, R356). -/
def ruleOutCtrl : RegRule :=
  { plainRule with
      value := fun c _ => c.cmd (F.OUT_CTRL_ARM c.i) && c.cmd (F.OUT_CTRL_DISARM c.i)
      state := fun c s => c.cmd (F.OUT_CTRL_ARM c.i) && armRefused s c.i
      effect := fun c s =>
        let s := onCmd c (F.OUT_CTRL_ARM c.i) (armOut c.i) s
        let s := onCmd c (F.OUT_CTRL_DISARM c.i) (disarmOut c.i) s
        onCmd c (F.OUT_CTRL_LATE_CLR c.i) (lateClear c.i) s }
/-- OUT_STATn.PENDING. -/
def ruleOutStat : RegRule :=
  { plainRule with view := fun s _ ix w => putField w (F.OUT_STAT_PENDING 0) (outOf s (ix.headD 0)).evq.length }
/-- OUT_LEARNn (R296, R299): logic pairs have no current to learn from. -/
def ruleLearn : RegRule :=
  { plainRule with
      value := fun c _ => decide (76 ≤ c.i) && (decide (c.get (F.OUT_LEARN_EN_ON c.i) = 1) || decide (c.get (F.OUT_LEARN_EN_OFF c.i) = 1))
      effect := fun c s => onCmd c (F.OUT_LEARN_RELEARN c.i) (relearn c.i) s }
/-- A binding register of output n (R22). -/
def ruleOutBinding : RegRule := { plainRule with armed := fun c s => armed s c.i }

/-- REM_DESCd (R299, R310). -/
def ruleRemDesc : RegRule :=
  { plainRule with
      armed := fun c s => remArmed s c.i
      effect := fun c s =>
        if c.get (F.REM_DESC_VALID c.i) = 1 ∧ c.was (F.REM_DESC_VALID c.i) = 0 then
          fset (fset s (F.REM_LAT_ON c.i) (fget s (F.REM_LATINIT_INIT_ON c.i))) (F.REM_LAT_OFF c.i) (fget s (F.REM_LATINIT_INIT_OFF c.i))
        else s }
/-- REM_CTRLd (R25, R310, R311). -/
def ruleRemCtrl : RegRule :=
  { plainRule with
      value := fun c _ => c.cmd (F.REM_CTRL_ARM c.i) && c.cmd (F.REM_CTRL_DISARM c.i)
      state := fun c s => c.cmd (F.REM_CTRL_ARM c.i) && remArmRefused s c.i
      effect := fun c s =>
        let s := onCmd c (F.REM_CTRL_ARM c.i) (armRem c.i) s
        onCmd c (F.REM_CTRL_DISARM c.i) (disarmRem c.i) s }
/-- REM_CFGd: TRANSIT is binding (R310), TIMEOUT is 1 to 255. -/
def ruleRemCfg : RegRule :=
  { plainRule with
      value := fun c _ => decide (c.get (F.REM_CFG_TIMEOUT c.i) = 0)
      armed := fun c s => c.covers (F.REM_CFG_TRANSIT c.i) && remArmed s c.i }

/-- PWM_DEADn (R375). -/
def ruleDead : RegRule :=
  { plainRule with
      value := fun c _ => decide (64 ≤ c.i ∧ c.i < 76) && (decide (c.get (F.PWM_DEAD_DR c.i) < 2048) || decide (c.get (F.PWM_DEAD_DF c.i) < 2048))
      state := fun c s => armed s c.i }
/-- PWM_CNTn: the counter value, 0 while no carrier runs (R368). -/
def rulePwmCnt : RegRule :=
  { plainRule with
      view := fun s _ ix _ =>
        let n := ix.headD 0
        if flag s (F.PWM_STAT_CARRIER n) then BitVec.ofNat 32 (counter s n s.mtime) else 0 }
/-- PWM_STATn.LINE. -/
def rulePwmStat : RegRule := { plainRule with view := fun s _ ix w => putFlag w (F.PWM_STAT_LINE 0) (lineNow s (ix.headD 0)) }
/-- PWM_BANKb (R386). -/
def ruleBank : RegRule := { plainRule with effect := fun c s => respread c.i s }
/-- PWM_GLOBAL (R385): an idle output changes its path at once, another at its next reload. DEDUCED, log entry 76. -/
def rulePwmGlobal : RegRule :=
  { plainRule with
      state := fun _ s => anyOutArmed s
      effect := fun _ s => forAll takePathIdle (List.range 84) s }

/-- TICK_CFG (R438). -/
def ruleTick : RegRule :=
  { plainRule with
      state := fun _ s => anyArmed s
      effect := fun c s => if c.new = c.old then s else { s with nav := { s.nav with regrid := s.mtime } } }
/-- TIME_CTRL.SET (R448). -/
def ruleTimeCtrl : RegRule :=
  { plainRule with
      state := fun c s => c.cmd F.TIME_CTRL_SET && (decide (timeState s = 1) || decide (timeState s = 2))
      effect := fun c s => onCmd c F.TIME_CTRL_SET timeSet s }
/-- PPS_CFG (R440, R441): PPS_OUT starts no sooner than half a second after EN. -/
def rulePps : RegRule :=
  { plainRule with
      effect := fun c s =>
        if c.get F.PPS_CFG_EN = 0 then { s with clock := { s.clock with pulse := none } }
        else if c.was F.PPS_CFG_EN = 0 then { s with clock := { s.clock with nextMin := s.mtime + sec / 2 } }
        else s }
/-- TM_CFG (R449, R454). -/
def ruleTm : RegRule :=
  { plainRule with
      value := fun c s => decide (c.get F.TM_CFG_EN = 1) && decide (rd s A.TM_REF_ID = rd s A.TM_FOL_ID)
      state := fun c _ => decide (c.was F.TM_CFG_EN = 1) && (c.changes F.TM_CFG_PORT || c.changes F.TM_CFG_PERIOD)
      effect := fun c s =>
        if c.get F.TM_CFG_EN = 1 ∧ c.was F.TM_CFG_EN = 0 then { s with clock := { s.clock with tmNext := s.mtime } } else s }
/-- The identifiers of the time master hold still while EN is 1. DEDUCED, log entry 74. -/
def ruleTmId : RegRule := { plainRule with state := fun _ s => flag s F.TM_CFG_EN }

/-- The rules of the queue registers. -/
def rulesQueue (b : Nat) : RegRule :=
  if b = Reg.QCTRL.base then ruleQctrl else ruleQview (b - 0x8000)
/-- The rules of channels, feeds and captures. -/
def rulesChan (b : Nat) : RegRule :=
  if b = Reg.CH_CFG.base then ruleChCfg
  else if b = Reg.CH_LIMIT.base then ruleChLimit
  else if b = Reg.CH_RETRY.base then ruleChRetry
  else if b = Reg.CH_CTRL.base then ruleChCtrl
  else if b = Reg.FEED_CFG.base then ruleFeedCfg
  else if b = Reg.FEED_STAT.base then ruleFeedStat
  else if b = Reg.CAP_SEL.base then ruleCapSel
  else if b = Reg.CAP_WIN.base then ruleCapWin
  else plainRule
/-- The rules of outputs and remote descriptors. -/
def rulesOut (b : Nat) : RegRule :=
  if b = Reg.OUT_CTRL.base then ruleOutCtrl
  else if b = Reg.OUT_STAT.base then ruleOutStat
  else if b = Reg.OUT_LEARN.base then ruleLearn
  else if b = Reg.OUT_TRANSIT.base then ruleOutBinding
  else if b = Reg.REM_DESC.base then ruleRemDesc
  else if b = Reg.REM_CTRL.base then ruleRemCtrl
  else if b = Reg.REM_CFG.base then ruleRemCfg
  else plainRule
/-- The rules of carriers and the tick. -/
def rulesPwm (b : Nat) : RegRule :=
  if b = Reg.PWM_DEAD.base then ruleDead
  else if b = Reg.PWM_CNT.base then rulePwmCnt
  else if b = Reg.PWM_STAT.base then rulePwmStat
  else if b = Reg.PWM_BANK.base then ruleBank
  else if b = Reg.PWM_GLOBAL.base then rulePwmGlobal
  else if b = Reg.TICK_CFG.base then ruleTick
  else plainRule
/-- The rules of the time unit. -/
def rulesTime (b : Nat) : RegRule :=
  if b = Reg.TIME_CTRL.base then ruleTimeCtrl
  else if b = Reg.PPS_CFG.base then rulePps
  else if b = Reg.TM_CFG.base then ruleTm
  else if b = Reg.TM_REF_ID.base ∨ b = Reg.TM_FOL_ID.base then ruleTmId
  else plainRule

end Sys2Proof.Machine
end

