-- ==== Sys2Proof/Machine/RulesBus.lean ====
section
/-! DEFINITION. The registers of the bus ports beyond their field types (R485 to R508, R511). -/
namespace Sys2Proof.Machine

/-- Whether an armed remote descriptor names port p. -/
def portArmed (s : State) (p : Nat) : Bool :=
  (List.range 428).any (fun d => remArmed s d && decide (fget s (F.REM_DESC_PORT d) = p))
/-- Whether port p is the enabled time-master port. -/
def isTmPort (s : State) (p : Nat) : Bool := flag s F.TM_CFG_EN && decide (fget s F.TM_CFG_PORT = p)
/-- PORT_CTRLp (R488, R505 to R507). -/
def rulePortCtrl : RegRule :=
  { plainRule with
      view := fun s _ ix w =>
        let p := ix.headD 0
        let w := putFlag w (F.PORT_CTRL_SLEEP p) (portOf s p).sleepReq
        putFlag w (F.PORT_CTRL_BUSOFF_REC p) ((portOf s p).recCmd && flag s (F.PORT_STAT_RECOV p))
      state := fun c s =>
        (c.covers (F.PORT_CTRL_INIT c.i) && decide (c.get (F.PORT_CTRL_INIT c.i) = 1) && isTmPort s c.i) ||
          (c.cmd (F.PORT_CTRL_SLEEP c.i) && (isTmPort s c.i || portArmed s c.i))
      armed := fun c s => c.covers (F.PORT_CTRL_INIT c.i) && decide (c.get (F.PORT_CTRL_INIT c.i) = 1) && portArmed s c.i
      effect := fun c s =>
        let s := if c.changes (F.PORT_CTRL_INIT c.i) then portInit c.i (c.get (F.PORT_CTRL_INIT c.i) = 1) s else s
        let s := onCmd c (F.PORT_CTRL_BUSOFF_REC c.i) (startRecovery c.i) s
        let s := onCmd c (F.PORT_CTRL_SLEEP c.i) (requestSleep c.i) s
        onCmd c (F.PORT_CTRL_WAKE c.i) (wakePort c.i) s }
/-- Whether port p is out of the configuration state (R488). -/
def portOpen (s : State) (p : Nat) : Bool := !flag s (F.PORT_CTRL_INIT p)
/-- PORT_CFGp (R488). -/
def rulePortCfg : RegRule :=
  { plainRule with
      value := fun c _ => decide (c.i < 4) && decide (c.get (F.PORT_CFG_XL_EN c.i) = 1)
      state := fun c s => portOpen s c.i }
/-- PORT_NBTp (R485, R488). -/
def ruleNbt : RegRule :=
  { plainRule with
      value := fun c _ => decide (c.get (F.PORT_NBT_PH2 c.i) < c.get (F.PORT_NBT_JUMP c.i)) ||
        decide (c.get (F.PORT_NBT_PH1 c.i) = 0) || decide (c.get (F.PORT_NBT_PH2 c.i) = 0)
      state := fun c s => portOpen s c.i }
/-- PORT_DBTp (R486, R488): at least 4 tq in a bit. -/
def ruleDbt : RegRule :=
  { plainRule with
      value := fun c _ => decide (c.get (F.PORT_DBT_PH2 c.i) < c.get (F.PORT_DBT_JUMP c.i)) ||
        decide (c.get (F.PORT_DBT_PH1 c.i) + c.get (F.PORT_DBT_PH2 c.i) < 1)
      state := fun c s => portOpen s c.i }
/-- PORT_XBTp (R486, R488): ports 4 and 5 only. -/
def ruleXbt : RegRule :=
  { plainRule with
      view := fun _ _ ix w => if ix.headD 0 < 4 then 0 else w
      value := fun c _ => decide (c.i < 4) || decide (c.get (F.PORT_XBT_PH2 c.i) < c.get (F.PORT_XBT_JUMP c.i)) ||
        decide (c.get (F.PORT_XBT_PH1 c.i) + c.get (F.PORT_XBT_PH2 c.i) < 1)
      state := fun c s => portOpen s c.i }
/-- PORT_TDCp (R488). -/
def ruleTdc : RegRule := { plainRule with state := fun c s => portOpen s c.i }
/-- The wake registers hold still while the port sleeps. -/
def ruleWake : RegRule := { plainRule with state := fun c s => decide (busState s c.i = 4) }

/-- ISO_CFG.EN is set on port p: a port on the bus claims its address (R508, R511). -/
def isoOn (p : Nat) (s : State) : State := if busState s p = 0 then s else startClaim p (fget s (F.ISO_CFG_PREF p)) s
/-- ISO_CFG.EN is cleared on port p: it holds no address any more. -/
def isoOff (p : Nat) (s : State) : State :=
  let s := setPort p { portOf s p with claimEnd := none, claimAddr := 0xFE } s
  completeStart (fset (fset s (F.ISO_STAT_CLAIM p) 0) (F.ISO_STAT_ADDR p) 0xFE)
/-- ISO_CFGp (R508). -/
def ruleIso : RegRule :=
  { plainRule with
      value := fun c s => decide (c.get (F.ISO_CFG_EN c.i) = 1) && (decide (2 ≤ c.i) || flag s (F.PORT_CFG_FD_EN c.i))
      state := fun c s => decide (c.get (F.ISO_CFG_EN c.i) = 1) && decide (c.i < 2) && flag s (F.ISO_CFG_EN (1 - c.i))
      effect := fun c s =>
        if !c.changes (F.ISO_CFG_EN c.i) then s
        else if c.get (F.ISO_CFG_EN c.i) = 1 then isoOn c.i s else isoOff c.i s }
/-- ISO_NAME_LO and ISO_NAME_HI hold still while EN is 1. -/
def ruleName : RegRule := { plainRule with state := fun c s => flag s (F.ISO_CFG_EN c.i) }

/-- Whether object o of port p has a send request pending (R497). -/
def sendPending (s : State) (p o : Nat) : Bool := flag s (F.OBJ_CTRL_SEND_REQ p o)
/-- OBJ_CFGp_o (R489, R497). -/
def ruleObjCfg : RegRule :=
  { plainRule with
      value := fun c _ => decide (c.get (F.OBJ_CFG_DIR c.i c.j) = 1) &&
        !lenAllowed (c.get (F.OBJ_CFG_FORMAT c.i c.j)) (c.get (F.OBJ_CFG_LEN c.i c.j)) false
      state := fun c s => sendPending s c.i c.j }
/-- OBJ_IDp_o (R497). -/
def ruleObjId : RegRule := { plainRule with state := fun c s => sendPending s c.i c.j }
/-- OBJ_DATAp_o_i (R496, R497): a receive object's data is the hardware's. -/
def ruleObjData : RegRule :=
  { plainRule with state := fun c s => sendPending s c.i c.j || !flag s (F.OBJ_CFG_DIR c.i c.j) }
/-- OBJ_CTRLp_o (R497). -/
def ruleObjCtrl : RegRule :=
  { plainRule with
      effect := fun c s =>
        let s := onCmd c (F.OBJ_CTRL_SEND_REQ c.i c.j) (sendReq c.i c.j) s
        onCmd c (F.OBJ_CTRL_TX_ABORT c.i c.j) (txAbort c.i c.j) s }

/-- The rules of the bus ports. -/
def rulesBus (b : Nat) : RegRule :=
  if b = Reg.PORT_CTRL.base then rulePortCtrl
  else if b = Reg.PORT_CFG.base then rulePortCfg
  else if b = Reg.PORT_NBT.base then ruleNbt
  else if b = Reg.PORT_DBT.base then ruleDbt
  else if b = Reg.PORT_XBT.base then ruleXbt
  else if b = Reg.PORT_TDC.base then ruleTdc
  else if b = Reg.WAKE_CFG.base ∨ b = Reg.WAKE_ID.base ∨ b = Reg.WAKE_IDMASK.base ∨ b = Reg.WAKE_DMASK_LO.base ∨ b = Reg.WAKE_DMASK_HI.base then ruleWake
  else if b = Reg.ISO_CFG.base then ruleIso
  else if b = Reg.ISO_NAME_LO.base ∨ b = Reg.ISO_NAME_HI.base then ruleName
  else if b = Reg.OBJ_CFG.base then ruleObjCfg
  else if b = Reg.OBJ_ID.base then ruleObjId
  else if b = Reg.OBJ_DATA.base then ruleObjData
  else if b = Reg.OBJ_CTRL.base then ruleObjCtrl
  else plainRule

end Sys2Proof.Machine
end

