-- ==== Sys2Proof/Machine/Maps.lean ====
section
/-! DEFINITION. Staging, checking and activation of the model and maps, and the field commands
(R247 to R249, R272 to R281, R611). -/
namespace Sys2Proof.Machine

/-- Whether item i is staged. -/
def isStaged (s : State) (i : Nat) : Bool := decide (fget s F.MAP_STAT_STAGED / 2 ^ i % 2 = 1)
/-- Whether a gather still reads a snapshot older than the last activation (R280). -/
def retainedNow (s : State) : Bool :=
  s.maps.retained.isSome &&
    (List.range 128).any (fun g => gRunning s g && decide ((gatherOf s g).snapTick < s.maps.actAt))

/-- The copies that would be active after an activation (R278). -/
def candidate (s : State) : MapSet :=
  let a := s.maps.active
  let t := s.maps.staged
  let m := if isStaged s 0 then { a with model := t.model } else a
  let m := if isStaged s 1 then { m with rasE := t.rasE, rasN := t.rasN, rasDim := t.rasDim, rasCfg := t.rasCfg, cells := t.cells } else m
  let m := if isStaged s 2 then { m with rates := t.rates } else m
  let m := if isStaged s 3 then { m with descs := t.descs, polyCfg := t.polyCfg } else m
  let m := if isStaged s 4 then { m with verts := t.verts, polyCfg := t.polyCfg } else m
  if isStaged s 5 then { m with field := t.field } else m

/-- The columns and rows of a raster. -/
def rasterCells (m : MapSet) : Nat := bitsOf m.rasDim 13 0 * bitsOf m.rasDim 29 16
/-- The length of item i in words (R276). -/
def itemLength (m : MapSet) : Nat → Nat
  | 0 => 2112
  | 1 => (rasterCells m + 3) / 4
  | 2 => 1024
  | 3 => 256
  | 4 => 2 * bitsOf m.polyCfg 30 16
  | _ => 0
/-- Word k of item i. -/
def itemWord (m : MapSet) (i k : Nat) : Word :=
  match i with
  | 0 => modelWord m k
  | 1 => tabGet (fun _ => 0) m.cells k
  | 2 => tabGet (fun _ => 0) m.rates k
  | 3 => tabGet (fun _ => 0) m.descs k
  | 4 => tabGet (fun _ => 0) m.verts k
  | _ => 0
/-- Replace word k of item i. -/
def setItemWord (i k : Nat) (v : Word) (m : MapSet) : MapSet :=
  match i with
  | 0 => { m with model := tabSet (fun i => if i = 1 then 1 else 0) m.model k v }
  | 1 => { m with cells := tabSet (fun _ => 0) m.cells k v }
  | 2 => { m with rates := tabSet (fun _ => 0) m.rates k v }
  | 3 => { m with descs := tabSet (fun _ => 0) m.descs k v }
  | 4 => { m with verts := tabSet (fun _ => 0) m.verts k v }
  | _ => m

/-- A word read through MAP_WIN (R276): beyond the item's length it is zero. -/
def mapRead (s : State) (i k : Nat) : Word :=
  let m := candidate s
  if k < itemLength m i then itemWord m i k else 0

/-- The free cells of the raster store (R274). -/
def freeCells (s : State) : Nat :=
  let r := match s.maps.retained with
    | some m => if retainedNow s && m.cells != s.maps.active.cells then rasterCells m else 0
    | none => 0
  4194304 - rasterCells s.maps.active - r

/-- Whether staging writes are refused (R277, R278). -/
def stagingRefused (s : State) : Bool :=
  flag s F.MAP_STAT_ACT_PEND || retainedNow s || flag s F.MAP_STAT_CHECK_BUSY

/-- Start the staged copy of item i unless it has one (R277). -/
def startItem (i : Nat) (s : State) : State :=
  if isStaged s i then s
  else
    let a := s.maps.active
    let t := s.maps.staged
    let poly := if isStaged s 3 || isStaged s 4 then t.polyCfg else a.polyCfg
    let t := match i with
      | 0 => { t with model := a.model }
      | 1 => { t with rasE := a.rasE, rasN := a.rasN, rasDim := a.rasDim, rasCfg := a.rasCfg, cells := [] }
      | 2 => { t with rates := a.rates }
      | 3 => { t with descs := a.descs, polyCfg := poly }
      | 4 => { t with verts := a.verts, polyCfg := poly }
      | _ => t
    fset { s with maps := { s.maps with staged := t } } F.MAP_STAT_STAGED (fget s F.MAP_STAT_STAGED + 2 ^ i)

/-- A staging write clears the result of the last CHECK (R277). -/
def stageItem (i : Nat) (f : MapSet → MapSet) (s : State) : State :=
  let s := startItem i s
  let s := { s with maps := { s.maps with staged := f s.maps.staged } }
  fset (fset s F.MAP_STAT_RESULT 0) F.MAP_STAT_ENTRY 0

/-- A write of word k of item i (R276). -/
def mapWrite (i k : Nat) (v : Word) (s : State) : State := stageItem i (setItemWord i k v) s

/-- Discard every staged item (R277). -/
def mapClear (s : State) : State :=
  fset (fset (fset s F.MAP_STAT_STAGED 0) F.MAP_STAT_RESULT 0) F.MAP_STAT_ENTRY 0

/-- The first number of a list with a property. -/
def firstOf (l : List Nat) (p : Nat → Bool) : Option Nat := l.find? p

/-- The bits of model word i that must be zero (R256). -/
def modelZeroMask (i : Nat) : Nat :=
  if i = 1 then 0xFFFFFFF8
  else if i = 2 then 0xFFFFFF88
  else if i = 3 ∨ (10 ≤ i ∧ i < 16) ∨ (40 ≤ i ∧ i < 64) then 0xFFFFFFFF
  else if i = 16 ∨ i = 24 ∨ i = 32 then 0x7FE0FCFC
  else if 64 ≤ i ∧ i % 4 = 3 then 0x7FFFFF0C
  else 0

/-- Whether word i of a model fails result 0x2 (R278). DEDUCED, log entry 37. -/
def modelWordBad (m : MapSet) (i : Nat) : Bool :=
  let w := modelWord m i
  let h (k : Nat) : Int := (modelWord m k).toInt
  (w.toNat &&& modelZeroMask i) != 0 ||
    match i with
    | 1 => decide (bitsOf w 2 0 = 0) || decide (4 < bitsOf w 2 0)
    | 2 => decide (5 < bitsOf w 2 0) || decide (5 < bitsOf w 6 4) || decide (bitsOf w 2 0 / 2 = bitsOf w 6 4 / 2)
    | 4 => decide ((h 4 - h 7) ^ 2 + (h 5 - h 8) ^ 2 < 250000)
    | _ => false

/-- Whether joint k fails result 0x3 (R278). -/
def jointBad (m : MapSet) (k : Nat) : Bool :=
  let b := 16 + 8 * (k - 1)
  let w := modelWord m b
  let bodies := bitsOf (modelWord m 1) 2 0
  let n := bitsOf w 20 16
  if k < bodies then
    !w.msb || decide (k ≤ bitsOf w 1 0) ||
      (match bitsOf w 9 8 with
       | 0 => false
       | 3 => decide (16 ≤ n)
       | _ => decide (24 ≤ n)) ||
      decide (3141593 < (modelWord m (b + 7)).toNat)
  else w.msb

/-- Whether output entry e fails result 0x4 (R278). -/
def entryBad (m : MapSet) (e : Nat) : Bool :=
  match outEntry m e with
  | none => false
  | some o => decide (bitsOf (modelWord m 1) 2 0 ≤ o.body) || decide (o.width = 0)

/-- The vertex range of polygon p, if it is one (R275). -/
def polyRange (m : MapSet) (p : Nat) : Option (Nat × Nat) :=
  let d := tabGet (fun _ => 0) m.descs p
  if p < bitsOf m.polyCfg 8 0 ∧ d.msb then some (bitsOf d 13 0, bitsOf d 30 16) else none

/-- Whether polygon p fails result 0x7 (R278). -/
def polyFormBad (m : MapSet) (p : Nat) : Bool :=
  match polyRange m p with
  | none => false
  | some (a, n) =>
    decide (n < 3) || decide (bitsOf m.polyCfg 30 16 < a + n) ||
      (List.range 256).any (fun q => q != p && match polyRange m q with
        | none => false
        | some (b, k) => decide (a < b + k) && decide (b < a + n))

/-- The sign of a turn. -/
def turn (a b c : Int × Int) : Int := ((b.1 - a.1) * (c.2 - a.2) - (b.2 - a.2) * (c.1 - a.1)).sign
/-- Whether point c lies on the segment ab. -/
def onSegment (a b c : Int × Int) : Bool :=
  decide (turn a b c = 0) && decide (min a.1 b.1 ≤ c.1) && decide (c.1 ≤ max a.1 b.1) &&
    decide (min a.2 b.2 ≤ c.2) && decide (c.2 ≤ max a.2 b.2)
/-- Whether two segments cross or touch. -/
def segsMeet (a b c d : Int × Int) : Bool :=
  (decide (turn a b c * turn a b d < 0) && decide (turn c d a * turn c d b < 0)) ||
    onSegment a b c || onSegment a b d || onSegment c d a || onSegment c d b

/-- Whether edges i and j of a polygon cross or touch beyond a vertex that neighbours share (R275). -/
def edgesMeet (es : List ((Int × Int) × (Int × Int))) (i j : Nat) : Bool :=
  match es[i]?, es[j]? with
  | some (a, b), some (c, d) =>
    if j = i + 1 then onSegment a b d || onSegment c d a
    else if i = 0 ∧ j + 1 = es.length then onSegment a b c || onSegment c d b
    else segsMeet a b c d
  | _, _ => false

/-- Whether polygon p fails result 0x8 (R278). -/
def polyEdgesBad (m : MapSet) (p : Nat) : Bool :=
  match (polygons m).find? (fun q => q.1 == p) with
  | none => false
  | some (_, vs) =>
    let es := edges vs
    (List.range es.length).any (fun j => (List.range j).any (fun i => edgesMeet es i j))

/-- Whether result 0x9 applies (R278). -/
def fieldBad (s : State) (m : MapSet) : Bool :=
  let ok := match m.field with
    | none => false
    | some f => flag s (F.FIELD_CFG_VALID f)
  let ras := decide (0 < rasterCells m)
  let pol := decide (0 < bitsOf m.polyCfg 8 0)
  (isStaged s 5 && !ok) || ((ras || pol) && !ok) ||
    (ras && decide (m.field ≠ some (bitsOf m.rasCfg 11 8))) || (pol && decide (m.field ≠ some (bitsOf m.polyCfg 15 12)))

/-- The result of a map CHECK with its entry (R278). -/
def mapCheck (s : State) : Nat × Nat :=
  let m := candidate s
  let cell := bitsOf m.rasCfg 5 0
  let nx := bitsOf m.rasDim 13 0
  let ny := bitsOf m.rasDim 29 16
  let rasBad := decide (cell < 5) || decide (40 < cell) || decide (nx = 0) || decide (8192 < nx) || decide (ny = 0) ||
    decide (8192 < ny) || decide (freeCells s < nx * ny)
  let tests : List (Nat × Bool × List Nat × (Nat → Bool)) :=
    [(2, isStaged s 0, List.range 2112, modelWordBad m), (3, isStaged s 0, [1, 2, 3], jointBad m),
     (4, isStaged s 0, List.range 512, entryBad m), (5, isStaged s 1, [0], fun _ => rasBad),
     (6, isStaged s 2, List.range 1024, fun i => bitsOf (itemWord m 2 i) 31 24 != 0),
     (7, isStaged s 3 || isStaged s 4, List.range 256, polyFormBad m),
     (8, isStaged s 3 || isStaged s 4, List.range 256, polyEdgesBad m), (9, true, [0], fun _ => fieldBad s m)]
  match tests.findSome? (fun t => if t.2.1 then (firstOf t.2.2.1 t.2.2.2).map (fun e => (t.1, e)) else none) with
  | some r => r
  | none => (1, 0)

/-- CHECK starts (R278). -/
def startMapCheck (s : State) : State :=
  fset { s with maps := { s.maps with checkDue := some (s.mtime + 2500 * ms) } } F.MAP_STAT_CHECK_BUSY 1

/-- The CRC of item i over its length (R278). -/
def itemCrc (m : MapSet) (i : Nat) : Word := crc32c (wordsLe ((List.range (itemLength m i)).map (itemWord m i)))

/-- MAP_CHECK_DONE (R278). -/
def mapCheckDone (s : State) : State :=
  match s.maps.checkDue with
  | none => s
  | some _ =>
    let r := mapCheck s
    let m := candidate s
    let s := forAll (fun i s => if isStaged s i then wr s (A.MAP_CRC i) (itemCrc m i) else s) [0, 1, 2, 3, 4] s
    let s := { s with maps := { s.maps with checkDue := none } }
    fset (fset (fset s F.MAP_STAT_RESULT r.1) F.MAP_STAT_ENTRY r.2) F.MAP_STAT_CHECK_BUSY 0

/-- MAP_CHECK_DONE (R278). -/
def execMapCheckDone (s : State) : Outcome := live mapCheckDone s

/-- ACT_NOW or ACT_ARM waits for its tick (R279). -/
def pendActivation (t : Nat) (s : State) : State :=
  fset { s with maps := { s.maps with pendAt := some t } } F.MAP_STAT_ACT_PEND 1
/-- The MTIME of MAP_ACT. -/
def mapActTime (s : State) : Nat := fget s F.MAP_ACT_LO_TIME + 2 ^ 32 * fget s F.MAP_ACT_HI_TIME
/-- ACT_CANCEL (R279). -/
def cancelActivation (s : State) : State :=
  fset { s with maps := { s.maps with pendAt := none } } F.MAP_STAT_ACT_PEND 0

/-- The active field changes at MTIME t (R250). -/
def setActiveField (t : Nat) (f : Option Nat) (s : State) : State :=
  let s := fset (fbool s F.MAP_FIELD_ACT_VALID f.isSome) F.MAP_FIELD_ACTIVE (f.getD 0)
  let s := forAll (fun k s => fbool s (F.FIELD_CFG_ACTIVE k) (f == some k)) (List.range 16) s
  { s with marker := { s.marker with fields := (t, f) :: s.marker.fields } }

/-- An activation at the tick t (R280): every staged item becomes active at once, the superseded copies
are retained, the model and the field selection are stored, a record holds the CRCs. With nothing staged it supersedes
no copy, and those that are retained stay. DEDUCED, log entry 113. -/
def activateMaps (t : Nat) (s : State) : State :=
  let new := candidate s
  let old := s.maps.active
  let items := (List.range 5).filter (isStaged s)
  let sel := isStaged s 5
  let moved := decide (fget s F.MAP_STAT_STAGED ≠ 0)
  let s := { s with
    maps := { s.maps with
      active := new
      retained := if moved then some old else s.maps.retained
      actAt := if moved then t else s.maps.actAt
      pendAt := none
      retField := if sel then old.field.map (fun f => (f, t)) else s.maps.retField }
    nv := { s.nv with model := new.model, fieldSel := match new.field with
      | none => 0
      | some f => f + 1 } }
  let s := onlyIf sel (setActiveField t new.field) s
  let s := fset (fset s F.MAP_STAT_ACT_PEND 0) F.MAP_STAT_STAGED 0
  raise 2 13 2 .mapActivated (items.map (fun i => ((rd s (A.MAP_CRC i)).toNat : Int))) s

/-- Whether an activation takes effect at a tick: one waits for it (R279), and the engine does not stand in reset (R281). -/
def mapActDue (t : Nat) (s : State) : Bool :=
  match s.maps.pendAt with
  | none => false
  | some u => decide (u ≤ t) && flag s F.MAP_STAT_ACT_PEND && !(s.start.engineAt.isSome || s.start.engineHeld)
/-- Activate at the tick t if an activation takes effect at it (R279, R281). -/
def activateDue (t : Nat) (s : State) : State := if mapActDue t s then activateMaps t (atTime t s) else s

/-- Whether the directory entries from b on, n of them, are free for field f (R247). -/
def dirFree (s : State) (f b n : Nat) : Bool :=
  decide (b + n ≤ 262144) && (List.range 16).all (fun k =>
    k == f || !(flag s (F.FIELD_CFG_VALID k) || flag s (F.FIELD_STAT_BUSY k)) ||
      (let c := fget s (F.FIELD_STAT_DIR_BASE k)
       decide (b + n ≤ c) || decide (c + dirCount s k ≤ b)))

/-- The first directory entries that a CREATE takes: which free run is a free value. DESIGN CHOICE, log entry 36. -/
def chooseDir (s : State) (f n : Nat) : Option Nat :=
  let c := Config.free s.freeCtr % 262144
  if dirFree s f c n then some c
  else
    let ends := (List.range 16).map (fun k => fget s (F.FIELD_STAT_DIR_BASE k) + dirCount s k)
    (0 :: ends).find? (fun b => dirFree s f b n)

/-- Whether a register of field f lies outside its range (R247). -/
def fieldRange (s : State) (f : Nat) : Bool :=
  let lat := (rd s (A.FIELD_LAT f)).toInt
  let lon := (rd s (A.FIELD_LON f)).toInt
  let ne := fget s (F.FIELD_SIZE_NE f)
  let nn := fget s (F.FIELD_SIZE_NN f)
  decide (lat < -900000000) || decide (900000000 < lat) || decide (lon < -1800000000) || decide (1800000000 < lon) ||
    decide (ne = 0) || decide (4096 < ne) || decide (nn = 0) || decide (4096 < nn)

/-- When a field command of field f ends (R249). -/
def fieldDue (s : State) (f : Nat) : Nat := s.mtime + ms + dirCount s f * (us / 10)
/-- A field command runs (R611). -/
def runField (f : Nat) (c : FieldCmd) (s : State) : State :=
  fset { s with onyx := { s.onyx with cmds := tabSet (fun _ => none) s.onyx.cmds f (some (c, fieldDue s f)) } } (F.FIELD_STAT_BUSY f) 1

/-- Whether CREATE is refused with STATE (R247). -/
def createRefused (s : State) (f : Nat) : Bool :=
  flag s (F.FIELD_CFG_VALID f) || flag s (F.FIELD_STAT_BUSY f) || (chooseDir s f (dirCount s f)).isNone
/-- CREATE (R247): entries are allocated; the record exists when the command ends. -/
def fieldCreate (f : Nat) (s : State) : State :=
  match chooseDir s f (dirCount s f) with
  | none => s
  | some b => runField f .create (fset { s with freeCtr := s.freeCtr + 1 } (F.FIELD_STAT_DIR_BASE f) b)

/-- Whether HERE is refused (R248). -/
def hereRefused (s : State) (f : Nat) : Bool :=
  flag s (F.FIELD_CFG_VALID f) || flag s (F.FIELD_STAT_BUSY f) ||
    match s.marker.poses with
    | [] => true
    | p :: _ => decide (p.quality = 0)
/-- A value in hundredths of a unit, rounded to the unit; the rounding is open (DESIGN CHOICE, log entry 8). -/
def roundHundred (x : Int) : Int :=
  x / 100 + (if x % 100 = 0 then 0 else if Config.roundUp (x % 100).toNat 100 then 1 else 0)
/-- HERE (R248). -/
def fieldHere (f : Nat) (s : State) : State :=
  match s.marker.poses with
  | [] => s
  | p :: _ =>
    wr (wr (wr s (A.FIELD_LAT f) (wordOf (roundHundred p.lat))) (A.FIELD_LON f) (wordOf (roundHundred p.lon))) (A.FIELD_HGT f) (wordOf p.hgt)

/-- Whether field f is a retained field (R249): the one before the latest activation of a field selection, while that
activation's copies are retained or the marker has not swept past it. -/
def fieldRetained (s : State) (f : Nat) : Bool :=
  match s.maps.retField with
  | none => false
  | some (g, t) => g == f && ((t == s.maps.actAt && retainedNow s) || decide (s.marker.done < t))
/-- Whether CLEAR (or DELETE) of field f is refused (R249). DEDUCED, log entry 76. -/
def clearRefused (s : State) (f : Nat) (del : Bool) : Bool :=
  let act := s.maps.active.field == some f
  let stg := isStaged s 5 && (s.maps.staged.field == some f)
  !flag s (F.FIELD_CFG_VALID f) || flag s (F.FIELD_STAT_BUSY f) ||
    (anyArmed s && (act || stg || fieldRetained s f)) || (del && (act || stg))
/-- CLEAR of a mask of layers (R249, R611): effective at once. -/
def fieldClear (f mask : Nat) (s : State) : State :=
  runField f (.clear mask) (forAll (clearLayer f) ((List.range 4).filter (fun l => decide (mask / 2 ^ l % 2 = 1) && decide (l < layerCount s f))) s)
/-- DELETE (R249, R611): effective at once; the entries stay taken until BUSY clears. -/
def fieldDelete (f : Nat) (s : State) : State :=
  runField f .delete (fset (forAll (clearLayer f) (List.range (layerCount s f)) s) (F.FIELD_CFG_VALID f) 0)

/-- FIELD_COMMAND_DONE of field f (R611). -/
def fieldCommandDone (f : Nat) (s : State) : State :=
  match tabGet (fun _ => none) s.onyx.cmds f with
  | none => s
  | some (c, _) =>
    let s := fset { s with onyx := { s.onyx with cmds := tabSet (fun _ => none) s.onyx.cmds f none } } (F.FIELD_STAT_BUSY f) 0
    match c with
    | .create => fset (forAll (clearLayer f) (List.range (layerCount s f)) s) (F.FIELD_CFG_VALID f) 1
    | _ => s

/-- FIELD_COMMAND_DONE (R611). -/
def execFieldCommandDone (f : Fin 16) (s : State) : Outcome := live (fieldCommandDone f) s
/-- TILE_FETCH of the tile at a directory index; whether its block could be read is sampled (R267, R269). -/
def execTileFetch (i : Fin 262144) (readable : Bool) (s : State) : Outcome := live (tileFetch i readable) s
/-- TILE_WRITEBACK of the tile at a directory index (R266). -/
def execTileWriteback (i : Fin 262144) (s : State) : Outcome := live (writeBack i) s
/-- MARKER_SWEEP (R303). -/
def execMarkerSweep (s : State) : Outcome := live (fun s => if s.start.engineAt.isSome || s.start.engineHeld then s else markerSweep s) s

end Sys2Proof.Machine
end

