-- ==== Sys2Proof/Machine/Recovery.lean ====
section
/-! DEFINITION. The Lehr, resets and their hold window (R202 to R204, R545 to R559). -/
namespace Sys2Proof.Machine

/-- The gathers that run: in STARTING, RUN, a wait state or REWIND. -/
def runningGathers (s : State) : List Nat := (List.range 128).filter (gRunning s)

/-- Start the hold window for the armed outputs and descriptors (R557); a running window stays. -/
def startHold (s : State) : State :=
  if s.rcv.holdEnd.isSome ∨ !anyArmed s then s
  else fset { s with rcv := { s.rcv with holdEnd := some (s.mtime + ms * fget s F.LOAD_GLOBAL_HOLD_WIN) } } F.HEALTH_HOLD_ACTIVE 1

/-- Whether a gather that output n permits runs (R558). -/
def permittedRuns (s : State) (n : Nat) : Bool :=
  (List.range 128).any (fun g => decide (fget s (F.OUT_PERMIT_GATHERS n (g / 32)) / 2 ^ (g % 32) % 2 = 1) && gRunning s g)

/-- RESET_HOLD_WINDOW_END (R558). -/
def holdWindowEnd (s : State) : State :=
  match s.rcv.holdEnd with
  | none => s
  | some t =>
    let s := fset { atTime t s with rcv := { s.rcv with holdEnd := none } } F.HEALTH_HOLD_ACTIVE 0
    let outs := (List.range 84).filter (fun n => armed s n && !permittedRuns s n)
    let rems := (List.range 428).filter (fun d => remArmed s d && !gRunning s (fget s (F.REM_GATHER_GATHER d)))
    let s := forAll disarmRem rems (forAll disarmByPosture outs s)
    if outs = [] ∧ rems = [] then s
    else raise 4 15 0 .postured [outs.length, rems.length] (fset s F.HEALTH_POSTURED 1)

/-- The queues that an engine reset flushes (R554). -/
def engineQueues : List Nat := (List.range 128).filter (fun q => decide (91 ≤ q) && decide (q ≠ 103))

/-- The queues whose producers a warm reset stops: the receive streams of the ports, and the feedback (R554). -/
def producedQueues : List Nat := [91, 92, 93, 94, 95, 96, 99, 100, 101, 102]
/-- The item that a producer holds is lost with the producer. -/
def dropHeld (q : Nat) (s : State) : State := setQueue q { queueOf s q with held := none } s

/-- What the registers of a list keep: the bits of a mask, reset values elsewhere. -/
def keepRegs (mask : Nat → Nat) (t : Tab Word) : Tab Word :=
  t.filterMap (fun p =>
    let m := BitVec.ofNat 32 (mask p.1)
    let w := (p.2 &&& m) ||| (regReset p.1 &&& ~~~m)
    if w = regReset p.1 then none else some (p.1, w))

/-- The bits of the ENG domain outside the image and nonvolatile memory that an engine reset keeps: pages, the
engine's pipes and the result of the last load, and the state of the map store (R239, R281, R554). -/
def engineKept (a : Nat) : Nat :=
  if [A.ENG_STAT, A.LOAD_STAT, A.MAP_STAT, A.MAP_ACT_LO, A.MAP_ACT_HI, A.MAP_WIN_SEL, A.MAP_FIELD].contains a then 0xFFFFFFFF
  else if A.PAGE_STATE 0 ≤ a ∧ a ≤ A.PAGE_STATE 3 ∨ A.MAP_CRC 0 ≤ a ∧ a ≤ A.MAP_CRC 4 then 0xFFFFFFFF
  else if A.FIELD_LAT 0 ≤ a ∧ a ≤ A.FIELD_STAT 15 then 0xFFFFFFFF
  else 0

/-- The bits of a register that an engine reset keeps (R11, R554): all outside the ENG domain and outside the queues. -/
def engineBits (a : Nat) : Nat :=
  match regAt a with
  | none => 0
  | some h =>
    match h.fam.dom with
    | .eng => ((h.fam.fields.filter (fun f => f.stored || f.image)).map fieldMask).sum ||| engineKept a
    | _ => 0xFFFFFFFF

/-- What an engine reset does to the engine (R11, R239, R339, R554): gathers STOPPED, loads aborted, queues cleared, the
registers of the ENG domain at their reset values but for what R554 keeps. DEDUCED, log entry 57. -/
def stopEngine (s : State) : State :=
  let s := forAll stopGather (List.range 128) (abortLoad s)
  let s := forAll dropReserved [84, 85, 86, 87, 88, 89, 90] (forAll resetQueue engineQueues s)
  { s with regs := keepRegs engineBits s.regs }

/-- An engine reset begins (R552, R554, R555, R557); the supervisor writes a record before one of its own. -/
def engineReset (cause : Nat) (s : State) : State :=
  if s.start.engineAt.isSome ∨ s.start.warmAt.isSome ∨ s.start.engineHeld then s
  else
    let s := if cause = 1 then s else raise 7 15 0 .engineReset [cause] s
    let s := fsat (fset (fset s F.RESET_STAT_KIND 1) F.RESET_STAT_CAUSE cause) F.RESET_CNT_ENGINE 1
    let run := runningGathers s
    startHold { stopEngine s with start := { s.start with engineAt := some s.mtime, restart := run } }

/-- Restart the gathers that ran (R555): one that R221 refuses stays STOPPED and is named. -/
def restartGathers (s : State) : State :=
  let gs := s.start.restart
  forAll (fun g s => if startRefused s g then raise 4 15 2 .startRefused [g] s else startGather g s) gs
    { s with start := { s.start with restart := [] } }

/-- ENGINE_RESET_END (R555). -/
def engineResetEnd (s : State) : State :=
  match s.start.engineAt with
  | none => s
  | some t =>
    let s := atTime (t + 20 * ms) s
    let s := restartGathers { s with start := { s.start with engineAt := none } }
    runQueued F.RESET_CTRL_ENGINE (engineReset 1) s

/-- The engine is held in reset with fewer than three pipes (R204). -/
def holdEngine (s : State) : State :=
  if s.start.engineHeld then s
  else
    let s := engineReset 5 s
    raise 6 12 0 .engineHeld [fget s F.ENG_STAT_PIPE_MAP] { s with start := { s.start with engineHeld := true, engineAt := none, restart := [] } }

/-- Pipe k fails (R203, R204): the spare takes its place, or the engine runs on fewer. -/
def pipeFail (k : Nat) (s : State) : State :=
  let m := fget s F.ENG_STAT_PIPE_MAP
  if flag s F.ENG_STAT_SPARE_USED then
    if m / 2 ^ k % 2 = 0 then s
    else
      let s := fset (fset s F.ENG_STAT_PIPE_MAP (m - 2 ^ k)) F.ENG_STAT_PIPES (fget s F.ENG_STAT_PIPES - 1)
      if fget s F.ENG_STAT_PIPES < 3 then holdEngine s else s
  else
    let m := if m / 2 ^ k % 2 = 1 then m - 2 ^ k else m
    let spare := if k = 4 then m else m + 16
    cullet 0 (fset (fset s F.ENG_STAT_PIPE_MAP spare) F.ENG_STAT_SPARE_USED 1)

/-- The repair of a hard fault (R548, R560): a pipe, or a row of a memory. -/
def repair (e : HwError) (percent : Nat) (s : State) : State :=
  match e with
  | .residue k => pipeFail k s
  | _ =>
    let s := fset s F.SPARE_ROWS_PERCENT (max (fget s F.SPARE_ROWS_PERCENT) (min percent 100))
    onlyIf (decide (50 < percent)) (cullet 1) s

/-- The cause in a record, with its pipe or lane (R547). -/
def HwError.vals : HwError → List Int
  | .residue k => [0, k.val]
  | .ecc => [1, 0]
  | .parity l => [2, l.val]

/-- GATHER_REWIND (R216, R545 to R549): the gather meets an error, and what it read is rebuilt; whether a hard fault of it can be repaired, and
the highest share of spare rows in use after a repair. -/
def gatherRewind (g : Nat) (e : HwError) (repairable : Bool) (percent : Nat) (s : State) : State :=
  if !gRunning s g then s
  else
    let pc := (gatherOf s g).cur.pc
    let s := { s with rcv := { s.rcv with eccWords := s.rcv.eccWords.filter (fun w => !(w.2.2.2 && (w.1 == 0 || (w.1 == 1 && w.2.1 == g)))) } }
    let row := (gatherOf s g).row + 1
    let s := restoreGather g s
    let s := setGather g { gatherOf s g with phase := .rewind, row := row } s
    let s := fsat (fsat s (F.G_REWIND_COUNT g) 1) F.LEHR_CNT_REWINDS 1
    let s := raise 2 15 2 .rewind ([(g : Int), pc] ++ e.vals) s
    if row < 3 then s
    else if repairable then
      let s := raise 5 15 2 .hardFault ([(g : Int), pc] ++ e.vals) (repair e percent s)
      setGather g { gatherOf s g with row := 0 } s
    else raise 6 15 2 .hardwareFault [g, pc] (enterFault g 8 pc (progWord s pc) s)

/-- REWIND_COMPLETE (R226, R547): back to RUN, or to the wait that the committed EPOCH began. A gather that waits for
the tick is woken at the next one, as a slow gather is; ticks that passed count as missed (R29, R218). -/
def rewindComplete (g : Nat) (s : State) : State :=
  let x := gatherOf s g
  if x.phase ≠ .rewind then s
  else match x.waiting with
    | .none => setPhase' g .run s
    | .tick => countMissed g (setPhase' g .waitTick s)
    | .time _ => setPhase' g .waitTime s
    | .queue _ => setPhase' g .waitQueue s

/-- MEMORY_SCRUB (R545, R609): single-bit errors found in ENG-domain memories, injected ones among them. DEDUCED, log entry 60. -/
def memoryScrub (found : Nat) (s : State) : State :=
  let n := (s.rcv.eccWords.filter (fun w => !w.2.2.2)).length
  fsat { s with rcv := { s.rcv with eccWords := s.rcv.eccWords.filter (fun w => w.2.2.2) } } F.LEHR_CNT_CORRECTED (found + n)

/-- Serve every event that waits and write every entry of Q103, by at most n commands each. -/
def drainAgate : Nat → State → State
  | 0, s => s
  | n + 1, s => drainAgate n (recordWrite (acceptEvent s))
/-- Write out the recorder (R42, R554). DEDUCED, log entry 66. -/
def writeOutAgate (s : State) : State := drainAgate (2 * (s.agate.waiting.length + s.agate.q103.length) + 2) s

/-- The bits of a register that a power cycle keeps: stored and no part of the image. -/
def storedBits (a : Nat) : Nat :=
  match regAt a with
  | some h => ((h.fam.fields.filter (fun f => f.stored && !f.image)).map fieldMask).sum
  | none => 0

/-- The registers that the standby controller goes on using: STBY_CFG and the wake conditions (R586). DEDUCED, log entry 68. -/
def standbyBits (a : Nat) : Nat :=
  if a = A.STBY_CFG ∨ (List.range 6).any (fun p => decide (A.WAKE_CFG p ≤ a) && decide (a ≤ A.WAKE_DMASK_HI p)) then 0xFFFFFFFF else 0

/-- The staging copy of the hash takes eight words. -/
def stageHash (ws : List Word) (s : State) : State :=
  forAll (fun k s => wr s (A.OEM_KEY_HASH k) (ws.getD k 0)) (List.range 8) s
/-- The loss of the volatile staging copy: all eight words of a running commit are stored or none, which of them is a
free value (R96). The copy then starts from the stored words, which are zero before a commit. DESIGN CHOICE, log entry 67. -/
def settleHash (s : State) : State :=
  let cut := s.acc.commitDone.isSome && !flag s F.OEM_KEY_CTRL_LOCKED
  let took := cut && decide (Config.free s.freeCtr % 2 = 1)
  let s := if took then fset { s with nv := { s.nv with oemHash := s.acc.oemStored } } F.OEM_KEY_CTRL_LOCKED 1 else s
  fset (stageHash s.nv.oemHash { s with freeCtr := s.freeCtr + (if cut then 1 else 0) }) F.OEM_KEY_CTRL_BUSY 0

/-- The Askat with its logic unpowered: what nonvolatile memory and the standby controller hold (R554, R559). -/
def unpowered (s : State) : State :=
  let s := settleHash s
  { State.reset with
    regs := keepRegs (fun a => if latencyAddrs.contains a then 0 else storedBits a ||| standbyBits a) s.regs
    freeCtr := s.freeCtr
    pending := s.pending
    sup := { s.sup with power := .off, optBase := optNow s, foldA := none, foldB := none, sns5Fold := false, snsPwrFold := false, groundLost := false }
    agate := { State.reset.agate with store := s.agate.store, nextSeq := s.agate.nextSeq, severe := s.agate.severe }
    nv := s.nv
    stage := { State.reset.stage with generation := s.nv.generation }
    onyx := { s.onyx with cache := [] }
    nav := s.nav.stored
    rcv := { s.rcv with holdEnd := none, eccWords := [] } }

/-- Power-on reset begins from a supply (R575): cause of the start, kind of start, cause of the reset. It clears the Onyx
SRAM, so every dirty tile is written back before (R267). -/
def coldReset (pw : Power) (wake port cause : Nat) (s : State) : State :=
  let s := unpowered (flushTiles s)
  let s := { s with regs := keepRegs storedBits s.regs, sup := { s.sup with power := pw, inStandby := false, standbyEcu := false, wake := none } }
  let s := fset (fset s F.STARTUP_STAT_WAKE wake) F.STARTUP_STAT_WAKE_PORT port
  let s := fset (fset s F.STARTUP_STAT_KIND (if pw = .bench then 1 else 0)) F.STARTUP_STAT_PHASE 0
  let s := fbool s F.SUPPLY_STAT_ECU_LOW (pw == .bench)
  let s := fbool (fbool s F.SUPPLY_STAT_BENCH (pw == .bench)) F.SUPPLY_STAT_KEEP_ABSENT (!s.sup.keep)
  fset (fbool (fset s F.RESET_STAT_KIND 3) F.ENG_STAT_CLK50 (pw == .bench)) F.RESET_STAT_CAUSE cause

/-- The bits outside the image and nonvolatile memory that a warm reset keeps in the SYS and ENG domains
(DEDUCED, log entry 20). -/
def warmKept (a : Nat) : Nat :=
  let all : Nat := 0xFFFFFFFF
  if 0x54000 ≤ a ∧ a < 0x5A000 then all
  else if a = A.SUPPLY_STAT then 0xFF021B
  else if [A.SUPPLY_VOLT, A.BASE_TEMP, A.RESET_STAT, A.LOCKSTEP_CNT, A.AGATE_STAT, A.AGATE_SUPP, A.AGATE_TORN, A.ENG_STAT, A.LOAD_STAT].contains a then all
  else if A.PAGE_STATE 0 ≤ a ∧ a ≤ A.PAGE_STATE 3 then all
  else if a = A.HEALTH then 0x9
  else if a = A.STARTUP_STAT then 0x400
  else if a = A.MAP_FIELD then 0x010F0000
  else if A.FIELD_CFG 0 ≤ a ∧ a ≤ A.FIELD_CFG 15 ∧ (a - A.FIELD_CFG 0) % 0x20 = 0 then 0x40000000
  else if A.FIELD_STAT 0 ≤ a ∧ a ≤ A.FIELD_STAT 15 ∧ (a - A.FIELD_STAT 0) % 0x20 = 0 then 0x80000000
  else 0

/-- The bits of a register that a warm reset keeps (R554): everything outside the domains it resets. -/
def warmBits (a : Nat) : Nat :=
  match regAt a with
  | none => 0
  | some h =>
    let base := ((h.fam.fields.filter (fun f => f.stored || f.image)).map fieldMask).sum
    match h.fam.dom with
    | .sys | .eng => base ||| warmKept a
    | .bus | .fbk => base
    | _ => 0xFFFFFFFF

/-- Every perturbation ends (R608). -/
def jasperFields : List Fld := queueFields ++ otherFields ++
  (List.range 6).map F.JAS_BUS_BIT ++ [F.JAS_CTRL_ARMED_OK, F.JAS_ECC_ADDR_MEM, F.JAS_ECC_ADDR_GATHER, F.JAS_ECC_ADDR_ADDR, F.JAS_ECC_CTRL_DOUBLE]
/-- Every Jasper field returns to zero (R608). -/
def clearJasper (s : State) : State :=
  let s := forAll (fun f s => fset s f 0) jasperFields s
  { s with svc := { s.svc with jasEnd := none, oneshot := [] } }

/-- The settings of a meter check return to their values before it (R602). -/
def endMeter (s : State) : State :=
  let s := forAll (fun p s => wr s p.1 p.2) s.svc.meterSave s
  let held := s.svc.meterHeld
  let s := { s with svc := { s.svc with meterEnd := none, meterSave := [], meterHeld := none } }
  let s := fset (fset (fset s F.SVC_STAT_METER_ACTIVE 0) F.SVC_METER_CHECK 0) F.SVC_METER_VAL_FED 0
  match held with | some n => settle n s.mtime s | none => s

/-- A warm reset begins (R552, R554, R592): the recorder is written out, the SYS and ENG domains are reset, the
output stage, the tick generator, the receiver and the time unit run on. -/
def warmReset (cause : Nat) (s : State) : State :=
  let s := if 2 ≤ cause ∧ cause ≤ 3 then raise 7 15 0 .resetOrdered [cause] s else s
  let s := fsat (fset (fset s F.RESET_STAT_KIND 2) F.RESET_STAT_CAUSE cause) F.RESET_CNT_WARM 1
  let s := settleHash (endMeter (clearJasper (writeOutAgate s)))
  let run := if s.start.engineAt.isSome ∨ s.start.warmAt.isSome then s.start.restart else runningGathers s
  let s := forAll dropHeld producedQueues (forAll resetQueue [85, 86, 87, 88, 89, 90] (stopEngine s))
  let s := abortSnap (startHold s)
  let s := { s with
    regs := keepRegs warmBits s.regs
    own := State.reset.own
    acc := State.reset.acc
    stage := { s.stage with staged := [], checkDone := none }
    fleet := State.reset.fleet
    svc := State.reset.svc
    ports := []
    agate := { s.agate with sel := none }
    maps := { s.maps with staged := MapSet.init, pendAt := none, checkDue := none }
    start := { s.start with warmAt := some s.mtime, engineAt := none, restart := run, electionOver := false, halted := false } }
  let s := feedbackWarm s
  let s := fset (fset s F.SVC_STAT_TEST_BUSY 0) F.SVC_TEST_BUSY 0
  fset (fset s F.STARTUP_STAT_KIND 2) F.STARTUP_STAT_PHASE 1

/-- WARM_RESET_RELEASE (R555, R592). -/
def warmRelease (s : State) : State :=
  match s.start.warmAt with
  | none => s
  | some t =>
    let s := atTime (t + 1150 * ms) s
    restartGathers { s with start := { s.start with warmAt := none } }

/-- The timeouts of ownership and of the bus session have paused for d (R553). -/
def pauseTimeouts (d : Nat) (s : State) : State :=
  let o := s.own
  { s with own := { o with hbDeadline := o.hbDeadline + d, hoDeadline := o.hoDeadline + d, electionEnd := o.electionEnd + d },
           acc := { s.acc with sessionDeadline := s.acc.sessionDeadline + d } }

/-- SUPERVISOR_RESTART (R553, R560): a mismatch during a restart begins it again. DEDUCED, log entry 124. -/
def supervisorRestart (s : State) : State :=
  let s := match s.start.supervisorAt with | some t => pauseTimeouts (s.mtime - t) s | none => s
  let day := 24 * 3600 * 100
  let ts := optNow s :: s.rcv.lockstepTimes.filter (fun t => decide (optNow s < t + day))
  let s := { s with rcv := { s.rcv with lockstepTimes := ts }, start := { s.start with supervisorAt := some s.mtime } }
  let s := fset (fsat s F.LOCKSTEP_CNT_TOTAL 1) F.LOCKSTEP_CNT_DAY (min ts.length 65535)
  let s := raise 3 15 0 .supervisorRestart [ts.length] s
  onlyIf (decide (3 < ts.length)) (cullet 5) s

/-- SUPERVISOR_RESTART_END (R553): the timeouts of ownership and of the bus session resume. -/
def supervisorRestartEnd (s : State) : State :=
  match s.start.supervisorAt with
  | none => s
  | some t =>
    pauseTimeouts (5 * ms) (atTime (t + 5 * ms) { s with start := { s.start with supervisorAt := none } })

/-- TMR_MISMATCH (R551): one copy is voted down, or an unrecoverable fault causes a cold reset with cause 9. -/
def tmrMismatch (fatal : Bool) (s : State) : State :=
  if fatal then
    let s := writeOutAgate (raise 7 15 0 .votedLost [] s)
    coldReset s.sup.power (fget s F.STARTUP_STAT_WAKE) (fget s F.STARTUP_STAT_WAKE_PORT) 9 s
  else fsat s F.LEHR_CNT_VOTED 1

/-- OPERATING_TIME_STORE (R560): a failed write is cullet cause 6. -/
def optStore (ok : Bool) (s : State) : State := if ok then s else cullet 6 s

end Sys2Proof.Machine
end

