-- ==== Sys2Proof/Machine/Supply.lean ====
section
/-! DEFINITION. Supplies, supply loss and standby (R41, R42, R51 to R59, R74 to R77, R585 to R590). -/
namespace Sys2Proof.Machine

/-- A record of the supplies. -/
def supplyRecord (sev : Nat) (k : EvKind) (vals : List Int) (s : State) : State := raise sev 15 4 k vals s

/-- The logic powers down: standby where BATT_KEEP is present, entered with ECU_PWR present or not (R585). -/
def powerDown (ecu : Bool) (s : State) : State :=
  let s := unpowered s
  { s with sup := { s.sup with inStandby := s.sup.keep, standbyEcu := ecu, wake := none } }

/-- Every output goes off and every descriptor is disarmed, with no frame sent (R42, R559, R578). -/
def everythingOff (s : State) : State :=
  let s := forAll disarmOut ((List.range 84).filter (armed s)) s
  forAll (fun d s => fset s (F.REM_CTRL_ARMED d) 0) ((List.range 428).filter (remArmed s)) (allOff s)

/-- SUPPLY_LOSS (R42, R59, R539): the steps of R42, then bench-alive where SVC_VBUS is present, else the end of
the logic's power. A running flood ends without a summary; its total stands in the record. -/
def supplyLoss (vbus : Bool) (s : State) : State :=
  if s.sup.power ≠ .normal then s
  else if phase s = 0 ∧ s.start.warmAt.isNone then powerDown false s
  else
    let s := markUpTo s.mtime (everythingOff s)
    let s := flushTiles s
    let total := match s.agate.flood with | some f => floodTotal f | none => 0
    let s := writeOutAgate (setAgate { s.agate with flood := none } s)
    let s := writeOutAgate (supplyRecord 4 .supplyLoss [total] s)
    if vbus then
      let s := gnsDown { s with sup := { s.sup with power := .bench, foldA := none, foldB := none, snsPwrFold := false } }
      let s := warmReset 8 s
      fset (fset (fset s F.SUPPLY_STAT_BENCH 1) F.SUPPLY_STAT_ECU_LOW 1) F.ENG_STAT_CLK50 1
    else powerDown false s

/-- A wake source is admitted by STBY_CFG and by its port's WAKE_CFG (R587): its code and port. -/
def wakeAdmitted (s : State) : WakeCause → Option (Nat × Nat)
  | .wakeIn => if flag s F.STBY_CFG_WAKE_IN_EN then some (2, 0) else none
  | .bus p c => if (fget s F.STBY_CFG_BUS_WAKE).testBit p && wakes s p c then some (3, p) else none
  | .vbus => if flag s F.STBY_CFG_VBUS_WAKE then some (4, 0) else none
  | .ecu => some (1, 0)

/-- A start from standby with a cause: the first wake source is reported (R587, R588). -/
def startFrom (pw : Power) (c : Nat × Nat) (s : State) : State :=
  let w := s.sup.wake.getD c
  coldReset pw w.1 w.2 0 s

/-- STANDBY_WAKE (R587, R588). With ECU_PWR present a wake starts from it; a bus or WAKE_IN wake without it is
latched; SVC_VBUS alone starts bench-alive. DEDUCED, log entry 63. -/
def standbyWake (w : WakeCause) (s : State) : State :=
  if s.sup.power ≠ .off ∨ !s.sup.inStandby then s
  else match wakeAdmitted s w with
    | none => s
    | some c =>
      if c.1 = 1 ∨ s.sup.standbyEcu then startFrom .normal c s
      else if c.1 = 4 then startFrom .bench c s
      else { s with sup := { s.sup with wake := some (s.sup.wake.getD c) } }

/-- ECU_PWR_QUALIFIED (R52, R59, R587): a cold start from ECU_PWR. -/
def ecuQualified (s : State) : State :=
  if s.sup.power ≠ .off then s
  else if s.sup.inStandby then standbyWake .ecu s
  else coldReset .normal 0 0 0 s

/-- SVC_VBUS_COLD_START (R59): bench-alive from SVC_VBUS alone; in standby if SVC_VBUS may wake. -/
def vbusStart (s : State) : State :=
  if s.sup.power ≠ .off then s
  else if s.sup.inStandby then standbyWake .vbus s
  else coldReset .bench 0 0 0 s

/-- BENCH_TO_NORMAL (R59): a warm reset into normal start-up. -/
def benchToNormal (s : State) : State :=
  if s.sup.power ≠ .bench then s
  else
    let s := { s with sup := { s.sup with power := .normal } }
    fset (fset (warmReset 7 s) F.SUPPLY_STAT_BENCH 0) F.ENG_STAT_CLK50 0

/-- SVC_VBUS_LOSS (R59): in bench-alive the Askat stops. -/
def vbusLoss (s : State) : State := if s.sup.power ≠ .bench then s else powerDown false s

/-- DROPOUT_END (R53): its duration in µs and the lowest voltage seen. -/
def dropoutEnd (dur mv : Nat) (s : State) : State :=
  if s.sup.power ≠ .normal then s
  else supplyRecord 2 .dropout [dur, mv] (fsat (fset s F.SUPPLY_STAT_DROPOUT 1) F.SUPPLY_STAT_DROPOUT_CNT 1)

/-- The flag of a band of ECU_PWR (R51). -/
def bandFlag (high : Bool) : Fld := if high then F.SUPPLY_STAT_ECU_HIGH else F.SUPPLY_STAT_ECU_LOW
/-- ECU_BAND_ENTRY (R51): each entry writes a record, also one into the low band from below 8.0 V, where ECU_LOW
already stands. The band above 36 V has no entry from above. -/
def bandEntry (high : Bool) (s : State) : State :=
  if high && flag s F.SUPPLY_STAT_ECU_HIGH then s
  else supplyRecord 3 .ecuBand [if high then 1 else 0] (fset s (bandFlag high) 1)
/-- ECU_BAND_EXIT (R51). -/
def bandExit (high : Bool) (s : State) : State := fset s (bandFlag high) 0

/-- When the folded-back bias of an antenna port is tried next; none: the bias is full. -/
def folded (s : State) (a : Nat) : Option Nat := if a = 0 then s.sup.foldA else s.sup.foldB
/-- Note when the bias of an antenna port is tried next, or that it is full. -/
def setFolded (a : Nat) (b : Option Nat) (s : State) : State :=
  { s with sup := if a = 0 then { s.sup with foldA := b } else { s.sup with foldB := b } }
/-- The bias of an antenna port folds back until its next trial 1 s later (R74). -/
def foldBias (a : Nat) (s : State) : State :=
  fset (setFolded a (some (s.mtime + sec)) s) (if a = 0 then F.SUPPLY_STAT_ANT_A_FOLD else F.SUPPLY_STAT_ANT_B_FOLD) 1
/-- ANTENNA_FOLD_BACK (R74): the first fold-back of a short writes a record, so a short after a good retry writes one
again. DESIGN CHOICE, log entry 101. In bench-alive the bias is off. -/
def antennaFold (a : Nat) (s : State) : State :=
  if bench s || (folded s a).isSome then s else supplyRecord 3 .antFold [a] (foldBias a s)
/-- ANTENNA_BIAS_RETRY (R74): once every 1 s; the full bias holds once the short has cleared. -/
def biasRetry (a : Nat) (shorted : Bool) (s : State) : State :=
  match folded s a with
  | none => s
  | some t => if shorted then foldBias a (atTime t s) else setFolded a none (atTime t s)
/-- SENSOR_SUPPLY_FOLD_BACK of SNS_PWR or of SNS5 (R75): the supply folds back, or its short clears. SNS_PWR is off in
bench-alive (R57). -/
def sensorFold (pwr folded : Bool) (s : State) : State :=
  if pwr && bench s then s
  else
    let s := { s with sup := if pwr then { s.sup with snsPwrFold := folded } else { s.sup with sns5Fold := folded } }
    if !folded then s
    else
      let s := fset s (if pwr then F.SUPPLY_STAT_SNS_PWR_FAULT else F.SUPPLY_STAT_SNS5_FAULT) 1
      failPowered (if pwr then 2 else 1) (supplyRecord 3 .sensorFold [if pwr then 1 else 0] s)

/-- BASE_HOT_ENTRY (R77). -/
def baseHot (s : State) : State :=
  if flag s F.SUPPLY_STAT_BASE_HOT then s else supplyRecord 3 .baseHot [] (fset s F.SUPPLY_STAT_BASE_HOT 1)
/-- BASE_HOT_EXIT. -/
def baseCool (s : State) : State := fset s F.SUPPLY_STAT_BASE_HOT 0

/-- KEEP_ABSENT_CHANGE (R55). -/
def keepChange (absent : Bool) (s : State) : State :=
  fbool { s with sup := { s.sup with keep := !absent } } F.SUPPLY_STAT_KEEP_ABSENT absent

/-- KEEP_LOSS_IN_STANDBY (R588): with ECU_PWR present a cold start from it, else the end of standby. -/
def keepLoss (s : State) : State :=
  if s.sup.power ≠ .off ∨ !s.sup.inStandby then s
  else
    let s := { s with sup := { s.sup with keep := false } }
    if s.sup.standbyEcu then coldReset .normal 1 0 0 s
    else { s with sup := { s.sup with inStandby := false, wake := none } }

/-- The result of the SOLVE of a snapshot wake (R425, R589): the uncertainty of its time estimate in µs, and the
position found. -/
def wakeResult (s : State) (unc : Nat) (found : Bool) : Nat :=
  if !(s.nav.storedEphemeris || s.nav.storedAlmanac) then 3 else if 2000000 < unc then 4 else if found then 1 else 2

/-- SNAPSHOT_WAKE (R426, R589, R590): a wake source that comes during it aborts it with result 5 and no record. -/
def snapshotWake (unc gtime : Nat) (found : Option (Int × Int × Int × Nat)) (meet : Option WakeCause) (s : State) : State :=
  if s.sup.power ≠ .off ∨ !s.sup.inStandby ∨ fget s F.STBY_CFG_SNAP_INT = 0 then s
  else
    let s := fsat s F.STBY_STAT_SNAP_CNT 1
    match meet.filter (fun w => (wakeAdmitted s w).isSome) with
    | some w => standbyWake w (fset s F.STBY_STAT_SNAP_RES 5)
    | none =>
      let r := wakeResult s unc found.isSome
      let pos : List Int := match found with | some (a, b, c, d) => [a, b, c, d] | none => []
      storeRecord (stamp s (mkEvent 1 15 4 .snapshotDone ([(r : Int), gtime] ++ pos))) (fset s F.STBY_STAT_SNAP_RES r)

/-- ECU_PWR_QUALIFIED (R52). -/
def execEcuPwrQualified (s : State) : Outcome := done (ecuQualified s)
/-- SVC_VBUS_COLD_START (R59). -/
def execSvcVbusColdStart (s : State) : Outcome := done (vbusStart s)
/-- BENCH_TO_NORMAL (R59). -/
def execBenchToNormal (s : State) : Outcome := done (benchToNormal s)
/-- SVC_VBUS_LOSS (R59). -/
def execSvcVbusLoss (s : State) : Outcome := done (vbusLoss s)
/-- SUPPLY_LOSS, with SVC_VBUS present or not (R42, R59). -/
def execSupplyLoss (vbus : Bool) (s : State) : Outcome := done (supplyLoss vbus s)
/-- DROPOUT_END (R53). -/
def execDropoutEnd (dur : Word) (mv : BitVec 16) (s : State) : Outcome := live (dropoutEnd dur.toNat mv.toNat) s
/-- ECU_BAND_ENTRY of the high or the low band (R51). -/
def execEcuBandEntry (high : Bool) (s : State) : Outcome := live (bandEntry high) s
/-- ECU_BAND_EXIT of the high or the low band (R51). -/
def execEcuBandExit (high : Bool) (s : State) : Outcome := live (bandExit high) s
/-- WAKE_IN_RISE (R56, R587). -/
def execWakeInRise (s : State) : Outcome := done (standbyWake .wakeIn s)
/-- ANTENNA_FOLD_BACK of ANT_A or ANT_B (R74). -/
def execAntennaFoldBack (a : Fin 2) (s : State) : Outcome := live (antennaFold a) s
/-- ANTENNA_BIAS_RETRY (R74). -/
def execAntennaBiasRetry (a : Fin 2) (shorted : Bool) (s : State) : Outcome := live (biasRetry a shorted) s
/-- SENSOR_SUPPLY_FOLD_BACK (R75). -/
def execSensorSupplyFoldBack (x : SensorFold) (s : State) : Outcome := live (sensorFold x.pwr x.folded) s
/-- BASE_HOT_ENTRY (R77). -/
def execBaseHotEntry (s : State) : Outcome := live baseHot s
/-- BASE_HOT_EXIT (R77). -/
def execBaseHotExit (s : State) : Outcome := live baseCool s
/-- KEEP_ABSENT_CHANGE (R55). -/
def execKeepAbsentChange (absent : Bool) (s : State) : Outcome := live (keepChange absent) s
/-- KEEP_LOSS_IN_STANDBY (R588). -/
def execKeepLossInStandby (s : State) : Outcome := done (keepLoss s)
/-- STANDBY_WAKE (R587). -/
def execStandbyWake (w : WakeCause) (s : State) : Outcome := done (standbyWake w s)
/-- SNAPSHOT_WAKE (R589). -/
def execSnapshotWake (unc : Word) (gtime : BitVec 64) (found : Option (Int × Int × Int × Nat)) (meet : Option WakeCause) (s : State) : Outcome :=
  done (snapshotWake unc.toNat gtime.toNat found meet s)

end Sys2Proof.Machine
end

