-- ==== Sys2Proof/Machine/Startup.lean ====
section
/-! DEFINITION. Start-up: power-on reset, self-test, configuration load, election (R575 to R584, R591, R592). -/
namespace Sys2Proof.Machine

/-- POWER_ON_RESET_END (R575): MTIME is zero, PCC is incremented and stored. -/
def powerOnEnd (s : State) : State :=
  if !powered s ∨ phase s ≠ 0 ∨ s.start.warmAt.isSome then s
  else fset { s with mtime := 0, sup := { s.sup with pcc := (s.sup.pcc + 1) % 2 ^ 32 } } F.STARTUP_STAT_PHASE 1

/-- The slots of the stored order, 0 for an empty one (R125). -/
def storedOrder (s : State) : List Nat :=
  [fget s F.OWN_CFG_ORDER0, fget s F.OWN_CFG_ORDER1, fget s F.OWN_CFG_ORDER2]

/-- The election window opens (R125, R126). -/
def openElection (s : State) : State :=
  let s := setOwn { s.own with order := storedOrder s, claims := [], electionEnd := s.mtime + sec } s
  fset { s with start := { s.start with electionOver := false } } F.OWN_STAT_ELECTION 1

/-- ENG_CTRL.STARTAUTO (R228): every autostart gather in ascending order; a refused one is named. -/
def startAuto (s : State) : State :=
  forAll (fun g s =>
    if !flag s (F.G_CTRL_AUTOSTART g) then s
    else if startRefused s g then raise 3 12 0 .startRefused [g] s
    else startGather g s) (List.range 128) s

/-- ELECTION_WINDOW_END (R126, R228). -/
def electionWindowEnd (s : State) : State :=
  if !electionOpen s then s
  else
    let s := electionEnds (atTime s.own.electionEnd s)
    onlyIf (decide (ownerCode s = 0) && flag s F.OWN_CFG_AUTOSTART) startAuto s

/-- A halted start (R578): every output stays off and disarmed, a record names the unit, the election runs. -/
def haltStart (unit : Nat) (s : State) : State :=
  let s := everythingOff { s with start := { s.start with halted := true } }
  openElection (fset (raise 6 15 3 .selfTestFail [unit] s) F.STARTUP_STAT_PHASE 5)

/-- The consequence of a delay-line failure at start-up (R383, R577). -/
def delayFails (n : Nat) (s : State) : State :=
  if flag s (F.PWM_STAT_FALLBACK n) then s
  else cullet 3 (raise 4 1 n .fallback [n] (takePathIdle n (fset s (F.PWM_STAT_FALLBACK n) 1)))

/-- The self-test of the SYS and ENG domains (R577, R592). -/
def testLogic (t : SelfTest) (s : State) : State :=
  let s := fbool (fbool s F.SELFTEST_RES_SUPERVISOR t.supervisor) F.SELFTEST_RES_PIPES (!t.pipes.isEmpty)
  let s := fset (fbool s F.SELFTEST_RES_MEMORIES t.memories) F.SPARE_ROWS_PERCENT (max (fget s F.SPARE_ROWS_PERCENT) t.percent)
  let s := forAll (fun k s => pipeFail k s) (t.pipes.map (·.val)) s
  onlyIf (decide (50 < fget s F.SPARE_ROWS_PERCENT)) (cullet 1) s

/-- The rest of a cold start's self-test (R577, R560): output stage, stores, delay lines, current sense. -/
def testCold (t : SelfTest) (s : State) : State :=
  let s := fbool (fbool s F.SELFTEST_RES_OUTPUT_STAGE t.outputStage) F.SELFTEST_RES_NV_STORE t.nvStore
  let s := fbool (fbool s F.SELFTEST_RES_DELAY_LINE (!t.delay.isEmpty)) F.SELFTEST_RES_CURRENT_SENSE (!t.sense.isEmpty)
  let s := onlyIf t.delay.isEmpty (culletClear 3) s
  let s := forAll (fun n s => delayFails n s) (t.delay.map (·.val)) s
  let s := { s with start := { s.start with currentSenseBad := t.sense.map (·.val) } }
  let s := forAll (fun n s => raise 4 1 n .currentSense [n] s) (t.sense.map (·.val)) s
  onlyIf (!t.nvStore) (agateStart t.torn) s

/-- SELFTEST_END (R577, R578): a failed supervisor, output stage or store halts the start. -/
def selftestEnd (t : SelfTest) (s : State) : State :=
  if !powered s ∨ phase s ≠ 1 then s
  else
    let warm := decide (fget s F.STARTUP_STAT_KIND = 2)
    let s := testLogic t s
    let s := onlyIf (!warm) (testCold t) s
    if t.supervisor then haltStart 0 s
    else if t.outputStage ∧ !warm then haltStart 1 s
    else if t.nvStore ∧ !warm then haltStart 2 s
    else fset s F.STARTUP_STAT_PHASE 2

/-- The image registers take their factory values (R579, R584). -/
def factoryRegs (s : State) : State := { s with regs := keepRegs (fun a => 0xFFFFFFFF - imageBits a) s.regs }
/-- The image registers take their stored values (R565). -/
def loadRegs (s : State) : State :=
  forAll (fun p s =>
    let m := BitVec.ofNat 32 (imageBits p.1)
    wr s p.1 ((rd s p.1 &&& ~~~m) ||| (p.2 &&& m))) s.nv.image (factoryRegs s)

/-- The model and the field selection that a start finds (R281). -/
def loadMaps (model : Tab Word) (f : Option Nat) (s : State) : State :=
  setActiveField s.mtime f { s with maps := { s.maps with active := { MapSet.init with model := model, field := f } } }

/-- Whether a stored region fails its verification at configuration load (R241). -/
def regionFails (s : State) (bad : List Nat) (r : Nat × Nat) : Bool :=
  bad.contains r.1 || (flag s F.OEM_KEY_CTRL_LOCKED && (pagesOf r.1 r.2).any (fun k => decide (s.nv.pages.getD k 0 = 3)))

/-- The stored program memory with the regions that verify (R241); a region that fails is named. -/
def loadProgram (bad : List Nat) (s : State) : State :=
  let fail := s.nv.regions.filter (regionFails s bad)
  let good := s.nv.regions.filter (fun r => !regionFails s bad r)
  let lost := fail.flatMap (fun r => pagesOf r.1 r.2)
  let keep (k : Nat) : Bool := decide (2 ≤ s.nv.pages.getD k 0) && !lost.contains k
  let s := { s with eng := { s.eng with prog := s.nv.prog.filter (fun p => keep (p.1 / 4096)), regions := good } }
  let s := forAll (fun k s => setPage k (if keep k then s.nv.pages.getD k 0 else 0) s) (List.range 64) s
  forAll (fun r s => raise 4 15 3 .regionBad [r.1, r.2] s) fail s

/-- The learned latencies (R299): the stored values; an output that is bound for the first time, or a descriptor of
which nothing was stored, starts from its initial ones. -/
def loadLatencies (s : State) : State :=
  let s := forAll (fun p s => wr s p.1 p.2) s.nv.latencies s
  let s := forAll (fun n s => setOut n { outOf s n with bound := true } s) s.nv.bound s
  let s := forAll bindOut (List.range 84) s
  forAll (fun d s =>
    if !flag s (F.REM_DESC_VALID d) || (tabFind s.nv.latencies (A.REM_LAT d)).isSome then s
    else fset (fset s (F.REM_LAT_ON d) (fget s (F.REM_LATINIT_INIT_ON d))) (F.REM_LAT_OFF d) (fget s (F.REM_LATINIT_INIT_OFF d))) (List.range 428) s

/-- Blocks that take up what configuration load brings: the ports that leave INIT (R579), the peers of the fleet. -/
def applyLoaded (s : State) : State :=
  let s := forAll (fun p s => if flag s (F.PORT_CTRL_INIT p) then s else leaveInit p s) (List.range 6) s
  forAll (fun k s => setPeer k { PeerRound.init with lastComplete := s.mtime } s) (List.range 16) s

/-- Configuration load of a cold start (R579, R611): the image with its digest, the regions, what was stored; the pulse
path and the first pulse of PPS_OUT follow the image (R385, R440). DEDUCED, log entry 64. -/
def loadCold (imageOk : Bool) (bad : List Nat) (s : State) : State :=
  let s := if imageOk then
      let s := loadProgram bad (loadRegs s)
      loadMaps s.nv.model (if s.nv.fieldSel = 0 then none else some (s.nv.fieldSel - 1)) s
    else
      raise 4 15 3 .imageBad [] (fset (loadMaps [] none (factoryRegs s)) F.STARTUP_STAT_IMAGE_BAD 1)
  let s := forAll takePathIdle (List.range 84) (forAll fieldCommandDone (List.range 16) (loadLatencies s))
  { s with clock := { s.clock with nextMin := s.mtime + sec / 2 } }

/-- The return to the factory image (R584): no model and no field selection, every page free, the generation zero. The
other maps stay active (R554). -/
def loadFactory (s : State) : State :=
  let s := factoryRegs s
  let s := setActiveField s.mtime none { s with maps := { s.maps with active := { s.maps.active with model := [], field := none } } }
  let s := forAll freePage (List.range 64) s
  let s := setStage { s.stage with generation := 0 } { s with eng := { s.eng with regions := [] } }
  imageStore { s with start := { s.start with factoryPending := false } }

/-- CONFIGURATION_LOAD (R579, R580, R592): then the election window opens. -/
def configurationLoad (imageOk : Bool) (bad : List Nat) (s : State) : State :=
  if !powered s ∨ phase s ≠ 2 then s
  else
    let s := if fget s F.STARTUP_STAT_KIND = 2 then onlyIf s.start.factoryPending loadFactory s else loadCold imageOk bad s
    openElection (fset (applyLoaded s) F.STARTUP_STAT_PHASE 3)

/-- STARTUP_CTRL.FACTORY (R584). -/
def factory (s : State) : State :=
  let s := raise 4 15 3 .factory [] s
  warmReset 1 { s with start := { s.start with factoryPending := true } }

/-- STBY_CTRL.ENTER (R586): the steps in their order. -/
def standbyEnter (s : State) : State :=
  let s := markUpTo s.mtime (allOff s)
  let s := imageStore (flushTiles s)
  powerDown true (writeOutAgate (raise 2 15 3 .standbyEnter [] s))

/-- Whether STBY_CTRL.ENTER is refused (R586). -/
def standbyRefused (s : State) : Bool := anyArmed s || flag s F.SUPPLY_STAT_KEEP_ABSENT || bench s

/-- POWER_ON_RESET_END (R575). -/
def execPowerOnResetEnd (s : State) : Outcome := done (powerOnEnd s)
/-- SELFTEST_END with its results (R577). -/
def execSelftestEnd (t : SelfTest) (s : State) : Outcome := done (selftestEnd t s)
/-- CONFIGURATION_LOAD: whether the digest matches, and the bases of the stored regions that fail (R579). -/
def execConfigurationLoad (imageOk : Bool) (bad : List (Fin 262144)) (s : State) : Outcome :=
  done (configurationLoad imageOk (bad.map (·.val)) s)
/-- ELECTION_WINDOW_END (R126). -/
def execElectionWindowEnd (s : State) : Outcome := live electionWindowEnd s

end Sys2Proof.Machine
end

