-- ==== Sys2Proof/Machine/RulesEng.lean ====
section
/-! DEFINITION. The registers of the ENG domain beyond their field types: program loading, memories, gathers,
maps, Onyx and field records (R218 to R249, R267 to R281, R611). -/
namespace Sys2Proof.Machine

/-- ENG_CTRL (R228): STOPALL comes first. DEDUCED, log entry 78. -/
def ruleEngCtrl : RegRule :=
  { plainRule with
      effect := fun c s =>
      let s := onCmd c F.ENG_CTRL_STOPALL (fun s => forAll stopGather (List.range 128) s) s
      onCmd c F.ENG_CTRL_STARTAUTO startAuto s }
/-- ENG_STAT.INFLIGHT (R148). -/
def ruleEngStat : RegRule := { plainRule with view := fun s _ _ w => putField w F.ENG_STAT_INFLIGHT (inFlight s) }

/-- LOAD_CTRL (R235, R236, R239): while a VERIFY runs only a write that starts ABORT passes. -/
def ruleLoadCtrl : RegRule :=
  { plainRule with
      view := fun s _ _ w => putFlag w F.LOAD_CTRL_VERIFY (flag s F.LOAD_STAT_BUSY)
      state := fun c s =>
        (flag s F.LOAD_STAT_BUSY && !c.cmd F.LOAD_CTRL_ABORT) ||
          (c.cmd F.LOAD_CTRL_OPEN && openRefused s) ||
          (c.cmd F.LOAD_CTRL_VERIFY && (!flag s F.LOAD_STAT_OPEN_ACTIVE || flag s F.LOAD_STAT_BUSY))
      effect := fun c s =>
        let s := onCmd c F.LOAD_CTRL_OPEN openLoad s
        let s := onCmd c F.LOAD_CTRL_VERIFY (startVerify (c.get F.LOAD_CTRL_SIGNED = 1)) s
        onCmd c F.LOAD_CTRL_ABORT abortLoad s }
/-- LOAD_BASE holds still while a load is open (R236). -/
def ruleLoadBase : RegRule := { plainRule with state := fun _ s => flag s F.LOAD_STAT_OPEN_ACTIVE }
/-- LOAD_LEN holds still while a load is open (R236). -/
def ruleLoadLen : RegRule := { plainRule with state := fun _ s => flag s F.LOAD_STAT_OPEN_ACTIVE }
/-- LOAD_DIGEST, LOAD_KEY and LOAD_SIG hold still while a VERIFY runs (R239). -/
def ruleLoadBank : RegRule := { plainRule with state := fun _ s => flag s F.LOAD_STAT_BUSY }
/-- The program memory load window (R234). -/
def ruleLoadWin : RegRule :=
  { plainRule with
      stores := false, view := fun s _ ix _ => tabGet (fun _ => 0) s.eng.prog (ix.headD 0)
      state := fun c s => windowRefused s c.i
      effect := fun c s => writeProg c.i c.new s }
/-- The pages from a to b. -/
def pageRange (a b : Nat) : List Nat := (List.range 64).filter (fun k => decide (a ≤ k) && decide (k ≤ b))
/-- PAGE_RELEASE (R240). -/
def ruleRelease : RegRule :=
  { plainRule with
      value := fun c _ => decide (c.get F.PAGE_RELEASE_LAST < c.get F.PAGE_RELEASE_FIRST)
      state := fun c s => c.cmd F.PAGE_RELEASE_GO && releaseRefused s (pageRange (c.get F.PAGE_RELEASE_FIRST) (c.get F.PAGE_RELEASE_LAST))
      effect := fun c s => onCmd c F.PAGE_RELEASE_GO releaseRun s }

/-- CMEM_DATA: the committed word at CMEM_ADDR. -/
def ruleCmem : RegRule :=
  { plainRule with
      stores := false, view := fun s _ _ _ => cmemWord s (4 * fget s F.CMEM_ADDR_ADDR)
      effect := fun c s => cmemWrite (4 * fget s F.CMEM_ADDR_ADDR) c.new s }
/-- Write a word of a local memory. -/
def lmemPut (x : Gather) (k : Nat) (v : Word) : Gather :=
  { x with lmem := lmemStore x.lmem (4 * k) 4 v.toNat }
/-- The gather that LMEM_SEL names. -/
def lmemGather (s : State) : Nat := fget s F.LMEM_SEL_GATHER
/-- LMEM_DATA: read in STOPPED, HALTED or FAULT, write in STOPPED only. -/
def ruleLmem : RegRule :=
  { plainRule with
      stores := false, view := fun s _ _ _ => lmemWord (gatherOf s (lmemGather s)).lmem (4 * fget s F.LMEM_SEL_ADDR)
      readState := fun s _ => gRunning s (lmemGather s)
      state := fun _ s => decide ((gatherOf s (lmemGather s)).phase ≠ .stopped)
      effect := fun c s => setGather (lmemGather s) (lmemPut (gatherOf s (lmemGather s)) (fget s F.LMEM_SEL_ADDR) c.new) s }

/-- G_CTRLg (R220 to R222). -/
def ruleGCtrl : RegRule :=
  { plainRule with
      value := fun c _ => c.cmd (F.G_CTRL_START c.i) && c.cmd (F.G_CTRL_STOP c.i)
      state := fun c s => c.cmd (F.G_CTRL_START c.i) && startRefused s c.i
      effect := fun c s =>
        let s := onCmd c (F.G_CTRL_START c.i) (startGather c.i) s
        onCmd c (F.G_CTRL_STOP c.i) (stopGather c.i) s }
/-- G_STATg (R214, R219, R226). -/
def ruleGStat : RegRule :=
  { plainRule with
      view := fun s _ ix w =>
      let g := ix.headD 0
      let x := gatherOf s g
      let w := putField (putField w (F.G_STAT_PRIO g) x.cur.prio) (F.G_STAT_JOURNAL g) x.journal.length
      putField (putField (putField w (F.G_STAT_STALL g) x.stall) (F.G_STAT_INFLIGHT g) x.ops.length) (F.G_STAT_STATE g) x.phase.code }
/-- The bindings of a gather change only while it does not run (R231). -/
def ruleBinding : RegRule := { plainRule with state := fun c s => gRunning s c.i }
/-- G_REGIONg (R229, R231). -/
def ruleRegion : RegRule :=
  { ruleBinding with value := fun c _ => decide (c.get (F.G_REGION_LAST c.i) < c.get (F.G_REGION_FIRST c.i)) }
/-- Word i of a gather's window: committed while it runs, else present; the pending marks are live. -/
def winWord (x : Gather) (i : Nat) : Word :=
  let c := if x.phase.isRunning then x.com else x.cur
  let b (f : Bool) (k : Nat) : Nat := if f then 2 ^ k else 0
  let marks (l : List Nat) : Word := BitVec.ofNat 32 (l.dedup.map (fun n => 2 ^ n)).sum
  if i < 32 then getW c i
  else if i < 48 then (if i % 2 = 0 then getX c ((i - 32) / 2) else getY c ((i - 32) / 2))
  else if i = 48 then BitVec.ofNat 32 (c.pc % 2 ^ 18 * 4096 + b c.z 3 + b c.n 2 + b c.c 1 + b c.v 0)
  else if i = 49 then marks (pendingW x)
  else marks (pendingP x)
/-- G_WINg_i. -/
def ruleGWin : RegRule :=
  { plainRule with view := fun s _ ix _ => winWord (gatherOf s (ix.headD 0)) (ix.getD 1 0) }
/-- OUT_PERMITn_k (R232): a first permission binds the output, which loads its latencies (R299). -/
def rulePermit : RegRule :=
  { plainRule with
      armed := fun c s => armed s c.i
      effect := fun c s => bindOut c.i s }
/-- REM_GATHERd (R233). -/
def ruleRemGather : RegRule := { plainRule with armed := fun c s => remArmed s c.i }

/-- MAP_CTRL (R277 to R279). -/
def ruleMapCtrl : RegRule :=
  { plainRule with
      view := fun s _ _ w => putFlag w F.MAP_CTRL_CHECK (flag s F.MAP_STAT_CHECK_BUSY)
      state := fun c s =>
        let busy := flag s F.MAP_STAT_CHECK_BUSY
        let act := decide (fget s F.MAP_STAT_RESULT ≠ 1) || busy
        (c.cmd F.MAP_CTRL_CHECK && busy) || ((c.cmd F.MAP_CTRL_ACT_NOW || c.cmd F.MAP_CTRL_ACT_ARM) && act) ||
          (c.cmd F.MAP_CTRL_ACT_NOW && anyArmed s) || (c.cmd F.MAP_CTRL_CLEAR && (busy || flag s F.MAP_STAT_ACT_PEND))
      effect := fun c s =>
        let s := onCmd c F.MAP_CTRL_CHECK startMapCheck s
        let s := onCmd c F.MAP_CTRL_ACT_NOW (pendActivation 0) s
        let s := onCmd c F.MAP_CTRL_ACT_ARM (fun s => pendActivation (mapActTime s) s) s
        let s := onCmd c F.MAP_CTRL_ACT_CANCEL cancelActivation s
        onCmd c F.MAP_CTRL_CLEAR mapClear s }
/-- MAP_STAT.RETAINED (R280). -/
def ruleMapStat : RegRule := { plainRule with view := fun s _ _ w => putFlag w F.MAP_STAT_RETAINED (retainedNow s) }
/-- MAP_ACT holds still while an activation waits (R279). -/
def ruleMapAct : RegRule := { plainRule with state := fun _ s => flag s F.MAP_STAT_ACT_PEND }
/-- MAP_FIELD stages item 5 (R276, R277). -/
def ruleMapField : RegRule :=
  { plainRule with
      state := fun _ s => stagingRefused s
      effect := fun c s => stageItem 5 (fun m => { m with field := some (c.get F.MAP_FIELD_STAGED_FIELD) }) s }
/-- A geometry register of the raster, which stages item 1 (R276). -/
def ruleRaster (get : MapSet → Word) (put : Word → MapSet → MapSet) : RegRule :=
  { plainRule with
      stores := false, view := fun s _ _ _ => get (candidate s)
      state := fun _ s => stagingRefused s
      effect := fun c s => stageItem 1 (put c.new) s }
/-- POLY_CFG, which stages items 3 and 4 (R276). -/
def rulePoly : RegRule :=
  { plainRule with
      stores := false, view := fun s _ _ _ => (candidate s).polyCfg
      state := fun _ s => stagingRefused s
      effect := fun c s => stageItem 4 (fun m => { m with polyCfg := c.new }) (stageItem 3 (fun m => { m with polyCfg := c.new }) s) }
/-- The item that MAP_WIN reaches. -/
def winItem (s : State) : Nat := fget s F.MAP_WIN_SEL_ITEM
/-- The item word behind word i of MAP_WIN. -/
def winOffset (s : State) (i : Nat) : Nat := fget s F.MAP_WIN_SEL_OFFSET + i
/-- The set whose lengths judge a staging write: what the item is once its staged copy has started (R277). -/
def lengthSet (s : State) : MapSet := candidate s
/-- MAP_WIN_i (R274, R276, R277): a raster word beyond the free room is refused. -/
def ruleMapWin : RegRule :=
  { plainRule with
      stores := false, view := fun s _ ix _ => mapRead s (winItem s) (winOffset s (ix.headD 0))
      value := fun c s => decide (itemLength (lengthSet s) (winItem s) ≤ winOffset s c.i)
      state := fun c s => stagingRefused s || (decide (winItem s = 1) && decide (freeCells s ≤ 4 * winOffset s c.i))
      effect := fun c s => mapWrite (winItem s) (winOffset s c.i) c.new s }

/-- ONYX_STAT.DIRTY. -/
def ruleOnyxStat : RegRule := { plainRule with view := fun s _ _ w => putField w F.ONYX_STAT_DIRTY (dirtyTiles s).length }
/-- ONYX_FREE. -/
def ruleOnyxFree : RegRule := { plainRule with view := fun s _ _ _ => BitVec.ofNat 32 (freeSlots s) }
/-- ONYX_WEAR (R270): the highest write count, in thousandths of 10^10. -/
def ruleOnyxWear : RegRule := { plainRule with view := fun s _ _ _ => BitVec.ofNat 32 (min 1000 (wearMax s / 10 ^ 7)) }
/-- ONYX_CTRL.FLUSH (R267). -/
def ruleOnyxCtrl : RegRule := { plainRule with effect := fun c s => onCmd c F.ONYX_CTRL_FLUSH flushTiles s }

/-- A register of field record f, which may be written while the record does not exist (R247, R611). -/
def ruleField : RegRule :=
  { plainRule with state := fun c s => flag s (F.FIELD_CFG_VALID c.i) || flag s (F.FIELD_STAT_BUSY c.i) }
/-- FIELDf_CFG: BAD_TILE may be written while the record exists (R247, R269). -/
def ruleFieldCfg : RegRule :=
  { plainRule with state := fun c s => flag s (F.FIELD_STAT_BUSY c.i) ||
      (flag s (F.FIELD_CFG_VALID c.i) && (c.changes (F.FIELD_CFG_LAYERS c.i) || c.changes (F.FIELD_CFG_CELL c.i))) }
/-- The commands of FIELDf_CTRL as they read while one runs on record f (R87, R611). -/
def fieldCtrlWord (s : State) (f : Nat) (w : Word) : Word :=
  match tabGet (fun _ => none) s.onyx.cmds f with
  | none => w
  | some (.create, _) => putFlag w (F.FIELD_CTRL_CREATE 0) true
  | some (.clear k, _) => putField w (F.FIELD_CTRL_CLEAR 0) k
  | some (.delete, _) => putFlag w (F.FIELD_CTRL_DELETE 0) true
/-- FIELDf_CTRL (R247 to R249): CREATE, CLEAR and DELETE read 1 while they run (R87). -/
def ruleFieldCtrl : RegRule :=
  { plainRule with
      view := fun s _ ix w => fieldCtrlWord s (ix.headD 0) w
      value := fun c s => c.cmd (F.FIELD_CTRL_CREATE c.i) && fieldRange s c.i
      state := fun c s =>
        (c.cmd (F.FIELD_CTRL_CREATE c.i) && createRefused s c.i) || (c.cmd (F.FIELD_CTRL_HERE c.i) && hereRefused s c.i) ||
          (c.cmd (F.FIELD_CTRL_CLEAR c.i) && clearRefused s c.i false) || (c.cmd (F.FIELD_CTRL_DELETE c.i) && clearRefused s c.i true) ||
          flag s (F.FIELD_STAT_BUSY c.i)
      effect := fun c s =>
        let s := onCmd c (F.FIELD_CTRL_CREATE c.i) (fieldCreate c.i) s
        let s := onCmd c (F.FIELD_CTRL_HERE c.i) (fieldHere c.i) s
        if c.cmd (F.FIELD_CTRL_DELETE c.i) then fieldDelete c.i s
        else onCmd c (F.FIELD_CTRL_CLEAR c.i) (fieldClear c.i (bitsOf c.cmds 11 8)) s }

/-- The rules of the ENG domain. -/
def rulesEng (b : Nat) : RegRule :=
  if b = Reg.ENG_CTRL.base then ruleEngCtrl
  else if b = Reg.ENG_STAT.base then ruleEngStat
  else if b = Reg.LOAD_CTRL.base then ruleLoadCtrl
  else if b = Reg.LOAD_BASE.base then ruleLoadBase
  else if b = Reg.LOAD_LEN.base then ruleLoadLen
  else if b = Reg.LOAD_DIGEST.base ∨ b = Reg.LOAD_KEY.base ∨ b = Reg.LOAD_SIG.base then ruleLoadBank
  else if b = Reg.PAGE_RELEASE.base then ruleRelease
  else if b = Reg.CMEM_DATA.base then ruleCmem
  else if b = Reg.LMEM_DATA.base then ruleLmem
  else if b = Reg.G_CTRL.base then ruleGCtrl
  else if b = Reg.G_STAT.base then ruleGStat
  else if b = Reg.G_REGION.base then ruleRegion
  else if b = Reg.G_ENTRY.base ∨ b = Reg.G_QPUSH.base ∨ b = Reg.G_QPOPS.base ∨ b = Reg.G_QPOPG.base then ruleBinding
  else if b = Reg.G_WIN.base then ruleGWin
  else if b = Reg.OUT_PERMIT.base then rulePermit
  else if b = Reg.REM_GATHER.base then ruleRemGather
  else if b = Reg.LOAD_WIN.base then ruleLoadWin
  else plainRule

/-- The rules of the maps, Onyx and the field records. -/
def rulesMap (b : Nat) : RegRule :=
  if b = Reg.MAP_CTRL.base then ruleMapCtrl
  else if b = Reg.MAP_STAT.base then ruleMapStat
  else if b = Reg.MAP_ACT_LO.base ∨ b = Reg.MAP_ACT_HI.base then ruleMapAct
  else if b = Reg.MAP_FIELD.base then ruleMapField
  else if b = Reg.RASTER_E.base then ruleRaster (·.rasE) (fun v m => { m with rasE := v })
  else if b = Reg.RASTER_N.base then ruleRaster (·.rasN) (fun v m => { m with rasN := v })
  else if b = Reg.RASTER_DIM.base then ruleRaster (·.rasDim) (fun v m => { m with rasDim := v })
  else if b = Reg.RASTER_CFG.base then ruleRaster (·.rasCfg) (fun v m => { m with rasCfg := v })
  else if b = Reg.POLY_CFG.base then rulePoly
  else if b = Reg.MAP_WIN.base then ruleMapWin
  else if b = Reg.ONYX_STAT.base then ruleOnyxStat
  else if b = Reg.ONYX_FREE.base then ruleOnyxFree
  else if b = Reg.ONYX_WEAR.base then ruleOnyxWear
  else if b = Reg.ONYX_CTRL.base then ruleOnyxCtrl
  else if b = Reg.FIELD_LAT.base ∨ b = Reg.FIELD_LON.base ∨ b = Reg.FIELD_HGT.base ∨ b = Reg.FIELD_GRID.base ∨ b = Reg.FIELD_SIZE.base then ruleField
  else if b = Reg.FIELD_CFG.base then ruleFieldCfg
  else if b = Reg.FIELD_CTRL.base then ruleFieldCtrl
  else plainRule

end Sys2Proof.Machine
end

