-- ==== Sys2Proof/Machine/RulesFb.lean ====
section
/-! DEFINITION. The registers of feedback, analog inputs and pass-through pins, of the receiver, the pose engine
and snapshot captures beyond their field types. -/
namespace Sys2Proof.Machine

/-- Whether joint k of a model takes input n as its source (R257). -/
def jointUses (m : MapSet) (n k : Nat) : Bool :=
  let w := modelWord m (16 + 8 * (k - 1))
  w.msb && (decide (bitsOf w 9 8 = 1) || decide (bitsOf w 9 8 = 2)) && decide (bitsOf w 20 16 = n)
/-- Whether input n is named in SPEED_SRC or is a joint source of the active model (R479). -/
def fbUsed (s : State) (n : Nat) : Bool :=
  speedInput s 0 == some n || speedInput s 1 == some n || [1, 2, 3].any (jointUses s.maps.active n)
/-- The other input of a pair that input n belongs to (R458). -/
def fbPartner (s : State) (n : Nat) : Option Nat :=
  if n % 2 = 1 then (if fbMode s n = 6 then some (n - 1) else none)
  else if 2 ≤ fbMode s n ∧ fbMode s n ≤ 4 then some (n + 1) else none
/-- Whether the configuration of input n holds still (R479). -/
def fbHeld (s : State) (n : Nat) : Bool :=
  anyArmed s && (fbUsed s n || (match fbPartner s n with | some m => fbUsed s m | none => false))
/-- A configuration register of input n (R479). -/
def ruleFbConf : RegRule := { plainRule with armed := fun c s => fbHeld s c.i }
/-- FB_CFGn (R457, R458, R473, R479): an input that is switched off is stale. -/
def ruleFbCfg : RegRule :=
  { ruleFbConf with
      view := fun s _ ix w => putField w (F.FB_CFG_MODE 0) (fbMode s (ix.headD 0))
      value := fun c s =>
        let m := c.get (F.FB_CFG_MODE c.i)
        c.covers (F.FB_CFG_MODE c.i) && decide (fbMode s c.i ≠ 6) &&
          (decide (m = 6) || decide (8 ≤ m) || (decide (2 ≤ m ∧ m ≤ 4) && decide (c.i % 2 = 1)))
      state := fun c s =>
        c.covers (F.FB_CFG_MODE c.i) && (decide (fbMode s c.i = 6) ||
          (decide (c.get (F.FB_CFG_MODE c.i) = 5) && ptTaken s (fget s (F.FB_SSI_PT c.i)) c.i))
      effect := fun c s =>
        if c.get (F.FB_CFG_MODE c.i) = 0 ∧ c.was (F.FB_CFG_MODE c.i) ≠ 0 then
          noteFbState c.i s.mtime (fset (dropPeriods c.i s) (F.FB_STAT_STALE c.i) 1)
        else s }
/-- FB_THRn (R455). -/
def ruleFbThr : RegRule :=
  { ruleFbConf with value := fun c _ => decide (2 * c.get (F.FB_THR_THR c.i) < 100 + c.get (F.FB_THR_HYS c.i)) }
/-- FB_SSIn (R473). -/
def ruleFbSsi : RegRule :=
  { ruleFbConf with state := fun c s => decide (fbMode s c.i = 5) && ptTaken s (c.get (F.FB_SSI_PT c.i)) c.i }
/-- FB_COUNTn (R472). -/
def ruleFbCount : RegRule := { plainRule with effect := fun c s => countLoaded c.i s }
/-- FB_SPEEDn (R464, R465). -/
def ruleFbSpeed : RegRule := { plainRule with view := fun s _ ix _ => BitVec.ofNat 32 (speedBits (speedNow s (ix.headD 0))) }
/-- FB_CTRLn (R461). -/
def ruleFbCtrl : RegRule := { plainRule with effect := fun c s => onCmd c (F.FB_CTRL_CLEAR_FAULT c.i) (clearFault c.i) s }
/-- FB_CMPCTRLn: a compare newly enabled is judged (R471). DEDUCED, log entry 47. -/
def ruleCmpCtrl : RegRule :=
  { plainRule with
      effect := fun c s => forAll (fun k s =>
        if c.new.getLsbD k && !c.old.getLsbD k then judgeCompare c.i k s.mtime s else s) (List.range 4) s }
/-- FB_CMPVALn_k and FB_CMPSTEPn_k: the compare is judged (R471). -/
def ruleCmpValue : RegRule := { plainRule with effect := fun c s => judgeCompare c.i c.j s.mtime s }
/-- PT_CFGp (R473, R476). -/
def rulePtCfg : RegRule :=
  { plainRule with
      view := fun s _ ix w => putField w (F.PT_CFG_SRC 0) (ptSrc s (ix.headD 0))
      value := fun c s =>
        let v := c.get (F.PT_CFG_SRC c.i)
        !ptTaken s c.i 24 && c.covers (F.PT_CFG_SRC c.i) && (decide (v = 4) || decide (6 ≤ v))
      state := fun c s => ptTaken s c.i 24 }
/-- PT_STATp.LINE. -/
def rulePtStat : RegRule := { plainRule with view := fun s _ ix w => putFlag w (F.PT_STAT_LINE 0) (ptLine s (ix.headD 0)) }
/-- FB_GLOBAL (R478): a change of level switches the supply off first. -/
def ruleFbGlobal : RegRule :=
  { plainRule with effect := fun c s => if c.changes F.FB_GLOBAL_SNS_PWR_12V then snsLevelChange s else s }

/-- GNSS_CTRL.COLD (R399). -/
def ruleGnssCtrl : RegRule := { plainRule with effect := fun c s => onCmd c F.GNSS_CTRL_COLD gnssCold s }
/-- TRK_CFGk (R393, R394, R398): a channel of the manager takes only MANUAL, and the take-over leaves its other fields; a
manual channel searches from its enabling on, and stops when it is disabled or given back. DEDUCED, log entry 75. -/
def ruleTrkCfg : RegRule :=
  { plainRule with
      value := fun c _ =>
        let l5 := isL5 (c.get (F.TRK_CFG_SIGNAL c.i))
        decide (c.was (F.TRK_CFG_MANUAL c.i) = 1) && (l5 != decide (c.get (F.TRK_CFG_CHAIN c.i) % 2 = 1))
      state := fun c _ => decide (c.was (F.TRK_CFG_MANUAL c.i) = 0) && decide (c.get (F.TRK_CFG_MANUAL c.i) = 0) &&
        decide (bitsOf c.sel 30 0 ≠ 0)
      effect := fun c s =>
        if c.was (F.TRK_CFG_MANUAL c.i) = 0 then
          if c.get (F.TRK_CFG_MANUAL c.i) = 1 then idleChannel c.i (wr s c.addr (putField c.old (F.TRK_CFG_MANUAL c.i) 1)) else s
        else if c.get (F.TRK_CFG_MANUAL c.i) = 0 ∨ c.get (F.TRK_CFG_EN c.i) = 0 then idleChannel c.i s
        else if c.was (F.TRK_CFG_EN c.i) = 0 ∨ c.changes (F.TRK_CFG_SIGNAL c.i) ∨ c.changes (F.TRK_CFG_PRN c.i) ∨ c.changes (F.TRK_CFG_CHAIN c.i) then
          searchChannel c.i s
        else s }
/-- TRK_LOOPk (R394, R396). -/
def ruleTrkLoop : RegRule :=
  { plainRule with
      value := fun c s =>
        let t := c.get (F.TRK_LOOP_INT c.i)
        !([1, 2, 4, 5, 10, 20].contains t) || decide (Config.signalPeriod (fget s (F.TRK_CFG_SIGNAL c.i)) % t ≠ 0)
      state := fun c s => !flag s (F.TRK_CFG_MANUAL c.i) }
/-- SPEED_SRC (R421). -/
def ruleSpeedSrc : RegRule := { plainRule with state := fun c s => decide (c.new ≠ c.old) && anyArmed s }
/-- CORR_FEED (R404). -/
def ruleCorrFeed : RegRule :=
  { plainRule with
      state := fun _ s => decide (fget s F.CORR_CFG_SOURCE = 7) && decide (4096 ≤ s.nav.corrBuf.length)
      effect := fun c s => feedByte 7 (BitVec.ofNat 8 (c.get F.CORR_FEED_BYTE)) s }
/-- SNAP_CTRL (R422, R425); a SOLVE while one runs is queued once (R86). -/
def ruleSnapCtrl : RegRule :=
  { plainRule with
      view := fun s _ _ w => putFlag (putFlag w F.SNAP_CTRL_CAPTURE (flag s F.SNAP_STAT_CAP_BUSY)) F.SNAP_CTRL_SOLVE (flag s F.SNAP_STAT_SOLVE_BUSY)
      state := fun c s => (c.cmd F.SNAP_CTRL_CAPTURE && captureRefused s) || (c.cmd F.SNAP_CTRL_SOLVE && !flag s F.SNAP_STAT_VALID)
      effect := fun c s =>
        let s := onCmd c F.SNAP_CTRL_CAPTURE startCaptureSnap s
        onCmd c F.SNAP_CTRL_SOLVE (fun s =>
          if flag s F.SNAP_STAT_SOLVE_BUSY then queueCmd F.SNAP_CTRL_SOLVE s
          else if flag s F.SNAP_STAT_VALID then startSolve s else s) s }
/-- SNAP_WIN_i (R424). -/
def ruleSnapWin : RegRule :=
  { plainRule with
      view := fun s _ ix _ => snapWinWord s (ix.headD 0)
      readState := fun s _ => flag s F.SNAP_STAT_CAP_BUSY }

/-- The rules of feedback, analog inputs and pass-through pins. -/
def rulesFb (b : Nat) : RegRule :=
  if b = Reg.FB_CFG.base then ruleFbCfg
  else if b = Reg.FB_THR.base then ruleFbThr
  else if b = Reg.FB_SSI.base then ruleFbSsi
  else if b = Reg.FB_FILT.base ∨ b = Reg.FB_CHK.base ∨ b = Reg.FB_SCALE.base then ruleFbConf
  else if b = Reg.FB_COUNT.base then ruleFbCount
  else if b = Reg.FB_SPEED.base then ruleFbSpeed
  else if b = Reg.FB_CTRL.base then ruleFbCtrl
  else if b = Reg.FB_CMPCTRL.base then ruleCmpCtrl
  else if b = Reg.FB_CMPVAL.base ∨ b = Reg.FB_CMPSTEP.base then ruleCmpValue
  else if b = Reg.PT_CFG.base then rulePtCfg
  else if b = Reg.PT_STAT.base then rulePtStat
  else if b = Reg.FB_GLOBAL.base then ruleFbGlobal
  else plainRule
/-- The rules of navigation and pose. -/
def rulesNav (b : Nat) : RegRule :=
  if b = Reg.GNSS_CTRL.base then ruleGnssCtrl
  else if b = Reg.TRK_CFG.base then ruleTrkCfg
  else if b = Reg.TRK_LOOP.base then ruleTrkLoop
  else if b = Reg.SPEED_SRC.base then ruleSpeedSrc
  else if b = Reg.CORR_FEED.base then ruleCorrFeed
  else if b = Reg.SNAP_CTRL.base then ruleSnapCtrl
  else if b = Reg.SNAP_WIN.base then ruleSnapWin
  else plainRule

end Sys2Proof.Machine
end

