-- ==== Sys2Proof/Machine/Service.lean ====
section
/-! DEFINITION. Jasper's expiry, meter checks, self-tests on demand, automatic heartbeat and the LEDs
(R593 to R609). -/
namespace Sys2Proof.Machine

/-- Replace the service state. -/
def setSvc (x : Service) (s : State) : State := { s with svc := x }

/-- An enabling write of a Jasper register is recorded and restarts the expiry (R606, R608). -/
def jasperEnabled (addr : Nat) (v : Word) (s : State) : State :=
  raise 3 17 0 .jasperEnabled [addr, v.toNat] (setSvc { s.svc with jasEnd := some (s.mtime + 60 * sec) } s)
/-- JAS_CTRL.REFRESH (R608). -/
def jasRefresh (s : State) : State :=
  if s.svc.jasEnd.isSome then setSvc { s.svc with jasEnd := some (s.mtime + 60 * sec) } s else s
/-- Every Jasper field returns to zero, at OFF or at expiry (R608). -/
def jasOff (s : State) : State := raise 2 17 0 .jasperEnded [] (clearJasper s)
/-- JASPER_EXPIRY (R608). -/
def jasperExpiry (s : State) : State :=
  match s.svc.jasEnd with
  | none => s
  | some t => jasOff (atTime t s)
/-- JAS_STAT.ACTIVE; INJECT acts at once, so that bit 4 never shows. DEDUCED, log entry 59. -/
def jasActive (s : State) : Nat :=
  let b (k : Nat) (x : Bool) : Nat := if x then 2 ^ k else 0
  b 0 (anyField s ((List.range 128).map F.JAS_QBP_DUTY)) + b 1 (anyField s ((List.range 19).map F.JAS_QDLY_DELAY)) +
    b 2 (fget s F.JAS_SCHED_RATE != 0) + b 3 (anyField s ((List.range 6).map F.JAS_BUS_EVERY) || !s.svc.oneshot.isEmpty) +
    b 5 (fget s F.JAS_NAV_DELAY != 0) + b 6 (fget s F.JAS_ONYX_ADD != 0) + b 7 (fget s F.JAS_TAP_OFFSET != 0)
/-- Seconds until a moment, zero without one; the rounding is open (DESIGN CHOICE, log entry 8). -/
def secondsLeft (s : State) : Option Nat → Nat
  | none => 0
  | some t => roundOpen (t - s.mtime) sec

/-- The words of a memory of JAS_ECC_ADDR: common memory, a local memory, queue SRAM, Onyx SRAM (R609). -/
def eccWordsOf : Nat → Nat
  | 0 => 262144
  | 1 => 1024
  | 2 => 2 * ((List.range 128).map depth).sum
  | _ => 1048576
/-- JAS_ECC_CTRL.INJECT (R609): the next read of the word meets it. -/
def eccInject (s : State) : State :=
  let w := (fget s F.JAS_ECC_ADDR_MEM, fget s F.JAS_ECC_ADDR_GATHER, fget s F.JAS_ECC_ADDR_ADDR, flag s F.JAS_ECC_CTRL_DOUBLE)
  { s with rcv := { s.rcv with eccWords := s.rcv.eccWords ++ [w] } }
/-- JAS_BUSp.ONESHOT (R609): once into the next frame sent. -/
def busOneshot (p : Nat) (s : State) : State :=
  if s.svc.oneshot.contains p then s else setSvc { s.svc with oneshot := s.svc.oneshot ++ [p] } s

/-- The target values of each meter check (R601, SVC_METER). -/
def meterTargets : Nat → Nat
  | 3 => 2
  | 4 => 64
  | 5 => 12
  | 6 => 24
  | 7 => 16
  | 8 => 8
  | 9 => 16
  | 10 => 6
  | _ => 128
/-- The output that an hs, hb or lp check probes. -/
def meterOut (check target : Nat) : Option Nat :=
  if check = 4 then some target else if check = 5 then some (64 + target) else if check = 9 then some (76 + target / 2) else none
/-- Whether a check is refused with STATE (R601). -/
def meterRefused (s : State) (check target : Nat) : Bool :=
  decide (check ≠ 0) &&
    ((match meterOut check target with | some n => armed s n | none => anyArmed s) ||
     (bench s && (decide (check = 2) || decide (check = 3) || (decide (check = 8) && flag s (F.PT_CFG_LEVEL target)))))

/-- Write a setting for a check and keep its value before (R602). -/
def meterSet (a : Nat) (w : Word) (s : State) : State :=
  wr (setSvc { s.svc with meterSave := s.svc.meterSave ++ [(a, rd s a)] } s) a w
/-- The settings of a check (R603's table). -/
def meterSetup (check target : Nat) (s : State) : State :=
  match check with
  | 1 => meterSet A.FB_GLOBAL (withBits (rd s A.FB_GLOBAL) 0 0 1) s
  | 2 =>
    let was := flag s F.FB_GLOBAL_SNS_PWR_12V
    let s := meterSet A.FB_GLOBAL (withBits (withBits (rd s A.FB_GLOBAL) 1 1 1) 2 2 1) s
    onlyIf (!was) snsLevelChange s
  | 4 => setSvc { s.svc with meterHeld := some target } s
  | 5 => setSvc { s.svc with meterHeld := some (64 + target) } s
  | 6 => meterSet (A.FB_CFG target) (withBits (rd s (A.FB_CFG target)) 5 5 1) s
  | 8 => meterSet (A.PT_CFG target) (withBits (withBits (withBits (rd s (A.PT_CFG target)) 2 0 0) 16 16 0) 17 17 1) s
  | 10 =>
    let s := meterSet (A.PORT_CFG target) (withBits (rd s (A.PORT_CFG target)) 3 3 1) s
    let init := flag s (F.PORT_CTRL_INIT target)
    let s := meterSet (A.PORT_CTRL target) (withBits (rd s (A.PORT_CTRL target)) 0 0 1) s
    onlyIf (!init) (portInit target true) s
  | _ => s
/-- What the end of a check brings back beside the registers (R602): the port leaves INIT, the channel may
switch again, the sensor supply returns to its level. -/
def meterRestore (s : State) : State :=
  let c := fget s F.SVC_METER_CHECK
  let t := fget s F.SVC_METER_TARGET
  let held := s.svc.meterHeld
  let was12 := flag s F.FB_GLOBAL_SNS_PWR_12V
  let s := endMeter s
  let s := onlyIf (decide (c = 10) && !flag s (F.PORT_CTRL_INIT t)) (portInit t false) s
  let s := onlyIf (decide (c = 2) && (flag s F.FB_GLOBAL_SNS_PWR_12V != was12)) snsLevelChange s
  match held with
  | some n => settle n s.mtime s
  | none => s
/-- A check ends (R602). -/
def meterOff (s : State) : State := if s.svc.meterEnd.isSome then meterRestore s else s
/-- Any reset ends a meter check and the automatic heartbeat (R598, R602). DEDUCED, log entry 84. -/
def portReset (s : State) : State :=
  let s := meterOff s
  setOwn { s.own with autoHb := false } s
/-- A change after which a new engine reset, if it started one, reaches the service port too. -/
def withPortReset (f : State → State) (s : State) : State :=
  let t := f s
  if (t.start.engineAt.isSome && decide (t.start.engineAt ≠ s.start.engineAt)) || (t.start.engineHeld && !s.start.engineHeld)
  then portReset t else t
/-- A check starts (R601, R602): a running one ends first. -/
def meterStart (check target : Nat) (s : State) : State :=
  let s := meterOff s
  if check = 0 then s
  else
    let s := setSvc { s.svc with meterEnd := some (s.mtime + 600 * sec), meterSave := [], meterHeld := none } s
    let s := fset (fset (fset s F.SVC_METER_CHECK check) F.SVC_METER_TARGET target) F.SVC_STAT_METER_ACTIVE 1
    let s := meterSetup check target s
    match s.svc.meterHeld with
    | some n => settle n s.mtime s
    | none => s
/-- METER_CHECK_TIMEOUT (R602). -/
def meterTimeout (s : State) : State :=
  match s.svc.meterEnd with
  | none => s
  | some t => meterOff (atTime t s)
/-- METER_MEASUREMENT (R603): the pin's voltage; above 6.0 V the source disconnects and the pin is fed. DESIGN CHOICE, log entry 80. -/
def meterMeasure (mv : Int) (s : State) : State :=
  if s.svc.meterEnd.isNone then s
  else
    let c := fget s F.SVC_METER_CHECK
    let s := fset s F.SVC_METER_VAL_MV (if c = 10 then 0 else (mv % 65536).toNat)
    let s := fbool s F.SVC_METER_VAL_FED (decide (6000 < mv) && decide (c ≠ 10))
    fbool s F.SVC_METER_VAL_LINE (decide (c = 6) && flag s (F.FB_STAT_LINE (fget s F.SVC_METER_TARGET)))
/-- The final reply of a check: its reading, with the line and the threshold of an fb check (R597, R603). -/
def meterReply (s : State) : Reply :=
  let c := fget s F.SVC_METER_CHECK
  if c = 10 then .okValue .ok []
  else .meter (fgetS s F.SVC_METER_VAL_MV) (flag s F.SVC_METER_VAL_FED) (flag s F.SVC_METER_VAL_LINE)
    (if c = 6 then fget s (F.FB_THR_THR (fget s F.SVC_METER_TARGET)) else 0)

/-- LED_RUN's patterns (R600). -/
inductive LedRun where
  | off | doubleFlash | shortFlash | blink4 | steady | blink1
deriving DecidableEq, Repr
/-- LED_HEALTH's patterns (R600); amber with its number of blinks. -/
inductive LedHealth where
  | red | amber (blinks : Nat) | redBlink | green
deriving DecidableEq, Repr
/-- What LED_RUN shows (R600). -/
def ledRun (s : State) : LedRun :=
  if !running s || s.start.halted then .off
  else if perturbed s then .doubleFlash
  else if bench s then .shortFlash
  else if phase s < 4 || s.start.warmAt.isSome then .blink4
  else if anyArmed s then .steady
  else .blink1
/-- The lowest set bit of a mask of n bits. -/
def lowestBit (m n : Nat) : Nat := ((List.range n).find? (fun k => m / 2 ^ k % 2 == 1)).getD 0
/-- What LED_HEALTH shows (R600). -/
def ledHealth (s : State) : LedHealth :=
  if s.start.halted then .red
  else if flag s F.HEALTH_CULLET then .amber (lowestBit (fget s F.CULLET_CAUSE_CAUSE) 7 + 1)
  else if (List.range 84).any (fun n => (outOf s n).latched) || flag s F.HEALTH_POSTURED ||
      (List.range 128).any (fun g => decide ((gatherOf s g).phase = .fault)) then .redBlink
  else .green

end Sys2Proof.Machine
end

