-- ==== Sys2Proof/Machine/RulesSys.lean ====
section
/-! DEFINITION. The registers of the SYS and SVC domains beyond their field types: ownership, keys, supplies,
health, staging, the Agate's reader, start-up, service and Jasper. -/
namespace Sys2Proof.Machine

/-- Whether the unlock of a master is in force (R91, R92). -/
def unlocked (s : State) (m : Master) : Bool :=
  match tabGet (fun _ => Unlock.no) s.acc.unlock m.num with
  | .no => false
  | .till t => decide (s.mtime ≤ t)
  | .held => true
/-- Set a master's unlock. -/
def setUnlock (m : Master) (u : Unlock) (s : State) : State :=
  { s with acc := { s.acc with unlock := tabSet (fun _ => Unlock.no) s.acc.unlock m.num u } }

/-- SUPPLY_VOLT and BASE_TEMP: what the Askat measures there is free in the bits of its fields; reserved bits read zero
(R13, R54, DESIGN CHOICE, log entry 11). -/
def ruleMeasured (bits : Nat) : RegRule :=
  { plainRule with view := fun s _ _ _ => BitVec.ofNat 32 (Config.free s.freeCtr % 2 ^ bits) }
/-- KEY_UNLOCK with its right value (R91). -/
def ruleKeyUnlock : RegRule :=
  { plainRule with
      stores := false, view := fun _ _ _ _ => 0
      effect := fun c s => if c.cmds = 0 then s else setUnlock c.m (.till (s.mtime + us)) s }
/-- KEY_STAT. -/
def ruleKeyStat : RegRule :=
  { plainRule with
      view := fun s _ _ w =>
      putFlag (putFlag (putFlag w F.KEY_STAT_HSPI_UNLOCKED (unlocked s .host)) F.KEY_STAT_BUS_UNLOCKED (unlocked s .bus))
        F.KEY_STAT_SVC_UNLOCKED (unlocked s .gaffer) }

/-- The eight words of the staging copy of OEM_KEY_HASH (R96). -/
def hashWords (s : State) : List Word := (List.range 8).map (fun i => rd s (A.OEM_KEY_HASH i))
/-- OEM_KEY_HASHn (R95, R96): the stored word once LOCKED, when no write changes it, and the staged word before. -/
def ruleHash : RegRule :=
  { plainRule with
      stores := false
      view := fun s _ ix w => if flag s F.OEM_KEY_CTRL_LOCKED then s.nv.oemHash.getD (ix.headD 0) 0 else w
      once := fun c s => flag s F.OEM_KEY_CTRL_LOCKED && c.data != c.old
      effect := fun c s => if flag s F.OEM_KEY_CTRL_LOCKED then s else wr s c.addr c.new }
/-- OEM_KEY_CTRL.COMMIT (R86, R96): a commit while one runs is queued; it runs on a locked hash, which it leaves. -/
def commitHash (s : State) : State :=
  if flag s F.OEM_KEY_CTRL_LOCKED then s
  else if flag s F.OEM_KEY_CTRL_BUSY then queueCmd F.OEM_KEY_CTRL_COMMIT s
  else fset { s with acc := { s.acc with oemStored := hashWords s, commitDone := some (s.mtime + 5 * ms) } } F.OEM_KEY_CTRL_BUSY 1
/-- OEM_KEY_COMMIT_DONE (R96). -/
def commitDone (s : State) : State :=
  match s.acc.commitDone with
  | none => s
  | some t =>
    let s := atTime t s
    let s := { s with nv := { s.nv with oemHash := s.acc.oemStored } }
    let s := { s with acc := { s.acc with commitDone := none, queued := s.acc.queued.erase F.OEM_KEY_CTRL_COMMIT } }
    fset (fset s F.OEM_KEY_CTRL_LOCKED 1) F.OEM_KEY_CTRL_BUSY 0
/-- OEM_KEY_CTRL (R96, R97). -/
def ruleOem : RegRule :=
  { plainRule with
      view := fun s _ _ w => putFlag w F.OEM_KEY_CTRL_COMMIT (flag s F.OEM_KEY_CTRL_BUSY)
      once := fun c s => c.cmd F.OEM_KEY_CTRL_COMMIT && flag s F.OEM_KEY_CTRL_LOCKED && decide (s.nv.oemHash ≠ hashWords s)
      value := fun c s => c.cmd F.OEM_KEY_CTRL_COMMIT && !flag s F.OEM_KEY_CTRL_LOCKED && (hashWords s).all (· == 0)
      effect := fun c s => onCmd c F.OEM_KEY_CTRL_COMMIT commitHash s }

/-- BUS_SESSION (R121, R122). -/
def ruleSession : RegRule :=
  { plainRule with
      view := fun s _ _ w => putFlag w F.BUS_SESSION_HELD (sessionHeld s)
      state := fun c s => c.cmd F.BUS_SESSION_DROP && decide (ownerCode s = 2)
      effect := fun c s => onCmd c F.BUS_SESSION_DROP (fun s => if flag s F.BUS_SESSION_OPEN then endSession s else s) s }
/-- OWN_STAT: the heartbeat time left stands still during a supervisor restart (R553). -/
def ruleOwnStat : RegRule :=
  { plainRule with
      view := fun s _ _ w =>
      if ownerCode s = 0 then putField w F.OWN_STAT_HB_LEFT 0
      else putField w F.OWN_STAT_HB_LEFT (roundOpen (s.own.hbDeadline - s.start.supervisorAt.getD s.mtime) (100 * ms)) }
/-- The slots of a written order. -/
def orderOf (c : WriteCtx) : List Nat :=
  [c.get F.OWN_CFG_ORDER0, c.get F.OWN_CFG_ORDER1, c.get F.OWN_CFG_ORDER2].filter (· != 0)
/-- OWN_CFG (R133). -/
def ruleOwnCfg : RegRule :=
  { plainRule with
      value := fun c _ => !(orderOf c).Nodup
      state := fun c s => decide (ownerCode s ≠ 0) && !(orderOf c).contains (ownerCode s) }
/-- OWN_CLAIM (R125, R126). -/
def ruleClaim : RegRule :=
  { plainRule with
      stores := false, view := fun _ _ _ _ => 0
      state := fun c s => decide (c.get F.OWN_CLAIM_CLAIM = 1) && claimRefused s c.m.code
      effect := fun c s => if c.get F.OWN_CLAIM_CLAIM = 1 then claimBy c.m.code s else s }
/-- OWN_HANDOVER (R126, R128). -/
def ruleHandover : RegRule :=
  { plainRule with
      stores := false, view := fun s _ _ _ => BitVec.ofNat 32 (fget s F.OWN_STAT_TARGET)
      value := fun c s => decide (4 ≤ c.get F.OWN_HANDOVER_TARGET ∧ c.get F.OWN_HANDOVER_TARGET ≤ 6) || handoverRefused s (c.get F.OWN_HANDOVER_TARGET) == some .value
      state := fun c s => handoverRefused s (c.get F.OWN_HANDOVER_TARGET) == some .state
      effect := fun c s => handover (c.get F.OWN_HANDOVER_TARGET) s }
/-- OWN_ACCEPT (R126, R128). -/
def ruleAccept : RegRule :=
  { plainRule with
      state := fun c s => c.cmd F.OWN_ACCEPT_ACCEPT && acceptRefused s c.m.code
      effect := fun c s => onCmd c F.OWN_ACCEPT_ACCEPT (acceptBy c.m.code) s }
/-- OWN_HEARTBEAT (R129). -/
def ruleHeartbeat : RegRule := { plainRule with effect := fun c s => onCmd c F.OWN_HEARTBEAT_REFRESH refreshHeartbeat s }
/-- OWN_SEIZE (R130): the Gaffer port only. -/
def ruleSeize : RegRule :=
  { plainRule with
      state := fun c s => decide (c.m ≠ .gaffer) || (c.cmd F.OWN_SEIZE_SEIZE && seizeRefused s)
      effect := fun c s => onCmd c F.OWN_SEIZE_SEIZE seize s }

/-- HEALTH.HOLD_ACTIVE follows the reset hold window (R557). -/
def ruleHealth : RegRule :=
  { plainRule with view := fun s _ _ w => putFlag w F.HEALTH_HOLD_ACTIVE s.rcv.holdEnd.isSome }
/-- Whether a command of RESET_CTRL.ENGINE runs or is queued (R87): an engine reset of another cause is no command. -/
def engineCommanded (s : State) : Bool :=
  (s.start.engineAt.isSome && decide (fget s F.RESET_STAT_KIND = 1) && decide (fget s F.RESET_STAT_CAUSE = 1)) ||
    s.acc.queued.contains F.RESET_CTRL_ENGINE
/-- RESET_CTRL (R552): a warm reset covers an engine reset; an ENGINE during an engine reset is queued once (R86). -/
def ruleReset : RegRule :=
  { plainRule with
      view := fun s _ _ w => putFlag w F.RESET_CTRL_ENGINE (engineCommanded s)
      effect := fun c s =>
        if c.cmd F.RESET_CTRL_WARM then warmReset 1 s
        else onCmd c F.RESET_CTRL_ENGINE (fun s =>
          if s.start.engineAt.isSome then queueCmd F.RESET_CTRL_ENGINE s else withPortReset (engineReset 1) s) s }

/-- Whether CFG_CTRL refuses a command with STATE (R568 to R570). DEDUCED, log entry 76. -/
def cfgRefused (c : WriteCtx) (s : State) : Bool :=
  let busy := flag s F.CFG_STAT_CHECK_BUSY
  let pend := flag s F.CFG_STAT_ACT_PEND
  let act := decide (fget s F.CFG_STAT_RESULT ≠ 1) || busy || !staging s
  (c.cmd F.CFG_CTRL_STAGE_OPEN && staging s) || (c.cmd F.CFG_CTRL_CHECK && (!staging s || pend)) ||
    ((c.cmd F.CFG_CTRL_ACT_ARM || c.cmd F.CFG_CTRL_ACT_NOW) && act) || (c.cmd F.CFG_CTRL_ACT_NOW && anyArmed s) ||
    (c.cmd F.CFG_CTRL_ACT_ARM && decide (c.get F.CFG_CTRL_BY_GTIME = 1) && !(decide (timeState s = 1) || decide (timeState s = 2)))
/-- An activation is armed (R570): at once for the next tick, or for CFG_ACT. -/
def cfgArm (now : Bool) (s : State) : State :=
  fset (setStage { s.stage with actNow := now } s) F.CFG_STAT_ACT_PEND 1
/-- CFG_CTRL (R568 to R570); a CHECK while one runs is queued once (R86). -/
def ruleCfgCtrl : RegRule :=
  { plainRule with
      view := fun s _ _ w => putFlag w F.CFG_CTRL_CHECK (flag s F.CFG_STAT_CHECK_BUSY)
      state := cfgRefused
      effect := fun c s =>
        let s := onCmd c F.CFG_CTRL_STAGE_OPEN stageOpen s
        let s := onCmd c F.CFG_CTRL_CHECK (fun s => if flag s F.CFG_STAT_CHECK_BUSY then queueCmd F.CFG_CTRL_CHECK s else cfgCheck s) s
        let s := onCmd c F.CFG_CTRL_ACT_ARM (cfgArm false) s
        let s := onCmd c F.CFG_CTRL_ACT_NOW (cfgArm true) s
        onCmd c F.CFG_CTRL_DISCARD cfgDiscard s }
/-- CFG_GEN and CFG_ACT hold still while an activation is armed (R570). -/
def ruleCfgHeld : RegRule := { plainRule with state := fun _ s => flag s F.CFG_STAT_ACT_PEND }
/-- A peer newly or differently described starts afresh (R573). -/
def rulePeer : RegRule :=
  { plainRule with
      effect := fun c s =>
      if c.new = c.old then s else setPeer c.i { PeerRound.init with lastComplete := s.mtime } s }

/-- AGATE_CTRL (R541, R543). DEDUCED, log entry 77. -/
def ruleAgateCtrl : RegRule :=
  { plainRule with
      state := fun c s => c.cmd F.AGATE_CTRL_CLEAR && anyArmed s
      effect := fun c s =>
        let s := onCmd c F.AGATE_CTRL_RD_FIRST rdFirst s
        let s := onCmd c F.AGATE_CTRL_RD_NEXT rdNext s
        let s := onCmd c F.AGATE_CTRL_RD_SEQ rdSeq s
        onCmd c F.AGATE_CTRL_CLEAR (clearStore c.m) s }
/-- AGATE_STAT: the level of Q103 and a running flood. -/
def ruleAgateStat : RegRule :=
  { plainRule with
      view := fun s _ _ w =>
      putFlag (putField w F.AGATE_STAT_LEVEL s.agate.q103.length) F.AGATE_STAT_FLOOD s.agate.flood.isSome }

/-- STARTUP_CTRL.FACTORY (R584). -/
def ruleFactory : RegRule :=
  { plainRule with
      state := fun c s => c.cmd F.STARTUP_CTRL_FACTORY && anyArmed s
      effect := fun c s => onCmd c F.STARTUP_CTRL_FACTORY factory s }
/-- STBY_CTRL.ENTER (R586). -/
def ruleStandby : RegRule :=
  { plainRule with
      state := fun c s => c.cmd F.STBY_CTRL_ENTER && standbyRefused s
      effect := fun c s => onCmd c F.STBY_CTRL_ENTER standbyEnter s }

/-- SVC_METER (R601, R602). -/
def ruleMeter : RegRule :=
  { plainRule with
      stores := false, view := fun s _ _ w => putField w F.SVC_METER_LEFT (secondsLeft s s.svc.meterEnd)
      value := fun c _ => decide (10 < c.get F.SVC_METER_CHECK) || decide (meterTargets (c.get F.SVC_METER_CHECK) ≤ c.get F.SVC_METER_TARGET)
      state := fun c s => decide (c.m ≠ .gaffer) || meterRefused s (c.get F.SVC_METER_CHECK) (c.get F.SVC_METER_TARGET)
      effect := fun c s => meterStart (c.get F.SVC_METER_CHECK) (c.get F.SVC_METER_TARGET) s }

/-- A self-test unit's number of SVC_TEST (R604). -/
def testRefused (s : State) (unit port : Nat) : Bool :=
  match unit with
  | 3 => bench s
  | 4 => anyOutArmed s
  | 5 => anyOutArmed s
  | 6 => decide (6 ≤ port) || !flag s (F.PORT_CTRL_INIT port)
  | 7 => anyArmed s || (List.range 128).any (fun g => decide ((gatherOf s g).phase ≠ .stopped ∧ (gatherOf s g).phase ≠ .halted ∧ (gatherOf s g).phase ≠ .fault))
  | 8 => anyArmed s || (List.range 128).any (fun g => decide ((gatherOf s g).phase ≠ .stopped ∧ (gatherOf s g).phase ≠ .halted ∧ (gatherOf s g).phase ≠ .fault))
  | _ => false
/-- The longest time of a unit's test (R604). -/
def testTime : Nat → Nat
  | 1 => 2 * sec
  | 2 => 20 * ms
  | 3 => sec
  | 4 => 100 * ms
  | 5 => 200 * ms
  | 6 => 50 * ms
  | 7 => 50 * ms
  | _ => 300 * ms
/-- The units that a test runs: `all` runs every unit whose condition holds (R604). -/
def testUnits (s : State) (unit port : Nat) : List Nat :=
  if unit = 0 then [1, 2, 3, 4, 5, 6, 7, 8].filter (fun u => !testRefused s u port) else [unit]
/-- SVC_TEST.GO (R604): a GO while a test runs is queued once (R86). -/
def testStart (s : State) : State :=
  if s.svc.testEnd.isSome then queueCmd F.SVC_TEST_GO s
  else
    let us := testUnits s (fget s F.SVC_TEST_UNIT) (fget s F.SVC_TEST_PORT)
    let s := setSvc { s.svc with testAll := us, testEnd := some (s.mtime + (us.map testTime).sum) } s
    fset (fset s F.SVC_STAT_TEST_BUSY 1) F.SVC_TEST_BUSY 1
/-- SVC_TEST (R604). -/
def ruleTest : RegRule :=
  { plainRule with
      view := fun s _ _ w => putFlag w F.SVC_TEST_GO s.svc.testEnd.isSome
      state := fun c s => decide (c.m ≠ .gaffer) ||
        (c.cmd F.SVC_TEST_GO && testRefused s (c.get F.SVC_TEST_UNIT) (c.get F.SVC_TEST_PORT))
      effect := fun c s => onCmd c F.SVC_TEST_GO testStart s }

/-- SVC_STAT (R593, R594, R598). DEDUCED, log entry 87. -/
def ruleSvcStat : RegRule :=
  { plainRule with
      view := fun s _ _ w =>
      putFlag (putFlag w F.SVC_STAT_AUTO_HB s.own.autoHb) F.SVC_STAT_UART_ACTIVE (!flag s F.SVC_STAT_USB_OPEN) }

/-- Whether a write makes a perturbation active (R606). -/
def enables (c : WriteCtx) (f : Fld) : Bool := c.covers f && decide (c.get f ≠ 0)
/-- A Jasper register whose field f is its perturbation; queueOne: whether ARMED_OK allows it (R606). -/
def ruleJasper (f : Fld) (queueOne : Bool) : RegRule :=
  { plainRule with
      state := fun c s => enables c f && anyArmed s && !(queueOne && flag s F.JAS_CTRL_ARMED_OK)
      effect := fun c s => if enables c f then jasperEnabled c.addr c.new s else s }
/-- JAS_BUSp (R606, R609): EVERY, or one frame by ONESHOT. -/
def ruleJasBus : RegRule :=
  { plainRule with
      view := fun s _ ix w => putFlag w (F.JAS_BUS_ONESHOT 0) (s.svc.oneshot.contains (ix.headD 0))
      state := fun c s => (enables c (F.JAS_BUS_EVERY 0) || c.cmd (F.JAS_BUS_ONESHOT 0)) && anyArmed s
      effect := fun c s =>
        let s := onCmd c (F.JAS_BUS_ONESHOT 0) (busOneshot c.i) s
        if enables c (F.JAS_BUS_EVERY 0) || c.cmd (F.JAS_BUS_ONESHOT 0) then jasperEnabled c.addr c.data s else s }
/-- JAS_CTRL (R606, R608). -/
def ruleJasCtrl : RegRule :=
  { plainRule with
      view := fun _ _ _ w => putField w F.JAS_CTRL_ARMED_KEY 0
      value := fun c _ => c.covers F.JAS_CTRL_ARMED_OK && decide (c.get F.JAS_CTRL_ARMED_OK = 1) && decide (c.put F.JAS_CTRL_ARMED_KEY ≠ 0x5A3C)
      effect := fun c s =>
        let s := fset s F.JAS_CTRL_ARMED_KEY 0
        let s := onCmd c F.JAS_CTRL_REFRESH jasRefresh s
        onCmd c F.JAS_CTRL_OFF jasOff s }
/-- JAS_STAT (R606, R608). -/
def ruleJasStat : RegRule :=
  { plainRule with
      view := fun s _ _ w =>
      putField (putField w F.JAS_STAT_LEFT (secondsLeft s s.svc.jasEnd)) F.JAS_STAT_ACTIVE (jasActive s) }
/-- JAS_ECC_ADDR: a word beyond its memory is refused (R609). -/
def ruleEccAddr : RegRule :=
  { plainRule with
      value := fun c _ =>
      decide (3 < c.get F.JAS_ECC_ADDR_MEM) || decide (eccWordsOf (c.get F.JAS_ECC_ADDR_MEM) ≤ c.get F.JAS_ECC_ADDR_ADDR) }
/-- JAS_ECC_CTRL (R606, R609). -/
def ruleEccCtrl : RegRule :=
  { plainRule with
      state := fun c s => c.cmd F.JAS_ECC_CTRL_INJECT && anyArmed s
      effect := fun c s => onCmd c F.JAS_ECC_CTRL_INJECT (fun s => jasperEnabled c.addr c.data (eccInject s)) s }

/-- The rules of the registers below 0x8000 and of the Agate, the service registers and Jasper. -/
def rulesSys (b : Nat) : RegRule :=
  if b = Reg.SUPPLY_VOLT.base then ruleMeasured 32
  else if b = Reg.BASE_TEMP.base then ruleMeasured 16
  else if b = Reg.KEY_UNLOCK.base then ruleKeyUnlock
  else if b = Reg.KEY_STAT.base then ruleKeyStat
  else if b = Reg.OEM_KEY_HASH.base then ruleHash
  else if b = Reg.OEM_KEY_CTRL.base then ruleOem
  else if b = Reg.BUS_SESSION.base then ruleSession
  else if b = Reg.OWN_STAT.base then ruleOwnStat
  else if b = Reg.OWN_CFG.base then ruleOwnCfg
  else if b = Reg.OWN_CLAIM.base then ruleClaim
  else if b = Reg.OWN_HANDOVER.base then ruleHandover
  else if b = Reg.OWN_ACCEPT.base then ruleAccept
  else if b = Reg.OWN_HEARTBEAT.base then ruleHeartbeat
  else if b = Reg.OWN_SEIZE.base then ruleSeize
  else if b = Reg.HEALTH.base then ruleHealth
  else if b = Reg.RESET_CTRL.base then ruleReset
  else if b = Reg.CFG_CTRL.base then ruleCfgCtrl
  else if b = Reg.CFG_GEN_LO.base ∨ b = Reg.CFG_GEN_HI.base ∨ b = Reg.CFG_ACT_LO.base ∨ b = Reg.CFG_ACT_HI.base then ruleCfgHeld
  else if b = Reg.FLEET_PEER.base then rulePeer
  else if b = Reg.STARTUP_CTRL.base then ruleFactory
  else if b = Reg.STBY_CTRL.base then ruleStandby
  else plainRule

/-- The rules of the Agate, the service registers and Jasper. -/
def rulesSvc (b : Nat) : RegRule :=
  if b = Reg.AGATE_CTRL.base then ruleAgateCtrl
  else if b = Reg.AGATE_STAT.base then ruleAgateStat
  else if b = Reg.SVC_STAT.base then ruleSvcStat
  else if b = Reg.SVC_METER.base then ruleMeter
  else if b = Reg.SVC_TEST.base then ruleTest
  else if b = Reg.JAS_CTRL.base then ruleJasCtrl
  else if b = Reg.JAS_STAT.base then ruleJasStat
  else if b = Reg.JAS_SCHED.base then ruleJasper F.JAS_SCHED_RATE false
  else if b = Reg.JAS_NAV.base then ruleJasper F.JAS_NAV_DELAY false
  else if b = Reg.JAS_ONYX.base then ruleJasper F.JAS_ONYX_ADD false
  else if b = Reg.JAS_TAP.base then ruleJasper F.JAS_TAP_OFFSET false
  else if b = Reg.JAS_BUS.base then ruleJasBus
  else if b = Reg.JAS_ECC_ADDR.base then ruleEccAddr
  else if b = Reg.JAS_ECC_CTRL.base then ruleEccCtrl
  else if b = Reg.JAS_QBP.base then ruleJasper (F.JAS_QBP_DUTY 0) true
  else if b = Reg.JAS_QDLY.base then ruleJasper (F.JAS_QDLY_DELAY 0) true
  else plainRule

end Sys2Proof.Machine
end

