-- ==== Sys2Proof/Machine/Access.lean ====
section
/-! DEFINITION. Register accesses of the masters: mailboxes, the checks in their order, reads, writes, keyed
writes, the bit alias window and refusals (R83 to R114, R123, R610). -/
namespace Sys2Proof.Machine

/-- A mailbox before its first REQ (R111). -/
def Mbx.init : Mbx := ⟨[0, 0, 0, 0], 0, false, false⟩
/-- A master's snapshot of mailbox k (R109). -/
def mbxOf (s : State) (m : Master) (k : Nat) : Mbx := tabGet (fun _ => Mbx.init) s.acc.mbx (16 * m.num + k)
/-- Replace a master's snapshot of mailbox k. -/
def setMbx (m : Master) (k : Nat) (x : Mbx) (s : State) : State :=
  { s with acc := { s.acc with mbx := tabSet (fun _ => Mbx.init) s.acc.mbx (16 * m.num + k) x } }
/-- The words of mailbox k now (R113, R114). -/
def mbxWords (s : State) (k : Nat) : List Word :=
  if k ≤ 3 then timeMailbox s k
  else if k = 4 then [loWord (optNow s), BitVec.ofNat 32 (optNow s / 2 ^ 32 % 65536), BitVec.ofNat 32 s.sup.pcc, 0]
  else if k ≤ 8 then (List.range 4).map (fun j => s.nav.lastRec.getD (4 * (k - 5) + j) 0)
  else if k ≤ 11 then fleetMailbox s k
  else if k = 12 then [loWord s.eng.issued, hiWord s.eng.issued, loWord s.eng.completed, hiWord s.eng.completed]
  else agateMailbox s
/-- The mailboxes that one REQ latches (R112, R113). -/
def mbxGroup (k : Nat) : List Nat :=
  if 5 ≤ k ∧ k ≤ 8 then [5, 6, 7, 8] else if 9 ≤ k ∧ k ≤ 11 then [9, 10, 11] else [k]
/-- MBX_CTRLk.REQ by a master (R110, R112): every member of the group from one instant. -/
def mbxLatch (m : Master) (k : Nat) (s : State) : State :=
  forAll (fun j s => setMbx m j ⟨mbxWords s j, ((mbxOf s m j).seq + 1) % 256, true, false⟩ s) (mbxGroup k) s
/-- A read of data word j of mailbox k by a master (R111). -/
def mbxRead (m : Master) (k j : Nat) (s : State) : State :=
  let x := mbxOf s m k
  setMbx m k { x with stale := x.stale || !x.valid, valid := x.valid && j != 3 } s
/-- MBX_CTRLk (R109, R110). -/
def ruleMbxCtrl : RegRule :=
  { plainRule with
      stores := false
      view := fun s m ix _ =>
        let x := mbxOf s m (ix.headD 0)
        putFlag (putFlag (putField 0 (F.MBX_CTRL_SEQ 0) x.seq) (F.MBX_CTRL_STALE 0) x.stale) (F.MBX_CTRL_VALID 0) x.valid
      effect := fun c s => onCmd c (F.MBX_CTRL_REQ c.i) (mbxLatch c.m c.i) s }
/-- MBX_DATAk_j (R111). -/
def ruleMbxData : RegRule :=
  { plainRule with
      stores := false
      view := fun s m ix _ => (mbxOf s m (ix.headD 0)).words.getD (ix.getD 1 0) 0 }

/-- The rule of a register, by its family's first address. -/
def ruleOf (b : Nat) : RegRule :=
  if b < 0x8000 then
    (if b = Reg.MBX_CTRL.base then ruleMbxCtrl else if b = Reg.MBX_DATA.base then ruleMbxData else rulesSys b)
  else if b < 0x10000 then rulesQueue b
  else if b < 0x1E000 then rulesEng b
  else if b < 0x20000 then rulesMap b
  else if b < 0x28000 then rulesChan b
  else if b < 0x30000 then rulesOut b
  else if b < 0x40000 then rulesPwm b
  else if b < 0x50000 then rulesFb b
  else if b < 0x60000 then rulesNav b
  else if b < 0x80000 then rulesTime b
  else if b < 0xE0000 then rulesBus b
  else if b < 0x100000 then rulesSvc b
  else rulesEng b

/-- The domain of queue q's producer and consumer side (R37, R338). -/
def queueDomain (producer : Bool) (q : Nat) : Domain :=
  if q < 84 then .act
  else if q = 84 then (if producer then .eng else .act)
  else if q ≤ 90 then (if producer then .eng else .bus)
  else if q ≤ 96 then (if producer then .bus else .eng)
  else if q = 97 then (if producer then .sys else .eng)
  else if q = 98 then (if producer then .gns else .eng)
  else if q ≤ 102 then (if producer then .fbk else .eng)
  else if q = 103 then .sys
  else .eng
/-- The domain of a register (R83, R338). -/
def domainOf (h : RegHit) : Domain :=
  match h.fam.dom with
  | .qProd => queueDomain true (h.idx.headD 0)
  | .qCons => queueDomain false (h.idx.headD 0)
  | d => d
/-- Whether the SYS domain is held in reset: the first 20 ms of a warm reset (R592). -/
def sysHeld (s : State) : Bool := match s.start.warmAt with | some t => decide (s.mtime < t + 20 * ms) | none => false
/-- Whether a domain is unpowered or held in reset (R102). -/
def domainOff (s : State) : Domain → Bool
  | .eng => sysHeld s || s.start.engineAt.isSome || s.start.engineHeld
  | .gns => sysHeld s || bench s
  | _ => sysHeld s

/-- Where an access goes: the register with its address, and the bit of an access through the alias window
(R98). -/
structure Place where
  hit : RegHit
  addr : Nat
  bit : Option Nat
deriving DecidableEq, Repr
/-- The register that an address names (R83, R98), none where it is unimplemented. -/
def locate (a : Nat) : Option Place :=
  if a < 0x800000 then (regAt a).map (fun h => ⟨h, a, none⟩)
  else if 0x1000000 ≤ a then none
  else
    let off := (a - 0x800000) / 4
    (regAt (off / 32 * 4)).map (fun h => ⟨h, off / 32 * 4, some (off % 32)⟩)

/-- A refused access (R104, R107): nothing but the error registers, the count and a record. -/
def refuse (m : Master) (isWrite : Bool) (a : Nat) (e : Err) (data : Word) (s : State) : State :=
  if !running s || sysHeld s then s
  else
    let s := fset (fset (fbool s (F.ACC_ERR_LAST_WRITE m.num) isWrite) (F.ACC_ERR_LAST_CODE m.num) e.num) (F.ACC_ERR_LAST_ADDRESS m.num) a
    let s := fsat s (F.ACC_ERR_CNT_COUNT m.num) 1
    raise e.severity 14 m.num .accessRefused ([(m.num : Int), a, e.num] ++ (if isWrite then [(data.toNat : Int)] else [])) s

/-- A master's transaction starts (R92): an unlock that it meets in time stays in force. -/
def beginTx (m : Master) (s : State) : State :=
  match tabGet (fun _ => Unlock.no) s.acc.unlock m.num with
  | .till _ => setUnlock m (if unlocked s m then .held else .no) s
  | _ => s

/-- The word of a register as its fields hold it: the staged value of image fields while staging is open (R568). -/
def baseWord (s : State) (h : RegHit) (a : Nat) : Word :=
  let img := BitVec.ofNat 32 (imageMask h.fam)
  if staging s && img != 0 then (rd s a &&& ~~~img) ||| (stagedWord s a &&& img) else rd s a
/-- The word that a read of a register returns. -/
def viewWord (r : RegRule) (m : Master) (h : RegHit) (a : Nat) (s : State) : Word := r.view s m h.idx (baseWord s h a)

/-- The field type that an alias access meets; none for a reserved bit. -/
def aliasTy (p : Place) : Option FTy := p.bit.bind (fun b => (bitField p.hit.fam.fields b).map (·.ty))
/-- Why a read of a register is refused (R102, R100, R105, R106). -/
def readErr (r : RegRule) (p : Place) (s : State) : Err :=
  if domainOff s (domainOf p.hit) then .power
  else if aliasTy p == some .mbx then .aliasErr
  else if r.readState s p.hit.idx then .state
  else .ok
/-- What a read of a register changes: a mailbox's VALID and STALE, and the free value that a measurement takes. -/
def readEffect (m : Master) (h : RegHit) (s : State) : State :=
  if h.fam.base = Reg.MBX_DATA.base then mbxRead m (h.idx.headD 0) (h.idx.getD 1 0) s
  else if h.fam.base = Reg.SUPPLY_VOLT.base ∨ h.fam.base = Reg.BASE_TEMP.base then { s with freeCtr := s.freeCtr + 1 }
  else s
/-- A read of a register by its rule; shown: the address of the access. -/
def readPlace (r : RegRule) (m : Master) (shown : Nat) (p : Place) (s : State) : Err × Word × State :=
  match readErr r p s with
  | .ok =>
    let w := viewWord r m p.hit p.addr s
    (.ok, (match p.bit with | some b => BitVec.ofNat 32 (bitsOf w b b) | none => w), readEffect m p.hit s)
  | e => (e, 0, refuse m false shown e 0 s)
/-- A read at an address (R84, R105, R106). -/
def readAccess (m : Master) (a : Nat) (s : State) : Err × Word × State :=
  if !running s || sysHeld s then (.power, 0, s)
  else if a % 4 ≠ 0 then (.align, 0, refuse m false a .align 0 s)
  else match locate a with
    | none => (.addr, 0, refuse m false a .addr 0 s)
    | some p => readPlace (ruleOf p.hit.fam.base) m a p s

/-- The bits that a write covers (R88, R99). -/
def selMask (p : Place) : Word := match p.bit with | some b => BitVec.ofNat 32 (2 ^ b) | none => 0xFFFFFFFF
/-- The written bits in their places (R99). -/
def spreadData (p : Place) (data : Word) : Word :=
  match p.bit with | some b => BitVec.ofNat 32 (data.toNat % 2 * 2 ^ b) | none => data
/-- The bits that belong to the staged image now. -/
def stagedBits (s : State) (h : RegHit) : Word := if staging s then BitVec.ofNat 32 (imageMask h.fam) else 0
/-- The write that reaches a register, each field by its type (R86, R88, R100). -/
def writeCtx (r : RegRule) (m : Master) (p : Place) (data : Word) (s : State) : WriteCtx :=
  let fs := p.hit.fam.fields
  let sel := selMask p
  let d := spreadData p data
  let old := if r.stores then baseWord s p.hit p.addr else viewWord r m p.hit p.addr s
  let load := loadMask p.bit.isNone fs &&& sel
  let kept := (old &&& ~~~load) ||| (d &&& load)
  { m := m, idx := p.hit.idx, addr := p.addr, data := d, sel := sel, old := old
    new := kept &&& ~~~(d &&& sel &&& typeMask .w1c fs), cmds := d &&& sel &&& typeMask .w1s fs }

/-- Whether a master may write a register (R123). A write that starts OWN_ACCEPT is judged by R128 and not here.
DEDUCED, log entry 71. -/
def mayWrite (s : State) (m : Master) (c : WriteCtx) (b : Nat) : Bool :=
  decide (ownerCode s = m.code) || b == Reg.KEY_UNLOCK.base || b == Reg.MBX_CTRL.base || b == Reg.OWN_CLAIM.base ||
    b == Reg.OWN_SEIZE.base ||
    (b == Reg.OWN_ACCEPT.base && (c.cmd F.OWN_ACCEPT_ACCEPT || (handoverPending s && decide (fget s F.OWN_STAT_TARGET = m.code))))
/-- Whether a write is key-guarded (R90, R91, R610). -/
def keyGuarded (p : Place) (c : WriteCtx) : Bool := hasKrw p.hit.fam.fields || (c.cmds &&& keyedMask p.hit.fam.fields) != 0
/-- Whether KEY_UNLOCK is written with a wrong value (R93, R100). -/
def keyWrong (p : Place) (c : WriteCtx) : Bool :=
  p.hit.fam.base == Reg.KEY_UNLOCK.base &&
    (if p.bit.isNone then decide (c.data.toNat % 65536 ≠ 0xB7E1) else c.cmds != 0)
/-- Whether a write acts on the machine and not on the staged image alone (R568). -/
def acts (p : Place) (c : WriteCtx) (s : State) : Bool :=
  stagedBits s p.hit == 0 || c.cmds != 0 || ((c.new ^^^ c.old) &&& ~~~stagedBits s p.hit) != 0
/-- The write as the active registers see it: staged image fields keep their active values (R568). DEDUCED, log entry 92. -/
def activeCtx (p : Place) (c : WriteCtx) (s : State) : WriteCtx :=
  let img := stagedBits s p.hit
  { c with new := (c.new &&& ~~~img) ||| (rd s p.addr &&& img), old := (c.old &&& ~~~img) ||| (rd s p.addr &&& img) }

/-- Why a write to a register is refused, the checks in their order (R100, R104, R106). -/
def writeErr (r : RegRule) (m : Master) (p : Place) (c : WriteCtx) (hasKey : Bool) (s : State) : Err :=
  let ty := aliasTy p
  let act := acts p c s
  let a := activeCtx p c s
  if domainOff s (domainOf p.hit) then .power
  else if ty == some .cnt || ty == some .won || ty == some .mbx then .aliasErr
  else if ty == some .ro || (p.bit.isNone && allReadOnly p.hit.fam.fields) then .readonly
  else if !mayWrite s m c p.hit.fam.base then .owner
  else if (keyGuarded p c && !hasKey) || keyWrong p c then .key
  else if r.once c s then .once
  else if rangeBad p.hit.fam.fields c.sel c.new || r.value c s then .value
  else if act && r.state a s then .state
  else if act && r.armed a s then .armed
  else .ok

/-- Whether an alias write has no effect: a reserved bit, or 0 to a flag or a command (R100). -/
def aliasIdle (p : Place) (data : Word) : Bool :=
  match p.bit with
  | none => false
  | some b => match bitField p.hit.fam.fields b with
    | none => true
    | some f => (f.ty == .w1c || f.ty == .w1s) && data.toNat % 2 == 0
/-- A check of the Gaffer port ends when it loses the punty (R602). -/
def meterOver (s : State) : State := if s.svc.meterEnd.isSome && ownerCode s != 3 then meterOff s else s
/-- The active image has changed: it is due to be stored (R567). -/
def imageChanged (h : RegHit) (c : WriteCtx) (s : State) : State :=
  if ((c.new ^^^ c.old) &&& BitVec.ofNat 32 (imageMask h.fam)) != 0 then setStage { s.stage with storeDue := true } s else s
/-- An accepted write takes effect (R86, R88, R568). -/
def applyWrite (r : RegRule) (p : Place) (c : WriteCtx) (s : State) : State :=
  let img := stagedBits s p.hit
  let a := activeCtx p c s
  let act := acts p c s
  let s := if (c.sel &&& img &&& loadMask p.bit.isNone p.hit.fam.fields) != 0 then stageWrite p.addr c.new s else s
  if act then meterOver (r.effect a (imageChanged p.hit a (if r.stores then wr s p.addr a.new else s))) else s

/-- A write to a register by its rule; shown: the address of the access (R85, R91, R106). -/
def writePlace (r : RegRule) (m : Master) (shown : Nat) (p : Place) (data : Word) (s : State) : Err × State :=
  let c := writeCtx r m p data s
  let hasKey := unlocked s m
  let s := if keyGuarded p c then setUnlock m .no s else s
  match writeErr r m p c hasKey s with
  | .ok => (.ok, if aliasIdle p data then s else applyWrite r p c s)
  | e => (e, refuse m true shown e data (if e = .key ∧ keyWrong p c then setUnlock m .no s else s))
/-- A write at an address (R84, R106). -/
def writeAccess (m : Master) (a : Nat) (data : Word) (s : State) : Err × State :=
  if !running s || sysHeld s then (.power, s)
  else if a % 4 ≠ 0 then (.align, refuse m true a .align data s)
  else match locate a with
    | none => (.addr, refuse m true a .addr data s)
    | some p => writePlace (ruleOf p.hit.fam.base) m a p data s
/-- A keyed write: the unlock, the target write, and the unlock ends (R94). A wrong key re-arms the lock and
names the target. DEDUCED, log entry 69. -/
def keyedWith (m : Master) (key : BitVec 16) (a : Nat) (data : Word) (target : State → Err × State) (s : State) : Err × State :=
  if !running s || sysHeld s then (.power, s)
  else if key ≠ 0xB7E1 then (.key, refuse m true a .key data (setUnlock m .no s))
  else
    let r := target (setUnlock m .held s)
    (r.1, setUnlock m .no r.2)
/-- A keyed write at an address (R94). -/
def keyedAccess (m : Master) (key : BitVec 16) (a : Nat) (data : Word) (s : State) : Err × State :=
  keyedWith m key a data (writeAccess m a data) s

/-- The last reply. -/
def setReply (r : Reply) (s : State) : State := { s with reply := r }
/-- A write of a master to a register that its command names: the reply is the status. -/
def rowWrite (r : RegRule) (m : Master) (h : RegHit) (a : Nat) (data : Word) (s : State) : State :=
  if !running s || sysHeld s then setReply (.okValue .power []) s
  else
    let x := writePlace r m a ⟨h, a, none⟩ data (beginTx m s)
    setReply (.okValue x.1 []) x.2
/-- A keyed write of a master to a register that its command names (R94). -/
def rowKeyed (r : RegRule) (m : Master) (key : BitVec 16) (h : RegHit) (a : Nat) (data : Word) (s : State) : State :=
  let x := keyedWith m key a data (writePlace r m a ⟨h, a, none⟩ data) (beginTx m s)
  setReply (.okValue x.1 []) x.2
/-- A write at an address, as a command of a master. -/
def addrWrite (m : Master) (a : Nat) (data : Word) (s : State) : State :=
  let x := writeAccess m a data (beginTx m s)
  setReply (.okValue x.1 []) x.2

end Sys2Proof.Machine
end

