-- ==== Sys2Proof/Machine/BusAccess.lean ====
section
/-! DEFINITION. Register access over the bus: sessions, accesses and their replies (R121, R122, R519 to R522). -/
namespace Sys2Proof.Machine

/-- A REPLY frame of port p to an address: kind, status, tag, the four data bytes, address bits 15:0 (R519). -/
def busReply (p dest kind : Nat) (e : Err) (tag : Nat) (data : List Byte) (addr : Nat) (s : State) : State :=
  let b : List Byte := [0x30, BitVec.ofNat 8 (e.num + 16 * (tag % 4) + 64 * kind)] ++ data ++ leBytes 2 (addr % 65536)
  setReply (.frame p dest b) (sendProt p (ownFrame dest (portAddr s p) b) s)
/-- The data bytes of a reply that carries none. -/
def noData : List Byte := List.replicate 4 0xFF
/-- A session reply: its tag and address bytes are free values, since its request carries none (DESIGN CHOICE, log entry 18). -/
def sessionReply (p dest : Nat) (e : Err) (s : State) : State :=
  let (v, s) := fresh s
  busReply p dest 3 e v noData (v / 4) s
/-- A refused OPEN or CLOSE names no address: what ACC_ERR_LAST shows is a free value (DESIGN CHOICE, log entry 18). -/
def refuseSession (p dest : Nat) (e : Err) (s : State) : State :=
  let (v, s) := fresh s
  sessionReply p dest e (refuse .bus false (v % 2 ^ 24) e 0 s)

/-- A KEYED_ADDR that is not completed is answered KEY (R521). DEDUCED, log entry 86. -/
def dropKeyed (k : KeyedAddr) (s : State) : State :=
  let s := refuse .bus true k.addr .key 0 { s with acc := { s.acc with keyed := none } }
  busReply k.port k.src 2 .key k.tag noData k.addr s
/-- Whether a request completes a pending KEYED_ADDR (R521). -/
def completes (k : KeyedAddr) : AccReq → Bool
  | .keyedData a t _ => a == k.addr && t == k.tag
  | _ => false
/-- The pending KEYED_ADDR of an identity. -/
def keyedOf (s : State) (p src : Nat) : Option KeyedAddr := s.acc.keyed.filter (fun k => k.port == p && k.src == src)

/-- A request from the holder or from another identity (R121, R122, R520). -/
def serveOpen (p src : Nat) (s : State) : State :=
  let same := decide (fget s F.BUS_SESSION_PORT = p) && decide (fget s F.BUS_SESSION_SRC = src)
  if isHolder s p src then sessionReply p src .ok (touchSession s)
  else if !flag s F.BUS_SESSION_OPEN && (!sessionHeld s || same) then sessionReply p src .ok (openSession p src s)
  else refuseSession p src .session s
/-- A CLOSE (R520). -/
def serveClose (p src : Nat) (s : State) : State :=
  if !isHolder s p src then refuseSession p src .session s
  else if ownerCode s = 2 then refuseSession p src .state (touchSession s)
  else sessionReply p src .ok (endSession s)
/-- An access by an identity: SESSION stands before every other check (R106). -/
def serveAccess (p src : Nat) (q : AccReq) (s : State) : State :=
  let holder := isHolder s p src
  match q with
  | .read a t =>
    let r := if holder then readAccess .bus a s else (.session, 0, refuse .bus false a .session 0 s)
    busReply p src 0 r.1 t (wordLe r.2.1) a r.2.2
  | .write a t v =>
    let r := if holder then writeAccess .bus a v s else (.session, refuse .bus true a .session v s)
    busReply p src 1 r.1 t noData a r.2
  | .keyedAddr a t k =>
    if holder then { s with acc := { s.acc with keyed := some ⟨p, src, k, a, t, s.mtime + 100 * ms⟩ } }
    else busReply p src 2 .session t noData a (refuse .bus true a .session 0 s)
  | .keyedData a t v =>
    let r := if holder then (.key, refuse .bus true a .key v s) else (.session, refuse .bus true a .session v s)
    busReply p src 2 r.1 t noData a r.2
  | _ => s
/-- Serve a request (R520, R521): the holder's frames restart its timeout; a pending KEYED_ADDR of the same
identity is completed by this request, or answered KEY before it. -/
def serveRequest (p src : Nat) (q : AccReq) (s : State) : State :=
  let s := beginTx .bus s
  match keyedOf s p src, q with
  | some k, .keyedData a t v =>
    if completes k q && decide (s.mtime ≤ k.deadline) && isHolder s p src then
      let r := keyedAccess .bus (BitVec.ofNat 16 k.key) a v (touchSession { s with acc := { s.acc with keyed := none } })
      busReply p src 2 r.1 t noData a r.2
    else
      let s := dropKeyed k s
      serveAccess p src q (onlyIf (isHolder s p src) touchSession s)
  | k, _ =>
    let s := match k with | some k => dropKeyed k s | none => s
    match q with
    | .open' => serveOpen p src s
    | .close => serveClose p src s
    | _ => serveAccess p src q (onlyIf (isHolder s p src) touchSession s)
/-- A register-access request (R522): the port serves the request that has waited longest where it is this one; a
request that does not wait yet arrives now, and is served at once if nothing waits before it. -/
def busAccess (p src : Nat) (q : AccReq) (s : State) : State :=
  if !onBus s p then s
  else
    let s := if (portOf s p).acc.head? = some (src, q) then s else frameReceived p (requestFrame s p src q) s.mtime s
    let x := portOf s p
    match x.acc with
    | (a, r) :: t => if a = src ∧ r = q then serveRequest p src q (setPort p { x with acc := t } s) else s
    | [] => s

/-- BUS_ACCESS_OPEN (R520). -/
def execBusAccessOpen (p : PortId) (src : Byte) (s : State) : Outcome := live (busAccess p src.toNat .open') s
/-- BUS_ACCESS_CLOSE (R520). -/
def execBusAccessClose (p : PortId) (src : Byte) (s : State) : Outcome := live (busAccess p src.toNat .close) s
/-- BUS_ACCESS_READ (R519) of word w of the address space. -/
def execBusAccessRead (p : PortId) (src : Byte) (w : BitVec 22) (tag : Fin 4) (s : State) : Outcome :=
  live (busAccess p src.toNat (.read (4 * w.toNat) tag.val)) s
/-- BUS_ACCESS_WRITE (R519). -/
def execBusAccessWrite (p : PortId) (src : Byte) (w : BitVec 22) (tag : Fin 4) (data : Word) (s : State) : Outcome :=
  live (busAccess p src.toNat (.write (4 * w.toNat) tag.val data)) s
/-- KEYED_ADDR (R521). -/
def execKeyedAddr (p : PortId) (src : Byte) (w : BitVec 22) (tag : Fin 4) (key : BitVec 16) (s : State) : Outcome :=
  live (busAccess p src.toNat (.keyedAddr (4 * w.toNat) tag.val key.toNat)) s
/-- KEYED_DATA (R521). -/
def execKeyedData (p : PortId) (src : Byte) (w : BitVec 22) (tag : Fin 4) (data : Word) (s : State) : Outcome :=
  live (busAccess p src.toNat (.keyedData (4 * w.toNat) tag.val data)) s
/-- KEYED_ADDR_TIMEOUT (R521). -/
def keyedTimeout (s : State) : State :=
  match s.acc.keyed with
  | some k => dropKeyed k (atTime k.deadline s)
  | none => s
/-- KEYED_ADDR_TIMEOUT (R521). -/
def execKeyedAddrTimeout (s : State) : Outcome := live keyedTimeout s

end Sys2Proof.Machine
end

