-- ==== Sys2Proof/Machine/Flow.lean ====
section
/-! DEFINITION. Branches, illegal words and fetch faults (R141, R143, R166, R167, R199). -/
namespace Sys2Proof.Machine

/-- An instruction completes and sets the PC (R166). -/
def retireTo (g target : Nat) (f : Core → Core) (s : State) : State :=
  let x := gatherOf s g
  countIssue (setGather g { x with cur := { f x.cur with pc := target }, stall := 0 } s)

/-- The word index a signed offset away; one below word 0 counts modulo 2^32, so the fetch there faults with RANGE
(DESIGN CHOICE, log entry 103). -/
def branchTarget (pc : Nat) (off : Int) : Nat := (((pc : Int) + off) % 2 ^ 32).toNat

/-- The return address (R166). -/
def returnAddr (c : Core) : Word := BitVec.ofNat 32 (c.pc + 1)

/-- A conditional branch (R144, R166). -/
def branch (g k : Nat) (off : BitVec 22) (s : State) : State :=
  instruction g (k == 15) [] [] (fun s =>
    let c := (gatherOf s g).cur
    if condHolds k c then retireTo g (branchTarget c.pc off.toInt) id s else retire g id s) s

/-- CALL: w31 takes the return address (R166). -/
def call (g : Nat) (off : BitVec 26) (s : State) : State :=
  instruction g false [31] [] (fun s =>
    let c := (gatherOf s g).cur
    retireTo g (branchTarget c.pc off.toInt) (setW 31 (returnAddr c)) s) s

/-- JR, or CALLR, which reads w[a] before it writes w31 (R166). -/
def jumpReg (g a : Nat) (link : Bool) (s : State) : State :=
  instruction g false (if link then [31, a] else [a]) [] (fun s =>
    let c := (gatherOf s g).cur
    retireTo g (getW c a).toNat (if link then setW 31 (returnAddr c) else id) s) s

/-- BC (R144, R166). -/
def execBc (g : GatherId) (cond : Fin 16) (off : BitVec 22) (s : State) : Outcome := done (branch g cond off s)
/-- CALL (R166). -/
def execCall (g : GatherId) (off : BitVec 26) (s : State) : Outcome := done (call g off s)
/-- JR (R166). -/
def execJr (g : GatherId) (a : RegId) (s : State) : Outcome := done (jumpReg g a false s)
/-- CALLR (R166). -/
def execCallr (g : GatherId) (a : RegId) (s : State) : Outcome := done (jumpReg g a true s)

/-- Whether a point-group word is illegal (R168). -/
def illegalPoint (d a b c fn : Nat) : Bool :=
  match fn with
  | 0 => badPoint d || c != 0
  | 1 | 2 => badPoint a || b != 0 || c != 0
  | 3 => badPoint d || badPoint a || b != 0 || c != 0
  | 4 | 5 | 6 => badPoint d || badPoint a || badPoint b || c != 0
  | 7 => badPoint a || badPoint b || c != 0
  | _ => true

/-- Whether a geometry-group word is illegal (R177). -/
def illegalGeometry (d a b c fn : Nat) : Bool :=
  match fn with
  | 1 => badPointPair d
  | 2 => badPointPair a || c != 0
  | 3 => false
  | 4 => badPoint a || c != 0
  | 5 => badPointPair a || b != 0 || c != 0
  | 6 => false
  | _ => true

/-- Whether a queue-group word is illegal (R186). -/
def illegalQueue (d a fn imm : Nat) : Bool :=
  a != 0 || decide (256 ≤ imm) || (decide (128 ≤ imm) && fn != 4) ||
  match fn with
  | 0 | 1 | 2 => oddPair d
  | 3 => d != 0
  | 4 => false
  | _ => true

/-- Whether a time-group word is illegal (R169 to R174). -/
def illegalTime (d a fn imm : Nat) : Bool :=
  match fn with
  | 0 => oddPair d || a != 0 || imm != 0
  | 1 => oddPair d || imm != 0
  | 2 => a != 0 || decide (24 ≤ imm)
  | 3 => decide (5 ≤ imm)
  | 4 => a != 0 || imm != 0
  | _ => true

/-- Whether a control-group word is illegal (R193). -/
def illegalControl (d a fn imm : Nat) : Bool :=
  match fn with
  | 0 | 1 | 2 | 4 | 7 => d != 0 || a != 0 || imm != 0
  | 3 => a != 0 || imm != 0
  | 5 => d != 0 || oddPair a || imm != 0
  | 6 => d != 0 || a != 0 || decide (128 ≤ imm)
  | 8 => d != 0 || a != 0 || decide (8 ≤ imm)
  | _ => true

/-- Whether an instruction word is illegal (R141, R143): a reserved opcode or function code, a field
marked zero that is not, an odd pair field. -/
def illegalWord (w : Word) : Bool :=
  let d := bitsOf w 25 21
  let a := bitsOf w 20 16
  let b := bitsOf w 15 11
  let c := bitsOf w 10 6
  let fn11 := bitsOf w 10 0
  let fn6 := bitsOf w 5 0
  match bitsOf w 31 26 with
  | 0x01 => decide (fn11 = 0xF) || decide (0x14 ≤ fn11)
  | 0x02 | 0x03 | 0x04 | 0x05 | 0x06 => false
  | 0x07 => bitsOf w 13 5 != 0
  | 0x08 => a != 0
  | 0x10 | 0x11 | 0x12 | 0x13 | 0x14 | 0x15 | 0x16 | 0x17 | 0x18 | 0x19 => false
  | 0x20 => bitsOf w 25 22 == 15
  | 0x21 => false
  | 0x22 => decide (2 ≤ b) || d != 0 || fn11 != 0
  | 0x28 => decide (5 ≤ fn11) || (fn11 == 4 && b != 0)
  | 0x29 => illegalPoint d a b c fn6
  | 0x2A => illegalGeometry d a b c fn6
  | 0x2C => illegalQueue d a b fn11
  | 0x2D => oddPair d || c != 0 || decide (8 ≤ fn6) || fn6 == 0
  | 0x2E => illegalTime d a b fn11
  | 0x2F => illegalControl d a b fn11
  | 0x30 => oddPair d || a != 0 || decide (5 ≤ b)
  | _ => true

/-- ILLEGAL_INSTRUCTION: a word that is illegal becomes gather g's next instruction (R199). -/
def illegalInstruction (g : Nat) (w : Word) (s : State) : State :=
  let x := gatherOf s g
  if x.phase ≠ .run then s
  else if !inRegion s g x.cur.pc then enterFault g 3 x.cur.pc 0 s
  else if illegalWord w then enterFault g 1 x.cur.pc w s
  else s

/-- FETCH_RANGE_FAULT: a fetch of gather g outside its region (R167). -/
def fetchRangeFault (g : Nat) (s : State) : State :=
  let x := gatherOf s g
  if x.phase ≠ .run then s
  else if inRegion s g x.cur.pc then s
  else enterFault g 3 x.cur.pc 0 s

/-- ILLEGAL_INSTRUCTION (R199). -/
def execIllegalInstruction (g : GatherId) (w : Word) (s : State) : Outcome := done (illegalInstruction g w s)
/-- FETCH_RANGE_FAULT (R167). -/
def execFetchRangeFault (g : GatherId) (s : State) : Outcome := done (fetchRangeFault g s)

end Sys2Proof.Machine
end

