-- ==== Sys2Proof/Machine/Gaffer.lean ====
section
/-! DEFINITION. The Gaffer port: its command lines and their replies, the automatic heartbeat, meter checks,
self-tests on demand and snapshot readout (R593 to R608). -/
namespace Sys2Proof.Machine

/-- A command line is carried out (R92, R595); without the SVC and SYS domains no port is there to receive it. -/
def gafferLine (f : State → State) (s : State) : State :=
  if !running s || sysHeld s then s else f (beginTx .gaffer s)
/-- Whether a meter, selftest or snap operation of the port still runs (R596). DEDUCED, log entry 93. -/
def gafferBusy (s : State) : Bool := decide (s.svc.op ≠ .none) || s.svc.testEnd.isSome
/-- A command that waits for no other operation, or `! BUSY` (R596). -/
def unlessBusy (f : State → State) (s : State) : State := if gafferBusy s then setReply .busy s else f s
/-- A command that the port carries on until its final reply. -/
def setOp (o : PortOp) (s : State) : State := setSvc { s.svc with op := o } s
/-- The owner as a reply value. -/
def ownerWord (s : State) : Word := BitVec.ofNat 32 (ownerCode s)
/-- The values of a reply, none after an error. -/
def okWords (e : Err) (ws : List Word) : List Word := if e = .ok then ws else []

/-- `id` (R597). -/
def gafferId (s : State) : State :=
  setReply (.identity Config.serial.toNat (optNow s) s.sup.pcc (phase s) (if flag s F.HEALTH_CULLET then 1 else 0) (ownerCode s)) s
/-- `rd A` (R597). -/
def gafferRd (a : Nat) (s : State) : State :=
  let r := readAccess .gaffer a s
  setReply (.okValue r.1 (okWords r.1 [r.2.1])) r.2.2
/-- The words of a burst read (R119, R597), up to a refused one. -/
def gafferWords : Nat → Nat → State → List (Nat × Word) × Err × State
  | 0, _, s => ([], .ok, s)
  | n + 1, a, s =>
    let r := readAccess .gaffer a s
    if r.1 = .ok then
      let t := gafferWords n (a + 4) r.2.2
      ((a, r.2.1) :: t.1, t.2)
    else ([], r.1, r.2.2)
/-- `rd A N` (R597): the CRC-32C of the returned bytes, none after a refused word. -/
def gafferBurst (a n : Nat) (s : State) : State :=
  let r := gafferWords n a s
  setReply (.burst r.1 (if r.2.1 = .ok then crc32c (wordsLe (r.1.map (·.2))) else 0) r.2.1) r.2.2
/-- A write of the port with its reply. -/
def gafferWrite (r : RegRule) (h : RegHit) (a : Nat) (data : Word) (s : State) : State :=
  let x := writePlace r .gaffer a ⟨h, a, none⟩ data s
  setReply (.okValue x.1 []) x.2
/-- A keyed write of the port; its reply holds the owner where show says so. -/
def gafferKeyed (r : RegRule) (key : BitVec 16) (h : RegHit) (a : Nat) (data : Word) (shows : Bool) (s : State) : State :=
  let x := keyedWith .gaffer key a data (writePlace r .gaffer a ⟨h, a, none⟩ data) s
  setReply (.okValue x.1 (if shows then okWords x.1 [ownerWord x.2] else [])) x.2
/-- `own` (R597): OWN_STAT. -/
def gafferOwn (s : State) : State :=
  let w := viewWord ruleOwnStat .gaffer ⟨Reg.OWN_STAT, []⟩ A.OWN_STAT s
  let f (x : Fld) : Nat := bitsOf w x.hi x.lo
  setReply (.ownership (f F.OWN_STAT_OWNER) (f F.OWN_STAT_HANDOVER_PEND) (f F.OWN_STAT_TARGET) (f F.OWN_STAT_HB_LEFT)) s
/-- Whether automatic refresh may run (R598). -/
def autoAllowed (s : State) : Bool := decide (ownerCode s = 3) && flag s F.SVC_STAT_USB_OPEN
/-- `own auto on` (R598): it stops at once where its conditions do not hold. -/
def autoOn (s : State) : State :=
  setReply (.okValue .ok []) (setOwn { s.own with autoHb := autoAllowed s, autoNext := s.mtime + sec } s)
/-- `own auto off` (R598). -/
def autoOff (s : State) : State := setReply (.okValue .ok []) (setOwn { s.own with autoHb := false } s)
/-- AUTO_HEARTBEAT (R598). DEDUCED, log entry 85. -/
def autoHeartbeat (s : State) : State :=
  if !s.own.autoHb then s
  else if !autoAllowed s then setOwn { s.own with autoHb := false } s
  else
    let s := atTime s.own.autoNext s
    let s := (writePlace ruleHeartbeat .gaffer A.OWN_HEARTBEAT ⟨⟨Reg.OWN_HEARTBEAT, []⟩, A.OWN_HEARTBEAT, none⟩ 1 s).2
    setOwn { s.own with autoNext := s.own.autoNext + sec } s

/-- `log S N` (R599): the newest n records of a severity or more, oldest first, without ownership. -/
def gafferLog (sev n : Nat) (s : State) : State :=
  let rs := ((s.agate.store.filter (fun r => decide (sev ≤ r.entry.ev.sev))).reverse.take n).reverse
  setReply (.records rs (crc32c (rs.flatMap recordBytes))) s

/-- A word for SVC_METER. -/
def meterWord (check target : Nat) : Word := BitVec.ofNat 32 (256 * target + check)
/-- A write of SVC_METER by the port. -/
def meterWrite (check target : Nat) (s : State) : Err × State :=
  writePlace ruleMeter .gaffer A.SVC_METER ⟨⟨Reg.SVC_METER, []⟩, A.SVC_METER, none⟩ (meterWord check target) s
/-- `meter` with a check (R601): the final reply follows the first measurement; a termination check has none. -/
def gafferMeter (check target : Nat) (s : State) : State :=
  if meterTargets check ≤ target then setReply .syntaxErr s
  else
    let x := meterWrite check target s
    if x.1 ≠ .ok then setReply (.okValue x.1 []) x.2
    else if check = 10 then setReply (.okValue .ok []) x.2
    else setReply .none (setOp .meter x.2)
/-- `meter` alone (R597): the reading of the running check; STATE without one (DEDUCED, log entry 23). -/
def gafferMeterRead (s : State) : State :=
  setReply (if s.svc.meterEnd.isSome then meterReply s else .okValue .state []) s
/-- `meter off` (R602). -/
def gafferMeterOff (s : State) : State :=
  let x := meterWrite 0 0 s
  setReply (.okValue x.1 []) x.2
/-- METER_MEASUREMENT (R603): the first one after a command line gives its final reply. -/
def meterMeasurement (mv : Int) (s : State) : State :=
  let s := meterMeasure mv s
  if s.svc.op = .meter then setReply (if s.svc.meterEnd.isSome then meterReply s else .okValue .state []) (setOp .none s) else s

/-- `selftest` (R604): GO with the unit; a refused condition shows as RESULT 3. -/
def gafferTest (unit port : Nat) (s : State) : State :=
  let x := writePlace ruleTest .gaffer A.SVC_TEST ⟨⟨Reg.SVC_TEST, []⟩, A.SVC_TEST, none⟩ (BitVec.ofNat 32 (0x80000000 + 16 * port + unit)) s
  if x.1 = .ok then setReply .none (setOp .test x.2)
  else setReply (.okValue x.1 []) (if x.1 = .state then fset x.2 F.SVC_TEST_RESULT 3 else x.2)
/-- The failed units of a test with their details, in the order of the table (R604). -/
def testFailures (us : List Nat) (port : Nat) (t : DemandTest) : List (Nat × Nat) :=
  us.filterMap (fun u => match u with
    | 1 => if t.nv then some (u, 0) else none
    | 2 => t.delay.head?.map (fun n => (u, n.val))
    | 3 => t.rf.head?.map (fun c => (u, c.val))
    | 4 => t.sense.head?.map (fun n => (u, n.val))
    | 5 => if t.src then some (u, 0) else none
    | 6 => if t.bus then some (u, port) else none
    | 7 => t.pipes.head?.map (fun k => (u, k.val))
    | _ => if t.memories then some (u, 0) else none)
/-- A nonvolatile store that fails on demand halts the Askat as at start-up (R577, R578, R604). DEDUCED, log entry 81. -/
def demandHalt (s : State) : State :=
  let s := forAll stopGather (List.range 128) (everythingOff { s with start := { s.start with halted := true } })
  fset (raise 6 15 3 .selfTestFail [2] s) F.STARTUP_STAT_PHASE 5
/-- What the test of one unit leaves (R604): its bit of SELFTEST_RES and what R577 says of a failure. -/
def unitResult (t : DemandTest) (u : Nat) (s : State) : State :=
  match u with
  | 1 =>
    let s := fbool s F.SELFTEST_RES_NV_STORE t.nv
    if t.nv then demandHalt s else agateStart t.torn s
  | 2 => forAll delayFails (t.delay.map (·.val)) (fbool s F.SELFTEST_RES_DELAY_LINE (!t.delay.isEmpty))
  | 3 => forAll chainFailure (t.rf.map (·.val)) (fbool s F.SELFTEST_RES_RF_CHAIN (!t.rf.isEmpty))
  | 4 =>
    let s := fbool { s with start := { s.start with currentSenseBad := t.sense.map (·.val) } } F.SELFTEST_RES_CURRENT_SENSE (!t.sense.isEmpty)
    forAll (fun n s => raise 4 1 n .currentSense [n] s) (t.sense.map (·.val)) s
  | 7 => forAll pipeFail (t.pipes.map (·.val)) (fbool s F.SELFTEST_RES_PIPES (!t.pipes.isEmpty))
  | 8 =>
    let s := fset (fbool s F.SELFTEST_RES_MEMORIES t.memories) F.SPARE_ROWS_PERCENT (max (fget s F.SPARE_ROWS_PERCENT) t.percent)
    let s := onlyIf (decide (50 < fget s F.SPARE_ROWS_PERCENT)) (cullet 1) s
    let s := forAll (fun g s => setGather g { gatherOf s g with lmem := [] } s) (List.range 128) { s with eng := { s.eng with cmem := [] } }
    forAll flushQueue ((List.range 128).filter (· != 103)) s
  | _ => s
/-- SELFTEST_ON_DEMAND_DONE (R604). -/
def testDone (t : DemandTest) (s : State) : State :=
  match s.svc.testEnd with
  | none => s
  | some _ =>
    let port := fget s F.SVC_TEST_PORT
    let bad := testFailures s.svc.testAll port t
    let s := withPortReset (fun s => forAll (unitResult t) s.svc.testAll s) s
    let s := fset (fset s F.SVC_STAT_TEST_BUSY 0) F.SVC_TEST_BUSY 0
    let s := fset (fset s F.SVC_TEST_RESULT (if bad.isEmpty then 1 else 2)) F.SVC_TEST_DETAIL ((bad.head?.map (·.2)).getD 0)
    let s := runQueued F.SVC_TEST_GO testStart (setSvc { s.svc with testEnd := none, testAll := [] } s)
    if s.svc.op = .test then
      setReply (.verdict bad.isEmpty ((bad.head?.map (·.1)).getD 0) ((bad.head?.map (·.2)).getD 0)) (setOp .none s)
    else s

/-- A write of SNAP_CTRL by the port. -/
def snapWrite (data : Word) (s : State) : Err × State :=
  writePlace ruleSnapCtrl .gaffer A.SNAP_CTRL ⟨⟨Reg.SNAP_CTRL, []⟩, A.SNAP_CTRL, none⟩ data s
/-- `snap cap L C` (R605): SNAP_CFG, then CAPTURE; the final reply follows the capture. -/
def gafferCapture (len chains : Nat) (s : State) : State :=
  let x := writePlace plainRule .gaffer A.SNAP_CFG ⟨⟨Reg.SNAP_CFG, []⟩, A.SNAP_CFG, none⟩ (BitVec.ofNat 32 (256 * len + chains)) s
  if x.1 ≠ .ok then setReply (.okValue x.1 []) x.2
  else
    let y := snapWrite 1 x.2
    if y.1 ≠ .ok then setReply (.okValue y.1 []) y.2 else setReply .none (setOp .capture y.2)
/-- `snap solve` (R605). -/
def gafferSolve (s : State) : State :=
  let x := snapWrite 2 s
  if x.1 ≠ .ok then setReply (.okValue x.1 []) x.2 else setReply .none (setOp .solve x.2)
/-- `snap read` (R605): the bytes of the buffer with their CRC; STATE while a capture runs (R424). DESIGN CHOICE, log entry 83. -/
def gafferSnapRead (s : State) : State :=
  if flag s F.SNAP_STAT_CAP_BUSY then setReply (.okValue .state []) s
  else
    let b := (List.range (fget s F.SNAP_STAT_BYTES)).map (snapByte s)
    setReply (.snapshot b (crc32c b)) s
/-- SNAP_CAPTURE_DONE (R423), with the final reply of `snap cap`. -/
def captureReply (data : List Byte) (temp : BitVec 16) (s : State) : State :=
  let t := captureDone data temp s
  if t.svc.op = .capture ∧ !flag t F.SNAP_STAT_CAP_BUSY then setReply (.okValue .ok []) (setOp .none t) else t
/-- SNAP_SOLVE_DONE (R425), with the final reply of `snap solve`. -/
def solveReply (found : Option (Int × Int × Int × Nat)) (s : State) : State :=
  let t := solveDone found s
  if t.svc.op = .solve ∧ !flag t F.SNAP_STAT_SOLVE_BUSY then setReply (.result (fget t F.SNAP_STAT_RESULT)) (setOp .none t) else t

/-- A word for JAS_CTRL that starts a command and writes ARMED_OK back as it stands, with its second key. -/
def jasKeep (cmd : Nat) (s : State) : Word :=
  BitVec.ofNat 32 (cmd + if flag s F.JAS_CTRL_ARMED_OK then 0x5A3C0100 else 0)
/-- `jas refresh` and `jas off` (R597): the port carries the key, since the line has none (DEDUCED, log entry 24). -/
def gafferJas (cmd : Nat) (s : State) : State :=
  gafferKeyed ruleJasCtrl 0xB7E1 ⟨Reg.JAS_CTRL, []⟩ A.JAS_CTRL (jasKeep cmd s) false s

/-- USB_DTR_CHANGE (R594, R598). -/
def usbDtr (isOpen : Bool) (s : State) : State :=
  let s := fbool s F.SVC_STAT_USB_OPEN isOpen
  if isOpen then s else setOwn { s.own with autoHb := false } s
/-- GAFFER_LINE_REFUSED (R594 to R596). -/
def lineRefused (f : LineFault) (s : State) : State :=
  setReply (match f with | .syntaxErr => .syntaxErr | .long => .long | .overflow => .overflow | .usb => .usb) s

/-- USB_DTR_CHANGE (R594). -/
def execUsbDtrChange (isOpen : Bool) (s : State) : Outcome := live (usbDtr isOpen) s
/-- GAFFER_ID (R597). -/
def execGafferId (s : State) : Outcome := done (gafferLine gafferId s)
/-- GAFFER_RD (R597). -/
def execGafferRd (a : BitVec 24) (s : State) : Outcome := done (gafferLine (gafferRd a.toNat) s)
/-- GAFFER_RD_BURST (R597) of n + 2 words. -/
def execGafferRdBurst (a : BitVec 24) (n : Fin 255) (s : State) : Outcome := done (gafferLine (gafferBurst a.toNat (n.val + 2)) s)
/-- GAFFER_WR (R597). -/
def execGafferWr (a : BitVec 24) (data : Word) (s : State) : Outcome :=
  done (gafferLine (fun s => let x := writeAccess .gaffer a.toNat data s; setReply (.okValue x.1 []) x.2) s)
/-- GAFFER_KEY (R597). -/
def execGafferKey (key : BitVec 16) (a : BitVec 24) (data : Word) (s : State) : Outcome :=
  done (gafferLine (fun s => let x := keyedAccess .gaffer key a.toNat data s; setReply (.okValue x.1 []) x.2) s)
/-- GAFFER_OWN (R597). -/
def execGafferOwn (s : State) : Outcome := done (gafferLine gafferOwn s)
/-- GAFFER_OWN_CLAIM (R597). -/
def execGafferOwnClaim (key : BitVec 16) (s : State) : Outcome :=
  done (gafferLine (gafferKeyed ruleClaim key ⟨Reg.OWN_CLAIM, []⟩ A.OWN_CLAIM 1 true) s)
/-- GAFFER_OWN_SEIZE (R597). -/
def execGafferOwnSeize (key : BitVec 16) (s : State) : Outcome :=
  done (gafferLine (gafferKeyed ruleSeize key ⟨Reg.OWN_SEIZE, []⟩ A.OWN_SEIZE 1 true) s)
/-- GAFFER_OWN_ACCEPT (R597). -/
def execGafferOwnAccept (s : State) : Outcome := done (gafferLine (gafferWrite ruleAccept ⟨Reg.OWN_ACCEPT, []⟩ A.OWN_ACCEPT 1) s)
/-- GAFFER_OWN_HB (R597). -/
def execGafferOwnHb (s : State) : Outcome :=
  done (gafferLine (gafferWrite ruleHeartbeat ⟨Reg.OWN_HEARTBEAT, []⟩ A.OWN_HEARTBEAT 1) s)
/-- GAFFER_OWN_RELEASE (R597). -/
def execGafferOwnRelease (key : BitVec 16) (s : State) : Outcome :=
  done (gafferLine (gafferKeyed ruleHandover key ⟨Reg.OWN_HANDOVER, []⟩ A.OWN_HANDOVER 0 true) s)
/-- GAFFER_OWN_AUTO_ON (R598). -/
def execGafferOwnAutoOn (s : State) : Outcome := done (gafferLine autoOn s)
/-- GAFFER_OWN_AUTO_OFF (R598). -/
def execGafferOwnAutoOff (s : State) : Outcome := done (gafferLine autoOff s)
/-- AUTO_HEARTBEAT (R598). -/
def execAutoHeartbeat (s : State) : Outcome := live autoHeartbeat s
/-- GAFFER_LOG (R599): severity and number of records less one. -/
def execGafferLog (sev : Fin 8) (n : Fin 65536) (s : State) : Outcome := done (gafferLine (gafferLog sev.val (n.val + 1)) s)
/-- GAFFER_LOG_CLEAR (R597). -/
def execGafferLogClear (key : BitVec 16) (s : State) : Outcome :=
  done (gafferLine (gafferKeyed ruleAgateCtrl key ⟨Reg.AGATE_CTRL, []⟩ A.AGATE_CTRL 8 false) s)
/-- GAFFER_METER_CHECK (R601) of check k + 1. -/
def execGafferMeterCheck (k : Fin 10) (target : Fin 128) (s : State) : Outcome :=
  done (gafferLine (unlessBusy (gafferMeter (k.val + 1) target.val)) s)
/-- GAFFER_METER_READ (R597). -/
def execGafferMeterRead (s : State) : Outcome := done (gafferLine (unlessBusy gafferMeterRead) s)
/-- GAFFER_METER_OFF (R602). -/
def execGafferMeterOff (s : State) : Outcome := done (gafferLine (unlessBusy gafferMeterOff) s)
/-- METER_CHECK_TIMEOUT (R602). -/
def execMeterCheckTimeout (s : State) : Outcome := live meterTimeout s
/-- METER_MEASUREMENT (R603). -/
def execMeterMeasurement (mv : BitVec 16) (s : State) : Outcome := live (meterMeasurement mv.toInt) s
/-- GAFFER_SELFTEST (R604). -/
def execGafferSelftest (unit : Fin 9) (port : PortId) (s : State) : Outcome :=
  done (gafferLine (unlessBusy (gafferTest unit.val port.val)) s)
/-- SELFTEST_ON_DEMAND_DONE (R604). -/
def execSelftestOnDemandDone (t : DemandTest) (s : State) : Outcome := live (testDone t) s
/-- GAFFER_SNAP_CAP (R605). -/
def execGafferSnapCap (len chains : Fin 16) (s : State) : Outcome := done (gafferLine (unlessBusy (gafferCapture len.val chains.val)) s)
/-- GAFFER_SNAP_SOLVE (R605). -/
def execGafferSnapSolve (s : State) : Outcome := done (gafferLine (unlessBusy gafferSolve) s)
/-- GAFFER_SNAP_READ (R605). -/
def execGafferSnapRead (s : State) : Outcome := done (gafferLine (unlessBusy gafferSnapRead) s)
/-- SNAP_CAPTURE_DONE (R423). -/
def execSnapCaptureDone (data : List Byte) (temp : BitVec 16) (s : State) : Outcome := live (captureReply data temp) s
/-- SNAP_SOLVE_DONE (R425). -/
def execSnapSolveDone (found : Option (Int × Int × Int × Nat)) (s : State) : Outcome := live (solveReply found) s
/-- GAFFER_JAS (R597). -/
def execGafferJas (s : State) : Outcome :=
  done (gafferLine (fun s => setReply (.perturbations (jasActive s) (secondsLeft s s.svc.jasEnd)) s) s)
/-- GAFFER_JAS_REFRESH (R597). -/
def execGafferJasRefresh (s : State) : Outcome := done (gafferLine (gafferJas 1) s)
/-- GAFFER_JAS_OFF (R597). -/
def execGafferJasOff (s : State) : Outcome := done (gafferLine (gafferJas 2) s)
/-- JASPER_EXPIRY (R608). -/
def execJasperExpiry (s : State) : Outcome := live jasperExpiry s
/-- GAFFER_LINE_REFUSED (R596). -/
def execGafferLineRefused (f : LineFault) (s : State) : Outcome := done (gafferLine (lineRefused f) s)

end Sys2Proof.Machine
end

