-- ==== Sys2Proof/Machine/Hspi.lean ====
section
/-! DEFINITION. The frames of the host SPI port (R116 to R120). -/
namespace Sys2Proof.Machine

/-- The status byte of an access (R117). -/
def spiStatus (e : Err) : Byte := BitVec.ofNat 8 (0x50 + e.num)
/-- A read frame (R116). -/
def hspiRead (a : Nat) (s : State) : State :=
  let r := readAccess .host a (beginTx .host s)
  setReply (.spi (spiStatus r.1 :: wordLe r.2.1)) r.2.2
/-- A write frame (R116). -/
def hspiWrite (a : Nat) (data : Word) (s : State) : State :=
  let r := writeAccess .host a data (beginTx .host s)
  setReply (.spi [spiStatus r.1]) r.2
/-- A keyed write frame (R94, R116). -/
def hspiKeyed (key : BitVec 16) (a : Nat) (data : Word) (s : State) : State :=
  let r := keyedAccess .host key a data (beginTx .host s)
  setReply (.spi [spiStatus r.1]) r.2
/-- The words of a burst read from address a on (R119): an error status ends the burst, no word after it is read, and
the rest of the frame returns 0xFF: four bytes of this word and five of each word after it. DEDUCED, log entry 79. -/
def burstRead : Nat → Nat → State → List Byte × State
  | 0, _, s => ([], s)
  | n + 1, a, s =>
    let r := readAccess .host a s
    if r.1 = .ok then
      let t := burstRead n (a + 4) r.2.2
      (spiStatus r.1 :: wordLe r.2.1 ++ t.1, t.2)
    else (spiStatus r.1 :: List.replicate (4 + 5 * n) 0xFF, r.2.2)
/-- The words of a burst write from address a on (R119): after an error status each of the five bytes of every further
word returns 0xFF. -/
def burstWrite : List Word → Nat → State → List Byte × State
  | [], _, s => ([], s)
  | w :: ws, a, s =>
    let r := writeAccess .host a w s
    if r.1 = .ok then
      let t := burstWrite ws (a + 4) r.2
      (spiStatus r.1 :: t.1, t.2)
    else (spiStatus r.1 :: List.replicate (5 * ws.length) 0xFF, r.2)
/-- A burst read frame of n words. -/
def hspiBurstRead (a n : Nat) (s : State) : State :=
  let r := burstRead n a (beginTx .host s)
  setReply (.spi r.1) r.2
/-- A burst write frame. -/
def hspiBurstWrite (a : Nat) (ws : List Word) (s : State) : State :=
  let r := burstWrite ws a (beginTx .host s)
  setReply (.spi r.1) r.2

/-- HSPI_READ (R116). -/
def execHspiRead (a : BitVec 24) (s : State) : Outcome := done (hspiRead a.toNat s)
/-- HSPI_WRITE (R116). -/
def execHspiWrite (a : BitVec 24) (data : Word) (s : State) : Outcome := done (hspiWrite a.toNat data s)
/-- HSPI_KEYED_WRITE (R94). -/
def execHspiKeyedWrite (key : BitVec 16) (a : BitVec 24) (data : Word) (s : State) : Outcome := done (hspiKeyed key a.toNat data s)
/-- HSPI_BURST_READ (R119): the first word is read at the last address bit, each of the more words once the word
before has been clocked out. -/
def execHspiBurstRead (a : BitVec 24) (more : Nat) (s : State) : Outcome := done (hspiBurstRead a.toNat (more + 1) s)
/-- HSPI_BURST_WRITE (R119) of the words that arrived whole. -/
def execHspiBurstWrite (a : BitVec 24) (first : Word) (rest : List Word) (s : State) : Outcome :=
  done (hspiBurstWrite a.toNat (first :: rest) s)
/-- HSPI_INVALID_COMMAND (R117): 0xFF until HSPI_CS_N rises, and no access; a byte 0 of R116 is not of this row. -/
def execHspiInvalidCommand (b : Byte) (s : State) : Outcome :=
  done (if [0x03, 0x02, 0x12, 0x0B, 0x0A].contains b then s else setReply (.spi [0xFF]) (beginTx .host s))
/-- HSPI_CS_EARLY_RISE (R120): no access; started: whether the command byte had been received (R92). -/
def execHspiCsEarlyRise (started : Bool) (s : State) : Outcome := done (setReply (.spi []) (onlyIf started (beginTx .host) s))

end Sys2Proof.Machine
end

