-- ==== Sys2Proof/Machine/Point.lean ====
section
/-! DEFINITION. The meanings of the point instructions (R138, R168). -/
namespace Sys2Proof.Machine

/-- The signed value of a coordinate. -/
def coord (w : Word) : Int := w.toInt

/-- The midpoint of two coordinates: 33-bit sum, arithmetic shift (R168). -/
def midCoord (a b : Word) : Word := BitVec.ofInt 32 ((a.toInt + b.toInt) / 2)

/-- The distance of two points, saturating (R168). -/
def pointDist (x0 y0 x1 y1 : Word) : Word :=
  let dx := x0.toInt - x1.toInt
  let dy := y0.toInt - y1.toInt
  BitVec.ofNat 32 (min 0xFFFFFFFF (sqrtFloor 34 (dx * dx + dy * dy).toNat))

/-- An instruction on points a and b that writes point d. -/
def pointInstr (g d a b : Nat) (f : Word → Word → Word) (s : State) : State :=
  coreInstr g (badPoint d || badPoint a || badPoint b) [] [d, a, b]
    (fun c => setP d (f (getX c a) (getX c b)) (f (getY c a) (getY c b)) c) s

/-- PSET (R168). -/
def execPset (g : GatherId) (d a b : RegId) (s : State) : Outcome :=
  done (coreInstr g (badPoint d) [a, b] [d] (fun c => setP d (getW c a) (getW c b) c) s)
/-- PGETX (R168). -/
def execPgetx (g : GatherId) (d a : RegId) (s : State) : Outcome :=
  done (coreInstr g (badPoint a) [d] [a] (fun c => setW d (getX c a) c) s)
/-- PGETY (R168). -/
def execPgety (g : GatherId) (d a : RegId) (s : State) : Outcome :=
  done (coreInstr g (badPoint a) [d] [a] (fun c => setW d (getY c a) c) s)
/-- PMOV (R168). -/
def execPmov (g : GatherId) (d a : RegId) (s : State) : Outcome :=
  done (pointInstr g d a a (fun x _ => x) s)
/-- PADD, wrapping (R138, R168). -/
def execPadd (g : GatherId) (d a b : RegId) (s : State) : Outcome :=
  done (pointInstr g d a b (fun x y => x + y) s)
/-- PSUB, wrapping (R138, R168). -/
def execPsub (g : GatherId) (d a b : RegId) (s : State) : Outcome :=
  done (pointInstr g d a b (fun x y => x - y) s)
/-- PMID (R168). -/
def execPmid (g : GatherId) (d a b : RegId) (s : State) : Outcome :=
  done (pointInstr g d a b midCoord s)
/-- PDIST: asynchronous; its points are read when it issues (R168). -/
def pointDistance (g d a b : Nat) (s : State) : State :=
  asyncInstr g (badPoint a || badPoint b) [d] [a, b] (fun s =>
    let c := (gatherOf s g).cur
    issueAsync g (.value (pointDist (getX c a) (getY c a) (getX c b) (getY c b))) [d] [] s) s
/-- PDIST (R168). -/
def execPdist (g : GatherId) (d a b : RegId) (s : State) : Outcome := done (pointDistance g d a b s)

end Sys2Proof.Machine
end

