-- ==== Sys2Proof/Machine/QueueInstr.lean ====
section
/-! DEFINITION. The meanings of the queue instructions and POST (R186 to R192, R324 to R333). -/
namespace Sys2Proof.Machine

/-- A gather finds queue q full (R328): it stalls, and the queue notes the back-pressure. Whether a
forced full still holds at the next attempt is a fresh free value. -/
def stallFull (g q : Nat) (s : State) : State :=
  stallAs g 6 (fset { s with freeCtr := s.freeCtr + 1 } (F.QSTAT_BP_SEEN q) 1)

/-- Reserve words of gather g at the end of queue q (R324). -/
def reserveWords (q : Nat) (rs : List QRes) (s : State) : State :=
  noteHwm q (setQueue q { queueOf s q with res := (queueOf s q).res ++ rs } s)

/-- Whether gather g's open packet on queue q is poisoned (R333). -/
def isPoisoned (s : State) (g q : Nat) : Bool := (queueOf s q).poison.contains g

/-- QPUSH (R186, R188): a word of a poisoned packet is swallowed. -/
def pushWord (g d q : Nat) (s : State) : State :=
  instruction g (oddPair d) (pairOf d) [] (fun s =>
    if !pushBound s g q then faultHere g 5 s
    else if isPoisoned s g q then retire g id (fsat s (F.QSTAT_FLUSH_SWALLOW q) 1)
    else if !fitsIn s q 1 then stallFull g q s
    else
      let v := BitVec.ofNat 64 (getPair (gatherOf s g).cur d)
      retire g id (reserveWords q [⟨g, v, false, false, false⟩] s)) s

/-- QPOP (R186): asynchronous; it takes its place in the order of issue (R189). -/
def popWord (g d q : Nat) (s : State) : State :=
  asyncInstr g (oddPair d) (pairOf d) [] (fun s =>
    if !popBound s g q then faultHere g 5 s
    else issueAsync g (.qpop q s.eng.popNum) (pairOf d) [] { s with eng := { s.eng with popNum := s.eng.popNum + 1 } }) s

/-- QTRY (R186): Z alone of the flags changes. The words that QPOPs in flight take come before it (R189). -/
def tryPop (g d q : Nat) (s : State) : State :=
  instruction g (oddPair d) (pairOf d) [] (fun s =>
    if !popBound s g q then faultHere g 5 s
    else
      match popProv g (popsBefore s q s.eng.popNum) (queueOf s q).slots with
      | none => retire g (fun c => { c with z := true }) s
      | some (v, ws) =>
        retire g (fun c => setPair d v.toNat { c with z := false }) (setQueue q { queueOf s q with slots := ws } s)) s

/-- Mark the last of gather g's open words and close them all. -/
def closeWords (g : Nat) : List QRes → List QRes
  | [] => []
  | r :: t =>
    if r.gather = g ∧ !r.closed then
      { r with closed := true, last := !t.any (fun u => u.gather == g && !u.closed) } :: closeWords g t
    else r :: closeWords g t

/-- QCOMMIT (R188): the open packet is complete; a poisoned one commits nothing and its poisoning ends. -/
def commitPacket (g q : Nat) (s : State) : State :=
  instruction g false [] [] (fun s =>
    if !pushBound s g q then faultHere g 5 s
    else
      let x := queueOf s q
      let x := if isPoisoned s g q then { x with poison := x.poison.filter (· != g) } else { x with res := closeWords g x.res }
      retire g id (setQueue q x s)) s

/-- QLEVEL (R186): visible words of a queue bound for popping, else free words; with the level selector
the free words of a queue bound for pushing. -/
def queueLevel (g d q : Nat) (sel : Bool) (s : State) : State :=
  instruction g false [d] [] (fun s =>
    let push := pushBound s g q
    let pop := popBound s g q
    if (sel && !push) || !(push || pop) then faultHere g 5 s
    else
      let v := if pop && !sel then visible s q else freeRoom s q
      retire g (setW d (BitVec.ofNat 32 v)) s) s

/-- POST (R190 to R192): one complete packet of two words on Q84, visible at the next EPOCH. -/
def post (g d a b code : Nat) (s : State) : State :=
  instruction g (oddPair d || decide (code = 0) || decide (7 < code)) (pairOf d ++ [a, b]) [] (fun s =>
    let c := (gatherOf s g).cur
    let t := getPair c d
    let o := (getW c a).toNat
    if !permits s o g then faultHere g 5 s
    else if s.mtime + 0x17D7840000 < t then faultHere g 3 s
    else if !fitsIn s 84 2 then stallFull g 84 s
    else
      let w1 := 2 ^ 56 * o + 2 ^ 52 * code + (getW c b).toNat
      retire g id (reserveWords 84 [⟨g, BitVec.ofNat 64 t, false, true, false⟩, ⟨g, BitVec.ofNat 64 w1, true, true, false⟩] s)) s

/-- QPUSH (R186). -/
def execQpush (g : GatherId) (d : RegId) (q : QId) (s : State) : Outcome := done (pushWord g d q s)
/-- QPOP (R186). -/
def execQpop (g : GatherId) (d : RegId) (q : QId) (s : State) : Outcome := done (popWord g d q s)
/-- QTRY (R186). -/
def execQtry (g : GatherId) (d : RegId) (q : QId) (s : State) : Outcome := done (tryPop g d q s)
/-- QCOMMIT (R186, R188). -/
def execQcommit (g : GatherId) (q : QId) (s : State) : Outcome := done (commitPacket g q s)
/-- QLEVEL (R186). -/
def execQlevel (g : GatherId) (d : RegId) (q : QId) (sel : Bool) (s : State) : Outcome := done (queueLevel g d q sel s)
/-- POST (R190, R191). -/
def execPost (g : GatherId) (d a b : RegId) (code : Fin 16) (s : State) : Outcome := done (post g d a b code s)

end Sys2Proof.Machine
end

