-- ==== Sys2Proof/Machine/Resets.lean ====
section
/-! DEFINITION. Events of ownership and of the Lehr whose effect reaches the service port as well: a lost punty and
every reset end a meter check (R126, R545 to R560, R602). -/
namespace Sys2Proof.Machine

/-- HEARTBEAT_TIMEOUT (R126). -/
def execHeartbeatTimeout (s : State) : Outcome := live (fun s => meterOver (heartbeatTimeout s)) s
/-- HANDOVER_TIMEOUT (R126). -/
def execHandoverTimeout (s : State) : Outcome := live (fun s => meterOver (handoverTimeout s)) s
/-- GATHER_REWIND (R546). -/
def execGatherRewind (g : GatherId) (e : HwError) (repairable : Bool) (percent : Fin 101) (s : State) : Outcome :=
  live (withPortReset (gatherRewind g e repairable percent)) s
/-- REWIND_COMPLETE (R547). -/
def execRewindComplete (g : GatherId) (s : State) : Outcome := live (rewindComplete g) s
/-- MEMORY_SCRUB (R545). -/
def execMemoryScrub (found : Fin 256) (s : State) : Outcome := live (memoryScrub found) s
/-- RESET_HOLD_WINDOW_END (R558). -/
def execResetHoldWindowEnd (s : State) : Outcome := live holdWindowEnd s
/-- ENGINE_RESET_END (R555). -/
def execEngineResetEnd (s : State) : Outcome := live (withPortReset engineResetEnd) s
/-- WARM_RESET_RELEASE (R592). -/
def execWarmResetRelease (s : State) : Outcome := live warmRelease s
/-- SUPERVISOR_RESTART (R553). -/
def execSupervisorRestart (s : State) : Outcome := live (fun s => supervisorRestart (portReset s)) s
/-- SUPERVISOR_RESTART_END (R553). -/
def execSupervisorRestartEnd (s : State) : Outcome := live supervisorRestartEnd s
/-- TMR_MISMATCH (R551). -/
def execTmrMismatch (fatal : Bool) (s : State) : Outcome := live (tmrMismatch fatal) s
/-- CLOCK_MONITOR_FAULT of the SYS clock or the ENG clock (R552). -/
def execClockMonitorFault (sys : Bool) (s : State) : Outcome :=
  live (fun s => if sys then warmReset 2 s else withPortReset (engineReset 2) s) s
/-- SUPERVISOR_WATCHDOG_TIMEOUT (R552). -/
def execSupervisorWatchdogTimeout (s : State) : Outcome := live (warmReset 3) s
/-- ISSUE_MONITOR_TIMEOUT (R552). -/
def execIssueMonitorTimeout (s : State) : Outcome := live (withPortReset (engineReset 4)) s
/-- OPERATING_TIME_STORE (R560). -/
def execOperatingTimeStore (ok : Bool) (s : State) : Outcome := live (optStore ok) s

end Sys2Proof.Machine
end

