-- ==== Sys2Proof/Machine/RowsAct.lean ====
section
/-! DEFINITION. Commands of the masters on queue, ACT and time registers that have rows of their own. -/
namespace Sys2Proof.Machine

/-- OUT_ARM (R25). -/
def execOutArm (m : Master) (n : OutId) (s : State) : Outcome :=
  done (rowWrite ruleOutCtrl m ⟨Reg.OUT_CTRL, [n.val]⟩ (A.OUT_CTRL n.val) 1 s)
/-- OUT_DISARM (R25). -/
def execOutDisarm (m : Master) (n : OutId) (s : State) : Outcome :=
  done (rowWrite ruleOutCtrl m ⟨Reg.OUT_CTRL, [n.val]⟩ (A.OUT_CTRL n.val) 2 s)
/-- LATE_CLR (R289). -/
def execLateClr (m : Master) (n : OutId) (s : State) : Outcome :=
  done (rowWrite ruleOutCtrl m ⟨Reg.OUT_CTRL, [n.val]⟩ (A.OUT_CTRL n.val) 4 s)
/-- RELEARN (R299); data holds the written RW fields. -/
def execRelearn (m : Master) (n : OutId) (data : Word) (s : State) : Outcome :=
  done (rowWrite ruleLearn m ⟨Reg.OUT_LEARN, [n.val]⟩ (A.OUT_LEARN n.val) (data ||| 0x10000000) s)
/-- REM_ARM (R310). -/
def execRemArm (m : Master) (d : DescId) (s : State) : Outcome :=
  done (rowWrite ruleRemCtrl m ⟨Reg.REM_CTRL, [d.val]⟩ (A.REM_CTRL d.val) 1 s)
/-- REM_DISARM (R311). -/
def execRemDisarm (m : Master) (d : DescId) (s : State) : Outcome :=
  done (rowWrite ruleRemCtrl m ⟨Reg.REM_CTRL, [d.val]⟩ (A.REM_CTRL d.val) 2 s)
/-- QFLUSH (R332). -/
def execQflush (m : Master) (q : QId) (s : State) : Outcome :=
  done (rowWrite ruleQctrl m ⟨Reg.QCTRL, [q.val]⟩ (A.QCTRL q.val) 1 s)
/-- HWM_CLR (R338). -/
def execHwmClr (m : Master) (q : QId) (s : State) : Outcome :=
  done (rowWrite ruleQctrl m ⟨Reg.QCTRL, [q.val]⟩ (A.QCTRL q.val) 2 s)
/-- UNLATCH (R350). -/
def execUnlatch (m : Master) (n : OutId) (s : State) : Outcome :=
  done (rowWrite ruleChCtrl m ⟨Reg.CH_CTRL, [n.val]⟩ (A.CH_CTRL n.val) 1 s)
/-- CAP_SEL_WRITE (R367). -/
def execCapSelWrite (m : Master) (data : Word) (s : State) : Outcome :=
  done (rowWrite ruleCapSel m ⟨Reg.CAP_SEL, []⟩ A.CAP_SEL data s)
/-- TICK_CFG_WRITE (R438). -/
def execTickCfgWrite (m : Master) (data : Word) (s : State) : Outcome :=
  done (rowWrite ruleTick m ⟨Reg.TICK_CFG, []⟩ A.TICK_CFG data s)
/-- TIME_SET (R448). -/
def execTimeSet (m : Master) (key : BitVec 16) (s : State) : Outcome :=
  done (rowKeyed ruleTimeCtrl m key ⟨Reg.TIME_CTRL, []⟩ A.TIME_CTRL 1 s)

end Sys2Proof.Machine
end

