-- ==== Sys2Proof/Machine/RowsEng.lean ====
section
/-! DEFINITION. Commands of the masters on ENG registers that have rows of their own. -/
namespace Sys2Proof.Machine

/-- A word for G_CTRLg: a command and the RW fields. -/
def gCtrlWord (prio : Fin 8) (keep auto : Bool) (cmd : Nat) : Word :=
  BitVec.ofNat 32 (256 * prio.val + (if keep then 16 else 0) + (if auto then 8 else 0) + cmd)
/-- A word for LOAD_CTRL: a command and SIGNED. -/
def loadWord (signed : Bool) (cmd : Nat) : Word := BitVec.ofNat 32 (cmd + if signed then 256 else 0)

/-- G_CTRL_START (R220, R221); prio, keep and auto are the written RW fields. -/
def execGCtrlStart (m : Master) (g : GatherId) (prio : Fin 8) (keep auto : Bool) (s : State) : Outcome :=
  done (rowWrite ruleGCtrl m ⟨Reg.G_CTRL, [g.val]⟩ (A.G_CTRL g.val) (gCtrlWord prio keep auto 1) s)
/-- G_CTRL_STOP (R222). -/
def execGCtrlStop (m : Master) (g : GatherId) (prio : Fin 8) (keep auto : Bool) (s : State) : Outcome :=
  done (rowWrite ruleGCtrl m ⟨Reg.G_CTRL, [g.val]⟩ (A.G_CTRL g.val) (gCtrlWord prio keep auto 2) s)
/-- STOPALL (R228). -/
def execStopall (m : Master) (s : State) : Outcome :=
  done (rowWrite ruleEngCtrl m ⟨Reg.ENG_CTRL, []⟩ A.ENG_CTRL 1 s)
/-- STARTAUTO (R228). -/
def execStartauto (m : Master) (s : State) : Outcome :=
  done (rowWrite ruleEngCtrl m ⟨Reg.ENG_CTRL, []⟩ A.ENG_CTRL 2 s)
/-- LOAD_OPEN (R235); signed is the written SIGNED. -/
def execLoadOpen (m : Master) (signed : Bool) (s : State) : Outcome :=
  done (rowWrite ruleLoadCtrl m ⟨Reg.LOAD_CTRL, []⟩ A.LOAD_CTRL (loadWord signed 1) s)
/-- LOAD_VERIFY (R237). -/
def execLoadVerify (m : Master) (signed : Bool) (s : State) : Outcome :=
  done (rowWrite ruleLoadCtrl m ⟨Reg.LOAD_CTRL, []⟩ A.LOAD_CTRL (loadWord signed 2) s)
/-- LOAD_ABORT (R236). -/
def execLoadAbort (m : Master) (signed : Bool) (s : State) : Outcome :=
  done (rowWrite ruleLoadCtrl m ⟨Reg.LOAD_CTRL, []⟩ A.LOAD_CTRL (loadWord signed 4) s)
/-- LOAD_WINDOW_WRITE (R234). -/
def execLoadWindowWrite (m : Master) (i : Fin 262144) (data : Word) (s : State) : Outcome :=
  done (rowWrite ruleLoadWin m ⟨Reg.LOAD_WIN, [i.val]⟩ (A.LOAD_WIN i.val) data s)
/-- PAGE_RELEASE (R240). -/
def execPageRelease (m : Master) (first last : Fin 64) (s : State) : Outcome :=
  done (rowWrite ruleRelease m ⟨Reg.PAGE_RELEASE, []⟩ A.PAGE_RELEASE (BitVec.ofNat 32 (0x80000000 + 256 * last.val + first.val)) s)
/-- CMEM_DATA_WRITE (R243). -/
def execCmemDataWrite (m : Master) (data : Word) (s : State) : Outcome :=
  done (rowWrite ruleCmem m ⟨Reg.CMEM_DATA, []⟩ A.CMEM_DATA data s)
/-- LMEM_DATA_WRITE (R105). -/
def execLmemDataWrite (m : Master) (data : Word) (s : State) : Outcome :=
  done (rowWrite ruleLmem m ⟨Reg.LMEM_DATA, []⟩ A.LMEM_DATA data s)
/-- FIELD_CREATE (R247). -/
def execFieldCreate (m : Master) (f : Fin 16) (s : State) : Outcome :=
  done (rowWrite ruleFieldCtrl m ⟨Reg.FIELD_CTRL, [f.val]⟩ (A.FIELD_CTRL f.val) 1 s)
/-- FIELD_HERE (R248). -/
def execFieldHere (m : Master) (f : Fin 16) (s : State) : Outcome :=
  done (rowWrite ruleFieldCtrl m ⟨Reg.FIELD_CTRL, [f.val]⟩ (A.FIELD_CTRL f.val) 4 s)
/-- FIELD_CLEAR (R249) of a set of layers. -/
def execFieldClear (m : Master) (key : BitVec 16) (f layers : Fin 16) (s : State) : Outcome :=
  done (rowKeyed ruleFieldCtrl m key ⟨Reg.FIELD_CTRL, [f.val]⟩ (A.FIELD_CTRL f.val) (BitVec.ofNat 32 (256 * layers.val)) s)
/-- FIELD_DELETE (R249). -/
def execFieldDelete (m : Master) (key : BitVec 16) (f : Fin 16) (s : State) : Outcome :=
  done (rowKeyed ruleFieldCtrl m key ⟨Reg.FIELD_CTRL, [f.val]⟩ (A.FIELD_CTRL f.val) 2 s)
/-- ONYX_FLUSH (R267). -/
def execOnyxFlush (m : Master) (s : State) : Outcome :=
  done (rowWrite ruleOnyxCtrl m ⟨Reg.ONYX_CTRL, []⟩ A.ONYX_CTRL 1 s)
/-- MAP_WIN_WRITE (R276). -/
def execMapWinWrite (m : Master) (i : Fin 1024) (data : Word) (s : State) : Outcome :=
  done (rowWrite ruleMapWin m ⟨Reg.MAP_WIN, [i.val]⟩ (A.MAP_WIN i.val) data s)
/-- MAP_CHECK (R278). -/
def execMapCheck (m : Master) (s : State) : Outcome :=
  done (rowWrite ruleMapCtrl m ⟨Reg.MAP_CTRL, []⟩ A.MAP_CTRL 1 s)
/-- MAP_ACT_NOW (R279). -/
def execMapActNow (m : Master) (s : State) : Outcome :=
  done (rowWrite ruleMapCtrl m ⟨Reg.MAP_CTRL, []⟩ A.MAP_CTRL 2 s)
/-- MAP_ACT_ARM (R279). -/
def execMapActArm (m : Master) (s : State) : Outcome :=
  done (rowWrite ruleMapCtrl m ⟨Reg.MAP_CTRL, []⟩ A.MAP_CTRL 4 s)
/-- MAP_ACT_CANCEL (R279). -/
def execMapActCancel (m : Master) (s : State) : Outcome :=
  done (rowWrite ruleMapCtrl m ⟨Reg.MAP_CTRL, []⟩ A.MAP_CTRL 8 s)
/-- MAP_CLEAR (R277). -/
def execMapClear (m : Master) (s : State) : Outcome :=
  done (rowWrite ruleMapCtrl m ⟨Reg.MAP_CTRL, []⟩ A.MAP_CTRL 16 s)

/-- The row of MAP_GEOMETRY_WRITE for each geometry register (R276). -/
def mapGeometry (m : Master) (g : GeoReg) (data : Word) (s : State) : State :=
  match g with
  | .rasterE => rowWrite (rulesMap Reg.RASTER_E.base) m ⟨Reg.RASTER_E, []⟩ A.RASTER_E data s
  | .rasterN => rowWrite (rulesMap Reg.RASTER_N.base) m ⟨Reg.RASTER_N, []⟩ A.RASTER_N data s
  | .rasterDim => rowWrite (rulesMap Reg.RASTER_DIM.base) m ⟨Reg.RASTER_DIM, []⟩ A.RASTER_DIM data s
  | .rasterCfg => rowWrite (rulesMap Reg.RASTER_CFG.base) m ⟨Reg.RASTER_CFG, []⟩ A.RASTER_CFG data s
  | .polyCfg => rowWrite rulePoly m ⟨Reg.POLY_CFG, []⟩ A.POLY_CFG data s
  | .mapField => rowWrite ruleMapField m ⟨Reg.MAP_FIELD, []⟩ A.MAP_FIELD data s
/-- MAP_GEOMETRY_WRITE (R276). -/
def execMapGeometryWrite (m : Master) (g : GeoReg) (data : Word) (s : State) : Outcome := done (mapGeometry m g data s)

end Sys2Proof.Machine
end

