-- ==== Sys2Proof/Machine/RowsFb.lean ====
section
/-! DEFINITION. Commands of the masters on feedback, navigation and bus registers that have rows of their own. -/
namespace Sys2Proof.Machine

/-- A word for PORT_CTRLp: a command and INIT. -/
def portWord (init : Bool) (cmd : Nat) : Word := BitVec.ofNat 32 (cmd + if init then 1 else 0)

/-- GNSS_COLD (R399); data holds the written RW fields. -/
def execGnssCold (m : Master) (key : BitVec 16) (data : Word) (s : State) : Outcome :=
  done (rowKeyed ruleGnssCtrl m key ⟨Reg.GNSS_CTRL, []⟩ A.GNSS_CTRL (data ||| 0x80000000) s)
/-- TRK_MANUAL_WRITE (R394). -/
def execTrkManualWrite (m : Master) (k : Fin 200) (data : Word) (s : State) : Outcome :=
  done (rowWrite ruleTrkCfg m ⟨Reg.TRK_CFG, [k.val]⟩ (A.TRK_CFG k.val) data s)
/-- CORR_FEED_WRITE (R404). -/
def execCorrFeedWrite (m : Master) (data : Word) (s : State) : Outcome :=
  done (rowWrite ruleCorrFeed m ⟨Reg.CORR_FEED, []⟩ A.CORR_FEED data s)
/-- SNAP_CAPTURE (R422). -/
def execSnapCapture (m : Master) (s : State) : Outcome :=
  done (rowWrite ruleSnapCtrl m ⟨Reg.SNAP_CTRL, []⟩ A.SNAP_CTRL 1 s)
/-- SNAP_SOLVE (R425). -/
def execSnapSolve (m : Master) (s : State) : Outcome :=
  done (rowWrite ruleSnapCtrl m ⟨Reg.SNAP_CTRL, []⟩ A.SNAP_CTRL 2 s)
/-- FB_CLEAR_FAULT (R461). -/
def execFbClearFault (m : Master) (n : Fin 24) (s : State) : Outcome :=
  done (rowWrite ruleFbCtrl m ⟨Reg.FB_CTRL, [n.val]⟩ (A.FB_CTRL n.val) 1 s)
/-- FB_COUNT_WRITE (R472). -/
def execFbCountWrite (m : Master) (n : Fin 24) (data : Word) (s : State) : Outcome :=
  done (rowWrite ruleFbCount m ⟨Reg.FB_COUNT, [n.val]⟩ (A.FB_COUNT n.val) data s)
/-- SENSOR_SUPPLY_LEVEL_CHANGE (R478): a write of FB_GLOBAL. -/
def execSensorSupplyLevelChange (m : Master) (data : Word) (s : State) : Outcome :=
  done (rowWrite ruleFbGlobal m ⟨Reg.FB_GLOBAL, []⟩ A.FB_GLOBAL data s)
/-- BUSOFF_REC (R505); init is the written INIT. -/
def execBusoffRec (m : Master) (p : PortId) (init : Bool) (s : State) : Outcome :=
  done (rowWrite rulePortCtrl m ⟨Reg.PORT_CTRL, [p.val]⟩ (A.PORT_CTRL p.val) (portWord init 4) s)
/-- PORT_INIT_WRITE (R488). -/
def execPortInitWrite (m : Master) (p : PortId) (init : Bool) (s : State) : Outcome :=
  done (rowWrite rulePortCtrl m ⟨Reg.PORT_CTRL, [p.val]⟩ (A.PORT_CTRL p.val) (portWord init 0) s)
/-- PORT_SLEEP (R506). -/
def execPortSleep (m : Master) (p : PortId) (init : Bool) (s : State) : Outcome :=
  done (rowWrite rulePortCtrl m ⟨Reg.PORT_CTRL, [p.val]⟩ (A.PORT_CTRL p.val) (portWord init 8) s)
/-- PORT_WAKE (R507). -/
def execPortWake (m : Master) (p : PortId) (init : Bool) (s : State) : Outcome :=
  done (rowWrite rulePortCtrl m ⟨Reg.PORT_CTRL, [p.val]⟩ (A.PORT_CTRL p.val) (portWord init 16) s)
/-- SEND_REQ (R497). -/
def execSendReq (m : Master) (p : PortId) (o : Fin 128) (s : State) : Outcome :=
  done (rowWrite ruleObjCtrl m ⟨Reg.OBJ_CTRL, [p.val, o.val]⟩ (A.OBJ_CTRL p.val o.val) 1 s)
/-- TX_ABORT (R497). -/
def execTxAbort (m : Master) (p : PortId) (o : Fin 128) (s : State) : Outcome :=
  done (rowWrite ruleObjCtrl m ⟨Reg.OBJ_CTRL, [p.val, o.val]⟩ (A.OBJ_CTRL p.val o.val) 2 s)

/-- The row of FB_COMPARE_WRITE (R471): the enables of input n, or value or step of its compare r. -/
def fbCompare (m : Master) (c : CmpReg) (n : Fin 24) (r : Fin 4) (data : Word) (s : State) : State :=
  match c with
  | .ctrl => rowWrite ruleCmpCtrl m ⟨Reg.FB_CMPCTRL, [n.val]⟩ (A.FB_CMPCTRL n.val) data s
  | .value => rowWrite ruleCmpValue m ⟨Reg.FB_CMPVAL, [n.val, r.val]⟩ (A.FB_CMPVAL n.val r.val) data s
  | .step => rowWrite ruleCmpValue m ⟨Reg.FB_CMPSTEP, [n.val, r.val]⟩ (A.FB_CMPSTEP n.val r.val) data s
/-- FB_COMPARE_WRITE (R471). -/
def execFbCompareWrite (m : Master) (c : CmpReg) (n : Fin 24) (r : Fin 4) (data : Word) (s : State) : Outcome :=
  done (fbCompare m c n r data s)

end Sys2Proof.Machine
end

