-- ==== Sys2Proof/Machine/RowsSys.lean ====
section
/-! DEFINITION. Commands of the masters on SYS, AON and SVC registers that have rows of their own. -/
namespace Sys2Proof.Machine

/-- A word for CFG_CTRL: a command and BY_GTIME. -/
def cfgWord (byGtime : Bool) (cmd : Word) : Word := if byGtime then cmd ||| 32 else cmd
/-- A word for JAS_CTRL: a command, ARMED_OK and ARMED_KEY. -/
def jasWord (okBit : Bool) (armKey : BitVec 16) (cmd : Word) : Word :=
  cmd ||| BitVec.ofNat 32 (65536 * armKey.toNat + if okBit then 256 else 0)

/-- KEY_UNLOCK_WRITE (R91, R93). -/
def execKeyUnlockWrite (m : Master) (data : Word) (s : State) : Outcome :=
  done (rowWrite ruleKeyUnlock m ⟨Reg.KEY_UNLOCK, []⟩ A.KEY_UNLOCK data s)
/-- OEM_KEY_HASH_WRITE (R96). -/
def execOemKeyHashWrite (m : Master) (i : Fin 8) (data : Word) (s : State) : Outcome :=
  done (rowWrite ruleHash m ⟨Reg.OEM_KEY_HASH, [i.val]⟩ (A.OEM_KEY_HASH i.val) data s)
/-- WRITE_ONCE_WRITE (R95): the OEM_KEY_HASH words are the only WON registers of the map. -/
def execWriteOnceWrite (m : Master) (i : Fin 8) (data : Word) (s : State) : Outcome :=
  done (rowWrite ruleHash m ⟨Reg.OEM_KEY_HASH, [i.val]⟩ (A.OEM_KEY_HASH i.val) data s)
/-- OEM_KEY_COMMIT (R96, R97): a key-guarded command. -/
def execOemKeyCommit (m : Master) (key : BitVec 16) (s : State) : Outcome :=
  done (rowKeyed ruleOem m key ⟨Reg.OEM_KEY_CTRL, []⟩ A.OEM_KEY_CTRL 1 s)
/-- MBX_REQ (R110, R112). -/
def execMbxReq (m : Master) (k : Fin 14) (s : State) : Outcome :=
  done (rowWrite ruleMbxCtrl m ⟨Reg.MBX_CTRL, [k.val]⟩ (A.MBX_CTRL k.val) 1 s)
/-- BUS_SESSION_DROP (R121). -/
def execBusSessionDrop (m : Master) (s : State) : Outcome :=
  done (rowWrite ruleSession m ⟨Reg.BUS_SESSION, []⟩ A.BUS_SESSION 0x1000000 s)
/-- OWN_CLAIM (R125). -/
def execOwnClaim (m : Master) (key : BitVec 16) (s : State) : Outcome :=
  done (rowKeyed ruleClaim m key ⟨Reg.OWN_CLAIM, []⟩ A.OWN_CLAIM 1 s)
/-- OWN_HANDOVER (R128). -/
def execOwnHandover (m : Master) (key : BitVec 16) (target : Master) (s : State) : Outcome :=
  done (rowKeyed ruleHandover m key ⟨Reg.OWN_HANDOVER, []⟩ A.OWN_HANDOVER (BitVec.ofNat 32 target.code) s)
/-- OWN_RELEASE (R126). -/
def execOwnRelease (m : Master) (key : BitVec 16) (s : State) : Outcome :=
  done (rowKeyed ruleHandover m key ⟨Reg.OWN_HANDOVER, []⟩ A.OWN_HANDOVER 0 s)
/-- OWN_HANDOVER_CANCEL (R126). -/
def execOwnHandoverCancel (m : Master) (key : BitVec 16) (s : State) : Outcome :=
  done (rowKeyed ruleHandover m key ⟨Reg.OWN_HANDOVER, []⟩ A.OWN_HANDOVER 7 s)
/-- OWN_ACCEPT (R126, R128). -/
def execOwnAccept (m : Master) (s : State) : Outcome :=
  done (rowWrite ruleAccept m ⟨Reg.OWN_ACCEPT, []⟩ A.OWN_ACCEPT 1 s)
/-- OWN_HEARTBEAT_REFRESH (R129). -/
def execOwnHeartbeatRefresh (m : Master) (s : State) : Outcome :=
  done (rowWrite ruleHeartbeat m ⟨Reg.OWN_HEARTBEAT, []⟩ A.OWN_HEARTBEAT 1 s)
/-- OWN_SEIZE (R130). -/
def execOwnSeize (m : Master) (key : BitVec 16) (s : State) : Outcome :=
  done (rowKeyed ruleSeize m key ⟨Reg.OWN_SEIZE, []⟩ A.OWN_SEIZE 1 s)
/-- OWN_CFG_WRITE (R133). -/
def execOwnCfgWrite (m : Master) (key : BitVec 16) (data : Word) (s : State) : Outcome :=
  done (rowKeyed ruleOwnCfg m key ⟨Reg.OWN_CFG, []⟩ A.OWN_CFG data s)
/-- RD_FIRST (R541). -/
def execRdFirst (m : Master) (s : State) : Outcome :=
  done (rowWrite ruleAgateCtrl m ⟨Reg.AGATE_CTRL, []⟩ A.AGATE_CTRL 1 s)
/-- RD_NEXT (R541). -/
def execRdNext (m : Master) (s : State) : Outcome :=
  done (rowWrite ruleAgateCtrl m ⟨Reg.AGATE_CTRL, []⟩ A.AGATE_CTRL 2 s)
/-- RD_SEQ (R541). -/
def execRdSeq (m : Master) (s : State) : Outcome :=
  done (rowWrite ruleAgateCtrl m ⟨Reg.AGATE_CTRL, []⟩ A.AGATE_CTRL 4 s)
/-- AGATE_CLEAR (R543). -/
def execAgateClear (m : Master) (key : BitVec 16) (s : State) : Outcome :=
  done (rowKeyed ruleAgateCtrl m key ⟨Reg.AGATE_CTRL, []⟩ A.AGATE_CTRL 8 s)
/-- RESET_ENGINE (R552). -/
def execResetEngine (m : Master) (key : BitVec 16) (s : State) : Outcome :=
  done (rowKeyed ruleReset m key ⟨Reg.RESET_CTRL, []⟩ A.RESET_CTRL 1 s)
/-- RESET_WARM (R552). -/
def execResetWarm (m : Master) (key : BitVec 16) (s : State) : Outcome :=
  done (rowKeyed ruleReset m key ⟨Reg.RESET_CTRL, []⟩ A.RESET_CTRL 2 s)
/-- CFG_STAGE_OPEN (R568); byGtime is the written BY_GTIME. -/
def execCfgStageOpen (m : Master) (byGtime : Bool) (s : State) : Outcome :=
  done (rowWrite ruleCfgCtrl m ⟨Reg.CFG_CTRL, []⟩ A.CFG_CTRL (cfgWord byGtime 1) s)
/-- CFG_CHECK (R569). -/
def execCfgCheck (m : Master) (byGtime : Bool) (s : State) : Outcome :=
  done (rowWrite ruleCfgCtrl m ⟨Reg.CFG_CTRL, []⟩ A.CFG_CTRL (cfgWord byGtime 2) s)
/-- CFG_ACT_ARM (R570). -/
def execCfgActArm (m : Master) (byGtime : Bool) (s : State) : Outcome :=
  done (rowWrite ruleCfgCtrl m ⟨Reg.CFG_CTRL, []⟩ A.CFG_CTRL (cfgWord byGtime 4) s)
/-- CFG_ACT_NOW (R570). -/
def execCfgActNow (m : Master) (byGtime : Bool) (s : State) : Outcome :=
  done (rowWrite ruleCfgCtrl m ⟨Reg.CFG_CTRL, []⟩ A.CFG_CTRL (cfgWord byGtime 8) s)
/-- CFG_DISCARD (R570). -/
def execCfgDiscard (m : Master) (byGtime : Bool) (s : State) : Outcome :=
  done (rowWrite ruleCfgCtrl m ⟨Reg.CFG_CTRL, []⟩ A.CFG_CTRL (cfgWord byGtime 16) s)
/-- FACTORY (R584). -/
def execFactory (m : Master) (key : BitVec 16) (s : State) : Outcome :=
  done (rowKeyed ruleFactory m key ⟨Reg.STARTUP_CTRL, []⟩ A.STARTUP_CTRL 1 s)
/-- STANDBY_ENTER (R586). -/
def execStandbyEnter (m : Master) (key : BitVec 16) (s : State) : Outcome :=
  done (rowKeyed ruleStandby m key ⟨Reg.STBY_CTRL, []⟩ A.STBY_CTRL 1 s)
/-- SVC_METER_WRITE (R601, R602). -/
def execSvcMeterWrite (m : Master) (data : Word) (s : State) : Outcome :=
  done (rowWrite ruleMeter m ⟨Reg.SVC_METER, []⟩ A.SVC_METER data s)
/-- SVC_TEST_GO (R604). -/
def execSvcTestGo (m : Master) (unit : Fin 16) (port : Fin 8) (s : State) : Outcome :=
  done (rowWrite ruleTest m ⟨Reg.SVC_TEST, []⟩ A.SVC_TEST (BitVec.ofNat 32 (0x80000000 + 16 * port.val + unit.val)) s)
/-- JAS_REFRESH (R608); okBit and armKey are the written ARMED_OK and ARMED_KEY. -/
def execJasRefresh (m : Master) (key : BitVec 16) (okBit : Bool) (armKey : BitVec 16) (s : State) : Outcome :=
  done (rowKeyed ruleJasCtrl m key ⟨Reg.JAS_CTRL, []⟩ A.JAS_CTRL (jasWord okBit armKey 1) s)
/-- JAS_OFF (R608). -/
def execJasOff (m : Master) (key : BitVec 16) (okBit : Bool) (armKey : BitVec 16) (s : State) : Outcome :=
  done (rowKeyed ruleJasCtrl m key ⟨Reg.JAS_CTRL, []⟩ A.JAS_CTRL (jasWord okBit armKey 2) s)
/-- ECC_INJECT (R609); double is the written DOUBLE. -/
def execEccInject (m : Master) (key : BitVec 16) (double : Bool) (s : State) : Outcome :=
  done (rowKeyed ruleEccCtrl m key ⟨Reg.JAS_ECC_CTRL, []⟩ A.JAS_ECC_CTRL (if double then 3 else 1) s)
/-- BUS_ONESHOT (R609); bit and every are the written BIT and EVERY. -/
def execBusOneshot (m : Master) (key : BitVec 16) (p : PortId) (bit every : Byte) (s : State) : Outcome :=
  done (rowKeyed ruleJasBus m key ⟨Reg.JAS_BUS, [p.val]⟩ (A.JAS_BUS p.val) (BitVec.ofNat 32 (0x80000000 + 256 * bit.toNat + every.toNat)) s)

/-- UNLOCK_EXPIRY (R92): the next transaction has not started within 1 µs. -/
def unlockExpiry (m : Master) (s : State) : State :=
  match tabGet (fun _ => Unlock.no) s.acc.unlock m.num with
  | .till t => setUnlock m .no (atTime (t + 1) s)
  | _ => s
/-- UNLOCK_EXPIRY (R92). -/
def execUnlockExpiry (m : Master) (s : State) : Outcome := live (unlockExpiry m) s
/-- ALIAS_WRITE (R98 to R100): a write to the word at an offset of the alias window. -/
def execAliasWrite (m : Master) (off : BitVec 23) (data : Word) (s : State) : Outcome :=
  done (addrWrite m (0x800000 + off.toNat) data s)
/-- REGISTER_WRITE (R86): a write at any address. -/
def execRegisterWrite (m : Master) (addr : BitVec 24) (data : Word) (s : State) : Outcome :=
  done (addrWrite m addr.toNat data s)
/-- OEM_KEY_COMMIT_DONE (R96). -/
def execOemKeyCommitDone (s : State) : Outcome := live commitDone s
/-- MBX_DATA_READ (R111): word j of mailbox k. -/
def mbxDataRead (m : Master) (k : Fin 14) (j : Fin 4) (s : State) : State :=
  if !running s || sysHeld s then setReply (.okValue .power [0]) s
  else
    let r := readPlace ruleMbxData m (A.MBX_DATA k.val j.val) ⟨⟨Reg.MBX_DATA, [k.val, j.val]⟩, A.MBX_DATA k.val j.val, none⟩ (beginTx m s)
    setReply (.okValue r.1 [r.2.1]) r.2.2
/-- MBX_DATA_READ (R111). -/
def execMbxDataRead (m : Master) (k : Fin 14) (j : Fin 4) (s : State) : Outcome := done (mbxDataRead m k j s)
/-- The address of a Jasper register that a row of R606 names. -/
def jasAddr : JasReg → Nat
  | .qbp q => A.JAS_QBP q.val
  | .qdly i => A.JAS_QDLY i.val
  | .sched => A.JAS_SCHED
  | .bus p => A.JAS_BUS p.val
  | .nav => A.JAS_NAV
  | .onyx => A.JAS_ONYX
  | .tap => A.JAS_TAP
/-- JASPER_ENABLE_WRITE (R606). -/
def execJasperEnableWrite (m : Master) (key : BitVec 16) (r : JasReg) (data : Word) (s : State) : Outcome :=
  let x := keyedAccess m key (jasAddr r) data (beginTx m s)
  done (setReply (.okValue x.1 []) x.2)

end Sys2Proof.Machine
end

