-- ==== Sys2Proof/Machine/Ticks.lean ====
section
/-! DEFINITION. The planning tick with the activations that take effect at it, and the calibration of the delay
lines (R280, R382, R383, R437, R570, R571). -/
namespace Sys2Proof.Machine

/-- A staged register as it becomes active (R571): its place with the words before and after. -/
def stagedChange (s : State) (e : Nat × Word) : Option (RegHit × WriteCtx) :=
  match regAt e.1 with
  | none => none
  | some h =>
    let img := BitVec.ofNat 32 (imageMask h.fam)
    let old := rd s e.1
    let new := (old &&& ~~~img) ||| (e.2 &&& img)
    if new = old then none
    else some (h, { m := .host, idx := h.idx, addr := e.1, data := new, sel := img, old := old, new := new, cmds := 0 })
/-- Whether a changed register makes its gather restart (R571). -/
def restarts (h : RegHit) : Bool :=
  [Reg.G_ENTRY.base, Reg.G_REGION.base, Reg.G_QPUSH.base, Reg.G_QPOPS.base, Reg.G_QPOPG.base, Reg.G_CTRL.base].contains h.fam.base
/-- A gather is stopped and started (R220 to R222, R571). -/
def restartGather (g : Nat) (s : State) : State :=
  let s := stopGather g s
  if startRefused s g then s else startGather g s
/-- The first 8 bytes of a digest as the values of a record. -/
def digestVals (d : List Byte) : List Int := (d.take 8).map (fun b => (b.toNat : Int))
/-- The staged image becomes active (R571): whole, then what each register's change does, then the restarts. DEDUCED, log entry 91. -/
def cfgActivate (s : State) : State :=
  let cs := s.stage.staged.filterMap (stagedChange s)
  let s := forAll (fun c s => wr s c.2.addr c.2.new) cs s
  let s := forAll (fun c s => (ruleOf c.1.fam.base).effect c.2 s) cs s
  let s := setStage { s.stage with staged := [], generation := cfgGen s, lastActivation := some s.mtime, storeDue := true, actNow := false } s
  let s := fset (fset s F.CFG_STAT_STAGING 0) F.CFG_STAT_ACT_PEND 0
  let s := forAll restartGather ((cs.filter (fun c => restarts c.1)).map (fun c => c.2.i)).dedup s
  judgeSkew s.stage.generation (raise 2 15 0 .cfgActivated ((s.stage.generation : Int) :: digestVals (imageDigest s)) s)
/-- Whether an armed activation takes effect at a tick (R570). -/
def cfgActDue (t : Nat) (s : State) : Bool :=
  flag s F.CFG_STAT_ACT_PEND &&
    (s.stage.actNow ||
      (if flag s F.CFG_CTRL_BY_GTIME then decide (256 * (cfgAct s : Int) ≤ gtimeAt s t) else decide (cfgAct s ≤ t)))
/-- CFG_ACTIVATION at the next tick if it is due (R570, R571). -/
def cfgActivation (s : State) : State :=
  let t := nextTick s
  if cfgActDue t s then cfgActivate (atTime t s) else s
/-- MAP_ACTIVATION at the next tick if it is due (R279 to R281). -/
def mapActivation (s : State) : State := activateDue (nextTick s) s
/-- TICK (R437): the activations that are due, then the snapshot is latched. -/
def tick (s : State) : State :=
  let t := nextTick s
  latchTick t (activateDue t (cfgActivation (atTime t s)))
/-- DELAY_LINE_CALIBRATION of output n (R382, R383): the fall to the fall-back path is cullet cause 3. -/
def lineCalibration (n : Nat) (taps : List Nat) (s : State) : State :=
  let t := calibrate n taps s
  if flag t (F.PWM_STAT_FALLBACK n) && !flag s (F.PWM_STAT_FALLBACK n) then cullet 3 t else t

/-- TICK (R437). -/
def execTick (s : State) : Outcome := live tick s
/-- CFG_ACTIVATION (R571). -/
def execCfgActivation (s : State) : Outcome := live cfgActivation s
/-- MAP_ACTIVATION (R280). -/
def execMapActivation (s : State) : Outcome := live mapActivation s
/-- DELAY_LINE_CALIBRATION with the measured delays of the idle line's taps, in units of 1/32 ps (R382). -/
def execDelayLineCalibration (n : OutId) (tap : Nat) (taps : List Nat) (s : State) : Outcome := live (lineCalibration n.val (tap :: taps)) s
/-- CFG_STAGED_WRITE (R568): a write to a register of the image while staging is open. -/
def execCfgStagedWrite (m : Master) (addr : BitVec 24) (data : Word) (s : State) : Outcome :=
  done (addrWrite m addr.toNat data s)

end Sys2Proof.Machine
end

