-- ==== Sys2Proof/Machine/TimeInstr.lean ====
section
/-! DEFINITION. The meanings of the snapshot, time and latency reads (R169 to R174). -/
namespace Sys2Proof.Machine

/-- RDMT (R171): MTIME to within 20 ns, which is 204 units; where in that range is a free value. Two
reads of one gather never decrease. DESIGN CHOICE, log entry 40. -/
def readMtime (g d : Nat) (s : State) : State :=
  instruction g (oddPair d) (pairOf d) [] (fun s =>
    let x := gatherOf s g
    let v := max x.lastNow (s.mtime + Config.free s.freeCtr % 409 - 204)
    retire g (setPair d v) (setGather g { x with lastNow := v } { s with freeCtr := s.freeCtr + 1 })) s

/-- TADD (R172): the tick MTIME of the gather's snapshot plus w[a] × 10 µs. -/
def tickPlus (g d a : Nat) (s : State) : State :=
  instruction g (oddPair d) (a :: pairOf d) [] (fun s =>
    let x := gatherOf s g
    let v : Int := (x.snapTick : Int) + (getW x.cur a).toInt * tenUs
    retire g (setPair d (v % 2 ^ 64).toNat) s) s

/-- RDS (R169): word k of the snapshot that the gather reads; 24 and above are illegal. -/
def readSnap (g d k : Nat) (s : State) : State :=
  instruction g (decide (24 ≤ k)) [d] [] (fun s =>
    retire g (setW d ((gatherOf s g).snap.getD k 0)) s) s

/-- Whether a geometry output index names an output (R175). -/
def namesOutput (i : Nat) : Bool := decide (i < 84) || (decide (256 ≤ i) && decide (i < 684))

/-- RDLAT (R173). -/
def readLatency (g d a k : Nat) (s : State) : State :=
  instruction g (decide (5 ≤ k)) [d, a] [] (fun s =>
    let i := (getW (gatherOf s g).cur a).toNat
    if !namesOutput i then faultHere g 3 s
    else retire g (setW d (BitVec.ofNat 32 (rdlatValue s i k))) { s with freeCtr := s.freeCtr + 1 }) s

/-- RDMT (R171). -/
def execRdmt (g : GatherId) (d : RegId) (s : State) : Outcome := done (readMtime g d s)
/-- TADD (R172). -/
def execTadd (g : GatherId) (d a : RegId) (s : State) : Outcome := done (tickPlus g d a s)
/-- RDS (R169). -/
def execRds (g : GatherId) (d : RegId) (k : Fin 2048) (s : State) : Outcome := done (readSnap g d k s)
/-- RDLAT (R173). -/
def execRdlat (g : GatherId) (d a : RegId) (k : Fin 2048) (s : State) : Outcome := done (readLatency g d a k s)
/-- RDG (R174). -/
def execRdg (g : GatherId) (d : RegId) (s : State) : Outcome :=
  done (coreInstr g false [d] [] (setW d (BitVec.ofNat 32 g)) s)

end Sys2Proof.Machine
end

