-- ==== Sys2Proof/Machine/Dispatch.lean ====
section
/-! DEFINITION. The one dispatch: one arm per command of the table, each one direct call of its meaning. -/
namespace Sys2Proof.Machine

def exec (i : Instr) (s : State) : Host.Outcome State Fault Refusal :=
  match i with
  | .selftestEnd t => Sys2Proof.Machine.execSelftestEnd t s
  | .gnsSelftestEnd bad => Sys2Proof.Machine.execGnsSelftestEnd bad s
  | .configurationLoad imageOk bad => Sys2Proof.Machine.execConfigurationLoad imageOk bad s
  | .supplyLoss vbus => Sys2Proof.Machine.execSupplyLoss vbus s
  | .feedUndervoltageEntry f reversed => Sys2Proof.Machine.execFeedUndervoltageEntry f reversed s
  | .feedUndervoltageExit f => Sys2Proof.Machine.execFeedUndervoltageExit f s
  | .staggeredTurnOn k => Sys2Proof.Machine.execStaggeredTurnOn k s
  | .keyUnlockWrite m data => Sys2Proof.Machine.execKeyUnlockWrite m data s
  | .unlockExpiry m => Sys2Proof.Machine.execUnlockExpiry m s
  | .aliasWrite m off data => Sys2Proof.Machine.execAliasWrite m off data s
  | .oemKeyHashWrite m ix data => Sys2Proof.Machine.execOemKeyHashWrite m ix data s
  | .writeOnceWrite m ix data => Sys2Proof.Machine.execWriteOnceWrite m ix data s
  | .oemKeyCommit m key => Sys2Proof.Machine.execOemKeyCommit m key s
  | .mbxReq m k => Sys2Proof.Machine.execMbxReq m k s
  | .mbxDataRead m k j => Sys2Proof.Machine.execMbxDataRead m k j s
  | .hspiRead a => Sys2Proof.Machine.execHspiRead a s
  | .hspiWrite a data => Sys2Proof.Machine.execHspiWrite a data s
  | .hspiKeyedWrite key a data => Sys2Proof.Machine.execHspiKeyedWrite key a data s
  | .hspiBurstRead a more => Sys2Proof.Machine.execHspiBurstRead a more s
  | .hspiBurstWrite a first rest => Sys2Proof.Machine.execHspiBurstWrite a first rest s
  | .hspiInvalidCommand b => Sys2Proof.Machine.execHspiInvalidCommand b s
  | .hspiCsEarlyRise started => Sys2Proof.Machine.execHspiCsEarlyRise started s
  | .busAccessOpen p src => Sys2Proof.Machine.execBusAccessOpen p src s
  | .busAccessClose p src => Sys2Proof.Machine.execBusAccessClose p src s
  | .busAccessRead p src w tag => Sys2Proof.Machine.execBusAccessRead p src w tag s
  | .busAccessWrite p src w tag data => Sys2Proof.Machine.execBusAccessWrite p src w tag data s
  | .busSessionDrop m => Sys2Proof.Machine.execBusSessionDrop m s
  | .ownClaim m key => Sys2Proof.Machine.execOwnClaim m key s
  | .ownHandover m key target => Sys2Proof.Machine.execOwnHandover m key target s
  | .ownRelease m key => Sys2Proof.Machine.execOwnRelease m key s
  | .ownHandoverCancel m key => Sys2Proof.Machine.execOwnHandoverCancel m key s
  | .ownAccept m => Sys2Proof.Machine.execOwnAccept m s
  | .ownHeartbeatRefresh m => Sys2Proof.Machine.execOwnHeartbeatRefresh m s
  | .ownSeize m key => Sys2Proof.Machine.execOwnSeize m key s
  | .ownCfgWrite m key data => Sys2Proof.Machine.execOwnCfgWrite m key data s
  | .registerWrite m addr data => Sys2Proof.Machine.execRegisterWrite m addr data s
  | .add g d a b => Sys2Proof.Machine.execAdd g d a b s
  | .sub g d a b => Sys2Proof.Machine.execSub g d a b s
  | .adc g d a b => Sys2Proof.Machine.execAdc g d a b s
  | .sbc g d a b => Sys2Proof.Machine.execSbc g d a b s
  | .andW g d a b => Sys2Proof.Machine.execAnd g d a b s
  | .orW g d a b => Sys2Proof.Machine.execOr g d a b s
  | .xorW g d a b => Sys2Proof.Machine.execXor g d a b s
  | .andn g d a b => Sys2Proof.Machine.execAndn g d a b s
  | .shl g d a b => Sys2Proof.Machine.execShl g d a b s
  | .shr g d a b => Sys2Proof.Machine.execShr g d a b s
  | .sar g d a b => Sys2Proof.Machine.execSar g d a b s
  | .ror g d a b => Sys2Proof.Machine.execRor g d a b s
  | .mul g d a b => Sys2Proof.Machine.execMul g d a b s
  | .mulh g d a b => Sys2Proof.Machine.execMulh g d a b s
  | .mulhu g d a b => Sys2Proof.Machine.execMulhu g d a b s
  | .minW g d a b => Sys2Proof.Machine.execMin g d a b s
  | .maxW g d a b => Sys2Proof.Machine.execMax g d a b s
  | .minu g d a b => Sys2Proof.Machine.execMinu g d a b s
  | .maxu g d a b => Sys2Proof.Machine.execMaxu g d a b s
  | .addi g d a imm => Sys2Proof.Machine.execAddi g d a imm s
  | .subi g d a imm => Sys2Proof.Machine.execSubi g d a imm s
  | .andi g d a imm => Sys2Proof.Machine.execAndi g d a imm s
  | .ori g d a imm => Sys2Proof.Machine.execOri g d a imm s
  | .xori g d a imm => Sys2Proof.Machine.execXori g d a imm s
  | .shli g d a count => Sys2Proof.Machine.execShli g d a count s
  | .shri g d a count => Sys2Proof.Machine.execShri g d a count s
  | .sari g d a count => Sys2Proof.Machine.execSari g d a count s
  | .rori g d a count => Sys2Proof.Machine.execRori g d a count s
  | .lui g d imm => Sys2Proof.Machine.execLui g d imm s
  | .ldw g d a imm => Sys2Proof.Machine.execLdw g d a imm s
  | .ldh g d a imm => Sys2Proof.Machine.execLdh g d a imm s
  | .ldhu g d a imm => Sys2Proof.Machine.execLdhu g d a imm s
  | .ldb g d a imm => Sys2Proof.Machine.execLdb g d a imm s
  | .ldbu g d a imm => Sys2Proof.Machine.execLdbu g d a imm s
  | .stw g d a imm => Sys2Proof.Machine.execStw g d a imm s
  | .sth g d a imm => Sys2Proof.Machine.execSth g d a imm s
  | .stb g d a imm => Sys2Proof.Machine.execStb g d a imm s
  | .ldc g d a imm => Sys2Proof.Machine.execLdc g d a imm s
  | .stc g d a imm => Sys2Proof.Machine.execStc g d a imm s
  | .bc g cond off => Sys2Proof.Machine.execBc g cond off s
  | .call g off => Sys2Proof.Machine.execCall g off s
  | .jr g a => Sys2Proof.Machine.execJr g a s
  | .callr g a => Sys2Proof.Machine.execCallr g a s
  | .divW g d a b => Sys2Proof.Machine.execDiv g d a b s
  | .divu g d a b => Sys2Proof.Machine.execDivu g d a b s
  | .remW g d a b => Sys2Proof.Machine.execRem g d a b s
  | .remu g d a b => Sys2Proof.Machine.execRemu g d a b s
  | .sqrt g d a => Sys2Proof.Machine.execSqrt g d a s
  | .pset g d a b => Sys2Proof.Machine.execPset g d a b s
  | .pgetx g d a => Sys2Proof.Machine.execPgetx g d a s
  | .pgety g d a => Sys2Proof.Machine.execPgety g d a s
  | .pmov g d a => Sys2Proof.Machine.execPmov g d a s
  | .padd g d a b => Sys2Proof.Machine.execPadd g d a b s
  | .psub g d a b => Sys2Proof.Machine.execPsub g d a b s
  | .pmid g d a b => Sys2Proof.Machine.execPmid g d a b s
  | .pdist g d a b => Sys2Proof.Machine.execPdist g d a b s
  | .foot g d a b c => Sys2Proof.Machine.execFoot g d a b c s
  | .covq g d a b => Sys2Proof.Machine.execCovq g d a b s
  | .covx g d a b c => Sys2Proof.Machine.execCovx g d a b c s
  | .zonq g d a b => Sys2Proof.Machine.execZonq g d a b s
  | .excl g d a => Sys2Proof.Machine.execExcl g d a s
  | .covm g d a b c => Sys2Proof.Machine.execCovm g d a b c s
  | .qpush g d q => Sys2Proof.Machine.execQpush g d q s
  | .qpop g d q => Sys2Proof.Machine.execQpop g d q s
  | .qtry g d q => Sys2Proof.Machine.execQtry g d q s
  | .qcommit g q => Sys2Proof.Machine.execQcommit g q s
  | .qlevel g d q sel => Sys2Proof.Machine.execQlevel g d q sel s
  | .post g d a b code => Sys2Proof.Machine.execPost g d a b code s
  | .rdmt g d => Sys2Proof.Machine.execRdmt g d s
  | .tadd g d a => Sys2Proof.Machine.execTadd g d a s
  | .rds g d k => Sys2Proof.Machine.execRds g d k s
  | .rdlat g d a k => Sys2Proof.Machine.execRdlat g d a k s
  | .rdg g d => Sys2Proof.Machine.execRdg g d s
  | .nop g => Sys2Proof.Machine.execNop g s
  | .epoch g => Sys2Proof.Machine.execEpoch g s
  | .fence g => Sys2Proof.Machine.execFence g s
  | .waita g d => Sys2Proof.Machine.execWaita g d s
  | .waitt g => Sys2Proof.Machine.execWaitt g s
  | .waitm g a => Sys2Proof.Machine.execWaitm g a s
  | .waitq g q => Sys2Proof.Machine.execWaitq g q s
  | .halt g => Sys2Proof.Machine.execHalt g s
  | .prio g p => Sys2Proof.Machine.execPrio g p s
  | .logW g d sev code => Sys2Proof.Machine.execLog g d sev code s
  | .asyncCompletion g k => Sys2Proof.Machine.execAsyncCompletion g k s
  | .waitmWake g => Sys2Proof.Machine.execWaitmWake g s
  | .waitqWake g => Sys2Proof.Machine.execWaitqWake g s
  | .gCtrlStart m g prio keep auto => Sys2Proof.Machine.execGCtrlStart m g prio keep auto s
  | .startingComplete g => Sys2Proof.Machine.execStartingComplete g s
  | .gCtrlStop m g prio keep auto => Sys2Proof.Machine.execGCtrlStop m g prio keep auto s
  | .stopall m => Sys2Proof.Machine.execStopall m s
  | .startauto m => Sys2Proof.Machine.execStartauto m s
  | .gatherHoldWindowEnd g => Sys2Proof.Machine.execGatherHoldWindowEnd g s
  | .loadOpen m signed => Sys2Proof.Machine.execLoadOpen m signed s
  | .loadWindowWrite m ix data => Sys2Proof.Machine.execLoadWindowWrite m ix data s
  | .loadVerify m signed => Sys2Proof.Machine.execLoadVerify m signed s
  | .loadAbort m signed => Sys2Proof.Machine.execLoadAbort m signed s
  | .pageRelease m first last => Sys2Proof.Machine.execPageRelease m first last s
  | .cmemDataWrite m data => Sys2Proof.Machine.execCmemDataWrite m data s
  | .lmemDataWrite m data => Sys2Proof.Machine.execLmemDataWrite m data s
  | .gatherRewind g e repairable percent => Sys2Proof.Machine.execGatherRewind g e repairable percent s
  | .rewindComplete g => Sys2Proof.Machine.execRewindComplete g s
  | .fieldCreate m f => Sys2Proof.Machine.execFieldCreate m f s
  | .fieldHere m f => Sys2Proof.Machine.execFieldHere m f s
  | .fieldClear m key f layers => Sys2Proof.Machine.execFieldClear m key f layers s
  | .fieldDelete m key f => Sys2Proof.Machine.execFieldDelete m key f s
  | .fieldCommandDone f => Sys2Proof.Machine.execFieldCommandDone f s
  | .tileFetch ix readable => Sys2Proof.Machine.execTileFetch ix readable s
  | .onyxFlush m => Sys2Proof.Machine.execOnyxFlush m s
  | .mapWinWrite m ix data => Sys2Proof.Machine.execMapWinWrite m ix data s
  | .mapGeometryWrite m g data => Sys2Proof.Machine.execMapGeometryWrite m g data s
  | .mapCheck m => Sys2Proof.Machine.execMapCheck m s
  | .mapActNow m => Sys2Proof.Machine.execMapActNow m s
  | .mapActArm m => Sys2Proof.Machine.execMapActArm m s
  | .mapActCancel m => Sys2Proof.Machine.execMapActCancel m s
  | .mapClear m => Sys2Proof.Machine.execMapClear m s
  | .actuationOn n => Sys2Proof.Machine.execActuationOn n s
  | .actuationOff n => Sys2Proof.Machine.execActuationOff n s
  | .actuationDuty n => Sys2Proof.Machine.execActuationDuty n s
  | .actuationPeriod n => Sys2Proof.Machine.execActuationPeriod n s
  | .actuationPhase n => Sys2Proof.Machine.execActuationPhase n s
  | .actuationPulse n => Sys2Proof.Machine.execActuationPulse n s
  | .pulseEnd n => Sys2Proof.Machine.execPulseEnd n s
  | .latencyMeasurement n samples => Sys2Proof.Machine.execLatencyMeasurement n samples s
  | .captureEnd n samples => Sys2Proof.Machine.execCaptureEnd n samples s
  | .outArm m n => Sys2Proof.Machine.execOutArm m n s
  | .outDisarm m n => Sys2Proof.Machine.execOutDisarm m n s
  | .lateClr m n => Sys2Proof.Machine.execLateClr m n s
  | .relearn m n data => Sys2Proof.Machine.execRelearn m n data s
  | .remArm m d => Sys2Proof.Machine.execRemArm m d s
  | .remDisarm m d => Sys2Proof.Machine.execRemDisarm m d s
  | .stateReport p node chan on late seq time => Sys2Proof.Machine.execStateReport p node chan on late seq time s
  | .latencyReport p node chan on seq lat => Sys2Proof.Machine.execLatencyReport p node chan on seq lat s
  | .remoteReportTimeout d => Sys2Proof.Machine.execRemoteReportTimeout d s
  | .qflush m q => Sys2Proof.Machine.execQflush m q s
  | .hwmClr m q => Sys2Proof.Machine.execHwmClr m q s
  | .heldItemEntry q => Sys2Proof.Machine.execHeldItemEntry q s
  | .channelTrip n => Sys2Proof.Machine.execChannelTrip n s
  | .retryPauseEnd n => Sys2Proof.Machine.execRetryPauseEnd n s
  | .tryCountReset n => Sys2Proof.Machine.execTryCountReset n s
  | .unlatch m n => Sys2Proof.Machine.execUnlatch m n s
  | .inrushWindowEnd n => Sys2Proof.Machine.execInrushWindowEnd n s
  | .thermalShutdown n hot => Sys2Proof.Machine.execThermalShutdown n hot s
  | .thermalRecovery n => Sys2Proof.Machine.execThermalRecovery n s
  | .pulseDeferralEnd n => Sys2Proof.Machine.execPulseDeferralEnd n s
  | .budgetAdmission n => Sys2Proof.Machine.execBudgetAdmission n s
  | .reversalGapEnd n => Sys2Proof.Machine.execReversalGapEnd n s
  | .supplyCompUpdate f mv meas => Sys2Proof.Machine.execSupplyCompUpdate f mv meas s
  | .compensationFreeze f => Sys2Proof.Machine.execCompensationFreeze f s
  | .compensationFreezeEnd f => Sys2Proof.Machine.execCompensationFreezeEnd f s
  | .capSelWrite m data => Sys2Proof.Machine.execCapSelWrite m data s
  | .carrierReload n => Sys2Proof.Machine.execCarrierReload n s
  | .carrierFall n => Sys2Proof.Machine.execCarrierFall n s
  | .delayLineCalibration n tap taps => Sys2Proof.Machine.execDelayLineCalibration n tap taps s
  | .poseRecordPublish ix => Sys2Proof.Machine.execPoseRecordPublish ix s
  | .gnssCold m key data => Sys2Proof.Machine.execGnssCold m key data s
  | .trkManualWrite m k data => Sys2Proof.Machine.execTrkManualWrite m k data s
  | .corrFeedWrite m data => Sys2Proof.Machine.execCorrFeedWrite m data s
  | .snapCapture m => Sys2Proof.Machine.execSnapCapture m s
  | .snapSolve m => Sys2Proof.Machine.execSnapSolve m s
  | .timeSet m key => Sys2Proof.Machine.execTimeSet m key s
  | .tickCfgWrite m data => Sys2Proof.Machine.execTickCfgWrite m data s
  | .fbEdge n both => Sys2Proof.Machine.execFbEdge n both s
  | .fbStaleTimeout n => Sys2Proof.Machine.execFbStaleTimeout n s
  | .fbPeriodicRecord n => Sys2Proof.Machine.execFbPeriodicRecord n s
  | .fbClearFault m n => Sys2Proof.Machine.execFbClearFault m n s
  | .fbCompareWrite m c n r data => Sys2Proof.Machine.execFbCompareWrite m c n r data s
  | .fbCountWrite m n data => Sys2Proof.Machine.execFbCountWrite m n data s
  | .aiConversion m raw over25 => Sys2Proof.Machine.execAiConversion m raw over25 s
  | .sensorSupplyLevelChange m data => Sys2Proof.Machine.execSensorSupplyLevelChange m data s
  | .streamItemTaken p => Sys2Proof.Machine.execStreamItemTaken p s
  | .frameTransmitComplete p sof tdc => Sys2Proof.Machine.execFrameTransmitComplete p sof tdc s
  | .busError p kind tx eight => Sys2Proof.Machine.execBusError p kind tx eight s
  | .frameReceived p f sof => Sys2Proof.Machine.execFrameReceived p f sof s
  | .receiveCheckTimeout p ix => Sys2Proof.Machine.execReceiveCheckTimeout p ix s
  | .sendReq m p o => Sys2Proof.Machine.execSendReq m p o s
  | .txAbort m p o => Sys2Proof.Machine.execTxAbort m p o s
  | .portInitWrite m p init => Sys2Proof.Machine.execPortInitWrite m p init s
  | .rdFirst m => Sys2Proof.Machine.execRdFirst m s
  | .rdNext m => Sys2Proof.Machine.execRdNext m s
  | .rdSeq m => Sys2Proof.Machine.execRdSeq m s
  | .agateClear m key => Sys2Proof.Machine.execAgateClear m key s
  | .resetEngine m key => Sys2Proof.Machine.execResetEngine m key s
  | .resetWarm m key => Sys2Proof.Machine.execResetWarm m key s
  | .clockMonitorFault sys => Sys2Proof.Machine.execClockMonitorFault sys s
  | .cfgStageOpen m byGtime => Sys2Proof.Machine.execCfgStageOpen m byGtime s
  | .cfgStagedWrite m addr data => Sys2Proof.Machine.execCfgStagedWrite m addr data s
  | .cfgCheck m byGtime => Sys2Proof.Machine.execCfgCheck m byGtime s
  | .cfgActArm m byGtime => Sys2Proof.Machine.execCfgActArm m byGtime s
  | .cfgActNow m byGtime => Sys2Proof.Machine.execCfgActNow m byGtime s
  | .cfgDiscard m byGtime => Sys2Proof.Machine.execCfgDiscard m byGtime s
  | .factory m key => Sys2Proof.Machine.execFactory m key s
  | .standbyEnter m key => Sys2Proof.Machine.execStandbyEnter m key s
  | .gafferRd a => Sys2Proof.Machine.execGafferRd a s
  | .gafferRdBurst a n => Sys2Proof.Machine.execGafferRdBurst a n s
  | .gafferWr a data => Sys2Proof.Machine.execGafferWr a data s
  | .gafferKey key a data => Sys2Proof.Machine.execGafferKey key a data s
  | .gafferOwnClaim key => Sys2Proof.Machine.execGafferOwnClaim key s
  | .gafferOwnSeize key => Sys2Proof.Machine.execGafferOwnSeize key s
  | .gafferOwnRelease key => Sys2Proof.Machine.execGafferOwnRelease key s
  | .gafferLogClear key => Sys2Proof.Machine.execGafferLogClear key s
  | .illegalInstruction g w => Sys2Proof.Machine.execIllegalInstruction g w s
  | .fetchRangeFault g => Sys2Proof.Machine.execFetchRangeFault g s
  | .rawLineChange n level => Sys2Proof.Machine.execRawLineChange n level s
  | .ptComparePulseEnd p => Sys2Proof.Machine.execPtComparePulseEnd p s
  | .synthesisedSpeedPeriod p => Sys2Proof.Machine.execSynthesisedSpeedPeriod p s
  | .dropoutEnd dur mv => Sys2Proof.Machine.execDropoutEnd dur mv s
  | .ecuBandEntry high => Sys2Proof.Machine.execEcuBandEntry high s
  | .antennaFoldBack a => Sys2Proof.Machine.execAntennaFoldBack a s
  | .antennaBiasRetry a shorted => Sys2Proof.Machine.execAntennaBiasRetry a shorted s
  | .sensorSupplyFoldBack x => Sys2Proof.Machine.execSensorSupplyFoldBack x s
  | .keyedAddr p src w tag key => Sys2Proof.Machine.execKeyedAddr p src w tag key s
  | .keyedData p src w tag data => Sys2Proof.Machine.execKeyedData p src w tag data s
  | .tileWriteback ix => Sys2Proof.Machine.execTileWriteback ix s
  | .lpShort n => Sys2Proof.Machine.execLpShort n s
  | .measurementEpoch ix => Sys2Proof.Machine.execMeasurementEpoch ix s
  | .chainFailure c => Sys2Proof.Machine.execChainFailure c s
  | .antOpen a isOpen => Sys2Proof.Machine.execAntOpen a isOpen s
  | .rtcmFrame src b bs => Sys2Proof.Machine.execRtcmFrame src b bs s
  | .snapCaptureDone data temp => Sys2Proof.Machine.execSnapCaptureDone data temp s
  | .snapSolveDone found => Sys2Proof.Machine.execSnapSolveDone found s
  | .timeMsgWithdraw p => Sys2Proof.Machine.execTimeMsgWithdraw p s
  | .holdoverLimitExceeded t => Sys2Proof.Machine.execHoldoverLimitExceeded t s
  | .ssiFrame n bits parity startHigh endLow => Sys2Proof.Machine.execSsiFrame n bits parity startHigh endLow s
  | .ssiStaleTimeout n => Sys2Proof.Machine.execSsiStaleTimeout n s
  | .aiBurdenReclose m => Sys2Proof.Machine.execAiBurdenReclose m s
  | .ptShort p => Sys2Proof.Machine.execPtShort p s
  | .busoffRecoveryComplete p => Sys2Proof.Machine.execBusoffRecoveryComplete p s
  | .busoffRec m p init => Sys2Proof.Machine.execBusoffRec m p init s
  | .portSleep m p init => Sys2Proof.Machine.execPortSleep m p init s
  | .portSleepEntry p => Sys2Proof.Machine.execPortSleepEntry p s
  | .portWakeCondition p c => Sys2Proof.Machine.execPortWakeCondition p c s
  | .portWake m p init => Sys2Proof.Machine.execPortWake m p init s
  | .addressClaimReceived p a name => Sys2Proof.Machine.execAddressClaimReceived p a name s
  | .requestForAddressClaim p src => Sys2Proof.Machine.execRequestForAddressClaim p src s
  | .addressClaimTimeout p => Sys2Proof.Machine.execAddressClaimTimeout p s
  | .tpRtsReceived p src etp total most pgn => Sys2Proof.Machine.execTpRtsReceived p src etp total most pgn s
  | .tpBamReceived p src total pgn => Sys2Proof.Machine.execTpBamReceived p src total pgn s
  | .tpDataReceived p src seq bam etp d => Sys2Proof.Machine.execTpDataReceived p src seq bam etp d s
  | .tpCtsReceived p src etp n next pgn => Sys2Proof.Machine.execTpCtsReceived p src etp n next pgn s
  | .tpAbortReceived p src etp reason pgn => Sys2Proof.Machine.execTpAbortReceived p src etp reason pgn s
  | .tpTimeout p rx => Sys2Proof.Machine.execTpTimeout p rx s
  | .bamPacketSend p => Sys2Proof.Machine.execBamPacketSend p s
  | .dm1Period p => Sys2Proof.Machine.execDm1Period p s
  | .dm2Request p src => Sys2Proof.Machine.execDm2Request p src s
  | .dm3Received p src => Sys2Proof.Machine.execDm3Received p src s
  | .memoryScrub found => Sys2Proof.Machine.execMemoryScrub found s
  | .tmrMismatch fatal => Sys2Proof.Machine.execTmrMismatch fatal s
  | .fleetDigestFrame p src part round d => Sys2Proof.Machine.execFleetDigestFrame p src part round d s
  | .fleetPeerTimeout k => Sys2Proof.Machine.execFleetPeerTimeout k s
  | .standbyWake w => Sys2Proof.Machine.execStandbyWake w s
  | .snapshotWake unc gtime found meet => Sys2Proof.Machine.execSnapshotWake unc gtime found meet s
  | .usbDtrChange isOpen => Sys2Proof.Machine.execUsbDtrChange isOpen s
  | .gafferLog sev n => Sys2Proof.Machine.execGafferLog sev n s
  | .gafferMeterCheck k target => Sys2Proof.Machine.execGafferMeterCheck k target s
  | .svcMeterWrite m data => Sys2Proof.Machine.execSvcMeterWrite m data s
  | .gafferSelftest unit port => Sys2Proof.Machine.execGafferSelftest unit port s
  | .svcTestGo m unit port => Sys2Proof.Machine.execSvcTestGo m unit port s
  | .gafferSnapCap len chains => Sys2Proof.Machine.execGafferSnapCap len chains s
  | .jasperEnableWrite m key r data => Sys2Proof.Machine.execJasperEnableWrite m key r data s
  | .jasRefresh m key okBit armKey => Sys2Proof.Machine.execJasRefresh m key okBit armKey s
  | .jasOff m key okBit armKey => Sys2Proof.Machine.execJasOff m key okBit armKey s
  | .eccInject m key double => Sys2Proof.Machine.execEccInject m key double s
  | .busOneshot m key p bit every => Sys2Proof.Machine.execBusOneshot m key p bit every s
  | .inertialSample missing rate acc => Sys2Proof.Machine.execInertialSample missing rate acc s
  | .keepAbsentChange absent => Sys2Proof.Machine.execKeepAbsentChange absent s
  | .ecuBandExit high => Sys2Proof.Machine.execEcuBandExit high s
  | .aiStaleTimeout m => Sys2Proof.Machine.execAiStaleTimeout m s
  | .operatingTimeStore ok => Sys2Proof.Machine.execOperatingTimeStore ok s
  | .selftestOnDemandDone t => Sys2Proof.Machine.execSelftestOnDemandDone t s
  | .meterMeasurement mv => Sys2Proof.Machine.execMeterMeasurement mv s
  | .gafferLineRefused f => Sys2Proof.Machine.execGafferLineRefused f s
  | .tpEndOfMessageAck p src etp total pgn => Sys2Proof.Machine.execTpEndOfMessageAck p src etp total pgn s
  | .ecuPwrQualified => Sys2Proof.Machine.execEcuPwrQualified s
  | .svcVbusColdStart => Sys2Proof.Machine.execSvcVbusColdStart s
  | .benchToNormal => Sys2Proof.Machine.execBenchToNormal s
  | .svcVbusLoss => Sys2Proof.Machine.execSvcVbusLoss s
  | .powerOnResetEnd => Sys2Proof.Machine.execPowerOnResetEnd s
  | .electionWindowEnd => Sys2Proof.Machine.execElectionWindowEnd s
  | .wakeInRise => Sys2Proof.Machine.execWakeInRise s
  | .groundLoss => Sys2Proof.Machine.execGroundLoss s
  | .groundLossEnd => Sys2Proof.Machine.execGroundLossEnd s
  | .baseHotEntry => Sys2Proof.Machine.execBaseHotEntry s
  | .oemKeyCommitDone => Sys2Proof.Machine.execOemKeyCommitDone s
  | .keyedAddrTimeout => Sys2Proof.Machine.execKeyedAddrTimeout s
  | .busSessionTimeout => Sys2Proof.Machine.execBusSessionTimeout s
  | .heartbeatTimeout => Sys2Proof.Machine.execHeartbeatTimeout s
  | .handoverTimeout => Sys2Proof.Machine.execHandoverTimeout s
  | .tick => Sys2Proof.Machine.execTick s
  | .snapshotComplete => Sys2Proof.Machine.execSnapshotComplete s
  | .loadVerifyDone => Sys2Proof.Machine.execLoadVerifyDone s
  | .mapCheckDone => Sys2Proof.Machine.execMapCheckDone s
  | .mapActivation => Sys2Proof.Machine.execMapActivation s
  | .eventPlacement => Sys2Proof.Machine.execEventPlacement s
  | .holdPlaced => Sys2Proof.Machine.execHoldPlaced s
  | .latencyStore => Sys2Proof.Machine.execLatencyStore s
  | .latencyTableRefresh => Sys2Proof.Machine.execLatencyTableRefresh s
  | .markerSweep => Sys2Proof.Machine.execMarkerSweep s
  | .navDataStore => Sys2Proof.Machine.execNavDataStore s
  | .correctionStale => Sys2Proof.Machine.execCorrectionStale s
  | .ppsPrepare => Sys2Proof.Machine.execPpsPrepare s
  | .ppsEdge => Sys2Proof.Machine.execPpsEdge s
  | .ppsFall => Sys2Proof.Machine.execPpsFall s
  | .slewComplete => Sys2Proof.Machine.execSlewComplete s
  | .holdoverEntry => Sys2Proof.Machine.execHoldoverEntry s
  | .tmReferencePeriod => Sys2Proof.Machine.execTmReferencePeriod s
  | .recorderEventAccept => Sys2Proof.Machine.execRecorderEventAccept s
  | .recordWrite => Sys2Proof.Machine.execRecordWrite s
  | .supervisorRestart => Sys2Proof.Machine.execSupervisorRestart s
  | .supervisorWatchdogTimeout => Sys2Proof.Machine.execSupervisorWatchdogTimeout s
  | .issueMonitorTimeout => Sys2Proof.Machine.execIssueMonitorTimeout s
  | .engineResetEnd => Sys2Proof.Machine.execEngineResetEnd s
  | .warmResetRelease => Sys2Proof.Machine.execWarmResetRelease s
  | .resetHoldWindowEnd => Sys2Proof.Machine.execResetHoldWindowEnd s
  | .cfgCheckDone => Sys2Proof.Machine.execCfgCheckDone s
  | .cfgActivation => Sys2Proof.Machine.execCfgActivation s
  | .imageStore => Sys2Proof.Machine.execImageStore s
  | .fleetRoundSend => Sys2Proof.Machine.execFleetRoundSend s
  | .keepLossInStandby => Sys2Proof.Machine.execKeepLossInStandby s
  | .gafferId => Sys2Proof.Machine.execGafferId s
  | .gafferOwn => Sys2Proof.Machine.execGafferOwn s
  | .gafferOwnAccept => Sys2Proof.Machine.execGafferOwnAccept s
  | .gafferOwnHb => Sys2Proof.Machine.execGafferOwnHb s
  | .gafferOwnAutoOn => Sys2Proof.Machine.execGafferOwnAutoOn s
  | .gafferOwnAutoOff => Sys2Proof.Machine.execGafferOwnAutoOff s
  | .autoHeartbeat => Sys2Proof.Machine.execAutoHeartbeat s
  | .gafferMeterRead => Sys2Proof.Machine.execGafferMeterRead s
  | .gafferMeterOff => Sys2Proof.Machine.execGafferMeterOff s
  | .meterCheckTimeout => Sys2Proof.Machine.execMeterCheckTimeout s
  | .gafferSnapSolve => Sys2Proof.Machine.execGafferSnapSolve s
  | .gafferSnapRead => Sys2Proof.Machine.execGafferSnapRead s
  | .gafferJas => Sys2Proof.Machine.execGafferJas s
  | .gafferJasRefresh => Sys2Proof.Machine.execGafferJasRefresh s
  | .gafferJasOff => Sys2Proof.Machine.execGafferJasOff s
  | .jasperExpiry => Sys2Proof.Machine.execJasperExpiry s
  | .baseHotExit => Sys2Proof.Machine.execBaseHotExit s
  | .utcOffsetChange => Sys2Proof.Machine.execUtcOffsetChange s
  | .sensorSupplyRestore => Sys2Proof.Machine.execSensorSupplyRestore s
  | .supervisorRestartEnd => Sys2Proof.Machine.execSupervisorRestartEnd s

end Sys2Proof.Machine
end

