-- ==== Sys2Proof/Machine/Step.lean ====
section
/-! DEFINITION. One step: the command at the front of the queue, or an idle ACT cycle. -/
namespace Sys2Proof.Machine

/-- The block with no command: one ACT cycle, 64 units of MTIME, passes while the logic runs (R18). DESIGN CHOICE, log entry 25. -/
def idle (s : State) : State := if running s then { s with mtime := s.mtime + 64 } else s

/-- Take the command at the front of the queue and answer its outcome; on an empty queue the block idles. -/
def step (s : State) : Host.Outcome State Fault Refusal :=
  match s.pending with
  | [] => .next (idle s)
  | c :: rest => exec c { s with pending := rest }

/-- The state with the command that a table word spells put at the front of its queue. -/
def State.withFetchWord (s : State) (nbits w : Nat) : State :=
  match decodeTableWord nbits w with
  | some c => { s with pending := c :: s.pending }
  | none => s

end Sys2Proof.Machine
end

