-- ==== Sys2Proof/Machine/Fetch.lean ====
section
/-! DEFINITION. The words of Grikar: formats, opcode map, and the command that a gather's sequencer issues next
(R140 to R143, R155 to R157, R166 to R168, R177, R186, R191, R193, R197). -/
namespace Sys2Proof.Machine

/-- A word of format R or G or S from its fields: opcode, d, a, the five bits from 11 on, the eleven bits below (R140). -/
def wordOfR (op d a b low : Nat) : Word := BitVec.ofNat 32 (op * 2 ^ 26 + d * 2 ^ 21 + a * 2 ^ 16 + b * 2 ^ 11 + low)
/-- A word of format I. -/
def wordOfI (op d a : Nat) (imm : BitVec 16) : Word := BitVec.ofNat 32 (op * 2 ^ 26 + d * 2 ^ 21 + a * 2 ^ 16 + imm.toNat)
/-- The low eleven bits of format G: c and fn6. -/
def lowG (c fn : Nat) : Nat := c * 2 ^ 6 + fn

/-- The gather and the word of a command that is an instruction (R143). -/
def encodeWord : Instr → Option (GatherId × Word)
  | .add g d a b => some (g, wordOfR 0x01 d a b 0)
  | .sub g d a b => some (g, wordOfR 0x01 d a b 1)
  | .adc g d a b => some (g, wordOfR 0x01 d a b 2)
  | .sbc g d a b => some (g, wordOfR 0x01 d a b 3)
  | .andW g d a b => some (g, wordOfR 0x01 d a b 4)
  | .orW g d a b => some (g, wordOfR 0x01 d a b 5)
  | .xorW g d a b => some (g, wordOfR 0x01 d a b 6)
  | .andn g d a b => some (g, wordOfR 0x01 d a b 7)
  | .shl g d a b => some (g, wordOfR 0x01 d a b 8)
  | .shr g d a b => some (g, wordOfR 0x01 d a b 9)
  | .sar g d a b => some (g, wordOfR 0x01 d a b 10)
  | .ror g d a b => some (g, wordOfR 0x01 d a b 11)
  | .mul g d a b => some (g, wordOfR 0x01 d a b 12)
  | .mulh g d a b => some (g, wordOfR 0x01 d a b 13)
  | .mulhu g d a b => some (g, wordOfR 0x01 d a b 14)
  | .minW g d a b => some (g, wordOfR 0x01 d a b 16)
  | .maxW g d a b => some (g, wordOfR 0x01 d a b 17)
  | .minu g d a b => some (g, wordOfR 0x01 d a b 18)
  | .maxu g d a b => some (g, wordOfR 0x01 d a b 19)
  | .addi g d a i => some (g, wordOfI 0x02 d a i)
  | .subi g d a i => some (g, wordOfI 0x03 d a i)
  | .andi g d a i => some (g, wordOfI 0x04 d a i)
  | .ori g d a i => some (g, wordOfI 0x05 d a i)
  | .xori g d a i => some (g, wordOfI 0x06 d a i)
  | .shli g d a n => some (g, wordOfR 0x07 d a 0 (n.val + 0 * 2 ^ 14))
  | .shri g d a n => some (g, wordOfR 0x07 d a 0 (n.val + 1 * 2 ^ 14))
  | .sari g d a n => some (g, wordOfR 0x07 d a 0 (n.val + 2 * 2 ^ 14))
  | .rori g d a n => some (g, wordOfR 0x07 d a 0 (n.val + 3 * 2 ^ 14))
  | .lui g d i => some (g, wordOfI 0x08 d 0 i)
  | .ldw g d a i => some (g, wordOfI 0x10 d a i)
  | .ldh g d a i => some (g, wordOfI 0x11 d a i)
  | .ldhu g d a i => some (g, wordOfI 0x12 d a i)
  | .ldb g d a i => some (g, wordOfI 0x13 d a i)
  | .ldbu g d a i => some (g, wordOfI 0x14 d a i)
  | .stw g d a i => some (g, wordOfI 0x15 d a i)
  | .sth g d a i => some (g, wordOfI 0x16 d a i)
  | .stb g d a i => some (g, wordOfI 0x17 d a i)
  | .ldc g d a i => some (g, wordOfI 0x18 d a i)
  | .stc g d a i => some (g, wordOfI 0x19 d a i)
  | .bc g k off => some (g, BitVec.ofNat 32 (0x20 * 2 ^ 26 + k.val * 2 ^ 22 + off.toNat))
  | .call g off => some (g, BitVec.ofNat 32 (0x21 * 2 ^ 26 + off.toNat))
  | .jr g a => some (g, wordOfR 0x22 0 a 0 0)
  | .callr g a => some (g, wordOfR 0x22 0 a 1 0)
  | .divW g d a b => some (g, wordOfR 0x28 d a b 0)
  | .divu g d a b => some (g, wordOfR 0x28 d a b 1)
  | .remW g d a b => some (g, wordOfR 0x28 d a b 2)
  | .remu g d a b => some (g, wordOfR 0x28 d a b 3)
  | .sqrt g d a => some (g, wordOfR 0x28 d a 0 4)
  | .pset g d a b => some (g, wordOfR 0x29 d a b (lowG 0 0))
  | .pgetx g d a => some (g, wordOfR 0x29 d a 0 (lowG 0 1))
  | .pgety g d a => some (g, wordOfR 0x29 d a 0 (lowG 0 2))
  | .pmov g d a => some (g, wordOfR 0x29 d a 0 (lowG 0 3))
  | .padd g d a b => some (g, wordOfR 0x29 d a b (lowG 0 4))
  | .psub g d a b => some (g, wordOfR 0x29 d a b (lowG 0 5))
  | .pmid g d a b => some (g, wordOfR 0x29 d a b (lowG 0 6))
  | .pdist g d a b => some (g, wordOfR 0x29 d a b (lowG 0 7))
  | .foot g d a b c => some (g, wordOfR 0x2A d a b (lowG c 1))
  | .covq g d a b => some (g, wordOfR 0x2A d a b (lowG 0 2))
  | .covx g d a b c => some (g, wordOfR 0x2A d a b (lowG c 3))
  | .zonq g d a b => some (g, wordOfR 0x2A d a b (lowG 0 4))
  | .excl g d a => some (g, wordOfR 0x2A d a 0 (lowG 0 5))
  | .covm g d a b c => some (g, wordOfR 0x2A d a b (lowG c 6))
  | .qpush g d q => some (g, wordOfR 0x2C d 0 0 q.val)
  | .qpop g d q => some (g, wordOfR 0x2C d 0 1 q.val)
  | .qtry g d q => some (g, wordOfR 0x2C d 0 2 q.val)
  | .qcommit g q => some (g, wordOfR 0x2C 0 0 3 q.val)
  | .qlevel g d q sel => some (g, wordOfR 0x2C d 0 4 (q.val + if sel then 128 else 0))
  | .post g d a b code => some (g, wordOfR 0x2D d a b (lowG 0 code.val))
  | .rdmt g d => some (g, wordOfR 0x2E d 0 0 0)
  | .tadd g d a => some (g, wordOfR 0x2E d a 1 0)
  | .rds g d k => some (g, wordOfR 0x2E d 0 2 k.val)
  | .rdlat g d a k => some (g, wordOfR 0x2E d a 3 k.val)
  | .rdg g d => some (g, wordOfR 0x2E d 0 4 0)
  | .nop g => some (g, wordOfR 0x2F 0 0 0 0)
  | .epoch g => some (g, wordOfR 0x2F 0 0 1 0)
  | .fence g => some (g, wordOfR 0x2F 0 0 2 0)
  | .waitt g => some (g, wordOfR 0x2F 0 0 4 0)
  | .halt g => some (g, wordOfR 0x2F 0 0 7 0)
  | .waita g d => some (g, wordOfR 0x2F d 0 3 0)
  | .waitm g a => some (g, wordOfR 0x2F 0 a 5 0)
  | .waitq g q => some (g, wordOfR 0x2F 0 0 6 q.val)
  | .prio g p => some (g, wordOfR 0x2F 0 0 8 p.val)
  | .logW g d sev code => some (g, wordOfR 0x30 d 0 sev.val code.val)
  | _ => none

/-- A register field. -/
def regField (w : Word) (lo : Nat) : RegId := ⟨bitsOf w (lo + 4) lo % 32, Nat.mod_lt _ (by decide)⟩
/-- A queue field. -/
def queueField (w : Word) : QId := ⟨bitsOf w 6 0 % 128, Nat.mod_lt _ (by decide)⟩
/-- An imm11 field. -/
def imm11 (w : Word) : Fin 2048 := ⟨bitsOf w 10 0 % 2048, Nat.mod_lt _ (by decide)⟩

/-- The ALU group by its function code (R155). -/
def decodeAlu (g : GatherId) (d a b : RegId) : Nat → Option Instr
  | 0 => some (.add g d a b)
  | 1 => some (.sub g d a b)
  | 2 => some (.adc g d a b)
  | 3 => some (.sbc g d a b)
  | 4 => some (.andW g d a b)
  | 5 => some (.orW g d a b)
  | 6 => some (.xorW g d a b)
  | 7 => some (.andn g d a b)
  | 8 => some (.shl g d a b)
  | 9 => some (.shr g d a b)
  | 10 => some (.sar g d a b)
  | 11 => some (.ror g d a b)
  | 12 => some (.mul g d a b)
  | 13 => some (.mulh g d a b)
  | 14 => some (.mulhu g d a b)
  | 16 => some (.minW g d a b)
  | 17 => some (.maxW g d a b)
  | 18 => some (.minu g d a b)
  | 19 => some (.maxu g d a b)
  | _ => none
/-- The asynchronous arithmetic (R159). -/
def decodeAsync (g : GatherId) (d a b : RegId) : Nat → Option Instr
  | 0 => some (.divW g d a b)
  | 1 => some (.divu g d a b)
  | 2 => some (.remW g d a b)
  | 3 => some (.remu g d a b)
  | 4 => some (.sqrt g d a)
  | _ => none
/-- The point group (R168). -/
def decodePoint (g : GatherId) (d a b : RegId) : Nat → Option Instr
  | 0 => some (.pset g d a b)
  | 1 => some (.pgetx g d a)
  | 2 => some (.pgety g d a)
  | 3 => some (.pmov g d a)
  | 4 => some (.padd g d a b)
  | 5 => some (.psub g d a b)
  | 6 => some (.pmid g d a b)
  | 7 => some (.pdist g d a b)
  | _ => none
/-- The geometry group (R177). -/
def decodeGeometry (g : GatherId) (d a b c : RegId) : Nat → Option Instr
  | 1 => some (.foot g d a b c)
  | 2 => some (.covq g d a b)
  | 3 => some (.covx g d a b c)
  | 4 => some (.zonq g d a b)
  | 5 => some (.excl g d a)
  | 6 => some (.covm g d a b c)
  | _ => none
/-- The queue group (R186). -/
def decodeQueue (g : GatherId) (d : RegId) (q : QId) (sel : Bool) : Nat → Option Instr
  | 0 => some (.qpush g d q)
  | 1 => some (.qpop g d q)
  | 2 => some (.qtry g d q)
  | 3 => some (.qcommit g q)
  | 4 => some (.qlevel g d q sel)
  | _ => none
/-- The time group (R169 to R174). -/
def decodeTime (g : GatherId) (d a : RegId) (k : Fin 2048) : Nat → Option Instr
  | 0 => some (.rdmt g d)
  | 1 => some (.tadd g d a)
  | 2 => some (.rds g d k)
  | 3 => some (.rdlat g d a k)
  | 4 => some (.rdg g d)
  | _ => none
/-- The control group (R193). -/
def decodeControl (g : GatherId) (d a : RegId) (q : QId) (p : Fin 8) : Nat → Option Instr
  | 0 => some (.nop g)
  | 1 => some (.epoch g)
  | 2 => some (.fence g)
  | 3 => some (.waita g d)
  | 4 => some (.waitt g)
  | 5 => some (.waitm g a)
  | 6 => some (.waitq g q)
  | 7 => some (.halt g)
  | 8 => some (.prio g p)
  | _ => none
/-- SHI by its kind (R157). -/
def decodeShift (g : GatherId) (d a : RegId) (n : Fin 32) : Nat → Option Instr
  | 0 => some (.shli g d a n)
  | 1 => some (.shri g d a n)
  | 2 => some (.sari g d a n)
  | _ => some (.rori g d a n)

/-- The instruction of gather g that a word is, none where the word is illegal (R141, R143). -/
def decodeWord (g : GatherId) (w : Word) : Option Instr :=
  let d := regField w 21
  let a := regField w 16
  let b := regField w 11
  let i := w.extractLsb' 0 16
  if illegalWord w then none
  else match bitsOf w 31 26 with
  | 0x01 => decodeAlu g d a b (bitsOf w 10 0)
  | 0x02 => some (.addi g d a i)
  | 0x03 => some (.subi g d a i)
  | 0x04 => some (.andi g d a i)
  | 0x05 => some (.ori g d a i)
  | 0x06 => some (.xori g d a i)
  | 0x07 => decodeShift g d a (regField w 0) (bitsOf w 15 14)
  | 0x08 => some (.lui g d i)
  | 0x10 => some (.ldw g d a i)
  | 0x11 => some (.ldh g d a i)
  | 0x12 => some (.ldhu g d a i)
  | 0x13 => some (.ldb g d a i)
  | 0x14 => some (.ldbu g d a i)
  | 0x15 => some (.stw g d a i)
  | 0x16 => some (.sth g d a i)
  | 0x17 => some (.stb g d a i)
  | 0x18 => some (.ldc g d a i)
  | 0x19 => some (.stc g d a i)
  | 0x20 => some (.bc g ⟨bitsOf w 25 22 % 16, Nat.mod_lt _ (by decide)⟩ (w.extractLsb' 0 22))
  | 0x21 => some (.call g (w.extractLsb' 0 26))
  | 0x22 => if bitsOf w 15 11 = 0 then some (.jr g a) else some (.callr g a)
  | 0x28 => decodeAsync g d a b (bitsOf w 10 0)
  | 0x29 => decodePoint g d a b (bitsOf w 5 0)
  | 0x2A => decodeGeometry g d a b (regField w 6) (bitsOf w 5 0)
  | 0x2C => decodeQueue g d (queueField w) (w.getLsbD 7) (bitsOf w 15 11)
  | 0x2D => some (.post g d a b ⟨bitsOf w 5 0 % 16, Nat.mod_lt _ (by decide)⟩)
  | 0x2E => decodeTime g d a (imm11 w) (bitsOf w 15 11)
  | 0x2F => decodeControl g d a (queueField w) ⟨bitsOf w 2 0 % 8, Nat.mod_lt _ (by decide)⟩ (bitsOf w 15 11)
  | 0x30 => some (.logW g d ⟨bitsOf w 15 11 % 8, Nat.mod_lt _ (by decide)⟩ (imm11 w))
  | _ => none

/-- The command that the sequencer of gather g issues next (R141, R167, R199): what the word at its PC says. -/
def nextCommand (s : State) (g : GatherId) : Option Instr :=
  let x := gatherOf s g
  if x.phase ≠ .run then none
  else if !inRegion s g x.cur.pc then some (.fetchRangeFault g)
  else if illegalWord (progWord s x.cur.pc) then some (.illegalInstruction g (progWord s x.cur.pc))
  else decodeWord g (progWord s x.cur.pc)

end Sys2Proof.Machine
end

