-- ==== Sys2Proof/Safety.lean ====
section
/-! DEFINITION. What statements about runs are said in: the parts of the state and what a change keeps, tables in
canonical form, queues that follow the programs, the record store in order. -/
namespace Sys2Proof.Machine

/-- The parts of the state, for saying what a command leaves as it was. -/
inductive Part where
  | regs | mtime | freeCtr | pending | reply | sup | start | own | unlock | mbx | access | events | records | reader
  | nv | stage | rcv | fleet | svc | outs | feeds | rems | qs | readCap | leads | eng | gathers | maps | onyx | marker
  | nav | clock | fb | ports
deriving DecidableEq, Repr

/-- Whether a part of two states is the same. Access is what the register interface holds beside unlocks and mailboxes,
events is what the recorder has not yet written, records its store, reader its selection point. -/
def Part.same (p : Part) (s t : State) : Prop :=
  match p with
  | .regs => t.regs = s.regs
  | .mtime => t.mtime = s.mtime
  | .freeCtr => t.freeCtr = s.freeCtr
  | .pending => t.pending = s.pending
  | .reply => t.reply = s.reply
  | .sup => t.sup = s.sup
  | .start => t.start = s.start
  | .own => t.own = s.own
  | .unlock => t.acc.unlock = s.acc.unlock
  | .mbx => t.acc.mbx = s.acc.mbx
  | .access => t.acc.sessionDeadline = s.acc.sessionDeadline ∧ t.acc.keyed = s.acc.keyed ∧ t.acc.queued = s.acc.queued ∧
      t.acc.oemStored = s.acc.oemStored ∧ t.acc.commitDone = s.acc.commitDone
  | .events => t.agate.waiting = s.agate.waiting ∧ t.agate.q103 = s.agate.q103 ∧ t.agate.flood = s.agate.flood
  | .records => t.agate.store = s.agate.store ∧ t.agate.nextSeq = s.agate.nextSeq ∧ t.agate.severe = s.agate.severe
  | .reader => t.agate.sel = s.agate.sel ∧ t.agate.ready = s.agate.ready
  | .nv => t.nv = s.nv
  | .stage => t.stage = s.stage
  | .rcv => t.rcv = s.rcv
  | .fleet => t.fleet = s.fleet
  | .svc => t.svc = s.svc
  | .outs => t.outs = s.outs
  | .feeds => t.feeds = s.feeds
  | .rems => t.rems = s.rems
  | .qs => t.qs = s.qs
  | .readCap => t.readCap = s.readCap
  | .leads => t.leads = s.leads ∧ t.leadsOld = s.leadsOld ∧ t.leadsAt = s.leadsAt
  | .eng => t.eng = s.eng
  | .gathers => t.gathers = s.gathers
  | .maps => t.maps = s.maps
  | .onyx => t.onyx = s.onyx
  | .marker => t.marker = s.marker
  | .nav => t.nav = s.nav
  | .clock => t.clock = s.clock
  | .fb => t.fb = s.fb
  | .ports => t.ports = s.ports

/-- Nothing but the listed parts differs between two states. -/
def keeps (s t : State) (changed : List Part) : Prop := ∀ p, p ∉ changed → p.same s t
/-- No register but those at the listed addresses differs between two states. -/
def keepsRegs (s t : State) (changed : List Nat) : Prop := ∀ a, a ∉ changed → rd t a = rd s a

/-- The present core of a gather. -/
def coreOf (s : State) (g : Nat) : Core := (gatherOf s g).cur
/-- The sequencer of gather g issues an instruction that reads or writes registers ws and points ps (R167, R210): the
gather runs, its PC lies in its region, nothing it names is pending. -/
def issues (s : State) (g : Nat) (ws ps : List Nat) : Prop :=
  (gatherOf s g).phase = .run ∧ inRegion s g (coreOf s g).pc = true ∧ meetsPending (gatherOf s g) ws ps = false
/-- Nothing differs but gather g's own state and the count of issued instructions, which rises by one. -/
def onlyGather (s t : State) (g : Nat) : Prop :=
  keeps s t [.gathers, .eng] ∧ (∀ h, h ≠ g → gatherOf t h = gatherOf s h) ∧
    t.eng = { s.eng with issued := (s.eng.issued + 1) % 2 ^ 64 }
/-- Nothing of gather g differs but its core; it no longer stalls. -/
def onlyCore (s t : State) (g : Nat) : Prop :=
  onlyGather s t g ∧ gatherOf t g = { gatherOf s g with cur := coreOf t g, stall := 0 }
/-- Register d takes v, w0 keeps reading zero, every other general register keeps its value (R134, R135). -/
def setsOnly (c c' : Core) (d : Nat) (v : Word) : Prop :=
  getW c' d = (if d = 0 then 0 else v) ∧ ∀ n, n ≠ d → getW c' n = getW c n
/-- No general register differs. -/
def sameWords (c c' : Core) : Prop := ∀ n, getW c' n = getW c n
/-- No point register differs. -/
def samePoints (c c' : Core) : Prop := ∀ n, getX c' n = getX c n ∧ getY c' n = getY c n
/-- No flag differs. -/
def sameFlags (c c' : Core) : Prop := c'.z = c.z ∧ c'.n = c.n ∧ c'.c = c.c ∧ c'.v = c.v
/-- The flags Z and N follow a result (R158). -/
def flagsZN (c' : Core) (r : Word) : Prop := c'.z = decide (r = 0) ∧ c'.n = decide (r.toInt < 0)
/-- The next instruction is the one at the next word, and the priority stays. -/
def goesOn (c c' : Core) : Prop := c'.pc = c.pc + 1 ∧ c'.prio = c.prio
/-- Whether an integer is a signed 32-bit number. -/
def fitsSigned (i : Int) : Bool := decide (-(2 ^ 31) ≤ i ∧ i < 2 ^ 31)

/-- The registers in which the recorder's front counts what it drops or coalesces (R537, R538). -/
def noteRegs : List Nat := [A.AGATE_STAT, A.AGATE_SUPP] ++ (List.range 8).map A.AGATE_DROP
/-- The registers that a refused access of a master may change (R104, R107). -/
def errorRegs (m : Master) : List Nat := [A.ACC_ERR_LAST m.num, A.ACC_ERR_CNT m.num] ++ noteRegs
/-- A command answers a next state, of which P holds. -/
def answers (i : Instr) (s : State) (P : State → Prop) : Prop := ∃ t, exec i s = .next t ∧ P t
/-- The unlock of a master (R91, R92). -/
def unlockOf (s : State) (m : Master) : Unlock := tabGet (fun _ => Unlock.no) s.acc.unlock m.num
/-- Nothing but master m's unlock differs among the unlocks. -/
def onlyUnlockOf (s t : State) (m : Master) : Prop := ∀ n, n ≠ m → unlockOf t n = unlockOf s n
/-- Accesses reach the registers: the logic runs, no reset holds SYS, and a meter check runs only under the Gaffer
port's ownership (R102, R602). -/
def reachable (s : State) : Prop :=
  running s = true ∧ sysHeld s = false ∧ (s.svc.meterEnd.isSome = true → ownerCode s = 3)
/-- Master m may command: accesses reach the registers and m holds the punty (R123). -/
def mayCommand (s : State) (m : Master) : Prop := reachable s ∧ ownerCode s = m.code
/-- A write of master m was accepted: it is answered OK; besides the reply and m's unlock only the listed registers
and parts differ. -/
def accepts (s t : State) (m : Master) (regs : List Nat) (parts : List Part) : Prop :=
  t.reply = .okValue .ok [] ∧ keepsRegs s t regs ∧ keeps s t ([.regs, .reply, .unlock] ++ parts) ∧ onlyUnlockOf s t m
/-- A write of master m was refused with e (R104, R107): nothing differs but the reply, m's unlock, the error
registers and what the recorder holds of it. -/
def refuses (s t : State) (m : Master) (e : Err) : Prop :=
  t.reply = .okValue e [] ∧ keepsRegs s t (errorRegs m) ∧ keeps s t [.regs, .reply, .unlock, .events] ∧ onlyUnlockOf s t m
/-- The register place p at address a holds what its fields hold: no rule of its own, no image bit, powered. -/
def plainPlace (s : State) (a : Nat) (p : Place) : Prop :=
  a % 4 = 0 ∧ locate a = some p ∧ p.bit = none ∧ ruleOf p.hit.fam.base = plainRule ∧ imageMask p.hit.fam = 0 ∧
    domainOff s (domainOf p.hit) = false ∧ p.hit.fam.base ∉ [Reg.MBX_DATA.base, Reg.SUPPLY_VOLT.base, Reg.BASE_TEMP.base]
/-- The word that a register takes from a whole write (R86, R88): RW, KRW, CNT and WON bits are written, W1C bits
written 1 clear, all else stays. -/
def writtenWord (fs : List FieldSpec) (old d : Word) : Word :=
  ((old &&& ~~~loadMask true fs) ||| (d &&& loadMask true fs)) &&& ~~~(d &&& typeMask .w1c fs)
/-- A whole write of d to place p by a master is in order: writable fields, values in range, no key needed unless given. -/
def writable (s : State) (m : Master) (a : Nat) (p : Place) (d : Word) (key : Bool) : Prop :=
  plainPlace s a p ∧ mayCommand s m ∧ allReadOnly p.hit.fam.fields = false ∧
    rangeBad p.hit.fam.fields 0xFFFFFFFF (writtenWord p.hit.fam.fields (rd s a) d) = false ∧
    (key = true ∨ (hasKrw p.hit.fam.fields = false ∧ keyedMask p.hit.fam.fields = 0))

/-- Only the listed registers and parts differ. -/
def changesOnly (s t : State) (regs : List Nat) (parts : List Part) : Prop := keepsRegs s t regs ∧ keeps s t (.regs :: parts)

/-- The outputs that a switching of output n may touch: both of an H-bridge pair (R342, R343). -/
def switchOuts (n : Nat) : List Nat := if 64 ≤ n ∧ n < 76 then [n, partner n] else [n]
/-- The outputs of output n's bank, whose carriers a spread moves (R386, R387). -/
def bankOuts (n : Nat) : List Nat := if n < 64 then (List.range 8).map (8 * (n / 8) + ·) else []
/-- The registers of an output that follow its switching. -/
def outRegs (k : Nat) : List Nat :=
  [A.CH_STAT k, A.CH_DEFER k, A.OUT_STAT k, A.OUT_MEAS_ON k, A.OUT_MEAS_OFF k, A.PWM_APPL k, A.PWM_STAT k, A.PWM_SHORT k, A.PWM_STRETCH k]
/-- The registers that a switching of output n may change. -/
def switchRegs (n : Nat) : List Nat :=
  noteRegs ++ (switchOuts n).flatMap outRegs ++ (bankOuts n).map A.PWM_STAT ++ (if n < 64 then [A.PWM_BANK (n / 8)] else [])
/-- The outputs that a turn-on of output n displaces between two states (R355): those of its feed with a higher number
whose turn-on of the same ACT cycle ends deferred. -/
def displacedOuts (s t : State) (n : Nat) : List Nat :=
  match feedOfOut n with
  | none => []
  | some f => (outsOfFeed f).filter fun k => decide (n < k) && (outOf s k).onSince.isSome && (outOf t k).onSince.isNone
/-- Only what the outputs ns switch on or off differs, and the listed registers and parts; every other output, but for
the carriers of their banks and turn-ons that they displace, is as it was. -/
def switches (s t : State) (ns : List Nat) (regs : List Nat) (parts : List Part) : Prop :=
  let gone := ns.flatMap (displacedOuts s t)
  changesOnly s t (ns.flatMap switchRegs ++ gone.flatMap outRegs ++ regs) ([.outs, .events] ++ parts) ∧
    ∀ k, k ∉ ns.flatMap switchOuts → k ∉ ns.flatMap bankOuts → k ∉ gone → outOf t k = outOf s k
/-- Nothing holds output n off, and its feed's budget admits a turn-on at MTIME u (R355, R361). -/
def mayTurnOn (s : State) (n u : Nat) : Prop :=
  let o := outOf s n
  o.latched = false ∧ o.thermal = none ∧ feedHeld s n = false ∧ o.pauseEnd = none ∧ otherHold s n = false ∧
    pulseHot s n = false ∧ admitted s n u = true

/-- Nothing drives a load: no output is armed, no commanded state is ON. -/
def quiet (s : State) : Prop := ∀ n < 84, armed s n = false ∧ flag s (F.OUT_STAT_CMD_ON n) = false

/-- A cold reset has begun from supply pw with a reset cause and a wake source: power-on reset, nothing runs, nothing
drives a load, MTIME is zero (R554, R575, R588). -/
def coldStarted (t : State) (pw : Power) (wake cause : Nat) : Prop :=
  t.sup.power = pw ∧ t.sup.inStandby = false ∧ phase t = 0 ∧ fget t F.STARTUP_STAT_KIND = (if pw = .bench then 1 else 0) ∧
    fget t F.STARTUP_STAT_WAKE = wake ∧ fget t F.RESET_STAT_KIND = 3 ∧ fget t F.RESET_STAT_CAUSE = cause ∧
    t.mtime = 0 ∧ t.gathers = [] ∧ t.outs = [] ∧ quiet t
/-- The logic is unpowered: nothing runs, nothing drives a load; in standby where BATT_KEEP is present (R559, R585). -/
def poweredDown (s t : State) (ecu : Bool) : Prop :=
  t.sup.power = .off ∧ t.sup.inStandby = s.sup.keep ∧ t.sup.standbyEcu = ecu ∧ t.gathers = [] ∧ t.outs = [] ∧ quiet t
/-- Nonvolatile memory is as it was, but for the OEM words of a commit that a loss of the staging copy cuts: all eight are
stored or none (R96). -/
def sameStore (s t : State) : Prop :=
  t.nv = { s.nv with oemHash := t.nv.oemHash } ∧
    (t.nv.oemHash = s.nv.oemHash ∨ (s.acc.commitDone.isSome = true ∧ t.nv.oemHash = s.acc.oemStored))
/-- A warm reset with a cause has begun (R552, R554, R592): it is counted, no gather runs, the ownership is cleared
and MTIME goes on. -/
def warmStarted (s t : State) (cause : Nat) : Prop :=
  phase t = 1 ∧ fget t F.STARTUP_STAT_KIND = 2 ∧ fget t F.RESET_STAT_KIND = 2 ∧ fget t F.RESET_STAT_CAUSE = cause ∧
    fget t F.RESET_CNT_WARM = min 0xFFFF (fget s F.RESET_CNT_WARM + 1) ∧ t.start.warmAt = some s.mtime ∧ t.mtime = s.mtime ∧
    t.own = State.reset.own ∧ ownerCode t = 0 ∧ t.ports = [] ∧ sameStore s t ∧
    ∀ g < 128, (gatherOf t g).phase = .stopped

/-- The register table is in canonical form. -/
def State.regsWf (s : State) : Prop := tabWf regReset s.regs
/-- The memories of the engine are in canonical form: program memory, its stored copy, common memory and every
local memory. -/
def State.memWf (s : State) : Prop :=
  tabWf (fun _ => (0 : Word)) s.eng.prog ∧ tabWf (fun _ => (0 : Word)) s.nv.prog ∧ tabWf (fun _ => (0 : Word)) s.eng.cmem ∧
    ∀ g, tabWf (fun _ => (0 : Byte)) (gatherOf s g).lmem

/-- A queue that follows the programs: an instruction in front is the one that its gather's sequencer issues. -/
def followsPrograms (s : State) : Prop :=
  ∀ c ∈ s.pending.head?, ∀ g w, encodeWord c = some (g, w) → nextCommand s g = some c

/-- The record store in order (R524, R530, R531, R533): sequence numbers rise and lie below the next one, no more
than 65,536 records, at most 256 severe ones pinned. -/
def storeInOrder (st : List Record) (next severe : Nat) : Prop :=
  (∀ r ∈ st, r.seq < next) ∧ st.Pairwise (fun a b => a.seq < b.seq) ∧ st.length ≤ 65536 ∧ severe ≤ 256
/-- The record store of a state is in order. -/
def State.recordsOk (s : State) : Prop := storeInOrder s.agate.store s.agate.nextSeq s.agate.severe

end Sys2Proof.Machine
end

