-- ==== Sys2Proof/Certificates/Slice0/Obligations.lean ====
section
/-! DEFINITION. The statements for the provers. -/
open Sys2Proof Sys2Proof.Machine

/-- ADD, SUB, ADC, SBC (R155, R158). -/
def Obligations.AddSubtractResultAndFlags : Prop :=
  ∀ (g : GatherId) (d a b : RegId) (s : State), issues s g [d, a, b] [] →
    let c := coreOf s g
    let x := getW c a
    let y := getW c b
    let k : Nat := if c.c then 1 else 0
    let does (i : Instr) (r : Word) (carry : Bool) (exact : Int) : Prop :=
      ∃ t, exec i s = .next t ∧ onlyCore s t g ∧ setsOnly c (coreOf t g) d r ∧ samePoints c (coreOf t g) ∧
        goesOn c (coreOf t g) ∧ flagsZN (coreOf t g) r ∧ (coreOf t g).c = carry ∧ (coreOf t g).v = !fitsSigned exact
    does (.add g d a b) (x + y) (decide (2 ^ 32 ≤ x.toNat + y.toNat)) (x.toInt + y.toInt) ∧
    does (.sub g d a b) (x - y) (decide (y.toNat ≤ x.toNat)) (x.toInt - y.toInt) ∧
    does (.adc g d a b) (x + y + BitVec.ofNat 32 k) (decide (2 ^ 32 ≤ x.toNat + y.toNat + k)) (x.toInt + y.toInt + k) ∧
    does (.sbc g d a b) (x - y - BitVec.ofNat 32 (1 - k)) (decide (y.toNat + (1 - k) ≤ x.toNat)) (x.toInt - y.toInt - (1 - k : Nat))

/-- AND, OR, XOR, ANDN, MUL, MULH, MULHU, MIN, MAX, MINU, MAXU (R155, R158). -/
def Obligations.LogicMultiplyMinMaxResultAndFlags : Prop :=
  ∀ (g : GatherId) (d a b : RegId) (s : State), issues s g [d, a, b] [] →
    let c := coreOf s g
    let x := getW c a
    let y := getW c b
    let does (i : Instr) (r : Word) : Prop :=
      ∃ t, exec i s = .next t ∧ onlyCore s t g ∧ setsOnly c (coreOf t g) d r ∧ samePoints c (coreOf t g) ∧
        goesOn c (coreOf t g) ∧ flagsZN (coreOf t g) r ∧ (coreOf t g).c = c.c ∧ (coreOf t g).v = c.v
    does (.andW g d a b) (x &&& y) ∧ does (.orW g d a b) (x ||| y) ∧ does (.xorW g d a b) (x ^^^ y) ∧
    does (.andn g d a b) (x &&& ~~~y) ∧ does (.mul g d a b) (BitVec.ofNat 32 (x.toNat * y.toNat)) ∧
    does (.mulh g d a b) (BitVec.ofInt 32 (x.toInt * y.toInt / 2 ^ 32)) ∧
    does (.mulhu g d a b) (BitVec.ofNat 32 (x.toNat * y.toNat / 2 ^ 32)) ∧
    does (.minW g d a b) (BitVec.ofInt 32 (min x.toInt y.toInt)) ∧
    does (.maxW g d a b) (BitVec.ofInt 32 (max x.toInt y.toInt)) ∧
    does (.minu g d a b) (BitVec.ofNat 32 (min x.toNat y.toNat)) ∧
    does (.maxu g d a b) (BitVec.ofNat 32 (max x.toNat y.toNat))

/-- SHL, SHR, SAR, ROR and their immediate forms (R155, R157, R158). -/
def Obligations.ShiftResultAndFlags : Prop :=
  ∀ (g : GatherId) (d a : RegId) (s : State),
    let c := coreOf s g
    let x := getW c a
    let does (i : Instr) (n : Nat) (r : Word) (last : Bool) : Prop :=
      ∃ t, exec i s = .next t ∧ onlyCore s t g ∧ setsOnly c (coreOf t g) d r ∧ samePoints c (coreOf t g) ∧
        goesOn c (coreOf t g) ∧ flagsZN (coreOf t g) r ∧ (coreOf t g).c = (if n = 0 then c.c else last) ∧ (coreOf t g).v = c.v
    let left (n : Nat) : Word := BitVec.ofNat 32 (x.toNat * 2 ^ n)
    let right (n : Nat) : Word := BitVec.ofNat 32 (x.toNat / 2 ^ n)
    let arith (n : Nat) : Word := BitVec.ofInt 32 (x.toInt / 2 ^ n)
    let rot (n : Nat) : Word := BitVec.ofNat 32 (x.toNat / 2 ^ n + x.toNat % 2 ^ n * 2 ^ (32 - n))
    (∀ b : RegId, issues s g [d, a, b] [] →
      let n := (getW c b).toNat % 32
      does (.shl g d a b) n (left n) (x.getLsbD (32 - n)) ∧ does (.shr g d a b) n (right n) (x.getLsbD (n - 1)) ∧
      does (.sar g d a b) n (arith n) (x.getLsbD (n - 1)) ∧ does (.ror g d a b) n (rot n) ((rot n).getLsbD 31)) ∧
    (∀ n : Fin 32, issues s g [d, a] [] →
      does (.shli g d a n) n (left n) (x.getLsbD (32 - n)) ∧ does (.shri g d a n) n (right n) (x.getLsbD (n - 1)) ∧
      does (.sari g d a n) n (arith n) (x.getLsbD (n - 1)) ∧ does (.rori g d a n) n (rot n) ((rot n).getLsbD 31))

/-- ADDI, SUBI, ANDI, ORI, XORI, LUI (R142, R156). -/
def Obligations.ImmediateArithmeticResultAndFlags : Prop :=
  ∀ (g : GatherId) (d a : RegId) (imm : BitVec 16) (s : State), issues s g [d, a] [] →
    let c := coreOf s g
    let x := getW c a
    let does (i : Instr) (r : Word) (flags : Core → Prop) : Prop :=
      ∃ t, exec i s = .next t ∧ onlyCore s t g ∧ setsOnly c (coreOf t g) d r ∧ samePoints c (coreOf t g) ∧
        goesOn c (coreOf t g) ∧ flags (coreOf t g)
    let zn (r : Word) (c' : Core) : Prop := flagsZN c' r ∧ c'.c = c.c ∧ c'.v = c.v
    let y : Word := BitVec.ofInt 32 imm.toInt
    let z : Word := BitVec.ofNat 32 imm.toNat
    does (.addi g d a imm) (x + y) (fun c' => flagsZN c' (x + y) ∧ c'.c = decide (2 ^ 32 ≤ x.toNat + y.toNat) ∧
      c'.v = !fitsSigned (x.toInt + imm.toInt)) ∧
    does (.subi g d a imm) (x - y) (fun c' => flagsZN c' (x - y) ∧ c'.c = decide (y.toNat ≤ x.toNat) ∧
      c'.v = !fitsSigned (x.toInt - imm.toInt)) ∧
    does (.andi g d a imm) (x &&& z) (zn (x &&& z)) ∧ does (.ori g d a imm) (x ||| z) (zn (x ||| z)) ∧
    does (.xori g d a imm) (x ^^^ z) (zn (x ^^^ z)) ∧
    does (.lui g d imm) (BitVec.ofNat 32 (imm.toNat * 65536)) (sameFlags c)

/-- LDW, LDH, LDHU, LDB, LDBU (R160). -/
def Obligations.LocalLoadReadsLocalMemory : Prop :=
  ∀ (g : GatherId) (d a : RegId) (imm : BitVec 16) (s : State), issues s g [d, a] [] →
    let c := coreOf s g
    let p := ((getW c a).toNat + (BitVec.ofInt 32 imm.toInt).toNat) % 2 ^ 32
    let m := (gatherOf s g).lmem
    let byte (k : Nat) : Nat := (lmemByte m (p + k)).toNat
    let sext (w v : Nat) : Word := BitVec.ofInt 32 (if v < 2 ^ (w - 1) then (v : Int) else (v : Int) - 2 ^ w)
    let loads (t : State) (v : Word) : Prop := setsOnly c (coreOf t g) d v ∧ samePoints c (coreOf t g) ∧
      sameFlags c (coreOf t g) ∧ goesOn c (coreOf t g) ∧ gatherOf t g = { gatherOf s g with cur := coreOf t g, stall := 0 }
    let does (i : Instr) (n : Nat) (v : Word) : Prop :=
      (p ≤ 0xFFF ∧ p % n = 0 →
        (eccAt s 1 g (p / 4) = none → ∃ t, exec i s = .next t ∧ onlyCore s t g ∧ loads t v) ∧
        (eccAt s 1 g (p / 4) = some false → ∃ t, exec i s = .next t ∧ loads t v ∧ keeps s t [.regs, .rcv, .gathers, .eng] ∧
          (∀ h, h ≠ g.val → gatherOf t h = gatherOf s h) ∧ keepsRegs s t [A.LEHR_CNT] ∧
          fget t F.LEHR_CNT_CORRECTED = min 0xFF (fget s F.LEHR_CNT_CORRECTED + 1)) ∧
        (eccAt s 1 g (p / 4) = some true → exec i s = .next s)) ∧
      (0xFFF < p ∨ p % n ≠ 0 → ∃ t, exec i s = .next t ∧ (gatherOf t g).phase = .fault ∧ coreOf t g = c ∧
        fget t (F.G_FAULT_CODE g) = (if 0xFFF < p then 3 else 2))
    does (.ldw g d a imm) 4 (BitVec.ofNat 32 (byte 0 + 2 ^ 8 * byte 1 + 2 ^ 16 * byte 2 + 2 ^ 24 * byte 3)) ∧
    does (.ldh g d a imm) 2 (sext 16 (byte 0 + 2 ^ 8 * byte 1)) ∧
    does (.ldhu g d a imm) 2 (BitVec.ofNat 32 (byte 0 + 2 ^ 8 * byte 1)) ∧
    does (.ldb g d a imm) 1 (sext 8 (byte 0)) ∧ does (.ldbu g d a imm) 1 (BitVec.ofNat 32 (byte 0))

/-- STW, STH, STB (R160, R162, R163). -/
def Obligations.LocalStoreWritesItsBytesAlone : Prop :=
  ∀ (g : GatherId) (d a : RegId) (imm : BitVec 16) (s : State), issues s g [d, a] [] →
    let c := coreOf s g
    let x := gatherOf s g
    let p := ((getW c a).toNat + (BitVec.ofInt 32 imm.toInt).toNat) % 2 ^ 32
    let does (i : Instr) (n : Nat) : Prop := p ≤ 0xFFF ∧ p % n = 0 →
      (x.journal.length < 256 → ∃ t, exec i s = .next t ∧
        (∀ k < n, lmemByte (gatherOf t g).lmem (p + k) = BitVec.ofNat 8 ((getW c d).toNat / 2 ^ (8 * k))) ∧
        (∀ q, q < p ∨ p + n ≤ q → lmemByte (gatherOf t g).lmem q = lmemByte x.lmem q) ∧
        (gatherOf t g).journal = x.journal ++ [.undo p ((List.range n).map (fun k => lmemByte x.lmem (p + k)))] ∧
        coreOf t g = { c with pc := c.pc + 1 } ∧
        gatherOf t g = { x with cur := coreOf t g, lmem := (gatherOf t g).lmem, journal := (gatherOf t g).journal, stall := 0 } ∧
        fget t (F.G_JHW_HIGH g) = max (fget s (F.G_JHW_HIGH g)) (x.journal.length + 1) ∧
        keepsRegs s t [A.G_JHW g] ∧ keeps s t [.regs, .gathers, .eng] ∧ (∀ h, h ≠ g.val → gatherOf t h = gatherOf s h) ∧
        t.eng = { s.eng with issued := (s.eng.issued + 1) % 2 ^ 64 }) ∧
      (256 ≤ x.journal.length → ∃ t, exec i s = .next t ∧ (gatherOf t g).phase = .fault ∧ coreOf t g = c ∧
        fget t (F.G_FAULT_CODE g) = 4)
    does (.stw g d a imm) 4 ∧ does (.sth g d a imm) 2 ∧ does (.stb g d a imm) 1

/-- LDC, STC (R161, R164). -/
def Obligations.CommonMemoryAccessIsHeld : Prop :=
  ∀ (g : GatherId) (d a : RegId) (imm : BitVec 16) (s : State), issues s g [d, a] [] →
    let c := coreOf s g
    let x := gatherOf s g
    let p := ((getW c a).toNat + (BitVec.ofInt 32 imm.toInt).toNat) % 2 ^ 32
    p ≤ 0xFFFFF → p % 4 = 0 →
    (x.journal.length < 256 → ∃ t, exec (.stc g d a imm) s = .next t ∧
      gatherOf t g = { x with cur := { c with pc := c.pc + 1 }, journal := x.journal ++ [.stc p (getW c d)], stall := 0 } ∧
      (∀ q, cmemWord t q = cmemWord s q) ∧ t.eng = { s.eng with issued := (s.eng.issued + 1) % 2 ^ 64 } ∧
      fget t (F.G_JHW_HIGH g) = max (fget s (F.G_JHW_HIGH g)) (x.journal.length + 1) ∧
      keepsRegs s t [A.G_JHW g] ∧ keeps s t [.regs, .gathers, .eng] ∧ (∀ h, h ≠ g.val → gatherOf t h = gatherOf s h)) ∧
    (x.ops.length < 8 → inFlight s < 512 → ∃ t, exec (.ldc g d a imm) s = .next t ∧ onlyGather s t g ∧
      gatherOf t g = { x with cur := { c with pc := c.pc + 1 }, stall := 0, nextTag := x.nextTag + 1
                              ops := x.ops ++ [⟨x.nextTag, .ldc (heldStore p x.journal) p, [d], []⟩] })

/-- DIV, DIVU, REM, REMU, SQRT (R159) and their completion (R149). -/
def Obligations.DivideAndRootIssueAndComplete : Prop :=
  ∀ (g : GatherId) (d a b : RegId) (s : State),
    let c := coreOf s g
    let o := gatherOf s g
    let x := getW c a
    let y := getW c b
    o.ops.length < 8 → inFlight s < 512 → (∀ q ∈ o.ops, q.tag < o.nextTag) →
    let does (i : Instr) (good : Word → Prop) : Prop := ∃ t v, good v ∧ exec i s = .next t ∧ onlyGather s t g ∧
      gatherOf t g = { o with cur := { c with pc := c.pc + 1 }, stall := 0, nextTag := o.nextTag + 1
                              ops := o.ops ++ [⟨o.nextTag, .value v, [d.val], []⟩] } ∧
      ∀ k : Fin 8, k.val = o.ops.length → ∃ u, exec (.asyncCompletion g k) t = .next u ∧ (gatherOf u g).ops = o.ops ∧
        setsOnly c (coreOf u g) d v ∧ samePoints c (coreOf u g) ∧ sameFlags c (coreOf u g) ∧ (coreOf u g).pc = c.pc + 1
    (issues s g [d, a, b] [] →
      does (.divW g d a b) (fun v => if y = 0 then v = (if 0 ≤ x.toInt then 0x7FFFFFFF else 0x80000000)
        else v = BitVec.ofInt 32 (x.toInt.tdiv y.toInt)) ∧
      does (.divu g d a b) (fun v => if y = 0 then v = 0xFFFFFFFF else v.toNat = x.toNat / y.toNat) ∧
      does (.remW g d a b) (fun v => if y = 0 then v = x else v.toInt = x.toInt.tmod y.toInt) ∧
      does (.remu g d a b) (fun v => if y = 0 then v = x else v.toNat = x.toNat % y.toNat)) ∧
    (issues s g [d, a, 0] [] →
      does (.sqrt g d a) (fun v => v.toNat * v.toNat ≤ x.toNat ∧ x.toNat < (v.toNat + 1) * (v.toNat + 1)))

/-- BC, CALL, JR, CALLR (R144, R166). -/
def Obligations.BranchSetsThePc : Prop :=
  ∀ (g : GatherId) (s : State),
    let c := coreOf s g
    let target (i : Int) : Nat := (((c.pc : Int) + i) % 2 ^ 32).toNat
    let holds : Nat → Bool := fun k => match k with
      | 0 => true | 1 => c.z | 2 => !c.z | 3 => c.c | 4 => !c.c | 5 => c.c && !c.z | 6 => !c.c || c.z
      | 7 => c.n == c.v | 8 => c.n != c.v | 9 => !c.z && c.n == c.v | 10 => c.z || c.n != c.v
      | 11 => c.n | 12 => !c.n | 13 => c.v | _ => !c.v
    let link : Word := BitVec.ofNat 32 (c.pc + 1)
    let goes (i : Instr) (pc : Nat) (words : Core → Prop) : Prop :=
      ∃ t, exec i s = .next t ∧ onlyCore s t g ∧ (coreOf t g).pc = pc ∧ words (coreOf t g) ∧ samePoints c (coreOf t g) ∧
        sameFlags c (coreOf t g) ∧ (coreOf t g).prio = c.prio
    (issues s g [] [] → ∀ (k : Fin 16) (off : BitVec 22), k.val ≠ 15 →
      goes (.bc g k off) (if holds k then target off.toInt else c.pc + 1) (sameWords c)) ∧
    (issues s g [31] [] → ∀ off : BitVec 26, goes (.call g off) (target off.toInt) (fun c' => setsOnly c c' 31 link)) ∧
    (∀ a : RegId, issues s g [a] [] → goes (.jr g a) (getW c a).toNat (sameWords c)) ∧
    (∀ a : RegId, issues s g [31, a] [] → goes (.callr g a) (getW c a).toNat (fun c' => setsOnly c c' 31 link))

/-- PSET, PGETX, PGETY, PMOV, PADD, PSUB, PMID (R138, R168). -/
def Obligations.PointInstructionsMoveCoordinates : Prop :=
  ∀ (g : GatherId) (d a b : RegId) (s : State),
    let c := coreOf s g
    let half (x y : Word) : Word := BitVec.ofInt 32 ((x.toInt + y.toInt) / 2)
    let moves (i : Instr) (x y : Word) : Prop := ∃ t, exec i s = .next t ∧ onlyCore s t g ∧ sameWords c (coreOf t g) ∧
      sameFlags c (coreOf t g) ∧ goesOn c (coreOf t g) ∧ getX (coreOf t g) d = x ∧ getY (coreOf t g) d = y ∧
      ∀ n, n ≠ d.val → getX (coreOf t g) n = getX c n ∧ getY (coreOf t g) n = getY c n
    let reads (i : Instr) (v : Word) : Prop := ∃ t, exec i s = .next t ∧ onlyCore s t g ∧ setsOnly c (coreOf t g) d v ∧
      samePoints c (coreOf t g) ∧ sameFlags c (coreOf t g) ∧ goesOn c (coreOf t g)
    (d.val < 8 → issues s g [a, b] [d] → moves (.pset g d a b) (getW c a) (getW c b)) ∧
    (a.val < 8 → issues s g [d] [a] → reads (.pgetx g d a) (getX c a) ∧ reads (.pgety g d a) (getY c a)) ∧
    (d.val < 8 → a.val < 8 → issues s g [] [d, a, a] → moves (.pmov g d a) (getX c a) (getY c a)) ∧
    (d.val < 8 → a.val < 8 → b.val < 8 → issues s g [] [d, a, b] →
      moves (.padd g d a b) (getX c a + getX c b) (getY c a + getY c b) ∧
      moves (.psub g d a b) (getX c a - getX c b) (getY c a - getY c b) ∧
      moves (.pmid g d a b) (half (getX c a) (getX c b)) (half (getY c a) (getY c b)))

/-- FOOT, COVQ, COVX, ZONQ, EXCL, COVM, PDIST, QPOP (R146, R168, R177 to R183, R186). -/
def Obligations.GeometryInstructionsIssueWithTheirOperands : Prop :=
  ∀ (g : GatherId) (d a b c : RegId) (q : QId) (s : State),
    let r := coreOf s g
    let x := gatherOf s g
    x.ops.length < 8 → inFlight s < 512 →
    let flies (i : Instr) (k : OpKind) (ws ps : List Nat) : Prop := ∃ t, exec i s = .next t ∧ onlyGather s t g ∧
      gatherOf t g = { x with cur := { r with pc := r.pc + 1 }, stall := 0, nextTag := x.nextTag + 1
                              ops := x.ops ++ [⟨x.nextTag, k, ws, ps⟩] }
    (d.val < 8 → d.val % 2 = 0 → issues s g [a, b, c] [d, d + 1] →
      flies (.foot g d a b c) (.foot (getW r a) (getW r b)) [c] [d, d + 1]) ∧
    (a.val < 8 → a.val % 2 = 0 → issues s g [d, b] [a, a + 1] →
      flies (.covq g d a b) (.covq (getX r a) (getY r a) (getX r (a + 1)) (getY r (a + 1)) (getW r b)) [d] []) ∧
    (issues s g [d, a, b, c] [] → flies (.covx g d a b c) (.covx (getW r a) (getW r b) (getW r c)) [d] []) ∧
    (a.val < 8 → issues s g [d, b] [a] → flies (.zonq g d a b) (.zonq (getX r a) (getY r a) (getW r b)) [d] []) ∧
    (a.val < 8 → a.val % 2 = 0 → issues s g [d] [a, a + 1] →
      flies (.excl g d a) (.excl (getX r a) (getY r a) (getX r (a + 1)) (getY r (a + 1))) [d] []) ∧
    (d.val % 2 = 0 → popBound s g q = true → issues s g [d, d + 1] [] → ∃ t, exec (.qpop g d q) s = .next t ∧
      keeps s t [.gathers, .eng] ∧ (∀ h, h ≠ g.val → gatherOf t h = gatherOf s h) ∧
      t.eng = { s.eng with issued := (s.eng.issued + 1) % 2 ^ 64, popNum := s.eng.popNum + 1 } ∧
      gatherOf t g = { x with cur := { r with pc := r.pc + 1 }, stall := 0, nextTag := x.nextTag + 1
                              ops := x.ops ++ [⟨x.nextTag, .qpop q s.eng.popNum, [d, d + 1], []⟩] }) ∧
    (a.val < 8 → b.val < 8 → issues s g [d] [a, b] → ∃ v : Word,
      (let dx := (getX r a).toInt - (getX r b).toInt
       let dy := (getY r a).toInt - (getY r b).toInt
       let n := (dx * dx + dy * dy).toNat
       v.toNat * v.toNat ≤ n ∧ (v = 0xFFFFFFFF ∨ n < (v.toNat + 1) * (v.toNat + 1))) ∧
      flies (.pdist g d a b) (.value v) [d] []) ∧
    (x.journal.length < 256 → 256 ≤ bitsOf (getW r a) 9 0 → bitsOf (getW r a) 31 18 = 0 → bitsOf (getW r a) 15 10 = 0 →
      remBound s (bitsOf (getW r a) 9 0 - 256) g = true → issues s g [d, a, b, c] [] →
      ∃ t, exec (.covm g d a b c) s = .next t ∧ keeps s t [.regs, .gathers, .eng] ∧ keepsRegs s t [A.G_JHW g] ∧
        (∀ h, h ≠ g.val → gatherOf t h = gatherOf s h) ∧
        gatherOf t g = { x with cur := { r with pc := r.pc + 1 }, stall := 0, nextTag := x.nextTag + 1
                                journal := x.journal ++ [.mark x.nextTag 0 []]
                                ops := x.ops ++ [⟨x.nextTag, .covm (getW r a) (getW r b) (getW r c), [d.val], []⟩] })

/-- QPUSH, QTRY, QCOMMIT, QLEVEL (R186 to R188). -/
def Obligations.QueueInstructionsPushPopAndCommit : Prop :=
  ∀ (g : GatherId) (d : RegId) (q : QId) (sel : Bool) (s : State),
    let c := coreOf s g
    let x := queueOf s q
    let runs (i : Instr) (regs : List Nat) (good : State → Prop) : Prop := ∃ t, exec i s = .next t ∧ good t ∧
      keeps s t [.regs, .qs, .gathers, .eng] ∧ keepsRegs s t regs ∧ (∀ p, p ≠ q.val → queueOf t p = queueOf s p) ∧
      (∀ h, h ≠ g.val → gatherOf t h = gatherOf s h) ∧ gatherOf t g = { gatherOf s g with cur := coreOf t g, stall := 0 } ∧
      t.eng = { s.eng with issued := (s.eng.issued + 1) % 2 ^ 64 } ∧ samePoints c (coreOf t g) ∧ goesOn c (coreOf t g)
    let unbound (i : Instr) : Prop := ∃ t, exec i s = .next t ∧ (gatherOf t g).phase = .fault ∧
      fget t (F.G_FAULT_CODE g) = 5 ∧ fget t (F.G_FAULT_PC g) = c.pc % 2 ^ 18
    (issues s g [d, d + 1] [] → d.val % 2 = 0 →
      (pushBound s g q = true → isPoisoned s g q = false → 1 ≤ freeRoom s q → fget s (F.JAS_QBP_DUTY q) = 0 →
        runs (.qpush g d q) [A.QHWM q] (fun t => coreOf t g = { c with pc := c.pc + 1 } ∧
          queueOf t q = { x with res := x.res ++ [⟨g, BitVec.ofNat 64 ((getW c d).toNat + 2 ^ 32 * (getW c (d + 1)).toNat), false, false, false⟩] })) ∧
      (pushBound s g q = true → isPoisoned s g q = true → runs (.qpush g d q) [A.QSTAT q] (fun t =>
        coreOf t g = { c with pc := c.pc + 1 } ∧ queueOf t q = x ∧
        fget t (F.QSTAT_FLUSH_SWALLOW q) = min 0xFFFF (fget s (F.QSTAT_FLUSH_SWALLOW q) + 1))) ∧
      (pushBound s g q = false → unbound (.qpush g d q)) ∧
      (popBound s g q = true → runs (.qtry g d q) [] (fun t =>
        let c' := coreOf t g
        c'.n = c.n ∧ c'.c = c.c ∧ c'.v = c.v ∧
        if visible s q ≤ popsBefore s q s.eng.popNum then c'.z = true ∧ sameWords c c' ∧ queueOf t q = x
        else c'.z = false ∧ ∃ l w r, x.slots = l ++ w :: r ∧
          (l.filter (fun y => y.holder.isNone && !y.final)).length = popsBefore s q s.eng.popNum ∧ w.holder = none ∧ w.final = false ∧ queueOf t q = { x with slots := l ++ { w with holder := some g } :: r } ∧
          (d.val ≠ 0 → getW c' d = BitVec.ofNat 32 w.data.toNat) ∧ getW c' (d + 1) = BitVec.ofNat 32 (w.data.toNat / 2 ^ 32) ∧
          ∀ n, n ≠ d.val → n ≠ d.val + 1 → getW c' n = getW c n)) ∧
      (popBound s g q = false → unbound (.qtry g d q))) ∧
    (issues s g [] [] → (pushBound s g q = true → isPoisoned s g q = false → runs (.qcommit g q) [] (fun t =>
        coreOf t g = { c with pc := c.pc + 1 } ∧ queueOf t q = { x with res := closeWords g x.res } ∧
        ∀ w ∈ (queueOf t q).res, w.gather = g.val → w.closed = true)) ∧
      (pushBound s g q = true → isPoisoned s g q = true → runs (.qcommit g q) [] (fun t =>
        coreOf t g = { c with pc := c.pc + 1 } ∧ queueOf t q = { x with poison := x.poison.filter (· != g.val) })) ∧
      (pushBound s g q = false → unbound (.qcommit g q))) ∧
    (issues s g [d] [] → (pushBound s g q = true ∨ (popBound s g q = true ∧ sel = false) →
        runs (.qlevel g d q sel) [] (fun t => sameFlags c (coreOf t g) ∧ queueOf t q = x ∧
          setsOnly c (coreOf t g) d (BitVec.ofNat 32 (if popBound s g q = true ∧ sel = false then visible s q else freeRoom s q)))) ∧
      (pushBound s g q = false → popBound s g q = false ∨ sel = true → unbound (.qlevel g d q sel)))

/-- POST (R190 to R192). -/
def Obligations.PostFormsOnePacketOnQ84 : Prop :=
  ∀ (g : GatherId) (d a b : RegId) (code : Fin 16) (s : State),
    issues s g [d, d + 1, a, b] [] → d.val % 2 = 0 → 1 ≤ code.val → code.val ≤ 7 →
    let c := coreOf s g
    let o := (getW c a).toNat
    let target := (getW c d).toNat + 2 ^ 32 * (getW c (d + 1)).toNat
    let faults (k : Nat) : Prop := ∃ t, exec (.post g d a b code) s = .next t ∧ (gatherOf t g).phase = .fault ∧
      coreOf t g = c ∧ fget t (F.G_FAULT_CODE g) = k
    (permits s o g = true → target ≤ s.mtime + 0x17D7840000 → 2 ≤ freeRoom s 84 → fget s (F.JAS_QBP_DUTY 84) = 0 →
      ∃ t, exec (.post g d a b code) s = .next t ∧ onlyCore { s with regs := t.regs, qs := t.qs } t g ∧
        coreOf t g = { c with pc := c.pc + 1 } ∧ keepsRegs s t [A.QHWM 84] ∧ (∀ p, p ≠ 84 → queueOf t p = queueOf s p) ∧
        queueOf t 84 = { queueOf s 84 with res := (queueOf s 84).res ++
          [⟨g, BitVec.ofNat 64 target, false, true, false⟩,
           ⟨g, BitVec.ofNat 64 (2 ^ 56 * o + 2 ^ 52 * code.val + (getW c b).toNat), true, true, false⟩] }) ∧
    (permits s o g = false → faults 5) ∧
    (permits s o g = true → s.mtime + 0x17D7840000 < target → faults 3)

/-- RDS, RDMT, TADD, RDLAT, RDG (R169 to R174). The value of RDMT within its bound is a free value (log entry 5). -/
def Obligations.TimeAndSnapshotReadsWriteTheirRegister : Prop :=
  ∀ (g : GatherId) (d a : RegId) (k : Fin 2048) (s : State),
    let c := coreOf s g
    let x := gatherOf s g
    let pair (c' : Core) (v : Nat) : Prop := (d.val ≠ 0 → getW c' d = BitVec.ofNat 32 v) ∧
      getW c' (d + 1) = BitVec.ofNat 32 (v / 2 ^ 32) ∧ ∀ n, n ≠ d.val → n ≠ d.val + 1 → getW c' n = getW c n
    let stays (t : State) : Prop := samePoints c (coreOf t g) ∧ sameFlags c (coreOf t g) ∧ goesOn c (coreOf t g)
    (k.val < 24 → issues s g [d] [] → ∃ t, exec (.rds g d k) s = .next t ∧ onlyCore s t g ∧ stays t ∧
      setsOnly c (coreOf t g) d (x.snap.getD k 0)) ∧
    (d.val % 2 = 0 → issues s g [a, d, d + 1] [] → ∃ t, exec (.tadd g d a) s = .next t ∧ onlyCore s t g ∧ stays t ∧
      pair (coreOf t g) (((x.snapTick : Int) + (getW c a).toInt * 102400) % 2 ^ 64).toNat) ∧
    (issues s g [d] [] → ∃ t, exec (.rdg g d) s = .next t ∧ onlyCore s t g ∧ stays t ∧
      setsOnly c (coreOf t g) d (BitVec.ofNat 32 g.val)) ∧
    (k.val < 5 → namesOutput (getW c a).toNat = true → issues s g [d, a] [] →
      ∃ t, exec (.rdlat g d a k) s = .next t ∧ onlyCore { s with freeCtr := t.freeCtr } t g ∧ stays t ∧
        setsOnly c (coreOf t g) d (BitVec.ofNat 32 (rdlatValue s (getW c a).toNat k))) ∧
    (d.val % 2 = 0 → issues s g [d, d + 1] [] → s.mtime + 204 < 2 ^ 64 → x.lastNow ≤ s.mtime + 204 →
      ∃ t v, exec (.rdmt g d) s = .next t ∧ pair (coreOf t g) v ∧ stays t ∧ x.lastNow ≤ v ∧ s.mtime ≤ v + 204 ∧
        v ≤ s.mtime + 204 ∧ gatherOf t g = { x with cur := coreOf t g, stall := 0, lastNow := v } ∧
        keeps s t [.freeCtr, .gathers, .eng] ∧ (∀ h, h ≠ g.val → gatherOf t h = gatherOf s h))

/-- NOP, FENCE, WAITA, PRIO, LOG (R193, R197). -/
def Obligations.ControlInstructionsCompleteOrStall : Prop :=
  ∀ (g : GatherId) (d : RegId) (p sev : Fin 8) (code : Fin 2048) (s : State),
    let c := coreOf s g
    let x := gatherOf s g
    let goes (i : Instr) (c' : Core) : Prop := ∃ t, exec i s = .next t ∧ onlyCore s t g ∧ coreOf t g = c'
    let stalls (i : Instr) : Prop := ∃ t, exec i s = .next t ∧ keeps s t [.gathers] ∧
      (∀ h, h ≠ g.val → gatherOf t h = gatherOf s h) ∧ gatherOf t g = { x with stall := 2 }
    (issues s g [] [] →
      goes (.nop g) { c with pc := c.pc + 1 } ∧ goes (.prio g p) { c with pc := c.pc + 1, prio := p } ∧
      (x.ops = [] → goes (.fence g) { c with pc := c.pc + 1 }) ∧ (x.ops ≠ [] → stalls (.fence g)) ∧
      (meetsPending x [d] [] = false → goes (.waita g d) { c with pc := c.pc + 1 }) ∧
      (meetsPending x [d] [] = true → stalls (.waita g d))) ∧
    (issues s g [d, d + 1] [] → d.val % 2 = 0 → sev.val ≤ 4 → x.journal.length < 256 →
      ∃ t, exec (.logW g d sev code) s = .next t ∧ keeps s t [.regs, .gathers, .eng] ∧ keepsRegs s t [A.G_JHW g] ∧
        (∀ h, h ≠ g.val → gatherOf t h = gatherOf s h) ∧
        gatherOf t g = { x with cur := { c with pc := c.pc + 1 }, stall := 0
                                journal := x.journal ++ [.log sev code (getW c d) (getW c (d + 1))] })

/-- EPOCH, WAITT, WAITM, WAITQ, HALT (R193 to R196, R218, R225). -/
def Obligations.EpochCommitsAndWaitsBegin : Prop :=
  ∀ (g : GatherId) (a : RegId) (q : QId) (s : State),
    let c := coreOf s g
    let x := gatherOf s g
    let stores : List (Nat × Word) := x.journal.filterMap (fun e => match e with | .stc p v => some (p, v) | _ => none)
    let value (p : Nat) : Word := match stores.reverse.find? (fun e => e.1 / 4 == p / 4) with
      | some e => e.2
      | none => cmemWord s p
    let marked : Prop := ∃ k l cs, JEntry.mark k l cs ∈ x.journal
    let logged : Prop := ∃ v k lo hi, JEntry.log v k lo hi ∈ x.journal
    let mine (r : QRes) : Bool := r.gather == g.val && r.closed
    let commitsQueue (k : Nat) (t : State) : Prop :=
      (queueOf t k).res = ((queueOf s k).res.filter (fun r => !mine r)).map (fun r => if r.gather = g.val then { r with old := true } else r) ∧
      ∃ gone, gone ++ (queueOf t k).slots =
          (queueOf s k).slots.map (fun w => if w.holder = some g.val then { w with final := true } else w) ++
            ((queueOf s k).res.filter mine).map (fun r => ⟨r.data, r.last, none, false⟩) ∧
        (∀ w ∈ gone, w.final = true) ∧ ∀ w ∈ (queueOf t k).slots.head?, w.final = false
    let commits (i : Instr) (good : State → Prop) : Prop :=
      (x.ops ≠ [] → ∃ t, exec i s = .next t ∧ keeps s t [.gathers] ∧ (∀ h, h ≠ g.val → gatherOf t h = gatherOf s h) ∧
        gatherOf t g = { x with stall := 3 }) ∧
      (x.ops = [] → ∃ t, exec i s = .next t ∧ good t ∧
        coreOf t g = { c with pc := c.pc + 1 } ∧ (gatherOf t g).com = coreOf t g ∧ (gatherOf t g).journal = [] ∧
        (gatherOf t g).row = 0 ∧ (gatherOf t g).lmem = x.lmem ∧ (gatherOf t g).ops = [] ∧ (gatherOf t g).stall = 0 ∧
        (∀ p, cmemWord t p = value p) ∧ (∀ k ∈ gatherQueues, commitsQueue k t) ∧
        (∀ k, k ∉ gatherQueues → queueOf t k = queueOf s k) ∧ (∀ h, h ≠ g.val → gatherOf t h = gatherOf s h) ∧
        t.eng = { s.eng with issued := (s.eng.issued + 1) % 2 ^ 64, cmem := t.eng.cmem } ∧
        keepsRegs s t (noteRegs ++ gatherQueues.flatMap (fun k => [A.QPCNT k, A.QCCNT k, A.QHWM k]) ++
          [A.G_MISSED g, A.FETCH_CNT, A.OUTSIDE_CNT, A.ONYX_STAT, A.HEALTH, A.CULLET_CAUSE, A.CULLET_HIST]) ∧
        keeps s t [.regs, .freeCtr, .events, .qs, .eng, .gathers, .onyx] ∧
        (¬ marked → t.onyx = s.onyx ∧ t.freeCtr = s.freeCtr) ∧
        (¬ marked → ¬ logged → (gatherOf t g).phase ≠ .halted → Part.events.same s t))
    (issues s g [] [] →
      commits (.epoch g) (fun t => (gatherOf t g).phase = .run ∧ (gatherOf t g).waiting = .none) ∧
      commits (.waitt g) (fun t => (gatherOf t g).phase = .waitTick ∧ (gatherOf t g).waiting = .tick ∧
        fget t (F.G_MISSED_COUNT g) = min 0xFFFFFFFF (fget s (F.G_MISSED_COUNT g) + (x.missed + (s.eng.ticks - x.tickSeen)))) ∧
      commits (.halt g) (fun t => (gatherOf t g).phase = .halted) ∧
      (popBound s g q = true → commits (.waitq g q) (fun t =>
        if visible t q = 0 then (gatherOf t g).phase = .waitQueue ∧ (gatherOf t g).waiting = .queue q
        else (gatherOf t g).phase = .run ∧ (gatherOf t g).waiting = .none))) ∧
    (a.val % 2 = 0 → issues s g [a, a + 1] [] → commits (.waitm g a) (fun t =>
      let w := (getW c a).toNat + 2 ^ 32 * (getW c (a + 1)).toNat
      if w ≤ s.mtime then (gatherOf t g).phase = .run ∧ (gatherOf t g).waiting = .none
      else (gatherOf t g).phase = .waitTime ∧ (gatherOf t g).waiting = .time w))

/-- WAITM_WAKE, WAITQ_WAKE, STARTING_COMPLETE, ILLEGAL_INSTRUCTION, FETCH_RANGE_FAULT (R167, R199, R200, R226). -/
def Obligations.WaitsEndAndIllegalWordsFault : Prop :=
  ∀ (g : GatherId) (s : State),
    let x := gatherOf s g
    let wakes (i : Instr) (good : State → Prop) : Prop := ∃ t, exec i s = .next t ∧ good t ∧
      keeps s t [.mtime, .gathers] ∧ (∀ h, h ≠ g.val → gatherOf t h = gatherOf s h)
    let faults (i : Instr) (code : Nat) : Prop := ∃ t, exec i s = .next t ∧ (gatherOf t g).phase = .fault ∧
      (gatherOf t g).cur = x.cur ∧ (gatherOf t g).com = x.com ∧ (gatherOf t g).ops = [] ∧ (gatherOf t g).lmem = x.lmem ∧
      (∀ e ∈ (gatherOf t g).journal, e ∈ x.journal ∧ ∃ p old, e = .undo p old) ∧
      fget t (F.G_FAULT_CODE g) = code ∧ fget t (F.G_FAULT_PC g) = x.cur.pc % 2 ^ 18 ∧
      (∀ k ∈ gatherQueues, (∀ r ∈ (queueOf t k).res, r.gather ≠ g.val) ∧
        ∀ w ∈ (queueOf t k).slots, w.holder = some g.val → w.final = true) ∧
      (∀ n, { outOf t n with holds := (outOf s n).holds } = outOf s n) ∧
      (∀ h, h ≠ g.val → gatherOf t h = gatherOf s h) ∧ keeps s t [.regs, .events, .qs, .outs, .gathers]
    (∀ w, x.phase = .waitTime → x.waiting = .time w → wakes (.waitmWake g) (fun t =>
      t.mtime = max s.mtime w ∧ gatherOf t g = { x with phase := .run, waiting := .none })) ∧
    (∀ q, x.phase = .waitQueue → x.waiting = .queue q → visible s q ≠ 0 → wakes (.waitqWake g) (fun t =>
      t.mtime = s.mtime ∧ gatherOf t g = { x with phase := .run, waiting := .none })) ∧
    (x.phase = .starting → wakes (.startingComplete g) (fun t => t.mtime = s.mtime ∧ gatherOf t g = { x with phase := .run })) ∧
    (∀ w, x.phase = .run → inRegion s g x.cur.pc = true → illegalWord w = true → faults (.illegalInstruction g w) 1) ∧
    (x.phase = .run → inRegion s g x.cur.pc = false → faults (.fetchRangeFault g) 3)

/-- KEY_UNLOCK_WRITE, UNLOCK_EXPIRY, OEM_KEY_HASH_WRITE, WRITE_ONCE_WRITE, OEM_KEY_COMMIT, OEM_KEY_COMMIT_DONE (R91 to R97). -/
def Obligations.UnlocksAndOemKey : Prop :=
  ∀ (m : Master) (i : Fin 8) (data : Word) (key : BitVec 16) (s : State),
    let locked := flag s F.OEM_KEY_CTRL_LOCKED
    let words : List Word := (List.range 8).map (fun k => rd s (A.OEM_KEY_HASH k))
    let hash (u : State) (k : Nat) : Word :=
      if flag u F.OEM_KEY_CTRL_LOCKED = true then u.nv.oemHash.getD k 0 else rd u (A.OEM_KEY_HASH k)
    let stores (c : Instr) : Prop :=
      (locked = false ∨ data = hash s i → answers c s fun t => accepts s t m [A.OEM_KEY_HASH i] [] ∧ hash t i = data) ∧
      (locked = true → data ≠ hash s i → answers c s fun t => refuses s t m .once)
    (reachable s → data.toNat % 65536 = 0xB7E1 → answers (.keyUnlockWrite m data) s fun t =>
      accepts s t m [] [] ∧ unlockOf t m = .till (s.mtime + us)) ∧
    (reachable s → data.toNat % 65536 ≠ 0xB7E1 → answers (.keyUnlockWrite m data) s fun t =>
      refuses s t m .key ∧ unlockOf t m = .no) ∧
    (∀ e, running s = true → unlockOf s m = .till e → answers (.unlockExpiry m) s fun t =>
      keeps s t [.mtime, .unlock] ∧ onlyUnlockOf s t m ∧ unlockOf t m = .no ∧ t.mtime = max s.mtime (e + 1)) ∧
    (mayCommand s m → stores (.oemKeyHashWrite m i data) ∧ stores (.writeOnceWrite m i data)) ∧
    (mayCommand s m → key = 0xB7E1 → locked = false → flag s F.OEM_KEY_CTRL_BUSY = false → (∃ w ∈ words, w ≠ 0) →
      answers (.oemKeyCommit m key) s fun t => accepts s t m [A.OEM_KEY_CTRL] [.access] ∧ unlockOf t m = .no ∧
        flag t F.OEM_KEY_CTRL_BUSY = true ∧ flag t F.OEM_KEY_CTRL_LOCKED = false ∧
        t.acc = { s.acc with oemStored := words, commitDone := some (s.mtime + 5 * ms), unlock := t.acc.unlock }) ∧
    (mayCommand s m → key = 0xB7E1 → locked = false → flag s F.OEM_KEY_CTRL_BUSY = true → (∃ w ∈ words, w ≠ 0) →
      answers (.oemKeyCommit m key) s fun t => accepts s t m [] [.access] ∧ F.OEM_KEY_CTRL_COMMIT ∈ t.acc.queued ∧
        t.acc.oemStored = s.acc.oemStored ∧ t.acc.commitDone = s.acc.commitDone) ∧
    (mayCommand s m → key = 0xB7E1 → locked = false → (∀ w ∈ words, w = 0) →
      answers (.oemKeyCommit m key) s fun t => refuses s t m .value) ∧
    (mayCommand s m → key = 0xB7E1 → locked = true → answers (.oemKeyCommit m key) s fun t =>
      if s.nv.oemHash = words then accepts s t m [] [] else refuses s t m .once) ∧
    (mayCommand s m → key ≠ 0xB7E1 → answers (.oemKeyCommit m key) s fun t => refuses s t m .key ∧ unlockOf t m = .no) ∧
    (∀ e, running s = true → s.acc.commitDone = some e → answers .oemKeyCommitDone s fun t =>
      changesOnly s t [A.OEM_KEY_CTRL] [.mtime, .access, .nv] ∧ t.nv = { s.nv with oemHash := s.acc.oemStored } ∧
        t.acc.commitDone = none ∧ t.mtime = max s.mtime e ∧
        flag t F.OEM_KEY_CTRL_LOCKED = true ∧ flag t F.OEM_KEY_CTRL_BUSY = false ∧
        ∀ k < 8, hash t k = s.acc.oemStored.getD k 0)

/-- MBX_REQ, MBX_DATA_READ (R109 to R112). -/
def Obligations.MailboxesLatchAndRead : Prop :=
  ∀ (m : Master) (k : Fin 14) (j : Fin 4) (s : State), reachable s →
    let others (t : State) (l : List Nat) : Prop := ∀ n i, i < 16 → (n ≠ m ∨ i ∉ l) → mbxOf t n i = mbxOf s n i
    (answers (.mbxReq m k) s fun t => accepts s t m [] [.mbx] ∧ others t (mbxGroup k) ∧
      ∀ i ∈ mbxGroup k, mbxOf t m i = ⟨mbxWords s i, ((mbxOf s m i).seq + 1) % 256, true, false⟩) ∧
    (answers (.mbxDataRead m k j) s fun t => keeps s t [.reply, .unlock, .mbx] ∧ onlyUnlockOf s t m ∧ others t [k.val] ∧
      t.reply = .okValue .ok [(mbxOf s m k).words.getD j 0] ∧
      mbxOf t m k = { mbxOf s m k with valid := (mbxOf s m k).valid && j != 3, stale := (mbxOf s m k).stale || !(mbxOf s m k).valid })

/-- REGISTER_WRITE, ALIAS_WRITE (R86, R88, R98 to R100, R104, R106). -/
def Obligations.RegisterAndAliasWrites : Prop :=
  ∀ (m : Master) (a : BitVec 24) (p : Place) (data : Word) (s : State),
    (writable s m a.toNat p data false → a.toNat < 0x800000 → answers (.registerWrite m a data) s fun t =>
      accepts s t m [a.toNat] [] ∧ rd t a.toNat = writtenWord p.hit.fam.fields (rd s a.toNat) data) ∧
    (∀ (b : Fin 32) (f : FieldSpec) (off : BitVec 23), a.toNat < 0x40000 → plainPlace s a.toNat p → mayCommand s m →
      hasKrw p.hit.fam.fields = false → bitField p.hit.fam.fields b = some f → off.toNat = a.toNat * 32 + b.val * 4 →
      (f.ty = .rw → f.ok = [] → answers (.aliasWrite m off data) s fun t => accepts s t m [a.toNat] [] ∧
        ∀ k < 32, (rd t a.toNat).getLsbD k = if k = b.val then data.getLsbD 0 else (rd s a.toNat).getLsbD k) ∧
      (f.ty = .w1c → answers (.aliasWrite m off data) s fun t => accepts s t m [a.toNat] [] ∧
        ∀ k < 32, (rd t a.toNat).getLsbD k = if k = b.val ∧ data.getLsbD 0 = true then false else (rd s a.toNat).getLsbD k)) ∧
    (reachable s → a.toNat % 4 ≠ 0 → answers (.registerWrite m a data) s fun t => refuses s t m .align) ∧
    (reachable s → a.toNat % 4 = 0 → locate a.toNat = none → answers (.registerWrite m a data) s fun t => refuses s t m .addr)

/-- HSPI_READ, HSPI_WRITE, HSPI_KEYED_WRITE, HSPI_BURST_READ, HSPI_BURST_WRITE, HSPI_INVALID_COMMAND, HSPI_CS_EARLY_RISE (R116 to R120). -/
def Obligations.HostSpiFrames : Prop :=
  ∀ (a : BitVec 24) (data : Word) (s : State),
    let reads (t : State) (b : List Byte) : Prop := keeps s t [.reply, .unlock] ∧ onlyUnlockOf s t .host ∧ t.reply = .spi b
    let writes (t : State) (l : List Nat) (b : List Byte) : Prop :=
      keepsRegs s t l ∧ keeps s t [.regs, .reply, .unlock] ∧ onlyUnlockOf s t .host ∧ t.reply = .spi b
    (reachable s →
      (∀ p, plainPlace s a.toNat p → answers (.hspiRead a) s fun t => reads t (0x50 :: wordLe (rd s a.toNat))) ∧
      (∀ n : Nat, (∀ k ≤ n, ∃ p, plainPlace s (a.toNat + 4 * k) p) → answers (.hspiBurstRead a n) s fun t =>
        reads t ((List.range (n + 1)).flatMap (fun k => 0x50 :: wordLe (rd s (a.toNat + 4 * k))))) ∧
      (a.toNat % 4 ≠ 0 → answers (.hspiRead a) s fun t => t.reply = .spi [0x51, 0, 0, 0, 0] ∧
        keepsRegs s t (errorRegs .host) ∧ keeps s t [.regs, .reply, .unlock, .events])) ∧
    (∀ p, writable s .host a.toNat p data false → a.toNat < 0x800000 → answers (.hspiWrite a data) s fun t =>
      writes t [a.toNat] [0x50] ∧ rd t a.toNat = writtenWord p.hit.fam.fields (rd s a.toNat) data) ∧
    (∀ p, writable s .host a.toNat p data true → a.toNat < 0x800000 → answers (.hspiKeyedWrite 0xB7E1 a data) s fun t =>
      writes t [a.toNat] [0x50] ∧ unlockOf t .host = .no ∧ rd t a.toNat = writtenWord p.hit.fam.fields (rd s a.toNat) data) ∧
    (∀ key : BitVec 16, key ≠ 0xB7E1 → reachable s → answers (.hspiKeyedWrite key a data) s fun t =>
      t.reply = .spi [0x57] ∧ keepsRegs s t (errorRegs .host) ∧ keeps s t [.regs, .reply, .unlock, .events] ∧ unlockOf t .host = .no) ∧
    (∀ ws : List Word, (∀ k ≤ ws.length, ∃ p, a.toNat + 4 * k < 0x800000 ∧
        writable s .host (a.toNat + 4 * k) p ((data :: ws).getD k 0) false) →
      answers (.hspiBurstWrite a data ws) s fun t => t.reply = .spi (List.replicate (ws.length + 1) 0x50) ∧
        keeps s t [.regs, .reply, .unlock] ∧ keepsRegs s t ((List.range (ws.length + 1)).map (fun k => a.toNat + 4 * k)) ∧
        ∀ k ≤ ws.length, ∀ p, locate (a.toNat + 4 * k) = some p →
          rd t (a.toNat + 4 * k) = writtenWord p.hit.fam.fields (rd s (a.toNat + 4 * k)) ((data :: ws).getD k 0)) ∧
    (∀ b : Byte, b ∉ [(0x03 : Byte), 0x02, 0x12, 0x0B, 0x0A] → answers (.hspiInvalidCommand b) s fun t => reads t [0xFF]) ∧
    (∀ started : Bool, answers (.hspiCsEarlyRise started) s fun t => reads t [])

/-- BUS_ACCESS_OPEN, BUS_ACCESS_CLOSE, BUS_ACCESS_READ, BUS_ACCESS_WRITE, KEYED_ADDR, KEYED_DATA, KEYED_ADDR_TIMEOUT, BUS_SESSION_TIMEOUT, BUS_SESSION_DROP (R121, R122, R519 to R521). -/
def Obligations.BusSessionAndAccesses : Prop :=
  ∀ (p : PortId) (src : Byte) (w : BitVec 22) (tag : Fin 4) (key : BitVec 16) (data : Word) (s : State),
    let a := 4 * w.toNat
    let waits (q : AccReq) : Prop := running s = true ∧ sysHeld s = false ∧ onBus s p = true ∧
      (portOf s p).acc.head? = some (src.toNat, q)
    let idle : Prop := keyedOf s p src.toNat = none
    let holder : Prop := isHolder s p src.toNat = true
    let frame (t : State) (kind e : Nat) (body : List Byte) : Prop :=
      t.reply = .frame p src.toNat ([0x30, BitVec.ofNat 8 (e + 16 * tag.val + 64 * kind)] ++ body ++ leBytes 2 (a % 65536))
    let taken (t : State) : Prop := (portOf t p).acc = (portOf s p).acc.tail ∧ ∀ q, q ≠ p.val → portOf t q = portOf s q
    let session (t : State) : Prop := t.acc.sessionDeadline = s.mtime + 5 * sec
    let touched : List Part := [.reply, .unlock, .access, .ports]
    let none4 : List Byte := List.replicate 4 0xFF
    (waits .open' → idle → flag s F.BUS_SESSION_OPEN = false →
      (sessionHeld s = false ∨ (fget s F.BUS_SESSION_PORT = p ∧ fget s F.BUS_SESSION_SRC = src.toNat)) → answers (.busAccessOpen p src) s fun t =>
      changesOnly s t [A.BUS_SESSION] (.freeCtr :: touched) ∧ taken t ∧ session t ∧ isHolder t p src.toNat = true) ∧
    (waits .close → idle → holder → ownerCode s ≠ 2 → answers (.busAccessClose p src) s fun t =>
      changesOnly s t [A.BUS_SESSION] (.freeCtr :: touched) ∧ taken t ∧ flag t F.BUS_SESSION_OPEN = false) ∧
    (∀ x, waits (.read a tag) → idle → holder → plainPlace s a x → answers (.busAccessRead p src w tag) s fun t =>
      keeps s t touched ∧ taken t ∧ session t ∧ frame t 0 0 (wordLe (rd s a))) ∧
    (∀ x, waits (.write a tag data) → idle → holder → writable s .bus a x data false → a < 0x800000 →
      answers (.busAccessWrite p src w tag data) s fun t => changesOnly s t [a] touched ∧ taken t ∧ session t ∧
        frame t 1 0 none4 ∧ rd t a = writtenWord x.hit.fam.fields (rd s a) data) ∧
    (waits (.read a tag) → idle → ¬ holder → answers (.busAccessRead p src w tag) s fun t => taken t ∧
      changesOnly s t (errorRegs .bus) (.events :: touched) ∧ frame t 0 12 (List.replicate 4 0)) ∧
    (waits (.write a tag data) → idle → ¬ holder → answers (.busAccessWrite p src w tag data) s fun t => taken t ∧
      changesOnly s t (errorRegs .bus) (.events :: touched) ∧ frame t 1 12 none4) ∧
    (waits (.keyedAddr a tag key.toNat) → idle → holder → answers (.keyedAddr p src w tag key) s fun t => taken t ∧ session t ∧
      keeps s t [.unlock, .access, .ports] ∧ t.acc.keyed = some ⟨p, src.toNat, key.toNat, a, tag, s.mtime + 100 * ms⟩) ∧
    (∀ x e, waits (.keyedData a tag data) → holder → s.acc.keyed = some ⟨p, src.toNat, 0xB7E1, a, tag, e⟩ → s.mtime ≤ e →
      writable s .bus a x data true → a < 0x800000 → answers (.keyedData p src w tag data) s fun t =>
        changesOnly s t [a] touched ∧ taken t ∧ session t ∧ t.acc.keyed = none ∧ unlockOf t .bus = .no ∧ frame t 2 0 none4 ∧
        rd t a = writtenWord x.hit.fam.fields (rd s a) data) ∧
    (∀ k, running s = true → sysHeld s = false → s.acc.keyed = some k → answers .keyedAddrTimeout s fun t => t.acc.keyed = none ∧
      t.mtime = max s.mtime k.deadline ∧ changesOnly s t (errorRegs .bus) [.mtime, .reply, .access, .ports, .events]) ∧
    (running s = true → flag s F.BUS_SESSION_OPEN = true → s.start.supervisorAt = none → answers .busSessionTimeout s fun t =>
      changesOnly s t [A.BUS_SESSION] [.mtime] ∧ t.mtime = max s.mtime s.acc.sessionDeadline ∧ flag t F.BUS_SESSION_OPEN = false) ∧
    (s.start.supervisorAt.isSome = true → exec .busSessionTimeout s = .next s) ∧
    (∀ m, mayCommand s m → m ≠ .bus → answers (.busSessionDrop m) s fun t =>
      accepts s t m [A.BUS_SESSION] [] ∧ flag t F.BUS_SESSION_OPEN = false)

/-- OWN_CLAIM, OWN_HANDOVER, OWN_RELEASE, OWN_HANDOVER_CANCEL, OWN_ACCEPT, OWN_HEARTBEAT_REFRESH, OWN_SEIZE, OWN_CFG_WRITE (R125 to R133). -/
def Obligations.PuntyClaimHandoverAndRelease : Prop :=
  ∀ (m target : Master) (data : Word) (s : State), reachable s → s.svc.meterEnd = none →
    let key : BitVec 16 := 0xB7E1
    let owner := ownerCode s = m.code
    let timeout : Nat := sec * fget s F.OWN_CFG_HB_TIMEOUT
    let stat : List Nat := A.OWN_STAT :: noteRegs
    let gain : List Nat := A.STARTUP_STAT :: stat
    let gains (t : State) : Prop := ownerCode t = m.code ∧ handoverPending t = false ∧ fget t F.OWN_STAT_TARGET = 0 ∧
      electionOpen t = false ∧ t.own.hbDeadline = s.mtime + timeout
    (claimRefused s m.code = false → (electionOpen s = false ∨ s.own.order.head? = some m.code) → answers (.ownClaim m key) s fun t =>
      accepts s t m gain [.own, .start, .events] ∧ gains t) ∧
    (claimRefused s m.code = false → electionOpen s = true → s.own.order.head? ≠ some m.code → answers (.ownClaim m key) s fun t =>
      accepts s t m [] [.own] ∧ m.code ∈ t.own.claims ∧ t.own = { s.own with claims := t.own.claims }) ∧
    (claimRefused s m.code = true → answers (.ownClaim m key) s fun t => refuses s t m .state) ∧
    (owner → target ≠ m → inOrder s target.code = true → handoverPending s = false →
      (target = .bus → flag s F.BUS_SESSION_OPEN = true) → answers (.ownHandover m key target) s fun t =>
        accepts s t m [A.OWN_STAT] [.own] ∧ ownerCode t = m.code ∧ handoverPending t = true ∧
        fget t F.OWN_STAT_TARGET = target.code ∧ t.own = { s.own with hoDeadline := s.mtime + 2 * sec, lapseNoted := false }) ∧
    (owner → answers (.ownRelease m key) s fun t => accepts s t m stat [.own, .events] ∧ ownerCode t = 0 ∧
      handoverPending t = false ∧ flag t F.OWN_STAT_HANDOVER_CANCEL = (flag s F.OWN_STAT_HANDOVER_CANCEL || handoverPending s)) ∧
    (owner → handoverPending s = true → answers (.ownHandoverCancel m key) s fun t => accepts s t m stat [.own, .events] ∧
      ownerCode t = m.code ∧ handoverPending t = false ∧ flag t F.OWN_STAT_HANDOVER_CANCEL = true ∧
      t.own.hbDeadline = s.mtime + timeout) ∧
    (owner → handoverPending s = false → answers (.ownHandoverCancel m key) s fun t => accepts s t m [] []) ∧
    (acceptRefused s m.code = false → answers (.ownAccept m) s fun t => accepts s t m gain [.own, .start, .events] ∧ gains t) ∧
    (acceptRefused s m.code = true → answers (.ownAccept m) s fun t => refuses s t m .state) ∧
    (owner → answers (.ownHeartbeatRefresh m) s fun t => accepts s t m [] [.own] ∧
      t.own = { s.own with hbDeadline := s.mtime + timeout }) ∧
    (m = .gaffer → seizeRefused s = false → ownerCode s ≠ 3 → answers (.ownSeize m key) s fun t =>
      accepts s t m gain [.own, .start, .events] ∧ gains t ∧ flag t F.OWN_STAT_SEIZED = true ∧
      flag t F.OWN_STAT_HANDOVER_CANCEL = (flag s F.OWN_STAT_HANDOVER_CANCEL || handoverPending s)) ∧
    (m = .gaffer → seizeRefused s = true → answers (.ownSeize m key) s fun t => refuses s t m .state) ∧
    (m ≠ .gaffer → answers (.ownSeize m key) s fun t => refuses s t m .state) ∧
    (owner → let w := writtenWord Reg.OWN_CFG.fields (rd s A.OWN_CFG) data
      let order := [bitsOf w 1 0, bitsOf w 3 2, bitsOf w 5 4].filter (· != 0)
      rangeBad Reg.OWN_CFG.fields 0xFFFFFFFF w = false → order.Nodup → m.code ∈ order → answers (.ownCfgWrite m key data) s fun t =>
        accepts s t m [A.OWN_CFG] [] ∧ rd t A.OWN_CFG = w ∧ t.own.order = s.own.order)

/-- HEARTBEAT_TIMEOUT, HANDOVER_TIMEOUT, ELECTION_WINDOW_END (R125, R126, R129). -/
def Obligations.PuntyTimeouts : Prop :=
  ∀ s : State, running s = true → s.svc.meterEnd = none →
    let stat : List Nat := A.OWN_STAT :: noteRegs
    let parts : List Part := [.mtime, .own, .events]
    (s.start.supervisorAt.isSome = true → exec .heartbeatTimeout s = .next s ∧ exec .handoverTimeout s = .next s) ∧
    (ownerCode s ≠ 0 → s.start.supervisorAt = none → answers .heartbeatTimeout s fun t => changesOnly s t stat parts ∧ t.mtime = max s.mtime s.own.hbDeadline ∧
      flag t F.OWN_STAT_LAPSED = true ∧
      (if handoverPending s = true then ownerCode t = ownerCode s ∧ handoverPending t = true ∧ t.own = { s.own with lapseNoted := true }
       else ownerCode t = 0 ∧ t.own = { s.own with lapseNoted := false, autoHb := false })) ∧
    (handoverPending s = true → s.start.supervisorAt = none → answers .handoverTimeout s fun t => changesOnly s t stat parts ∧
      t.mtime = max s.mtime s.own.hoDeadline ∧ handoverPending t = false ∧ fget t F.OWN_STAT_TARGET = 0 ∧
      flag t F.OWN_STAT_HANDOVER_CANCEL = true ∧ t.own.lapseNoted = false ∧
      ownerCode t = (if s.own.lapseNoted = true then 0 else ownerCode s)) ∧
    (∀ c, electionOpen s = true → bestClaim s = some c → 1 ≤ c → c ≤ 3 → answers .electionWindowEnd s fun t =>
      changesOnly s t (A.STARTUP_STAT :: stat) (.start :: parts) ∧ t.mtime = max s.mtime s.own.electionEnd ∧ ownerCode t = c ∧
      electionOpen t = false ∧ t.own.claims = [] ∧ t.start = { s.start with electionOver := true }) ∧
    (electionOpen s = true → bestClaim s = none → flag s F.OWN_CFG_AUTOSTART = false → answers .electionWindowEnd s fun t =>
      changesOnly s t [A.STARTUP_STAT, A.OWN_STAT] [.mtime, .own, .start] ∧ t.mtime = max s.mtime s.own.electionEnd ∧
      ownerCode t = ownerCode s ∧ electionOpen t = false ∧ t.own.claims = [] ∧ t.start = { s.start with electionOver := true })

/-- G_CTRL_START, G_CTRL_STOP, STOPALL, STARTAUTO (R220 to R222, R228). -/
def Obligations.GathersStartAndStop : Prop :=
  ∀ (m : Master) (g : GatherId) (prio : Fin 8) (keep auto : Bool) (s : State), mayCommand s m → domainOff s .eng = false →
    let x := gatherOf s g
    let open' := staging s
    let finals : List Nat := gatherQueues.map A.QCCNT
    let staged : List Nat := (if open' then [A.CFG_STAT] else []) ++ finals
    let fields (t : State) : Prop := open' = false →
      fget t (F.G_CTRL_PRIO g) = prio ∧ flag t (F.G_CTRL_KEEP_LMEM g) = keep ∧ flag t (F.G_CTRL_AUTOSTART g) = auto
    let others (t : State) : Prop := ∀ h, h ≠ g.val → gatherOf t h = gatherOf s h
    let started (x : Gather) (entry prio : Nat) (keep : Bool) (y : Gather) : Prop :=
      let c : Core := { Core.init with pc := entry, prio := prio }
      y = { Gather.init with phase := .starting, cur := c, com := c, lmem := if keep then x.lmem else [], nextTag := x.nextTag
                             snap := s.eng.snap, snapTick := s.eng.snapTick, lastNow := x.lastNow, tickSeen := s.eng.ticks
                             missed := x.missed }
    let stopped (x y : Gather) : Prop := y.phase = .stopped ∧ y.com = x.com ∧
      (if x.phase.isRunning = true then y.cur = x.com ∧ y.ops = [] ∧ y.journal = [] ∧ y.lmem = undoStores x.journal x.lmem ∧
         y.waiting = .none ∧ y.missed = x.missed + (s.eng.ticks - x.tickSeen)
       else y = { x with phase := .stopped })
    (startRefused s g = false → answers (.gCtrlStart m g prio keep auto) s fun t =>
      accepts s t m ([A.G_CTRL g, A.G_JHW g, A.G_FAULT g] ++ staged) [.stage, .gathers, .qs] ∧ fields t ∧ others t ∧
      fget t (F.G_FAULT_CODE g) = 0 ∧ fget t (F.G_FAULT_PC g) = 0 ∧ fget t (F.G_JHW_HIGH g) = 0 ∧
      started x (fget s (F.G_ENTRY_ENTRY g)) (if open' then fget s (F.G_CTRL_PRIO g) else prio)
        (if open' then flag s (F.G_CTRL_KEEP_LMEM g) else keep) (gatherOf t g)) ∧
    (startRefused s g = true → answers (.gCtrlStart m g prio keep auto) s fun t => refuses s t m .state) ∧
    (answers (.gCtrlStop m g prio keep auto) s fun t => accepts s t m (A.G_CTRL g :: staged) [.stage, .gathers, .qs] ∧ fields t ∧
      others t ∧ stopped x (gatherOf t g)) ∧
    (answers (.stopall m) s fun t => accepts s t m finals [.gathers, .qs] ∧ stopped x (gatherOf t g)) ∧
    (answers (.startauto m) s fun t =>
      accepts s t m (noteRegs ++ finals ++ (List.range 128).flatMap (fun k => [A.G_JHW k, A.G_FAULT k])) [.gathers, .qs, .events] ∧
      if flag s (F.G_CTRL_AUTOSTART g) = true ∧ startRefused s g = false then
        started x (fget s (F.G_ENTRY_ENTRY g)) (fget s (F.G_CTRL_PRIO g)) (flag s (F.G_CTRL_KEEP_LMEM g)) (gatherOf t g)
      else gatherOf t g = x)

/-- LOAD_OPEN, LOAD_WINDOW_WRITE, LOAD_VERIFY, LOAD_VERIFY_DONE, LOAD_ABORT, PAGE_RELEASE, CMEM_DATA_WRITE, LMEM_DATA_WRITE (R234 to R243). -/
def Obligations.ProgramLoadAndRelease : Prop :=
  ∀ (m : Master) (signed : Bool) (i : Fin 262144) (first last : Fin 64) (data : Word) (s : State),
    let pages := loadPages s
    let states : List Nat := [A.PAGE_STATE 0, A.PAGE_STATE 1, A.PAGE_STATE 2, A.PAGE_STATE 3]
    let become (t : State) (ps : List Nat) (v : Nat) : Prop := ∀ k < 64, pageState t k = if k ∈ ps then v else pageState s k
    let zero (t : State) (ps : List Nat) : Prop := ∀ w, progWord t w = if w / 4096 ∈ ps then 0 else progWord s w
    let busy := flag s F.LOAD_STAT_BUSY
    let opened := flag s F.LOAD_STAT_OPEN_ACTIVE
    let b := fget s F.LOAD_BASE_BASE
    let n := fget s F.LOAD_LEN_LEN
    (mayCommand s m → domainOff s .eng = false →
      (openRefused s = false → busy = false → answers (.loadOpen m signed) s fun t =>
        accepts s t m (A.LOAD_CTRL :: A.LOAD_STAT :: states) [.eng] ∧ flag t F.LOAD_STAT_OPEN_ACTIVE = true ∧ become t pages 1 ∧ zero t pages) ∧
      (windowRefused s i = false → answers (.loadWindowWrite m i data) s fun t => accepts s t m [] [.eng] ∧
        ∀ w, progWord t w = if w = i.val then data else progWord s w) ∧
      (windowRefused s i = true → answers (.loadWindowWrite m i data) s fun t => refuses s t m .state) ∧
      (opened = true → busy = false → answers (.loadVerify m signed) s fun t => accepts s t m [A.LOAD_CTRL, A.LOAD_STAT] [.eng] ∧
        flag t F.LOAD_STAT_BUSY = true ∧ t.eng = { s.eng with verify := some signed, verifyDue := t.eng.verifyDue }) ∧
      (opened = true → answers (.loadAbort m signed) s fun t => accepts s t m (A.LOAD_CTRL :: A.LOAD_STAT :: states) [.eng] ∧
        fget t F.LOAD_STAT_RESULT = 7 ∧ flag t F.LOAD_STAT_OPEN_ACTIVE = false ∧ flag t F.LOAD_STAT_BUSY = false ∧
        become t pages 0 ∧ zero t pages) ∧
      (first ≤ last → releaseRefused s (pageRange first last) = false → answers (.pageRelease m first last) s fun t =>
        accepts s t m (A.PAGE_RELEASE :: states) [.eng] ∧ become t (pageRange first last) 0 ∧ zero t (pageRange first last)) ∧
      (answers (.cmemDataWrite m data) s fun t => accepts s t m [] [.eng] ∧
        ∀ p, cmemWord t p = if p / 4 = fget s F.CMEM_ADDR_ADDR then data else cmemWord s p) ∧
      ((gatherOf s (fget s F.LMEM_SEL_GATHER)).phase = .stopped → answers (.lmemDataWrite m data) s fun t => accepts s t m [] [.gathers] ∧
        (∀ h, h ≠ fget s F.LMEM_SEL_GATHER → gatherOf t h = gatherOf s h) ∧
        ∀ k, lmemWord (gatherOf t (fget s F.LMEM_SEL_GATHER)).lmem (4 * k) =
          if k = fget s F.LMEM_SEL_ADDR then data else lmemWord (gatherOf s (fget s F.LMEM_SEL_GATHER)).lmem (4 * k))) ∧
    (∀ sg, s.eng.verify = some sg → answers .loadVerifyDone s fun t =>
      let r := verifyResult s sg (loadDigest s b n)
      changesOnly s t (A.LOAD_STAT :: A.LOAD_CRC :: states ++ noteRegs) [.eng, .events] ∧ fget t F.LOAD_STAT_RESULT = r ∧
        flag t F.LOAD_STAT_BUSY = false ∧ flag t F.LOAD_STAT_OPEN_ACTIVE = false ∧ t.eng.verify = none ∧
        fget t F.LOAD_CRC_CRC = (crc32c (wordsLe (progWords s b n))).toNat ∧
        if r = 1 ∨ r = 2 then become t pages (r + 1) ∧ zero t [] ∧ t.eng.regions = s.eng.regions ++ [(b, n)]
        else become t pages 0 ∧ zero t pages)

/-- GATHER_REWIND, REWIND_COMPLETE, GATHER_HOLD_WINDOW_END (R216, R218, R223, R224, R226, R547 to R549). -/
def Obligations.GatherRewindAndHoldWindow : Prop :=
  ∀ (g : GatherId) (e : HwError) (fix : Bool) (percent : Fin 101) (s : State),
    let x := gatherOf s g
    let others (t : State) : Prop := ∀ h, h ≠ g.val → gatherOf t h = gatherOf s h
    let notes : List Nat := noteRegs ++ gatherQueues.map A.QCCNT
    let rewound (row : Nat) : Gather :=
      { x with phase := .rewind, row := row, cur := x.com, ops := [], lmem := undoStores x.journal x.lmem, journal := [], stall := 0 }
    (running s = true → gRunning s g = true → x.row < 2 → answers (.gatherRewind g e fix percent) s fun t =>
      changesOnly s t (A.G_REWIND g :: A.LEHR_CNT :: notes) [.events, .rcv, .qs, .gathers] ∧ others t ∧
      fget t (F.G_REWIND_COUNT g) = min (fget s (F.G_REWIND_COUNT g) + 1) 0xFFFFFFFF ∧
      fget t F.LEHR_CNT_REWINDS = min (fget s F.LEHR_CNT_REWINDS + 1) 0xFFFF ∧ gatherOf t g = rewound (x.row + 1)) ∧
    (running s = true → gRunning s g = true → x.row = 2 → fix = true → (∀ k, e ≠ .residue k) →
      answers (.gatherRewind g e fix percent) s fun t => others t ∧ gatherOf t g = rewound 0 ∧
        fget t F.SPARE_ROWS_PERCENT = max (fget s F.SPARE_ROWS_PERCENT) percent ∧
        changesOnly s t (A.SPARE_ROWS :: A.HEALTH :: A.CULLET_CAUSE :: A.CULLET_HIST :: A.G_REWIND g :: A.LEHR_CNT :: notes)
          [.events, .rcv, .qs, .gathers] ∧
        (fget t F.CULLET_CAUSE_CAUSE / 2) % 2 = (if 50 < percent.val then 1 else fget s F.CULLET_CAUSE_CAUSE / 2 % 2)) ∧
    (running s = true → gRunning s g = true → x.row = 2 → fix = false →
      answers (.gatherRewind g e fix percent) s fun t => others t ∧ (gatherOf t g).phase = .fault ∧
        (gatherOf t g).cur = x.com ∧ fget t (F.G_FAULT_CODE g) = 8 ∧ fget t (F.G_FAULT_PC g) = x.cur.pc % 2 ^ 18 ∧
        changesOnly s t (A.G_REWIND g :: A.LEHR_CNT :: A.G_FAULT g :: notes) [.events, .rcv, .qs, .outs, .gathers] ∧
        ∀ n, { outOf t n with holds := (outOf s n).holds } = outOf s n) ∧
    (running s = true → x.phase = .rewind → answers (.rewindComplete g) s fun t => others t ∧
      changesOnly s t [A.G_MISSED g] [.gathers] ∧ (gatherOf t g).cur = x.cur ∧ (gatherOf t g).lmem = x.lmem ∧
      (gatherOf t g).phase = (match x.waiting with
        | .none => .run | .tick => .waitTick | .time _ => .waitTime | .queue _ => .waitQueue) ∧
      fget t (F.G_MISSED_COUNT g) = (if x.waiting = .tick then
        min 0xFFFFFFFF (fget s (F.G_MISSED_COUNT g) + (x.missed + (s.eng.ticks - x.tickSeen))) else fget s (F.G_MISSED_COUNT g))) ∧
    (∀ w, x.holdEnd = some w → answers (.gatherHoldWindowEnd g) s fun t => others t ∧ t.mtime = max s.mtime w ∧
      gatherOf t g = { x with holdEnd := none } ∧ flag t (F.G_FAULT_HOLD g) = false ∧
      keeps s t [.regs, .mtime, .events, .outs, .qs, .gathers] ∧
      if x.phase.isRunning = true then changesOnly s t [A.G_FAULT g] [.mtime, .gathers]
      else (∀ n < 84, armed t n = (armed s n && !(outOf s n).holds.contains g.val)) ∧
        flag t (F.G_FAULT_POSTURED g) =
          (flag s (F.G_FAULT_POSTURED g) || (List.range 84).any (fun n => armed s n && (outOf s n).holds.contains g.val)))

/-- FIELD_CREATE, FIELD_HERE, FIELD_CLEAR, FIELD_DELETE, FIELD_COMMAND_DONE (R247 to R249, R611). -/
def Obligations.FieldRecordCommands : Prop :=
  ∀ (m : Master) (f layers : Fin 16) (s : State),
    let key : BitVec 16 := 0xB7E1
    let n := fget s (F.FIELD_SIZE_NE f) * fget s (F.FIELD_SIZE_NN f)
    let b := fget s (F.FIELD_STAT_DIR_BASE f)
    let busy (t : State) : Prop := flag t (F.FIELD_STAT_BUSY f) = true
    let clears (t : State) (ls : List Nat) : Prop := ∀ i,
      let gone := ls.any (fun l => decide (b + l * n ≤ i) && decide (i < b + l * n + n))
      dirEntry t i = (if gone then 0 else dirEntry s i) ∧ cachedTile t i = (if gone then none else cachedTile s i)
    let all : List Nat := List.range (layerCount s f)
    let wear : List Nat := [A.CULLET_CAUSE, A.CULLET_HIST, A.HEALTH] ++ noteRegs
    (mayCommand s m → domainOff s .eng = false →
      (createRefused s f = false → fieldRange s f = false → answers (.fieldCreate m f) s fun t =>
        accepts s t m [A.FIELD_STAT f] [.freeCtr, .onyx] ∧ busy t ∧ dirFree s f (fget t (F.FIELD_STAT_DIR_BASE f)) (dirCount s f) = true ∧
        t.onyx = { s.onyx with cmds := t.onyx.cmds } ∧ (tabGet (fun _ => none) t.onyx.cmds f).map (·.1) = some FieldCmd.create) ∧
      (createRefused s f = true → fieldRange s f = false → answers (.fieldCreate m f) s fun t => refuses s t m .state) ∧
      (fieldRange s f = true → answers (.fieldCreate m f) s fun t => refuses s t m .value) ∧
      (∀ p ps, s.marker.poses = p :: ps → hereRefused s f = false → answers (.fieldHere m f) s fun t =>
        accepts s t m [A.FIELD_LAT f, A.FIELD_LON f, A.FIELD_HGT f] [] ∧ rd t (A.FIELD_HGT f) = wordOf p.hgt ∧
        rd t (A.FIELD_LAT f) = wordOf (roundHundred p.lat) ∧ rd t (A.FIELD_LON f) = wordOf (roundHundred p.lon)) ∧
      (hereRefused s f = true → answers (.fieldHere m f) s fun t => refuses s t m .state) ∧
      (clearRefused s f false = false → layers.val ≠ 0 → answers (.fieldClear m key f layers) s fun t =>
        accepts s t m (A.FIELD_STAT f :: wear) [.onyx, .events] ∧ busy t ∧ clears t (all.filter (fun l => layers.val.testBit l))) ∧
      (clearRefused s f true = false → answers (.fieldDelete m key f) s fun t =>
        accepts s t m (A.FIELD_STAT f :: A.FIELD_CFG f :: wear) [.onyx, .events] ∧ busy t ∧ flag t (F.FIELD_CFG_VALID f) = false ∧ clears t all) ∧
      (clearRefused s f true = true → answers (.fieldDelete m key f) s fun t => refuses s t m .state)) ∧
    (∀ c e, running s = true → tabGet (fun _ => none) s.onyx.cmds f = some (c, e) → answers (.fieldCommandDone f) s fun t =>
      changesOnly s t (A.FIELD_STAT f :: A.FIELD_CFG f :: wear) [.onyx, .events] ∧ flag t (F.FIELD_STAT_BUSY f) = false ∧
      tabGet (fun _ => none) t.onyx.cmds f = none ∧
      if c = .create then flag t (F.FIELD_CFG_VALID f) = true ∧ clears t all
      else rd t (A.FIELD_CFG f) = rd s (A.FIELD_CFG f) ∧ clears t [])

/-- TILE_FETCH, TILE_WRITEBACK, ONYX_FLUSH (R264, R266, R267, R269). -/
def Obligations.TilesAreFetchedAndWrittenBack : Prop :=
  ∀ (i : Fin 262144) (m : Master) (s : State),
    let e := dirEntry s i
    let uniform (t : CacheTile) : Bool := (List.range 4096).all (fun k => tileCell t k == tileCell t 0)
    let sameCells (t : State) : Prop := ∀ j k, tileCell (tileAt t j) k = tileCell (tileAt s j) k
    let others (t : State) : Prop := ∀ j, j ≠ i.val → cachedTile t j = cachedTile s j
    let wear : List Nat := [A.CULLET_CAUSE, A.CULLET_HIST, A.HEALTH] ++ noteRegs
    let fetched (t : State) : Prop := fget t F.FETCH_CNT_COUNT = min (fget s F.FETCH_CNT_COUNT + 1) 0xFFFFFFFF
    (∀ o, running s = true → cachedTile s i = none → ownerOf s i = some o → s.onyx.cache.length < 16384 →
      (∀ r, (r = true ∨ isStored e = false) → answers (.tileFetch i r) s fun t => changesOnly s t [A.FETCH_CNT] [.onyx] ∧ fetched t ∧
        others t ∧ cachedTile t i = some (storedTile s i)) ∧
      (isStored e = true → answers (.tileFetch i false) s fun t =>
        changesOnly s t ([A.FETCH_CNT, A.BADTILE_CNT, A.ONYX_STAT] ++ noteRegs) [.onyx, .events] ∧ fetched t ∧ others t ∧
        cachedTile t i = some ⟨i, fget s (F.FIELD_CFG_BAD_TILE o.1), [], some s.mtime⟩ ∧ entrySlot e ∈ t.onyx.retired ∧
        flag t F.ONYX_STAT_BAD_TILE = true ∧ fget t F.BADTILE_CNT_COUNT = min (fget s F.BADTILE_CNT_COUNT + 1) 0xFFFFFFFF)) ∧
    (∀ c, running s = true → cachedTile s i = some c → c.dirty.isSome = true → answers (.tileWriteback i) s fun t =>
      changesOnly s t wear [.freeCtr, .events, .onyx] ∧ sameCells t ∧ others t ∧
      if uniform c = true then dirEntry t i = BitVec.ofNat 32 (tileCell c 0) ∧ cachedTile t i = some { c with dirty := none }
      else ∀ k, chooseSlot s = some k → cachedTile t i = some { c with dirty := none } ∧ dirEntry t i = BitVec.ofNat 32 (2 ^ 30 + k) ∧
        k ∉ usedSlots s ∧ k ∉ s.onyx.retired) ∧
    (mayCommand s m → domainOff s .eng = false → answers (.onyxFlush m) s fun t =>
      accepts s t m wear [.freeCtr, .events, .onyx] ∧ sameCells t ∧
      ((s.onyx.cache.map (·.idx)).Nodup → (∀ c ∈ dirtyTiles s, uniform c = true) → dirtyTiles t = []))

/-- MAP_WIN_WRITE, MAP_GEOMETRY_WRITE (R276, R277). -/
def Obligations.MapStagingChangesOneItem : Prop :=
  ∀ (m : Master) (i : Fin 1024) (data : Word) (s : State), mayCommand s m → domainOff s .eng = false →
    let j := winItem s
    let k := winOffset s i
    let ok := stagingRefused s = false
    let staged (t : State) (l : List Nat) : Prop := fget t F.MAP_STAT_RESULT = 0 ∧ fget t F.MAP_STAT_ENTRY = 0 ∧
      (∀ x < 6, isStaged t x = (isStaged s x || decide (x ∈ l))) ∧ t.maps = { s.maps with staged := t.maps.staged }
    let takes (g : GeoReg) (l : List Nat) (fs : List FieldSpec) (get : MapSet → Word) : Prop :=
      rangeBad fs 0xFFFFFFFF (writtenWord fs (get (candidate s)) data) = false →
      answers (.mapGeometryWrite m g data) s fun t => accepts s t m [A.MAP_STAT] [.maps] ∧ staged t l ∧
        get (candidate t) = writtenWord fs (get (candidate s)) data
    (ok → k < itemLength (candidate s) j → (j = 1 → 4 * k < freeCells s) → answers (.mapWinWrite m i data) s fun t =>
      accepts s t m [A.MAP_STAT] [.maps] ∧ staged t [j] ∧ mapRead t j k = data ∧
      ∀ x y, x < 5 → (x ≠ j ∨ y ≠ k) → mapRead t x y = if x = 1 ∧ j = 1 ∧ isStaged s 1 = false then 0 else mapRead s x y) ∧
    (¬ ok → k < itemLength (candidate s) j → answers (.mapWinWrite m i data) s fun t => refuses s t m .state) ∧
    (ok → takes .rasterE [1] Reg.RASTER_E.fields (·.rasE) ∧ takes .rasterN [1] Reg.RASTER_N.fields (·.rasN) ∧
      takes .rasterDim [1] Reg.RASTER_DIM.fields (·.rasDim) ∧ takes .rasterCfg [1] Reg.RASTER_CFG.fields (·.rasCfg) ∧
      takes .polyCfg [3, 4] Reg.POLY_CFG.fields (·.polyCfg)) ∧
    (ok → answers (.mapGeometryWrite m .mapField data) s fun t => accepts s t m [A.MAP_STAT, A.MAP_FIELD] [.maps] ∧ staged t [5] ∧
      (candidate t).field = some (data.toNat % 16) ∧ fget t F.MAP_FIELD_ACTIVE = fget s F.MAP_FIELD_ACTIVE) ∧
    (¬ ok → answers (.mapGeometryWrite m .mapField data) s fun t => refuses s t m .state)

/-- MAP_CHECK, MAP_CHECK_DONE, MAP_ACT_NOW, MAP_ACT_ARM, MAP_ACT_CANCEL, MAP_CLEAR, MAP_ACTIVATION (R277 to R280). -/
def Obligations.MapCheckAndActivation : Prop :=
  ∀ (m : Master) (s : State),
    let busy := flag s F.MAP_STAT_CHECK_BUSY
    let passed : Prop := fget s F.MAP_STAT_RESULT = 1 ∧ busy = false
    let pend (t : State) (u : Option Nat) : Prop := accepts s t m [A.MAP_STAT] [.maps] ∧ t.maps = { s.maps with pendAt := u } ∧
      flag t F.MAP_STAT_ACT_PEND = u.isSome
    (mayCommand s m → domainOff s .eng = false →
      (busy = false → answers (.mapCheck m) s fun t => accepts s t m [A.MAP_STAT] [.maps] ∧ flag t F.MAP_STAT_CHECK_BUSY = true ∧
        t.maps = { s.maps with checkDue := t.maps.checkDue } ∧ t.maps.checkDue.isSome = true) ∧
      (busy = true → answers (.mapCheck m) s fun t => refuses s t m .state) ∧
      (passed → anyArmed s = false → answers (.mapActNow m) s fun t => pend t (some 0)) ∧
      (passed → anyArmed s = true → answers (.mapActNow m) s fun t => refuses s t m .state) ∧
      (passed → answers (.mapActArm m) s fun t => pend t (some (fget s F.MAP_ACT_LO_TIME + 2 ^ 32 * fget s F.MAP_ACT_HI_TIME))) ∧
      (answers (.mapActCancel m) s fun t => pend t none) ∧
      (busy = false → flag s F.MAP_STAT_ACT_PEND = false → answers (.mapClear m) s fun t => accepts s t m [A.MAP_STAT] [] ∧
        fget t F.MAP_STAT_STAGED = 0 ∧ fget t F.MAP_STAT_RESULT = 0)) ∧
    (∀ u, running s = true → s.maps.checkDue = some u → answers .mapCheckDone s fun t =>
      changesOnly s t (A.MAP_STAT :: (List.range 5).map A.MAP_CRC) [.maps] ∧ flag t F.MAP_STAT_CHECK_BUSY = false ∧
      fget t F.MAP_STAT_RESULT = (mapCheck s).1 ∧ fget t F.MAP_STAT_ENTRY = (mapCheck s).2 ∧ t.maps = { s.maps with checkDue := none } ∧
      ∀ i < 5, fget t (F.MAP_CRC_CRC i) = if isStaged s i = true then (itemCrc (candidate s) i).toNat else fget s (F.MAP_CRC_CRC i)) ∧
    (running s = true → s.start.engineAt.isSome = true ∨ s.start.engineHeld = true → exec .mapActivation s = .next s) ∧
    (∀ u, running s = true → s.start.engineAt = none → s.start.engineHeld = false → s.maps.pendAt = some u → u ≤ nextTick s →
      flag s F.MAP_STAT_ACT_PEND = true → answers .mapActivation s fun t =>
        changesOnly s t ([A.MAP_STAT, A.MAP_FIELD] ++ (List.range 16).map A.FIELD_CFG ++ noteRegs) [.mtime, .maps, .nv, .marker, .events] ∧
        t.mtime = max s.mtime (nextTick s) ∧ t.maps.active = candidate s ∧
        t.maps.retained = (if fget s F.MAP_STAT_STAGED = 0 then s.maps.retained else some s.maps.active) ∧ t.maps.pendAt = none ∧ t.maps.staged = s.maps.staged ∧
        fget t F.MAP_STAT_STAGED = 0 ∧ flag t F.MAP_STAT_ACT_PEND = false ∧ t.nv.model = (candidate s).model ∧
        (isStaged s 5 = false → t.marker = s.marker ∧ rd t A.MAP_FIELD = rd s A.MAP_FIELD))

/-- EVENT_PLACEMENT, HOLD, ACTUATION_ON, ACTUATION_OFF, ACTUATION_DUTY, ACTUATION_PERIOD, ACTUATION_PHASE, ACTUATION_PULSE, PULSE_END
(R284 to R293, R369, R373, R379, R380). -/
def Obligations.TimedEventsPlaceAndFire : Prop :=
  ∀ (n : OutId) (s : State), running s = true →
    let o := outOf s n
    let cmd (t : State) : Bool := flag t (F.OUT_STAT_CMD_ON n)
    let queues (t : State) (l : List Nat) : Prop := ∀ q, q ∉ l → queueOf t q = queueOf s q
    (∀ k target a v, headEvent s = some (k, target, a, v) → k < 84 → ∀ i, (i = .eventPlacement ∨ (i = .holdPlaced ∧ a = .hold)) →
      let x := outOf s k
      let takes (t : State) (regs : List Nat) : Prop :=
        changesOnly s t (A.ACT_DIST_STAT :: A.QCCNT 84 :: regs) [.outs, .qs] ∧ queues t [84, k] ∧
        (queueOf t 84).slots = (queueOf s 84).slots.drop 2 ∧ (∀ j, j ≠ k → outOf t j = outOf s j)
      (armed s k = false → answers i s fun t => takes t [A.OUT_STAT k, A.OUT_DISCNT k] ∧ outOf t k = x ∧
        flag t (F.OUT_STAT_DISCARD k) = true ∧ fget t (F.OUT_DISCNT_DISCARD k) = min 0xFFFF (fget s (F.OUT_DISCNT_DISCARD k) + 1)) ∧
      (armed s k = true → a = .hold → answers i s fun t => takes t [A.OUT_STAT k, A.OUT_DISCNT k, A.OUT_EVCNT k, A.QCCNT k] ∧
        (outOf t k).evq.map (fun e => (e.target, e.action, e.value)) =
          (withdraw x target v s.mtime).1.map (fun e => (e.target, e.action, e.value)) ∧
        fget t (F.OUT_DISCNT_WITHDRAWN k) = min 0xFFFF (fget s (F.OUT_DISCNT_WITHDRAWN k) + (withdraw x target v s.mtime).2.1)) ∧
      (armed s k = true → a ≠ .hold → 2 ≤ freeRoom s k → fget s (F.JAS_QBP_DUTY k) = 0 → answers i s fun t =>
        takes t [A.OUT_STAT k, A.OUT_EVCNT k, A.QPCNT k, A.QHWM k] ∧ outOf t k = { x with evq := (outOf t k).evq } ∧
        ∃ late order, (outOf t k).evq = x.evq ++ [⟨target, a, v, s.mtime, late, order⟩] ∧
          (late = true ↔ target < (s.mtime / 64 + 2) * 64) ∧ (order = true ↔ ∃ p, x.evq.getLast? = some p ∧ target < p.target)) ∧
      (armed s k = true → a ≠ .hold → freeRoom s k < 2 → answers i s fun t =>
        changesOnly s t [A.ACT_DIST_STAT, A.ACT_DIST_STALL, A.QSTAT k] [.freeCtr] ∧ flag t F.ACT_DIST_STAT_STALLED = true ∧
        flag t (F.QSTAT_BP_SEEN k) = true)) ∧
    (∀ e es, o.evq = e :: es →
      let f := (fireTime o e).1
      let fs := firingsIn o (f / 64) (e :: es)
      let drives := fs.filter (fun x => x.ev.action.drives)
      let last (a : Action) : Option Nat := ((fs.filter (fun x => x.ev.action == a)).getLast?).map (·.ev.value)
      let fires (i : Instr) : Prop := answers i s fun t =>
        switches s t [n] [A.OUT_EVCNT n, A.OUT_LATE_MAX n, A.QCCNT n, A.PWM_DUTY n, A.PWM_PERIOD n, A.PWM_PHASE n] [.mtime, .qs] ∧
        queues t [n] ∧ fs ≠ [] ∧ (outOf t n).evq = (e :: es).drop fs.length ∧ (∀ x ∈ fs.getLast?, (outOf t n).lastFire = x.time) ∧
        t.mtime = max s.mtime f ∧ flag t (F.OUT_STAT_LATE n) = (flag s (F.OUT_STAT_LATE n) || fs.any (·.heldBack)) ∧
        rd t (A.PWM_DUTY n) = (match last .duty with | some v => BitVec.ofNat 32 v | none => rd s (A.PWM_DUTY n)) ∧
        rd t (A.PWM_PHASE n) = (match last .phase with | some v => BitVec.ofNat 32 v | none => rd s (A.PWM_PHASE n)) ∧
        fget t (F.PWM_PERIOD_PERIOD n) = (match last .period with
          | some v => (if v = 0 then 0 else max v (shortestPeriod n)) % 2 ^ 32
          | none => fget s (F.PWM_PERIOD_PERIOD n)) ∧
        (drives = [] → cmd t = cmd s) ∧
        ∀ d ∈ drives.getLast?,
          (d.ev.action = .on → cmd t = true ∧
            (cmd s = false → n.val < 76 → isBridge s n = false → mayTurnOn s n f → flag t (F.OUT_STAT_ACTUAL_ON n) = true)) ∧
          (d.ev.action = .off → cmd t = false ∧
            (cmd s = true → flag t (F.OUT_STAT_ACTUAL_ON n) = false ∧ (outOf t n).pulseEnd = none)) ∧
          (d.ev.action = .pulse → (d.ev.value = 0 → cmd t = false) ∧
            (onFallback s n = false → wantsFallback s n = false → delaySum s n < d.ev.value →
              cmd t = true ∧ (outOf t n).pulseEnd = some (d.time + d.ev.value)))
      (e.action = .on → fires (.actuationOn n)) ∧ (e.action = .off → fires (.actuationOff n)) ∧
      (e.action = .duty → fires (.actuationDuty n)) ∧ (e.action = .period → fires (.actuationPeriod n)) ∧
      (e.action = .phase → fires (.actuationPhase n)) ∧ (e.action = .pulse → fires (.actuationPulse n))) ∧
    (∀ u, o.pulseEnd = some u → answers (.pulseEnd n) s fun t => switches s t [n] [] [.mtime] ∧ t.mtime = max s.mtime u ∧ cmd t = false ∧
      (cmd s = true → flag t (F.OUT_STAT_ACTUAL_ON n) = false ∧ (outOf t n).pulseEnd = none))

/-- CHANNEL_TRIP, RETRY_PAUSE_END, TRY_COUNT_RESET, UNLATCH, INRUSH_WINDOW_END, THERMAL_SHUTDOWN, THERMAL_RECOVERY, PULSE_DEFERRAL_END,
BUDGET_ADMISSION, REVERSAL_GAP_END, LP_SHORT (R343 to R361). -/
def Obligations.ChannelsTripPauseAndReturn : Prop :=
  ∀ (m : Master) (n : OutId) (hot : Bool) (s : State), running s = true →
    let o := outOf s n
    let on (t : State) : Bool := flag t (F.OUT_STAT_ACTUAL_ON n)
    let local' (t : State) (r : List Nat) (p : List Part) : Prop := switches s t [n] r p ∧
      flag t (F.OUT_STAT_CMD_ON n) = flag s (F.OUT_STAT_CMD_ON n)
    let returns (t : State) (o' : Out) : Prop := n.val < 76 → flag s (F.OUT_STAT_CMD_ON n) = true →
      mayTurnOn (setOut n o' s) n t.mtime → on t = true
    let b := triesBefore s n s.mtime
    let tries := min 15 (b.1 + 1)
    (n.val < 76 → isBridge s n = false → on s = true → answers (.channelTrip n) s fun t => local' t [A.CH_TRIPCNT n] [] ∧ on t = false ∧
      fget t (F.CH_TRIPCNT_COUNT n) = min 0xFFFFFFFF (fget s (F.CH_TRIPCNT_COUNT n) + 1) ∧ flag t (F.CH_STAT_TRIP n) = true ∧
      fget t (F.CH_STAT_TRY n) = tries ∧ (outOf t n).tripAt = some s.mtime ∧
      let p := if b.2 = 0 then firstPause s n else b.2
      if fget s (F.CH_RETRY_TRIES n) ≤ tries then (outOf t n).latched = true ∧ (outOf t n).pauseEnd = o.pauseEnd
      else (outOf t n).latched = o.latched ∧
        (outOf t n).pauseEnd = (if flag s (F.OUT_STAT_CMD_ON n) = true then some (s.mtime + ms * p) else none) ∧
        (outOf t n).nextPause = min (2 * p) (100 * fget s (F.CH_RETRY_CAP n))) ∧
    (∀ u, o.pauseEnd = some u → answers (.retryPauseEnd n) s fun t => local' t [] [.mtime] ∧ t.mtime = max s.mtime u ∧
      (outOf t n).pauseEnd = none ∧ returns t { o with pauseEnd := none }) ∧
    (∀ u, o.onSince = some u → answers (.tryCountReset n) s fun t => changesOnly s t [A.CH_STAT n] [.mtime, .outs] ∧
      t.mtime = max s.mtime (u + sec) ∧ fget t (F.CH_STAT_TRY n) = 0 ∧ outOf t n = { o with nextPause := 0 } ∧
      ∀ k, k ≠ n.val → outOf t k = outOf s k) ∧
    (∀ u, o.inrushEnd = some u → answers (.inrushWindowEnd n) s fun t => changesOnly s t [A.CH_STAT n] [.mtime, .outs] ∧
      t.mtime = max s.mtime u ∧ outOf t n = { o with inrushEnd := none } ∧ appliedLimit t n = fget s (F.CH_LIMIT_PEAK n) ∧
      ∀ k, k ≠ n.val → outOf t k = outOf s k) ∧
    (n.val < 76 → o.thermal = none → (flag s (F.CH_CFG_THERM_CLASS n) = false ∨ hot = true) → answers (.thermalShutdown n hot) s fun t => local' t [] [] ∧
      flag t (F.CH_STAT_THERM n) = true ∧ (outOf t n).thermal = some (if hot = true then .hot
        else if flag s (F.CH_CFG_THERM_LATCH n) = true then .steadyLatched else .steady) ∧ on t = false) ∧
    (o.thermal ≠ none → o.thermal ≠ some .steadyLatched → answers (.thermalRecovery n) s fun t => local' t [] [] ∧
      (outOf t n).thermal = none ∧ returns t { o with thermal := none }) ∧
    (o.hotPulse = true → answers (.pulseDeferralEnd n) s fun t => local' t [A.CH_MEAS n] [] ∧ (outOf t n).hotPulse = false ∧
      returns t { o with hotPulse := false }) ∧
    (n.val < 76 → o.deferral.isSome = true → flag s (F.OUT_STAT_CMD_ON n) = true → on s = false → mayTurnOn s n s.mtime →
      answers (.budgetAdmission n) s fun t => local' t [] [] ∧ on t = true ∧ (outOf t n).deferral = none) ∧
    (∀ u, o.gapEnd = some u → answers (.reversalGapEnd n) s fun t => local' t [] [.mtime] ∧ t.mtime = max s.mtime u ∧
      (outOf t n).gapEnd = none ∧ returns t { o with gapEnd := none }) ∧
    (76 ≤ n.val → answers (.lpShort n) s fun t => changesOnly s t (A.CH_STAT n :: noteRegs) [.events] ∧ flag t (F.CH_STAT_LP_SHORT n) = true) ∧
    (mayCommand s m → (o.latched = false ∨ sameCycle s.mtime o.tripAt = false) → answers (.unlatch m n) s fun t =>
      accepts s t m (switchRegs n ++ (displacedOuts s t n).flatMap outRegs) [.outs, .events] ∧
      (∀ k, k ∉ switchOuts n → k ∉ bankOuts n → k ∉ displacedOuts s t n → outOf t k = outOf s k) ∧ flag t (F.OUT_STAT_CMD_ON n) = flag s (F.OUT_STAT_CMD_ON n) ∧
      (outOf t n).latched = false ∧ fget t (F.CH_STAT_TRY n) = 0 ∧ (outOf t n).nextPause = 0 ∧
      (n.val < 76 → o.thermal = none → flag s (F.OUT_STAT_CMD_ON n) = true → mayTurnOn (setOut n { o with latched := false } s) n s.mtime → on t = true)) ∧
    (mayCommand s m → o.latched = true → sameCycle s.mtime o.tripAt = true → answers (.unlatch m n) s fun t =>
      accepts s t m (switchRegs n) [.outs, .events] ∧ (∀ k, k ≠ n.val → outOf t k = outOf s k) ∧ (outOf t n).latched = true ∧
      fget t (F.CH_STAT_TRY n) = fget s (F.CH_STAT_TRY n))

/-- FEED_UNDERVOLTAGE_ENTRY, FEED_UNDERVOLTAGE_EXIT, STAGGERED_TURN_ON, GROUND_LOSS, GROUND_LOSS_END, COMPENSATION_FREEZE,
COMPENSATION_FREEZE_END, SUPPLY_COMP_UPDATE, CARRIER_RELOAD, CARRIER_FALL, DELAY_LINE_CALIBRATION (R63 to R68, R359, R360, R368 to R383). -/
def Obligations.FeedsHoldAndReleaseChannels : Prop :=
  ∀ (f : FeedId) (n : OutId) (k : Fin 11) (rev : Bool) (mv : BitVec 16) (tap : Nat) (others : List Nat) (meas : List ChanMeas) (s : State), running s = true →
    let outs := outsOfFeed f
    let all : List Nat := List.range 76
    let cmd (t : State) : Prop := ∀ j < 84, flag t (F.OUT_STAT_CMD_ON j) = flag s (F.OUT_STAT_CMD_ON j)
    let off (t : State) (l : List Nat) : Prop := ∀ j ∈ l, flag t (F.OUT_STAT_ACTUAL_ON j) = false
    let waits (t : State) (q : Nat) (l : List Nat) : Prop := (feedOf t q).stagger = l.filter (fun j => flag s (F.OUT_STAT_CMD_ON j)) ∧
      (feedOf t q).staggerAt = s.mtime ∧ ∀ j, (outOf t j).feedHeld = if j ∈ l then flag s (F.OUT_STAT_CMD_ON j) else (outOf s j).feedHeld
    let feeds (t : State) (q : Nat) : Prop := ∀ j, j ≠ q → feedOf t j = feedOf s j
    let o := outOf s n
    (answers (.feedUndervoltageEntry f rev) s fun t => switches s t outs ([A.FEED_STAT f, A.FEED_UVCNT f] ++ noteRegs) [.feeds] ∧ cmd t ∧ feeds t f ∧
      flag t (F.FEED_STAT_UV f) = true ∧ flag t (F.FEED_STAT_REVERSED f) = rev ∧
      (flag s (F.FEED_STAT_UV f) = false → off t outs ∧ flag t (F.FEED_STAT_UV_SEEN f) = true ∧
        fget t (F.FEED_UVCNT_COUNT f) = min 0xFFFFFFFF (fget s (F.FEED_UVCNT_COUNT f) + 1))) ∧
    (flag s (F.FEED_STAT_UV f) = true → answers (.feedUndervoltageExit f) s fun t =>
      changesOnly s t (A.FEED_STAT f :: outs.map A.CH_STAT) [.outs, .feeds] ∧ cmd t ∧ feeds t f ∧
      flag t (F.FEED_STAT_UV f) = false ∧ flag t (F.FEED_STAT_REVERSED f) = false ∧ waits t f outs) ∧
    (∀ j js, (feedOf s k).stagger = j :: js → j < 76 → answers (.staggeredTurnOn k) s fun t => switches s t [j] [] [.mtime, .feeds] ∧ cmd t ∧
      feeds t k ∧ t.mtime = max s.mtime (feedOf s k).staggerAt ∧ (feedOf t k).stagger = js ∧ (outOf t j).feedHeld = false ∧
      (feedOf t k).staggerAt = (feedOf s k).staggerAt + 100 * us ∧
      (flag s (F.OUT_STAT_CMD_ON j) = true → mayTurnOn (setOut j { outOf s j with feedHeld := false } s) j t.mtime →
        flag t (F.OUT_STAT_ACTUAL_ON j) = true)) ∧
    (s.sup.groundLost = false → answers .groundLoss s fun t => switches s t all noteRegs [.sup] ∧ cmd t ∧ off t all ∧
      t.sup = { s.sup with groundLost := true }) ∧
    (s.sup.groundLost = true → answers .groundLossEnd s fun t => changesOnly s t (all.map A.CH_STAT) [.sup, .outs, .feeds] ∧ feeds t 10 ∧
      t.sup = { s.sup with groundLost := false } ∧ waits t 10 all) ∧
    (answers (.compensationFreeze f) s fun t => switches s t outs ([A.FEED_STAT f] ++ noteRegs) [.feeds] ∧ cmd t ∧ feeds t f ∧
      flag t (F.FEED_STAT_FROZEN f) = true ∧ feedOf t f = { feedOf s f with freezeEnd := some (s.mtime + ms) }) ∧
    (∀ u, (feedOf s f).freezeEnd = some u → answers (.compensationFreezeEnd f) s fun t =>
      changesOnly s t [A.FEED_STAT f] [.mtime, .feeds] ∧ feeds t f ∧ t.mtime = max s.mtime u ∧ flag t (F.FEED_STAT_FROZEN f) = false ∧
      feedOf t f = { feedOf s f with freezeEnd := none }) ∧
    (answers (.supplyCompUpdate f mv meas) s fun t => changesOnly s t
        ([A.FEED_STAT f, A.FEED_CUR f] ++ outs.map A.CH_MEAS ++ outs.flatMap outRegs) [.outs] ∧ cmd t ∧
      fget t (F.FEED_STAT_MV f) = mv.toNat ∧ (∀ j, j ∉ outs → outOf t j = outOf s j) ∧
      ∀ j ∈ outs, ((outOf t j).kNum, (outOf t j).kDen) =
        if flag s (F.FEED_STAT_FROZEN f) = true then ((outOf s j).kNum, (outOf s j).kDen) else supplyFactor s j mv.toNat) ∧
    (flag s (F.PWM_STAT_CARRIER n) = true →
      let wanted : Bool := wantsFallback s n
      let edge := o.car.reload + (if wanted then 0 else o.car.fine)
      let bank : List Nat := if o.car.started = true then [n.val] else n.val :: bankOuts n
      (pulseHot s n = false ∨ 76 ≤ n.val → answers (.carrierReload n) s fun t =>
        changesOnly s t (bank.map A.PWM_STAT ++ [A.PWM_SHORT n, A.PWM_STRETCH n] ++
          (if n.val < 64 ∧ o.car.started = false then [A.PWM_BANK (n / 8)] else [])) [.mtime, .outs] ∧ t.mtime = max s.mtime edge ∧
        (outOf t n).car.start = o.car.reload ∧ (outOf t n).car.started = true ∧ (outOf t n).onFallback = wanted ∧
        (o.car.started = true → (outOf t n).car.reload = o.car.reload + 64 * fget s (F.PWM_PERIOD_PERIOD n)) ∧
        ∀ j, j ∉ bank → outOf t j = outOf s j) ∧
      (pulseHot s n = true → n.val < 76 → o.car.high = false → answers (.carrierReload n) s fun t => switches s t [n] [] [.mtime] ∧
        t.mtime = max s.mtime edge ∧ flag t (F.OUT_STAT_ACTUAL_ON n) = false ∧ (outOf t n).car.started = false ∧
        flag t (F.OUT_STAT_CMD_ON n) = flag s (F.OUT_STAT_CMD_ON n) ∧
        (flag s (F.OUT_STAT_ACTUAL_ON n) = true → (outOf t n).deferral = some ⟨edge, false⟩))) ∧
    (∀ u, o.car.fallAt = some u → answers (.carrierFall n) s fun t => keeps s t [.mtime, .outs] ∧ t.mtime = max s.mtime u ∧
      outOf t n = { o with car := { o.car with high := false, fallAt := none } } ∧ ∀ j, j ≠ n.val → outOf t j = outOf s j) ∧
    (let taps := tap :: others
     let swap : Bool := !edgePending s n s.mtime
     let l : DelayPair := if o.lines.exchange = true ∧ swap = true then ⟨o.lines.idle, o.lines.used, false⟩ else o.lines
     answers (.delayLineCalibration n tap others) s fun t =>
      changesOnly s t ([A.PWM_CAL n, A.PWM_STAT n, A.CULLET_CAUSE, A.CULLET_HIST, A.HEALTH] ++ noteRegs) [.outs, .events] ∧
      (∀ j, j ≠ n.val → outOf t j = outOf s j) ∧
      if calibrationFails l.idle taps = false then fget t (F.PWM_CAL_RUN n) = 0 ∧
        outOf t n = { o with lines := if swap = true then ⟨⟨taps, tapTable taps⟩, l.used, false⟩ else ⟨l.used, ⟨taps, tapTable taps⟩, true⟩ } ∧
        (swap = true → fget t (F.PWM_CAL_SPAN n) = min 255 (roundOpen (tapSpan taps) 3200))
      else fget t (F.PWM_CAL_CAL_ERR n) = min 255 (fget s (F.PWM_CAL_CAL_ERR n) + 1) ∧
        fget t (F.PWM_CAL_RUN n) = min 3 (fget s (F.PWM_CAL_RUN n) + 1) ∧
        outOf t n = { o with lines := l, onFallback := (outOf t n).onFallback } ∧
        (2 ≤ fget s (F.PWM_CAL_RUN n) → flag t (F.PWM_STAT_FALLBACK n) = true))

/-- OUT_ARM, OUT_DISARM, LATE_CLR, RELEARN, REM_ARM, REM_DISARM, QFLUSH, HWM_CLR, CAP_SEL_WRITE, TICK_CFG_WRITE, TIME_SET (R25, R289,
R299, R310, R311, R332 to R338, R356, R367, R438, R448). -/
def Obligations.OutputAndQueueCommands : Prop :=
  ∀ (m : Master) (n : OutId) (d : DescId) (q : QId) (data : Word) (s : State), mayCommand s m →
    let word (fs : List FieldSpec) (a : Nat) (x : Word) : Word := writtenWord fs (rd s a) x
    let fine (fs : List FieldSpec) (a : Nat) (x : Word) : Prop := rangeBad fs 0xFFFFFFFF (word fs a x) = false
    let p := fget s (F.REM_DESC_PORT d)
    let key : BitVec 16 := 0xB7E1
    (armRefused s n = false → answers (.outArm m n) s fun t => accepts s t m [A.OUT_STAT n] [] ∧ armed t n = true) ∧
    (armRefused s n = true → answers (.outArm m n) s fun t => refuses s t m .state) ∧
    (answers (.outDisarm m n) s fun t => accepts s t m (switchRegs n ++ [A.OUT_DISCNT n, A.QCCNT n]) [.outs, .events, .qs] ∧
      armed t n = false ∧ flag t (F.OUT_STAT_CMD_ON n) = false ∧ (outOf t n).evq = [] ∧
      (∀ j, j ∉ switchOuts n → j ∉ bankOuts n → outOf t j = outOf s j) ∧
      fget t (F.OUT_DISCNT_DISCARD n) = min 0xFFFF (fget s (F.OUT_DISCNT_DISCARD n) + (outOf s n).evq.length)) ∧
    (answers (.lateClr m n) s fun t => accepts s t m [A.OUT_LATE_MAX n] [] ∧ fget t (F.OUT_LATE_MAX_MAX n) = 0) ∧
    (n.val < 76 ∨ (data.getLsbD (F.OUT_LEARN_EN_ON n).lo = false ∧ data.getLsbD (F.OUT_LEARN_EN_OFF n).lo = false) →
      fine Reg.OUT_LEARN.fields (A.OUT_LEARN n) data → answers (.relearn m n data) s fun t =>
      accepts s t m [A.OUT_LEARN n, A.OUT_LAT n] [] ∧ rd t (A.OUT_LEARN n) = word Reg.OUT_LEARN.fields (A.OUT_LEARN n) data ∧
      fget t (F.OUT_LAT_ON n) = fget s (F.OUT_LATINIT_INIT_ON n) ∧ fget t (F.OUT_LAT_OFF n) = fget s (F.OUT_LATINIT_INIT_OFF n)) ∧
    (remArmRefused s d = false → answers (.remArm m d) s fun t => accepts s t m [A.REM_CTRL d] [] ∧ remArmed t d = true) ∧
    (remArmRefused s d = true → answers (.remArm m d) s fun t => refuses s t m .state) ∧
    (remArmed s d = true → answers (.remDisarm m d) s fun t => accepts s t m [A.REM_CTRL d] [.ports] ∧ remArmed t d = false ∧
      portOf t p = { portOf s p with cmd := (portOf s p).cmd ++ [⟨d.val, fget s (F.REM_DESC_ADDR d), fget s (F.REM_DESC_CHANNEL d)⟩] } ∧ ∀ k, k ≠ p → portOf t k = portOf s k) ∧
    (remArmed s d = false → answers (.remDisarm m d) s fun t => accepts s t m [] []) ∧
    (domainOff s .eng = false → domainOff s .gns = false →
      (flushRefusal s q = none → answers (.qflush m q) s fun t => accepts s t m [] [.qs, .outs] ∧ level t q = 0 ∧ reserved t q = 0 ∧
        (queueOf t q).slots = [] ∧ (queueOf t q).rp = (queueOf t q).wp ∧ (queueOf t q).held = (queueOf s q).held ∧
        (∀ k, k ≠ q.val → queueOf t k = queueOf s k) ∧ ∀ j, outOf t j = if j = q.val ∧ q.val < 84 then { outOf s j with evq := [] } else outOf s j) ∧
      (∀ e, flushRefusal s q = some e → answers (.qflush m q) s fun t => refuses s t m e) ∧
      (answers (.hwmClr m q) s fun t => accepts s t m [A.QHWM q] [] ∧ fget t (F.QHWM_HIGH q) = (level s q + reserved s q) % 1024)) ∧
    (fine Reg.CAP_SEL.fields A.CAP_SEL data → answers (.capSelWrite m data) s fun t =>
      accepts s t m [A.CAP_SEL, A.CAP_STAT, A.CAP_T_LO, A.CAP_T_HI] [.readCap] ∧ rd t A.CAP_SEL = word Reg.CAP_SEL.fields A.CAP_SEL data ∧
      t.readCap = (outOf s (data.toNat % 128)).lastCap ∧ flag t F.CAP_STAT_VALID = t.readCap.isSome) ∧
    (staging s = false → fine Reg.TICK_CFG.fields A.TICK_CFG data →
      (anyArmed s = false → answers (.tickCfgWrite m data) s fun t => accepts s t m [A.TICK_CFG] [.nav, .stage] ∧
        fget t F.TICK_CFG_PERIOD = data.toNat % 32 ∧
        (fget t F.TICK_CFG_PERIOD ≠ fget s F.TICK_CFG_PERIOD → t.nav = { s.nav with regrid := s.mtime })) ∧
      (anyArmed s = true → answers (.tickCfgWrite m data) s fun t => refuses s t m .state)) ∧
    (timeState s = 0 → answers (.timeSet m key) s fun t => accepts s t m ([A.TIME_STAT, A.TIME_STEP_CNT] ++ noteRegs) [.clock, .events] ∧
      timeState t = 3 ∧ gtimeNow t = timeSetValue s) ∧
    (timeState s = 3 → answers (.timeSet m key) s fun t => accepts s t m [A.TIME_STAT] [.clock] ∧ timeState t = 3 ∧
      t.clock.step = some (.set (timeSetValue s)) ∧ flag t F.TIME_STAT_STEP_PEND = true) ∧
    (timeState s = 1 ∨ timeState s = 2 → answers (.timeSet m key) s fun t => refuses s t m .state)

/-- LATENCY_MEASUREMENT, CAPTURE_END, LATENCY_STORE, LATENCY_TABLE_REFRESH, HELD_ITEM_ENTRY, REMOTE_REPORT_TIMEOUT, MARKER_SWEEP
(R173, R295 to R299, R303, R312, R329, R367). -/
def Obligations.LearningStoresAndHeldItems : Prop :=
  ∀ (n : OutId) (q : QId) (d : DescId) (samples : List Nat) (s : State), running s = true →
    let o := outOf s n
    let others (t : State) : Prop := ∀ j, j ≠ n.val → outOf t j = outOf s j
    let regs : List Nat := noteRegs ++ outRegs n ++ [A.OUT_LAT n]
    let lat (t : State) (on : Bool) : Nat := fget t (if on then F.OUT_LAT_ON n else F.OUT_LAT_OFF n)
    let res (t : State) (on : Bool) : Nat := fget t (if on then F.OUT_MEAS_ON_RES n else F.OUT_MEAS_OFF_RES n)
    let run (t : State) (on : Bool) : Nat := fget t (if on then F.OUT_MEAS_ON_REJECT_RUN n else F.OUT_MEAS_OFF_REJECT_RUN n)
    let value (t : State) (on : Bool) : Nat := fget t (if on then F.OUT_MEAS_ON_VALUE n else F.OUT_MEAS_OFF_VALUE n)
    let sameDir (t : State) (on : Bool) : Prop := lat t on = lat s on ∧ res t on = res s on ∧ run t on = run s on ∧ value t on = value s on
    let found (c : CapRun) : Option Nat := arrival samples c.isOn
      (if c.isOn then fget s (F.OUT_LEARN_DIP_THR n) else fget s (F.OUT_LEARN_BUMP_THR n)) (fget s (F.OUT_LEARN_CAP_DELAY n))
    let rejected (t : State) (on : Bool) (code v : Nat) : Prop := res t on = code ∧ value t on = v ∧ lat t on = lat s on ∧
      run t on = min 255 (run s on + 1) ∧ flag t (F.OUT_STAT_LEARN_FAIL n) = (flag s (F.OUT_STAT_LEARN_FAIL n) || decide (run s on = 7)) ∧
      sameDir t !on
    let judged (t : State) (on : Bool) (x : Nat) : Prop :=
      if x < 200 then rejected t on 3 x
      else res t on = 1 ∧ value t on = min x 0xFFFF ∧ lat t on = learn (lat s on) x % 65536 ∧ run t on = 0 ∧
        flag t (F.OUT_STAT_LEARN_FAIL n) = flag s (F.OUT_STAT_LEARN_FAIL n) ∧ sameDir t !on
    (∀ c, o.cap = some c → c.measured = false →
      (∀ x, found c = some x → answers (.latencyMeasurement n samples) s fun t => others t ∧ changesOnly s t regs [.events, .outs] ∧
        (outOf t n).cap = some { c with measured := true } ∧ (outOf t n).openPulse = false ∧ judged t c.isOn x) ∧
      (found c = none → answers (.latencyMeasurement n samples) s fun t => keeps s t [])) ∧
    (o.cap.all (·.measured) = true → answers (.latencyMeasurement n samples) s fun t => keeps s t []) ∧
    (∀ c, o.cap = some c → answers (.captureEnd n samples) s fun t => others t ∧ changesOnly s t regs [.mtime, .events, .outs] ∧
      (outOf t n).cap = none ∧ (outOf t n).openPulse = false ∧
      (if c.measured = true then sameDir t true ∧ sameDir t false
       else match found c with | some x => judged t c.isOn x | none => rejected t c.isOn 2 0) ∧
      ∃ k, (outOf t n).lastCap = some k ∧ k.isOn = c.isOn ∧ k.res = res t c.isOn ∧ k.points = samples.take 5000 ∧
        k.time = c.switched + ms * fget s (F.OUT_LEARN_CAP_DELAY n) ∧ t.mtime = max s.mtime (k.time + 250 * ms)) ∧
    (o.cap = none → answers (.captureEnd n samples) s fun t => keeps s t []) ∧
    (answers .latencyStore s fun t => keeps s t [.nv] ∧ t.nv = { s.nv with latencies := t.nv.latencies, bound := t.nv.bound } ∧
      (∀ e, e ∈ t.nv.latencies ↔ e ∈ s.regs ∧ e.1 ∈ latencyAddrs) ∧ ∀ k, k ∈ t.nv.bound ↔ k < 84 ∧ (outOf s k).bound = true) ∧
    (answers .latencyTableRefresh s fun t => keeps s t [.mtime, .leads] ∧ t.leadsAt = t.mtime ∧
      (t.mtime % ms = 0 ∧ s.mtime ≤ t.mtime ∧ s.leadsAt < t.mtime ∧ ∀ u, u % ms = 0 → s.mtime ≤ u → s.leadsAt < u → t.mtime ≤ u) ∧
      (s.leadsAt ≠ 0 → t.leadsOld = s.leads) ∧
      ∀ i, i < 84 ∨ (256 ≤ i ∧ i < 684) → tabGet (fun _ => (0, 0, 0)) t.leads i = latenciesOf s i) ∧
    (∀ h, (queueOf s q).held = some h → answers (.heldItemEntry q) s fun t =>
      if fitsIn s q h.length = true then changesOnly s t [A.QPCNT q, A.QHWM q] [.qs] ∧ (∀ k, k ≠ q.val → queueOf t k = queueOf s k) ∧
        (queueOf t q).held = none ∧ (queueOf t q).slots = (queueOf s q).slots ++ itemSlots h
      else keeps s t [.freeCtr]) ∧
    ((queueOf s q).held = none → answers (.heldItemEntry q) s fun t => keeps s t []) ∧
    (∀ u, (remOf s d).staleAt = some u → answers (.remoteReportTimeout d) s fun t =>
      changesOnly s t (A.REM_CTRL d :: noteRegs) [.mtime, .events, .rems] ∧ t.mtime = max s.mtime u ∧ flag t (F.REM_CTRL_STALE d) = true ∧
      remOf t d = { remOf s d with staleAt := none } ∧ ∀ k, k ≠ d.val → remOf t k = remOf s k) ∧
    ((remOf s d).staleAt = none → answers (.remoteReportTimeout d) s fun t => keeps s t []) ∧
    (let now := max (s.mtime / (10 * ms) * (10 * ms)) (s.marker.done + 20 * ms)
     let gap := gapScan s s.marker.done (now - 10 * ms)
     s.start.engineAt = none → s.start.engineHeld = false → answers .markerSweep s fun t =>
      changesOnly s t ([A.BADTILE_CNT, A.CULLET_CAUSE, A.CULLET_HIST, A.FETCH_CNT, A.HEALTH, A.MARK_GAP_CNT, A.MARK_STAT, A.NOMODEL_CNT,
        A.ONYX_STAT, A.OUTSIDE_CNT] ++ noteRegs) [.mtime, .freeCtr, .events, .outs, .onyx, .marker] ∧
      t.mtime = max s.mtime now ∧ t.marker = { s.marker with done := now - 10 * ms, posed := gap.1 } ∧
      fget t F.MARK_GAP_CNT_COUNT = min (2 ^ 32 - 1) (fget s F.MARK_GAP_CNT_COUNT + if gap.2.1 = true then 1 else 0) ∧
      flag t F.MARK_STAT_GAP = (flag s F.MARK_STAT_GAP || gap.2.1) ∧
      (∀ j < 84, (outOf s j).intervals = [] → (outOf t j).intervals = []) ∧
      ((∀ j < 84, (outOf s j).intervals = []) → t.onyx = s.onyx ∧ gap.2.1 = false)) ∧
    (s.start.engineAt.isSome = true ∨ s.start.engineHeld = true → answers .markerSweep s fun t => keeps s t [])

/-- ECU_BAND_ENTRY, ECU_BAND_EXIT, BASE_HOT_ENTRY, BASE_HOT_EXIT, DROPOUT_END, ANTENNA_FOLD_BACK, ANTENNA_BIAS_RETRY,
SENSOR_SUPPLY_FOLD_BACK, SENSOR_SUPPLY_RESTORE, KEEP_ABSENT_CHANGE (R51 to R55, R74 to R77, R478). -/
def Obligations.SupplyMonitorsSetTheirFlags : Prop :=
  ∀ (high pwr absent : Bool) (dur : Word) (mv : BitVec 16) (a : Fin 2) (s : State), running s = true →
    let regs : List Nat := A.SUPPLY_STAT :: noteRegs
    let word (s : State) : Word := rd s A.SUPPLY_STAT
    let only (t : State) (f : Fld) (b : Bool) : Prop := flag t f = b ∧ ∀ k < 32, k ≠ f.lo → (word t).getLsbD k = (word s).getLsbD k
    let fold : Fld := if a = 0 then F.SUPPLY_STAT_ANT_A_FOLD else F.SUPPLY_STAT_ANT_B_FOLD
    let port (t : State) (b : Option Nat) : Prop := (∀ k < 2, folded t k = if k = a.val then b else folded s k) ∧
      t.sup = { s.sup with foldA := t.sup.foldA, foldB := t.sup.foldB }
    let powered (i : Nat) : Prop := Config.inputSupply i = if pwr = true then 2 else 1
    let queue (j : Nat) : List Nat := [A.QDROP (99 + j), A.QHWM (99 + j), A.QPCNT (99 + j), A.QSTAT (99 + j)]
    let inputs : List Nat := (List.range 24).flatMap (fun n => [A.FB_STAT n, A.FB_SPEED n, A.FB_ERRCNT n]) ++
      (List.range 16).flatMap (fun k => [A.AI_STAT k, A.AI_ERRCNT k]) ++ (List.range 4).flatMap queue
    (high = false ∨ flag s (bandFlag high) = false → answers (.ecuBandEntry high) s fun t => changesOnly s t regs [.events] ∧ only t (bandFlag high) true) ∧
    (flag s (bandFlag true) = true → answers (.ecuBandEntry true) s fun t => keeps s t []) ∧
    (answers (.ecuBandExit high) s fun t => changesOnly s t [A.SUPPLY_STAT] [] ∧ only t (bandFlag high) false) ∧
    (answers .baseHotEntry s fun t => changesOnly s t regs [.events] ∧ only t F.SUPPLY_STAT_BASE_HOT true ∧
      (flag s F.SUPPLY_STAT_BASE_HOT = true → keeps s t [])) ∧
    (answers .baseHotExit s fun t => changesOnly s t [A.SUPPLY_STAT] [] ∧ only t F.SUPPLY_STAT_BASE_HOT false) ∧
    (s.sup.power = .normal → answers (.dropoutEnd dur mv) s fun t => changesOnly s t regs [.events] ∧ flag t F.SUPPLY_STAT_DROPOUT = true ∧
      fget t F.SUPPLY_STAT_DROPOUT_CNT = min 255 (fget s F.SUPPLY_STAT_DROPOUT_CNT + 1) ∧
      ∀ k < 32, k ≠ F.SUPPLY_STAT_DROPOUT.lo → (k < F.SUPPLY_STAT_DROPOUT_CNT.lo ∨ F.SUPPLY_STAT_DROPOUT_CNT.hi < k) →
        (word t).getLsbD k = (word s).getLsbD k) ∧
    (s.sup.power ≠ .normal → answers (.dropoutEnd dur mv) s fun t => keeps s t []) ∧
    (bench s = false → folded s a = none → answers (.antennaFoldBack a) s fun t => changesOnly s t regs [.sup, .events] ∧ only t fold true ∧
      port t (some (s.mtime + sec))) ∧
    (bench s = true ∨ (folded s a).isSome = true → answers (.antennaFoldBack a) s fun t => keeps s t []) ∧
    (∀ u, folded s a = some u →
      (answers (.antennaBiasRetry a false) s fun t => keeps s t [.mtime, .sup] ∧ t.mtime = max s.mtime u ∧ port t none) ∧
      answers (.antennaBiasRetry a true) s fun t => changesOnly s t [A.SUPPLY_STAT] [.mtime, .sup] ∧ only t fold true ∧
        t.mtime = max s.mtime u ∧ port t (some (t.mtime + sec))) ∧
    (folded s a = none → answers (.antennaBiasRetry a absent) s fun t => keeps s t []) ∧
    (pwr = false ∨ bench s = false →
      (answers (.sensorSupplyFoldBack ⟨pwr, true⟩) s fun t => changesOnly s t (regs ++ inputs) [.sup, .events, .qs, .fb] ∧
        only t (if pwr then F.SUPPLY_STAT_SNS_PWR_FAULT else F.SUPPLY_STAT_SNS5_FAULT) true ∧
        t.sup = (if pwr = true then { s.sup with snsPwrFold := true } else { s.sup with sns5Fold := true }) ∧
        (∀ n < 24, powered n → (1 ≤ fbMode s n → fbMode s n ≤ 4 → flag t (F.FB_STAT_RANGE n) = true) ∧
          (fbMode s n = 5 → flag t (F.FB_STAT_STALE n) = true)) ∧
        (∀ k < 16, powered (24 + k) → flag s (F.AI_CFG_EN k) = true → flag t (F.AI_STAT_RANGE k) = true) ∧
        (∀ n < 24, ¬ powered n → fbOf t n = fbOf s n ∧ rd t (A.FB_STAT n) = rd s (A.FB_STAT n)) ∧
        ∀ k < 16, ¬ powered (24 + k) → rd t (A.AI_STAT k) = rd s (A.AI_STAT k)) ∧
      answers (.sensorSupplyFoldBack ⟨pwr, false⟩) s fun t => keeps s t [.sup] ∧
        t.sup = if pwr = true then { s.sup with snsPwrFold := false } else { s.sup with sns5Fold := false }) ∧
    (bench s = true → answers (.sensorSupplyFoldBack ⟨true, absent⟩) s fun t => keeps s t []) ∧
    (s.fb.snsOffEnd = none → answers .sensorSupplyRestore s fun t => keeps s t []) ∧
    (∀ u, s.fb.snsOffEnd = some u → answers .sensorSupplyRestore s fun t => keeps s t [.mtime, .fb] ∧ t.mtime = max s.mtime u ∧
      t.fb = { s.fb with snsOffEnd := none }) ∧
    (answers (.keepAbsentChange absent) s fun t => changesOnly s t [A.SUPPLY_STAT] [.sup] ∧ only t F.SUPPLY_STAT_KEEP_ABSENT absent ∧
      t.sup = { s.sup with keep := !absent })

/-- ECU_PWR_QUALIFIED, SVC_VBUS_COLD_START, STANDBY_WAKE, WAKE_IN_RISE, KEEP_LOSS_IN_STANDBY, SNAPSHOT_WAKE, SUPPLY_LOSS, SVC_VBUS_LOSS,
BENCH_TO_NORMAL, STANDBY_ENTER, FACTORY (R42, R51 to R59, R425, R426, R554, R559, R575, R584 to R590). -/
def Obligations.PowerComesGoesAndWakes : Prop :=
  ∀ (m : Master) (w : WakeCause) (unc : Word) (gtime : BitVec 64) (found : Option (Int × Int × Int × Nat)) (vbus : Bool) (s : State),
    let key : BitVec 16 := 0xB7E1
    let off := s.sup.power = .off
    let standby := s.sup.inStandby = true
    let kept (t : State) : Prop := sameStore s t ∧ t.agate.store = s.agate.store ∧ t.agate.nextSeq = s.agate.nextSeq ∧ t.sup.pcc = s.sup.pcc
    let wakes' (i : Instr) : Prop := i = .standbyWake w ∨ (i = .wakeInRise ∧ w = .wakeIn)
    (off → s.sup.inStandby = false → answers .ecuPwrQualified s fun t => coldStarted t .normal 0 0 ∧ kept t) ∧
    (off → s.sup.inStandby = false → answers .svcVbusColdStart s fun t => coldStarted t .bench 0 0 ∧ kept t) ∧
    (off → standby → wakeAdmitted s w = none → ∀ i, wakes' i → answers i s fun t => keeps s t []) ∧
    (∀ c, off → standby → wakeAdmitted s w = some c → ∀ i, wakes' i →
      (c.1 = 1 ∨ s.sup.standbyEcu = true → answers i s fun t => coldStarted t .normal ((s.sup.wake.getD c).1 % 16) 0 ∧ kept t) ∧
      (c.1 = 4 → s.sup.standbyEcu = false → answers i s fun t => coldStarted t .bench ((s.sup.wake.getD c).1 % 16) 0 ∧ kept t) ∧
      (c.1 = 2 ∨ c.1 = 3 → s.sup.standbyEcu = false → answers i s fun t => keeps s t [.sup] ∧
        t.sup = { s.sup with wake := some (s.sup.wake.getD c) })) ∧
    (off → standby → s.sup.standbyEcu = true → answers .keepLossInStandby s fun t => coldStarted t .normal 1 0 ∧ kept t ∧ t.sup.keep = false) ∧
    (off → standby → s.sup.standbyEcu = false → answers .keepLossInStandby s fun t => keeps s t [.sup] ∧
      t.sup = { s.sup with keep := false, inStandby := false, wake := none }) ∧
    (off → standby → fget s F.STBY_CFG_SNAP_INT ≠ 0 →
      let counted (t : State) : Prop := fget t F.STBY_STAT_SNAP_CNT = min 0xFFFF (fget s F.STBY_STAT_SNAP_CNT + 1)
      let solved (t : State) : Prop := changesOnly s t (A.STBY_STAT :: noteRegs) [.records] ∧ counted t ∧
        fget t F.STBY_STAT_SNAP_RES = wakeResult s unc.toNat found.isSome ∧
        (s.agate.store.length < 65536 → ∃ r, t.agate.store = s.agate.store ++ [r] ∧ r.seq = s.agate.nextSeq ∧ r.entry.ev.kind = .snapshotDone)
      answers (.snapshotWake unc gtime found none) s solved ∧
      (wakeAdmitted s w = none → answers (.snapshotWake unc gtime found (some w)) s solved) ∧
      ∀ c, wakeAdmitted s w = some c →
        (c.1 = 1 ∨ s.sup.standbyEcu = true → answers (.snapshotWake unc gtime found (some w)) s fun t =>
          coldStarted t .normal ((s.sup.wake.getD c).1 % 16) 0 ∧ kept t) ∧
        (c.1 = 4 → s.sup.standbyEcu = false → answers (.snapshotWake unc gtime found (some w)) s fun t =>
          coldStarted t .bench ((s.sup.wake.getD c).1 % 16) 0 ∧ kept t) ∧
        (c.1 = 2 ∨ c.1 = 3 → s.sup.standbyEcu = false → answers (.snapshotWake unc gtime found (some w)) s fun t =>
          changesOnly s t [A.STBY_STAT] [.sup] ∧ counted t ∧ fget t F.STBY_STAT_SNAP_RES = 5 ∧
          t.sup = { s.sup with wake := some (s.sup.wake.getD c) })) ∧
    (s.sup.power = .normal → answers (.supplyLoss false) s fun t => poweredDown s t false ∧ sameStore s t ∧ t.onyx.cache = []) ∧
    (s.sup.power = .normal → phase s = 0 → s.start.warmAt = none → answers (.supplyLoss true) s fun t => poweredDown s t false ∧ sameStore s t) ∧
    (s.sup.power = .normal → (phase s ≠ 0 ∨ s.start.warmAt.isSome = true) → s.regsWf → answers (.supplyLoss true) s fun t =>
      warmStarted s t 8 ∧ quiet t ∧ t.sup = { s.sup with power := .bench, foldA := none, foldB := none, snsPwrFold := false } ∧
      flag t F.SUPPLY_STAT_BENCH = true ∧ bench t = true) ∧
    (s.sup.power ≠ .normal → answers (.supplyLoss vbus) s fun t => keeps s t []) ∧
    (bench s = true → answers .svcVbusLoss s fun t => poweredDown s t false ∧ kept t) ∧
    (bench s = false → answers .svcVbusLoss s fun t => keeps s t []) ∧
    (bench s = true → s.regsWf → answers .benchToNormal s fun t => warmStarted s t 7 ∧ t.sup = { s.sup with power := .normal } ∧
      flag t F.SUPPLY_STAT_BENCH = false) ∧
    (bench s = false → answers .benchToNormal s fun t => keeps s t []) ∧
    (off ∨ standby ∨ (answers .ecuPwrQualified s (keeps s · []) ∧ answers .svcVbusColdStart s (keeps s · []) ∧
      answers .keepLossInStandby s (keeps s · []))) ∧
    (mayCommand s m → standbyRefused s = false → answers (.standbyEnter m key) s fun t => poweredDown s t true ∧ t.reply = .okValue .ok []) ∧
    (mayCommand s m → standbyRefused s = true → answers (.standbyEnter m key) s fun t => refuses s t m .state) ∧
    (mayCommand s m → s.regsWf → anyArmed s = false → answers (.factory m key) s fun t => warmStarted s t 1 ∧
      t.start.factoryPending = true ∧ t.reply = .okValue .ok []) ∧
    (mayCommand s m → anyArmed s = true → answers (.factory m key) s fun t => refuses s t m .state)

/-- POWER_ON_RESET_END, SELFTEST_END, GNS_SELFTEST_END, CONFIGURATION_LOAD, RESET_ENGINE, RESET_WARM, CLOCK_MONITOR_FAULT,
SUPERVISOR_WATCHDOG_TIMEOUT, ISSUE_MONITOR_TIMEOUT, ENGINE_RESET_END, WARM_RESET_RELEASE, RESET_HOLD_WINDOW_END, SUPERVISOR_RESTART,
SUPERVISOR_RESTART_END, MEMORY_SCRUB, TMR_MISMATCH, OPERATING_TIME_STORE (R545 to R560, R575 to R580, R592). -/
def Obligations.StartUpPhasesAndResets : Prop :=
  ∀ (m : Master) (st : SelfTest) (imageOk : Bool) (lost : List (Fin 262144)) (chains : BitVec 4) (found : Fin 256) (s : State),
    let key : BitVec 16 := 0xB7E1
    let up := running s = true
    let written : List Nat := [A.RESET_STAT, A.RESET_CNT, A.HEALTH, A.LOAD_STAT, A.PAGE_STATE 0, A.PAGE_STATE 1, A.PAGE_STATE 2, A.PAGE_STATE 3] ++
      [84, 85, 86, 87, 88, 89, 90].map A.QCCNT ++ noteRegs
    let qregs (q : Nat) : List Nat := [A.QSTAT q, A.QPCNT q, A.QDROP q, A.QHWM q, A.QCCNT q]
    let engine (t : State) (cause : Nat) (parts : List Part) : Prop :=
      fget t F.RESET_STAT_KIND = 1 ∧ fget t F.RESET_STAT_CAUSE = cause ∧ fget t F.RESET_CNT_ENGINE = min 0xFFFF (fget s F.RESET_CNT_ENGINE + 1) ∧
      t.start = { s.start with engineAt := some s.mtime, restart := runningGathers s } ∧ t.own = { s.own with autoHb := false } ∧
      t.svc.meterEnd = none ∧ (∀ g < 128, (gatherOf t g).phase = .stopped) ∧
      t.rcv = { s.rcv with holdEnd :=
        (if s.rcv.holdEnd.isSome = true ∨ anyArmed s = false then s.rcv.holdEnd else some (s.mtime + ms * fget s F.LOAD_GLOBAL_HOLD_WIN)) } ∧
      (s.svc.meterEnd = none → keeps s t ([.regs, .start, .own, .events, .rcv, .qs, .eng, .gathers] ++ parts) ∧
        (∀ q ∈ engineQueues, (queueOf t q).slots = [] ∧ (queueOf t q).res = [] ∧ ∀ a ∈ qregs q, rd t a = regReset a) ∧
        ∀ a, a ∉ written ++ engineQueues.flatMap qregs → ∀ k < 32,
          (rd t a).getLsbD k = if (engineBits a).testBit k = true then (rd s a).getLsbD k else (regReset a).getLsbD k)
    let idle : Prop := s.start.engineAt = none ∧ s.start.warmAt = none ∧ s.start.engineHeld = false
    let restarts (t s' : State) : Prop := t.start.restart = [] ∧ (∀ g, g ∉ s.start.restart → gatherOf t g = gatherOf s g) ∧
      ∀ g ∈ s.start.restart, startRefused s' g = false → (gatherOf t g).phase = .starting
    let known : Prop := ∀ g ∈ s.start.restart, g < 128
    let stays (t : State) : Prop := ∀ n < 84, armed t n = armed s n
    let later (t : State) (d : Nat) : Prop :=
      t.own = { s.own with hbDeadline := s.own.hbDeadline + d, hoDeadline := s.own.hoDeadline + d, electionEnd := s.own.electionEnd + d,
                           autoHb := t.own.autoHb } ∧
      t.acc = { s.acc with sessionDeadline := s.acc.sessionDeadline + d }
    let cold : Prop := fget s F.STARTUP_STAT_KIND ≠ 2
    let fails : Prop := st.supervisor = true ∨ (cold ∧ (st.outputStage = true ∨ st.nvStore = true))
    let gatherRegs : List Nat := noteRegs ++ gatherQueues.map A.QCCNT ++ s.start.restart.flatMap (fun g => [A.G_JHW g, A.G_FAULT g])
    (powered s = true → phase s = 0 → s.start.warmAt = none → answers .powerOnResetEnd s fun t => changesOnly s t [A.STARTUP_STAT] [.mtime, .sup] ∧
      t.mtime = 0 ∧ phase t = 1 ∧ t.sup = { s.sup with pcc := (s.sup.pcc + 1) % 2 ^ 32 }) ∧
    (powered s = true → phase s = 1 → ¬ fails → answers (.selftestEnd st) s fun t => phase t = 2 ∧ t.mtime = s.mtime ∧ t.nv = s.nv) ∧
    (powered s = true → phase s = 1 → fails → answers (.selftestEnd st) s fun t =>
      phase t = 5 ∧ t.start.halted = true ∧ quiet t ∧ electionOpen t = true) ∧
    (up → bench s = false → s.start.gnsUp = false → answers (.gnsSelftestEnd chains) s fun t => fget t F.EPOCH_PHASE_PHASE =
        (if s.nav.phaseSet = true then fget s F.EPOCH_PHASE_PHASE else s.mtime % (10 * ms)) ∧ t.nav.phaseSet = true ∧
      t.start = { s.start with gnsUp := true } ∧ flag t F.SELFTEST_RES_RF_CHAIN = decide (chains ≠ 0)) ∧
    (up → bench s = true ∨ s.start.gnsUp = true → answers (.gnsSelftestEnd chains) s fun t => keeps s t []) ∧
    (powered s = true → phase s = 2 → answers (.configurationLoad imageOk lost) s fun t => phase t = 3 ∧ electionOpen t = true ∧
      t.mtime = s.mtime ∧ t.own = { s.own with order := storedOrder t, claims := [], electionEnd := s.mtime + sec } ∧
      (cold → t.maps.active.model = if imageOk then s.nv.model else []) ∧
      (¬ cold → s.start.factoryPending = true → t.maps.active.model = [] ∧ t.start.factoryPending = false) ∧
      (¬ cold → s.start.factoryPending = false → t.maps = s.maps)) ∧
    (mayCommand s m → idle → s.regsWf → answers (.resetEngine m key) s fun t => engine t 1 [.reply, .unlock] ∧ t.reply = .okValue .ok []) ∧
    (mayCommand s m → s.start.engineAt.isSome = true → answers (.resetEngine m key) s fun t => accepts s t m [] [.access] ∧
      t.acc.queued = (if F.RESET_CTRL_ENGINE ∈ s.acc.queued then s.acc.queued else t.acc.queued) ∧ F.RESET_CTRL_ENGINE ∈ t.acc.queued) ∧
    (mayCommand s m → s.regsWf → answers (.resetWarm m key) s fun t => warmStarted s t 1 ∧ stays t ∧ t.reply = .okValue .ok []) ∧
    (up → idle → s.regsWf → answers .issueMonitorTimeout s fun t => engine t 4 []) ∧
    (up → idle → s.regsWf → answers (.clockMonitorFault false) s fun t => engine t 2 []) ∧
    (up → ¬ idle → answers .issueMonitorTimeout s (keeps s · []) ∧ answers (.clockMonitorFault false) s (keeps s · [])) ∧
    (up → s.regsWf → answers (.clockMonitorFault true) s fun t => warmStarted s t 2 ∧ stays t) ∧
    (up → s.regsWf → answers .supervisorWatchdogTimeout s fun t => warmStarted s t 3 ∧ stays t) ∧
    (∀ u, s.start.engineAt = some u → up → F.RESET_CTRL_ENGINE ∉ s.acc.queued → known → answers .engineResetEnd s fun t =>
      changesOnly s t gatherRegs [.mtime, .start, .events, .qs, .gathers] ∧ t.mtime = max s.mtime (u + 20 * ms) ∧ t.start.engineAt = none ∧
      restarts t { s with start := { s.start with engineAt := none } }) ∧
    (∀ u, s.start.engineAt = some u → up → F.RESET_CTRL_ENGINE ∈ s.acc.queued → s.start.warmAt = none → s.start.engineHeld = false →
      answers .engineResetEnd s fun t => t.mtime = max s.mtime (u + 20 * ms) ∧ t.start.engineAt = some t.mtime ∧
        t.acc.queued = s.acc.queued.erase F.RESET_CTRL_ENGINE ∧ (∀ g < 128, (gatherOf t g).phase = .stopped) ∧ fget t F.RESET_STAT_CAUSE = 1 ∧
        fget t F.RESET_CNT_ENGINE = min 0xFFFF (fget s F.RESET_CNT_ENGINE + 1)) ∧
    (up → s.start.engineAt = none → answers .engineResetEnd s fun t => keeps s t []) ∧
    (up → s.start.warmAt = none → answers .warmResetRelease s fun t => keeps s t []) ∧
    (∀ u, s.start.warmAt = some u → up → known → answers .warmResetRelease s fun t =>
      changesOnly s t gatherRegs [.mtime, .start, .events, .qs, .gathers] ∧ t.mtime = max s.mtime (u + 1150 * ms) ∧ t.start.warmAt = none ∧
      restarts t s) ∧
    (up → s.rcv.holdEnd = none → answers .resetHoldWindowEnd s fun t => keeps s t []) ∧
    (∀ u, s.rcv.holdEnd = some u → up → answers .resetHoldWindowEnd s fun t => t.mtime = max s.mtime u ∧ t.rcv = { s.rcv with holdEnd := none } ∧
      keeps s t [.regs, .mtime, .events, .rcv, .outs, .qs, .ports] ∧ flag t F.HEALTH_HOLD_ACTIVE = false ∧
      (∀ n < 84, armed t n = (armed s n && permittedRuns s n)) ∧
      ∀ d < 428, remArmed t d = (remArmed s d && gRunning s (fget s (F.REM_GATHER_GATHER d)))) ∧
    (up → answers .supervisorRestart s fun t =>
      let d := match s.start.supervisorAt with | some u => s.mtime - u | none => 0
      (s.svc.meterEnd = none →
        changesOnly s t ([A.CULLET_CAUSE, A.CULLET_HIST, A.HEALTH, A.LOCKSTEP_CNT] ++ noteRegs) [.start, .own, .access, .events, .rcv]) ∧
      t.start = { s.start with supervisorAt := some s.mtime } ∧ later t d ∧ t.own.autoHb = false ∧ t.svc.meterEnd = none ∧
      fget t F.LOCKSTEP_CNT_TOTAL = min 0xFFFF (fget s F.LOCKSTEP_CNT_TOTAL + 1)) ∧
    (∀ u, s.start.supervisorAt = some u → up → answers .supervisorRestartEnd s fun t => keeps s t [.mtime, .start, .own, .access] ∧
      t.mtime = max s.mtime (u + 5 * ms) ∧ t.start = { s.start with supervisorAt := none } ∧ later t (5 * ms) ∧ t.own.autoHb = s.own.autoHb) ∧
    (up → s.start.supervisorAt = none → answers .supervisorRestartEnd s fun t => keeps s t []) ∧
    (up → answers (.memoryScrub found) s fun t => changesOnly s t [A.LEHR_CNT] [.rcv] ∧
      fget t F.LEHR_CNT_CORRECTED = min 255 (fget s F.LEHR_CNT_CORRECTED + found.val + (s.rcv.eccWords.filter (fun w => !w.2.2.2)).length)) ∧
    (up → answers (.tmrMismatch false) s fun t => changesOnly s t [A.LEHR_CNT] [] ∧ fget t F.LEHR_CNT_VOTED = min 255 (fget s F.LEHR_CNT_VOTED + 1)) ∧
    (up → answers (.tmrMismatch true) s fun t => coldStarted t s.sup.power (fget s F.STARTUP_STAT_WAKE) 9 ∧ sameStore s t) ∧
    (up → answers (.operatingTimeStore true) s fun t => keeps s t []) ∧
    (up → answers (.operatingTimeStore false) s fun t => changesOnly s t ([A.CULLET_CAUSE, A.CULLET_HIST, A.HEALTH] ++ noteRegs) [.events] ∧
      (fget t F.CULLET_CAUSE_CAUSE).testBit 6 = true)

/-- RECORDER_EVENT_ACCEPT, RECORD_WRITE, RD_FIRST, RD_NEXT, RD_SEQ, AGATE_CLEAR, TICK, SNAPSHOT_COMPLETE, FLEET_ROUND_SEND,
FLEET_PEER_TIMEOUT (R27, R28, R437, R524 to R543, R572, R573). -/
def Obligations.RecorderTickAndFleet : Prop :=
  ∀ (m : Master) (k : Fin 16) (s : State),
    let key : BitVec 16 := 0xB7E1
    let up := running s = true
    let a := s.agate
    let meets (r : Record) : Bool := decide (fget s F.AGATE_RD_CFG_MINSEV ≤ r.entry.ev.sev)
    let wins : List Nat := (List.range 16).map A.AGATE_WIN
    let search (i : Instr) (found : Option Record) (code : Nat) : Prop := answers i s fun t =>
      accepts s t m (A.AGATE_RD_STAT :: wins) [.reader] ∧ t.agate.ready = a.ready ∧
      match found with
      | some r => t.agate.sel = some r.seq ∧ fget t F.AGATE_RD_STAT_RESULT = 1 ∧
          ∀ i < 16, rd t (A.AGATE_WIN i) = (leWords 16 (recordBytes r)).getD i 0
      | none => t.agate.sel = a.sel ∧ fget t F.AGATE_RD_STAT_RESULT = code ∧ ∀ i < 16, rd t (A.AGATE_WIN i) = rd s (A.AGATE_WIN i)
    let q := fget s F.AGATE_RD_REQ_LO_SEQ + 2 ^ 32 * fget s F.AGATE_RD_REQ_HI_SEQ
    let publishes (p : Nat) : Bool := decide (fget s F.FLEET_CFG_PORTS / 2 ^ p % 2 = 1) && decide (fget s (F.PORT_STAT_STATE p) ≠ 0) &&
      decide (fget s (F.PORT_STAT_STATE p) ≠ 4)
    (up → a.waiting = [] → answers .recorderEventAccept s fun t => keeps s t []) ∧
    (up → a.waiting ≠ [] → nextEvent s a.waiting = none → answers .recorderEventAccept s fun t =>
      changesOnly s t [A.QSTAT 103] [] ∧ flag t (F.QSTAT_BP_SEEN 103) = true) ∧
    (∀ e, nextEvent s a.waiting = some e → up → answers .recorderEventAccept s fun t => t.agate.waiting = a.waiting.erase e ∧
      if e.sev < 3 ∧ a.flood.isSome = true then changesOnly s t [A.AGATE_SUPP] [.events] ∧ t.agate.q103 = a.q103
      else changesOnly s t [A.QPCNT 103, A.QHWM 103] [.events, .qs] ∧ t.agate.q103 = a.q103 ++ [stamp s e]) ∧
    (up → a.q103 = [] ∨ a.ready = false → answers .recordWrite s fun t => keeps s t []) ∧
    (∀ e es, a.q103 = e :: es → up → a.ready = true → answers .recordWrite s fun t =>
      let pin := decide (5 ≤ e.ev.sev) && decide (a.severe < 256)
      changesOnly s t ([A.QCCNT 103, A.QPCNT 103, A.QHWM 103] ++ noteRegs) [.events, .records, .qs] ∧
      (a.flood = none → t.agate.q103 = es) ∧
      (a.store.length < 65536 → t.agate.store = a.store ++ [⟨a.nextSeq, pin, e⟩] ∧ t.agate.nextSeq = a.nextSeq + 1) ∧
      (a.store.length = 65536 → t.agate.store.length = 65536 ∧ ∀ r ∈ t.agate.store, r ∈ a.store ∨ r = ⟨a.nextSeq, pin, e⟩)) ∧
    (mayCommand s m →
      search (.rdFirst m) (a.store.find? meets) 3 ∧
      search (.rdNext m) (a.store.find? (fun r => (match a.sel with | some x => decide (x < r.seq) | none => true) && meets r)) 3 ∧
      search (.rdSeq m) (a.store.find? (fun r => r.seq == q)) 2 ∧
      (anyArmed s = false → answers (.agateClear m key) s fun t =>
        accepts s t m ([A.AGATE_CLR_SEQ_LO, A.AGATE_CLR_SEQ_HI, A.AGATE_RD_STAT] ++ noteRegs) [.records, .reader] ∧
        (∃ r, t.agate.store = [r] ∧ r.seq = a.nextSeq ∧ r.entry.ev.kind = .storeCleared) ∧ t.agate.nextSeq = a.nextSeq + 1 ∧
        t.agate.severe = 0 ∧ t.agate.sel = none ∧ ∀ v < 8, fget t (F.AGATE_DROP_COUNT v) = 0) ∧
      (anyArmed s = true → answers (.agateClear m key) s fun t => refuses s t m .state)) ∧
    (up → flag s F.CFG_STAT_ACT_PEND = false → s.maps.pendAt = none → answers .tick s fun t =>
      changesOnly s t [A.TICK_NUM] [.mtime, .nav, .marker, .eng] ∧ t.mtime = max s.mtime (nextTick s) ∧
      t.nav.lastTick = some (nextTick s) ∧ (∃ w, t.eng.tickDue = some (nextTick s, w) ∧ w.take 2 = [loWord (nextTick s), hiWord (nextTick s)] ∧ (s.nav.goodSnap.length = 24 → w.length = 24)) ∧
      t.eng = { s.eng with tickDue := t.eng.tickDue, snapNum := s.eng.snapNum + 1 } ∧
      fget t F.TICK_NUM_COUNT = (fget s F.TICK_NUM_COUNT + (if s.nav.lastTick = none then 0 else 1)) % 2 ^ 32) ∧
    (up → s.eng.tickDue = none → answers .snapshotComplete s fun t => keeps s t []) ∧
    (∀ u w, s.eng.tickDue = some (u, w) → up → answers .snapshotComplete s fun t =>
      changesOnly s t ((List.range 84).flatMap (fun n => A.OUT_SPEED n :: outRegs n) ++ (List.range 8).map A.PT_STAT) [.outs, .eng, .gathers, .fb] ∧
      t.eng = { s.eng with tickDue := none, snap := w, snapTick := u, ticks := s.eng.ticks + 1 } ∧
      ∀ g < 128, gatherOf t g = if (gatherOf s g).phase = .waitTick then
        { gatherOf s g with phase := .run, waiting := .none, snap := w, snapTick := u, tickSeen := s.eng.ticks + 1 } else gatherOf s g) ∧
    (up → answers .fleetRoundSend s fun t => keeps s t [.mtime, .fleet, .ports] ∧ t.mtime = max s.mtime s.fleet.nextRound ∧
      t.fleet = { s.fleet with round := (s.fleet.round + 1) % 32, nextRound := t.mtime + sec } ∧
      ∀ p, p < 6 → if publishes p = true then (portOf t p).prot.length = (portOf s p).prot.length + 7 else portOf t p = portOf s p) ∧
    (up → flag s (F.FLEET_PEER_EN k) = true → answers (.fleetPeerTimeout k) s fun t =>
      changesOnly s t (A.FLEET_STAT :: noteRegs) [.mtime, .events, .fleet] ∧ t.mtime = max s.mtime ((peerOf s k).lastComplete + 3 * sec) ∧
      (fget t F.FLEET_STAT_PEER_LOST).testBit k = true) ∧
    (up → flag s (F.FLEET_PEER_EN k) = false → answers (.fleetPeerTimeout k) s fun t => keeps s t [])

/-- CFG_STAGE_OPEN, CFG_STAGED_WRITE, CFG_CHECK, CFG_CHECK_DONE, CFG_ACT_ARM, CFG_ACT_NOW, CFG_DISCARD, CFG_ACTIVATION, IMAGE_STORE
(R567 to R571). -/
def Obligations.ConfigurationIsStagedCheckedAndActivated : Prop :=
  ∀ (m : Master) (g : Bool) (addr : BitVec 24) (data : Word) (s : State),
    let up := running s = true
    let opened := staging s = true
    let pend := flag s F.CFG_STAT_ACT_PEND = true
    let busy := flag s F.CFG_STAT_CHECK_BUSY = true
    let passed : Prop := opened ∧ fget s F.CFG_STAT_RESULT = 1 ∧ ¬ busy
    let regs : List Nat := [A.CFG_CTRL, A.CFG_STAT]
    let ok (t : State) : Prop := accepts s t m regs [.stage] ∧ flag t F.CFG_CTRL_BY_GTIME = g
    let okQueue (t : State) (fs : List Fld) : Prop := accepts s t m regs [.stage, .access] ∧ flag t F.CFG_CTRL_BY_GTIME = g ∧
      t.acc = { s.acc with queued := fs, unlock := t.acc.unlock }
    let queued : Prop := F.CFG_CTRL_CHECK ∈ s.acc.queued
    let known : Prop := timeState s = 1 ∨ timeState s = 2
    (mayCommand s m →
      (¬ opened → answers (.cfgStageOpen m g) s fun t => ok t ∧ staging t = true ∧ fget t F.CFG_STAT_RESULT = 0 ∧
        t.stage = { s.stage with staged := [] }) ∧
      (opened → answers (.cfgStageOpen m g) s fun t => refuses s t m .state) ∧
      (opened → ¬ pend → ¬ busy → answers (.cfgCheck m g) s fun t => ok t ∧ flag t F.CFG_STAT_CHECK_BUSY = true ∧
        t.stage = { s.stage with checkDone := some (s.mtime + 20 * ms) }) ∧
      (opened → ¬ pend → busy → answers (.cfgCheck m g) s fun t =>
        okQueue t (if queued then s.acc.queued else s.acc.queued ++ [F.CFG_CTRL_CHECK]) ∧ t.stage = s.stage ∧ rd t A.CFG_STAT = rd s A.CFG_STAT) ∧
      (¬ opened ∨ pend → answers (.cfgCheck m g) s fun t => refuses s t m .state) ∧
      (passed → (g = true → known) → answers (.cfgActArm m g) s fun t => ok t ∧ flag t F.CFG_STAT_ACT_PEND = true ∧
        t.stage = { s.stage with actNow := false }) ∧
      (¬ passed ∨ (g = true ∧ ¬ known) → answers (.cfgActArm m g) s fun t => refuses s t m .state) ∧
      (passed → anyArmed s = false → answers (.cfgActNow m g) s fun t => ok t ∧ flag t F.CFG_STAT_ACT_PEND = true ∧
        t.stage = { s.stage with actNow := true }) ∧
      (¬ passed ∨ anyArmed s = true → answers (.cfgActNow m g) s fun t => refuses s t m .state) ∧
      (pend → answers (.cfgDiscard m g) s fun t => ok t ∧ flag t F.CFG_STAT_ACT_PEND = false ∧ t.stage = s.stage ∧ staging t = staging s) ∧
      (¬ pend → answers (.cfgDiscard m g) s fun t => okQueue t (s.acc.queued.erase F.CFG_CTRL_CHECK) ∧ staging t = false ∧ fget t F.CFG_STAT_RESULT = 0 ∧
        flag t F.CFG_STAT_CHECK_BUSY = false ∧ t.stage = { s.stage with staged := [], checkDone := none }) ∧
      (∀ p, opened → addr.toNat % 4 = 0 → locate addr.toNat = some p → p.bit = none →
        let fs := p.hit.fam.fields
        let r := ruleOf p.hit.fam.base
        let c := writeCtx r m p data (beginTx m s)
        loadMask true fs &&& ~~~BitVec.ofNat 32 (imageMask p.hit.fam) = 0 → loadMask true fs ≠ 0 → typeMask .w1s fs = 0 → typeMask .w1c fs = 0 →
        hasKrw fs = false → allReadOnly fs = false → domainOff s (domainOf p.hit) = false → r.stores = true → p.hit.fam.base ≠ A.KEY_UNLOCK →
        rangeBad fs 0xFFFFFFFF c.new = false → r.value c (beginTx m s) = false → r.once c (beginTx m s) = false →
        answers (.cfgStagedWrite m addr data) s fun t => accepts s t m [A.CFG_STAT] [.stage] ∧ fget t F.CFG_STAT_RESULT = 0 ∧
          staging t = true ∧ stagedWord t p.addr = (baseWord s p.hit p.addr &&& ~~~loadMask true fs) ||| (data &&& loadMask true fs) ∧
          ∀ a, a ≠ p.addr → a ≠ A.CFG_STAT → stagedWord t a = stagedWord s a)) ∧
    (up → s.stage.checkDone = none → answers .cfgCheckDone s fun t => keeps s t []) ∧
    (up → s.stage.checkDone.isSome = true → answers .cfgCheckDone s fun t =>
      changesOnly s t (A.CFG_STAT :: (List.range 8).map A.CFG_SDIG) [.stage, .access] ∧
      fget t F.CFG_STAT_RESULT = cfgResult s (imageDigest (candidateImage s)) ∧
      t.acc = { s.acc with queued := s.acc.queued.erase F.CFG_CTRL_CHECK } ∧ (flag t F.CFG_STAT_CHECK_BUSY = true ↔ queued) ∧
      t.stage = { s.stage with checkDone := if queued then some (s.mtime + 20 * ms) else none } ∧
      (fget t F.CFG_STAT_RESULT ≠ 1 → ∀ i < 8, rd t (A.CFG_SDIG i) = rd s (A.CFG_SDIG i))) ∧
    (up → cfgActDue (nextTick s) s = true → answers .cfgActivation s fun t => staging t = false ∧
      flag t F.CFG_STAT_ACT_PEND = false ∧ t.stage.staged = [] ∧ t.stage.storeDue = true ∧ t.stage.lastActivation = some t.mtime) ∧
    (∀ w, s.stage.staged = [(A.TICK_CFG, w)] → up → cfgActDue (nextTick s) s = true → answers .cfgActivation s fun t =>
      changesOnly s t ([A.TICK_CFG, A.CFG_STAT, A.HEALTH] ++ noteRegs) [.mtime, .nav, .stage, .events] ∧ t.mtime = max s.mtime (nextTick s) ∧
      fget t F.TICK_CFG_PERIOD = w.toNat % 32 ∧ t.stage.generation = cfgGen s) ∧
    (up → cfgActDue (nextTick s) s = false → answers .cfgActivation s fun t => keeps s t []) ∧
    (up → answers .imageStore s fun t => keeps s t [.nv, .stage] ∧ t.stage = { s.stage with storeDue := false } ∧
      t.nv.generation = s.stage.generation ∧ t.nv.pages = (List.range 64).map (pageState s) ∧ t.nv.model = s.maps.active.model ∧
      t.nv.latencies = s.nv.latencies ∧ (s.svc.meterSave = [] → ∀ p ∈ t.nv.image, ∃ w, (p.1, w) ∈ s.regs ∧ p.2 = w &&& BitVec.ofNat 32 (imageBits p.1)))

/-- MEASUREMENT_EPOCH, CHAIN_FAILURE, ANT_OPEN, GNSS_COLD, NAV_DATA_STORE, TRK_MANUAL_WRITE, RTCM_FRAME, CORR_FEED_WRITE, CORRECTION_STALE,
INERTIAL_SAMPLE (R391 to R412). The layouts of RTCM messages are presumed (log entry 116), the parser's search is the model's (log entry 118). -/
def Obligations.ReceiverChannelsAndCorrections : Prop :=
  ∀ (m : Master) (i : EpochInput) (c : Fin 4) (a : Fin 2) (k : Fin 200) (src : Fin 8) (b0 : Byte) (bs : List Byte) (x : ImuSample)
    (isOpen : Bool) (data : Word) (s : State), running s = true →
    let key : BitVec 16 := 0xB7E1
    let trk (l : List Nat) : List Nat := l.flatMap fun k => [A.TRK_STAT k, A.TRK_DOP k]
    let chans : List Nat := List.range 200
    let cullets : List Nat := [A.CULLET_CAUSE, A.CULLET_HIST, A.HEALTH]
    let q98 : List Nat := [A.QDROP 98, A.QHWM 98, A.QPCNT 98, A.QSTAT 98]
    let bit (f : Fld) (n : Nat) (s : State) : Bool := (BitVec.ofNat 32 (fget s f)).getLsbD n
    let ncoOf (t : State) (n : Nat) : BitVec 48 × BitVec 48 := tabGet (fun _ => (0, 0)) t.nav.ncos n
    let idle (t : State) (n : Nat) : Prop := rd t (A.TRK_STAT n) = 0 ∧ rd t (A.TRK_DOP n) = 0 ∧ ncoOf t n = (0, 0)
    let inLock (t : State) (n : Nat) : Prop := 4 ≤ fget t (F.TRK_STAT_STATE n)
    let onlyTracking (t : State) : Prop := t.nav = { s.nav with ncos := t.nav.ncos, slips := t.nav.slips }
    -- a measurement epoch
    let e := epochOf s s.nav.measNext
    let te := epochTime s e
    let recs := chans.filterMap fun n => (i.recs.filter (canTrack s)).find? (fun r => r.chan.val == n)
    let locked := recs.filter (fun r => decide (4 ≤ r.state.val))
    let shown := locked.map fun r => { r with slip := r.slip || s.nav.slips.contains r.chan.val }
    let sends := flag s F.MEAS_CFG_EN && decide (e % max 1 (fget s F.MEAS_CFG_DIV) = 0)
    let sel := shown.filter (measSelected s e)
    let g := if timeState s = 0 then 0 else (gtimeAt s te / 256).toNat
    let head : List Word := [loWord e, 15, loWord g, hiWord g, BitVec.ofNat 32 (sel.length + (if timeState s = 0 then 0 else 256)), 0, 0, 0]
    -- a write of a channel's configuration
    let trkOld := rd s (A.TRK_CFG k)
    let trkNew := writtenWord Reg.TRK_CFG.fields trkOld data
    let at' (w : Word) (f : Fld) : Nat := bitsOf w f.hi f.lo
    let manual (w : Word) : Prop := at' w (F.TRK_CFG_MANUAL k) = 1
    let works (w : Word) : Prop := manual w ∧ at' w (F.TRK_CFG_EN k) = 1
    let begins : Prop := at' trkOld (F.TRK_CFG_EN k) = 0 ∨
      ∃ f ∈ [F.TRK_CFG_SIGNAL k, F.TRK_CFG_PRN k, F.TRK_CFG_CHAIN k], at' trkNew f ≠ at' trkOld f
    let fits := bitsOf data 19 16 ≤ 10 ∧ 1 ≤ bitsOf data 4 0 ∧ bitsOf data 4 0 ≤ 20
    let band := isL5 (bitsOf data 19 16) = decide (bitsOf data 25 24 % 2 = 1)
    -- correction frames: a buffer that holds the bytes b and nothing else
    let b := b0 :: bs
    let chosen := flag s F.CORR_CFG_EN = true ∧ fget s F.CORR_CFG_SOURCE = src.val
    let comes := chosen ∧ (if src.val = 6 then s.nav.corrBuf = [] else s.nav.corrBuf = b) ∧ b.length ≤ 4096
    let p := (b.take (b.length - 3)).drop 3
    let good (t : State) : Prop := fget t F.CORR_CNT_GOOD = min 0xFFFF (fget s F.CORR_CNT_GOOD + 1) ∧ t.nav.corrBuf = []
    let counts (t : State) : Prop := fget t F.CORR_CNT_BAD = fget s F.CORR_CNT_BAD ∧ flag t F.CORR_STAT_CRC_ERR = flag s F.CORR_STAT_CRC_ERR ∧
      fget t F.CORR_IGN_COUNT = fget s F.CORR_IGN_COUNT
    let joined (y : Nat) : MsmSet := match s.nav.setOpen with
      | some o => if o.tow = (msmOf y p).1.tow then
          { (msmOf y p).1 with ok := o.ok && (msmOf y p).1.ok, cells := (o.cells ++ (msmOf y p).1.cells).dedup } else (msmOf y p).1
      | none => (msmOf y p).1
    -- an epoch at which the corrections are judged
    let ts := epochTime s (epochOf s s.nav.pubNext)
    let old := corrOld s (if timeState s = 0 then none else some (gtimeAt s ts / 256).toNat)
    -- an inertial sample
    let moving := x.moving s.maps.active
    let blind : Bool := match s.marker.poses with | q :: _ => decide (q.quality = 0) | [] => true
    let satHeld := s.nav.imuSat.any (fun u => decide (s.mtime < u))
    (gnsUp s = false → answers (.measurementEpoch i) s fun t => keeps s t []) ∧
    (gnsUp s = true → answers (.measurementEpoch i) s fun t =>
      changesOnly s t (A.GNSS_STAT :: (List.range 4).map A.CHAIN_STAT ++ trk chans ++ chans.map A.TRK_CFG ++ chans.map A.TRK_LOOP ++ q98) [.mtime, .qs, .nav] ∧
      t.mtime = max s.mtime (te + navDelay s) ∧
      t.nav = { s.nav with measNext := e + 1, meas := some (e, shown), ncos := t.nav.ncos, slips := t.nav.slips } ∧
      (∀ n < 200, (∀ r ∈ recs, r.chan.val ≠ n) → rd t (A.TRK_STAT n) = (if manualOn s n = true then 1 else 0) ∧
        rd t (A.TRK_CFG n) = rd s (A.TRK_CFG n) ∧ rd t (A.TRK_LOOP n) = rd s (A.TRK_LOOP n)) ∧
      (∀ r ∈ recs, fget t (F.TRK_STAT_STATE r.chan) = r.state.val ∧ fget t (F.TRK_STAT_CN0 r.chan) = r.cn0.toNat ∧
        fget t (F.TRK_STAT_LOCK_TIME r.chan) = r.lock.toNat ∧ rd t (A.TRK_DOP r.chan) = r.doppler ∧ ncoOf t r.chan = (r.carrierNco, r.codeNco) ∧
        (flag s (F.TRK_CFG_MANUAL r.chan) = true → rd t (A.TRK_CFG r.chan) = rd s (A.TRK_CFG r.chan) ∧ rd t (A.TRK_LOOP r.chan) = rd s (A.TRK_LOOP r.chan)) ∧
        (flag s (F.TRK_CFG_MANUAL r.chan) = false → fget t (F.TRK_CFG_SIGNAL r.chan) = r.sig.val ∧ fget t (F.TRK_CFG_PRN r.chan) = r.prn.toNat ∧
          fget t (F.TRK_CFG_CHAIN r.chan) = r.chain.val)) ∧
      (∀ n < 200, n ∈ t.nav.slips ↔ (n ∈ s.nav.slips ∨ (inLock s n ∧ ¬ inLock t n) ∨ ∃ r ∈ locked, r.chan.val = n ∧ r.slip = true) ∧
        (sends = true → ∀ r ∈ sel, r.chan.val ≠ n)) ∧
      (flag t F.GNSS_STAT_ACQ_BUSY = true ↔ ∃ n < 200, fget t (F.TRK_STAT_STATE n) = 1) ∧
      fget t F.GNSS_STAT_SATS = (satellites locked).length % 256 ∧ fget t F.GNSS_STAT_TRACKED = locked.length % 256 ∧
      (∀ n g z, n < 4 → i.gains[n]? = some (g, z) → fget t (F.CHAIN_STAT_GAIN n) = g.toNat ∧ fget t (F.CHAIN_STAT_NOISE n) = z.toNat) ∧
      (sends = false → t.qs = s.qs ∧ ∀ r ∈ q98, rd t r = rd s r) ∧
      (sends = true → (queueOf s 98).held = none → fget s (F.JAS_QBP_DUTY 98) = 0 → 4 * (sel.length + 1) ≤ freeRoom s 98 →
        (queueOf t 98).slots = (queueOf s 98).slots ++ itemSlots (packWords head) ++ sel.flatMap (fun r => itemSlots (packWords (measWords e r))))) ∧
    (bit F.GNSS_STAT_CHAIN_FAIL c s = true → answers (.chainFailure c) s fun t => keeps s t []) ∧
    (bit F.GNSS_STAT_CHAIN_FAIL c s = false → answers (.chainFailure c) s fun t =>
      changesOnly s t (A.GNSS_STAT :: trk (chans.filter fun n => decide (fget s (F.TRK_CFG_CHAIN n) = c.val)) ++ cullets ++ noteRegs) [.events, .nav] ∧
      onlyTracking t ∧
      (∀ n < 4, bit F.GNSS_STAT_CHAIN_FAIL n t = (bit F.GNSS_STAT_CHAIN_FAIL n s || decide (n = c.val))) ∧ bit F.CULLET_CAUSE_CAUSE 2 t = true ∧
      (bit F.CULLET_CAUSE_CAUSE 2 s = false → flag t F.HEALTH_CULLET = true) ∧ ∀ n < 200, fget s (F.TRK_CFG_CHAIN n) = c.val → idle t n) ∧
    (answers (.antOpen a isOpen) s fun t => changesOnly s t (A.GNSS_STAT :: noteRegs) [.events] ∧
      (∀ n < 2, bit F.GNSS_STAT_ANT_OPEN n t = if n = a.val then isOpen else bit F.GNSS_STAT_ANT_OPEN n s) ∧
      fget t F.GNSS_STAT_CHAIN_FAIL = fget s F.GNSS_STAT_CHAIN_FAIL ∧
      (isOpen = false ∨ bit F.GNSS_STAT_ANT_OPEN a s = true → t.agate = s.agate ∧ ∀ r ∈ noteRegs, rd t r = rd s r)) ∧
    (mayCommand s m → domainOff s .gns = false → bitsOf data 12 8 ≤ 30 → answers (.gnssCold m key data) s fun t =>
      accepts s t m ([A.GNSS_CTRL, A.GNSS_STAT, A.CFG_STAT] ++ trk chans) [.nav, .stage] ∧
      t.nav = { s.nav with ephemeris := false, almanac := false, lastPos := none, storedPos := none, storedEphemeris := false,
                           storedAlmanac := false, ncos := t.nav.ncos, slips := t.nav.slips } ∧
      flag t F.GNSS_STAT_ACQ_BUSY = true ∧
      (∀ n < 200, if flag s (F.TRK_CFG_MANUAL n) = true then rd t (A.TRK_STAT n) = rd s (A.TRK_STAT n) ∧ ncoOf t n = ncoOf s n else idle t n) ∧
      rd t A.GNSS_CTRL = if staging s = true then rd s A.GNSS_CTRL else writtenWord Reg.GNSS_CTRL.fields (rd s A.GNSS_CTRL) data) ∧
    (answers .navDataStore s fun t => keeps s t [.nav] ∧
      t.nav = { s.nav with storedPos := s.nav.lastPos, storedEphemeris := s.nav.ephemeris, storedAlmanac := s.nav.almanac }) ∧
    (mayCommand s m → domainOff s .gns = false → fits →
      (manual trkOld → band → ¬ works trkNew → answers (.trkManualWrite m k data) s fun t =>
        accepts s t m [A.TRK_CFG k, A.TRK_STAT k, A.TRK_DOP k] [.nav] ∧ onlyTracking t ∧ rd t (A.TRK_CFG k) = trkNew ∧ idle t k) ∧
      (manual trkOld → band → works trkNew → begins → answers (.trkManualWrite m k data) s fun t =>
        accepts s t m [A.TRK_CFG k, A.TRK_STAT k, A.TRK_DOP k, A.GNSS_STAT] [.nav] ∧ onlyTracking t ∧ rd t (A.TRK_CFG k) = trkNew ∧
        rd t (A.TRK_STAT k) = 1 ∧ flag t F.GNSS_STAT_ACQ_BUSY = true) ∧
      (manual trkOld → band → works trkNew → ¬ begins → answers (.trkManualWrite m k data) s fun t =>
        accepts s t m [A.TRK_CFG k] [] ∧ rd t (A.TRK_CFG k) = trkNew) ∧
      (manual trkOld → ¬ band → answers (.trkManualWrite m k data) s fun t => refuses s t m .value) ∧
      (¬ manual trkOld → manual trkNew → answers (.trkManualWrite m k data) s fun t =>
        accepts s t m [A.TRK_CFG k, A.TRK_STAT k, A.TRK_DOP k] [.nav] ∧ onlyTracking t ∧ rd t (A.TRK_CFG k) = trkOld ||| 0x80000000 ∧ idle t k) ∧
      (¬ manual trkOld → ¬ manual trkNew → answers (.trkManualWrite m k data) s fun t => refuses s t m .state)) ∧
    (src.val = 6 → fget s F.CORR_CFG_SOURCE ≠ 6 → answers (.rtcmFrame src b0 bs) s fun t => changesOnly s t [A.SVC_STAT] [] ∧
      fget t F.SVC_STAT_CORR_DISC = min 0xFFFF (fget s F.SVC_STAT_CORR_DISC + b.length)) ∧
    (¬ chosen → (src.val = 6 → fget s F.CORR_CFG_SOURCE = 6) → answers (.rtcmFrame src b0 bs) s fun t => keeps s t []) ∧
    (chosen → answers (.rtcmFrame src b0 bs) s fun t => changesOnly s t [A.CORR_CNT, A.CORR_IGN, A.CORR_STAT] [.nav] ∧
      t.nav = { s.nav with corrBuf := t.nav.corrBuf, base := t.nav.base, ambDrop := t.nav.ambDrop, setOpen := t.nav.setOpen, setWait := t.nav.setWait }) ∧
    (comes → goodFrame b = false → b.length = rtcmLength b + 6 → b.head? = some 0xD3 → 0xD3 ∉ b.tail → answers (.rtcmFrame src b0 bs) s fun t =>
      fget t F.CORR_CNT_BAD = min 0xFFFF (fget s F.CORR_CNT_BAD + 1) ∧ fget t F.CORR_CNT_GOOD = fget s F.CORR_CNT_GOOD ∧
      flag t F.CORR_STAT_CRC_ERR = true ∧ t.nav = { s.nav with corrBuf := [] }) ∧
    (comes → b.head? = some 0xD3 → b.length < 3 ∨ ((b.getD 1 0).toNat < 4 ∧ b.length < rtcmLength b + 6) → answers (.rtcmFrame src b0 bs) s fun t =>
      keeps s t [.nav] ∧ t.nav = { s.nav with corrBuf := b }) ∧
    (comes → goodFrame b = true →
      (∀ st, baseOf p = some st → answers (.rtcmFrame src b0 bs) s fun t => good t ∧ counts t ∧ t.nav.setOpen = s.nav.setOpen ∧ t.nav.setWait = s.nav.setWait ∧
        (s.nav.base = none ∨ s.nav.base.any (fun o => o.station != st.station) = true → t.nav.base = some st ∧ t.nav.ambDrop = true ∧
          flag t F.CORR_STAT_BASE_VALID = true) ∧
        (∀ o, s.nav.base = some o → o.station = st.station →
          if (o.x - st.x) ^ 2 + (o.y - st.y) ^ 2 + (o.z - st.z) ^ 2 ≤ 10000 then t.nav.base = s.nav.base ∧ t.nav.ambDrop = s.nav.ambDrop
          else t.nav.base = some st ∧ t.nav.ambDrop = true)) ∧
      (∀ y, msmSystem (rtcmField p 0 12) = some y → baseOf p = none → 22 ≤ p.length → answers (.rtcmFrame src b0 bs) s fun t => good t ∧ t.nav.base = s.nav.base ∧
        ((msmOf y p).2 = true → counts t ∧ t.nav.setOpen = some (joined y) ∧ t.nav.setWait = s.nav.setWait) ∧
        ((msmOf y p).2 = false → t.nav.setOpen = none ∧
          if (joined y).ok = true then counts t ∧ t.nav.setWait = some (joined y)
          else t.nav.setWait = s.nav.setWait ∧ fget t F.CORR_CNT_BAD = min 0xFFFF (fget s F.CORR_CNT_BAD + 1))) ∧
      (baseOf p = none → p.length < 22 ∨ msmSystem (rtcmField p 0 12) = none → answers (.rtcmFrame src b0 bs) s fun t => good t ∧
        t.nav = { s.nav with corrBuf := [] } ∧ fget t F.CORR_IGN_COUNT = min 0xFFFFFFFF (fget s F.CORR_IGN_COUNT + 1))) ∧
    (mayCommand s m → (fget s F.CORR_CFG_SOURCE = 7 → s.nav.corrBuf.length < 4096) → answers (.corrFeedWrite m data) s fun t =>
      accepts s t m [A.CORR_FEED] [.nav] ∧ rd t A.CORR_FEED = writtenWord Reg.CORR_FEED.fields (rd s A.CORR_FEED) data ∧
      t.nav = { s.nav with corrBuf := s.nav.corrBuf ++
        (if flag s F.CORR_CFG_EN = true ∧ fget s F.CORR_CFG_SOURCE = 7 then [BitVec.ofNat 8 data.toNat] else []) }) ∧
    (mayCommand s m → fget s F.CORR_CFG_SOURCE = 7 → 4096 ≤ s.nav.corrBuf.length → answers (.corrFeedWrite m data) s fun t => refuses s t m .state) ∧
    (old = false → answers .correctionStale s fun t => keeps s t []) ∧
    (old = true → answers .correctionStale s fun t => changesOnly s t (A.CORR_STAT :: noteRegs) [.mtime, .events] ∧ t.mtime = max s.mtime ts ∧
      flag t F.CORR_STAT_STALE = true ∧ (∀ j < 32, j ≠ F.CORR_STAT_STALE.lo → (rd t A.CORR_STAT).getLsbD j = (rd s A.CORR_STAT).getLsbD j) ∧
      (flag s F.CORR_STAT_STALE = true ∨ fget s F.POSE_STAT_QUALITY < 4 → t.agate = s.agate)) ∧
    (answers (.inertialSample true x.rate x.acc) s fun t => changesOnly s t [A.IMU_STAT, A.IMU_MISS_CNT] [.nav] ∧ t.nav = { s.nav with imuMiss := some 0 } ∧
      flag t F.IMU_STAT_EXCL = true ∧ fget t F.IMU_MISS_CNT_COUNT = min 0xFFFFFFFF (fget s F.IMU_MISS_CNT_COUNT + 1) ∧
      flag t F.IMU_STAT_MISS = (flag s F.IMU_STAT_MISS || s.nav.imuMiss.isNone) ∧ flag t F.IMU_STAT_SAT = flag s F.IMU_STAT_SAT) ∧
    (answers (.inertialSample false x.rate x.acc) s fun t => changesOnly s t [A.IMU_STAT] [.nav] ∧
      t.nav = { s.nav with
        imuMoved := if moving = true then some s.mtime else s.nav.imuMoved
        imuBlind := if moving = true ∧ blind = true then some s.mtime else s.nav.imuBlind
        imuMiss := s.nav.imuMiss.bind (fun n => if 100 ≤ n + 1 then none else some (n + 1))
        imuSat := if x.saturated = true then some (s.mtime + sec) else s.nav.imuSat.filter (fun u => decide (s.mtime < u))
        turn := if flag t F.IMU_STAT_EXCL = true then s.nav.turn else (s.nav.turn.1 + x.yaw s.maps.active, s.nav.turn.2 + 1) } ∧
      flag t F.IMU_STAT_EXCL = (t.nav.imuMiss.isSome || t.nav.imuSat.isSome) ∧
      flag t F.IMU_STAT_SAT = (flag s F.IMU_STAT_SAT || (x.saturated && !satHeld)) ∧ flag t F.IMU_STAT_MISS = flag s F.IMU_STAT_MISS)

/-- POSE_RECORD_PUBLISH, SNAP_CAPTURE, SNAP_CAPTURE_DONE, SNAP_SOLVE, SNAP_SOLVE_DONE (R409 to R426). -/
def Obligations.PosesAreRecordedAndSnapshotsTaken : Prop :=
  ∀ (m : Master) (i : PoseInput) (data : List Byte) (temp : BitVec 16) (found : Option (Int × Int × Int × Nat)) (s : State), running s = true →
    let k := epochOf s s.nav.pubNext
    let at' := epochTime s k
    let q97 : List Nat := [A.QDROP 97, A.QHWM 97, A.QPCNT 97, A.QSTAT 97]
    let busy : Prop := bench s = true ∨ flag s F.SNAP_STAT_CAP_BUSY = true ∨ flag s F.SNAP_STAT_SOLVE_BUSY = true ∨ fget s F.SNAP_CFG_CHAINS = 0
    let ended (t : State) (op : PortOp) (r : Reply) : Prop :=
      if s.svc.op = op then t.reply = r ∧ t.svc = { s.svc with op := .none } else t.reply = s.reply ∧ t.svc = s.svc
    let again : Prop := F.SNAP_CTRL_SOLVE ∈ s.acc.queued
    let place (t : State) : Prop := ∀ r ∈ [A.SNAP_LAT, A.SNAP_LON, A.SNAP_HGT, A.SNAP_SIG], rd t r = rd s r
    (answers (.poseRecordPublish i) s fun t =>
      changesOnly s t ([A.CORR_CNT, A.CORR_STAT, A.GNSS_STAT, A.HEAD_STAT, A.IMU_STAT, A.POSE_CNT, A.POSE_STAT, A.QUAL_CNT, A.SPEED_SCALE 0, A.SPEED_SCALE 1,
        A.TIME_HOLD, A.TIME_STAT] ++ q97 ++ noteRegs) [.mtime, .freeCtr, .events, .qs, .marker, .nav, .clock] ∧
      t.mtime = max s.mtime (at' + navDelay s) ∧ t.nav.pubNext = k + 1 ∧ fget t F.POSE_CNT_COUNT = (fget s F.POSE_CNT_COUNT + 1) % 2 ^ 32 ∧
      (∃ p, t.marker = { s.marker with poses := p :: prunePoses at' s.marker.poses } ∧ p.time = at' ∧ p.quality ≤ 5 ∧
        p.field = s.maps.active.field ∧ fget t F.POSE_STAT_QUALITY = p.quality ∧ flag t F.POSE_STAT_FIELD_VALID = p.field.isSome ∧
        (i.fix = none ∨ measOf s k = [] ∨ bench s = true → p.quality ≤ 1) ∧ (fget s F.POSE_CFG_SIGMA_MAX < i.sigmaH ∨ 35000 < i.sigmaHead → p.quality = 0) ∧
        (fget t F.POSE_STAT_HEAD_SRC = 0 → p.quality = 0) ∧ (t.nav.lastSat = s.nav.lastSat ∨ t.nav.lastSat = some at') ∧
        (2 ≤ p.quality → t.nav.lastSat = some at' ∧ flag t F.GNSS_STAT_FIRST_FIX = true) ∧
        (p.quality < 2 → t.clock = { s.clock with utc := t.clock.utc, utcNext := t.clock.utcNext }) ∧
        (p.quality = 0 → t.nav.goodRec = s.nav.goodRec ∧
          (s.nav.goodRec.length = 16 → ∀ n, 4 ≤ n → n ≤ 14 → t.nav.lastRec[n]? = s.nav.goodRec[n]?)) ∧
        (p.quality ≠ 0 → t.nav.goodRec = t.nav.lastRec) ∧
        fget t F.QUAL_CNT_COUNT = min 0xFFFFFFFF (fget s F.QUAL_CNT_COUNT + if fget s F.POSE_STAT_QUALITY ≠ 0 ∧ p.quality = 0 then 1 else 0)) ∧
      t.nav.lastRec.take 2 = [loWord at', hiWord at'] ∧ (s.nav.goodRec.length = 16 → t.nav.lastRec.length = 16) ∧
      (s.nav.goodRec.length = 16 → (queueOf s 97).held = none → fget s (F.JAS_QBP_DUTY 97) = 0 → 8 ≤ freeRoom s 97 →
        (queueOf t 97).slots = (queueOf s 97).slots ++ itemSlots (packWords t.nav.lastRec)) ∧ ∀ q, q ≠ 97 → queueOf t q = queueOf s q) ∧
    (mayCommand s m → busy → answers (.snapCapture m) s fun t => refuses s t m .state) ∧
    (mayCommand s m → ¬ busy → answers (.snapCapture m) s fun t => accepts s t m [A.SNAP_STAT] [.nav] ∧
      flag t F.SNAP_STAT_CAP_BUSY = true ∧ flag t F.SNAP_STAT_VALID = false ∧
      t.nav = { s.nav with cap := some ⟨s.mtime, fget s F.SNAP_CFG_CHAINS, fget s F.SNAP_CFG_LEN⟩ }) ∧
    (s.nav.cap = none → s.svc.op ≠ .capture → answers (.snapCaptureDone data temp) s fun t => keeps s t []) ∧
    (∀ c, s.nav.cap = some c → answers (.snapCaptureDone data temp) s fun t =>
      let n := onesOf c.chains 4 * c.len * 15345
      let u := atTime (c.start + 2 * ms * c.len) s
      changesOnly s t [A.SNAP_STAT] [.mtime, .reply, .svc, .nav] ∧ t.mtime = max s.mtime (c.start + 2 * ms * c.len) ∧
        flag t F.SNAP_STAT_VALID = true ∧ flag t F.SNAP_STAT_CAP_BUSY = false ∧ fget t F.SNAP_STAT_BYTES = (64 + n) % 2 ^ 19 ∧
        t.nav = { s.nav with cap := none, snapBuf := t.nav.snapBuf } ∧ ended t .capture (.okValue .ok []) ∧
        (∀ j < 64, snapByte t j = (snapHeader u c temp).getD j 0) ∧ ∀ j < n, snapByte t (64 + j) = data.getD j 0) ∧
    (mayCommand s m → flag s F.SNAP_STAT_VALID = false → answers (.snapSolve m) s fun t => refuses s t m .state) ∧
    (mayCommand s m → flag s F.SNAP_STAT_VALID = true → flag s F.SNAP_STAT_SOLVE_BUSY = false → answers (.snapSolve m) s fun t =>
      accepts s t m [A.SNAP_STAT] [.nav] ∧ flag t F.SNAP_STAT_SOLVE_BUSY = true ∧ t.nav = { s.nav with solveDue := some (s.mtime + 3 * sec) }) ∧
    (mayCommand s m → flag s F.SNAP_STAT_VALID = true → flag s F.SNAP_STAT_SOLVE_BUSY = true → answers (.snapSolve m) s fun t => accepts s t m [] [.access] ∧
      t.acc = { s.acc with unlock := t.acc.unlock, queued := if again then s.acc.queued else s.acc.queued ++ [F.SNAP_CTRL_SOLVE] }) ∧
    (flag s F.SNAP_STAT_SOLVE_BUSY = false → s.svc.op ≠ .solve → answers (.snapSolveDone found) s fun t => keeps s t []) ∧
    (flag s F.SNAP_STAT_SOLVE_BUSY = true → answers (.snapSolveDone found) s fun t =>
      let known := s.nav.storedEphemeris = true ∨ s.nav.ephemeris = true ∨ s.nav.storedAlmanac = true ∨ s.nav.almanac = true
      let unc := beNat [snapByte s 19, snapByte s 18, snapByte s 17, snapByte s 16]
      changesOnly s t [A.SNAP_STAT, A.SNAP_LAT, A.SNAP_LON, A.SNAP_HGT, A.SNAP_SIG] [.reply, .svc, .nav, .access] ∧
        (flag t F.SNAP_STAT_SOLVE_BUSY = true ↔ again) ∧ t.acc = { s.acc with queued := s.acc.queued.erase F.SNAP_CTRL_SOLVE } ∧
        t.nav = { s.nav with solveDue := if again then some (s.mtime + 3 * sec) else none } ∧
        (¬ again → ended t .solve (.result (fget t F.SNAP_STAT_RESULT))) ∧ (again → t.reply = s.reply ∧ t.svc = s.svc) ∧
        (¬ known → fget t F.SNAP_STAT_RESULT = 3 ∧ place t) ∧ (known → 2000000 < unc → fget t F.SNAP_STAT_RESULT = 4 ∧ place t) ∧
        (known → unc ≤ 2000000 → found = none → fget t F.SNAP_STAT_RESULT = 2 ∧ place t) ∧
        ∀ lat lon h sg, known → unc ≤ 2000000 → found = some (lat, lon, h, sg) → fget t F.SNAP_STAT_RESULT = 1 ∧
          rd t A.SNAP_LAT = wordOf lat ∧ rd t A.SNAP_LON = wordOf lon ∧ rd t A.SNAP_HGT = wordOf h ∧ rd t A.SNAP_SIG = loWord sg)

/-- PPS_PREPARE, PPS_EDGE, PPS_FALL, TIME_MSG_WITHDRAW, SLEW_COMPLETE, HOLDOVER_ENTRY, HOLDOVER_LIMIT_EXCEEDED, TM_REFERENCE_PERIOD,
UTC_OFFSET_CHANGE (R435 to R453). -/
def Obligations.TimeUnitEventsAct : Prop :=
  ∀ (p : PortId) (lim : Nat) (s : State), running s = true →
    let c := s.clock
    let stat : List Nat := A.TIME_STAT :: noteRegs
    let recorded (t : State) (sev : Nat) (k : EvKind) (vals : List Int) : Prop :=
      let e := mkEvent sev 11 0 k vals
      waitingFrom s e < 4 → t.agate.waiting = s.agate.waiting ++ [e]
    let enters (t : State) (st sev : Nat) (k : EvKind) : Prop := timeState t = st ∧ recorded t sev k [timeState s, st]
    let ready := flag s F.PPS_CFG_EN = true ∧ timeState s ≠ 0 ∧ c.pulse = none
    let n := nextPulse s
    let u := atTime (n.edge - sec / 2) s
    let q := fget s F.TM_CFG_PORT
    let tm := max c.tmNext s.mtime
    let silent := fget s (F.PORT_STAT_STATE q) = 2 ∨ fget s (F.PORT_STAT_STATE q) = 3
    let others (t : State) (q : Nat) : Prop := ∀ k, k ≠ q → portOf t k = portOf s k
    (¬ ready → answers .ppsPrepare s fun t => keeps s t []) ∧
    (ready → answers .ppsPrepare s fun t => keeps s t [.mtime, .clock, .ports] ∧ t.mtime = max s.mtime (n.edge - sec / 2) ∧
      t.clock = { c with pulse := some n, lastPulse := some n } ∧
      (∀ k < 6, portOf t k = if fget s F.TIME_MSG_PORTS / 2 ^ k % 2 = 1
        then { portOf s k with time := { (portOf s k).time with msg := some (n.edge, timeMessage u n) } } else portOf s k) ∧
      n.state = timeState s ∧ n.edge % 64 = 0 ∧ (timeMessage u n).length = 8) ∧
    (c.pulse = none → answers .ppsEdge s fun t => keeps s t []) ∧
    (∀ x, c.pulse = some x →
      let edge (t : State) : Prop := t.mtime = max s.mtime x.edge ∧ t.clock.pulse = none ∧ t.clock.lastEdge = some x.edge ∧
        t.clock.fallAt = some (x.edge + ms * fget s F.PPS_CFG_WIDTH) ∧ t.clock.step = none
      let stepped (t : State) : Prop := changesOnly s t (A.TIME_STEP_CNT :: stat) [.mtime, .events, .clock] ∧ edge t ∧
        fget t F.TIME_STEP_CNT_COUNT = min 0xFFFFFFFF (fget s F.TIME_STEP_CNT_COUNT + 1) ∧
        flag t F.TIME_STAT_SLEW = false ∧ flag t F.TIME_STAT_STEP_PEND = false
      (c.step = none → answers .ppsEdge s fun t => keeps s t [.mtime, .clock] ∧ edge t ∧
        t.clock = { c with pulse := none, lastEdge := some x.edge, nextMin := x.edge + sec / 2, fallAt := t.clock.fallAt }) ∧
      (∀ e, c.step = some (.correct e) → answers .ppsEdge s fun t => stepped t ∧ timeState t = 1 ∧
        gtimeAt t t.mtime = gtimeAt s t.mtime - e ∧ t.clock.unc = c.unc) ∧
      (∀ g, c.step = some (.set g) → answers .ppsEdge s fun t => stepped t ∧ timeState t = 3 ∧ gtimeNow t = g ∧ t.clock.unc = none)) ∧
    (answers .ppsFall s fun t => if c.fallAt = none then keeps s t [] else keeps s t [.mtime, .clock] ∧
      t.mtime = max s.mtime (c.fallAt.getD 0) ∧ t.clock = { c with fallAt := none }) ∧
    ((portOf s p).time.msg = none → answers (.timeMsgWithdraw p) s fun t => keeps s t []) ∧
    (∀ e d, (portOf s p).time.msg = some (e, d) → answers (.timeMsgWithdraw p) s fun t => changesOnly s t [A.TIME_STAT] [.mtime, .ports] ∧
      t.mtime = max s.mtime (e - 10 * ms) ∧ fget t F.TIME_STAT_MSG_MISS = min 0xFFFF (fget s F.TIME_STAT_MSG_MISS + 1) ∧
      timeState t = timeState s ∧ others t p ∧ portOf t p = { portOf s p with
        time := { (portOf s p).time with msg := none }, cur := (portOf s p).cur.filter (fun x => decide (x.1 ≠ .msg)) }) ∧
    (flag s F.TIME_STAT_SLEW = false → answers .slewComplete s fun t => keeps s t []) ∧
    (flag s F.TIME_STAT_SLEW = true → answers .slewComplete s fun t => changesOnly s t stat [.mtime, .events, .clock] ∧
      flag t F.TIME_STAT_SLEW = false ∧ flag t F.TIME_STAT_STEP_PEND = false ∧ gtimeAt t t.mtime = gtimeAt s t.mtime ∧
      (c.slewRate ≠ 0 → slewLeft { s with mtime := t.mtime } ≤ fiftyNs) ∧
      t.clock = { c with refM := t.mtime, refG := gtimeAt s t.mtime, slewRate := 0, slewErr := 0, step := none } ∧
      (timeState s = 1 → timeState t = 1 ∧ t.agate = s.agate) ∧ (timeState s ≠ 1 → enters t 1 1 .timeState)) ∧
    (∀ x, c.lastSol = some x → timeState s = 1 → answers .holdoverEntry s fun t => changesOnly s t stat [.mtime, .events] ∧
      t.mtime = max s.mtime (x + sec) ∧ enters t 2 2 .timeState) ∧
    (c.lastSol = none ∨ timeState s ≠ 1 → answers .holdoverEntry s fun t => keeps s t []) ∧
    (let beyond : Bool := (uncertainty (atTime lim s)).any fun u => decide (1000 * fget s F.TIME_HOLD_LIMIT < u)
     (timeState s = 2 → beyond = true → answers (.holdoverLimitExceeded lim) s fun t => changesOnly s t stat [.mtime, .events] ∧
       t.mtime = max s.mtime lim ∧ enters t 3 3 .holdoverLimit) ∧
     (timeState s ≠ 2 ∨ beyond = false → answers (.holdoverLimitExceeded lim) s fun t => keeps s t [.mtime] ∧ t.mtime = max s.mtime lim)) ∧
    (flag s F.TM_CFG_EN = false → answers .tmReferencePeriod s fun t => keeps s t []) ∧
    (flag s F.TM_CFG_EN = true → answers .tmReferencePeriod s fun t => changesOnly s t (A.TM_STAT :: noteRegs) [.mtime, .clock, .ports, .events] ∧ t.mtime = tm ∧
      t.clock = { c with tmNext := tm + ms * fget s F.TM_CFG_PERIOD } ∧ others t q ∧ fget t F.TM_STAT_CYCLE = fget s F.TM_STAT_CYCLE ∧
      (silent → flag s F.TM_STAT_SUSPENDED = true → portOf t q = portOf s q ∧ rd t A.TM_STAT = rd s A.TM_STAT ∧ t.agate = s.agate) ∧
      (silent → flag s F.TM_STAT_SUSPENDED = false → flag t F.TM_STAT_SUSPENDED = true ∧
        fget t F.TM_STAT_SUSP_CNT = min 0xFFFF (fget s F.TM_STAT_SUSP_CNT + 1) ∧ recorded t 3 .tmSuspended [q] ∧
        portOf t q = { portOf s q with
          time := if (portOf s q).time.ref = true then { (portOf s q).time with ref := false, fol := none } else (portOf s q).time
          cur := (portOf s q).cur.filter (fun x => decide (x.1 ≠ .ref)) }) ∧
      (¬ silent → flag t F.TM_STAT_SUSPENDED = false ∧
        portOf t q = { portOf s q with time := { (portOf s q).time with ref := true, fol := some none } })) ∧
    (answers .utcOffsetChange s fun t => match c.utcNext with
      | none => keeps s t []
      | some x => keeps s t [.mtime, .clock] ∧ t.mtime = max s.mtime (gtimeReaches s x.1) ∧ t.clock = { c with utc := some x.2, utcNext := none })

/-- RAW_LINE_CHANGE, FB_EDGE, FB_STALE_TIMEOUT, FB_PERIODIC_RECORD, FB_CLEAR_FAULT, FB_COUNT_WRITE, FB_COMPARE_WRITE, SSI_FRAME,
SSI_STALE_TIMEOUT (R456 to R474). -/
def Obligations.FeedbackInputsCountCompareAndReport : Prop :=
  ∀ (m : Master) (n : Fin 24) (k : Fin 4) (reg : CmpReg) (level both parity startHigh endLow : Bool) (data : Word) (s : State), running s = true →
    let x := fbOf s n
    let o := fbOwner s n
    let other := if n.val = o then o + 1 else o
    let line (j : Nat) : Bool := flag s (F.FB_STAT_LINE j)
    let a := if n.val = o then x.raw else line o
    let b := if n.val = o then line (o + 1) else x.raw
    let first := n.val = o
    let step : Option Int := match fbMode s o with
      | 1 => if (fget s (F.FB_CFG_EDGE o) = 0 ∧ a = true) ∨ (fget s (F.FB_CFG_EDGE o) = 1 ∧ a = false) ∨ fget s (F.FB_CFG_EDGE o) = 2 then some 1 else none
      | 2 => some (if first then (if a ≠ b then 1 else -1) else (if a = b then 1 else -1))
      | 3 => if first ∧ a = true then some (if b = true then -1 else 1) else none
      | 4 => if first ∧ a = true then some 1 else if ¬ first ∧ b = true then some (-1) else none
      | _ => none
    let sound := (∀ c, x.change = some c → fget s (F.FB_CHK_MINW o) * (us / 10) ≤ x.rawAt - c) ∧ x.viol = false ∧
      (∀ c, x.counted = some c → sec ≤ (x.rawAt - c) * (100 * fget s (F.FB_CHK_FMAX o))) ∧
      flag s (F.FB_STAT_RANGE o) = false ∧ flag s (F.FB_STAT_FAULTY o) = false
    let queue (j : Nat) : List Nat := [A.QDROP (99 + j / 6), A.QHWM (99 + j / 6), A.QPCNT (99 + j / 6), A.QSTAT (99 + j / 6)]
    let four : List Nat := List.range 4
    let edges : List Nat := [A.FB_STAT n, A.FB_STAT other, A.FB_STAT o, A.FB_COUNT o, A.FB_SPEED o, A.FB_PERIOD o, A.FB_ERRCNT o, A.FB_CMPCTRL o] ++
      four.map (A.FB_CMPVAL o) ++ four.map (A.FB_CMPLATE o) ++ queue o ++ noteRegs
    let fires (j : Nat) : List Nat := [A.FB_STAT j, A.FB_CMPCTRL j] ++ four.map (A.FB_CMPVAL j) ++ four.map (A.FB_CMPLATE j) ++ queue j
    let bit (f : Fld) (j : Nat) (s : State) : Bool := (BitVec.ofNat 32 (fget s f)).getLsbD j
    let idle (j : Nat) : Prop := fget s (F.FB_CMPCTRL_EN j) = 0 ∨ (fbOf s j).moved = false
    let others (t : State) : Prop := t.fb = { s.fb with ins := t.fb.ins, pts := t.fb.pts } ∧ ∀ j, j ≠ n.val → j ≠ o → j ≠ other → fbOf t j = fbOf s j
    let only (t : State) : Prop := t.fb = { s.fb with ins := t.fb.ins } ∧ ∀ j, j ≠ n.val → fbOf t j = fbOf s j
    let angles (t : State) : Prop := t.marker = { s.marker with joints := t.marker.joints }
    let counting := 1 ≤ fbMode s o ∧ fbMode s o ≤ 4
    let ssi := fbMode s n = 5
    let width := fget s (F.FB_SSI_BITS n)
    let v := data.toNat % 2 ^ width
    let even := ((List.range 32).map (fun i => v / 2 ^ i % 2)).sum + (if parity = true then 1 else 0)
    let goodFrame := startHigh = true ∧ endLow = true ∧ (flag s (F.FB_SSI_PARITY n) = true → even % 2 = 0)
    (answers (.rawLineChange n level) s fun t => keeps s t [.fb] ∧ only t ∧
      fbOf t n = if level = x.raw then x else { x with raw := level, rawAt := s.mtime / 64 * 64 }) ∧
    (line n = x.raw → answers (.fbEdge n both) s fun t => keeps s t []) ∧
    (line n ≠ x.raw → answers (.fbEdge n both) s fun t => changesOnly s t edges [.mtime, .events, .qs, .marker, .fb] ∧ others t ∧ angles t ∧
      t.mtime = max s.mtime (x.rawAt + filterDelay s n) ∧ flag t (F.FB_STAT_LINE n) = x.raw ∧
      ((∀ q, q ≠ 99 + o / 6 → queueOf t q = queueOf s q)) ∧
      (fbMode s o = 0 ∨ 5 ≤ fbMode s o → rd t (A.FB_COUNT o) = rd s (A.FB_COUNT o) ∧ t.fb = s.fb ∧ t.agate = s.agate)) ∧
    (line n ≠ x.raw → counting → inputDown s o = true → answers (.fbEdge n both) s fun t => rd t (A.FB_COUNT o) = rd s (A.FB_COUNT o) ∧
      flag t (F.FB_STAT_RANGE o) = true ∧ t.fb = { s.fb with ins := t.fb.ins }) ∧
    (line n ≠ x.raw → sound → both = false → counting → inputDown s o = false → answers (.fbEdge n both) s fun t =>
      rd t (A.FB_COUNT o) = rd s (A.FB_COUNT o) + BitVec.ofInt 32 (step.getD 0) ∧
      ∀ d, step = some d → flag t (F.FB_STAT_STALE o) = false ∧ flag t (F.FB_STAT_DIR o) = decide (d < 0) ∧
        (fbOf t o).lastCount = some x.rawAt ∧ (fbOf t o).moved = true ∧
        (fget s (F.FB_CMPCTRL_EN o) = 2 ^ k.val → rd s (A.FB_CMPVAL o k) = rd s (A.FB_COUNT o) + BitVec.ofInt 32 d → rd s (A.FB_CMPSTEP o k) = 0 →
          bit (F.FB_STAT_CMP_FIRED o) k t = true ∧ bit (F.FB_STAT_CMP_LATE o) k t = bit (F.FB_STAT_CMP_LATE o) k s ∧ fget t (F.FB_CMPCTRL_EN o) = 0)) ∧
    (line n ≠ x.raw → both = true → fbMode s o = 2 → line other ≠ (fbOf s other).raw → inputDown s o = false →
      answers (.fbEdge n both) s fun t => rd t (A.FB_COUNT o) = rd s (A.FB_COUNT o) ∧
        fget t (F.FB_ERRCNT_PHASE_ERR o) = min 0xFFFF (fget s (F.FB_ERRCNT_PHASE_ERR o) + 1) ∧
        flag t (F.FB_STAT_LINE n) = x.raw ∧ flag t (F.FB_STAT_LINE other) = (fbOf s other).raw) ∧
    (∀ c, x.lastCount = some c → flag s (F.FB_STAT_STALE n) = false → 1 ≤ fbMode s n → fbMode s n ≤ 4 → answers (.fbStaleTimeout n) s fun t =>
      changesOnly s t ([A.FB_STAT n, A.FB_SPEED n] ++ queue n ++ noteRegs) [.mtime, .events, .qs, .fb] ∧ only t ∧ flag t (F.FB_STAT_STALE n) = true ∧
        t.mtime = max s.mtime (c + fget s (F.FB_CHK_STALE n) * ms) ∧ speedNow t n = 0) ∧
    (x.lastCount = none ∨ flag s (F.FB_STAT_STALE n) = true ∨ fbMode s n = 0 ∨ 5 ≤ fbMode s n → answers (.fbStaleTimeout n) s fun t => keeps s t []) ∧
    (let p := fget s (F.FB_CFG_REC n) * ms
     let at' := max (x.lastRec / p * p + p) (s.mtime / p * p)
     let u := atTime at' s
     (p = 0 ∨ fbMode s n = 6 → answers (.fbPeriodicRecord n) s fun t => keeps s t []) ∧
     (p ≠ 0 → fbMode s n ≠ 6 → answers (.fbPeriodicRecord n) s fun t => changesOnly s t (queue n) [.mtime, .qs, .fb] ∧ only t ∧
       t.mtime = max s.mtime at' ∧ fbOf t n = { x with lastRec := at', revFlag := false } ∧
       ((queueOf s (99 + n / 6)).held = none → fget s (F.JAS_QBP_DUTY (99 + n / 6)) = 0 → 2 ≤ freeRoom s (99 + n / 6) →
         (queueOf t (99 + n / 6)).slots = (queueOf s (99 + n / 6)).slots ++ itemSlots [BitVec.ofNat 64 at',
           BitVec.ofNat 64 (fget s (F.FB_COUNT_COUNT n) + 2 ^ 32 * (speedBits (speedNow u n) % 65536) + 2 ^ 48 * fbFlags s n x.revFlag false 0 + 2 ^ 59 * n.val)]))) ∧
    (mayCommand s m → answers (.fbClearFault m n) s fun t => accepts s t m (A.FB_STAT n :: queue n) [.fb, .qs] ∧ only t ∧
      flag t (F.FB_STAT_FAULTY n) = false ∧ (fbOf t n).errs = [] ∧
      ∀ j < 32, j ≠ 4 → (rd t (A.FB_STAT n)).getLsbD j = (rd s (A.FB_STAT n)).getLsbD j) ∧
    (mayCommand s m → answers (.fbCountWrite m n data) s fun t => accepts s t m (A.FB_COUNT n :: fires n) [.fb, .marker, .qs] ∧ angles t ∧
      t.fb = { s.fb with pts := t.fb.pts } ∧ rd t (A.FB_COUNT n) = data ∧ (idle n → t.qs = s.qs ∧ t.fb = s.fb ∧ ∀ r ∈ fires n, rd t r = rd s r)) ∧
    (mayCommand s m → answers (.fbCompareWrite m reg n k data) s fun t => accepts s t m (A.FB_CMPSTEP n k :: fires n) [.fb, .qs] ∧
      t.fb = { s.fb with pts := t.fb.pts } ∧
      (∀ j < 4, j ≠ k.val → reg ≠ .ctrl → rd t (A.FB_CMPVAL n j) = rd s (A.FB_CMPVAL n j) ∧ rd t (A.FB_CMPSTEP n j) = rd s (A.FB_CMPSTEP n j)) ∧
      (idle n ∨ x.moved = false ∨ (reg ≠ .ctrl ∧ cmpEnabled s n k = false) →
        (reg = .ctrl → x.moved = false ∨ data.toNat % 16 = 0 → fget t (F.FB_CMPCTRL_EN n) = data.toNat % 16) ∧
        (reg = .value → rd t (A.FB_CMPVAL n k) = data) ∧ (reg = .step → rd t (A.FB_CMPSTEP n k) = data)) ∧
      (reg = .value → fget s (F.FB_CMPCTRL_EN n) = 2 ^ k.val → x.moved = true → flag s (F.FB_STAT_DIR n) = false → rd s (A.FB_CMPSTEP n k) = 0 →
        let d := (data - rd s (A.FB_COUNT n)).toInt
        (d ≤ 0 → bit (F.FB_STAT_CMP_FIRED n) k t = true ∧ bit (F.FB_STAT_CMP_LATE n) k t = true ∧ fget t (F.FB_CMPCTRL_EN n) = 0 ∧
          fget t (F.FB_CMPLATE_DIST n k) = min (-d).toNat 65535) ∧
        (0 < d → fget t (F.FB_CMPCTRL_EN n) = 2 ^ k.val ∧ rd t (A.FB_CMPVAL n k) = data ∧ t.qs = s.qs))) ∧
    (¬ ssi → answers (.ssiFrame n data parity startHigh endLow) s fun t => keeps s t []) ∧
    (ssi → goodFrame → inputDown s n = false → answers (.ssiFrame n data parity startHigh endLow) s fun t =>
      changesOnly s t ([A.FB_COUNT n, A.FB_SSIVAL n, A.FB_SSICNT n] ++ fires n) [.qs, .marker, .fb] ∧ others t ∧ angles t ∧
      rd t (A.FB_COUNT n) = rd t (A.FB_SSIVAL n) ∧ flag t (F.FB_STAT_STALE n) = false ∧
      fget t (F.FB_SSICNT_GOOD n) = (fget s (F.FB_SSICNT_GOOD n) + 1) % 65536 ∧ (fbOf t n).ssiGood = some s.mtime ∧ (fbOf t n).ssiBad = false ∧
      (flag s (F.FB_SSI_GRAY n) = false → flag s (F.FB_SSI_SIGNED n) = false → rd t (A.FB_SSIVAL n) = BitVec.ofNat 32 v) ∧
      (flag s (F.FB_SSI_GRAY n) = true → flag s (F.FB_SSI_SIGNED n) = false → rd t (A.FB_SSIVAL n) ^^^ (rd t (A.FB_SSIVAL n) >>> 1) = BitVec.ofNat 32 v) ∧
      (flag s (F.FB_SSI_GRAY n) = false → flag s (F.FB_SSI_SIGNED n) = true → 1 ≤ width → width ≤ 32 →
        (rd t (A.FB_SSIVAL n)).toInt = if 2 ^ (width - 1) ≤ v then (v : Int) - 2 ^ width else v)) ∧
    (ssi → ¬ goodFrame ∨ inputDown s n = true → answers (.ssiFrame n data parity startHigh endLow) s fun t =>
      changesOnly s t ([A.FB_STAT n, A.FB_SSICNT n] ++ noteRegs) [.events, .fb] ∧ only t ∧ flag t (F.FB_STAT_SSI_ERR n) = true ∧
      fget t (F.FB_SSICNT_ERR n) = min 65535 (fget s (F.FB_SSICNT_ERR n) + 1) ∧ fbOf t n = { x with ssiBad := true }) ∧
    (∀ c, x.ssiGood = some c → ssi → flag s (F.FB_STAT_STALE n) = false → answers (.ssiStaleTimeout n) s fun t =>
      changesOnly s t (A.FB_STAT n :: queue n ++ noteRegs) [.mtime, .events, .qs, .fb] ∧ only t ∧ flag t (F.FB_STAT_STALE n) = true ∧
        t.mtime = max s.mtime (c + fget s (F.FB_CHK_STALE n) * ms)) ∧
    (¬ ssi ∨ x.ssiGood = none ∨ flag s (F.FB_STAT_STALE n) = true → answers (.ssiStaleTimeout n) s fun t => keeps s t [])

/-- AI_CONVERSION, AI_BURDEN_RECLOSE, AI_STALE_TIMEOUT, PT_SHORT, PT_COMPARE_PULSE_END, SYNTHESISED_SPEED_PERIOD,
SENSOR_SUPPLY_LEVEL_CHANGE (R475 to R478). The filtered code with TAU not 0 is a free value between the last one and the conversion. -/
def Obligations.AnalogInputsAndPinsAct : Prop :=
  ∀ (m : Master) (k : Fin 16) (p : Fin 8) (raw : BitVec 12) (over25 : Bool) (data : Word) (s : State), running s = true →
    let y := aiOf s k
    let x := ptOf s p
    let enabled := flag s (F.AI_CFG_EN k) = true
    let opens := over25 = true ∧ fget s (F.AI_CFG_RANGE k) = 2 ∧ flag s (F.AI_STAT_BURDEN_OPEN k) = false
    let isOpen := opens ∨ flag s (F.AI_STAT_BURDEN_OPEN k) = true
    let down := inputDown s (24 + k) = true
    let angles (t : State) : Prop := t.marker = { s.marker with joints := t.marker.joints }
    let inside (v : Nat) : Prop := fget s (F.AI_WIN_LO k) ≤ v ∧ v ≤ fget s (F.AI_WIN_HI k)
    let onlyPin (t : State) : Prop := t.fb = { s.fb with pts := t.fb.pts } ∧ ∀ j, j ≠ p.val → ptOf t j = ptOf s j
    let level (w : Word) : Bool := w.getLsbD 2
    let failing := (List.range 24).map A.FB_STAT ++ (List.range 24).map A.FB_SPEED ++ (List.range 24).map A.FB_ERRCNT ++
      (List.range 16).map A.AI_STAT ++ (List.range 16).map A.AI_ERRCNT ++
      [99, 100, 101, 102].flatMap (fun q => [A.QDROP q, A.QHWM q, A.QPCNT q, A.QSTAT q]) ++ noteRegs
    let old := rd s A.FB_GLOBAL
    let new := writtenWord Reg.FB_GLOBAL.fields old data
    (¬ enabled → answers (.aiConversion k raw over25) s fun t => keeps s t []) ∧
    (enabled → answers (.aiConversion k raw over25) s fun t => changesOnly s t ([A.AI_VAL k, A.AI_STAT k, A.AI_ERRCNT k] ++ noteRegs) [.freeCtr, .events, .marker, .fb] ∧ angles t ∧
      t.fb = { s.fb with ais := t.fb.ais } ∧ (∀ j, j ≠ k.val → aiOf t j = aiOf s j) ∧ fget t (F.AI_VAL_RAW k) = raw.toNat ∧
      flag t (F.AI_STAT_STALE k) = false ∧ (aiOf t k).last = some s.mtime ∧
      min y.filt raw.toNat ≤ (aiOf t k).filt ∧ (aiOf t k).filt ≤ max y.filt raw.toNat ∧
      (fget s (F.AI_CFG_TAU k) = 0 → (aiOf t k).filt = raw.toNat) ∧ (flag t (F.AI_STAT_BURDEN_OPEN k) = true ↔ isOpen) ∧
      (inside (aiOf t k).filt → ¬ isOpen → ¬ down → fget t (F.AI_VAL_CODE k) = (aiOf t k).filt % 4096 ∧ flag t (F.AI_STAT_RANGE k) = false ∧
        rd t (A.AI_ERRCNT k) = rd s (A.AI_ERRCNT k)) ∧
      (¬ inside (aiOf t k).filt ∨ isOpen ∨ down → fget t (F.AI_VAL_CODE k) = fget s (F.AI_VAL_CODE k) ∧ flag t (F.AI_STAT_RANGE k) = true ∧ t.marker = s.marker ∧
        fget t (F.AI_ERRCNT_COUNT k) = min 0xFFFFFFFF (fget s (F.AI_ERRCNT_COUNT k) + if opens ∨ flag s (F.AI_STAT_RANGE k) = false then 1 else 0))) ∧
    (answers (.aiBurdenReclose k) s fun t => changesOnly s t [A.AI_STAT k] [] ∧ flag t (F.AI_STAT_BURDEN_OPEN k) = false ∧
      ∀ j < 32, j ≠ 3 → (rd t (A.AI_STAT k)).getLsbD j = (rd s (A.AI_STAT k)).getLsbD j) ∧
    (∀ u, y.last = some u → flag s (F.AI_STAT_STALE k) = false → answers (.aiStaleTimeout k) s fun t => changesOnly s t [A.AI_STAT k] [.mtime] ∧
      t.mtime = max s.mtime (u + 10 * ms) ∧ flag t (F.AI_STAT_STALE k) = true) ∧
    (y.last = none ∨ flag s (F.AI_STAT_STALE k) = true → answers (.aiStaleTimeout k) s fun t => keeps s t []) ∧
    (answers (.ptShort p) s fun t => changesOnly s t (A.PT_STAT p :: noteRegs) [.events] ∧ flag t (F.PT_STAT_SHORT p) = true ∧
      ∀ j < 32, j ≠ 1 → (rd t (A.PT_STAT p)).getLsbD j = (rd s (A.PT_STAT p)).getLsbD j) ∧
    (x.pulseEnd = none → answers (.ptComparePulseEnd p) s fun t => keeps s t []) ∧
    (∀ u, x.pulseEnd = some u → answers (.ptComparePulseEnd p) s fun t => keeps s t [.mtime, .fb] ∧ onlyPin t ∧ t.mtime = max s.mtime u ∧
      ptOf t p = { x with pulseEnd := none }) ∧
    (let start := if x.freq = 0 then s.mtime else x.periodAt + sec * 65536000 / x.freq
     answers (.synthesisedSpeedPeriod p) s fun t => keeps s t [.mtime, .fb] ∧ onlyPin t ∧ t.mtime = max s.mtime start ∧
       ptOf t p = { x with freq := x.next, periodAt := start }) ∧
    (mayCommand s m → staging s = false → level new = level old → answers (.sensorSupplyLevelChange m data) s fun t =>
      accepts s t m [A.FB_GLOBAL] [.stage] ∧ rd t A.FB_GLOBAL = new) ∧
    (mayCommand s m → staging s = false → level new ≠ level old → answers (.sensorSupplyLevelChange m data) s fun t =>
      accepts s t m (A.FB_GLOBAL :: failing) [.fb, .stage, .events, .qs] ∧ rd t A.FB_GLOBAL = new ∧
      t.fb = { s.fb with ins := t.fb.ins, snsOffEnd := some (s.mtime + 10 * ms) } ∧
      (∀ n < 24, Config.inputSupply n = 2 → 1 ≤ fbMode s n → fbMode s n ≤ 4 → flag t (F.FB_STAT_RANGE n) = true) ∧
      (∀ n < 24, Config.inputSupply n = 2 → fbMode s n = 5 → flag t (F.FB_STAT_STALE n) = true) ∧
      (∀ n < 16, Config.inputSupply (24 + n) = 2 → flag s (F.AI_CFG_EN n) = true → flag t (F.AI_STAT_RANGE n) = true)) ∧
    (mayCommand s m → staging s = true → answers (.sensorSupplyLevelChange m data) s fun t => accepts s t m [A.CFG_STAT] [.stage] ∧
      stagedWord t A.FB_GLOBAL % 8 = data % 8)

/-- STREAM_ITEM_TAKEN, FRAME_TRANSMIT_COMPLETE, BUS_ERROR, BUSOFF_RECOVERY_COMPLETE, BUSOFF_REC, PORT_INIT_WRITE, PORT_SLEEP, PORT_WAKE,
PORT_SLEEP_ENTRY, PORT_WAKE_CONDITION, SEND_REQ, TX_ABORT, BAM_PACKET_SEND, DM1_PERIOD, ADDRESS_CLAIM_TIMEOUT (R488 to R516). -/
def Obligations.PortsSendFailSleepAndRecover : Prop :=
  ∀ (m : Master) (p : PortId) (o : Fin 128) (kind : Fin 7) (tx eight init : Bool) (sof : Nat) (tdc : BitVec 8) (w : WakeCond) (s : State),
    running s = true →
    let x := portOf s p
    let st := busState s p
    let others (t : State) : Prop := ∀ k, k ≠ p.val → portOf t k = portOf s k
    let q := 85 + p.val
    let taken (t : State) (n : Nat) : Prop := (queueOf t q).slots = (queueOf s q).slots.drop n ∧ ∀ k, k ≠ q → queueOf t k = queueOf s k
    let free := maySend s p = true ∧ flag s (F.PORT_CFG_MODE p) = false ∧ x.cur = none ∧ slotFrame s p = none ∧ hasAddress s p = true
    let sends := match x.cur with | some c => some c | none => chooseFrame s p
    let tec := fget s (F.PORT_ERR_TEC p)
    let rec' := fget s (F.PORT_ERR_REC p)
    let judged (t : State) (tec rec' : Nat) : Prop := x.initReq = false →
      (255 < tec → busState t p = 3 ∧ flag t (F.PORT_STAT_BOFF_SEEN p) = true ∧ flag t (F.PORT_STAT_RECOV p) = flag s (F.PORT_CFG_BUSOFF_AUTO p) ∧
        fget t (F.PORT_BOFFCNT_BUSOFF p) = min 0xFFFF (fget s (F.PORT_BOFFCNT_BUSOFF p) + 1)) ∧
      (tec ≤ 255 → busState t p = if 128 ≤ tec ∨ 128 ≤ rec' then 2 else 1)
    let port : List Nat := [A.PORT_STAT p, A.PORT_ERR p, A.PORT_ERRCNT p, A.PORT_BOFFCNT p, A.TM_STAT] ++ noteRegs
    let sent : List Nat := port ++ [A.PORT_TDC p, A.PORT_TXCNT p, A.TP_CNT p, A.QCCNT q, A.QDROP (91 + p), A.QHWM (91 + p), A.QPCNT (91 + p), A.QSTAT (91 + p)] ++
      (List.range 128).flatMap (fun o => [A.OBJ_CTRL p o, A.OBJ_STAT p o]) ++ (List.range 428).map A.REM_CTRL
    let bars := isTmPort s p = true ∨ portArmed s p = true
    let same := staging s = true ∨ init = flag s (F.PORT_CTRL_INIT p)
    let stays := same ∧ (flag s (F.PORT_CTRL_INIT p) = true → ¬ bars)
    let ctrl (t : State) : Prop := accepts s t m [A.PORT_STAT p, A.CFG_STAT] [.stage, .ports] ∧ others t ∧ rd t (A.PORT_CTRL p) = rd s (A.PORT_CTRL p)
    let awake (t : State) : Prop := busState t p = x.slept % 8 ∧ flag t (F.PORT_STAT_WAKE_SEEN p) = true ∧
      portOf t p = { x with sleepReq := false, wakeReq := false }
    -- the stream
    (¬ free ∨ headItem s p (x.swallow || x.tx.isSome) = none → answers (.streamItemTaken p) s fun t => keeps s t []) ∧
    (∀ i, headItem s p true = some i → free → x.swallow = true → answers (.streamItemTaken p) s fun t => changesOnly s t [A.QCCNT q] [.qs, .ports] ∧
      others t ∧ taken t i.words ∧ portOf t p = { x with head := none, swallow := hdrMsg i.hdr && hdrCont i.hdr }) ∧
    (∀ i r, headItem s p true = some i → x.tx = some r → free → x.swallow = false →
      let full := r.last = true ∨ 7 ≤ r.buf.length ∨ hdrMsg i.hdr = false
      (full → answers (.streamItemTaken p) s fun t => keeps s t []) ∧
      (¬ full → malformed s p i true = true → answers (.streamItemTaken p) s fun t =>
        changesOnly s t ([A.PORT_STAT p, A.PORT_BOFFCNT p, A.QCCNT q] ++ noteRegs) [.events, .qs, .ports] ∧ others t ∧ taken t i.words ∧
        (portOf t p).tx = x.tx ∧ fget t (F.PORT_BOFFCNT_TX_BAD p) = min 0xFFFF (fget s (F.PORT_BOFFCNT_TX_BAD p) + 1)) ∧
      (¬ full → malformed s p i true = false → answers (.streamItemTaken p) s fun t => changesOnly s t [A.QCCNT q] [.qs, .ports] ∧ others t ∧
        taken t i.words ∧ portOf t p = { x with head := none, tx := some { r with buf := r.buf ++ i.data, last := !hdrCont i.hdr } })) ∧
    (∀ i, headItem s p false = some i → free → x.swallow = false → x.tx = none →
      let f := itemFrame i
      let dead := (hdrMsg i.hdr = false ∨ i.w1 ≤ 8) ∧ isTimedCmd f = true ∧ ∀ d ∈ cmdRems s p f, remArmed s d = false
      let long := hdrMsg i.hdr = true ∧ 8 < i.w1
      (malformed s p i false = true → answers (.streamItemTaken p) s fun t =>
        changesOnly s t ([A.PORT_STAT p, A.PORT_BOFFCNT p, A.QCCNT q] ++ noteRegs) [.events, .qs, .ports] ∧ others t ∧ taken t i.words ∧
        portOf t p = { x with head := none, swallow := hdrMsg i.hdr && hdrCont i.hdr } ∧ flag t (F.PORT_STAT_TX_BAD_SEEN p) = true ∧
        fget t (F.PORT_BOFFCNT_TX_BAD p) = min 0xFFFF (fget s (F.PORT_BOFFCNT_TX_BAD p) + 1)) ∧
      (malformed s p i false = false → dead → answers (.streamItemTaken p) s fun t => others t ∧ taken t i.words ∧ (portOf t p).cur = none ∧
        changesOnly s t (A.QCCNT q :: A.REM_NOMATCH_CNT :: (cmdRems s p f).map A.REM_CTRL) [.qs, .ports] ∧
        (∀ d ∈ cmdRems s p f, flag t (F.REM_CTRL_DISCARD d) = true) ∧ fget t F.REM_NOMATCH_CNT_COUNT =
          if cmdRems s p f = [] then min 0xFFFFFFFF (fget s F.REM_NOMATCH_CNT_COUNT + 1) else fget s F.REM_NOMATCH_CNT_COUNT) ∧
      (malformed s p i false = false → ¬ dead → long → answers (.streamItemTaken p) s fun t => changesOnly s t [A.QCCNT q] [.qs, .ports] ∧ others t ∧
        taken t i.words ∧ (portOf t p).prot.length = x.prot.length + 1 ∧ ∃ r, (portOf t p).tx = some r ∧ r.total = i.w1 ∧ r.sent = 0 ∧ r.buf = i.data) ∧
      (malformed s p i false = false → ¬ dead → ¬ long → answers (.streamItemTaken p) s fun t => keeps s t [.qs, .ports] ∧ others t ∧
        queueOf t q = { queueOf s q with taken := true } ∧ (∀ k, k ≠ q → queueOf t k = queueOf s k) ∧
        portOf t p = { x with head := some f, cur := some (.stream, f) })) ∧
    (maySend s p = false ∨ sends = none → answers (.frameTransmitComplete p sof tdc) s fun t => keeps s t []) ∧
    (∀ src f, sends = some (src, f) → maySend s p = true → (∀ k, src = .object k → k < 128) → answers (.frameTransmitComplete p sof tdc) s fun t =>
      changesOnly s t sent [.mtime, .freeCtr, .events, .svc, .qs, .ports] ∧ others t ∧ t.mtime = max s.mtime sof ∧ (portOf t p).cur = none ∧
      (portOf t p).ackRun = 0 ∧ flag t (F.PORT_STAT_SOLO p) = false ∧ fget t (F.PORT_ERR_TEC p) = tec - 1 ∧ fget t (F.PORT_ERR_REC p) = rec' ∧
      fget t (F.PORT_TXCNT_COUNT p) = (fget s (F.PORT_TXCNT_COUNT p) + 1) % 2 ^ 32 ∧
      (src = .prot → (portOf t p).prot = x.prot.erase f) ∧ (src = .msg → (portOf t p).time.msg = none) ∧
      (src = .ref → (portOf t p).time.ref = false ∧ fget t F.TM_STAT_CYCLE = (fget s F.TM_STAT_CYCLE + 1) % 64) ∧
      (∀ d, src = .cmd d → (portOf t p).cmd = x.cmd.erase d) ∧
      (∀ k, src = .object k → flag t (F.OBJ_CTRL_SEND_REQ p k) = false ∧ flag t (F.OBJ_STAT_TX_DONE p k) = true) ∧
      (src = .stream → x.tx = none → flag s (F.PORT_CFG_LOOP p) = false → (queueOf s q).taken = true → taken t (headPacket (queueOf s q).slots).length) ∧
      (src = .stream → x.tx = none → (queueOf s q).taken = false → (queueOf t q).slots = (queueOf s q).slots ∧ (portOf t p).head = none) ∧
      (∀ r, src = .stream → x.tx = some r →
        let k := min 7 (r.total - r.sent)
        (r.bam = true → r.total ≤ r.sent + k → (portOf t p).tx = none ∧ fget t (F.TP_CNT_DONE p) = (fget s (F.TP_CNT_DONE p) + 1) % 65536) ∧
        (r.bam = false ∨ r.sent + k < r.total → (portOf t p).tx = some
          { r with sent := r.sent + k, buf := r.buf.drop k, back := r.back ++ r.buf.take k, window := r.window - 1, deadline := t.mtime + 50 * ms })) ∧
      (src ≠ .stream → (queueOf t q).slots = (queueOf s q).slots)) ∧
    -- errors, bus-off
    (onBus s p = false ∨ (tx = true ∧ maySend s p = false) → answers (.busError p kind tx eight) s fun t => keeps s t []) ∧
    (onBus s p = true → (tx = true → maySend s p = true) → answers (.busError p kind tx eight) s fun t =>
      changesOnly s t port [.events, .svc, .ports] ∧ others t ∧ (portOf t p).prot = x.prot ∧ (portOf t p).cmd = x.cmd ∧
      (kind = 0 → fget t (F.PORT_ERR_TEC p) = tec ∧ fget t (F.PORT_ERR_REC p) = rec' ∧ (portOf t p).cur = none) ∧
      (kind ≠ 0 → fget t (F.PORT_STAT_LEC p) = kind.val) ∧
      (kind ≠ 0 → tx = false → fget t (F.PORT_ERR_REC p) = min 255 (rec' + if eight = true then 8 else 1) ∧ fget t (F.PORT_ERR_TEC p) = tec ∧
        fget t (F.PORT_ERRCNT_BUS_ERR p) = min 0xFFFF (fget s (F.PORT_ERRCNT_BUS_ERR p) + 1) ∧ judged t tec (min 255 (rec' + if eight = true then 8 else 1))) ∧
      (kind ≠ 0 → kind ≠ 3 → tx = true → fget t (F.PORT_ERR_TEC p) = min 256 (tec + 8) ∧ fget t (F.PORT_ERR_REC p) = rec' ∧ (portOf t p).cur = none ∧
        fget t (F.PORT_ERRCNT_BUS_ERR p) = min 0xFFFF (fget s (F.PORT_ERRCNT_BUS_ERR p) + 1) ∧ judged t (min 256 (tec + 8)) rec') ∧
      (kind = 3 → tx = true → fget t (F.PORT_ERR_TEC p) = (if st = 2 then tec else min 256 (tec + 8)) ∧ (portOf t p).ackRun = x.ackRun + 1 ∧
        judged t (if st = 2 then tec else min 256 (tec + 8)) rec' ∧ (portOf t p).cur = none ∧ fget t (F.PORT_ERRCNT_ACK_ERR p) = min 0xFFFF (fget s (F.PORT_ERRCNT_ACK_ERR p) + 1) ∧
        (x.ackRun = 31 → flag t (F.PORT_STAT_SOLO p) = true))) ∧
    (st = 3 → flag s (F.PORT_STAT_RECOV p) = true → answers (.busoffRecoveryComplete p) s fun t =>
      changesOnly s t ([A.PORT_STAT p, A.PORT_ERR p] ++ noteRegs) [.events, .ports] ∧ others t ∧ busState t p = 1 ∧ fget t (F.PORT_ERR_TEC p) = 0 ∧
      fget t (F.PORT_ERR_REC p) = 0 ∧ flag t (F.PORT_STAT_RECOV p) = false) ∧
    (st ≠ 3 ∨ flag s (F.PORT_STAT_RECOV p) = false → answers (.busoffRecoveryComplete p) s fun t => keeps s t []) ∧
    (mayCommand s m → stays → answers (.busoffRec m p init) s fun t => ctrl t ∧ portOf t p = (if st = 3 then { x with recCmd := true } else x) ∧ busState t p = st ∧
      flag t (F.PORT_STAT_RECOV p) = (flag s (F.PORT_STAT_RECOV p) || decide (st = 3))) ∧
    -- INIT, sleep, wake
    (mayCommand s m → staging s = false → init ≠ flag s (F.PORT_CTRL_INIT p) →
      (init = true → isTmPort s p = true → answers (.portInitWrite m p init) s fun t => refuses s t m .state) ∧
      (init = true → isTmPort s p = false → portArmed s p = true → answers (.portInitWrite m p init) s fun t => refuses s t m .armed) ∧
      (init = true → ¬ bars → answers (.portInitWrite m p init) s fun t => accepts s t m [A.PORT_CTRL p, A.PORT_STAT p] [.ports, .stage] ∧ others t ∧
        flag t (F.PORT_CTRL_INIT p) = true ∧ (st ≠ 0 → x.cur = none → busState t p = (if st = 4 then 4 else 0) ∧ (portOf t p).slept = 0) ∧
        (st ≠ 0 → x.cur ≠ none → busState t p = st ∧ portOf t p = { x with initReq := true }) ∧ (st = 0 → busState t p = 0 ∧ portOf t p = x)) ∧
      (init = false → st ≠ 0 ∨ x.initReq = true → answers (.portInitWrite m p init) s fun t => accepts s t m [A.PORT_CTRL p] [.ports, .stage] ∧ others t ∧
        flag t (F.PORT_CTRL_INIT p) = false ∧ portOf t p = if x.initReq = true then { x with initReq := false }
          else if st = 4 ∧ x.slept = 0 then { x with slept := if x.fullCount = true then 3 else 1 } else x) ∧
      (init = false → st = 0 → x.initReq = false → answers (.portInitWrite m p init) s fun t =>
        accepts s t m ([A.PORT_CTRL p, A.ISO_STAT p] ++ port) [.events, .ports, .stage] ∧ others t ∧ flag t (F.PORT_CTRL_INIT p) = false ∧
        (portOf t p).openAt = s.mtime ∧ (x.fullCount = true → busState t p = 3 ∧ flag t (F.PORT_STAT_RECOV p) = true) ∧
        (x.fullCount = false → tec ≤ 255 → busState t p = if 128 ≤ tec ∨ 128 ≤ rec' then 2 else 1) ∧
        (isoPort s p = true → fget t (F.ISO_STAT_CLAIM p) = 1 ∧ (portOf t p).claimEnd = some (s.mtime + 250 * ms) ∧
          (portOf t p).prot = x.prot ++ [claimFrame s p (fget s (F.ISO_CFG_PREF p))]))) ∧
    (mayCommand s m → same → bars → answers (.portSleep m p init) s fun t => refuses s t m .state) ∧
    (mayCommand s m → same → ¬ bars → answers (.portSleep m p init) s fun t => ctrl t ∧ busState t p = st ∧
      portOf t p = if st = 4 then x else { x with sleepReq := true }) ∧
    (mayCommand s m → stays → answers (.portWake m p init) s fun t => ctrl t ∧ (st = 4 → awake t) ∧
      (st ≠ 4 → busState t p = st ∧ portOf t p = { x with wakeReq := x.wakeReq || x.sleepReq })) ∧
    (answers (.portSleepEntry p) s fun t =>
      if x.sleepReq = true ∧ st ≠ 4 then changesOnly s t [A.PORT_STAT p] [.ports] ∧ others t ∧
        (x.wakeReq = false → busState t p = 4 ∧ portOf t p = { x with sleepReq := false, slept := st, cur := none }) ∧
        (x.wakeReq = true → busState t p = st ∧ flag t (F.PORT_STAT_WAKE_SEEN p) = true)
      else keeps s t []) ∧
    (wakes s p w = false → answers (.portWakeCondition p w) s fun t => keeps s t []) ∧
    (wakes s p w = true → st = 4 → answers (.portWakeCondition p w) s fun t => changesOnly s t [A.PORT_STAT p] [.ports] ∧ others t ∧ awake t ∧ t.qs = s.qs) ∧
    (wakes s p w = true → st ≠ 4 → answers (.portWakeCondition p w) s fun t => keeps s t [.ports] ∧ others t ∧
      portOf t p = { x with wakeReq := x.wakeReq || x.sleepReq }) ∧
    -- send objects
    (mayCommand s m → answers (.sendReq m p o) s fun t => accepts s t m [A.OBJ_CTRL p o] [] ∧
      flag t (F.OBJ_CTRL_SEND_REQ p o) = (flag s (F.OBJ_CTRL_SEND_REQ p o) || flag s (F.OBJ_CFG_DIR p o))) ∧
    (mayCommand s m → answers (.txAbort m p o) s fun t => accepts s t m [A.OBJ_CTRL p o] [.freeCtr, .ports] ∧ others t ∧
      (flag s (F.OBJ_CTRL_SEND_REQ p o) = false → t.ports = s.ports ∧ flag t (F.OBJ_CTRL_SEND_REQ p o) = false) ∧
      (flag s (F.OBJ_CTRL_SEND_REQ p o) = true →
        (∀ src f, x.cur = some (src, f) → src ≠ .object o → flag t (F.OBJ_CTRL_SEND_REQ p o) = false ∧ t.ports = s.ports) ∧
        (∀ f, x.cur = some (.object o, f) → flag t (F.OBJ_CTRL_SEND_REQ p o) = true) ∧
        (x.cur = none → maySend s p = false ∨ (∀ f, chooseFrame s p ≠ some (.object o, f)) → flag t (F.OBJ_CTRL_SEND_REQ p o) = false ∧ t.ports = s.ports))) ∧
    -- pacing, diagnostics, the end of a claim
    (answers (.bamPacketSend p) s fun t => match x.tx with
      | none => keeps s t []
      | some r => if r.bam = true ∧ r.window = 0
        then keeps s t [.mtime, .ports] ∧ others t ∧ t.mtime = max s.mtime r.deadline ∧ portOf t p = { x with tx := some { r with window := 1 } }
        else keeps s t []) ∧
    (answers (.dm1Period p) s fun t =>
      if isoPort s p = true ∧ flag s (F.ISO_CFG_DM1_EN p) = true ∧ onBus s p = true then keeps s t [.mtime, .ports] ∧ others t ∧
        (portOf t p).prot = x.prot ++ [dmFrame s p 0xFECA (flag s F.HEALTH_CULLET)] ∧ (portOf t p).dm1Next = t.mtime + sec ∧
        (x.dm1Sent = dmState s → t.mtime = max s.mtime x.dm1Next) ∧ (x.dm1Sent ≠ dmState s → t.mtime = s.mtime)
      else keeps s t []) ∧
    (answers (.addressClaimTimeout p) s fun t => match x.claimEnd with
      | none => keeps s t []
      | some u => changesOnly s t [A.ISO_STAT p, A.STARTUP_STAT] [.mtime, .ports] ∧ others t ∧ t.mtime = max s.mtime u ∧
        portOf t p = { x with claimEnd := none } ∧ fget t (F.ISO_STAT_CLAIM p) = 2 ∧ fget t (F.ISO_STAT_ADDR p) = x.claimAddr % 256)

/-- FRAME_RECEIVED, STATE_REPORT, LATENCY_REPORT, FLEET_DIGEST_FRAME, ADDRESS_CLAIM_RECEIVED, REQUEST_FOR_ADDRESS_CLAIM, DM2_REQUEST, DM3_RECEIVED,
RECEIVE_CHECK_TIMEOUT (R306 to R312, R490 to R522, R572). What no format carries is no frame, and nothing is received (log entry 94). -/
def Obligations.PortsReceiveFrames : Prop :=
  ∀ (p : PortId) (f : CanFrame) (sof : Nat) (node chan a : Byte) (on late : Bool) (seq : BitVec 4) (time : BitVec 24) (lat : BitVec 16)
    (part : BitVec 3) (round : BitVec 5) (digest : BitVec 48) (name : BitVec 64) (i : Fin 160) (s : State), running s = true →
    let x := portOf s p
    let q := 91 + p.val
    let addr := portAddr s p
    let heard := onBus s p = true
    let iso := isoPort s p = true
    let others (t : State) : Prop := ∀ k, k ≠ p.val → portOf t k = portOf s k
    let objs (r : Nat → List Nat) : List Nat := (List.range 128).flatMap r
    let regs : List Nat := noteRegs ++ [A.BUS_SESSION, A.HEALTH, A.OWN_STAT, A.STARTUP_STAT, A.TM_STAT, A.ISO_STAT p, A.PORT_BOFFCNT p, A.PORT_ERR p,
        A.PORT_RXCNT p, A.PORT_STAT p, A.TP_CNT p, A.QDROP q, A.QHWM q, A.QPCNT q, A.QSTAT q] ++
      objs (fun o => [A.OBJ_CFG p o, A.OBJ_T_LO p o, A.OBJ_T_HI p o, A.OBJ_STAT p o] ++ (List.range 16).map (A.OBJ_DATA p o)) ++
      (List.range 428).flatMap (fun d => [A.REM_CTRL d, A.REM_LAT d])
    let received (t : State) : Prop := changesOnly s t regs [.mtime, .freeCtr, .own, .events, .fleet, .rems, .qs, .nav, .ports] ∧ others t ∧
      (∀ k, k ≠ q → queueOf t k = queueOf s k) ∧ fget t (F.PORT_RXCNT_GOOD p) = (fget s (F.PORT_RXCNT_GOOD p) + 1) % 65536 ∧
      (fget s (F.PORT_ERR_REC p) ≤ 127 → fget t (F.PORT_ERR_REC p) = fget s (F.PORT_ERR_REC p) - 1) ∧
      (127 < fget s (F.PORT_ERR_REC p) → 119 ≤ fget t (F.PORT_ERR_REC p) ∧ fget t (F.PORT_ERR_REC p) ≤ 127)
    let room (n : Nat) : Prop := (queueOf s q).held = none ∧ fget s (F.JAS_QBP_DUTY q) = 0 ∧ n ≤ freeRoom s q
    let item (t : State) (f : CanFrame) (filt : Nat) (bad : Bool) (u : Nat) : Prop :=
      let ws : List QWord := [BitVec.ofNat 64 (frameHeader f + 2 ^ 32 * filt + (if bad = true then 2 ^ 38 else 0)), BitVec.ofNat 64 u] ++
        (if f.fmt = 3 then [f.xl] else []) ++ packBytes f.data
      room ws.length → (queueOf t q).slots = (queueOf s q).slots ++ itemSlots ws
    let plain := isOwnGroup f = false ∧ ¬ iso ∧ flag s (F.PORT_CORR_ID_EN p) = false
    let fails (j : Nat) : Bool := checkFails (chkWord s p j) (rangeWord s p j) f.data
    let filtered (t : State) : Prop := fget t (F.PORT_RXCNT_FILTERED p) = min 0xFFFF (fget s (F.PORT_RXCNT_FILTERED p) + 1) ∧ t.qs = s.qs
    let named (d : Nat) : Prop := flag s (F.REM_DESC_VALID d) = true ∧ fget s (F.REM_DESC_PORT d) = p.val ∧ fget s (F.REM_DESC_ADDR d) = node.toNat ∧
      fget s (F.REM_DESC_CHANNEL d) = chan.toNat
    let frames : List Instr := [.frameReceived p f sof, .stateReport p node chan on late seq time, .latencyReport p node chan on seq lat,
      .fleetDigestFrame p node part round digest, .addressClaimReceived p a name, .requestForAddressClaim p node, .dm2Request p node, .dm3Received p node]
    let peer (k : Nat) : Prop := flag s (F.FLEET_PEER_EN k) = true ∧ fget s (F.FLEET_PEER_PORT k) = p.val ∧ fget s (F.FLEET_PEER_ADDR k) = node.toNat
    let own := fget s (F.ISO_STAT_CLAIM p)
    let free (a : Nat) : List Nat := (freeAddresses s p).filter (fun b => b != a)
    let contested := a.toNat = x.claimAddr ∧ a.toNat ≠ 0xFE ∧ (own = 1 ∨ own = 2)
    let trouble : Bool := decide (0 < fget s F.CULLET_HIST_ENTRIES)
    (frameOk f = false → answers (.frameReceived p f sof) s fun t => t = s) ∧
    (frameOk f = true → ¬ heard → ∀ j ∈ frames, answers j s fun t => keeps s t []) ∧
    (frameOk f = true → heard → ∀ j ∈ frames, answers j s fun t => received t ∧ t.mtime = if j = .frameReceived p f sof then max s.mtime sof else s.mtime) ∧
    -- streams and objects
    (frameOk f = true → heard → plain → flag s (F.PORT_CFG_MODE p) = false →
      (acceptFilter s p f = none → answers (.frameReceived p f sof) s fun t => filtered t) ∧
      (∀ k, acceptFilter s p f = some k → answers (.frameReceived p f sof) s fun t => item t f k (fails k) sof ∧
        fget t (F.PORT_RXCNT_FILTERED p) = fget s (F.PORT_RXCNT_FILTERED p))) ∧
    (frameOk f = true → heard → plain → flag s (F.PORT_CFG_MODE p) = true →
      (acceptObject s p f = none → answers (.frameReceived p f sof) s fun t => filtered t) ∧
      (∀ o, acceptObject s p f = some o → fails (32 + o) = false → answers (.frameReceived p f sof) s fun t =>
        fget t (F.OBJ_CFG_LEN p o) = f.data.length ∧ rd t (A.OBJ_T_LO p o) = loWord sof ∧ rd t (A.OBJ_T_HI p o) = hiWord sof ∧
        (objBytes t p o).take f.data.length = f.data ∧ flag t (F.OBJ_STAT_FRESH p o) = true ∧
        flag t (F.OBJ_STAT_OVERRUN p o) = (flag s (F.OBJ_STAT_OVERRUN p o) || flag s (F.OBJ_STAT_FRESH p o)) ∧ t.qs = s.qs) ∧
      (∀ o, acceptObject s p f = some o → fails (32 + o) = true → answers (.frameReceived p f sof) s fun t =>
        flag t (F.OBJ_STAT_CHECK p o) = true ∧ objBytes t p o = objBytes s p o ∧ t.qs = s.qs)) ∧
    -- register access, reports, digests
    (∀ r, frameOk f = true → heard → isOwnGroup f = true → ps f.id = addr → flag s (F.PORT_CFG_ACC_EN p) = true → accessRequest f = some r →
      answers (.frameReceived p f sof) s fun t => t.qs = s.qs ∧
        (x.acc.length < 4 → (portOf t p).acc = x.acc ++ [(sa f.id, r)]) ∧
        (4 ≤ x.acc.length → (portOf t p).acc = x.acc ∧ flag t (F.ISO_STAT_ACC_OVF p) = true)) ∧
    (∀ d < 428, heard → named d → answers (.stateReport p node chan on late seq time) s fun t =>
      flag t (F.REM_CTRL_ON d) = on ∧ flag t (F.REM_CTRL_STALE d) = false ∧ flag t (F.REM_CTRL_LATE_REP d) = (flag s (F.REM_CTRL_LATE_REP d) || late) ∧
      remArmed t d = remArmed s d ∧ remOf t d = { remOf s d with staleAt := some (s.mtime + 10 * ms * fget s (F.REM_CFG_TIMEOUT d)) } ∧
      ∀ k < 428, ¬ named k → remOf t k = remOf s k ∧ rd t (A.REM_CTRL k) = rd s (A.REM_CTRL k)) ∧
    (∀ d < 428, heard → named d → answers (.latencyReport p node chan on seq lat) s fun t =>
      let l := if on = true then F.REM_LAT_ON d else F.REM_LAT_OFF d
      let good := 200 ≤ lat.toNat ∧ lat.toNat ≤ 40000
      (good → fget t l = learn (fget s l) lat.toNat % 65536) ∧ (¬ good → fget t l = fget s l) ∧
      (∀ k < 428, ¬ named k → remOf t k = remOf s k ∧ rd t (A.REM_LAT k) = rd s (A.REM_LAT k))) ∧
    (heard → answers (.fleetDigestFrame p node part round digest) s fun t =>
      (∀ k < 16, ¬ peer k → peerOf t k = peerOf s k) ∧
      ∀ k < 16, peer k → part.toNat < 7 → (peerOf s k).parts = [] → (peerOf t k).parts = [(part.toNat, leBytes 6 digest.toNat)] ∧
        (peerOf t k).round = round.toNat ∧ (peerOf t k).started = s.mtime) ∧
    -- claims and diagnostics
    (heard → ¬ iso → ∀ j ∈ [Instr.addressClaimReceived p a name, .requestForAddressClaim p node, .dm2Request p node, .dm3Received p node],
      answers j s fun t => (portOf t p).prot = x.prot ∧ (portOf t p).names = x.names) ∧
    (heard → iso → answers (.addressClaimReceived p a name) s fun t =>
      (a.toNat ≠ 0xFE → tabFind (portOf t p).names a.toNat = some name.toNat) ∧
      (¬ contested → (portOf t p).prot = x.prot ∧ fget t (F.ISO_STAT_CLAIM p) = own) ∧
      (contested → isoName s p ≤ name.toNat → (portOf t p).prot = x.prot ++ [claimFrame s p a.toNat] ∧ fget t (F.ISO_STAT_CLAIM p) = own) ∧
      (contested → name.toNat < isoName s p → isoName s p / 2 ^ 63 % 2 = 1 → ∀ b, (free a.toNat).head? = some b → flag t (F.ISO_STAT_LOST p) = true ∧
        fget t (F.ISO_STAT_CLAIM p) = 1 ∧ (portOf t p).claimAddr = b ∧ (portOf t p).claimEnd = some (s.mtime + 250 * ms) ∧
        (portOf t p).prot = x.prot ++ [claimFrame s p b]) ∧
      (contested → name.toNat < isoName s p → isoName s p / 2 ^ 63 % 2 = 0 ∨ free a.toNat = [] → flag t (F.ISO_STAT_LOST p) = true ∧ fget t (F.ISO_STAT_CLAIM p) = 3 ∧
        fget t (F.ISO_STAT_ADDR p) = 0xFE ∧ (portOf t p).prot = x.prot ++ [claimFrame s p 0xFE])) ∧
    (heard → iso → own ≠ 0 → answers (.requestForAddressClaim p node) s fun t =>
      (portOf t p).prot = x.prot ++ [claimFrame s p (if own = 3 then 0xFE else x.claimAddr)]) ∧
    (heard → iso → answers (.dm2Request p node) s fun t => (portOf t p).prot = x.prot ++ [dmFrame s p 0xFECB trouble]) ∧
    (heard → iso → answers (.dm3Received p node) s fun t => (portOf t p).prot =
      x.prot ++ [extFrame (0x18E8FF00 + addr) [0, 0xFF, 0xFF, 0xFF, node, 0xCC, 0xFE, 0]] ∧ fget t F.CULLET_HIST_ENTRIES = fget s F.CULLET_HIST_ENTRIES) ∧
    -- receive checks
    (let timeout := bitsOf (chkWord s p i) 15 0
     let watched := if i.val < 32 then flag s (F.SF_ID_EN p i) = true ∧ flag s (F.PORT_CFG_MODE p) = false
       else flag s (F.OBJ_ID_EN p (i.val - 32)) = true ∧ flag s (F.OBJ_CFG_DIR p (i.val - 32)) = false ∧ flag s (F.PORT_CFG_MODE p) = true
     let due := timeout ≠ 0 ∧ watched ∧ i.val ∉ x.timedOut ∧ busState s p ≠ 0
     (¬ due → answers (.receiveCheckTimeout p i) s fun t => keeps s t []) ∧
     (due → answers (.receiveCheckTimeout p i) s fun t =>
       changesOnly s t ([A.QDROP q, A.QHWM q, A.QPCNT q, A.QSTAT q] ++ noteRegs ++ (List.range 128).map (A.OBJ_STAT p)) [.mtime, .freeCtr, .events, .qs, .ports] ∧
       others t ∧ t.mtime = max s.mtime ((tabFind x.lastGood i).getD x.openAt + ms * timeout) ∧ portOf t p = { x with timedOut := i.val :: x.timedOut } ∧
       (i.val < 32 → room 2 → ∃ v < 2 ^ 30, (queueOf t q).slots = (queueOf s q).slots ++
         itemSlots [BitVec.ofNat 64 (v + 2 ^ 32 * i.val + 2 ^ 39), BitVec.ofNat 64 t.mtime]) ∧
       (32 ≤ i.val → t.qs = s.qs ∧ flag t (F.OBJ_STAT_TIMEOUT p (i.val - 32)) = true)))

/-- TP_RTS_RECEIVED, TP_BAM_RECEIVED, TP_DATA_RECEIVED, TP_CTS_RECEIVED, TP_ABORT_RECEIVED, TP_END_OF_MESSAGE_ACK, TP_TIMEOUT (R513 to R515). The
frame layouts are ISO 11783-3's (log entry 19). -/
def Obligations.TransportSessionsRun : Prop :=
  ∀ (p : PortId) (src seq most n reason : Byte) (etp bam : Bool) (total : Word) (short : BitVec 16) (next pgn : BitVec 24) (d : BitVec 56) (s : State),
    running s = true → onBus s p = true → isoPort s p = true →
    let x := portOf s p
    let q := 91 + p.val
    let others (t : State) : Prop := ∀ k, k ≠ p.val → portOf t k = portOf s k
    let regs : List Nat := noteRegs ++ [A.TM_STAT, A.PORT_BOFFCNT p, A.PORT_ERR p, A.PORT_RXCNT p, A.PORT_STAT p, A.TP_CNT p, A.QDROP q, A.QHWM q, A.QPCNT q, A.QSTAT q]
    let parts (t : State) : Prop := changesOnly s t regs [.freeCtr, .events, .qs, .ports] ∧ others t ∧ (∀ k, k ≠ q → queueOf t k = queueOf s k)
    let heard (t : State) : Prop := parts t ∧ fget t (F.PORT_RXCNT_GOOD p) = (fget s (F.PORT_RXCNT_GOOD p) + 1) % 65536 ∧
      fget t (F.PORT_RXCNT_FILTERED p) = fget s (F.PORT_RXCNT_FILTERED p)
    let len := if etp = true then total.toNat else total.toNat % 65536
    let prio := 7
    let sends (t : State) (f : CanFrame) : Prop := (portOf t p).prot = x.prot ++ [f]
    let quiet (t : State) : Prop := (portOf t p).prot = x.prot ∧ (portOf t p).rx = x.rx
    let aborted (t : State) : Prop := fget t (F.TP_CNT_ABORT p) = min 0xFFFF (fget s (F.TP_CNT_ABORT p) + 1) ∧ fget t (F.TP_CNT_DONE p) = fget s (F.TP_CNT_DONE p)
    let ended (t : State) : Prop := fget t (F.TP_CNT_DONE p) = (fget s (F.TP_CNT_DONE p) + 1) % 65536 ∧ fget t (F.TP_CNT_ABORT p) = fget s (F.TP_CNT_ABORT p)
    let without (b e : Bool) : List RxSession := x.rx.filter (fun r => !isRx src.toNat b e r)
    let ask := min 16 (if etp = true then 255 else most.toNat)
    (let old := findRx s p src.toNat false etp
     (old = none ∧ x.rx.length < 8) ∨ (old ≠ none ∧ x.rx.length ≤ 8) → answers (.tpRtsReceived p src etp total most pgn) s fun t => heard t ∧
      (old = none → fget t (F.TP_CNT_ABORT p) = fget s (F.TP_CNT_ABORT p) ∧ t.qs = s.qs) ∧ (old ≠ none → aborted t) ∧
      (∃ r, (portOf t p).rx = without false etp ++ [r] ∧ r.src = src.toNat ∧ r.bam = false ∧ r.etp = etp ∧ r.pgn = pgn.toNat ∧ r.prio = prio ∧ r.total = len ∧
        r.taken = 0 ∧ r.buf = [] ∧ r.maxPk = ask) ∧ ∃ f, sends t f ∧ f.data.getD 0 0 = (if etp = true then 0x15 else 0x11) ∧
        f.data.getD 1 0 = BitVec.ofNat 8 (min ask ((len + 6) / 7))) ∧
    (findRx s p src.toNat false etp = none → 8 ≤ x.rx.length → answers (.tpRtsReceived p src etp total most pgn) s fun t => heard t ∧
      (portOf t p).rx = x.rx ∧ sends t (abortFrame s p etp src.toNat 2 pgn.toNat)) ∧
    (let old := findRx s p src.toNat true false
     (old = none ∧ x.rx.length < 8) ∨ (old ≠ none ∧ x.rx.length ≤ 8) → answers (.tpBamReceived p src short pgn) s fun t => heard t ∧ (old ≠ none → aborted t) ∧
      (portOf t p).prot = x.prot ∧ ∃ r, (portOf t p).rx = without true false ++ [r] ∧ r.src = src.toNat ∧ r.bam = true ∧ r.pgn = pgn.toNat ∧ r.total = short.toNat ∧ r.buf = []) ∧
    (findRx s p src.toNat true false = none → 8 ≤ x.rx.length → answers (.tpBamReceived p src short pgn) s fun t => heard t ∧ quiet t ∧
      (portOf t p).bamIgnored = x.bamIgnored + 1) ∧
    (let dest := if bam = true then 255 else portAddr s p
     let takes := dest = 255 ↔ bam = true
     (takes → findRx s p src.toNat bam etp = none → answers (.tpDataReceived p src seq bam etp d) s fun t => heard t ∧ quiet t ∧ t.qs = s.qs) ∧
     (∀ r, findRx s p src.toNat bam etp = some r → takes → r.window = 0 → answers (.tpDataReceived p src seq bam etp d) s fun t => heard t ∧ quiet t ∧ t.qs = s.qs) ∧
     (∀ r, findRx s p src.toNat bam etp = some r → takes → r.window ≠ 0 → seq.toNat ≠ r.taken / 7 - r.base + 1 →
       answers (.tpDataReceived p src seq bam etp d) s fun t => heard t ∧ (portOf t p).rx = without bam etp ∧ aborted t ∧ (r.parts = 0 → t.qs = s.qs) ∧
         if bam = true then (portOf t p).prot = x.prot else sends t (abortFrame s p etp src.toNat 7 r.pgn)) ∧
     (∀ r, findRx s p src.toNat bam etp = some r → takes → r.window ≠ 0 → seq.toNat = r.taken / 7 - r.base + 1 → r.taken + 7 < r.total →
       let buf := r.buf ++ leBytes 7 d.toNat
       let full := 1000 < r.total ∧ 1000 ≤ buf.length
       let u : RxSession := { r with taken := r.taken + 7, buf := if full then buf.drop 1000 else buf, parts := if full then r.parts + 1 else r.parts, window := r.window - 1 }
       buf.length < 2000 → answers (.tpDataReceived p src seq bam etp d) s fun t => heard t ∧
         fget t (F.TP_CNT_ABORT p) = fget s (F.TP_CNT_ABORT p) ∧ fget t (F.TP_CNT_DONE p) = fget s (F.TP_CNT_DONE p) ∧
         (r.window ≠ 1 ∨ bam = true → (portOf t p).prot = x.prot ∧ (portOf t p).rx = x.rx.map (fun v => if isRx src.toNat bam etp v = true then u else v)) ∧
         (r.window = 1 → bam = false → ∃ f, sends t f ∧ f.data.getD 0 0 = (if etp = true then 0x15 else 0x11) ∧
           f.data.getD 1 0 = BitVec.ofNat 8 (min r.maxPk ((r.total + 6) / 7 - u.taken / 7))) ∧
         (¬ full → t.qs = s.qs) ∧
         (full → (queueOf s q).held = none → fget s (F.JAS_QBP_DUTY q) = 0 → 127 ≤ freeRoom s q →
           ((queueOf t q).slots.drop ((queueOf s q).slots.length + 2)).map (·.data) = packBytes (buf.take 1000))) ∧
     (∀ r, findRx s p src.toNat bam etp = some r → takes → r.window ≠ 0 → seq.toNat = r.taken / 7 - r.base + 1 → r.total ≤ 1000 →
       r.taken < r.total → r.total ≤ r.taken + 7 → answers (.tpDataReceived p src seq bam etp d) s fun t => heard t ∧ (portOf t p).rx = without bam etp ∧ ended t ∧
         (bam = true → (portOf t p).prot = x.prot) ∧ (bam = false → ∃ f, sends t f ∧ f.data.getD 0 0 = (if etp = true then 0x17 else 0x13)) ∧
         ((queueOf s q).held = none → fget s (F.JAS_QBP_DUTY q) = 0 → 2 + (r.buf.length + 14) / 8 ≤ freeRoom s q →
           ((queueOf t q).slots.drop ((queueOf s q).slots.length + 2)).map (·.data) = packBytes (r.buf ++ (leBytes 7 d.toNat).take (r.total - r.taken))))) ∧
    (∀ r, txWith s p src.toNat etp = some r →
      let off := 7 * ((if etp = true then next.toNat else next.toNat % 256) - 1)
      let able := n ≠ 0 ∧ off ≤ r.sent ∧ r.sent - off ≤ r.back.length
      (able → answers (.tpCtsReceived p src etp n next pgn) s fun t => heard t ∧ (portOf t p).rx = x.rx ∧ t.qs = s.qs ∧
        (portOf t p).tx = some { r with sent := off, window := n.toNat, base := off / 7, buf := r.back.drop (r.back.length - (r.sent - off)) ++ r.buf, back := [] } ∧
        (etp = false → (portOf t p).prot = x.prot) ∧ (etp = true → ∃ f, sends t f ∧ f.data.take 2 = [0x16, n])) ∧
      (¬ able → answers (.tpCtsReceived p src etp n next pgn) s fun t => heard t ∧ quiet t ∧ (portOf t p).tx = x.tx ∧ t.qs = s.qs)) ∧
    (txWith s p src.toNat etp = none → answers (.tpCtsReceived p src etp n next pgn) s fun t => heard t ∧ quiet t ∧ (portOf t p).tx = x.tx ∧ t.qs = s.qs) ∧
    (∀ r, findRx s p src.toNat false etp = some r → txWith s p src.toNat etp = none → answers (.tpAbortReceived p src etp reason pgn) s fun t => heard t ∧
      (portOf t p).rx = without false etp ∧ (portOf t p).prot = x.prot ∧ aborted t) ∧
    (∀ r, txWith s p src.toNat etp = some r → findRx s p src.toNat false etp = none → answers (.tpAbortReceived p src etp reason pgn) s fun t => heard t ∧
      (portOf t p).tx = none ∧ (portOf t p).swallow = !r.last ∧ (portOf t p).rx = x.rx ∧ aborted t) ∧
    (∀ r, txWith s p src.toNat etp = some r → findRx s p src.toNat false etp ≠ none → answers (.tpAbortReceived p src etp reason pgn) s fun t => heard t ∧
      (portOf t p).tx = none ∧ (portOf t p).swallow = !r.last ∧ (portOf t p).rx = without false etp ∧
      fget t (F.TP_CNT_ABORT p) = min 0xFFFF (fget s (F.TP_CNT_ABORT p) + 2)) ∧
    (findRx s p src.toNat false etp = none → txWith s p src.toNat etp = none → answers (.tpAbortReceived p src etp reason pgn) s fun t => heard t ∧
      quiet t ∧ (portOf t p).tx = x.tx ∧ t.qs = s.qs) ∧
    (∀ r, txWith s p src.toNat etp = some r → answers (.tpEndOfMessageAck p src etp total pgn) s fun t => heard t ∧ (portOf t p).tx = none ∧
      (portOf t p).rx = x.rx ∧ ended t ∧ t.qs = s.qs) ∧
    (txWith s p src.toNat etp = none → answers (.tpEndOfMessageAck p src etp total pgn) s fun t => heard t ∧ quiet t ∧ (portOf t p).tx = x.tx ∧ t.qs = s.qs) ∧
    (∀ r, findRx s p src.toNat bam etp = some r → answers (.tpTimeout p (some (src.toNat, bam, etp))) s fun t => parts t ∧ aborted t ∧
      (portOf t p).rx = without bam etp ∧ (portOf t p).tx = x.tx ∧
      if bam = true then (portOf t p).prot = x.prot else sends t (abortFrame s p etp src.toNat 3 r.pgn)) ∧
    (∀ r, x.tx = some r → answers (.tpTimeout p none) s fun t => parts t ∧ aborted t ∧ (portOf t p).tx = none ∧ (portOf t p).swallow = !r.last ∧
      (portOf t p).rx = x.rx ∧ if r.bam = true then (portOf t p).prot = x.prot else sends t (abortFrame s p r.etp (ps r.id) 3 (pgnOf r.id))) ∧
    (findRx s p src.toNat bam etp = none → answers (.tpTimeout p (some (src.toNat, bam, etp))) s fun t => keeps s t []) ∧
    (x.tx = none → answers (.tpTimeout p none) s fun t => keeps s t [])

/-- GAFFER_ID, GAFFER_RD, GAFFER_RD_BURST, GAFFER_WR, GAFFER_KEY, GAFFER_OWN, GAFFER_OWN_CLAIM, GAFFER_OWN_SEIZE, GAFFER_OWN_ACCEPT, GAFFER_OWN_HB,
GAFFER_OWN_RELEASE, GAFFER_OWN_AUTO_ON, GAFFER_OWN_AUTO_OFF, AUTO_HEARTBEAT, GAFFER_LOG, GAFFER_LOG_CLEAR, GAFFER_METER_READ, GAFFER_SNAP_READ,
GAFFER_JAS, USB_DTR_CHANGE, GAFFER_LINE_REFUSED (R594 to R599, R605). The rounding of times left is log entry 8, `meter` without a check log
entry 23. -/
def Obligations.GafferLinesReadAndCommand : Prop :=
  ∀ (a : BitVec 24) (n : Fin 255) (sev : Fin 8) (cnt : Fin 65536) (data : Word) (isOpen : Bool) (f : LineFault) (s : State), reachable s →
    let m : Master := .gaffer
    let key : BitVec 16 := 0xB7E1
    let tells (i : Instr) (r : Reply) : Prop := answers i s fun t => keeps s t [.reply, .unlock] ∧ onlyUnlockOf s t m ∧ t.reply = r
    let ok (t : State) (ws : List Word) (regs : List Nat) (parts : List Part) : Prop :=
      t.reply = .okValue .ok ws ∧ keepsRegs s t regs ∧ keeps s t ([.regs, .reply, .unlock] ++ parts) ∧ onlyUnlockOf s t m
    let owner := ownerCode s = 3
    let busy := s.svc.op ≠ .none ∨ s.svc.testEnd.isSome = true
    let timeout : Nat := sec * fget s F.OWN_CFG_HB_TIMEOUT
    let stat : List Nat := A.OWN_STAT :: noteRegs
    let gain : List Nat := A.STARTUP_STAT :: stat
    let gains (t : State) : Prop := ownerCode t = 3 ∧ handoverPending t = false ∧ fget t F.OWN_STAT_TARGET = 0 ∧ electionOpen t = false ∧
      t.own.hbDeadline = s.mtime + timeout
    -- readings
    tells .gafferId (.identity Config.serial.toNat (optNow s) s.sup.pcc (phase s) (if flag s F.HEALTH_CULLET = true then 1 else 0) (ownerCode s)) ∧
    (∃ hb, tells .gafferOwn (.ownership (ownerCode s) (fget s F.OWN_STAT_HANDOVER_PEND) (fget s F.OWN_STAT_TARGET) hb)) ∧
    (∃ rs, tells (.gafferLog sev cnt) (.records rs (crc32c (rs.flatMap recordBytes))) ∧
      let present := s.agate.store.filter (fun r => decide (sev.val ≤ r.entry.ev.sev))
      rs <:+ present ∧ rs.length = min (cnt.val + 1) present.length) ∧
    (∃ x left, tells .gafferJas (.perturbations x left) ∧ (x.testBit 2 = true ↔ fget s F.JAS_SCHED_RATE ≠ 0) ∧
      (x.testBit 5 = true ↔ fget s F.JAS_NAV_DELAY ≠ 0) ∧ (x.testBit 6 = true ↔ fget s F.JAS_ONYX_ADD ≠ 0) ∧
      (x.testBit 7 = true ↔ fget s F.JAS_TAP_OFFSET ≠ 0) ∧ (x.testBit 0 = true ↔ ∃ q < 128, fget s (F.JAS_QBP_DUTY q) ≠ 0)) ∧
    (∀ p, plainPlace s a.toNat p → tells (.gafferRd a) (.okValue .ok [rd s a.toNat])) ∧
    (a.toNat % 4 ≠ 0 → answers (.gafferRd a) s fun t => refuses s t m .align) ∧
    ((∀ k ≤ n.val + 1, ∃ p, plainPlace s (a.toNat + 4 * k) p) →
      let ws := (List.range (n.val + 2)).map (fun k => (a.toNat + 4 * k, rd s (a.toNat + 4 * k)))
      tells (.gafferRdBurst a n) (.burst ws (crc32c (ws.flatMap (fun w => wordLe w.2))) .ok)) ∧
    (a.toNat % 4 ≠ 0 → answers (.gafferRdBurst a n) s fun t => t.reply = .burst [] 0 .align ∧ keepsRegs s t (errorRegs m) ∧
      keeps s t [.regs, .reply, .unlock, .events]) ∧
    (busy → tells .gafferMeterRead .busy ∧ tells .gafferSnapRead .busy) ∧
    (¬ busy → tells .gafferMeterRead (if s.svc.meterEnd = none then .okValue .state []
      else if fget s F.SVC_METER_CHECK = 10 then .okValue .ok []
      else .meter (fgetS s F.SVC_METER_VAL_MV) (flag s F.SVC_METER_VAL_FED) (flag s F.SVC_METER_VAL_LINE)
        (if fget s F.SVC_METER_CHECK = 6 then fget s (F.FB_THR_THR (fget s F.SVC_METER_TARGET)) else 0))) ∧
    (¬ busy → flag s F.SNAP_STAT_CAP_BUSY = true → tells .gafferSnapRead (.okValue .state [])) ∧
    (¬ busy → flag s F.SNAP_STAT_CAP_BUSY = false → ∃ b, tells .gafferSnapRead (.snapshot b (crc32c b)) ∧
      b.length = fget s F.SNAP_STAT_BYTES ∧ ∀ k < b.length, b.getD k 0 = snapByte s k) ∧
    tells (.gafferLineRefused f) (match f with | .syntaxErr => .syntaxErr | .long => .long | .overflow => .overflow | .usb => .usb) ∧
    -- writes
    (∀ p, writable s m a.toNat p data false → a.toNat < 0x800000 → answers (.gafferWr a data) s fun t => ok t [] [a.toNat] [] ∧
      rd t a.toNat = writtenWord p.hit.fam.fields (rd s a.toNat) data) ∧
    (∀ p, writable s m a.toNat p data true → a.toNat < 0x800000 → answers (.gafferKey key a data) s fun t => ok t [] [a.toNat] [] ∧
      unlockOf t m = .no ∧ rd t a.toNat = writtenWord p.hit.fam.fields (rd s a.toNat) data) ∧
    (∀ k : BitVec 16, k ≠ key → answers (.gafferKey k a data) s fun t => refuses s t m .key ∧ unlockOf t m = .no) ∧
    -- ownership
    (s.svc.meterEnd = none →
      (claimRefused s 3 = false → (electionOpen s = false ∨ s.own.order.head? = some 3) → answers (.gafferOwnClaim key) s fun t =>
        ok t [3] gain [.own, .start, .events] ∧ gains t) ∧
      (claimRefused s 3 = false → electionOpen s = true → s.own.order.head? ≠ some 3 → answers (.gafferOwnClaim key) s fun t =>
        ok t [0] [] [.own] ∧ 3 ∈ t.own.claims ∧ t.own = { s.own with claims := t.own.claims }) ∧
      (claimRefused s 3 = true → answers (.gafferOwnClaim key) s fun t => refuses s t m .state) ∧
      (seizeRefused s = false → ¬ owner → answers (.gafferOwnSeize key) s fun t =>
        ok t [3] gain [.own, .start, .events] ∧ gains t ∧ flag t F.OWN_STAT_SEIZED = true) ∧
      (seizeRefused s = false → owner → answers (.gafferOwnSeize key) s fun t => ok t [3] [] []) ∧
      (seizeRefused s = true → answers (.gafferOwnSeize key) s fun t => refuses s t m .state) ∧
      (acceptRefused s 3 = false → answers .gafferOwnAccept s fun t => ok t [] gain [.own, .start, .events] ∧ gains t) ∧
      (acceptRefused s 3 = true → answers .gafferOwnAccept s fun t => refuses s t m .state) ∧
      (owner → answers (.gafferOwnRelease key) s fun t => ok t [0] stat [.own, .events] ∧ ownerCode t = 0 ∧ handoverPending t = false)) ∧
    (owner → answers .gafferOwnHb s fun t => ok t [] [] [.own] ∧ t.own = { s.own with hbDeadline := s.mtime + timeout }) ∧
    (¬ owner → answers .gafferOwnHb s fun t => refuses s t m .owner) ∧
    (owner → anyArmed s = false → answers (.gafferLogClear key) s fun t =>
      ok t [] ([A.AGATE_CLR_SEQ_LO, A.AGATE_CLR_SEQ_HI, A.AGATE_RD_STAT] ++ noteRegs) [.records, .reader] ∧ t.agate.nextSeq = s.agate.nextSeq + 1 ∧
      ∃ r, t.agate.store = [r] ∧ r.seq = s.agate.nextSeq ∧ r.entry.ev.kind = .storeCleared) ∧
    (owner → anyArmed s = true → answers (.gafferLogClear key) s fun t => refuses s t m .state) ∧
    -- the automatic heartbeat
    (let may := decide owner && flag s F.SVC_STAT_USB_OPEN
     let auto (i : Instr) (o : Own) : Prop := answers i s fun t => keeps s t [.own] ∧ t.own = o
     (answers .gafferOwnAutoOn s fun t => ok t [] [] [.own] ∧ t.own = { s.own with autoHb := may, autoNext := s.mtime + sec }) ∧
     (answers .gafferOwnAutoOff s fun t => ok t [] [] [.own] ∧ t.own = { s.own with autoHb := false }) ∧
     (s.own.autoHb = false → auto .autoHeartbeat s.own) ∧
     (s.own.autoHb = true → may = false → auto .autoHeartbeat { s.own with autoHb := false }) ∧
     (s.own.autoHb = true → may = true → answers .autoHeartbeat s fun t => keeps s t [.own, .mtime] ∧ t.mtime = max s.mtime s.own.autoNext ∧
       t.own = { s.own with hbDeadline := t.mtime + timeout, autoNext := s.own.autoNext + sec })) ∧
    (answers (.usbDtrChange isOpen) s fun t => changesOnly s t [A.SVC_STAT] [.own] ∧ flag t F.SVC_STAT_USB_OPEN = isOpen ∧
      t.own = if isOpen = true then s.own else { s.own with autoHb := false })

/-- GAFFER_METER_CHECK, SVC_METER_WRITE, GAFFER_METER_OFF, METER_CHECK_TIMEOUT, METER_MEASUREMENT, GAFFER_SELFTEST, SVC_TEST_GO,
SELFTEST_ON_DEMAND_DONE, GAFFER_SNAP_CAP, GAFFER_SNAP_SOLVE, JASPER_ENABLE_WRITE, JAS_REFRESH, JAS_OFF, GAFFER_JAS_REFRESH, GAFFER_JAS_OFF,
JASPER_EXPIRY, ECC_INJECT, BUS_ONESHOT (R601 to R609). That jas refresh and jas off carry the key is log entry 24. -/
def Obligations.ChecksTestsSnapshotsAndJasper : Prop :=
  ∀ (m : Master) (k : Fin 10) (target : Fin 128) (unit : Fin 9) (p : PortId) (mv : BitVec 16) (test : DemandTest) (len chains : Fin 16)
    (r : JasReg) (data : Word) (okBit double : Bool) (armKey : BitVec 16) (bit every : Byte) (s : State), reachable s →
    let key : BitVec 16 := 0xB7E1
    let gaffer := ownerCode s = 3
    let idle := s.svc.op = .none ∧ s.svc.testEnd = none
    let does (t : State) (r : Reply) (regs : List Nat) (parts : List Part) : Prop :=
      t.reply = r ∧ keepsRegs s t regs ∧ keeps s t ([.regs, .reply, .unlock] ++ parts) ∧ onlyUnlockOf s t .gaffer
    let stops (i : Instr) (e : Err) : Prop := answers i s fun t => refuses s t .gaffer e
    let c := k.val + 1
    let n := target.val
    let meter : List Nat := [A.SVC_METER, A.SVC_STAT, A.SVC_METER_VAL]
    let off (t : State) : Prop := t.svc.meterEnd = none ∧ flag t F.SVC_STAT_METER_ACTIVE = false ∧ fget t F.SVC_METER_CHECK = 0
    let inRange : Prop := n < meterTargets c
    let probe : Option Nat := if c = 4 then some n else if c = 5 then some (64 + n) else if c = 9 then some (76 + n / 2) else none
    let barred : Prop := (match probe with | some o => armed s o = true | none => anyArmed s = true) ∨
      (bench s = true ∧ (c = 2 ∨ c = 3 ∨ (c = 8 ∧ flag s (F.PT_CFG_LEVEL n) = true)))
    let started (t : State) : Prop := t.svc.meterEnd = some (s.mtime + 600 * sec) ∧ flag t F.SVC_STAT_METER_ACTIVE = true ∧
      fget t F.SVC_METER_CHECK = c ∧ fget t F.SVC_METER_TARGET = n ∧
      (c = 1 → flag t F.FB_GLOBAL_SNS5_EN = true) ∧
      (c = 2 → flag t F.FB_GLOBAL_SNS_PWR_EN = true ∧ flag t F.FB_GLOBAL_SNS_PWR_12V = true) ∧
      (c = 4 → t.svc.meterHeld = some n) ∧ (c = 5 → t.svc.meterHeld = some (64 + n)) ∧ (c ≠ 4 → c ≠ 5 → t.svc.meterHeld = none) ∧
      (c = 6 → flag t (F.FB_CFG_PULLUP n) = true) ∧
      (c = 8 → fget t (F.PT_CFG_SRC n) = 0 ∧ flag t (F.PT_CFG_LEVEL n) = false ∧ flag t (F.PT_CFG_INVERT n) = true) ∧
      (c = 10 → flag t (F.PORT_CFG_TERM n) = true ∧ flag t (F.PORT_CTRL_INIT n) = true)
    let sets : List Nat := match c with
      | 1 => [A.FB_GLOBAL]
      | 6 => [A.FB_CFG n]
      | 8 => [A.PT_CFG n]
      | _ => []
    let plain := c ∉ [2, 4, 5, 10]
    let go := .gafferSelftest unit p
    let tested : Prop := testRefused s unit.val p.val = false
    let runs (t : State) : Prop := flag t F.SVC_STAT_TEST_BUSY = true ∧ flag t F.SVC_TEST_BUSY = true ∧ fget t F.SVC_TEST_UNIT = unit.val ∧
      fget t F.SVC_TEST_PORT = p.val ∧ t.svc.testEnd.isSome = true ∧ (unit.val ≠ 0 → t.svc.testAll = [unit.val]) ∧
      (unit.val = 0 → ∀ u ∈ t.svc.testAll, 1 ≤ u ∧ u ≤ 8 ∧ testRefused s u p.val = false)
    let bad : List (Nat × Nat) := testFailures s.svc.testAll (fget s F.SVC_TEST_PORT) test
    let later (f : Fld) : List Fld := if f ∈ s.acc.queued then s.acc.queued else s.acc.queued ++ [f]
    let addr := jasAddr r
    let minute := some (s.mtime + 60 * sec)
    let value : Nat := match r with | .qbp _ => data.toNat % 512 | .tap => data.toNat % 64 | _ => data.toNat % 256
    let small : Prop := match r with | .qbp _ => data.toNat % 512 ≤ 256 | .bus _ => data.toNat < 2 ^ 31 | _ => True
    let spared : Prop := (match r with | .qbp _ => True | .qdly _ => True | _ => False) ∧ flag s F.JAS_CTRL_ARMED_OK = true
    let ended (t : State) : Prop := (∀ f ∈ jasperFields, fget t f = 0) ∧ t.svc = { s.svc with jasEnd := none, oneshot := [] } ∧ perturbed t = false
    let jas : List Nat := jasperFields.map (·.reg) ++ [A.JAS_CTRL] ++ noteRegs
    let refreshed (t : State) : Prop := t.svc = { s.svc with jasEnd := if s.svc.jasEnd = none then none else minute }
    -- meter checks
    (idle → ¬ inRange → answers (.gafferMeterCheck k target) s fun t => does t .syntaxErr [] []) ∧
    (idle → inRange → ¬ gaffer → stops (.gafferMeterCheck k target) .owner) ∧
    (idle → inRange → gaffer → barred → stops (.gafferMeterCheck k target) .state) ∧
    (idle → inRange → gaffer → ¬ barred →
      (answers (.gafferMeterCheck k target) s fun t => started t ∧ t.reply = (if c = 10 then .okValue .ok [] else .none) ∧
        t.svc.op = (if c = 10 then .none else .meter) ∧
        (s.svc.meterEnd = none → plain → does t .none ([A.SVC_METER, A.SVC_STAT] ++ sets) [.svc] ∧
          answers .meterCheckTimeout t fun u => off u ∧ keepsRegs s u meter ∧ keeps s u [.regs, .reply, .unlock, .svc, .mtime])) ∧
      (answers (.svcMeterWrite .gaffer (BitVec.ofNat 32 (256 * n + c))) s fun t => started t ∧ t.svc.op = .none ∧
        (s.svc.meterEnd = none → plain → accepts s t .gaffer ([A.SVC_METER, A.SVC_STAT] ++ sets) [.svc]))) ∧
    (mayCommand s m → m ≠ .gaffer → inRange → answers (.svcMeterWrite m (BitVec.ofNat 32 (256 * n + c))) s fun t => refuses s t m .state) ∧
    (idle → gaffer → s.svc.meterEnd = none → answers .gafferMeterOff s fun t => does t (.okValue .ok []) [] []) ∧
    (let settings := s.svc.meterSave.map (·.1)
     let calm := s.svc.meterHeld = none ∧ fget s F.SVC_METER_CHECK ∉ [2, 10] ∧ settings.Nodup ∧ ∀ a ∈ settings, a ∉ meter
     let back (t : State) : Prop := off t ∧ ∀ q ∈ s.svc.meterSave, rd t q.1 = q.2
     (idle → gaffer → s.svc.meterEnd ≠ none → calm → answers .gafferMeterOff s fun t => does t (.okValue .ok []) (meter ++ settings) [.svc] ∧ back t) ∧
     (∀ e, s.svc.meterEnd = some e → calm → answers .meterCheckTimeout s fun t => changesOnly s t (meter ++ settings) [.mtime, .svc] ∧
       t.mtime = max s.mtime e ∧ back t)) ∧
    (s.svc.meterEnd = none → answers .meterCheckTimeout s fun t => keeps s t []) ∧
    (s.svc.meterEnd ≠ none → answers (.meterMeasurement mv) s fun t =>
      let x := fget s F.SVC_METER_CHECK
      let thr := if x = 6 then fget s (F.FB_THR_THR (fget s F.SVC_METER_TARGET)) else 0
      changesOnly s t [A.SVC_METER_VAL] [.svc, .reply] ∧ fgetS t F.SVC_METER_VAL_MV = (if x = 10 then 0 else mv.toInt) ∧
      flag t F.SVC_METER_VAL_FED = decide (6000 < mv.toInt ∧ x ≠ 10) ∧
      flag t F.SVC_METER_VAL_LINE = decide (x = 6 ∧ flag s (F.FB_STAT_LINE (fget s F.SVC_METER_TARGET)) = true) ∧
      (s.svc.op ≠ .meter → t.svc = s.svc ∧ t.reply = s.reply) ∧
      (s.svc.op = .meter → t.svc = { s.svc with op := .none } ∧
        (x ≠ 10 → t.reply = .meter mv.toInt (flag t F.SVC_METER_VAL_FED) (flag t F.SVC_METER_VAL_LINE) thr))) ∧
    -- self-tests
    (idle → ¬ gaffer → stops go .owner) ∧
    (idle → gaffer → ¬ tested → answers go s fun t => does t (.okValue .state []) (A.SVC_TEST :: errorRegs .gaffer) [.events] ∧
      fget t F.SVC_TEST_RESULT = 3) ∧
    (idle → gaffer → tested → answers go s fun t => does t .none [A.SVC_TEST, A.SVC_STAT] [.svc] ∧ runs t ∧ t.svc.op = .test) ∧
    (s.svc.testEnd = none → mayCommand s m → answers (.svcTestGo m ⟨unit.val, by omega⟩ ⟨p.val, by omega⟩) s fun t =>
      if m = .gaffer ∧ tested then accepts s t m [A.SVC_TEST, A.SVC_STAT] [.svc] ∧ runs t ∧ t.svc.op = s.svc.op else refuses s t m .state) ∧
    (s.svc.testEnd ≠ none → mayCommand s m → answers (.svcTestGo m ⟨unit.val, by omega⟩ ⟨p.val, by omega⟩) s fun t =>
      if m = .gaffer ∧ tested then accepts s t m [A.SVC_TEST] [.access] ∧ t.acc.queued = later F.SVC_TEST_GO else refuses s t m .state) ∧
    (s.svc.testEnd = none → answers (.selftestOnDemandDone test) s fun t => keeps s t []) ∧
    (s.svc.testEnd ≠ none → (∀ u ∈ s.svc.testAll, 2 ≤ u ∧ u ≤ 6) → answers (.selftestOnDemandDone test) s fun t =>
      (F.SVC_TEST_GO ∉ s.acc.queued → flag t F.SVC_STAT_TEST_BUSY = false ∧ flag t F.SVC_TEST_BUSY = false ∧ t.svc.testEnd = none ∧ t.svc.testAll = []) ∧
      (F.SVC_TEST_GO ∈ s.acc.queued → flag t F.SVC_STAT_TEST_BUSY = true ∧ flag t F.SVC_TEST_BUSY = true ∧ t.svc.testEnd.isSome = true ∧
        t.acc.queued = s.acc.queued.erase F.SVC_TEST_GO) ∧
      fget t F.SVC_TEST_RESULT = (if bad = [] then 1 else 2) ∧ fget t F.SVC_TEST_DETAIL = ((bad.head?.map (·.2)).getD 0) % 256 ∧
      (s.svc.op = .test → t.svc.op = .none ∧ ∃ u d, t.reply = .verdict (decide (bad = [])) u d ∧ ∀ b, bad.head? = some b → b = (u, d)) ∧
      (s.svc.op ≠ .test → t.svc.op = s.svc.op ∧ t.reply = s.reply) ∧
      (2 ∈ s.svc.testAll → flag t F.SELFTEST_RES_DELAY_LINE = decide (test.delay ≠ [])) ∧
      (4 ∈ s.svc.testAll → flag t F.SELFTEST_RES_CURRENT_SENSE = decide (test.sense ≠ [])) ∧
      (s.svc.testAll ⊆ [5, 6] → changesOnly s t [A.SVC_TEST, A.SVC_STAT] [.access, .svc, .reply] ∧ (F.SVC_TEST_GO ∉ s.acc.queued → t.acc = s.acc))) ∧
    -- snapshots
    (idle → gaffer → (len.val = 0 ∨ 8 < len.val) → stops (.gafferSnapCap len chains) .value) ∧
    (idle → gaffer → 1 ≤ len.val → len.val ≤ 8 → chains.val ≠ 0 → bench s = false → flag s F.SNAP_STAT_CAP_BUSY = false →
      flag s F.SNAP_STAT_SOLVE_BUSY = false → answers (.gafferSnapCap len chains) s fun t => does t .none [A.SNAP_CFG, A.SNAP_STAT] [.nav, .svc] ∧
        fget t F.SNAP_CFG_LEN = len.val ∧ fget t F.SNAP_CFG_CHAINS = chains.val ∧ flag t F.SNAP_STAT_CAP_BUSY = true ∧
        t.nav.cap = some ⟨s.mtime, chains.val, len.val⟩ ∧ t.svc = { s.svc with op := .capture }) ∧
    (idle → gaffer → flag s F.SNAP_STAT_VALID = false → stops .gafferSnapSolve .state) ∧
    (idle → gaffer → flag s F.SNAP_STAT_VALID = true → flag s F.SNAP_STAT_SOLVE_BUSY = false → answers .gafferSnapSolve s fun t =>
      does t .none [A.SNAP_STAT] [.nav, .svc] ∧ flag t F.SNAP_STAT_SOLVE_BUSY = true ∧ t.nav = { s.nav with solveDue := some (s.mtime + 3 * sec) } ∧
      t.svc = { s.svc with op := .solve }) ∧
    (idle → gaffer → flag s F.SNAP_STAT_VALID = true → flag s F.SNAP_STAT_SOLVE_BUSY = true → answers .gafferSnapSolve s fun t =>
      does t .none [] [.access, .svc] ∧ t.acc.queued = later F.SNAP_CTRL_SOLVE ∧ t.svc = { s.svc with op := .solve }) ∧
    -- Jasper
    (mayCommand s m → small →
      (value ≠ 0 → anyArmed s = true → ¬ spared → answers (.jasperEnableWrite m key r data) s fun t => refuses s t m .state) ∧
      (value ≠ 0 → (anyArmed s = false ∨ spared) → answers (.jasperEnableWrite m key r data) s fun t => accepts s t m (addr :: noteRegs) [.svc, .events] ∧
        (rd t addr).toNat % 2 ^ 16 = data.toNat % (match r with | .bus _ => 65536 | .qbp _ => 512 | .tap => 64 | _ => 256) ∧
        t.svc = { s.svc with jasEnd := minute } ∧ perturbed t = true) ∧
      (value = 0 → answers (.jasperEnableWrite m key r data) s fun t => accepts s t m [addr] [])) ∧
    (mayCommand s m →
      (okBit = true → armKey ≠ 0x5A3C → answers (.jasRefresh m key okBit armKey) s fun t => refuses s t m .value) ∧
      (okBit = true → armKey ≠ 0x5A3C → answers (.jasOff m key okBit armKey) s fun t => refuses s t m .value) ∧
      ((okBit = true → armKey = 0x5A3C) → (answers (.jasRefresh m key okBit armKey) s fun t => accepts s t m [A.JAS_CTRL] [.svc] ∧ refreshed t ∧
          flag t F.JAS_CTRL_ARMED_OK = okBit ∧ fget t F.JAS_CTRL_ARMED_KEY = 0) ∧
        answers (.jasOff m key okBit armKey) s fun t => accepts s t m jas [.svc, .events] ∧ ended t) ∧
      (let inject := .eccInject m key double
       let once := .busOneshot m key p bit every
       (anyArmed s = true → (answers inject s fun t => refuses s t m .state) ∧ answers once s fun t => refuses s t m .state) ∧
       (anyArmed s = false → (answers inject s fun t => accepts s t m (A.JAS_ECC_CTRL :: noteRegs) [.rcv, .svc, .events] ∧
          t.rcv = { s.rcv with eccWords := s.rcv.eccWords ++
            [(fget s F.JAS_ECC_ADDR_MEM, fget s F.JAS_ECC_ADDR_GATHER, fget s F.JAS_ECC_ADDR_ADDR, double)] } ∧ t.svc = { s.svc with jasEnd := minute }) ∧
        answers once s fun t => accepts s t m (A.JAS_BUS p :: noteRegs) [.svc, .events] ∧ p.val ∈ t.svc.oneshot ∧
          t.svc = { s.svc with jasEnd := minute, oneshot := t.svc.oneshot } ∧ fget t (F.JAS_BUS_BIT p) = bit.toNat ∧
          fget t (F.JAS_BUS_EVERY p) = every.toNat))) ∧
    (gaffer → (answers .gafferJasRefresh s fun t => does t (.okValue .ok []) [A.JAS_CTRL] [.svc] ∧ refreshed t ∧
        flag t F.JAS_CTRL_ARMED_OK = flag s F.JAS_CTRL_ARMED_OK) ∧
      answers .gafferJasOff s fun t => does t (.okValue .ok []) jas [.svc, .events] ∧ ended t) ∧
    (answers .jasperExpiry s fun t => match s.svc.jasEnd with
      | none => keeps s t []
      | some e => changesOnly s t jas [.mtime, .svc, .events] ∧ t.mtime = max s.mtime e ∧ ended t)

/-- LDC, DIV, DIVU, REM, REMU, SQRT, PDIST, FOOT, COVQ, COVX, ZONQ, EXCL, COVM, QPOP and ASYNC_COMPLETION (R151). -/
def Obligations.AsynchronousInstructionsKeepTheFlags : Prop :=
  ∀ (g : GatherId) (d a b c : RegId) (i : BitVec 16) (q : QId) (k : Fin 8) (s t : State) (x : Instr),
    x ∈ [Instr.ldc g d a i, .divW g d a b, .divu g d a b, .remW g d a b, .remu g d a b, .sqrt g d a, .pdist g d a b, .foot g d a b c, .covq g d a b,
      .covx g d a b c, .zonq g d a b, .excl g d a, .covm g d a b c, .qpop g d q, .asyncCompletion g k] →
    exec x s = .next t → ∀ h < 128, sameFlags (coreOf s h) (coreOf t h)

/-- Illegal words (R141). -/
def Obligations.WordsThatNoInstructionSpellsAreIllegal : Prop :=
  illegalWord 0x00000000 = true ∧ illegalWord 0xFFFFFFFF = true ∧
  ∀ (g : GatherId) (w : Word),
    ((∀ i, encodeWord i ≠ some (g, w)) → illegalWord w = true) ∧
    (illegalWord w = true ↔ decodeWord g w = none) ∧
    ∀ s : State, illegalWord w = true → (gatherOf s g).phase = .run → inRegion s g (coreOf s g).pc = true → progWord s (coreOf s g).pc = w →
      nextCommand s g = some (.illegalInstruction g w) ∧
      answers (.illegalInstruction g w) s fun t => (gatherOf t g).phase = .fault ∧ fget t (F.G_FAULT_CODE g) = 1 ∧ coreOf t g = coreOf s g

/-- Refused accesses (R104, R107). -/
def Obligations.RefusedAccessesAreNotedAndRecorded : Prop :=
  ∀ (m : Master) (a : BitVec 24) (off : BitVec 23) (data : Word) (p : PortId) (src : Byte) (w : BitVec 22) (tag : Fin 4) (s : State), reachable s →
    let table : List (Err × Nat × Nat) := [(.align, 0x1, 2), (.addr, 0x2, 2), (.power, 0x3, 1), (.aliasErr, 0x4, 2), (.readonly, 0x5, 2), (.owner, 0x6, 2),
      (.key, 0x7, 3), (.once, 0x8, 4), (.value, 0x9, 2), (.state, 0xA, 3), (.armed, 0xB, 3)]
    let noted (t : State) (m : Master) (write : Bool) (a code sev : Nat) : Prop :=
      let u := raise sev 14 m.num .accessRefused ([(m.num : Int), (a : Int), (code : Int)] ++ if write then [(data.toNat : Int)] else []) s
      flag t (F.ACC_ERR_LAST_WRITE m.num) = write ∧ fget t (F.ACC_ERR_LAST_CODE m.num) = code ∧ fget t (F.ACC_ERR_LAST_ADDRESS m.num) = a ∧
      fget t (F.ACC_ERR_CNT_COUNT m.num) = min (2 ^ (F.ACC_ERR_CNT_COUNT m.num).width - 1) (fget s (F.ACC_ERR_CNT_COUNT m.num) + 1) ∧
      t.agate = u.agate ∧ ∀ r ∈ noteRegs, rd t r = rd u r
    let waits (q : AccReq) : Prop := onBus s p = true ∧ (portOf s p).acc.head? = some (src.toNat, q) ∧ keyedOf s p src.toNat = none ∧
      isHolder s p src.toNat = false
    (∀ e code sev t, (e, code, sev) ∈ table →
      (exec (.registerWrite m a data) s = .next t → t.reply = .okValue e [] → noted t m true a.toNat code sev) ∧
      (exec (.aliasWrite m off data) s = .next t → t.reply = .okValue e [] → noted t m true (0x800000 + off.toNat) code sev) ∧
      (exec (.gafferRd a) s = .next t → t.reply = .okValue e [] → noted t .gaffer false a.toNat code sev) ∧
      (exec (.gafferWr a data) s = .next t → t.reply = .okValue e [] → noted t .gaffer true a.toNat code sev) ∧
      (exec (.hspiRead a) s = .next t → t.reply = .spi [BitVec.ofNat 8 (0x50 + code), 0, 0, 0, 0] → noted t .host false a.toNat code sev) ∧
      (exec (.hspiWrite a data) s = .next t → t.reply = .spi [BitVec.ofNat 8 (0x50 + code)] → noted t .host true a.toNat code sev)) ∧
    (waits (.read (4 * w.toNat) tag) → answers (.busAccessRead p src w tag) s fun t => noted t .bus false (4 * w.toNat) 0xC 1) ∧
    (waits (.write (4 * w.toNat) tag data) → answers (.busAccessWrite p src w tag data) s fun t => noted t .bus true (4 * w.toNat) 0xC 1)

/-- The step of the block: first in, first out. -/
def Obligations.StepRunsTheFrontCommand : Prop :=
  (∀ (c : Instr) (rest : List Instr) (s : State), step { s with pending := c :: rest } = exec c { s with pending := rest }) ∧
  ∀ s : State, s.pending = [] → ∃ t, step s = .next t ∧ keeps s t [.mtime] ∧ t.mtime = if running s = true then s.mtime + 64 else s.mtime

/-- State.reset (R111, R126, R576, R583). -/
def Obligations.ResetLeavesTheFactoryState : Prop :=
  let s := State.reset
  (∀ a, rd s a = regReset a) ∧ phase s = 0 ∧ s.mtime = 0 ∧ ownerCode s = 0 ∧ flag s F.OEM_KEY_CTRL_LOCKED = false ∧ (∀ k < 64, pageState s k = 0) ∧
  s.stage.generation = 0 ∧ fget s F.OWN_CFG_ORDER0 = 1 ∧ fget s F.OWN_CFG_ORDER1 = 2 ∧ fget s F.OWN_CFG_ORDER2 = 3 ∧
  flag s F.OWN_CFG_AUTOSTART = false ∧ fget s F.OWN_CFG_HB_TIMEOUT = 3 ∧ (∀ k < 16, flag s (F.FIELD_CFG_VALID k) = false) ∧
  s.agate.store = [] ∧ (∀ g < 128, (gatherOf s g).phase = .stopped) ∧ (∀ q < 128, (queueOf s q).slots = []) ∧ quiet s ∧
  (∀ m k, k < 14 → (mbxOf s m k).words = [0, 0, 0, 0] ∧ (mbxOf s m k).valid = false) ∧ s.pending = [] ∧
  s.regsWf ∧ s.memWf ∧ s.recordsOk

/-- Completion of every command; the bounds of frames (R489). -/
def Obligations.EveryWellFormedCommandAnswers : Prop :=
  ∀ (i : Instr) (s : State),
    (∃ t, exec i s = .next t ∧ t.pending = s.pending) ∧
    (i.wellFormed = false → exec i s = .next s ∧ ∃ p f sof, i = .frameReceived p f sof ∧ frameOk f = false)

/-- Decode of encode, and encode of decode, over all formats of Grikar (R140 to R143). -/
def Obligations.DecodeAndEncodeAgree : Prop :=
  (∀ (i : Instr) (g : GatherId) (w : Word), encodeWord i = some (g, w) → illegalWord w = false → decodeWord g w = some i) ∧
  ∀ (i : Instr) (g : GatherId) (w : Word), decodeWord g w = some i → encodeWord i = some (g, w)

/-- The canonical form of the tables is an invariant of every step. -/
def Obligations.StepsKeepRegistersAndMemoriesCanonical : Prop :=
  ∀ s t : State, s.regsWf → s.memWf → step s = .next t → t.regsWf ∧ t.memWf

/-- The order of the record store is an invariant of every step (R524 to R533, R543). -/
def Obligations.StepsKeepTheRecordStoreInOrder : Prop :=
  ∀ s t : State, s.recordsOk → step s = .next t → t.recordsOk
end

