-- ==== Sys2Proof/Laws/KeepsBase.lean ====
section
/-! SUPPORT. What an update of one field of the state keeps: every other part. -/
namespace Sys2Proof.Machine
variable {pt : Part} {s₀ : State}
@[simp] theorem Part.same_clock (s : State) (clock' : Clock) (h : pt ∉ [.clock]) : pt.same s₀ { s with clock := clock' } ↔ pt.same s₀ s := by
  cases pt <;> first | rfl | (exfalso; revert h; decide)
@[simp] theorem Part.same_clock_freeCtr (s : State) (clock' : Clock) (freeCtr' : Nat) (h : pt ∉ [.freeCtr, .clock]) : pt.same s₀ { s with clock := clock', freeCtr := freeCtr' } ↔ pt.same s₀ s := by
  cases pt <;> first | rfl | (exfalso; revert h; decide)
@[simp] theorem Part.same_eng (s : State) (eng' : Engine) (h : pt ∉ [.eng]) : pt.same s₀ { s with eng := eng' } ↔ pt.same s₀ s := by
  cases pt <;> first | rfl | (exfalso; revert h; decide)
@[simp] theorem Part.same_fb (s : State) (fb' : Feedback) (h : pt ∉ [.fb]) : pt.same s₀ { s with fb := fb' } ↔ pt.same s₀ s := by
  cases pt <;> first | rfl | (exfalso; revert h; decide)
@[simp] theorem Part.same_feeds (s : State) (feeds' : Tab Feed) (h : pt ∉ [.feeds]) : pt.same s₀ { s with feeds := feeds' } ↔ pt.same s₀ s := by
  cases pt <;> first | rfl | (exfalso; revert h; decide)
@[simp] theorem Part.same_fleet (s : State) (fleet' : Fleet) (h : pt ∉ [.fleet]) : pt.same s₀ { s with fleet := fleet' } ↔ pt.same s₀ s := by
  cases pt <;> first | rfl | (exfalso; revert h; decide)
@[simp] theorem Part.same_freeCtr (s : State) (freeCtr' : Nat) (h : pt ∉ [.freeCtr]) : pt.same s₀ { s with freeCtr := freeCtr' } ↔ pt.same s₀ s := by
  cases pt <;> first | rfl | (exfalso; revert h; decide)
@[simp] theorem Part.same_freeCtr_onyx (s : State) (freeCtr' : Nat) (onyx' : Onyx) (h : pt ∉ [.freeCtr, .onyx]) : pt.same s₀ { s with freeCtr := freeCtr', onyx := onyx' } ↔ pt.same s₀ s := by
  cases pt <;> first | rfl | (exfalso; revert h; decide)
@[simp] theorem Part.same_gathers (s : State) (gathers' : Tab Gather) (h : pt ∉ [.gathers]) : pt.same s₀ { s with gathers := gathers' } ↔ pt.same s₀ s := by
  cases pt <;> first | rfl | (exfalso; revert h; decide)
@[simp] theorem Part.same_leads_leadsOld_leadsAt (s : State) (leads' : Tab (Nat × Nat × Nat)) (leadsOld' : Tab (Nat × Nat × Nat)) (leadsAt' : Nat) (h : pt ∉ [.leads]) : pt.same s₀ { s with leads := leads', leadsOld := leadsOld', leadsAt := leadsAt' } ↔ pt.same s₀ s := by
  cases pt <;> first | rfl | (exfalso; revert h; decide)
@[simp] theorem Part.same_maps (s : State) (maps' : Maps) (h : pt ∉ [.maps]) : pt.same s₀ { s with maps := maps' } ↔ pt.same s₀ s := by
  cases pt <;> first | rfl | (exfalso; revert h; decide)
@[simp] theorem Part.same_maps_nv (s : State) (maps' : Maps) (nv' : Stored) (h : pt ∉ [.nv, .maps]) : pt.same s₀ { s with maps := maps', nv := nv' } ↔ pt.same s₀ s := by
  cases pt <;> first | rfl | (exfalso; revert h; decide)
@[simp] theorem Part.same_marker (s : State) (marker' : Marker) (h : pt ∉ [.marker]) : pt.same s₀ { s with marker := marker' } ↔ pt.same s₀ s := by
  cases pt <;> first | rfl | (exfalso; revert h; decide)
@[simp] theorem Part.same_mtime (s : State) (mtime' : Nat) (h : pt ∉ [.mtime]) : pt.same s₀ { s with mtime := mtime' } ↔ pt.same s₀ s := by
  cases pt <;> first | rfl | (exfalso; revert h; decide)
@[simp] theorem Part.same_mtime_sup (s : State) (mtime' : Nat) (sup' : Supply) (h : pt ∉ [.mtime, .sup]) : pt.same s₀ { s with mtime := mtime', sup := sup' } ↔ pt.same s₀ s := by
  cases pt <;> first | rfl | (exfalso; revert h; decide)
@[simp] theorem Part.same_nav (s : State) (nav' : Nav) (h : pt ∉ [.nav]) : pt.same s₀ { s with nav := nav' } ↔ pt.same s₀ s := by
  cases pt <;> first | rfl | (exfalso; revert h; decide)
@[simp] theorem Part.same_nv (s : State) (nv' : Stored) (h : pt ∉ [.nv]) : pt.same s₀ { s with nv := nv' } ↔ pt.same s₀ s := by
  cases pt <;> first | rfl | (exfalso; revert h; decide)
@[simp] theorem Part.same_nv_stage (s : State) (nv' : Stored) (stage' : Staging) (h : pt ∉ [.nv, .stage]) : pt.same s₀ { s with nv := nv', stage := stage' } ↔ pt.same s₀ s := by
  cases pt <;> first | rfl | (exfalso; revert h; decide)
@[simp] theorem Part.same_onyx (s : State) (onyx' : Onyx) (h : pt ∉ [.onyx]) : pt.same s₀ { s with onyx := onyx' } ↔ pt.same s₀ s := by
  cases pt <;> first | rfl | (exfalso; revert h; decide)
@[simp] theorem Part.same_outs (s : State) (outs' : Tab Out) (h : pt ∉ [.outs]) : pt.same s₀ { s with outs := outs' } ↔ pt.same s₀ s := by
  cases pt <;> first | rfl | (exfalso; revert h; decide)
@[simp] theorem Part.same_own (s : State) (own' : Own) (h : pt ∉ [.own]) : pt.same s₀ { s with own := own' } ↔ pt.same s₀ s := by
  cases pt <;> first | rfl | (exfalso; revert h; decide)
@[simp] theorem Part.same_pending (s : State) (pending' : List Instr) (h : pt ∉ [.pending]) : pt.same s₀ { s with pending := pending' } ↔ pt.same s₀ s := by
  cases pt <;> first | rfl | (exfalso; revert h; decide)
@[simp] theorem Part.same_ports (s : State) (ports' : Tab Port) (h : pt ∉ [.ports]) : pt.same s₀ { s with ports := ports' } ↔ pt.same s₀ s := by
  cases pt <;> first | rfl | (exfalso; revert h; decide)
@[simp] theorem Part.same_qs (s : State) (qs' : Tab Queue) (h : pt ∉ [.qs]) : pt.same s₀ { s with qs := qs' } ↔ pt.same s₀ s := by
  cases pt <;> first | rfl | (exfalso; revert h; decide)
@[simp] theorem Part.same_rcv (s : State) (rcv' : Recovery) (h : pt ∉ [.rcv]) : pt.same s₀ { s with rcv := rcv' } ↔ pt.same s₀ s := by
  cases pt <;> first | rfl | (exfalso; revert h; decide)
@[simp] theorem Part.same_rcv_start (s : State) (rcv' : Recovery) (start' : Startup) (h : pt ∉ [.start, .rcv]) : pt.same s₀ { s with rcv := rcv', start := start' } ↔ pt.same s₀ s := by
  cases pt <;> first | rfl | (exfalso; revert h; decide)
@[simp] theorem Part.same_readCap (s : State) (readCap' : Option Capture) (h : pt ∉ [.readCap]) : pt.same s₀ { s with readCap := readCap' } ↔ pt.same s₀ s := by
  cases pt <;> first | rfl | (exfalso; revert h; decide)
@[simp] theorem Part.same_regs (s : State) (regs' : Tab Word) (h : pt ∉ [.regs]) : pt.same s₀ { s with regs := regs' } ↔ pt.same s₀ s := by
  cases pt <;> first | rfl | (exfalso; revert h; decide)
@[simp] theorem Part.same_regs_sup (s : State) (regs' : Tab Word) (sup' : Supply) (h : pt ∉ [.regs, .sup]) : pt.same s₀ { s with regs := regs', sup := sup' } ↔ pt.same s₀ s := by
  cases pt <;> first | rfl | (exfalso; revert h; decide)
@[simp] theorem Part.same_rems (s : State) (rems' : Tab Remote) (h : pt ∉ [.rems]) : pt.same s₀ { s with rems := rems' } ↔ pt.same s₀ s := by
  cases pt <;> first | rfl | (exfalso; revert h; decide)
@[simp] theorem Part.same_reply (s : State) (reply' : Reply) (h : pt ∉ [.reply]) : pt.same s₀ { s with reply := reply' } ↔ pt.same s₀ s := by
  cases pt <;> first | rfl | (exfalso; revert h; decide)
@[simp] theorem Part.same_stage (s : State) (stage' : Staging) (h : pt ∉ [.stage]) : pt.same s₀ { s with stage := stage' } ↔ pt.same s₀ s := by
  cases pt <;> first | rfl | (exfalso; revert h; decide)
@[simp] theorem Part.same_start (s : State) (start' : Startup) (h : pt ∉ [.start]) : pt.same s₀ { s with start := start' } ↔ pt.same s₀ s := by
  cases pt <;> first | rfl | (exfalso; revert h; decide)
@[simp] theorem Part.same_sup (s : State) (sup' : Supply) (h : pt ∉ [.sup]) : pt.same s₀ { s with sup := sup' } ↔ pt.same s₀ s := by
  cases pt <;> first | rfl | (exfalso; revert h; decide)
@[simp] theorem Part.same_sup_start_nav (s : State) (sup' : Supply) (start' : Startup) (nav' : Nav) (h : pt ∉ [.sup, .start, .nav]) : pt.same s₀ { s with sup := sup', start := start', nav := nav' } ↔ pt.same s₀ s := by
  cases pt <;> first | rfl | (exfalso; revert h; decide)
@[simp] theorem Part.same_svc (s : State) (svc' : Service) (h : pt ∉ [.svc]) : pt.same s₀ { s with svc := svc' } ↔ pt.same s₀ s := by
  cases pt <;> first | rfl | (exfalso; revert h; decide)
@[simp] theorem Part.same_acc_unlock (s : State) (unlock' : Tab Unlock) (h : pt ∉ [.unlock]) : pt.same s₀ { s with acc := { s.acc with unlock := unlock' } } ↔ pt.same s₀ s := by
  cases pt <;> first | rfl | (exfalso; revert h; decide)
@[simp] theorem Part.same_acc_mbx (s : State) (mbx' : Tab Mbx) (h : pt ∉ [.mbx]) : pt.same s₀ { s with acc := { s.acc with mbx := mbx' } } ↔ pt.same s₀ s := by
  cases pt <;> first | rfl | (exfalso; revert h; decide)
@[simp] theorem Part.same_acc_session (s : State) (sessionDeadline' : Nat) (h : pt ∉ [.access]) : pt.same s₀ { s with acc := { s.acc with sessionDeadline := sessionDeadline' } } ↔ pt.same s₀ s := by
  cases pt <;> first | rfl | (exfalso; revert h; decide)
@[simp] theorem Part.same_acc_keyed (s : State) (keyed' : Option KeyedAddr) (h : pt ∉ [.access]) : pt.same s₀ { s with acc := { s.acc with keyed := keyed' } } ↔ pt.same s₀ s := by
  cases pt <;> first | rfl | (exfalso; revert h; decide)
@[simp] theorem Part.same_acc_queued (s : State) (queued' : List Fld) (h : pt ∉ [.access]) : pt.same s₀ { s with acc := { s.acc with queued := queued' } } ↔ pt.same s₀ s := by
  cases pt <;> first | rfl | (exfalso; revert h; decide)
@[simp] theorem Part.same_acc_commit (s : State) (commitDone' : Option Nat) (h : pt ∉ [.access]) : pt.same s₀ { s with acc := { s.acc with commitDone := commitDone' } } ↔ pt.same s₀ s := by
  cases pt <;> first | rfl | (exfalso; revert h; decide)
@[simp] theorem Part.same_acc_stored (s : State) (oemStored' : List Word) (commitDone' : Option Nat) (h : pt ∉ [.access]) : pt.same s₀ { s with acc := { s.acc with oemStored := oemStored', commitDone := commitDone' } } ↔ pt.same s₀ s := by
  cases pt <;> first | rfl | (exfalso; revert h; decide)
@[simp] theorem Part.same_acc_ended (s : State) (nv' : Stored) (queued' : List Fld) (commitDone' : Option Nat) (h : pt ∉ [.access, .nv]) :
    pt.same s₀ { s with nv := nv', acc := { s.acc with queued := queued', commitDone := commitDone' } } ↔ pt.same s₀ s := by
  cases pt <;> first | rfl | (exfalso; revert h; decide)
@[simp] theorem Part.same_agate_events (s : State) (w q f) (h : pt ∉ [.events]) :
    pt.same s₀ { s with agate := { s.agate with waiting := w, q103 := q, flood := f } } ↔ pt.same s₀ s := by
  cases pt <;> first | rfl | (exfalso; revert h; decide)
@[simp] theorem Part.same_agate_reader (s : State) (x y) (h : pt ∉ [.reader]) :
    pt.same s₀ { s with agate := { s.agate with sel := x, ready := y } } ↔ pt.same s₀ s := by
  cases pt <;> first | rfl | (exfalso; revert h; decide)
@[simp] theorem Part.same_agate (s : State) (r : Recorder) (h : pt ∉ [.events, .records, .reader]) :
    pt.same s₀ { s with agate := r } ↔ pt.same s₀ s := by
  cases pt <;> first | rfl | (exfalso; revert h; decide)
@[simp] theorem Part.same_refl (p : Part) (s : State) : p.same s s := by
  cases p <;> simp [Part.same]
@[simp] theorem Part.same_ite (c : Prop) [Decidable c] (a b : State) :
    pt.same s₀ (if c then a else b) ↔ (if c then pt.same s₀ a else pt.same s₀ b) := by
  split <;> rfl
@[simp] theorem RegRule.effect_ite (p : Prop) [Decidable p] (a b : RegRule) (c : WriteCtx) (s : State) :
    (if p then a else b).effect c s = if p then a.effect c s else b.effect c s := by
  split <;> rfl
@[simp] theorem onlyIf_same (b : Bool) (f : State → State) (s : State) (h : ∀ s, pt.same s₀ (f s) ↔ pt.same s₀ s) :
    pt.same s₀ (onlyIf b f s) ↔ pt.same s₀ s := by
  cases b <;> simp [onlyIf, h]
@[simp] theorem forAll_same {α : Type} (f : α → State → State) (l : List α) (s : State)
    (h : ∀ x s, pt.same s₀ (f x s) ↔ pt.same s₀ s) : pt.same s₀ (forAll f l s) ↔ pt.same s₀ s := by
  induction l generalizing s with
  | nil => rfl
  | cons x xs ih => rw [forAll, ih, h]
end Sys2Proof.Machine
end

