-- ==== Sys2Proof/Laws/KeepsAct.lean ====
section
/-! SUPPORT. What each operation of the output stage, time, feedback and the instructions can change: every part outside its list is the same. -/
namespace Sys2Proof.Machine
set_option linter.unusedSimpArgs false
set_option linter.unusedVariables false
set_option linter.unnecessarySeqFocus false
variable {pt : Part} {s₀ : State}

-- Ops
@[simp] theorem wr_same (s : State) (a : Nat) (w : Word) (hpt : pt ∉ [.regs]) :
    pt.same s₀ (wr s a w) ↔ pt.same s₀ s := by
  simp at hpt
  simp [wr, hpt]
@[simp] theorem fset_same (s : State) (f : Fld) (v : Nat) (hpt : pt ∉ [.regs]) :
    pt.same s₀ (fset s f v) ↔ pt.same s₀ s := by
  simp at hpt
  simp [fset, hpt]
@[simp] theorem fbool_same (s : State) (f : Fld) (b : Bool) (hpt : pt ∉ [.regs]) :
    pt.same s₀ (fbool s f b) ↔ pt.same s₀ s := by
  simp at hpt
  simp [fbool, hpt]
@[simp] theorem fsetSat_same (s : State) (f : Fld) (v : Int) (hpt : pt ∉ [.regs]) :
    pt.same s₀ (fsetSat s f v) ↔ pt.same s₀ s := by
  simp at hpt
  simp [fsetSat, hpt]
@[simp] theorem fsat_same (s : State) (f : Fld) (d : Nat) (hpt : pt ∉ [.regs]) :
    pt.same s₀ (fsat s f d) ↔ pt.same s₀ s := by
  simp at hpt
  simp [fsat, hpt]
@[simp] theorem fwrap_same (s : State) (f : Fld) (d : Nat) (hpt : pt ∉ [.regs]) :
    pt.same s₀ (fwrap s f d) ↔ pt.same s₀ s := by
  simp at hpt
  simp [fwrap, hpt]
@[simp] theorem fmax_same (s : State) (f : Fld) (v : Nat) (hpt : pt ∉ [.regs]) :
    pt.same s₀ (fmax s f v) ↔ pt.same s₀ s := by
  simp at hpt
  simp [fmax, hpt]
@[simp] theorem atTime_same (t : Nat) (s : State) (hpt : pt ∉ [.mtime]) :
    pt.same s₀ (atTime t s) ↔ pt.same s₀ s := by
  simp at hpt
  simp [atTime, hpt]
@[simp] theorem queueCmd_same (f : Fld) (s : State) (hpt : pt ∉ [.access]) :
    pt.same s₀ (queueCmd f s) ↔ pt.same s₀ s := by
  simp at hpt
  simp [queueCmd, hpt]
@[simp] theorem runQueued_same (f : Fld) (k : State → State) (s : State) (hpt : pt ∉ [.access]) (hk : ∀ s, pt.same s₀ (k s) ↔ pt.same s₀ s) :
    pt.same s₀ (runQueued f k s) ↔ pt.same s₀ s := by
  simp at hpt
  unfold runQueued; split <;> simp [*]
@[simp] theorem fresh_same (s : State) (hpt : pt ∉ [.freeCtr]) :
    pt.same s₀ ((fresh s).2) ↔ pt.same s₀ s := by
  simp at hpt
  simp [fresh, hpt]
@[simp] theorem coalesce_same (e : Event) (f : Flood) (s : State) (hpt : pt ∉ [.regs, .events]) :
    pt.same s₀ (coalesce e f s) ↔ pt.same s₀ s := by
  simp at hpt
  simp [coalesce, hpt]
@[simp] theorem dropEvent_same (e : Event) (s : State) (hpt : pt ∉ [.regs]) :
    pt.same s₀ (dropEvent e s) ↔ pt.same s₀ s := by
  simp at hpt
  simp [dropEvent, hpt]
@[simp] theorem raiseEvent_same (e : Event) (s : State) (hpt : pt ∉ [.regs, .events]) :
    pt.same s₀ (raiseEvent e s) ↔ pt.same s₀ s := by
  simp at hpt
  unfold raiseEvent; (repeat' split) <;> simp [*]
@[simp] theorem raise_same (sev cls inst : Nat) (k : EvKind) (vals : List Int) (s : State) (hpt : pt ∉ [.regs, .events]) :
    pt.same s₀ (raise sev cls inst k vals s) ↔ pt.same s₀ s := by
  simp at hpt
  simp [raise, hpt]
@[simp] theorem setOut_same (n : Nat) (o : Out) (s : State) (hpt : pt ∉ [.outs]) :
    pt.same s₀ (setOut n o s) ↔ pt.same s₀ s := by
  simp at hpt
  simp [setOut, hpt]
@[simp] theorem setFeed_same (f : Nat) (x : Feed) (s : State) (hpt : pt ∉ [.feeds]) :
    pt.same s₀ (setFeed f x s) ↔ pt.same s₀ s := by
  simp at hpt
  simp [setFeed, hpt]
@[simp] theorem setRem_same (d : Nat) (x : Remote) (s : State) (hpt : pt ∉ [.rems]) :
    pt.same s₀ (setRem d x s) ↔ pt.same s₀ s := by
  simp at hpt
  simp [setRem, hpt]
@[simp] theorem setQueue_same (q : Nat) (x : Queue) (s : State) (hpt : pt ∉ [.qs]) :
    pt.same s₀ (setQueue q x s) ↔ pt.same s₀ s := by
  simp at hpt
  simp [setQueue, hpt]

-- Rule
@[simp] theorem plainRule_same  (c : WriteCtx) (s : State) :
    pt.same s₀ ((plainRule).effect c s) ↔ pt.same s₀ s := by
  simp [plainRule]
@[simp] theorem onCmd_same (c : WriteCtx) (f : Fld) (k : State → State) (s : State) (hk : ∀ s, pt.same s₀ (k s) ↔ pt.same s₀ s) :
    pt.same s₀ (onCmd c f k s) ↔ pt.same s₀ s := by
  unfold onCmd; simp [*]

-- Queues
@[simp] theorem noteHwm_same (q : Nat) (s : State) (hpt : pt ∉ [.regs]) :
    pt.same s₀ (noteHwm q s) ↔ pt.same s₀ s := by
  simp at hpt
  simp [noteHwm, hpt]
@[simp] theorem countCommit_same (q n : Nat) (s : State) (hpt : pt ∉ [.regs, .qs]) :
    pt.same s₀ (countCommit q n s) ↔ pt.same s₀ s := by
  simp at hpt
  simp [countCommit, hpt]
@[simp] theorem countFinal_same (q n : Nat) (s : State) (hpt : pt ∉ [.regs, .qs]) :
    pt.same s₀ (countFinal q n s) ↔ pt.same s₀ s := by
  simp at hpt
  simp [countFinal, hpt]
@[simp] theorem commitItem_same (q : Nat) (item : List QWord) (s : State) (hpt : pt ∉ [.regs, .qs]) :
    pt.same s₀ (commitItem q item s) ↔ pt.same s₀ s := by
  simp at hpt
  simp [commitItem, hpt]
@[simp] theorem deliver_same (q : Nat) (item : List QWord) (s : State) (hpt : pt ∉ [.regs, .qs]) :
    pt.same s₀ (deliver q item s) ↔ pt.same s₀ s := by
  simp at hpt
  unfold deliver; (repeat' split) <;> simp [*]
@[simp] theorem enterHeld_same (q : Nat) (s : State) (hpt : pt ∉ [.regs, .freeCtr, .qs]) :
    pt.same s₀ (enterHeld q s) ↔ pt.same s₀ s := by
  simp at hpt
  unfold enterHeld; split <;> simp [*]
@[simp] theorem advanceFinal_same (q : Nat) (s : State) (hpt : pt ∉ [.regs, .qs]) :
    pt.same s₀ (advanceFinal q s) ↔ pt.same s₀ s := by
  simp at hpt
  simp [advanceFinal, hpt]
@[simp] theorem popHead_same (q n : Nat) (s : State) (hpt : pt ∉ [.regs, .qs]) :
    pt.same s₀ (popHead q n s) ↔ pt.same s₀ s := by
  simp at hpt
  simp [popHead, hpt]
@[simp] theorem epochQueue_same (g q : Nat) (s : State) (hpt : pt ∉ [.regs, .qs]) :
    pt.same s₀ (epochQueue g q s) ↔ pt.same s₀ s := by
  simp at hpt
  simp [epochQueue, hpt]
@[simp] theorem rewindQueue_same (g q : Nat) (s : State) (hpt : pt ∉ [.regs, .qs]) :
    pt.same s₀ (rewindQueue g q s) ↔ pt.same s₀ s := by
  simp at hpt
  simp [rewindQueue, hpt]
@[simp] theorem clearQueue_same (g q : Nat) (s : State) (hpt : pt ∉ [.regs, .qs]) :
    pt.same s₀ (clearQueue g q s) ↔ pt.same s₀ s := by
  simp at hpt
  simp [clearQueue, hpt]
@[simp] theorem flushQueue_same (q : Nat) (s : State) (hpt : pt ∉ [.outs, .qs]) :
    pt.same s₀ (flushQueue q s) ↔ pt.same s₀ s := by
  simp at hpt
  simp [flushQueue, hpt]
@[simp] theorem resetQueue_same (q : Nat) (s : State) (hpt : pt ∉ [.regs, .qs]) :
    pt.same s₀ (resetQueue q s) ↔ pt.same s₀ s := by
  simp at hpt
  simp [resetQueue, hpt]
@[simp] theorem dropReserved_same (q : Nat) (s : State) (hpt : pt ∉ [.qs]) :
    pt.same s₀ (dropReserved q s) ↔ pt.same s₀ s := by
  simp at hpt
  simp [dropReserved, hpt]

-- Pwm
@[simp] theorem takePath_same (n : Nat) (s : State) (hpt : pt ∉ [.outs]) :
    pt.same s₀ (takePath n s) ↔ pt.same s₀ s := by
  simp at hpt
  simp [takePath, hpt]
@[simp] theorem takePathIdle_same (n : Nat) (s : State) (hpt : pt ∉ [.outs]) :
    pt.same s₀ (takePathIdle n s) ↔ pt.same s₀ s := by
  simp at hpt
  simp [takePathIdle, hpt]
@[simp] theorem setCarrier_same (n : Nat) (c : Carrier) (s : State) (hpt : pt ∉ [.outs]) :
    pt.same s₀ (setCarrier n c s) ↔ pt.same s₀ s := by
  simp at hpt
  simp [setCarrier, hpt]
@[simp] theorem countDrop_same (n : Nat) (s : State) (hpt : pt ∉ [.regs]) :
    pt.same s₀ (countDrop n s) ↔ pt.same s₀ s := by
  simp at hpt
  simp [countDrop, hpt]
@[simp] theorem countGap_same (n : Nat) (s : State) (hpt : pt ∉ [.regs]) :
    pt.same s₀ (countGap n s) ↔ pt.same s₀ s := by
  simp at hpt
  simp [countGap, hpt]
@[simp] theorem startPeriod_same (n t : Nat) (s : State) (hpt : pt ∉ [.regs, .outs]) :
    pt.same s₀ (startPeriod n t s) ↔ pt.same s₀ s := by
  simp at hpt
  simp [startPeriod, hpt]
@[simp] theorem reloadPeriod_same (n g : Nat) (s : State) (hpt : pt ∉ [.regs, .outs]) :
    pt.same s₀ (reloadPeriod n g s) ↔ pt.same s₀ s := by
  simp at hpt
  simp [reloadPeriod, hpt]
@[simp] theorem replanPeriod_same (n : Nat) (s : State) (hpt : pt ∉ [.regs, .outs]) :
    pt.same s₀ (replanPeriod n s) ↔ pt.same s₀ s := by
  simp at hpt
  unfold replanPeriod; dsimp only; (repeat' split) <;> simp [*]
@[simp] theorem fallAt_same (n f : Nat) (s : State) (hpt : pt ∉ [.outs]) :
    pt.same s₀ (fallAt n f s) ↔ pt.same s₀ s := by
  simp at hpt
  simp [fallAt, hpt]
@[simp] theorem holdPulse_same (n : Nat) (atOnce : Bool) (s : State) (hpt : pt ∉ [.regs, .outs]) :
    pt.same s₀ (holdPulse n atOnce s) ↔ pt.same s₀ s := by
  simp at hpt
  simp [holdPulse, hpt]
@[simp] theorem updateCompare_same (n t : Nat) (s : State) (hpt : pt ∉ [.regs, .outs]) :
    pt.same s₀ (updateCompare n t s) ↔ pt.same s₀ s := by
  simp at hpt
  unfold updateCompare; dsimp only; (repeat' split) <;> simp [*]
@[simp] theorem compensated_same (n : Nat) (s : State) (hpt : pt ∉ [.regs]) :
    pt.same s₀ ((compensated n s).2) ↔ pt.same s₀ s := by
  simp at hpt
  unfold compensated; dsimp only; (repeat' split) <;> simp [*]
@[simp] theorem applyDuty_same (n t : Nat) (s : State) (hpt : pt ∉ [.regs, .outs]) :
    pt.same s₀ (applyDuty n t s) ↔ pt.same s₀ s := by
  simp at hpt
  simp [applyDuty, hpt]
@[simp] theorem delayReload_same (n d : Nat) (s : State) (hpt : pt ∉ [.outs]) :
    pt.same s₀ (delayReload n d s) ↔ pt.same s₀ s := by
  simp at hpt
  unfold delayReload; dsimp only; (repeat' split) <;> simp [*]
@[simp] theorem spreadMove_same (l m k n : Nat) (s : State) (hpt : pt ∉ [.outs]) :
    pt.same s₀ (spreadMove l m k n s) ↔ pt.same s₀ s := by
  simp at hpt
  simp [spreadMove, hpt]
@[simp] theorem respread_same (b : Nat) (s : State) (hpt : pt ∉ [.regs, .outs]) :
    pt.same s₀ (respread b s) ↔ pt.same s₀ s := by
  simp at hpt
  simp [respread, hpt]
@[simp] theorem endDrive_same (n t : Nat) (s : State) (hpt : pt ∉ [.outs]) :
    pt.same s₀ (endDrive n t s) ↔ pt.same s₀ s := by
  simp at hpt
  simp [endDrive, hpt]
@[simp] theorem driveSteady_same (n t : Nat) (f : Option Nat) (s : State) (hpt : pt ∉ [.outs]) :
    pt.same s₀ (driveSteady n t f s) ↔ pt.same s₀ s := by
  simp at hpt
  simp [driveSteady, hpt]
@[simp] theorem scheduleCarrier_same (n t : Nat) (s : State) (hpt : pt ∉ [.regs, .outs]) :
    pt.same s₀ (scheduleCarrier n t s) ↔ pt.same s₀ s := by
  simp at hpt
  simp [scheduleCarrier, hpt]
@[simp] theorem stopCarrier_same (n t : Nat) (s : State) (hpt : pt ∉ [.regs, .outs]) :
    pt.same s₀ (stopCarrier n t s) ↔ pt.same s₀ s := by
  simp at hpt
  simp [stopCarrier, hpt]
@[simp] theorem setPeriod_same (n t v : Nat) (s : State) (hpt : pt ∉ [.regs, .events, .outs]) :
    pt.same s₀ (setPeriod n t v s) ↔ pt.same s₀ s := by
  simp at hpt
  simp [setPeriod, hpt]
@[simp] theorem setPhase_same (n v : Nat) (s : State) (hpt : pt ∉ [.regs, .outs]) :
    pt.same s₀ (setPhase n v s) ↔ pt.same s₀ s := by
  simp at hpt
  simp [setPhase, hpt]
@[simp] theorem exchangeLines_same (n : Nat) (s : State) (hpt : pt ∉ [.regs, .outs]) :
    pt.same s₀ (exchangeLines n s) ↔ pt.same s₀ s := by
  simp at hpt
  simp [exchangeLines, hpt]
@[simp] theorem carrierFall_same (n : Nat) (s : State) (hpt : pt ∉ [.mtime, .outs]) :
    pt.same s₀ (carrierFall n s) ↔ pt.same s₀ s := by
  simp at hpt
  unfold carrierFall; dsimp only; (repeat' split) <;> simp [*]
@[simp] theorem calibrate_same (n : Nat) (taps : List Nat) (s : State) (hpt : pt ∉ [.regs, .events, .outs]) :
    pt.same s₀ (calibrate n taps s) ↔ pt.same s₀ s := by
  simp at hpt
  unfold calibrate; dsimp only; (repeat' split) <;> simp [*]

-- Channels
@[simp] theorem notePstate_same (n : Nat) (s : State) (hpt : pt ∉ [.regs]) :
    pt.same s₀ (notePstate n s) ↔ pt.same s₀ s := by
  simp at hpt
  simp [notePstate, hpt]
@[simp] theorem rejectMeas_same (n : Nat) (on : Bool) (r v : Nat) (s : State) (hpt : pt ∉ [.regs, .events]) :
    pt.same s₀ (rejectMeas n on r v s) ↔ pt.same s₀ s := by
  simp at hpt
  simp [rejectMeas, hpt]
@[simp] theorem judgeMeas_same (n : Nat) (on : Bool) (m : Nat) (s : State) (hpt : pt ∉ [.regs, .events]) :
    pt.same s₀ (judgeMeas n on m s) ↔ pt.same s₀ s := by
  simp at hpt
  simp [judgeMeas, hpt]
@[simp] theorem endCaptureEarly_same (n : Nat) (s : State) (hpt : pt ∉ [.regs, .events, .outs]) :
    pt.same s₀ (endCaptureEarly n s) ↔ pt.same s₀ s := by
  simp at hpt
  unfold endCaptureEarly; dsimp only; (repeat' split) <;> simp [*]
@[simp] theorem startCapture_same (n t : Nat) (on : Bool) (s : State) (hpt : pt ∉ [.regs, .events, .outs]) :
    pt.same s₀ (startCapture n t on s) ↔ pt.same s₀ s := by
  simp at hpt
  simp [startCapture, hpt]
@[simp] theorem countDeferral_same (n t : Nat) (s : State) (hpt : pt ∉ [.regs]) :
    pt.same s₀ (countDeferral n t s) ↔ pt.same s₀ s := by
  simp at hpt
  unfold countDeferral; split <;> simp [*]
@[simp] theorem actualOn_same (n t : Nat) (s : State) (hpt : pt ∉ [.regs, .events, .outs]) :
    pt.same s₀ (actualOn n t s) ↔ pt.same s₀ s := by
  simp at hpt
  unfold actualOn; split <;> simp [*]
@[simp] theorem actualOff_same (n t : Nat) (s : State) (hpt : pt ∉ [.regs, .events, .outs]) :
    pt.same s₀ (actualOff n t s) ↔ pt.same s₀ s := by
  simp at hpt
  simp [actualOff, hpt]
@[simp] theorem retractOn_same (n t : Nat) (s : State) (hpt : pt ∉ [.regs, .outs]) :
    pt.same s₀ (retractOn n t s) ↔ pt.same s₀ s := by
  simp at hpt
  simp [retractOn, hpt]
@[simp] theorem judgeLater_same (n t : Nat) (s : State) (hpt : pt ∉ [.regs, .outs]) :
    pt.same s₀ (judgeLater n t s) ↔ pt.same s₀ s := by
  simp at hpt
  unfold judgeLater; (repeat' split) <;> simp [*]
@[simp] theorem settle_same (n t : Nat) (s : State) (hpt : pt ∉ [.regs, .events, .outs]) :
    pt.same s₀ (settle n t s) ↔ pt.same s₀ s := by
  simp at hpt
  unfold settle; dsimp only; (repeat' split) <;> simp [*]
@[simp] theorem beginPeriod_same (n g : Nat) (s : State) (hpt : pt ∉ [.regs, .events, .outs]) :
    pt.same s₀ (beginPeriod n g s) ↔ pt.same s₀ s := by
  simp at hpt
  simp [beginPeriod, hpt]
@[simp] theorem enterBrake_same (n t : Nat) (s : State) (hpt : pt ∉ [.outs]) :
    pt.same s₀ (enterBrake n t s) ↔ pt.same s₀ s := by
  simp at hpt
  simp [enterBrake, hpt]
@[simp] theorem leaveBrake_same (n t : Nat) (s : State) (hpt : pt ∉ [.outs]) :
    pt.same s₀ (leaveBrake n t s) ↔ pt.same s₀ s := by
  simp at hpt
  simp [leaveBrake, hpt]
@[simp] theorem engage_same (n t : Nat) (d : State → State) (s : State) (hpt : pt ∉ [.regs, .events, .outs])
    (hd : ∀ s, pt.same s₀ (d s) ↔ pt.same s₀ s) : pt.same s₀ (engage n t d s) ↔ pt.same s₀ s := by
  simp at hpt
  simp [engage, hpt, hd]
@[simp] theorem startOn_same (n t : Nat) (s : State) (hpt : pt ∉ [.regs, .events, .outs]) :
    pt.same s₀ (startOn n t s) ↔ pt.same s₀ s := by
  simp at hpt
  unfold startOn; dsimp only; (repeat' split) <;> simp [*]
@[simp] theorem commandOn_same (n t : Nat) (s : State) (hpt : pt ∉ [.regs, .events, .outs]) :
    pt.same s₀ (commandOn n t s) ↔ pt.same s₀ s := by
  simp at hpt
  simp [commandOn, hpt]
@[simp] theorem commandOff_same (n t : Nat) (s : State) (hpt : pt ∉ [.regs, .events, .outs]) :
    pt.same s₀ (commandOff n t s) ↔ pt.same s₀ s := by
  simp at hpt
  simp [commandOff, hpt]
@[simp] theorem drivePulse_same (n t e : Nat) (s : State) (hpt : pt ∉ [.regs, .outs]) :
    pt.same s₀ (drivePulse n t e s) ↔ pt.same s₀ s := by
  simp at hpt
  simp [drivePulse, hpt]
@[simp] theorem commandPulse_same (n t l : Nat) (s : State) (hpt : pt ∉ [.regs, .events, .outs]) :
    pt.same s₀ (commandPulse n t l s) ↔ pt.same s₀ s := by
  simp at hpt
  unfold commandPulse; dsimp only; (repeat' split) <;> simp [*]
@[simp] theorem countTrip_same (n t : Nat) (s : State) (hpt : pt ∉ [.regs, .events, .outs]) :
    pt.same s₀ (countTrip n t s) ↔ pt.same s₀ s := by
  simp at hpt
  simp [countTrip, hpt]
@[simp] theorem channelTrip_same (n : Nat) (s : State) (hpt : pt ∉ [.regs, .events, .outs]) :
    pt.same s₀ (channelTrip n s) ↔ pt.same s₀ s := by
  simp at hpt
  simp [channelTrip, hpt]
@[simp] theorem retryPauseEnd_same (n : Nat) (s : State) (hpt : pt ∉ [.regs, .mtime, .events, .outs]) :
    pt.same s₀ (retryPauseEnd n s) ↔ pt.same s₀ s := by
  simp at hpt
  unfold retryPauseEnd; split <;> simp [*]
@[simp] theorem resetTries_same (n : Nat) (s : State) (hpt : pt ∉ [.regs, .outs]) :
    pt.same s₀ (resetTries n s) ↔ pt.same s₀ s := by
  simp at hpt
  simp [resetTries, hpt]
@[simp] theorem tryCountReset_same (n : Nat) (s : State) (hpt : pt ∉ [.regs, .mtime, .outs]) :
    pt.same s₀ (tryCountReset n s) ↔ pt.same s₀ s := by
  simp at hpt
  unfold tryCountReset; split <;> simp [*]
@[simp] theorem unlatch_same (n : Nat) (s : State) (hpt : pt ∉ [.regs, .events, .outs]) :
    pt.same s₀ (unlatch n s) ↔ pt.same s₀ s := by
  simp at hpt
  simp [unlatch, hpt]
@[simp] theorem inrushWindowEnd_same (n : Nat) (s : State) (hpt : pt ∉ [.regs, .mtime, .outs]) :
    pt.same s₀ (inrushWindowEnd n s) ↔ pt.same s₀ s := by
  simp at hpt
  unfold inrushWindowEnd; split <;> simp [*]
@[simp] theorem thermalShutdown_same (n : Nat) (hot : Bool) (s : State) (hpt : pt ∉ [.regs, .events, .outs]) :
    pt.same s₀ (thermalShutdown n hot s) ↔ pt.same s₀ s := by
  simp at hpt
  simp [thermalShutdown, hpt]
@[simp] theorem thermalRecovery_same (n : Nat) (s : State) (hpt : pt ∉ [.regs, .events, .outs]) :
    pt.same s₀ (thermalRecovery n s) ↔ pt.same s₀ s := by
  simp at hpt
  unfold thermalRecovery; dsimp only; (repeat' split) <;> simp [*]
@[simp] theorem pulseDeferralEnd_same (n : Nat) (s : State) (hpt : pt ∉ [.regs, .events, .outs]) :
    pt.same s₀ (pulseDeferralEnd n s) ↔ pt.same s₀ s := by
  simp at hpt
  simp [pulseDeferralEnd, hpt]
@[simp] theorem budgetAdmission_same (n : Nat) (s : State) (hpt : pt ∉ [.regs, .events, .outs]) :
    pt.same s₀ (budgetAdmission n s) ↔ pt.same s₀ s := by
  simp at hpt
  simp [budgetAdmission, hpt]
@[simp] theorem reversalGapEnd_same (n : Nat) (s : State) (hpt : pt ∉ [.regs, .mtime, .events, .outs]) :
    pt.same s₀ (reversalGapEnd n s) ↔ pt.same s₀ s := by
  simp at hpt
  unfold reversalGapEnd; split <;> simp [*]
@[simp] theorem lpShort_same (n : Nat) (s : State) (hpt : pt ∉ [.regs, .events]) :
    pt.same s₀ (lpShort n s) ↔ pt.same s₀ s := by
  simp at hpt
  simp [lpShort, hpt]
@[simp] theorem carrierReload_same (n : Nat) (s : State) (hpt : pt ∉ [.regs, .mtime, .events, .outs]) :
    pt.same s₀ (carrierReload n s) ↔ pt.same s₀ s := by
  simp at hpt
  simp [carrierReload, hpt]
@[simp] theorem pulseEnd_same (n : Nat) (s : State) (hpt : pt ∉ [.regs, .mtime, .events, .outs]) :
    pt.same s₀ (pulseEnd n s) ↔ pt.same s₀ s := by
  simp at hpt
  unfold pulseEnd; split <;> simp [*]
@[simp] theorem noteMeas_same (n : Nat) (m : ChanMeas) (s : State) (hpt : pt ∉ [.regs, .outs]) :
    pt.same s₀ (noteMeas n m s) ↔ pt.same s₀ s := by
  simp at hpt
  simp [noteMeas, hpt]
@[simp] theorem supplyCompUpdate_same (f mv : Nat) (ms' : List ChanMeas) (s : State) (hpt : pt ∉ [.regs, .outs]) :
    pt.same s₀ (supplyCompUpdate f mv ms' s) ↔ pt.same s₀ s := by
  simp at hpt
  simp [supplyCompUpdate, hpt]
@[simp] theorem compensationFreeze_same (f : Nat) (s : State) (hpt : pt ∉ [.regs, .events, .outs, .feeds]) :
    pt.same s₀ (compensationFreeze f s) ↔ pt.same s₀ s := by
  simp at hpt
  simp [compensationFreeze, hpt]
@[simp] theorem compensationFreezeEnd_same (f : Nat) (s : State) (hpt : pt ∉ [.regs, .mtime, .feeds]) :
    pt.same s₀ (compensationFreezeEnd f s) ↔ pt.same s₀ s := by
  simp at hpt
  unfold compensationFreezeEnd; split <;> simp [*]
@[simp] theorem feedUvEntry_same (f : Nat) (reversed : Bool) (s : State) (hpt : pt ∉ [.regs, .events, .outs, .feeds]) :
    pt.same s₀ (feedUvEntry f reversed s) ↔ pt.same s₀ s := by
  simp at hpt
  simp [feedUvEntry, hpt]
@[simp] theorem holdForStagger_same (k : Nat) (ns : List Nat) (s : State) (hpt : pt ∉ [.regs, .outs, .feeds]) :
    pt.same s₀ (holdForStagger k ns s) ↔ pt.same s₀ s := by
  simp at hpt
  simp [holdForStagger, hpt]
@[simp] theorem feedUvExit_same (f : Nat) (s : State) (hpt : pt ∉ [.regs, .outs, .feeds]) :
    pt.same s₀ (feedUvExit f s) ↔ pt.same s₀ s := by
  simp at hpt
  simp [feedUvExit, hpt]
@[simp] theorem staggeredTurnOn_same (k : Nat) (s : State) (hpt : pt ∉ [.regs, .mtime, .events, .outs, .feeds]) :
    pt.same s₀ (staggeredTurnOn k s) ↔ pt.same s₀ s := by
  simp at hpt
  unfold staggeredTurnOn; dsimp only; (repeat' split) <;> simp [*]
@[simp] theorem groundLoss_same (s : State) (hpt : pt ∉ [.regs, .sup, .events, .outs]) :
    pt.same s₀ (groundLoss s) ↔ pt.same s₀ s := by
  simp at hpt
  simp [groundLoss, hpt]
@[simp] theorem groundLossEnd_same (s : State) (hpt : pt ∉ [.regs, .sup, .outs, .feeds]) :
    pt.same s₀ (groundLossEnd s) ↔ pt.same s₀ s := by
  simp at hpt
  simp [groundLossEnd, hpt]
@[simp] theorem brakeBridge_same (n t : Nat) (s : State) (hpt : pt ∉ [.regs, .events, .outs]) :
    pt.same s₀ (brakeBridge n t s) ↔ pt.same s₀ s := by
  simp at hpt
  simp [brakeBridge, hpt]
@[simp] theorem takePosture_same (n : Nat) (s : State) (hpt : pt ∉ [.regs, .events, .outs]) :
    pt.same s₀ (takePosture n s) ↔ pt.same s₀ s := by
  simp at hpt
  unfold takePosture; split <;> simp [*]
@[simp] theorem discardPending_same (n : Nat) (s : State) (hpt : pt ∉ [.regs, .outs, .qs]) :
    pt.same s₀ (discardPending n s) ↔ pt.same s₀ s := by
  simp at hpt
  simp [discardPending, hpt]
@[simp] theorem disarmByPosture_same (n : Nat) (s : State) (hpt : pt ∉ [.regs, .events, .outs, .qs]) :
    pt.same s₀ (disarmByPosture n s) ↔ pt.same s₀ s := by
  simp at hpt
  simp [disarmByPosture, hpt]
@[simp] theorem disarmOut_same (n : Nat) (s : State) (hpt : pt ∉ [.regs, .events, .outs, .qs]) :
    pt.same s₀ (disarmOut n s) ↔ pt.same s₀ s := by
  simp at hpt
  simp [disarmOut, hpt]
@[simp] theorem allOff_same (s : State) (hpt : pt ∉ [.regs, .events, .outs]) :
    pt.same s₀ (allOff s) ↔ pt.same s₀ s := by
  simp at hpt
  simp [allOff, hpt]
@[simp] theorem latencyMeasurement_same (n : Nat) (samples : List Nat) (s : State) (hpt : pt ∉ [.regs, .events, .outs]) :
    pt.same s₀ (latencyMeasurement n samples s) ↔ pt.same s₀ s := by
  simp at hpt
  unfold latencyMeasurement; dsimp only; (repeat' split) <;> simp [*]
@[simp] theorem captureEnd_same (n : Nat) (samples : List Nat) (s : State) (hpt : pt ∉ [.regs, .mtime, .events, .outs]) :
    pt.same s₀ (captureEnd n samples s) ↔ pt.same s₀ s := by
  simp at hpt
  unfold captureEnd; split <;> simp [*]
@[simp] theorem takeReadCopy_same (n : Nat) (s : State) (hpt : pt ∉ [.regs, .readCap]) :
    pt.same s₀ (takeReadCopy n s) ↔ pt.same s₀ s := by
  simp at hpt
  unfold takeReadCopy; dsimp only; (repeat' split) <;> simp [*]

-- Actuation
@[simp] theorem markLate_same (n : Nat) (s : State) (hpt : pt ∉ [.regs]) :
    pt.same s₀ (markLate n s) ↔ pt.same s₀ s := by
  simp at hpt
  simp [markLate, hpt]
@[simp] theorem placeEvent_same (n target : Nat) (a : Action) (v : Nat) (s : State) (hpt : pt ∉ [.regs, .outs, .qs]) :
    pt.same s₀ (placeEvent n target a v s) ↔ pt.same s₀ s := by
  simp at hpt
  simp [placeEvent, hpt]
@[simp] theorem actHold_same (n target mask : Nat) (s : State) (hpt : pt ∉ [.regs, .outs, .qs]) :
    pt.same s₀ (actHold n target mask s) ↔ pt.same s₀ s := by
  simp at hpt
  simp [actHold, hpt]
@[simp] theorem takeHead_same (s : State) (hpt : pt ∉ [.regs, .qs]) :
    pt.same s₀ (takeHead s) ↔ pt.same s₀ s := by
  simp at hpt
  simp [takeHead, hpt]
@[simp] theorem discardEvent_same (n : Nat) (s : State) (hpt : pt ∉ [.regs, .qs]) :
    pt.same s₀ (discardEvent n s) ↔ pt.same s₀ s := by
  simp at hpt
  simp [discardEvent, hpt]
@[simp] theorem stallDistributor_same (n : Nat) (s : State) (hpt : pt ∉ [.regs, .freeCtr]) :
    pt.same s₀ (stallDistributor n s) ↔ pt.same s₀ s := by
  simp at hpt
  unfold stallDistributor; dsimp only; (repeat' split) <;> simp [*]
@[simp] theorem eventPlacement_same (s : State) (hpt : pt ∉ [.regs, .freeCtr, .outs, .qs]) :
    pt.same s₀ (eventPlacement s) ↔ pt.same s₀ s := by
  simp at hpt
  unfold eventPlacement; (repeat' split) <;> simp [*]
@[simp] theorem holdPlacement_same (s : State) (hpt : pt ∉ [.regs, .freeCtr, .outs, .qs]) :
    pt.same s₀ (holdPlacement s) ↔ pt.same s₀ s := by
  simp at hpt
  unfold holdPlacement; split <;> simp [*]
@[simp] theorem accountFirings_same (n : Nat) (fs : List Firing) (s : State) (hpt : pt ∉ [.regs, .outs, .qs]) :
    pt.same s₀ (accountFirings n fs s) ↔ pt.same s₀ s := by
  simp at hpt
  unfold accountFirings; dsimp only
  rw [forAll_same _ _ _ (by intro f s; simp [hpt])]; simp [hpt]
@[simp] theorem fireValue_same (n : Nat) (f : Firing) (s : State) (hpt : pt ∉ [.regs, .events, .outs]) :
    pt.same s₀ (fireValue n f s) ↔ pt.same s₀ s := by
  simp at hpt
  unfold fireValue; (repeat' split) <;> simp [*]
@[simp] theorem fireDrive_same (n : Nat) (again : Bool) (f : Firing) (s : State) (hpt : pt ∉ [.regs, .events, .outs]) :
    pt.same s₀ (fireDrive n again f s) ↔ pt.same s₀ s := by
  simp at hpt
  unfold fireDrive; split <;> (try split) <;> simp [hpt]
@[simp] theorem fireAll_same (n : Nat) (fs : List Firing) (s : State) (hpt : pt ∉ [.regs, .events, .outs]) :
    pt.same s₀ (fireAll n fs s) ↔ pt.same s₀ s := by
  simp at hpt
  unfold fireAll; dsimp only
  split
  · simp [hpt]
  · split <;> simp [hpt]
@[simp] theorem fireHead_same (n : Nat) (a : Action) (s : State) (hpt : pt ∉ [.regs, .mtime, .events, .outs, .qs]) :
    pt.same s₀ (fireHead n a s) ↔ pt.same s₀ s := by
  simp at hpt
  unfold fireHead; dsimp only; (repeat' split) <;> simp [*]
@[simp] theorem actuationOn_same (n : Nat) (s : State) (hpt : pt ∉ [.regs, .mtime, .events, .outs, .qs]) :
    pt.same s₀ (actuationOn n s) ↔ pt.same s₀ s := by
  simp at hpt
  simp [actuationOn, hpt]
@[simp] theorem actuationOff_same (n : Nat) (s : State) (hpt : pt ∉ [.regs, .mtime, .events, .outs, .qs]) :
    pt.same s₀ (actuationOff n s) ↔ pt.same s₀ s := by
  simp at hpt
  simp [actuationOff, hpt]
@[simp] theorem actuationDuty_same (n : Nat) (s : State) (hpt : pt ∉ [.regs, .mtime, .events, .outs, .qs]) :
    pt.same s₀ (actuationDuty n s) ↔ pt.same s₀ s := by
  simp at hpt
  simp [actuationDuty, hpt]
@[simp] theorem actuationPeriod_same (n : Nat) (s : State) (hpt : pt ∉ [.regs, .mtime, .events, .outs, .qs]) :
    pt.same s₀ (actuationPeriod n s) ↔ pt.same s₀ s := by
  simp at hpt
  simp [actuationPeriod, hpt]
@[simp] theorem actuationPhase_same (n : Nat) (s : State) (hpt : pt ∉ [.regs, .mtime, .events, .outs, .qs]) :
    pt.same s₀ (actuationPhase n s) ↔ pt.same s₀ s := by
  simp at hpt
  simp [actuationPhase, hpt]
@[simp] theorem actuationPulse_same (n : Nat) (s : State) (hpt : pt ∉ [.regs, .mtime, .events, .outs, .qs]) :
    pt.same s₀ (actuationPulse n s) ↔ pt.same s₀ s := by
  simp at hpt
  simp [actuationPulse, hpt]
@[simp] theorem latencyStore_same (s : State) (hpt : pt ∉ [.nv]) :
    pt.same s₀ (latencyStore s) ↔ pt.same s₀ s := by
  simp at hpt
  simp [latencyStore, hpt]
@[simp] theorem latencyTableRefresh_same (s : State) (hpt : pt ∉ [.mtime, .leads]) :
    pt.same s₀ (latencyTableRefresh s) ↔ pt.same s₀ s := by
  simp at hpt
  simp [latencyTableRefresh, hpt]
@[simp] theorem lateClear_same (n : Nat) (s : State) (hpt : pt ∉ [.regs]) :
    pt.same s₀ (lateClear n s) ↔ pt.same s₀ s := by
  simp at hpt
  simp [lateClear, hpt]
@[simp] theorem relearn_same (n : Nat) (s : State) (hpt : pt ∉ [.regs]) :
    pt.same s₀ (relearn n s) ↔ pt.same s₀ s := by
  simp at hpt
  simp [relearn, hpt]

-- Time
@[simp] theorem setPort_same (p : Nat) (x : Port) (s : State) (hpt : pt ∉ [.ports]) :
    pt.same s₀ (setPort p x s) ↔ pt.same s₀ s := by
  simp at hpt
  simp [setPort, hpt]
@[simp] theorem rebase_same (s : State) (hpt : pt ∉ [.clock]) :
    pt.same s₀ (rebase s) ↔ pt.same s₀ s := by
  simp at hpt
  simp [rebase, hpt]
@[simp] theorem enterTime_same (st sev : Nat) (k : EvKind) (s : State) (hpt : pt ∉ [.regs, .events]) :
    pt.same s₀ (enterTime st sev k s) ↔ pt.same s₀ s := by
  simp at hpt
  simp [enterTime, hpt]
@[simp] theorem dropCorrection_same (s : State) (hpt : pt ∉ [.regs, .clock]) :
    pt.same s₀ (dropCorrection s) ↔ pt.same s₀ s := by
  simp at hpt
  simp [dropCorrection, hpt]
@[simp] theorem startSlew_same (e : Int) (s : State) (hpt : pt ∉ [.regs, .clock]) :
    pt.same s₀ (startSlew e s) ↔ pt.same s₀ s := by
  simp at hpt
  simp [startSlew, hpt]
@[simp] theorem timeSolution_same (m g u : Nat) (s : State) (hpt : pt ∉ [.regs, .freeCtr, .events, .clock]) :
    pt.same s₀ (timeSolution m g u s) ↔ pt.same s₀ s := by
  simp at hpt
  simp [timeSolution, hpt]
@[simp] theorem slewComplete_same (s : State) (hpt : pt ∉ [.regs, .mtime, .events, .clock]) :
    pt.same s₀ (slewComplete s) ↔ pt.same s₀ s := by
  simp at hpt
  simp [slewComplete, hpt]
@[simp] theorem holdoverEntry_same (s : State) (hpt : pt ∉ [.regs, .mtime, .events]) :
    pt.same s₀ (holdoverEntry s) ↔ pt.same s₀ s := by
  simp at hpt
  unfold holdoverEntry; split <;> simp [*]
@[simp] theorem holdoverLimit_same (t : Nat) (s : State) (hpt : pt ∉ [.regs, .mtime, .events]) :
    pt.same s₀ (holdoverLimit t s) ↔ pt.same s₀ s := by
  simp at hpt
  simp [holdoverLimit, hpt]
@[simp] theorem takeStep_same (k : EvKind) (new : Int) (s : State) (hpt : pt ∉ [.regs, .events, .clock]) :
    pt.same s₀ (takeStep k new s) ↔ pt.same s₀ s := by
  simp at hpt
  simp [takeStep, hpt]
@[simp] theorem timeSet_same (s : State) (hpt : pt ∉ [.regs, .events, .clock]) :
    pt.same s₀ (timeSet s) ↔ pt.same s₀ s := by
  simp at hpt
  simp [timeSet, hpt]
@[simp] theorem utcChange_same (s : State) (hpt : pt ∉ [.mtime, .clock]) :
    pt.same s₀ (utcChange s) ↔ pt.same s₀ s := by
  simp at hpt
  unfold utcChange; split <;> simp [*]
@[simp] theorem ppsPrepare_same (s : State) (hpt : pt ∉ [.mtime, .clock, .ports]) :
    pt.same s₀ (ppsPrepare s) ↔ pt.same s₀ s := by
  simp at hpt
  simp [ppsPrepare, hpt]
@[simp] theorem ppsEdge_same (s : State) (hpt : pt ∉ [.regs, .mtime, .events, .clock]) :
    pt.same s₀ (ppsEdge s) ↔ pt.same s₀ s := by
  simp at hpt
  unfold ppsEdge; dsimp only; (repeat' split) <;> simp [*]
@[simp] theorem ppsFall_same (s : State) (hpt : pt ∉ [.mtime, .clock]) :
    pt.same s₀ (ppsFall s) ↔ pt.same s₀ s := by
  simp at hpt
  unfold ppsFall; split
  · rfl
  · rw [← atTime_same (s₀ := s₀) _ s (by simp [hpt])]; exact Part.same_clock _ _ (by simp [hpt])
@[simp] theorem timeMsgWithdraw_same (p : Nat) (s : State) (hpt : pt ∉ [.regs, .mtime, .ports]) :
    pt.same s₀ (timeMsgWithdraw p s) ↔ pt.same s₀ s := by
  simp at hpt
  unfold timeMsgWithdraw; dsimp only; (repeat' split) <;> simp [*]
@[simp] theorem tmSuspend_same (p : Nat) (s : State) (hpt : pt ∉ [.regs, .events, .ports]) :
    pt.same s₀ (tmSuspend p s) ↔ pt.same s₀ s := by
  simp at hpt
  simp [tmSuspend, hpt]
@[simp] theorem tmPeriod_same (s : State) (hpt : pt ∉ [.regs, .mtime, .events, .clock, .ports]) :
    pt.same s₀ (tmPeriod s) ↔ pt.same s₀ s := by
  simp at hpt
  simp [tmPeriod, hpt]

-- Feedback
@[simp] theorem setFb_same (n : Nat) (x : FbIn) (s : State) (hpt : pt ∉ [.fb]) :
    pt.same s₀ (setFb n x s) ↔ pt.same s₀ s := by
  simp at hpt
  simp [setFb, hpt]
@[simp] theorem setAi_same (m : Nat) (x : AiIn) (s : State) (hpt : pt ∉ [.fb]) :
    pt.same s₀ (setAi m x s) ↔ pt.same s₀ s := by
  simp at hpt
  simp [setAi, hpt]
@[simp] theorem setPt_same (p : Nat) (x : PtPin) (s : State) (hpt : pt ∉ [.fb]) :
    pt.same s₀ (setPt p x s) ↔ pt.same s₀ s := by
  simp at hpt
  simp [setPt, hpt]
@[simp] theorem fbRecord_same (n kind t flags hi : Nat) (s : State) (hpt : pt ∉ [.regs, .qs]) :
    pt.same s₀ (fbRecord n kind t flags hi s) ↔ pt.same s₀ s := by
  simp at hpt
  simp [fbRecord, hpt]
@[simp] theorem noteFbState_same (n t : Nat) (s : State) (hpt : pt ∉ [.regs, .qs, .fb]) :
    pt.same s₀ (noteFbState n t s) ↔ pt.same s₀ s := by
  simp at hpt
  simp [noteFbState, hpt]
@[simp] theorem noteFast_same (n t : Nat) (s : State) (hpt : pt ∉ [.fb]) :
    pt.same s₀ (noteFast n t s) ↔ pt.same s₀ s := by
  simp at hpt
  simp [noteFast, hpt]
@[simp] theorem dropPeriods_same (n : Nat) (s : State) (hpt : pt ∉ [.regs, .fb]) :
    pt.same s₀ (dropPeriods n s) ↔ pt.same s₀ s := by
  simp at hpt
  simp [dropPeriods, hpt]
@[simp] theorem comparePulse_same (n k t : Nat) (s : State) (hpt : pt ∉ [.fb]) :
    pt.same s₀ (comparePulse n k t s) ↔ pt.same s₀ s := by
  simp at hpt
  simp [comparePulse, hpt]
@[simp] theorem fireCompare_same (n k t : Nat) (late : Bool) (dist : Nat) (s : State) (hpt : pt ∉ [.regs, .qs, .fb]) :
    pt.same s₀ (fireCompare n k t late dist s) ↔ pt.same s₀ s := by
  simp at hpt
  simp [fireCompare, hpt]
@[simp] theorem judgeTimes_same (n k t : Nat) (fu : Nat) (s : State) (hpt : pt ∉ [.regs, .qs, .fb]) :
    pt.same s₀ (judgeTimes n k t fu s) ↔ pt.same s₀ s := by
  simp at hpt
  induction fu generalizing s with
  | zero => rfl
  | succ f ih => unfold judgeTimes; (repeat' split) <;> simp [*]
@[simp] theorem judgeCompare_same (n k t : Nat) (s : State) (hpt : pt ∉ [.regs, .qs, .fb]) :
    pt.same s₀ (judgeCompare n k t s) ↔ pt.same s₀ s := by
  simp at hpt
  simp [judgeCompare, hpt]
@[simp] theorem moveCompares_same (n t : Nat) (c : Word) (d : Int) (s : State) (hpt : pt ∉ [.regs, .qs, .fb]) :
    pt.same s₀ (moveCompares n t c d s) ↔ pt.same s₀ s := by
  simp at hpt
  simp [moveCompares, hpt]
@[simp] theorem failRange_same (o t : Nat) (s : State) (hpt : pt ∉ [.regs, .events, .qs, .fb]) :
    pt.same s₀ (failRange o t s) ↔ pt.same s₀ s := by
  simp at hpt
  simp [failRange, hpt]
@[simp] theorem checkLine_same (o l t : Nat) (isCounted : Bool) (s : State) (hpt : pt ∉ [.regs, .events, .qs, .fb]) :
    pt.same s₀ (checkLine o l t isCounted s) ↔ pt.same s₀ s := by
  simp at hpt
  simp [checkLine, hpt]
@[simp] theorem noteJoints_same (s : State) (hpt : pt ∉ [.marker]) :
    pt.same s₀ (noteJoints s) ↔ pt.same s₀ s := by
  simp at hpt
  simp [noteJoints, hpt]
@[simp] theorem timingEdge_same (n t : Nat) (reversal : Bool) (s : State) (hpt : pt ∉ [.regs, .fb]) :
    pt.same s₀ (timingEdge n t reversal s) ↔ pt.same s₀ s := by
  simp at hpt
  unfold timingEdge; dsimp only; (repeat' split) <;> simp [*]
@[simp] theorem countEdge_same (n t : Nat) (d : Int) (timing : Bool) (s : State) (hpt : pt ∉ [.regs, .qs, .marker, .fb]) :
    pt.same s₀ (countEdge n t d timing s) ↔ pt.same s₀ s := by
  simp at hpt
  simp [countEdge, hpt]
@[simp] theorem phaseError_same (n t : Nat) (s : State) (hpt : pt ∉ [.regs, .events, .qs, .fb]) :
    pt.same s₀ (phaseError n t s) ↔ pt.same s₀ s := by
  simp at hpt
  simp [phaseError, hpt]
@[simp] theorem takeLine_same (n : Nat) (s : State) (hpt : pt ∉ [.regs]) :
    pt.same s₀ (takeLine n s) ↔ pt.same s₀ s := by
  simp at hpt
  simp [takeLine, hpt]
@[simp] theorem fbEdge_same (n : Nat) (both : Bool) (s : State) (hpt : pt ∉ [.regs, .mtime, .events, .qs, .marker, .fb]) :
    pt.same s₀ (fbEdge n both s) ↔ pt.same s₀ s := by
  simp at hpt
  unfold fbEdge; dsimp only; (repeat' split) <;> first | rfl | simp [hpt]
@[simp] theorem rawLineChange_same (n : Nat) (level : Bool) (s : State) (hpt : pt ∉ [.fb]) :
    pt.same s₀ (rawLineChange n level s) ↔ pt.same s₀ s := by
  simp at hpt
  simp [rawLineChange, hpt]
@[simp] theorem fbStaleTimeout_same (n : Nat) (s : State) (hpt : pt ∉ [.regs, .mtime, .events, .qs, .fb]) :
    pt.same s₀ (fbStaleTimeout n s) ↔ pt.same s₀ s := by
  simp at hpt
  unfold fbStaleTimeout; split <;> simp [*]
@[simp] theorem fbPeriodicRecord_same (n : Nat) (s : State) (hpt : pt ∉ [.regs, .mtime, .qs, .fb]) :
    pt.same s₀ (fbPeriodicRecord n s) ↔ pt.same s₀ s := by
  simp at hpt
  simp [fbPeriodicRecord, hpt]
@[simp] theorem clearFault_same (n : Nat) (s : State) (hpt : pt ∉ [.regs, .qs, .fb]) :
    pt.same s₀ (clearFault n s) ↔ pt.same s₀ s := by
  simp at hpt
  simp [clearFault, hpt]
@[simp] theorem countLoaded_same (n : Nat) (s : State) (hpt : pt ∉ [.regs, .qs, .marker, .fb]) :
    pt.same s₀ (countLoaded n s) ↔ pt.same s₀ s := by
  simp at hpt
  simp [countLoaded, hpt]
@[simp] theorem ssiFrame_same (n : Nat) (bits : Word) (parity startHigh endLow : Bool) (s : State) (hpt : pt ∉ [.regs, .events, .qs, .marker, .fb]) :
    pt.same s₀ (ssiFrame n bits parity startHigh endLow s) ↔ pt.same s₀ s := by
  simp at hpt
  simp [ssiFrame, hpt]
@[simp] theorem ssiStaleTimeout_same (n : Nat) (s : State) (hpt : pt ∉ [.regs, .mtime, .events, .qs, .fb]) :
    pt.same s₀ (ssiStaleTimeout n s) ↔ pt.same s₀ s := by
  simp at hpt
  unfold ssiStaleTimeout; split <;> simp [*]
@[simp] theorem failAi_same (m : Nat) (k : EvKind) (vals : List Int) (s : State) (hpt : pt ∉ [.regs, .events]) :
    pt.same s₀ (failAi m k vals s) ↔ pt.same s₀ s := by
  simp at hpt
  simp [failAi, hpt]
@[simp] theorem aiConversion_same (m raw : Nat) (over25 : Bool) (s : State) (hpt : pt ∉ [.regs, .freeCtr, .events, .marker, .fb]) :
    pt.same s₀ (aiConversion m raw over25 s) ↔ pt.same s₀ s := by
  simp at hpt
  simp [aiConversion, hpt]
@[simp] theorem aiBurdenReclose_same (m : Nat) (s : State) (hpt : pt ∉ [.regs]) :
    pt.same s₀ (aiBurdenReclose m s) ↔ pt.same s₀ s := by
  simp at hpt
  simp [aiBurdenReclose, hpt]
@[simp] theorem aiStaleTimeout_same (m : Nat) (s : State) (hpt : pt ∉ [.regs, .mtime]) :
    pt.same s₀ (aiStaleTimeout m s) ↔ pt.same s₀ s := by
  simp at hpt
  unfold aiStaleTimeout; split <;> simp [*]
@[simp] theorem ptShort_same (p : Nat) (s : State) (hpt : pt ∉ [.regs, .events]) :
    pt.same s₀ (ptShort p s) ↔ pt.same s₀ s := by
  simp at hpt
  simp [ptShort, hpt]
@[simp] theorem ptPulseEnd_same (p : Nat) (s : State) (hpt : pt ∉ [.mtime, .fb]) :
    pt.same s₀ (ptPulseEnd p s) ↔ pt.same s₀ s := by
  simp at hpt
  unfold ptPulseEnd; split <;> simp [*]
@[simp] theorem synthPeriod_same (p : Nat) (s : State) (hpt : pt ∉ [.mtime, .fb]) :
    pt.same s₀ (synthPeriod p s) ↔ pt.same s₀ s := by
  simp at hpt
  simp [synthPeriod, hpt]
@[simp] theorem setSynth_same (p : Nat) (v : Int) (valid : Bool) (s : State) (hpt : pt ∉ [.regs, .fb]) :
    pt.same s₀ (setSynth p v valid s) ↔ pt.same s₀ s := by
  simp at hpt
  simp [setSynth, hpt]
@[simp] theorem failSsi_same (n : Nat) (s : State) (hpt : pt ∉ [.regs, .events, .qs, .fb]) :
    pt.same s₀ (failSsi n s) ↔ pt.same s₀ s := by
  simp at hpt
  simp [failSsi, hpt]
@[simp] theorem failPowered_same (k : Nat) (s : State) (hpt : pt ∉ [.regs, .events, .qs, .fb]) :
    pt.same s₀ (failPowered k s) ↔ pt.same s₀ s := by
  simp at hpt
  simp [failPowered, hpt]
@[simp] theorem snsLevelChange_same (s : State) (hpt : pt ∉ [.regs, .events, .qs, .fb]) :
    pt.same s₀ (snsLevelChange s) ↔ pt.same s₀ s := by
  simp at hpt
  simp [snsLevelChange, hpt]
@[simp] theorem snsRestore_same (s : State) (hpt : pt ∉ [.mtime, .fb]) :
    pt.same s₀ (snsRestore s) ↔ pt.same s₀ s := by
  simp at hpt
  unfold snsRestore; split <;> simp [*]
@[simp] theorem feedbackWarm_same (s : State) (hpt : pt ∉ [.regs, .fb]) :
    pt.same s₀ (feedbackWarm s) ↔ pt.same s₀ s := by
  simp at hpt
  simp [feedbackWarm, hpt]

-- Health
@[simp] theorem cullet_same (k : Nat) (s : State) (hpt : pt ∉ [.regs, .events]) :
    pt.same s₀ (cullet k s) ↔ pt.same s₀ s := by
  simp at hpt
  simp [cullet, hpt]
@[simp] theorem culletClear_same (k : Nat) (s : State) (hpt : pt ∉ [.regs]) :
    pt.same s₀ (culletClear k s) ↔ pt.same s₀ s := by
  simp at hpt
  simp [culletClear, hpt]

-- Onyx
@[simp] theorem replaceTile_same (t : CacheTile) (s : State) (hpt : pt ∉ [.onyx]) :
    pt.same s₀ (replaceTile t s) ↔ pt.same s₀ s := by
  simp at hpt
  simp [replaceTile, hpt]
@[simp] theorem putTile_same (t : CacheTile) (s : State) (hpt : pt ∉ [.onyx]) :
    pt.same s₀ (putTile t s) ↔ pt.same s₀ s := by
  simp at hpt
  simp [putTile, hpt]
@[simp] theorem writeDir_same (i : Nat) (e : Word) (s : State) (hpt : pt ∉ [.onyx]) :
    pt.same s₀ (writeDir i e s) ↔ pt.same s₀ s := by
  simp at hpt
  simp [writeDir, hpt]
@[simp] theorem checkWear_same (s : State) (hpt : pt ∉ [.regs, .events]) :
    pt.same s₀ (checkWear s) ↔ pt.same s₀ s := by
  simp at hpt
  simp [checkWear, hpt]
@[simp] theorem writeBack_same (i : Nat) (s : State) (hpt : pt ∉ [.regs, .freeCtr, .events, .onyx]) :
    pt.same s₀ (writeBack i s) ↔ pt.same s₀ s := by
  simp at hpt
  unfold writeBack; (repeat' split) <;> simp [*]
@[simp] theorem flushTiles_same (s : State) (hpt : pt ∉ [.regs, .freeCtr, .events, .onyx]) :
    pt.same s₀ (flushTiles s) ↔ pt.same s₀ s := by
  simp at hpt
  simp [flushTiles, hpt]
@[simp] theorem makeRoom_same (s : State) (hpt : pt ∉ [.regs, .freeCtr, .events, .onyx]) :
    pt.same s₀ (makeRoom s) ↔ pt.same s₀ s := by
  simp at hpt
  unfold makeRoom; dsimp only; (repeat' split) <;> simp [*]
@[simp] theorem badTile_same (i : Nat) (s : State) (hpt : pt ∉ [.regs, .events, .onyx]) :
    pt.same s₀ (badTile i s) ↔ pt.same s₀ s := by
  simp at hpt
  unfold badTile; split <;> simp [*]
@[simp] theorem fetchTile_same (i : Nat) (readable : Bool) (s : State) (hpt : pt ∉ [.regs, .freeCtr, .events, .onyx]) :
    pt.same s₀ (fetchTile i readable s) ↔ pt.same s₀ s := by
  simp at hpt
  unfold fetchTile; split <;> simp [*]
@[simp] theorem tileFetch_same (i : Nat) (readable : Bool) (s : State) (hpt : pt ∉ [.regs, .freeCtr, .events, .onyx]) :
    pt.same s₀ (tileFetch i readable s) ↔ pt.same s₀ s := by
  simp at hpt
  simp [tileFetch, hpt]
@[simp] theorem markCell_same (f l : Nat) (ce cn : Int) (s : State) (hpt : pt ∉ [.regs, .freeCtr, .events, .onyx]) :
    pt.same s₀ (markCell f l ce cn s) ↔ pt.same s₀ s := by
  simp at hpt
  unfold markCell; split <;> simp [*]
@[simp] theorem noModel_same (s : State) (hpt : pt ∉ [.regs]) :
    pt.same s₀ (noModel s) ↔ pt.same s₀ s := by
  simp at hpt
  simp [noModel, hpt]
@[simp] theorem clearLayer_same (f l : Nat) (s : State) (hpt : pt ∉ [.regs, .events, .onyx]) :
    pt.same s₀ (clearLayer f l s) ↔ pt.same s₀ s := by
  simp at hpt
  simp [clearLayer, hpt]

-- Operands
@[simp] theorem setGather_same (g : Nat) (x : Gather) (s : State) (hpt : pt ∉ [.gathers]) :
    pt.same s₀ (setGather g x s) ↔ pt.same s₀ s := by
  simp at hpt
  simp [setGather, hpt]
@[simp] theorem rewindQueueWork_same (g : Nat) (s : State) (hpt : pt ∉ [.regs, .qs]) :
    pt.same s₀ (rewindQueueWork g s) ↔ pt.same s₀ s := by
  simp at hpt
  simp [rewindQueueWork, hpt]
@[simp] theorem dropQueueWork_same (g : Nat) (s : State) (hpt : pt ∉ [.regs, .qs]) :
    pt.same s₀ (dropQueueWork g s) ↔ pt.same s₀ s := by
  simp at hpt
  simp [dropQueueWork, hpt]
@[simp] theorem holdOutputs_same (g : Nat) (l : List Nat) (s : State) (hpt : pt ∉ [.outs]) :
    pt.same s₀ (holdOutputs g l s) ↔ pt.same s₀ s := by
  simp at hpt
  simp [holdOutputs, hpt]
@[simp] theorem enterFault_same (g code pc : Nat) (word : Word) (s : State) (hpt : pt ∉ [.regs, .events, .outs, .qs, .gathers]) :
    pt.same s₀ (enterFault g code pc word s) ↔ pt.same s₀ s := by
  simp at hpt
  simp [enterFault, hpt]
@[simp] theorem faultHere_same (g code : Nat) (s : State) (hpt : pt ∉ [.regs, .events, .outs, .qs, .gathers]) :
    pt.same s₀ (faultHere g code s) ↔ pt.same s₀ s := by
  simp at hpt
  simp [faultHere, hpt]
@[simp] theorem stallAs_same (g code : Nat) (s : State) (hpt : pt ∉ [.gathers]) :
    pt.same s₀ (stallAs g code s) ↔ pt.same s₀ s := by
  simp at hpt
  simp [stallAs, hpt]
@[simp] theorem countIssue_same (s : State) (hpt : pt ∉ [.eng]) :
    pt.same s₀ (countIssue s) ↔ pt.same s₀ s := by
  simp at hpt
  simp [countIssue, hpt]
@[simp] theorem retire_same (g : Nat) (f : Core → Core) (s : State) (hpt : pt ∉ [.eng, .gathers]) :
    pt.same s₀ (retire g f s) ↔ pt.same s₀ s := by
  simp at hpt
  simp [retire, hpt]
@[simp] theorem instruction_same (g : Nat) (illegal : Bool) (ws ps : List Nat) (body : State → State) (s : State) (hbody : ∀ s, pt.same s₀ (body s) ↔ pt.same s₀ s) (hpt : pt ∉ [.regs, .events, .outs, .qs, .gathers]) :
    pt.same s₀ (instruction g illegal ws ps body s) ↔ pt.same s₀ s := by
  simp at hpt
  unfold instruction; simp [*]
@[simp] theorem asyncInstr_same (g : Nat) (illegal : Bool) (ws ps : List Nat) (body : State → State) (s : State) (hbody : ∀ s, pt.same s₀ (body s) ↔ pt.same s₀ s) (hpt : pt ∉ [.regs, .events, .outs, .qs, .gathers]) :
    pt.same s₀ (asyncInstr g illegal ws ps body s) ↔ pt.same s₀ s := by
  simp at hpt
  unfold asyncInstr
  apply instruction_same
  · intro s; (repeat' split) <;> simp [*]
  · simp [hpt]
@[simp] theorem coreInstr_same (g : Nat) (illegal : Bool) (ws ps : List Nat) (f : Core → Core) (s : State) (hpt : pt ∉ [.regs, .events, .outs, .qs, .eng, .gathers]) :
    pt.same s₀ (coreInstr g illegal ws ps f s) ↔ pt.same s₀ s := by
  simp at hpt
  simp [coreInstr, hpt]
@[simp] theorem noteJournal_same (g : Nat) (s : State) (hpt : pt ∉ [.regs]) :
    pt.same s₀ (noteJournal g s) ↔ pt.same s₀ s := by
  simp at hpt
  simp [noteJournal, hpt]
@[simp] theorem journalAdd_same (g : Nat) (e : JEntry) (s : State) (hpt : pt ∉ [.regs, .gathers]) :
    pt.same s₀ (journalAdd g e s) ↔ pt.same s₀ s := by
  simp at hpt
  simp [journalAdd, hpt]
@[simp] theorem issueAsync_same (g : Nat) (k : OpKind) (wd pd : List Nat) (s : State) (hpt : pt ∉ [.eng, .gathers]) :
    pt.same s₀ (issueAsync g k wd pd s) ↔ pt.same s₀ s := by
  simp at hpt
  simp [issueAsync, hpt]

-- Marking
@[simp] theorem markCells_same (l : Nat) (cs : List (Nat × Int × Int)) (s : State) (hpt : pt ∉ [.regs, .freeCtr, .events, .onyx]) :
    pt.same s₀ (markCells l cs s) ↔ pt.same s₀ s := by
  simp at hpt
  simp [markCells, hpt]
@[simp] theorem markOutput_same (n lo hi : Nat) (s : State) (hpt : pt ∉ [.regs, .freeCtr, .events, .onyx]) :
    pt.same s₀ (markOutput n lo hi s) ↔ pt.same s₀ s := by
  simp at hpt
  unfold markOutput; split
  · split <;> simp [hpt]
  · rw [forAll_same _ _ _ (by intro p s; simp [hpt])]
@[simp] theorem forgetIntervals_same (n hi : Nat) (s : State) (hpt : pt ∉ [.outs]) :
    pt.same s₀ (forgetIntervals n hi s) ↔ pt.same s₀ s := by
  simp at hpt
  simp [forgetIntervals, hpt]
@[simp] theorem markUpTo_same (hi : Nat) (s : State) (hpt : pt ∉ [.regs, .freeCtr, .events, .outs, .onyx, .marker]) :
    pt.same s₀ (markUpTo hi s) ↔ pt.same s₀ s := by
  simp at hpt
  simp [markUpTo, hpt]
@[simp] theorem markerSweep_same (s : State) (hpt : pt ∉ [.regs, .mtime, .freeCtr, .events, .outs, .onyx, .marker]) :
    pt.same s₀ (markerSweep s) ↔ pt.same s₀ s := by
  simp at hpt
  simp [markerSweep, hpt]

end Sys2Proof.Machine
end

