-- ==== Sys2Proof/Laws/KeepsNav.lean ====
section
/-! SUPPORT. What each operation of maps, gathers, navigation, ownership, bus and recorder can change: every part outside its list is the same. -/
namespace Sys2Proof.Machine
set_option linter.unusedSimpArgs false
set_option linter.unusedVariables false
set_option linter.unnecessarySeqFocus false
variable {pt : Part} {s₀ : State}

-- Gnss
@[simp] theorem setNav_same (n : Nav) (s : State) (hpt : pt ∉ [.nav]) :
    pt.same s₀ (setNav n s) ↔ pt.same s₀ s := by
  simp at hpt
  simp [setNav, hpt]
@[simp] theorem noteSlip_same (k : Nat) (s : State) (hpt : pt ∉ [.nav]) :
    pt.same s₀ (noteSlip k s) ↔ pt.same s₀ s := by
  simp at hpt
  simp [noteSlip, hpt]
@[simp] theorem leaveLock_same (k st : Nat) (s : State) (hpt : pt ∉ [.regs, .nav]) :
    pt.same s₀ (leaveLock k st s) ↔ pt.same s₀ s := by
  simp at hpt
  simp [leaveLock, hpt]
@[simp] theorem idleChannel_same (k : Nat) (s : State) (hpt : pt ∉ [.regs, .nav]) :
    pt.same s₀ (idleChannel k s) ↔ pt.same s₀ s := by
  simp at hpt
  simp [idleChannel, hpt]
@[simp] theorem searchChannel_same (k : Nat) (s : State) (hpt : pt ∉ [.regs, .nav]) :
    pt.same s₀ (searchChannel k s) ↔ pt.same s₀ s := by
  simp at hpt
  simp [searchChannel, hpt]
@[simp] theorem noteChannel_same (r : MeasRec) (s : State) (hpt : pt ∉ [.regs, .nav]) :
    pt.same s₀ (noteChannel r s) ↔ pt.same s₀ s := by
  simp at hpt
  simp [noteChannel, hpt]
@[simp] theorem missChannel_same (k : Nat) (s : State) (hpt : pt ∉ [.regs, .nav]) :
    pt.same s₀ (missChannel k s) ↔ pt.same s₀ s := by
  simp at hpt
  simp [missChannel, hpt]
@[simp] theorem sendMeasurements_same (k t : Nat) (rs : List MeasRec) (s : State) (hpt : pt ∉ [.regs, .qs, .nav]) :
    pt.same s₀ (sendMeasurements k t rs s) ↔ pt.same s₀ s := by
  simp at hpt
  simp [sendMeasurements, hpt]
@[simp] theorem measurementEpoch_same (i : EpochInput) (s : State) (hpt : pt ∉ [.regs, .mtime, .qs, .nav]) :
    pt.same s₀ (measurementEpoch i s) ↔ pt.same s₀ s := by
  simp at hpt
  have h : ∀ (l : List MeasRec) s, pt.same s₀ (forAll (fun r s => onlyIf r.slip (noteSlip r.chan) s) l s) ↔ pt.same s₀ s :=
    fun l s => forAll_same _ _ _ (by intro r s; simp [hpt])
  unfold measurementEpoch; dsimp only; split <;> simp [*]
@[simp] theorem chainFailure_same (c : Nat) (s : State) (hpt : pt ∉ [.regs, .events, .nav]) :
    pt.same s₀ (chainFailure c s) ↔ pt.same s₀ s := by
  simp at hpt
  simp [chainFailure, hpt]
@[simp] theorem antOpen_same (a : Nat) (isOpen : Bool) (s : State) (hpt : pt ∉ [.regs, .events]) :
    pt.same s₀ (antOpen a isOpen s) ↔ pt.same s₀ s := by
  simp at hpt
  simp [antOpen, hpt]
@[simp] theorem gnssCold_same (s : State) (hpt : pt ∉ [.regs, .nav]) :
    pt.same s₀ (gnssCold s) ↔ pt.same s₀ s := by
  simp at hpt
  simp [gnssCold, hpt]
@[simp] theorem navStore_same (s : State) (hpt : pt ∉ [.nav]) :
    pt.same s₀ (navStore s) ↔ pt.same s₀ s := by
  simp at hpt
  simp [navStore, hpt]
@[simp] theorem gnsDown_same (s : State) (hpt : pt ∉ [.regs, .start, .nav]) :
    pt.same s₀ (gnsDown s) ↔ pt.same s₀ s := by
  simp at hpt
  simp [gnsDown, hpt]
@[simp] theorem badCorrection_same (crc : Bool) (s : State) (hpt : pt ∉ [.regs]) :
    pt.same s₀ (badCorrection crc s) ↔ pt.same s₀ s := by
  simp at hpt
  simp [badCorrection, hpt]
@[simp] theorem takeBase_same (b : BasePos) (s : State) (hpt : pt ∉ [.regs, .nav]) :
    pt.same s₀ (takeBase b s) ↔ pt.same s₀ s := by
  simp at hpt
  simp [takeBase, hpt]
@[simp] theorem takeMsm_same (m : MsmSet) (more : Bool) (s : State) (hpt : pt ∉ [.regs, .nav]) :
    pt.same s₀ (takeMsm m more s) ↔ pt.same s₀ s := by
  simp at hpt
  unfold takeMsm; dsimp only; (repeat' split) <;> simp [*]
@[simp] theorem takeMessage_same (p : List Byte) (s : State) (hpt : pt ∉ [.regs, .nav]) :
    pt.same s₀ (takeMessage p s) ↔ pt.same s₀ s := by
  simp at hpt
  unfold takeMessage; dsimp only; (repeat' split) <;> simp [*]
@[simp] theorem feedByte_same (src : Nat) (b : Byte) (s : State) (hpt : pt ∉ [.nav]) :
    pt.same s₀ (feedByte src b s) ↔ pt.same s₀ s := by
  simp at hpt
  simp [feedByte, hpt]
@[simp] theorem parseFrame_same (n : Nat) (s : State) (hpt : pt ∉ [.regs, .nav]) :
    pt.same s₀ (parseFrame n s) ↔ pt.same s₀ s := by
  simp at hpt
  induction n generalizing s with
  | zero => rfl
  | succ n ih => unfold parseFrame; dsimp only; (repeat' split) <;> simp [*]
@[simp] theorem rtcmFrame_same (src : Nat) (b : List Byte) (s : State) (hpt : pt ∉ [.regs, .nav]) :
    pt.same s₀ (rtcmFrame src b s) ↔ pt.same s₀ s := by
  simp at hpt
  have h : ∀ (l : List Byte) s, pt.same s₀ (forAll (feedByte 6) l s) ↔ pt.same s₀ s :=
    fun l s => forAll_same _ _ _ (by intro r s; simp [hpt])
  unfold rtcmFrame; (repeat' split) <;> simp [*]
@[simp] theorem corrStale_same (s : State) (hpt : pt ∉ [.regs, .events]) :
    pt.same s₀ (corrStale s) ↔ pt.same s₀ s := by
  simp at hpt
  simp [corrStale, hpt]
@[simp] theorem takeSet_same (g : Option Nat) (s : State) (hpt : pt ∉ [.regs, .nav]) :
    pt.same s₀ (takeSet g s) ↔ pt.same s₀ s := by
  simp at hpt
  unfold takeSet; (repeat' split) <;> simp [*]
@[simp] theorem noteMotion_same (s : State) (hpt : pt ∉ [.nav]) :
    pt.same s₀ (noteMotion s) ↔ pt.same s₀ s := by
  simp at hpt
  simp [noteMotion, hpt]
@[simp] theorem inertialSample_same (x : Option ImuSample) (s : State) (hpt : pt ∉ [.regs, .nav]) :
    pt.same s₀ (inertialSample x s) ↔ pt.same s₀ s := by
  simp at hpt
  unfold inertialSample; dsimp only; (repeat' split) <;> simp [*]
@[simp] theorem learnScale_same (v : Int) (k : Nat) (s : State) (hpt : pt ∉ [.regs]) :
    pt.same s₀ (learnScale v k s) ↔ pt.same s₀ s := by
  simp at hpt
  unfold learnScale; split <;> simp [*]
@[simp] theorem noteSolved_same (i : PoseInput) (r : Solved) (k m : Nat) (s : State) (hpt : pt ∉ [.freeCtr, .nav]) :
    pt.same s₀ (noteSolved i r k m s) ↔ pt.same s₀ s := by
  simp at hpt
  simp [noteSolved, hpt]
@[simp] theorem poseTime_same (i : PoseInput) (p : Pose) (m : Nat) (s : State) (hpt : pt ∉ [.regs, .freeCtr, .events, .clock]) :
    pt.same s₀ (poseTime i p m s) ↔ pt.same s₀ s := by
  simp at hpt
  unfold poseTime; (repeat' split) <;> simp [*]
@[simp] theorem poseRecorded_same (i : PoseInput) (used : Option Nat) (p : Pose) (src : Nat) (words : List Word) (m : Nat) (s : State) (hpt : pt ∉ [.regs, .freeCtr, .events, .qs, .marker, .nav, .clock]) :
    pt.same s₀ (poseRecorded i used p src words m s) ↔ pt.same s₀ s := by
  simp at hpt
  unfold poseRecorded; dsimp only; (repeat' split) <;> simp [*]
@[simp] theorem correctionStale_same (s : State) (hpt : pt ∉ [.regs, .mtime, .events]) :
    pt.same s₀ (correctionStale s) ↔ pt.same s₀ s := by
  simp at hpt
  unfold correctionStale; dsimp only; split <;> simp [*]
@[simp] theorem posePublish_same (i : PoseInput) (s : State) (hpt : pt ∉ [.regs, .mtime, .freeCtr, .events, .qs, .marker, .nav, .clock]) :
    pt.same s₀ (posePublish i s) ↔ pt.same s₀ s := by
  simp at hpt
  unfold posePublish; dsimp only; simp [hpt]; (repeat' split) <;> simp [*]
@[simp] theorem latchTick_same (t : Nat) (s : State) (hpt : pt ∉ [.regs, .eng, .marker, .nav]) :
    pt.same s₀ (latchTick t s) ↔ pt.same s₀ s := by
  simp at hpt
  unfold latchTick; split <;> simp [*]
@[simp] theorem wakeTick_same (g : Nat) (s : State) (hpt : pt ∉ [.gathers]) :
    pt.same s₀ (wakeTick g s) ↔ pt.same s₀ s := by
  simp at hpt
  simp [wakeTick, hpt]
@[simp] theorem turnSpeed_same (n : Nat) (s : State) (hpt : pt ∉ [.regs, .outs]) :
    pt.same s₀ (turnSpeed n s) ↔ pt.same s₀ s := by
  simp at hpt
  unfold turnSpeed; split <;> simp [*]
@[simp] theorem snapshotComplete_same (s : State) (hpt : pt ∉ [.regs, .outs, .eng, .gathers, .fb]) :
    pt.same s₀ (snapshotComplete s) ↔ pt.same s₀ s := by
  simp at hpt
  unfold snapshotComplete; split <;> simp [*]
@[simp] theorem startCaptureSnap_same (s : State) (hpt : pt ∉ [.regs, .nav]) :
    pt.same s₀ (startCaptureSnap s) ↔ pt.same s₀ s := by
  simp at hpt
  simp [startCaptureSnap, hpt]
@[simp] theorem captureDone_same (data : List Byte) (temp : BitVec 16) (s : State) (hpt : pt ∉ [.regs, .mtime, .nav]) :
    pt.same s₀ (captureDone data temp s) ↔ pt.same s₀ s := by
  simp at hpt
  unfold captureDone; split <;> simp [*]
@[simp] theorem startSolve_same (s : State) (hpt : pt ∉ [.regs, .nav]) :
    pt.same s₀ (startSolve s) ↔ pt.same s₀ s := by
  simp at hpt
  simp [startSolve, hpt]
@[simp] theorem solveResult_same (found : Option (Int × Int × Int × Nat)) (s : State) (hpt : pt ∉ [.regs]) :
    pt.same s₀ (solveResult found s) ↔ pt.same s₀ s := by
  simp at hpt
  unfold solveResult; (repeat' split) <;> simp [*]
@[simp] theorem solveDone_same (found : Option (Int × Int × Int × Nat)) (s : State) (hpt : pt ∉ [.regs, .access, .nav]) :
    pt.same s₀ (solveDone found s) ↔ pt.same s₀ s := by
  simp at hpt
  unfold solveDone; split
  · rfl
  · simp [hpt]
@[simp] theorem abortSnap_same (s : State) (hpt : pt ∉ [.regs, .nav]) :
    pt.same s₀ (abortSnap s) ↔ pt.same s₀ s := by
  simp at hpt
  simp [abortSnap, hpt]
@[simp] theorem gnsSelftestEnd_same (bad : Nat) (s : State) (hpt : pt ∉ [.regs, .start, .events, .nav]) :
    pt.same s₀ (gnsSelftestEnd bad s) ↔ pt.same s₀ s := by
  simp at hpt
  simp [gnsSelftestEnd, hpt]

-- Owner
@[simp] theorem setOwn_same (o : Own) (s : State) (hpt : pt ∉ [.own]) :
    pt.same s₀ (setOwn o s) ↔ pt.same s₀ s := by
  simp at hpt
  simp [setOwn, hpt]
@[simp] theorem endHandover_same (s : State) (hpt : pt ∉ [.regs, .own]) :
    pt.same s₀ (endHandover s) ↔ pt.same s₀ s := by
  simp at hpt
  simp [endHandover, hpt]
@[simp] theorem completeStart_same (s : State) (hpt : pt ∉ [.regs]) :
    pt.same s₀ (completeStart s) ↔ pt.same s₀ s := by
  simp at hpt
  simp [completeStart, hpt]
@[simp] theorem closeElection_same (s : State) (hpt : pt ∉ [.regs, .start, .own]) :
    pt.same s₀ (closeElection s) ↔ pt.same s₀ s := by
  simp at hpt
  simp [closeElection, hpt]
@[simp] theorem gainOwner_same (c : Nat) (s : State) (hpt : pt ∉ [.regs, .start, .own]) :
    pt.same s₀ (gainOwner c s) ↔ pt.same s₀ s := by
  simp at hpt
  simp [gainOwner, hpt]
@[simp] theorem loseOwner_same (s : State) (hpt : pt ∉ [.regs, .own]) :
    pt.same s₀ (loseOwner s) ↔ pt.same s₀ s := by
  simp at hpt
  simp [loseOwner, hpt]
@[simp] theorem ownRecord_same (sev : Nat) (k : EvKind) (old : Nat) (s : State) (hpt : pt ∉ [.regs, .events]) :
    pt.same s₀ (ownRecord sev k old s) ↔ pt.same s₀ s := by
  simp at hpt
  simp [ownRecord, hpt]
@[simp] theorem claimBy_same (c : Nat) (s : State) (hpt : pt ∉ [.regs, .start, .own, .events]) :
    pt.same s₀ (claimBy c s) ↔ pt.same s₀ s := by
  simp at hpt
  simp [claimBy, hpt]
@[simp] theorem electionEnds_same (s : State) (hpt : pt ∉ [.regs, .start, .own, .events]) :
    pt.same s₀ (electionEnds s) ↔ pt.same s₀ s := by
  simp at hpt
  unfold electionEnds; split <;> simp [*]
@[simp] theorem handover_same (t : Nat) (s : State) (hpt : pt ∉ [.regs, .own, .events]) :
    pt.same s₀ (handover t s) ↔ pt.same s₀ s := by
  simp at hpt
  simp [handover, hpt]
@[simp] theorem acceptBy_same (c : Nat) (s : State) (hpt : pt ∉ [.regs, .start, .own, .events]) :
    pt.same s₀ (acceptBy c s) ↔ pt.same s₀ s := by
  simp at hpt
  simp [acceptBy, hpt]
@[simp] theorem refreshHeartbeat_same (s : State) (hpt : pt ∉ [.own]) :
    pt.same s₀ (refreshHeartbeat s) ↔ pt.same s₀ s := by
  simp at hpt
  simp [refreshHeartbeat, hpt]
@[simp] theorem lapse_same (s : State) (hpt : pt ∉ [.regs, .own, .events]) :
    pt.same s₀ (lapse s) ↔ pt.same s₀ s := by
  simp at hpt
  simp [lapse, hpt]
@[simp] theorem heartbeatTimeout_same (s : State) (hpt : pt ∉ [.regs, .mtime, .own, .events]) :
    pt.same s₀ (heartbeatTimeout s) ↔ pt.same s₀ s := by
  simp at hpt
  simp [heartbeatTimeout, hpt]
@[simp] theorem handoverTimeout_same (s : State) (hpt : pt ∉ [.regs, .mtime, .own, .events]) :
    pt.same s₀ (handoverTimeout s) ↔ pt.same s₀ s := by
  simp at hpt
  simp [handoverTimeout, hpt]
@[simp] theorem seize_same (s : State) (hpt : pt ∉ [.regs, .start, .own, .events]) :
    pt.same s₀ (seize s) ↔ pt.same s₀ s := by
  simp at hpt
  simp [seize, hpt]
@[simp] theorem touchSession_same (s : State) (hpt : pt ∉ [.access]) :
    pt.same s₀ (touchSession s) ↔ pt.same s₀ s := by
  simp at hpt
  simp [touchSession, hpt]
@[simp] theorem openSession_same (p a : Nat) (s : State) (hpt : pt ∉ [.regs, .access, .ports]) :
    pt.same s₀ (openSession p a s) ↔ pt.same s₀ s := by
  simp at hpt
  simp [openSession, hpt]
@[simp] theorem endSession_same (s : State) (hpt : pt ∉ [.regs]) :
    pt.same s₀ (endSession s) ↔ pt.same s₀ s := by
  simp at hpt
  simp [endSession, hpt]
@[simp] theorem sessionTimeout_same (s : State) (hpt : pt ∉ [.regs, .mtime]) :
    pt.same s₀ (sessionTimeout s) ↔ pt.same s₀ s := by
  simp at hpt
  simp [sessionTimeout, hpt]
@[simp] theorem holderLost_same (s : State) (hpt : pt ∉ [.regs, .own, .events]) :
    pt.same s₀ (holderLost s) ↔ pt.same s₀ s := by
  simp at hpt
  simp [holderLost, hpt]

-- Remote
@[simp] theorem bindOut_same (n : Nat) (s : State) (hpt : pt ∉ [.regs, .outs]) :
    pt.same s₀ (bindOut n s) ↔ pt.same s₀ s := by
  simp at hpt
  simp [bindOut, hpt]
@[simp] theorem armOut_same (n : Nat) (s : State) (hpt : pt ∉ [.regs, .outs]) :
    pt.same s₀ (armOut n s) ↔ pt.same s₀ s := by
  simp at hpt
  simp [armOut, hpt]
@[simp] theorem armRem_same (d : Nat) (s : State) (hpt : pt ∉ [.regs]) :
    pt.same s₀ (armRem d s) ↔ pt.same s₀ s := by
  simp at hpt
  simp [armRem, hpt]
@[simp] theorem disarmRem_same (d : Nat) (s : State) (hpt : pt ∉ [.regs, .ports]) :
    pt.same s₀ (disarmRem d s) ↔ pt.same s₀ s := by
  simp at hpt
  simp [disarmRem, hpt]
@[simp] theorem stateReport_same (on late : Bool) (d : Nat) (s : State) (hpt : pt ∉ [.regs, .rems]) :
    pt.same s₀ (stateReport on late d s) ↔ pt.same s₀ s := by
  simp at hpt
  simp [stateReport, hpt]
@[simp] theorem latencyReport_same (on : Bool) (m d : Nat) (s : State) (hpt : pt ∉ [.regs, .events, .rems]) :
    pt.same s₀ (latencyReport on m d s) ↔ pt.same s₀ s := by
  simp at hpt
  simp [latencyReport, hpt]
@[simp] theorem reportTimeout_same (d : Nat) (s : State) (hpt : pt ∉ [.regs, .mtime, .events, .rems]) :
    pt.same s₀ (reportTimeout d s) ↔ pt.same s₀ s := by
  simp at hpt
  unfold reportTimeout; split <;> simp [*]

-- Memory
@[simp] theorem readWord_same (m g w : Nat) (k : State → State) (s : State) (hpt : pt ∉ [.regs, .rcv]) (hk : ∀ s, pt.same s₀ (k s) ↔ pt.same s₀ s) :
    pt.same s₀ (readWord m g w k s) ↔ pt.same s₀ s := by
  simp at hpt
  unfold readWord; split <;> simp [*]
@[simp] theorem localLoad_same (g d a n : Nat) (imm : BitVec 16) (signed : Bool) (s : State) (hpt : pt ∉ [.regs, .events, .rcv, .outs, .qs, .eng, .gathers]) :
    pt.same s₀ (localLoad g d a n imm signed s) ↔ pt.same s₀ s := by
  simp at hpt
  unfold localLoad
  apply instruction_same
  · intro s; dsimp only; (repeat' split) <;> simp [*]
  · simp [hpt]
@[simp] theorem localStore_same (g d a n : Nat) (imm : BitVec 16) (s : State) (hpt : pt ∉ [.regs, .events, .outs, .qs, .eng, .gathers]) :
    pt.same s₀ (localStore g d a n imm s) ↔ pt.same s₀ s := by
  simp at hpt
  simp [localStore, hpt]
@[simp] theorem cmemWrite_same (a : Nat) (v : Word) (s : State) (hpt : pt ∉ [.eng]) :
    pt.same s₀ (cmemWrite a v s) ↔ pt.same s₀ s := by
  simp at hpt
  simp [cmemWrite, hpt]
@[simp] theorem commonLoad_same (g d a : Nat) (imm : BitVec 16) (s : State) (hpt : pt ∉ [.regs, .events, .outs, .qs, .eng, .gathers]) :
    pt.same s₀ (commonLoad g d a imm s) ↔ pt.same s₀ s := by
  simp at hpt
  unfold commonLoad
  apply asyncInstr_same
  · intro s; dsimp only; (repeat' split) <;> simp [*]
  · simp [hpt]
@[simp] theorem commonStore_same (g d a : Nat) (imm : BitVec 16) (s : State) (hpt : pt ∉ [.regs, .events, .outs, .qs, .eng, .gathers]) :
    pt.same s₀ (commonStore g d a imm s) ↔ pt.same s₀ s := by
  simp at hpt
  simp [commonStore, hpt]

-- Async
@[simp] theorem markRemote_same (g d a b c : Nat) (s : State) (hpt : pt ∉ [.regs, .events, .outs, .qs, .eng, .gathers]) :
    pt.same s₀ (markRemote g d a b c s) ↔ pt.same s₀ s := by
  simp at hpt
  unfold markRemote
  apply asyncInstr_same
  · intro s; dsimp only; (repeat' split) <;> simp [*]
  · simp [hpt]
@[simp] theorem finishOp_same (g : Nat) (o : AsyncOp) (vals : List Word) (p : Option Seg) (s : State) (hpt : pt ∉ [.eng, .gathers]) :
    pt.same s₀ (finishOp g o vals p s) ↔ pt.same s₀ s := by
  simp at hpt
  simp [finishOp, hpt]
@[simp] theorem fetchUnder_same (s : State) (g layer : Nat) (q : Seg) (hpt : pt ∉ [.regs, .freeCtr, .events, .onyx]) :
    pt.same s₀ (fetchUnder s g layer q) ↔ pt.same s₀ s := by
  simp at hpt
  unfold fetchUnder; split
  · rfl
  · apply forAll_same; intro c s; split <;> simp [hpt]
@[simp] theorem fetchPath_same (s : State) (g layer i h t : Nat) (hpt : pt ∉ [.regs, .freeCtr, .events, .onyx]) :
    pt.same s₀ (fetchPath s g layer i h t) ↔ pt.same s₀ s := by
  simp at hpt
  unfold fetchPath; dsimp only; split
  · rfl
  · split
    · rfl
    · apply forAll_same; intro k s; simp [hpt]
@[simp] theorem completeOp_same (g : Nat) (o : AsyncOp) (s : State) (hpt : pt ∉ [.regs, .freeCtr, .events, .rcv, .qs, .eng, .gathers, .onyx]) :
    pt.same s₀ (completeOp g o s) ↔ pt.same s₀ s := by
  simp at hpt
  unfold completeOp; dsimp only; (repeat' split) <;> simp [*]
@[simp] theorem asyncCompletion_same (g k : Nat) (s : State) (hpt : pt ∉ [.regs, .freeCtr, .events, .rcv, .qs, .eng, .gathers, .onyx]) :
    pt.same s₀ (asyncCompletion g k s) ↔ pt.same s₀ s := by
  simp at hpt
  unfold asyncCompletion; split <;> simp [*]

-- Gathers
@[simp] theorem handLog_same (g sev code : Nat) (lo hi : Word) (s : State) (hpt : pt ∉ [.regs, .events]) :
    pt.same s₀ (handLog g sev code lo hi s) ↔ pt.same s₀ s := by
  simp at hpt
  simp [handLog, hpt]
@[simp] theorem commitStores_same  (js : List JEntry) (s : State) (hpt : pt ∉ [.eng]) :
    pt.same s₀ (commitStores js s) ↔ pt.same s₀ s := by
  simp at hpt
  induction js generalizing s with
  | nil => simp [commitStores]
  | cons e t ih => cases e <;> simp [commitStores, ih, hpt]
@[simp] theorem commitMarks_same  (js : List JEntry) (s : State) (hpt : pt ∉ [.regs, .freeCtr, .events, .onyx]) :
    pt.same s₀ (commitMarks js s) ↔ pt.same s₀ s := by
  simp at hpt
  induction js generalizing s with
  | nil => simp [commitMarks]
  | cons e t ih => cases e <;> simp [commitMarks, ih, hpt]
@[simp] theorem commitLogs_same (g : Nat) (js : List JEntry) (s : State) (hpt : pt ∉ [.regs, .events]) :
    pt.same s₀ (commitLogs g js s) ↔ pt.same s₀ s := by
  simp at hpt
  induction js generalizing s with
  | nil => simp [commitLogs]
  | cons e t ih => cases e <;> simp [commitLogs, ih, hpt]
@[simp] theorem commitEpoch_same (g : Nat) (w : GWait) (s : State) (hpt : pt ∉ [.regs, .freeCtr, .events, .qs, .eng, .gathers, .onyx]) :
    pt.same s₀ (commitEpoch g w s) ↔ pt.same s₀ s := by
  simp at hpt
  simp [commitEpoch, hpt]
@[simp] theorem epochThen_same (g : Nat) (w : GWait) (rest : State → State) (s : State) (hrest : ∀ s, pt.same s₀ (rest s) ↔ pt.same s₀ s) (hpt : pt ∉ [.regs, .freeCtr, .events, .qs, .eng, .gathers, .onyx]) :
    pt.same s₀ (epochThen g w rest s) ↔ pt.same s₀ s := by
  simp at hpt
  unfold epochThen; simp [*]
@[simp] theorem setPhase'_same (g : Nat) (p : GPhase) (s : State) (hpt : pt ∉ [.gathers]) :
    pt.same s₀ (setPhase' g p s) ↔ pt.same s₀ s := by
  simp at hpt
  simp [setPhase', hpt]
@[simp] theorem countMissed_same (g : Nat) (s : State) (hpt : pt ∉ [.regs, .gathers]) :
    pt.same s₀ (countMissed g s) ↔ pt.same s₀ s := by
  simp at hpt
  simp [countMissed, hpt]
@[simp] theorem noWait_same (g : Nat) (s : State) (hpt : pt ∉ [.gathers]) :
    pt.same s₀ (noWait g s) ↔ pt.same s₀ s := by
  simp at hpt
  simp [noWait, hpt]
@[simp] theorem waitTime_same (g a : Nat) (s : State) (hpt : pt ∉ [.regs, .freeCtr, .events, .outs, .qs, .eng, .gathers, .onyx]) :
    pt.same s₀ (waitTime g a s) ↔ pt.same s₀ s := by
  simp at hpt
  unfold waitTime
  apply instruction_same
  · intro s; dsimp only; apply epochThen_same
    · intro s; split <;> simp [hpt]
    · simp [hpt]
  · simp [hpt]
@[simp] theorem waitQueue_same (g q : Nat) (s : State) (hpt : pt ∉ [.regs, .freeCtr, .events, .outs, .qs, .eng, .gathers, .onyx]) :
    pt.same s₀ (waitQueue g q s) ↔ pt.same s₀ s := by
  simp at hpt
  unfold waitQueue
  apply instruction_same
  · intro s; split
    · simp [hpt]
    · apply epochThen_same
      · intro s; split <;> simp [hpt]
      · simp [hpt]
  · simp [hpt]
@[simp] theorem logRecord_same (g d sev code : Nat) (s : State) (hpt : pt ∉ [.regs, .events, .outs, .qs, .eng, .gathers]) :
    pt.same s₀ (logRecord g d sev code s) ↔ pt.same s₀ s := by
  simp at hpt
  simp [logRecord, hpt]
@[simp] theorem waitmWake_same (g : Nat) (s : State) (hpt : pt ∉ [.mtime, .gathers]) :
    pt.same s₀ (waitmWake g s) ↔ pt.same s₀ s := by
  simp at hpt
  unfold waitmWake; dsimp only; (repeat' split) <;> simp [*]
@[simp] theorem waitqWake_same (g : Nat) (s : State) (hpt : pt ∉ [.gathers]) :
    pt.same s₀ (waitqWake g s) ↔ pt.same s₀ s := by
  simp at hpt
  unfold waitqWake; dsimp only; (repeat' split) <;> simp [*]
@[simp] theorem setPage_same (k v : Nat) (s : State) (hpt : pt ∉ [.regs]) :
    pt.same s₀ (setPage k v s) ↔ pt.same s₀ s := by
  simp at hpt
  simp [setPage, hpt]
@[simp] theorem startGather_same (g : Nat) (s : State) (hpt : pt ∉ [.regs, .qs, .gathers]) :
    pt.same s₀ (startGather g s) ↔ pt.same s₀ s := by
  simp at hpt
  simp [startGather, hpt]
@[simp] theorem restoreGather_same (g : Nat) (s : State) (hpt : pt ∉ [.regs, .qs, .gathers]) :
    pt.same s₀ (restoreGather g s) ↔ pt.same s₀ s := by
  simp at hpt
  simp [restoreGather, hpt]
@[simp] theorem stopGather_same (g : Nat) (s : State) (hpt : pt ∉ [.regs, .qs, .gathers]) :
    pt.same s₀ (stopGather g s) ↔ pt.same s₀ s := by
  simp at hpt
  unfold stopGather; split <;> simp [*]
@[simp] theorem startingComplete_same (g : Nat) (s : State) (hpt : pt ∉ [.gathers]) :
    pt.same s₀ (startingComplete g s) ↔ pt.same s₀ s := by
  simp at hpt
  simp [startingComplete, hpt]
@[simp] theorem gatherHoldEnd_same (g : Nat) (s : State) (hpt : pt ∉ [.regs, .mtime, .events, .outs, .qs, .gathers]) :
    pt.same s₀ (gatherHoldEnd g s) ↔ pt.same s₀ s := by
  simp at hpt
  unfold gatherHoldEnd; dsimp only; (repeat' split) <;> simp [*]

-- Loader
@[simp] theorem zeroPage_same (k : Nat) (s : State) (hpt : pt ∉ [.eng]) :
    pt.same s₀ (zeroPage k s) ↔ pt.same s₀ s := by
  simp at hpt
  simp [zeroPage, hpt]
@[simp] theorem freePage_same (k : Nat) (s : State) (hpt : pt ∉ [.regs, .eng]) :
    pt.same s₀ (freePage k s) ↔ pt.same s₀ s := by
  simp at hpt
  simp [freePage, hpt]
@[simp] theorem openLoad_same (s : State) (hpt : pt ∉ [.regs, .eng]) :
    pt.same s₀ (openLoad s) ↔ pt.same s₀ s := by
  simp at hpt
  simp [openLoad, hpt]
@[simp] theorem writeProg_same (i : Nat) (v : Word) (s : State) (hpt : pt ∉ [.eng]) :
    pt.same s₀ (writeProg i v s) ↔ pt.same s₀ s := by
  simp at hpt
  simp [writeProg, hpt]
@[simp] theorem startVerify_same (signed : Bool) (s : State) (hpt : pt ∉ [.regs, .eng]) :
    pt.same s₀ (startVerify signed s) ↔ pt.same s₀ s := by
  simp at hpt
  simp [startVerify, hpt]
@[simp] theorem closeLoad_same (r : Nat) (s : State) (hpt : pt ∉ [.regs, .eng]) :
    pt.same s₀ (closeLoad r s) ↔ pt.same s₀ s := by
  simp at hpt
  simp [closeLoad, hpt]
@[simp] theorem verifyDone_same (s : State) (hpt : pt ∉ [.regs, .events, .eng]) :
    pt.same s₀ (verifyDone s) ↔ pt.same s₀ s := by
  simp at hpt
  unfold verifyDone; split <;> simp [*]
@[simp] theorem abortLoad_same (s : State) (hpt : pt ∉ [.regs, .eng]) :
    pt.same s₀ (abortLoad s) ↔ pt.same s₀ s := by
  simp at hpt
  simp [abortLoad, hpt]
@[simp] theorem releaseRun_same (s : State) (hpt : pt ∉ [.regs, .eng]) :
    pt.same s₀ (releaseRun s) ↔ pt.same s₀ s := by
  simp at hpt
  simp [releaseRun, hpt]

-- ConfigImage
@[simp] theorem setStage_same (x : Staging) (s : State) (hpt : pt ∉ [.stage]) :
    pt.same s₀ (setStage x s) ↔ pt.same s₀ s := by
  simp at hpt
  simp [setStage, hpt]
@[simp] theorem stageWrite_same (a : Nat) (w : Word) (s : State) (hpt : pt ∉ [.regs, .stage]) :
    pt.same s₀ (stageWrite a w s) ↔ pt.same s₀ s := by
  simp at hpt
  simp [stageWrite, hpt]
@[simp] theorem candidateImage_same (s : State) (hpt : pt ∉ [.regs]) :
    pt.same s₀ (candidateImage s) ↔ pt.same s₀ s := by
  simp at hpt
  simp [candidateImage, hpt]
@[simp] theorem stageOpen_same (s : State) (hpt : pt ∉ [.regs, .stage]) :
    pt.same s₀ (stageOpen s) ↔ pt.same s₀ s := by
  simp at hpt
  simp [stageOpen, hpt]
@[simp] theorem cfgCheck_same (s : State) (hpt : pt ∉ [.regs, .stage]) :
    pt.same s₀ (cfgCheck s) ↔ pt.same s₀ s := by
  simp at hpt
  simp [cfgCheck, hpt]
@[simp] theorem cfgCheckDone_same (s : State) (hpt : pt ∉ [.regs, .access, .stage]) :
    pt.same s₀ (cfgCheckDone s) ↔ pt.same s₀ s := by
  simp at hpt
  unfold cfgCheckDone; dsimp only; (repeat' split) <;> simp [*]
@[simp] theorem cfgDiscard_same (s : State) (hpt : pt ∉ [.regs, .access, .stage]) :
    pt.same s₀ (cfgDiscard s) ↔ pt.same s₀ s := by
  simp at hpt
  unfold cfgDiscard; split <;> simp [*]
@[simp] theorem imageStore_same (s : State) (hpt : pt ∉ [.nv, .stage]) :
    pt.same s₀ (imageStore s) ↔ pt.same s₀ s := by
  simp at hpt
  simp [imageStore, hpt]

-- Fleet
@[simp] theorem setFleet_same (f : Fleet) (s : State) (hpt : pt ∉ [.fleet]) :
    pt.same s₀ (setFleet f s) ↔ pt.same s₀ s := by
  simp at hpt
  simp [setFleet, hpt]
@[simp] theorem setPeer_same (k : Nat) (x : PeerRound) (s : State) (hpt : pt ∉ [.fleet]) :
    pt.same s₀ (setPeer k x s) ↔ pt.same s₀ s := by
  simp at hpt
  simp [setPeer, hpt]
@[simp] theorem fleetRound_same (s : State) (hpt : pt ∉ [.mtime, .fleet, .ports]) :
    pt.same s₀ (fleetRound s) ↔ pt.same s₀ s := by
  simp at hpt
  simp [fleetRound, hpt]
@[simp] theorem judgeSkew_same (gen : Nat) (s : State) (hpt : pt ∉ [.regs, .events]) :
    pt.same s₀ (judgeSkew gen s) ↔ pt.same s₀ s := by
  simp at hpt
  unfold judgeSkew; (repeat' split) <;> simp [*]
@[simp] theorem peerComplete_same (k : Nat) (str : List Byte) (s : State) (hpt : pt ∉ [.regs, .events, .fleet]) :
    pt.same s₀ (peerComplete k str s) ↔ pt.same s₀ s := by
  simp at hpt
  simp [peerComplete, hpt]
@[simp] theorem peerPart_same (k : Nat) (d : List Byte) (s : State) (hpt : pt ∉ [.regs, .freeCtr, .events, .fleet]) :
    pt.same s₀ (peerPart k d s) ↔ pt.same s₀ s := by
  simp at hpt
  simp [peerPart, hpt]
@[simp] theorem fleetFrame_same (p src : Nat) (d : List Byte) (s : State) (hpt : pt ∉ [.regs, .freeCtr, .events, .fleet]) :
    pt.same s₀ (fleetFrame p src d s) ↔ pt.same s₀ s := by
  simp at hpt
  simp [fleetFrame, hpt]
@[simp] theorem peerTimeout_same (k : Nat) (s : State) (hpt : pt ∉ [.regs, .mtime, .events, .fleet]) :
    pt.same s₀ (peerTimeout k s) ↔ pt.same s₀ s := by
  simp at hpt
  simp [peerTimeout, hpt]

-- Bus
@[simp] theorem sendProt_same (p : Nat) (f : CanFrame) (s : State) (hpt : pt ∉ [.ports]) :
    pt.same s₀ (sendProt p f s) ↔ pt.same s₀ s := by
  simp at hpt
  simp [sendProt, hpt]
@[simp] theorem deliverFrame_same (p : Nat) (f : CanFrame) (filt : Nat) (bad own : Bool) (sof : Nat) (s : State) (hpt : pt ∉ [.regs, .qs]) :
    pt.same s₀ (deliverFrame p f filt bad own sof s) ↔ pt.same s₀ s := by
  simp at hpt
  simp [deliverFrame, hpt]
@[simp] theorem deliverOwn_same (p h w1 : Nat) (data : List Byte) (s : State) (hpt : pt ∉ [.regs, .freeCtr, .qs]) :
    pt.same s₀ (deliverOwn p h w1 data s) ↔ pt.same s₀ s := by
  simp at hpt
  simp [deliverOwn, hpt]
@[simp] theorem countBad_same (p : Nat) (s : State) (hpt : pt ∉ [.regs, .events]) :
    pt.same s₀ (countBad p s) ↔ pt.same s₀ s := by
  simp at hpt
  simp [countBad, hpt]
@[simp] theorem enterPassive_same (p : Nat) (s : State) (hpt : pt ∉ [.regs, .events, .ports]) :
    pt.same s₀ (enterPassive p s) ↔ pt.same s₀ s := by
  simp at hpt
  simp [enterPassive, hpt]
@[simp] theorem enterBusOff_same (p : Nat) (s : State) (hpt : pt ∉ [.regs, .events, .ports]) :
    pt.same s₀ (enterBusOff p s) ↔ pt.same s₀ s := by
  simp at hpt
  simp [enterBusOff, hpt]
@[simp] theorem judgeErrors_same (p : Nat) (s : State) (hpt : pt ∉ [.regs, .events, .ports]) :
    pt.same s₀ (judgeErrors p s) ↔ pt.same s₀ s := by
  simp at hpt
  simp [judgeErrors, hpt]
@[simp] theorem enterInit_same (p : Nat) (s : State) (hpt : pt ∉ [.regs, .ports]) :
    pt.same s₀ (enterInit p s) ↔ pt.same s₀ s := by
  simp at hpt
  simp [enterInit, hpt]
@[simp] theorem frameEnds_same (p : Nat) (s : State) (hpt : pt ∉ [.regs, .ports]) :
    pt.same s₀ (frameEnds p s) ↔ pt.same s₀ s := by
  simp at hpt
  simp [frameEnds, hpt]
@[simp] theorem noteAckError_same (p : Nat) (s : State) (hpt : pt ∉ [.regs, .events, .ports]) :
    pt.same s₀ (noteAckError p s) ↔ pt.same s₀ s := by
  simp at hpt
  simp [noteAckError, hpt]
@[simp] theorem endOneshot_same (p : Nat) (s : State) (hpt : pt ∉ [.svc]) :
    pt.same s₀ (endOneshot p s) ↔ pt.same s₀ s := by
  simp at hpt
  simp [endOneshot, hpt]
@[simp] theorem busError_same (p kind : Nat) (tx eight : Bool) (s : State) (hpt : pt ∉ [.regs, .events, .svc, .ports]) :
    pt.same s₀ (busError p kind tx eight s) ↔ pt.same s₀ s := by
  simp at hpt
  simp [busError, hpt]
@[simp] theorem busoffRecovered_same (p : Nat) (s : State) (hpt : pt ∉ [.regs, .events, .ports]) :
    pt.same s₀ (busoffRecovered p s) ↔ pt.same s₀ s := by
  simp at hpt
  simp [busoffRecovered, hpt]
@[simp] theorem startRecovery_same (p : Nat) (s : State) (hpt : pt ∉ [.regs, .ports]) :
    pt.same s₀ (startRecovery p s) ↔ pt.same s₀ s := by
  simp at hpt
  simp [startRecovery, hpt]
@[simp] theorem startClaim_same (p a : Nat) (s : State) (hpt : pt ∉ [.regs, .ports]) :
    pt.same s₀ (startClaim p a s) ↔ pt.same s₀ s := by
  simp at hpt
  simp [startClaim, hpt]
@[simp] theorem leaveInit_same (p : Nat) (s : State) (hpt : pt ∉ [.regs, .events, .ports]) :
    pt.same s₀ (leaveInit p s) ↔ pt.same s₀ s := by
  simp at hpt
  simp [leaveInit, hpt]
@[simp] theorem portInit_same (p : Nat) (v : Bool) (s : State) (hpt : pt ∉ [.regs, .events, .ports]) :
    pt.same s₀ (portInit p v s) ↔ pt.same s₀ s := by
  simp at hpt
  simp [portInit, hpt]
@[simp] theorem wakePort_same (p : Nat) (s : State) (hpt : pt ∉ [.regs, .ports]) :
    pt.same s₀ (wakePort p s) ↔ pt.same s₀ s := by
  simp at hpt
  simp [wakePort, hpt]
@[simp] theorem requestSleep_same (p : Nat) (s : State) (hpt : pt ∉ [.ports]) :
    pt.same s₀ (requestSleep p s) ↔ pt.same s₀ s := by
  simp at hpt
  simp [requestSleep, hpt]
@[simp] theorem sleepEntry_same (p : Nat) (s : State) (hpt : pt ∉ [.regs, .ports]) :
    pt.same s₀ (sleepEntry p s) ↔ pt.same s₀ s := by
  simp at hpt
  simp [sleepEntry, hpt]
@[simp] theorem wakeCondition_same (p : Nat) (c : WakeCond) (s : State) (hpt : pt ∉ [.regs, .ports]) :
    pt.same s₀ (wakeCondition p c s) ↔ pt.same s₀ s := by
  simp at hpt
  simp [wakeCondition, hpt]

-- Transport
@[simp] theorem loseAddress_same (p : Nat) (s : State) (hpt : pt ∉ [.regs, .events, .ports]) :
    pt.same s₀ (loseAddress p s) ↔ pt.same s₀ s := by
  simp at hpt
  unfold loseAddress; dsimp only; (repeat' split) <;> simp [*]
@[simp] theorem claimReceived_same (p a name : Nat) (s : State) (hpt : pt ∉ [.regs, .own, .events, .ports]) :
    pt.same s₀ (claimReceived p a name s) ↔ pt.same s₀ s := by
  simp at hpt
  simp [claimReceived, hpt]
@[simp] theorem claimRequested_same (p : Nat) (s : State) (hpt : pt ∉ [.ports]) :
    pt.same s₀ (claimRequested p s) ↔ pt.same s₀ s := by
  simp at hpt
  simp [claimRequested, hpt]
@[simp] theorem claimTimeout_same (p : Nat) (s : State) (hpt : pt ∉ [.regs, .mtime, .ports]) :
    pt.same s₀ (claimTimeout p s) ↔ pt.same s₀ s := by
  simp at hpt
  unfold claimTimeout; split <;> simp [*]
@[simp] theorem dm1Period_same (p : Nat) (s : State) (hpt : pt ∉ [.mtime, .ports]) :
    pt.same s₀ (dm1Period p s) ↔ pt.same s₀ s := by
  simp at hpt
  simp [dm1Period, hpt]
@[simp] theorem dm2Request_same (p : Nat) (s : State) (hpt : pt ∉ [.ports]) :
    pt.same s₀ (dm2Request p s) ↔ pt.same s₀ s := by
  simp at hpt
  simp [dm2Request, hpt]
@[simp] theorem dm3Received_same (p src : Nat) (s : State) (hpt : pt ∉ [.ports]) :
    pt.same s₀ (dm3Received p src s) ↔ pt.same s₀ s := by
  simp at hpt
  simp [dm3Received, hpt]
@[simp] theorem dropRx_same (p src : Nat) (bam etp : Bool) (s : State) (hpt : pt ∉ [.ports]) :
    pt.same s₀ (dropRx p src bam etp s) ↔ pt.same s₀ s := by
  simp at hpt
  simp [dropRx, hpt]
@[simp] theorem putRx_same (p : Nat) (r : RxSession) (s : State) (hpt : pt ∉ [.ports]) :
    pt.same s₀ (putRx p r s) ↔ pt.same s₀ s := by
  simp at hpt
  simp [putRx, hpt]
@[simp] theorem failRx_same (p : Nat) (r : RxSession) (s : State) (hpt : pt ∉ [.regs, .freeCtr, .qs, .ports]) :
    pt.same s₀ (failRx p r s) ↔ pt.same s₀ s := by
  simp at hpt
  simp [failRx, hpt]
@[simp] theorem sendCts_same (p : Nat) (r : RxSession) (s : State) (hpt : pt ∉ [.ports]) :
    pt.same s₀ (sendCts p r s) ↔ pt.same s₀ s := by
  simp at hpt
  simp [sendCts, hpt]
@[simp] theorem rtsReceived_same (p src prio total most pgn : Nat) (etp : Bool) (s : State) (hpt : pt ∉ [.regs, .freeCtr, .qs, .ports]) :
    pt.same s₀ (rtsReceived p src prio total most pgn etp s) ↔ pt.same s₀ s := by
  simp at hpt
  unfold rtsReceived; (repeat' split) <;> simp [*]
@[simp] theorem bamReceived_same (p src prio total pgn : Nat) (s : State) (hpt : pt ∉ [.regs, .freeCtr, .qs, .ports]) :
    pt.same s₀ (bamReceived p src prio total pgn s) ↔ pt.same s₀ s := by
  simp at hpt
  unfold bamReceived; (repeat' split) <;> simp [*]
@[simp] theorem deliverParts_same (p : Nat) (r : RxSession) (s : State) (hpt : pt ∉ [.regs, .freeCtr, .qs]) :
    pt.same s₀ ((deliverParts p r s).2) ↔ pt.same s₀ s := by
  simp at hpt
  unfold deliverParts; (repeat' split) <;> simp [*]
@[simp] theorem finishRx_same (p : Nat) (r : RxSession) (s : State) (hpt : pt ∉ [.regs, .ports]) :
    pt.same s₀ (finishRx p r s) ↔ pt.same s₀ s := by
  simp at hpt
  simp [finishRx, hpt]
@[simp] theorem takePacket_same (p : Nat) (r : RxSession) (data : List Byte) (s : State) (hpt : pt ∉ [.regs, .freeCtr, .qs, .ports]) :
    pt.same s₀ (takePacket p r data s) ↔ pt.same s₀ s := by
  simp at hpt
  unfold takePacket; dsimp only; (repeat' split) <;> simp [*]
@[simp] theorem dataReceived_same (p src seq : Nat) (bam etp : Bool) (data : List Byte) (s : State) (hpt : pt ∉ [.regs, .freeCtr, .qs, .ports]) :
    pt.same s₀ (dataReceived p src seq bam etp data s) ↔ pt.same s₀ s := by
  simp at hpt
  unfold dataReceived; split <;> simp [*]
@[simp] theorem dpoReceived_same (p src n offset : Nat) (s : State) (hpt : pt ∉ [.ports]) :
    pt.same s₀ (dpoReceived p src n offset s) ↔ pt.same s₀ s := by
  simp at hpt
  unfold dpoReceived; split <;> simp [*]
@[simp] theorem ctsReceived_same (p node n next : Nat) (etp : Bool) (s : State) (hpt : pt ∉ [.ports]) :
    pt.same s₀ (ctsReceived p node n next etp s) ↔ pt.same s₀ s := by
  simp at hpt
  unfold ctsReceived; split <;> simp [*]
@[simp] theorem endTx_same (p : Nat) (t : TxSession) (s : State) (hpt : pt ∉ [.ports]) :
    pt.same s₀ (endTx p t s) ↔ pt.same s₀ s := by
  simp at hpt
  simp [endTx, hpt]
@[simp] theorem failTx_same (p : Nat) (t : TxSession) (s : State) (hpt : pt ∉ [.regs, .freeCtr, .events, .qs, .ports]) :
    pt.same s₀ (failTx p t s) ↔ pt.same s₀ s := by
  simp at hpt
  simp [failTx, hpt]
@[simp] theorem abortReceived_same (p node : Nat) (etp : Bool) (s : State) (hpt : pt ∉ [.regs, .freeCtr, .events, .qs, .ports]) :
    pt.same s₀ (abortReceived p node etp s) ↔ pt.same s₀ s := by
  simp at hpt
  unfold abortReceived; dsimp only; (repeat' split) <;> simp [*]
@[simp] theorem endAck_same (p node : Nat) (etp : Bool) (s : State) (hpt : pt ∉ [.regs, .ports]) :
    pt.same s₀ (endAck p node etp s) ↔ pt.same s₀ s := by
  simp at hpt
  unfold endAck; split <;> simp [*]
@[simp] theorem tpTimeout_same (p : Nat) (rx : Option (Nat × Bool × Bool)) (s : State) (hpt : pt ∉ [.regs, .freeCtr, .events, .qs, .ports]) :
    pt.same s₀ (tpTimeout p rx s) ↔ pt.same s₀ s := by
  simp at hpt
  unfold tpTimeout; (repeat' split) <;> simp [*]
@[simp] theorem bamPacket_same (p : Nat) (s : State) (hpt : pt ∉ [.mtime, .ports]) :
    pt.same s₀ (bamPacket p s) ↔ pt.same s₀ s := by
  simp at hpt
  unfold bamPacket; split <;> simp [*]
@[simp] theorem startTx_same (p : Nat) (i : TxItem) (s : State) (hpt : pt ∉ [.regs, .qs, .ports]) :
    pt.same s₀ (startTx p i s) ↔ pt.same s₀ s := by
  simp at hpt
  simp [startTx, hpt]
@[simp] theorem packetSent_same (p : Nat) (t : TxSession) (s : State) (hpt : pt ∉ [.regs, .ports]) :
    pt.same s₀ (packetSent p t s) ↔ pt.same s₀ s := by
  simp at hpt
  simp [packetSent, hpt]

-- Send
@[simp] theorem popItem_same (p n : Nat) (s : State) (hpt : pt ∉ [.regs, .qs, .ports]) :
    pt.same s₀ (popItem p n s) ↔ pt.same s₀ s := by
  simp at hpt
  simp [popItem, hpt]
@[simp] theorem popSent_same (p : Nat) (s : State) (hpt : pt ∉ [.regs, .qs, .ports]) :
    pt.same s₀ (popSent p s) ↔ pt.same s₀ s := by
  simp at hpt
  simp [popSent, hpt]
@[simp] theorem discardCmd_same (p : Nat) (ds : List Nat) (n : Nat) (s : State) (hpt : pt ∉ [.regs, .qs, .ports]) :
    pt.same s₀ (discardCmd p ds n s) ↔ pt.same s₀ s := by
  simp at hpt
  simp [discardCmd, hpt]
@[simp] theorem takeItem_same (p : Nat) (i : TxItem) (s : State) (hpt : pt ∉ [.regs, .events, .qs, .ports]) :
    pt.same s₀ (takeItem p i s) ↔ pt.same s₀ s := by
  simp at hpt
  simp [takeItem, hpt]
@[simp] theorem streamItemTaken_same (p : Nat) (s : State) (hpt : pt ∉ [.regs, .events, .qs, .ports]) :
    pt.same s₀ (streamItemTaken p s) ↔ pt.same s₀ s := by
  simp at hpt
  unfold streamItemTaken; dsimp only; (repeat' split) <;> simp [*]
@[simp] theorem checkPast_same (p sof : Nat) (f : CanFrame) (s : State) (hpt : pt ∉ [.regs, .events]) :
    pt.same s₀ (checkPast p sof f s) ↔ pt.same s₀ s := by
  simp at hpt
  unfold checkPast; split <;> simp [*]
@[simp] theorem sourceDone_same (p sof : Nat) (src : TxSrc) (f : CanFrame) (s : State) (hpt : pt ∉ [.regs, .freeCtr, .events, .qs, .ports]) :
    pt.same s₀ (sourceDone p sof src f s) ↔ pt.same s₀ s := by
  simp at hpt
  unfold sourceDone; dsimp only
  (repeat' split) <;> simp [*]
@[simp] theorem noteTdc_same (p tdc : Nat) (f : CanFrame) (s : State) (hpt : pt ∉ [.regs]) :
    pt.same s₀ (noteTdc p tdc f s) ↔ pt.same s₀ s := by
  simp at hpt
  simp [noteTdc, hpt]
@[simp] theorem transmitComplete_same (p sof tdc : Nat) (s : State) (hpt : pt ∉ [.regs, .mtime, .freeCtr, .events, .svc, .qs, .ports]) :
    pt.same s₀ (transmitComplete p sof tdc s) ↔ pt.same s₀ s := by
  simp at hpt
  unfold transmitComplete; (repeat' split) <;> simp [*]
@[simp] theorem sendReq_same (p o : Nat) (s : State) (hpt : pt ∉ [.regs]) :
    pt.same s₀ (sendReq p o s) ↔ pt.same s₀ s := by
  simp at hpt
  simp [sendReq, hpt]
@[simp] theorem txAbort_same (p o : Nat) (s : State) (hpt : pt ∉ [.regs, .freeCtr, .ports]) :
    pt.same s₀ (txAbort p o s) ↔ pt.same s₀ s := by
  simp at hpt
  simp [txAbort, hpt]

-- Receive
@[simp] theorem countGood_same (p : Nat) (s : State) (hpt : pt ∉ [.regs, .freeCtr, .events, .ports]) :
    pt.same s₀ (countGood p s) ↔ pt.same s₀ s := by
  simp at hpt
  simp [countGood, hpt]
@[simp] theorem judgeCheck_same (p i : Nat) (d : List Byte) (s : State) (hpt : pt ∉ [.regs, .events, .ports]) :
    pt.same s₀ ((judgeCheck p i d s).2) ↔ pt.same s₀ s := by
  simp at hpt
  unfold judgeCheck; split <;> simp [*]
@[simp] theorem storeObject_same (p o : Nat) (f : CanFrame) (sof : Nat) (s : State) (hpt : pt ∉ [.regs]) :
    pt.same s₀ (storeObject p o f sof s) ↔ pt.same s₀ s := by
  simp at hpt
  simp [storeObject, hpt]
@[simp] theorem deliverReceived_same (p : Nat) (f : CanFrame) (sof : Nat) (s : State) (hpt : pt ∉ [.regs, .events, .qs, .ports]) :
    pt.same s₀ (deliverReceived p f sof s) ↔ pt.same s₀ s := by
  simp at hpt
  unfold deliverReceived; dsimp only; (repeat' split) <;> simp [*]
@[simp] theorem queueRequest_same (p src : Nat) (q : AccReq) (s : State) (hpt : pt ∉ [.regs, .events, .ports]) :
    pt.same s₀ (queueRequest p src q s) ↔ pt.same s₀ s := by
  simp at hpt
  simp [queueRequest, hpt]
@[simp] theorem cmReceived_same (p : Nat) (etp : Bool) (f : CanFrame) (s : State) (hpt : pt ∉ [.regs, .freeCtr, .events, .qs, .ports]) :
    pt.same s₀ (cmReceived p etp f s) ↔ pt.same s₀ s := by
  simp at hpt
  unfold cmReceived; split <;> simp [*]
@[simp] theorem requestReceived_same (p src pgn : Nat) (s : State) (hpt : pt ∉ [.ports]) :
    pt.same s₀ (requestReceived p src pgn s) ↔ pt.same s₀ s := by
  simp at hpt
  simp [requestReceived, hpt]
@[simp] theorem actOnIso_same (p : Nat) (f : CanFrame) (s : State) (hpt : pt ∉ [.regs, .own, .events, .ports]) :
    pt.same s₀ (actOnIso p f s) ↔ pt.same s₀ s := by
  simp at hpt
  simp [actOnIso, hpt]
@[simp] theorem takeTransport_same (p : Nat) (f : CanFrame) (s : State) (hpt : pt ∉ [.regs, .freeCtr, .events, .qs, .ports]) :
    pt.same s₀ (takeTransport p f s) ↔ pt.same s₀ s := by
  simp at hpt
  simp [takeTransport, hpt]
@[simp] theorem actOnReport_same (f : CanFrame) (d : Nat) (s : State) (hpt : pt ∉ [.regs, .events, .rems]) :
    pt.same s₀ (actOnReport f d s) ↔ pt.same s₀ s := by
  simp at hpt
  simp [actOnReport, hpt]
@[simp] theorem takeCorrection_same (p : Nat) (f : CanFrame) (s : State) (hpt : pt ∉ [.nav]) :
    pt.same s₀ (takeCorrection p f s) ↔ pt.same s₀ s := by
  simp at hpt
  simp [takeCorrection, hpt]
@[simp] theorem frameReceived_same (p : Nat) (f : CanFrame) (sof : Nat) (s : State) (hpt : pt ∉ [.regs, .mtime, .freeCtr, .own, .events, .fleet, .rems, .qs, .nav, .ports]) :
    pt.same s₀ (frameReceived p f sof s) ↔ pt.same s₀ s := by
  simp at hpt
  unfold frameReceived; dsimp only; (repeat' split) <;> simp [*]
@[simp] theorem checkTimeout_same (p i : Nat) (s : State) (hpt : pt ∉ [.regs, .mtime, .freeCtr, .events, .qs, .ports]) :
    pt.same s₀ (checkTimeout p i s) ↔ pt.same s₀ s := by
  simp at hpt
  simp [checkTimeout, hpt]

-- Agate
@[simp] theorem setAgate_same (r : Recorder) (s : State) (hpt : pt ∉ [.events, .records, .reader]) :
    pt.same s₀ (setAgate r s) ↔ pt.same s₀ s := by
  simp at hpt
  simp [setAgate, hpt]
@[simp] theorem setAgate_ev (s : State) (w q f) (hpt : pt ∉ [.events]) :
    pt.same s₀ (setAgate ⟨w, q, f, s.agate.store, s.agate.nextSeq, s.agate.severe, s.agate.sel, s.agate.ready⟩ s) ↔ pt.same s₀ s := by
  cases pt <;> first | rfl | (exfalso; revert hpt; decide)
@[simp] theorem setAgate_rd (s : State) (x y) (hpt : pt ∉ [.reader]) :
    pt.same s₀ (setAgate ⟨s.agate.waiting, s.agate.q103, s.agate.flood, s.agate.store, s.agate.nextSeq, s.agate.severe, x, y⟩ s) ↔ pt.same s₀ s := by
  cases pt <;> first | rfl | (exfalso; revert hpt; decide)
@[simp] theorem setAgate_rc (s : State) (a b c) (hpt : pt ∉ [.records]) :
    pt.same s₀ (setAgate ⟨s.agate.waiting, s.agate.q103, s.agate.flood, a, b, c, s.agate.sel, s.agate.ready⟩ s) ↔ pt.same s₀ s := by
  cases pt <;> first | rfl | (exfalso; revert hpt; decide)
@[simp] theorem setAgate_sr (s : State) (a b c x y) (hpt : pt ∉ [.records, .reader]) :
    pt.same s₀ (setAgate ⟨s.agate.waiting, s.agate.q103, s.agate.flood, a, b, c, x, y⟩ s) ↔ pt.same s₀ s := by
  cases pt <;> first | rfl | (exfalso; revert hpt; decide)
@[simp] theorem enterQ103_same (e : Stamped) (s : State) (hpt : pt ∉ [.regs, .events, .qs]) :
    pt.same s₀ (enterQ103 e s) ↔ pt.same s₀ s := by
  simp at hpt
  simp [enterQ103, hpt]
@[simp] theorem acceptEvent_same (s : State) (hpt : pt ∉ [.regs, .events, .qs]) :
    pt.same s₀ (acceptEvent s) ↔ pt.same s₀ s := by
  simp at hpt
  unfold acceptEvent; dsimp only; (repeat' split) <;> simp [*]
@[simp] theorem endFlood_same (s : State) (hpt : pt ∉ [.regs, .events, .qs]) :
    pt.same s₀ (endFlood s) ↔ pt.same s₀ s := by
  simp at hpt
  unfold endFlood; split <;> simp [*]
@[simp] theorem storeRecord_same (e : Stamped) (s : State) (hpt : pt ∉ [.regs, .records]) :
    pt.same s₀ (storeRecord e s) ↔ pt.same s₀ s := by
  simp at hpt
  unfold storeRecord; dsimp only; (repeat' split) <;> simp [*]
@[simp] theorem recordWrite_same (s : State) (hpt : pt ∉ [.regs, .events, .records, .qs]) :
    pt.same s₀ (recordWrite s) ↔ pt.same s₀ s := by
  simp at hpt
  unfold recordWrite; split <;> simp [*]
@[simp] theorem selectRecord_same (r : Record) (s : State) (hpt : pt ∉ [.regs, .reader]) :
    pt.same s₀ (selectRecord r s) ↔ pt.same s₀ s := by
  simp at hpt
  simp [selectRecord, hpt]
@[simp] theorem rdFirst_same (s : State) (hpt : pt ∉ [.regs, .reader]) :
    pt.same s₀ (rdFirst s) ↔ pt.same s₀ s := by
  simp at hpt
  unfold rdFirst; split <;> simp [*]
@[simp] theorem rdNext_same (s : State) (hpt : pt ∉ [.regs, .reader]) :
    pt.same s₀ (rdNext s) ↔ pt.same s₀ s := by
  simp at hpt
  unfold rdNext; (repeat' split) <;> simp [*]
@[simp] theorem rdSeq_same (s : State) (hpt : pt ∉ [.regs, .reader]) :
    pt.same s₀ (rdSeq s) ↔ pt.same s₀ s := by
  simp at hpt
  unfold rdSeq; dsimp only; (repeat' split) <;> simp [*]
@[simp] theorem clearStore_same (m : Master) (s : State) (hpt : pt ∉ [.regs, .records, .reader]) :
    pt.same s₀ (clearStore m s) ↔ pt.same s₀ s := by
  simp at hpt
  unfold clearStore; split <;> simp [*]
@[simp] theorem agateStart_same (torn : List Nat) (s : State) (hpt : pt ∉ [.regs, .events, .records, .reader]) :
    pt.same s₀ (agateStart torn s) ↔ pt.same s₀ s := by
  simp at hpt
  simp [agateStart, hpt]

end Sys2Proof.Machine
end

