-- ==== Sys2Proof/Laws/KeepsSys.lean ====
section
/-! SUPPORT. What each operation of resets, supplies, service, register rules and accesses can change: every part outside its list is the same. -/
namespace Sys2Proof.Machine
set_option linter.unusedSimpArgs false
set_option linter.unusedVariables false
set_option linter.unnecessarySeqFocus false
variable {pt : Part} {s₀ : State}

-- Recovery
@[simp] theorem startHold_same (s : State) (hpt : pt ∉ [.regs, .rcv]) :
    pt.same s₀ (startHold s) ↔ pt.same s₀ s := by
  simp at hpt
  simp [startHold, hpt]
@[simp] theorem holdWindowEnd_same (s : State) (hpt : pt ∉ [.regs, .mtime, .events, .rcv, .outs, .qs, .ports]) :
    pt.same s₀ (holdWindowEnd s) ↔ pt.same s₀ s := by
  simp at hpt
  unfold holdWindowEnd; split <;> simp [*]
@[simp] theorem dropHeld_same (q : Nat) (s : State) (hpt : pt ∉ [.qs]) :
    pt.same s₀ (dropHeld q s) ↔ pt.same s₀ s := by
  simp at hpt
  simp [dropHeld, hpt]
@[simp] theorem stopEngine_same (s : State) (hpt : pt ∉ [.regs, .qs, .eng, .gathers]) :
    pt.same s₀ (stopEngine s) ↔ pt.same s₀ s := by
  simp at hpt
  simp [stopEngine, hpt]
@[simp] theorem engineReset_same (cause : Nat) (s : State) (hpt : pt ∉ [.regs, .start, .events, .rcv, .qs, .eng, .gathers]) :
    pt.same s₀ (engineReset cause s) ↔ pt.same s₀ s := by
  simp at hpt
  simp [engineReset, hpt]
@[simp] theorem restartGathers_same (s : State) (hpt : pt ∉ [.regs, .start, .events, .qs, .gathers]) :
    pt.same s₀ (restartGathers s) ↔ pt.same s₀ s := by
  simp at hpt
  simp [restartGathers, hpt]
@[simp] theorem engineResetEnd_same (s : State) (hpt : pt ∉ [.regs, .mtime, .start, .access, .events, .rcv, .qs, .eng, .gathers]) :
    pt.same s₀ (engineResetEnd s) ↔ pt.same s₀ s := by
  simp at hpt
  unfold engineResetEnd; split <;> simp [*]
@[simp] theorem holdEngine_same (s : State) (hpt : pt ∉ [.regs, .start, .events, .rcv, .qs, .eng, .gathers]) :
    pt.same s₀ (holdEngine s) ↔ pt.same s₀ s := by
  simp at hpt
  simp [holdEngine, hpt]
@[simp] theorem pipeFail_same (k : Nat) (s : State) (hpt : pt ∉ [.regs, .start, .events, .rcv, .qs, .eng, .gathers]) :
    pt.same s₀ (pipeFail k s) ↔ pt.same s₀ s := by
  simp at hpt
  simp [pipeFail, hpt]
@[simp] theorem repair_same (e : HwError) (percent : Nat) (s : State) (hpt : pt ∉ [.regs, .start, .events, .rcv, .qs, .eng, .gathers]) :
    pt.same s₀ (repair e percent s) ↔ pt.same s₀ s := by
  simp at hpt
  unfold repair; split <;> simp [*]
@[simp] theorem gatherRewind_same (g : Nat) (e : HwError) (repairable : Bool) (percent : Nat) (s : State) (hpt : pt ∉ [.regs, .start, .events, .rcv, .outs, .qs, .eng, .gathers]) :
    pt.same s₀ (gatherRewind g e repairable percent s) ↔ pt.same s₀ s := by
  simp at hpt
  simp [gatherRewind, hpt]
@[simp] theorem rewindComplete_same (g : Nat) (s : State) (hpt : pt ∉ [.regs, .gathers]) :
    pt.same s₀ (rewindComplete g s) ↔ pt.same s₀ s := by
  simp at hpt
  unfold rewindComplete; dsimp only; (repeat' split) <;> simp [*]
@[simp] theorem memoryScrub_same (found : Nat) (s : State) (hpt : pt ∉ [.regs, .rcv]) :
    pt.same s₀ (memoryScrub found s) ↔ pt.same s₀ s := by
  simp at hpt
  simp [memoryScrub, hpt]
@[simp] theorem drainAgate_same  (fu : Nat) (s : State) (hpt : pt ∉ [.regs, .events, .records, .qs]) :
    pt.same s₀ (drainAgate fu s) ↔ pt.same s₀ s := by
  simp at hpt
  induction fu generalizing s with
  | zero => rfl
  | succ n ih => simp [drainAgate, ih, hpt]
@[simp] theorem writeOutAgate_same (s : State) (hpt : pt ∉ [.regs, .events, .records, .qs]) :
    pt.same s₀ (writeOutAgate s) ↔ pt.same s₀ s := by
  simp at hpt
  simp [writeOutAgate, hpt]
@[simp] theorem stageHash_same (ws : List Word) (s : State) (hpt : pt ∉ [.regs]) :
    pt.same s₀ (stageHash ws s) ↔ pt.same s₀ s := by
  simp at hpt
  simp [stageHash, hpt]
@[simp] theorem settleHash_same (s : State) (hpt : pt ∉ [.regs, .freeCtr, .nv]) :
    pt.same s₀ (settleHash s) ↔ pt.same s₀ s := by
  simp at hpt
  simp [settleHash, hpt]
@[simp] theorem unpowered_same (s : State) (hpt : pt ∉ [.regs, .mtime, .freeCtr, .reply, .sup, .start, .own, .unlock, .mbx, .access, .events, .records, .reader, .nv, .stage, .rcv, .fleet, .svc, .outs, .feeds, .rems, .qs, .readCap, .leads, .eng, .gathers, .maps, .onyx, .marker, .nav, .clock, .fb, .ports]) :
    pt.same s₀ (unpowered s) ↔ pt.same s₀ s := by
  simp at hpt
  rw [← settleHash_same (s₀ := s₀) s (by simp [hpt])]
  simp only [unpowered]
  cases pt <;> first | (exfalso; simp at hpt; done) | exact Iff.rfl
@[simp] theorem coldReset_same (pw : Power) (wake port cause : Nat) (s : State) (hpt : pt ∉ [.regs, .mtime, .freeCtr, .reply, .sup, .start, .own, .unlock, .mbx, .access, .events, .records, .reader, .nv, .stage, .rcv, .fleet, .svc, .outs, .feeds, .rems, .qs, .readCap, .leads, .eng, .gathers, .maps, .onyx, .marker, .nav, .clock, .fb, .ports]) :
    pt.same s₀ (coldReset pw wake port cause s) ↔ pt.same s₀ s := by
  simp at hpt
  simp [coldReset, hpt]
@[simp] theorem clearJasper_same (s : State) (hpt : pt ∉ [.regs, .svc]) :
    pt.same s₀ (clearJasper s) ↔ pt.same s₀ s := by
  simp at hpt
  simp [clearJasper, hpt]
@[simp] theorem endMeter_same (s : State) (hpt : pt ∉ [.regs, .events, .svc, .outs]) :
    pt.same s₀ (endMeter s) ↔ pt.same s₀ s := by
  simp at hpt
  unfold endMeter; dsimp only; (repeat' split) <;> simp [*]
@[simp] theorem warmReset_same (cause : Nat) (s : State) (hpt : pt ∉ [.regs, .freeCtr, .start, .own, .unlock, .mbx, .access, .events, .records, .reader, .nv, .stage, .rcv, .fleet, .svc, .outs, .qs, .eng, .gathers, .maps, .nav, .fb, .ports]) :
    pt.same s₀ (warmReset cause s) ↔ pt.same s₀ s := by
  simp at hpt
  unfold warmReset; extract_lets s1 s2 s3 run s4 s5 sr1 sr2 sr3 sr4 s6 s7 s8
  have e5 : pt.same s₀ s5 ↔ pt.same s₀ s := by
    simp only [s5, s4, s3, s2, s1, Part.same_ite]; simp [hpt]
  have e6 : pt.same s₀ s6 ↔ pt.same s₀ s5 := by
    cases pt <;> first | (exfalso; simp at hpt; done) | exact Iff.rfl
  simp [s8, s7, hpt, e6, e5]
@[simp] theorem warmRelease_same (s : State) (hpt : pt ∉ [.regs, .mtime, .start, .events, .qs, .gathers]) :
    pt.same s₀ (warmRelease s) ↔ pt.same s₀ s := by
  simp at hpt
  unfold warmRelease; split <;> simp [*]
@[simp] theorem pauseTimeouts_same (d : Nat) (s : State) (hpt : pt ∉ [.own, .access]) :
    pt.same s₀ (pauseTimeouts d s) ↔ pt.same s₀ s := by
  simp at hpt
  cases pt <;> first | (exfalso; simp at hpt; done) | exact Iff.rfl
@[simp] theorem supervisorRestart_same (s : State) (hpt : pt ∉ [.regs, .start, .own, .access, .events, .rcv]) :
    pt.same s₀ (supervisorRestart s) ↔ pt.same s₀ s := by
  simp at hpt
  unfold supervisorRestart; dsimp only; split <;> simp [hpt]
@[simp] theorem supervisorRestartEnd_same (s : State) (hpt : pt ∉ [.mtime, .start, .own, .access]) :
    pt.same s₀ (supervisorRestartEnd s) ↔ pt.same s₀ s := by
  unfold supervisorRestartEnd; split
  · rfl
  · dsimp only
    cases pt <;> first | (exfalso; revert hpt; decide) | exact Iff.rfl
@[simp] theorem tmrMismatch_same (fatal : Bool) (s : State) (hpt : pt ∉ [.regs, .mtime, .freeCtr, .reply, .sup, .start, .own, .unlock, .mbx, .access, .events, .records, .reader, .nv, .stage, .rcv, .fleet, .svc, .outs, .feeds, .rems, .qs, .readCap, .leads, .eng, .gathers, .maps, .onyx, .marker, .nav, .clock, .fb, .ports]) :
    pt.same s₀ (tmrMismatch fatal s) ↔ pt.same s₀ s := by
  simp at hpt
  simp [tmrMismatch, hpt]
@[simp] theorem optStore_same (ok : Bool) (s : State) (hpt : pt ∉ [.regs, .events]) :
    pt.same s₀ (optStore ok s) ↔ pt.same s₀ s := by
  simp at hpt
  simp [optStore, hpt]

-- Supply
@[simp] theorem supplyRecord_same (sev : Nat) (k : EvKind) (vals : List Int) (s : State) (hpt : pt ∉ [.regs, .events]) :
    pt.same s₀ (supplyRecord sev k vals s) ↔ pt.same s₀ s := by
  simp at hpt
  simp [supplyRecord, hpt]
@[simp] theorem powerDown_same (ecu : Bool) (s : State) (hpt : pt ∉ [.regs, .mtime, .freeCtr, .reply, .sup, .start, .own, .unlock, .mbx, .access, .events, .records, .reader, .nv, .stage, .rcv, .fleet, .svc, .outs, .feeds, .rems, .qs, .readCap, .leads, .eng, .gathers, .maps, .onyx, .marker, .nav, .clock, .fb, .ports]) :
    pt.same s₀ (powerDown ecu s) ↔ pt.same s₀ s := by
  simp at hpt
  simp [powerDown, hpt]
@[simp] theorem everythingOff_same (s : State) (hpt : pt ∉ [.regs, .events, .outs, .qs]) :
    pt.same s₀ (everythingOff s) ↔ pt.same s₀ s := by
  simp at hpt
  simp [everythingOff, hpt]
@[simp] theorem supplyLoss_same (vbus : Bool) (s : State) (hpt : pt ∉ [.regs, .mtime, .freeCtr, .reply, .sup, .start, .own, .unlock, .mbx, .access, .events, .records, .reader, .nv, .stage, .rcv, .fleet, .svc, .outs, .feeds, .rems, .qs, .readCap, .leads, .eng, .gathers, .maps, .onyx, .marker, .nav, .clock, .fb, .ports]) :
    pt.same s₀ (supplyLoss vbus s) ↔ pt.same s₀ s := by
  simp at hpt
  simp [supplyLoss, hpt]
@[simp] theorem startFrom_same (pw : Power) (c : Nat × Nat) (s : State) (hpt : pt ∉ [.regs, .mtime, .freeCtr, .reply, .sup, .start, .own, .unlock, .mbx, .access, .events, .records, .reader, .nv, .stage, .rcv, .fleet, .svc, .outs, .feeds, .rems, .qs, .readCap, .leads, .eng, .gathers, .maps, .onyx, .marker, .nav, .clock, .fb, .ports]) :
    pt.same s₀ (startFrom pw c s) ↔ pt.same s₀ s := by
  simp at hpt
  simp [startFrom, hpt]
@[simp] theorem standbyWake_same (w : WakeCause) (s : State) (hpt : pt ∉ [.regs, .mtime, .freeCtr, .reply, .sup, .start, .own, .unlock, .mbx, .access, .events, .records, .reader, .nv, .stage, .rcv, .fleet, .svc, .outs, .feeds, .rems, .qs, .readCap, .leads, .eng, .gathers, .maps, .onyx, .marker, .nav, .clock, .fb, .ports]) :
    pt.same s₀ (standbyWake w s) ↔ pt.same s₀ s := by
  simp at hpt
  unfold standbyWake; (repeat' split) <;> simp [*]
@[simp] theorem ecuQualified_same (s : State) (hpt : pt ∉ [.regs, .mtime, .freeCtr, .reply, .sup, .start, .own, .unlock, .mbx, .access, .events, .records, .reader, .nv, .stage, .rcv, .fleet, .svc, .outs, .feeds, .rems, .qs, .readCap, .leads, .eng, .gathers, .maps, .onyx, .marker, .nav, .clock, .fb, .ports]) :
    pt.same s₀ (ecuQualified s) ↔ pt.same s₀ s := by
  simp at hpt
  simp [ecuQualified, hpt]
@[simp] theorem vbusStart_same (s : State) (hpt : pt ∉ [.regs, .mtime, .freeCtr, .reply, .sup, .start, .own, .unlock, .mbx, .access, .events, .records, .reader, .nv, .stage, .rcv, .fleet, .svc, .outs, .feeds, .rems, .qs, .readCap, .leads, .eng, .gathers, .maps, .onyx, .marker, .nav, .clock, .fb, .ports]) :
    pt.same s₀ (vbusStart s) ↔ pt.same s₀ s := by
  simp at hpt
  simp [vbusStart, hpt]
@[simp] theorem benchToNormal_same (s : State) (hpt : pt ∉ [.regs, .freeCtr, .sup, .start, .own, .unlock, .mbx, .access, .events, .records, .reader, .nv, .stage, .rcv, .fleet, .svc, .outs, .qs, .eng, .gathers, .maps, .nav, .fb, .ports]) :
    pt.same s₀ (benchToNormal s) ↔ pt.same s₀ s := by
  simp at hpt
  simp [benchToNormal, hpt]
@[simp] theorem vbusLoss_same (s : State) (hpt : pt ∉ [.regs, .mtime, .freeCtr, .reply, .sup, .start, .own, .unlock, .mbx, .access, .events, .records, .reader, .nv, .stage, .rcv, .fleet, .svc, .outs, .feeds, .rems, .qs, .readCap, .leads, .eng, .gathers, .maps, .onyx, .marker, .nav, .clock, .fb, .ports]) :
    pt.same s₀ (vbusLoss s) ↔ pt.same s₀ s := by
  simp at hpt
  simp [vbusLoss, hpt]
@[simp] theorem dropoutEnd_same (dur mv : Nat) (s : State) (hpt : pt ∉ [.regs, .events]) :
    pt.same s₀ (dropoutEnd dur mv s) ↔ pt.same s₀ s := by
  simp at hpt
  simp [dropoutEnd, hpt]
@[simp] theorem bandEntry_same (high : Bool) (s : State) (hpt : pt ∉ [.regs, .events]) :
    pt.same s₀ (bandEntry high s) ↔ pt.same s₀ s := by
  simp at hpt
  simp [bandEntry, hpt]
@[simp] theorem bandExit_same (high : Bool) (s : State) (hpt : pt ∉ [.regs]) :
    pt.same s₀ (bandExit high s) ↔ pt.same s₀ s := by
  simp at hpt
  simp [bandExit, hpt]
@[simp] theorem setFolded_same (a : Nat) (b : Option Nat) (s : State) (hpt : pt ∉ [.sup]) :
    pt.same s₀ (setFolded a b s) ↔ pt.same s₀ s := by
  simp at hpt
  simp [setFolded, hpt]
@[simp] theorem foldBias_same (a : Nat) (s : State) (hpt : pt ∉ [.regs, .sup]) :
    pt.same s₀ (foldBias a s) ↔ pt.same s₀ s := by
  simp at hpt
  simp [foldBias, hpt]
@[simp] theorem antennaFold_same (a : Nat) (s : State) (hpt : pt ∉ [.regs, .sup, .events]) :
    pt.same s₀ (antennaFold a s) ↔ pt.same s₀ s := by
  simp at hpt
  simp [antennaFold, hpt]
@[simp] theorem biasRetry_same (a : Nat) (shorted : Bool) (s : State) (hpt : pt ∉ [.regs, .mtime, .sup]) :
    pt.same s₀ (biasRetry a shorted s) ↔ pt.same s₀ s := by
  simp at hpt
  unfold biasRetry; (repeat' split) <;> simp [*]
@[simp] theorem sensorFold_same (pwr folded : Bool) (s : State) (hpt : pt ∉ [.regs, .sup, .events, .qs, .fb]) :
    pt.same s₀ (sensorFold pwr folded s) ↔ pt.same s₀ s := by
  simp at hpt
  unfold sensorFold; dsimp only; (repeat' split) <;> simp [*]
@[simp] theorem baseHot_same (s : State) (hpt : pt ∉ [.regs, .events]) :
    pt.same s₀ (baseHot s) ↔ pt.same s₀ s := by
  simp at hpt
  simp [baseHot, hpt]
@[simp] theorem baseCool_same (s : State) (hpt : pt ∉ [.regs]) :
    pt.same s₀ (baseCool s) ↔ pt.same s₀ s := by
  simp at hpt
  simp [baseCool, hpt]
@[simp] theorem keepChange_same (absent : Bool) (s : State) (hpt : pt ∉ [.regs, .sup]) :
    pt.same s₀ (keepChange absent s) ↔ pt.same s₀ s := by
  simp at hpt
  simp [keepChange, hpt]
@[simp] theorem keepLoss_same (s : State) (hpt : pt ∉ [.regs, .mtime, .freeCtr, .reply, .sup, .start, .own, .unlock, .mbx, .access, .events, .records, .reader, .nv, .stage, .rcv, .fleet, .svc, .outs, .feeds, .rems, .qs, .readCap, .leads, .eng, .gathers, .maps, .onyx, .marker, .nav, .clock, .fb, .ports]) :
    pt.same s₀ (keepLoss s) ↔ pt.same s₀ s := by
  simp at hpt
  simp [keepLoss, hpt]
@[simp] theorem snapshotWake_same (unc gtime : Nat) (found : Option (Int × Int × Int × Nat)) (meet : Option WakeCause) (s : State) (hpt : pt ∉ [.regs, .mtime, .freeCtr, .reply, .sup, .start, .own, .unlock, .mbx, .access, .events, .records, .reader, .nv, .stage, .rcv, .fleet, .svc, .outs, .feeds, .rems, .qs, .readCap, .leads, .eng, .gathers, .maps, .onyx, .marker, .nav, .clock, .fb, .ports]) :
    pt.same s₀ (snapshotWake unc gtime found meet s) ↔ pt.same s₀ s := by
  simp at hpt
  unfold snapshotWake; dsimp only; (repeat' split) <;> simp [*]

-- Maps
@[simp] theorem startItem_same (i : Nat) (s : State) (hpt : pt ∉ [.regs, .maps]) :
    pt.same s₀ (startItem i s) ↔ pt.same s₀ s := by
  simp at hpt
  simp [startItem, hpt]
@[simp] theorem stageItem_same (i : Nat) (f : MapSet → MapSet) (s : State) (hpt : pt ∉ [.regs, .maps]) :
    pt.same s₀ (stageItem i f s) ↔ pt.same s₀ s := by
  simp at hpt
  simp [stageItem, hpt]
@[simp] theorem mapWrite_same (i k : Nat) (v : Word) (s : State) (hpt : pt ∉ [.regs, .maps]) :
    pt.same s₀ (mapWrite i k v s) ↔ pt.same s₀ s := by
  simp at hpt
  simp [mapWrite, hpt]
@[simp] theorem mapClear_same (s : State) (hpt : pt ∉ [.regs]) :
    pt.same s₀ (mapClear s) ↔ pt.same s₀ s := by
  simp at hpt
  simp [mapClear, hpt]
@[simp] theorem startMapCheck_same (s : State) (hpt : pt ∉ [.regs, .maps]) :
    pt.same s₀ (startMapCheck s) ↔ pt.same s₀ s := by
  simp at hpt
  simp [startMapCheck, hpt]
@[simp] theorem mapCheckDone_same (s : State) (hpt : pt ∉ [.regs, .maps]) :
    pt.same s₀ (mapCheckDone s) ↔ pt.same s₀ s := by
  simp at hpt
  unfold mapCheckDone; split <;> simp [*]
@[simp] theorem pendActivation_same (t : Nat) (s : State) (hpt : pt ∉ [.regs, .maps]) :
    pt.same s₀ (pendActivation t s) ↔ pt.same s₀ s := by
  simp at hpt
  simp [pendActivation, hpt]
@[simp] theorem cancelActivation_same (s : State) (hpt : pt ∉ [.regs, .maps]) :
    pt.same s₀ (cancelActivation s) ↔ pt.same s₀ s := by
  simp at hpt
  simp [cancelActivation, hpt]
@[simp] theorem setActiveField_same (t : Nat) (f : Option Nat) (s : State) (hpt : pt ∉ [.regs, .marker]) :
    pt.same s₀ (setActiveField t f s) ↔ pt.same s₀ s := by
  simp at hpt
  simp [setActiveField, hpt]
@[simp] theorem activateMaps_same (t : Nat) (s : State) (hpt : pt ∉ [.regs, .events, .nv, .maps, .marker]) :
    pt.same s₀ (activateMaps t s) ↔ pt.same s₀ s := by
  simp at hpt
  simp [activateMaps, hpt]
@[simp] theorem activateDue_same (t : Nat) (s : State) (hpt : pt ∉ [.regs, .mtime, .events, .nv, .maps, .marker]) :
    pt.same s₀ (activateDue t s) ↔ pt.same s₀ s := by
  simp at hpt
  unfold activateDue; split <;> simp [*]
@[simp] theorem runField_same (f : Nat) (c : FieldCmd) (s : State) (hpt : pt ∉ [.regs, .onyx]) :
    pt.same s₀ (runField f c s) ↔ pt.same s₀ s := by
  simp at hpt
  simp [runField, hpt]
@[simp] theorem fieldCreate_same (f : Nat) (s : State) (hpt : pt ∉ [.regs, .freeCtr, .onyx]) :
    pt.same s₀ (fieldCreate f s) ↔ pt.same s₀ s := by
  simp at hpt
  unfold fieldCreate; split <;> simp [*]
@[simp] theorem fieldHere_same (f : Nat) (s : State) (hpt : pt ∉ [.regs]) :
    pt.same s₀ (fieldHere f s) ↔ pt.same s₀ s := by
  simp at hpt
  unfold fieldHere; split <;> simp [*]
@[simp] theorem fieldClear_same (f mask : Nat) (s : State) (hpt : pt ∉ [.regs, .events, .onyx]) :
    pt.same s₀ (fieldClear f mask s) ↔ pt.same s₀ s := by
  simp at hpt
  simp [fieldClear, hpt]
@[simp] theorem fieldDelete_same (f : Nat) (s : State) (hpt : pt ∉ [.regs, .events, .onyx]) :
    pt.same s₀ (fieldDelete f s) ↔ pt.same s₀ s := by
  simp at hpt
  simp [fieldDelete, hpt]
@[simp] theorem fieldCommandDone_same (f : Nat) (s : State) (hpt : pt ∉ [.regs, .events, .onyx]) :
    pt.same s₀ (fieldCommandDone f s) ↔ pt.same s₀ s := by
  simp at hpt
  unfold fieldCommandDone; (repeat' split) <;> simp [*]

-- Startup
@[simp] theorem powerOnEnd_same (s : State) (hpt : pt ∉ [.regs, .mtime, .sup]) :
    pt.same s₀ (powerOnEnd s) ↔ pt.same s₀ s := by
  simp at hpt
  simp [powerOnEnd, hpt]
@[simp] theorem openElection_same (s : State) (hpt : pt ∉ [.regs, .start, .own]) :
    pt.same s₀ (openElection s) ↔ pt.same s₀ s := by
  simp at hpt
  simp [openElection, hpt]
@[simp] theorem startAuto_same (s : State) (hpt : pt ∉ [.regs, .events, .qs, .gathers]) :
    pt.same s₀ (startAuto s) ↔ pt.same s₀ s := by
  simp at hpt
  simp [startAuto, hpt]
@[simp] theorem electionWindowEnd_same (s : State) (hpt : pt ∉ [.regs, .mtime, .start, .own, .events, .qs, .gathers]) :
    pt.same s₀ (electionWindowEnd s) ↔ pt.same s₀ s := by
  simp at hpt
  simp [electionWindowEnd, hpt]
@[simp] theorem haltStart_same (unit : Nat) (s : State) (hpt : pt ∉ [.regs, .start, .own, .events, .outs, .qs]) :
    pt.same s₀ (haltStart unit s) ↔ pt.same s₀ s := by
  simp at hpt
  simp [haltStart, hpt]
@[simp] theorem delayFails_same (n : Nat) (s : State) (hpt : pt ∉ [.regs, .events, .outs]) :
    pt.same s₀ (delayFails n s) ↔ pt.same s₀ s := by
  simp at hpt
  simp [delayFails, hpt]
@[simp] theorem testLogic_same (t : SelfTest) (s : State) (hpt : pt ∉ [.regs, .start, .events, .rcv, .qs, .eng, .gathers]) :
    pt.same s₀ (testLogic t s) ↔ pt.same s₀ s := by
  simp at hpt
  simp [testLogic, hpt]
@[simp] theorem testCold_same (t : SelfTest) (s : State) (hpt : pt ∉ [.regs, .start, .events, .records, .reader, .outs]) :
    pt.same s₀ (testCold t s) ↔ pt.same s₀ s := by
  simp at hpt
  simp [testCold, hpt]
@[simp] theorem selftestEnd_same (t : SelfTest) (s : State) (hpt : pt ∉ [.regs, .start, .own, .events, .records, .reader, .rcv, .outs, .qs, .eng, .gathers]) :
    pt.same s₀ (selftestEnd t s) ↔ pt.same s₀ s := by
  simp at hpt
  simp [selftestEnd, hpt]
@[simp] theorem factoryRegs_same (s : State) (hpt : pt ∉ [.regs]) :
    pt.same s₀ (factoryRegs s) ↔ pt.same s₀ s := by
  simp at hpt
  simp [factoryRegs, hpt]
@[simp] theorem loadRegs_same (s : State) (hpt : pt ∉ [.regs]) :
    pt.same s₀ (loadRegs s) ↔ pt.same s₀ s := by
  simp at hpt
  simp [loadRegs, hpt]
@[simp] theorem loadMaps_same (model : Tab Word) (f : Option Nat) (s : State) (hpt : pt ∉ [.regs, .maps, .marker]) :
    pt.same s₀ (loadMaps model f s) ↔ pt.same s₀ s := by
  simp at hpt
  simp [loadMaps, hpt]
@[simp] theorem loadProgram_same (bad : List Nat) (s : State) (hpt : pt ∉ [.regs, .events, .eng]) :
    pt.same s₀ (loadProgram bad s) ↔ pt.same s₀ s := by
  simp at hpt
  simp [loadProgram, hpt]
@[simp] theorem loadLatencies_same (s : State) (hpt : pt ∉ [.regs, .outs]) :
    pt.same s₀ (loadLatencies s) ↔ pt.same s₀ s := by
  simp at hpt
  simp [loadLatencies, hpt]
@[simp] theorem applyLoaded_same (s : State) (hpt : pt ∉ [.regs, .events, .fleet, .outs, .clock, .ports]) :
    pt.same s₀ (applyLoaded s) ↔ pt.same s₀ s := by
  simp at hpt
  simp [applyLoaded, hpt]
@[simp] theorem loadCold_same (imageOk : Bool) (bad : List Nat) (s : State) (hpt : pt ∉ [.regs, .events, .outs, .eng, .maps, .onyx, .marker, .clock]) :
    pt.same s₀ (loadCold imageOk bad s) ↔ pt.same s₀ s := by
  simp at hpt
  simp [loadCold, hpt]
@[simp] theorem loadFactory_same (s : State) (hpt : pt ∉ [.regs, .start, .nv, .stage, .eng, .maps, .marker]) :
    pt.same s₀ (loadFactory s) ↔ pt.same s₀ s := by
  simp at hpt
  simp [loadFactory, hpt]
@[simp] theorem configurationLoad_same (imageOk : Bool) (bad : List Nat) (s : State) (hpt : pt ∉ [.regs, .start, .own, .events, .nv, .stage, .fleet, .outs, .eng, .maps, .onyx, .marker, .clock, .ports]) :
    pt.same s₀ (configurationLoad imageOk bad s) ↔ pt.same s₀ s := by
  simp at hpt
  simp [configurationLoad, hpt]
@[simp] theorem factory_same (s : State) (hpt : pt ∉ [.regs, .freeCtr, .start, .own, .unlock, .mbx, .access, .events, .records, .reader, .nv, .stage, .rcv, .fleet, .svc, .outs, .qs, .eng, .gathers, .maps, .nav, .fb, .ports]) :
    pt.same s₀ (factory s) ↔ pt.same s₀ s := by
  simp at hpt
  simp [factory, hpt]
@[simp] theorem standbyEnter_same (s : State) (hpt : pt ∉ [.regs, .mtime, .freeCtr, .reply, .sup, .start, .own, .unlock, .mbx, .access, .events, .records, .reader, .nv, .stage, .rcv, .fleet, .svc, .outs, .feeds, .rems, .qs, .readCap, .leads, .eng, .gathers, .maps, .onyx, .marker, .nav, .clock, .fb, .ports]) :
    pt.same s₀ (standbyEnter s) ↔ pt.same s₀ s := by
  simp at hpt
  simp [standbyEnter, hpt]

-- Service
@[simp] theorem setSvc_same (x : Service) (s : State) (hpt : pt ∉ [.svc]) :
    pt.same s₀ (setSvc x s) ↔ pt.same s₀ s := by
  simp at hpt
  simp [setSvc, hpt]
@[simp] theorem jasperEnabled_same (addr : Nat) (v : Word) (s : State) (hpt : pt ∉ [.regs, .events, .svc]) :
    pt.same s₀ (jasperEnabled addr v s) ↔ pt.same s₀ s := by
  simp at hpt
  simp [jasperEnabled, hpt]
@[simp] theorem jasRefresh_same (s : State) (hpt : pt ∉ [.svc]) :
    pt.same s₀ (jasRefresh s) ↔ pt.same s₀ s := by
  simp at hpt
  simp [jasRefresh, hpt]
@[simp] theorem jasOff_same (s : State) (hpt : pt ∉ [.regs, .events, .svc]) :
    pt.same s₀ (jasOff s) ↔ pt.same s₀ s := by
  simp at hpt
  simp [jasOff, hpt]
@[simp] theorem jasperExpiry_same (s : State) (hpt : pt ∉ [.regs, .mtime, .events, .svc]) :
    pt.same s₀ (jasperExpiry s) ↔ pt.same s₀ s := by
  simp at hpt
  unfold jasperExpiry; split <;> simp [*]
@[simp] theorem eccInject_same (s : State) (hpt : pt ∉ [.rcv]) :
    pt.same s₀ (eccInject s) ↔ pt.same s₀ s := by
  simp at hpt
  simp [eccInject, hpt]
@[simp] theorem busOneshot_same (p : Nat) (s : State) (hpt : pt ∉ [.svc]) :
    pt.same s₀ (busOneshot p s) ↔ pt.same s₀ s := by
  simp at hpt
  simp [busOneshot, hpt]
@[simp] theorem meterSet_same (a : Nat) (w : Word) (s : State) (hpt : pt ∉ [.regs, .svc]) :
    pt.same s₀ (meterSet a w s) ↔ pt.same s₀ s := by
  simp at hpt
  simp [meterSet, hpt]
@[simp] theorem meterSetup_same (check target : Nat) (s : State) (hpt : pt ∉ [.regs, .events, .svc, .qs, .fb, .ports]) :
    pt.same s₀ (meterSetup check target s) ↔ pt.same s₀ s := by
  simp at hpt
  unfold meterSetup; split <;> simp [*]
@[simp] theorem meterRestore_same (s : State) (hpt : pt ∉ [.regs, .events, .svc, .outs, .qs, .fb, .ports]) :
    pt.same s₀ (meterRestore s) ↔ pt.same s₀ s := by
  simp at hpt
  unfold meterRestore; dsimp only; (repeat' split) <;> simp [*]
@[simp] theorem meterOff_same (s : State) (hpt : pt ∉ [.regs, .events, .svc, .outs, .qs, .fb, .ports]) :
    pt.same s₀ (meterOff s) ↔ pt.same s₀ s := by
  simp at hpt
  simp [meterOff, hpt]
@[simp] theorem portReset_same (s : State) (hpt : pt ∉ [.regs, .own, .events, .svc, .outs, .qs, .fb, .ports]) :
    pt.same s₀ (portReset s) ↔ pt.same s₀ s := by
  simp at hpt
  simp [portReset, hpt]
@[simp] theorem withPortReset_same (f : State → State) (s : State) (hf : ∀ s, pt.same s₀ (f s) ↔ pt.same s₀ s) (hpt : pt ∉ [.regs, .own, .events, .svc, .outs, .qs, .fb, .ports]) :
    pt.same s₀ (withPortReset f s) ↔ pt.same s₀ s := by
  simp at hpt
  unfold withPortReset; simp [*]
@[simp] theorem meterStart_same (check target : Nat) (s : State) (hpt : pt ∉ [.regs, .events, .svc, .outs, .qs, .fb, .ports]) :
    pt.same s₀ (meterStart check target s) ↔ pt.same s₀ s := by
  simp at hpt
  unfold meterStart; dsimp only; (repeat' split) <;> simp [*]
@[simp] theorem meterTimeout_same (s : State) (hpt : pt ∉ [.regs, .mtime, .events, .svc, .outs, .qs, .fb, .ports]) :
    pt.same s₀ (meterTimeout s) ↔ pt.same s₀ s := by
  simp at hpt
  unfold meterTimeout; split <;> simp [*]
@[simp] theorem meterMeasure_same (mv : Int) (s : State) (hpt : pt ∉ [.regs]) :
    pt.same s₀ (meterMeasure mv s) ↔ pt.same s₀ s := by
  simp at hpt
  simp [meterMeasure, hpt]

-- RulesSys
@[simp] theorem setUnlock_same (m : Master) (u : Unlock) (s : State) (hpt : pt ∉ [.unlock]) :
    pt.same s₀ (setUnlock m u s) ↔ pt.same s₀ s := by
  simp at hpt
  simp [setUnlock, hpt]
@[simp] theorem ruleMeasured_same (bits : Nat) (c : WriteCtx) (s : State) :
    pt.same s₀ ((ruleMeasured bits).effect c s) ↔ pt.same s₀ s := by
  simp [ruleMeasured]
@[simp] theorem ruleKeyUnlock_same  (c : WriteCtx) (s : State) (hpt : pt ∉ [.unlock]) :
    pt.same s₀ ((ruleKeyUnlock).effect c s) ↔ pt.same s₀ s := by
  simp at hpt
  simp [ruleKeyUnlock, hpt]
@[simp] theorem ruleKeyStat_same  (c : WriteCtx) (s : State) :
    pt.same s₀ ((ruleKeyStat).effect c s) ↔ pt.same s₀ s := by
  simp [ruleKeyStat]
@[simp] theorem ruleHash_same (c : WriteCtx) (s : State) (hpt : pt ∉ [.regs]) :
    pt.same s₀ (ruleHash.effect c s) ↔ pt.same s₀ s := by
  simp at hpt
  simp only [ruleHash]; split <;> simp [hpt]
@[simp] theorem commitHash_same (s : State) (hpt : pt ∉ [.regs, .access]) :
    pt.same s₀ (commitHash s) ↔ pt.same s₀ s := by
  simp at hpt
  simp [commitHash, hpt]
@[simp] theorem commitDone_same (s : State) (hpt : pt ∉ [.regs, .mtime, .access, .nv]) :
    pt.same s₀ (commitDone s) ↔ pt.same s₀ s := by
  simp at hpt
  unfold commitDone; split <;> simp [*]
@[simp] theorem ruleOem_same  (c : WriteCtx) (s : State) (hpt : pt ∉ [.regs, .access]) :
    pt.same s₀ ((ruleOem).effect c s) ↔ pt.same s₀ s := by
  simp at hpt
  simp [ruleOem, hpt]
@[simp] theorem ruleSession_same  (c : WriteCtx) (s : State) (hpt : pt ∉ [.regs]) :
    pt.same s₀ ((ruleSession).effect c s) ↔ pt.same s₀ s := by
  simp at hpt
  simp [ruleSession, hpt]
@[simp] theorem ruleOwnStat_same  (c : WriteCtx) (s : State) :
    pt.same s₀ ((ruleOwnStat).effect c s) ↔ pt.same s₀ s := by
  simp [ruleOwnStat]
@[simp] theorem ruleOwnCfg_same  (c : WriteCtx) (s : State) :
    pt.same s₀ ((ruleOwnCfg).effect c s) ↔ pt.same s₀ s := by
  simp [ruleOwnCfg]
@[simp] theorem ruleClaim_same  (c : WriteCtx) (s : State) (hpt : pt ∉ [.regs, .start, .own, .events]) :
    pt.same s₀ ((ruleClaim).effect c s) ↔ pt.same s₀ s := by
  simp at hpt
  simp [ruleClaim, hpt]
@[simp] theorem ruleHandover_same  (c : WriteCtx) (s : State) (hpt : pt ∉ [.regs, .own, .events]) :
    pt.same s₀ ((ruleHandover).effect c s) ↔ pt.same s₀ s := by
  simp at hpt
  simp [ruleHandover, hpt]
@[simp] theorem ruleAccept_same  (c : WriteCtx) (s : State) (hpt : pt ∉ [.regs, .start, .own, .events]) :
    pt.same s₀ ((ruleAccept).effect c s) ↔ pt.same s₀ s := by
  simp at hpt
  simp [ruleAccept, hpt]
@[simp] theorem ruleHeartbeat_same  (c : WriteCtx) (s : State) (hpt : pt ∉ [.own]) :
    pt.same s₀ ((ruleHeartbeat).effect c s) ↔ pt.same s₀ s := by
  simp at hpt
  simp [ruleHeartbeat, hpt]
@[simp] theorem ruleSeize_same  (c : WriteCtx) (s : State) (hpt : pt ∉ [.regs, .start, .own, .events]) :
    pt.same s₀ ((ruleSeize).effect c s) ↔ pt.same s₀ s := by
  simp at hpt
  simp [ruleSeize, hpt]
@[simp] theorem ruleHealth_same  (c : WriteCtx) (s : State) :
    pt.same s₀ ((ruleHealth).effect c s) ↔ pt.same s₀ s := by
  simp [ruleHealth]
@[simp] theorem ruleReset_same  (c : WriteCtx) (s : State) (hpt : pt ∉ [.regs, .freeCtr, .start, .own, .unlock, .mbx, .access, .events, .records, .reader, .nv, .stage, .rcv, .fleet, .svc, .outs, .qs, .eng, .gathers, .maps, .nav, .fb, .ports]) :
    pt.same s₀ ((ruleReset).effect c s) ↔ pt.same s₀ s := by
  simp at hpt
  unfold ruleReset; dsimp only
  split
  · simp [hpt]
  · apply onCmd_same; intro s; split
    · simp [hpt]
    · apply withPortReset_same <;> simp [hpt]
@[simp] theorem cfgArm_same (now : Bool) (s : State) (hpt : pt ∉ [.regs, .stage]) :
    pt.same s₀ (cfgArm now s) ↔ pt.same s₀ s := by
  simp at hpt
  simp [cfgArm, hpt]
@[simp] theorem ruleCfgCtrl_same  (c : WriteCtx) (s : State) (hpt : pt ∉ [.regs, .access, .stage]) :
    pt.same s₀ ((ruleCfgCtrl).effect c s) ↔ pt.same s₀ s := by
  simp at hpt
  simp [ruleCfgCtrl, hpt]
@[simp] theorem ruleCfgHeld_same  (c : WriteCtx) (s : State) :
    pt.same s₀ ((ruleCfgHeld).effect c s) ↔ pt.same s₀ s := by
  simp [ruleCfgHeld]
@[simp] theorem rulePeer_same  (c : WriteCtx) (s : State) (hpt : pt ∉ [.fleet]) :
    pt.same s₀ ((rulePeer).effect c s) ↔ pt.same s₀ s := by
  simp at hpt
  simp [rulePeer, hpt]
@[simp] theorem ruleAgateCtrl_same  (c : WriteCtx) (s : State) (hpt : pt ∉ [.regs, .records, .reader]) :
    pt.same s₀ ((ruleAgateCtrl).effect c s) ↔ pt.same s₀ s := by
  simp at hpt
  simp [ruleAgateCtrl, hpt]
@[simp] theorem ruleAgateStat_same  (c : WriteCtx) (s : State) :
    pt.same s₀ ((ruleAgateStat).effect c s) ↔ pt.same s₀ s := by
  simp [ruleAgateStat]
@[simp] theorem ruleFactory_same  (c : WriteCtx) (s : State) (hpt : pt ∉ [.regs, .freeCtr, .start, .own, .unlock, .mbx, .access, .events, .records, .reader, .nv, .stage, .rcv, .fleet, .svc, .outs, .qs, .eng, .gathers, .maps, .nav, .fb, .ports]) :
    pt.same s₀ ((ruleFactory).effect c s) ↔ pt.same s₀ s := by
  simp at hpt
  simp [ruleFactory, hpt]
@[simp] theorem ruleStandby_same  (c : WriteCtx) (s : State) (hpt : pt ∉ [.regs, .mtime, .freeCtr, .reply, .sup, .start, .own, .unlock, .mbx, .access, .events, .records, .reader, .nv, .stage, .rcv, .fleet, .svc, .outs, .feeds, .rems, .qs, .readCap, .leads, .eng, .gathers, .maps, .onyx, .marker, .nav, .clock, .fb, .ports]) :
    pt.same s₀ ((ruleStandby).effect c s) ↔ pt.same s₀ s := by
  simp at hpt
  simp [ruleStandby, hpt]
@[simp] theorem ruleMeter_same  (c : WriteCtx) (s : State) (hpt : pt ∉ [.regs, .events, .svc, .outs, .qs, .fb, .ports]) :
    pt.same s₀ ((ruleMeter).effect c s) ↔ pt.same s₀ s := by
  simp at hpt
  simp [ruleMeter, hpt]
@[simp] theorem testStart_same (s : State) (hpt : pt ∉ [.regs, .access, .svc]) :
    pt.same s₀ (testStart s) ↔ pt.same s₀ s := by
  simp at hpt
  simp [testStart, hpt]
@[simp] theorem ruleTest_same  (c : WriteCtx) (s : State) (hpt : pt ∉ [.regs, .access, .svc]) :
    pt.same s₀ ((ruleTest).effect c s) ↔ pt.same s₀ s := by
  simp at hpt
  simp [ruleTest, hpt]
@[simp] theorem ruleSvcStat_same  (c : WriteCtx) (s : State) :
    pt.same s₀ ((ruleSvcStat).effect c s) ↔ pt.same s₀ s := by
  simp [ruleSvcStat]
@[simp] theorem ruleJasper_same (f : Fld) (queueOne : Bool) (c : WriteCtx) (s : State) (hpt : pt ∉ [.regs, .events, .svc]) :
    pt.same s₀ ((ruleJasper f queueOne).effect c s) ↔ pt.same s₀ s := by
  simp at hpt
  simp [ruleJasper, hpt]
@[simp] theorem ruleJasBus_same  (c : WriteCtx) (s : State) (hpt : pt ∉ [.regs, .events, .svc]) :
    pt.same s₀ ((ruleJasBus).effect c s) ↔ pt.same s₀ s := by
  simp at hpt
  simp [ruleJasBus, hpt]
@[simp] theorem ruleJasCtrl_same  (c : WriteCtx) (s : State) (hpt : pt ∉ [.regs, .events, .svc]) :
    pt.same s₀ ((ruleJasCtrl).effect c s) ↔ pt.same s₀ s := by
  simp at hpt
  simp [ruleJasCtrl, hpt]
@[simp] theorem ruleJasStat_same  (c : WriteCtx) (s : State) :
    pt.same s₀ ((ruleJasStat).effect c s) ↔ pt.same s₀ s := by
  simp [ruleJasStat]
@[simp] theorem ruleEccAddr_same  (c : WriteCtx) (s : State) :
    pt.same s₀ ((ruleEccAddr).effect c s) ↔ pt.same s₀ s := by
  simp [ruleEccAddr]
@[simp] theorem ruleEccCtrl_same  (c : WriteCtx) (s : State) (hpt : pt ∉ [.regs, .events, .rcv, .svc]) :
    pt.same s₀ ((ruleEccCtrl).effect c s) ↔ pt.same s₀ s := by
  simp at hpt
  simp [ruleEccCtrl, hpt]
@[simp] theorem rulesSys_same (b : Nat) (c : WriteCtx) (s : State) (hpt : pt ∉ [.regs, .mtime, .freeCtr, .reply, .sup, .start, .own, .unlock, .mbx, .access, .events, .records, .reader, .nv, .stage, .rcv, .fleet, .svc, .outs, .feeds, .rems, .qs, .readCap, .leads, .eng, .gathers, .maps, .onyx, .marker, .nav, .clock, .fb, .ports]) :
    pt.same s₀ ((rulesSys b).effect c s) ↔ pt.same s₀ s := by
  simp at hpt
  simp [rulesSys, hpt]
@[simp] theorem rulesSvc_same (b : Nat) (c : WriteCtx) (s : State) (hpt : pt ∉ [.regs, .access, .events, .records, .reader, .rcv, .svc, .outs, .qs, .fb, .ports]) :
    pt.same s₀ ((rulesSvc b).effect c s) ↔ pt.same s₀ s := by
  simp at hpt
  simp [rulesSvc, hpt]

-- RulesEng
@[simp] theorem ruleEngCtrl_same  (c : WriteCtx) (s : State) (hpt : pt ∉ [.regs, .events, .qs, .gathers]) :
    pt.same s₀ ((ruleEngCtrl).effect c s) ↔ pt.same s₀ s := by
  simp at hpt
  simp [ruleEngCtrl, hpt]
  apply onCmd_same; intro s; apply forAll_same; intro g s; simp [hpt]
@[simp] theorem ruleEngStat_same  (c : WriteCtx) (s : State) :
    pt.same s₀ ((ruleEngStat).effect c s) ↔ pt.same s₀ s := by
  simp [ruleEngStat]
@[simp] theorem ruleLoadCtrl_same  (c : WriteCtx) (s : State) (hpt : pt ∉ [.regs, .eng]) :
    pt.same s₀ ((ruleLoadCtrl).effect c s) ↔ pt.same s₀ s := by
  simp at hpt
  simp [ruleLoadCtrl, hpt]
@[simp] theorem ruleLoadBase_same  (c : WriteCtx) (s : State) :
    pt.same s₀ ((ruleLoadBase).effect c s) ↔ pt.same s₀ s := by
  simp [ruleLoadBase]
@[simp] theorem ruleLoadLen_same  (c : WriteCtx) (s : State) :
    pt.same s₀ ((ruleLoadLen).effect c s) ↔ pt.same s₀ s := by
  simp [ruleLoadLen]
@[simp] theorem ruleLoadBank_same  (c : WriteCtx) (s : State) :
    pt.same s₀ ((ruleLoadBank).effect c s) ↔ pt.same s₀ s := by
  simp [ruleLoadBank]
@[simp] theorem ruleLoadWin_same  (c : WriteCtx) (s : State) (hpt : pt ∉ [.eng]) :
    pt.same s₀ ((ruleLoadWin).effect c s) ↔ pt.same s₀ s := by
  simp at hpt
  simp [ruleLoadWin, hpt]
@[simp] theorem ruleRelease_same  (c : WriteCtx) (s : State) (hpt : pt ∉ [.regs, .eng]) :
    pt.same s₀ ((ruleRelease).effect c s) ↔ pt.same s₀ s := by
  simp at hpt
  simp [ruleRelease, hpt]
@[simp] theorem ruleCmem_same  (c : WriteCtx) (s : State) (hpt : pt ∉ [.eng]) :
    pt.same s₀ ((ruleCmem).effect c s) ↔ pt.same s₀ s := by
  simp at hpt
  simp [ruleCmem, hpt]
@[simp] theorem ruleLmem_same  (c : WriteCtx) (s : State) (hpt : pt ∉ [.gathers]) :
    pt.same s₀ ((ruleLmem).effect c s) ↔ pt.same s₀ s := by
  simp at hpt
  simp [ruleLmem, hpt]
@[simp] theorem ruleGCtrl_same  (c : WriteCtx) (s : State) (hpt : pt ∉ [.regs, .qs, .gathers]) :
    pt.same s₀ ((ruleGCtrl).effect c s) ↔ pt.same s₀ s := by
  simp at hpt
  simp [ruleGCtrl, hpt]
@[simp] theorem ruleGStat_same  (c : WriteCtx) (s : State) :
    pt.same s₀ ((ruleGStat).effect c s) ↔ pt.same s₀ s := by
  simp [ruleGStat]
@[simp] theorem ruleBinding_same  (c : WriteCtx) (s : State) :
    pt.same s₀ ((ruleBinding).effect c s) ↔ pt.same s₀ s := by
  simp [ruleBinding]
@[simp] theorem ruleRegion_same  (c : WriteCtx) (s : State) :
    pt.same s₀ ((ruleRegion).effect c s) ↔ pt.same s₀ s := by
  simp [ruleRegion]
@[simp] theorem ruleGWin_same  (c : WriteCtx) (s : State) :
    pt.same s₀ ((ruleGWin).effect c s) ↔ pt.same s₀ s := by
  simp [ruleGWin]
@[simp] theorem rulePermit_same  (c : WriteCtx) (s : State) (hpt : pt ∉ [.regs, .outs]) :
    pt.same s₀ ((rulePermit).effect c s) ↔ pt.same s₀ s := by
  simp at hpt
  simp [rulePermit, hpt]
@[simp] theorem ruleRemGather_same  (c : WriteCtx) (s : State) :
    pt.same s₀ ((ruleRemGather).effect c s) ↔ pt.same s₀ s := by
  simp [ruleRemGather]
@[simp] theorem ruleMapCtrl_same  (c : WriteCtx) (s : State) (hpt : pt ∉ [.regs, .maps]) :
    pt.same s₀ ((ruleMapCtrl).effect c s) ↔ pt.same s₀ s := by
  simp at hpt
  simp [ruleMapCtrl, hpt]
@[simp] theorem ruleMapStat_same  (c : WriteCtx) (s : State) :
    pt.same s₀ ((ruleMapStat).effect c s) ↔ pt.same s₀ s := by
  simp [ruleMapStat]
@[simp] theorem ruleMapAct_same  (c : WriteCtx) (s : State) :
    pt.same s₀ ((ruleMapAct).effect c s) ↔ pt.same s₀ s := by
  simp [ruleMapAct]
@[simp] theorem ruleMapField_same  (c : WriteCtx) (s : State) (hpt : pt ∉ [.regs, .maps]) :
    pt.same s₀ ((ruleMapField).effect c s) ↔ pt.same s₀ s := by
  simp at hpt
  simp [ruleMapField, hpt]
@[simp] theorem ruleRaster_same (get : MapSet → Word) (put : Word → MapSet → MapSet) (c : WriteCtx) (s : State) (hpt : pt ∉ [.regs, .maps]) :
    pt.same s₀ ((ruleRaster get put).effect c s) ↔ pt.same s₀ s := by
  simp at hpt
  simp [ruleRaster, hpt]
@[simp] theorem rulePoly_same  (c : WriteCtx) (s : State) (hpt : pt ∉ [.regs, .maps]) :
    pt.same s₀ ((rulePoly).effect c s) ↔ pt.same s₀ s := by
  simp at hpt
  simp [rulePoly, hpt]
@[simp] theorem ruleMapWin_same  (c : WriteCtx) (s : State) (hpt : pt ∉ [.regs, .maps]) :
    pt.same s₀ ((ruleMapWin).effect c s) ↔ pt.same s₀ s := by
  simp at hpt
  simp [ruleMapWin, hpt]
@[simp] theorem ruleOnyxStat_same  (c : WriteCtx) (s : State) :
    pt.same s₀ ((ruleOnyxStat).effect c s) ↔ pt.same s₀ s := by
  simp [ruleOnyxStat]
@[simp] theorem ruleOnyxFree_same  (c : WriteCtx) (s : State) :
    pt.same s₀ ((ruleOnyxFree).effect c s) ↔ pt.same s₀ s := by
  simp [ruleOnyxFree]
@[simp] theorem ruleOnyxWear_same  (c : WriteCtx) (s : State) :
    pt.same s₀ ((ruleOnyxWear).effect c s) ↔ pt.same s₀ s := by
  simp [ruleOnyxWear]
@[simp] theorem ruleOnyxCtrl_same  (c : WriteCtx) (s : State) (hpt : pt ∉ [.regs, .freeCtr, .events, .onyx]) :
    pt.same s₀ ((ruleOnyxCtrl).effect c s) ↔ pt.same s₀ s := by
  simp at hpt
  simp [ruleOnyxCtrl, hpt]
@[simp] theorem ruleField_same  (c : WriteCtx) (s : State) :
    pt.same s₀ ((ruleField).effect c s) ↔ pt.same s₀ s := by
  simp [ruleField]
@[simp] theorem ruleFieldCfg_same  (c : WriteCtx) (s : State) :
    pt.same s₀ ((ruleFieldCfg).effect c s) ↔ pt.same s₀ s := by
  simp [ruleFieldCfg]
@[simp] theorem ruleFieldCtrl_same  (c : WriteCtx) (s : State) (hpt : pt ∉ [.regs, .freeCtr, .events, .onyx]) :
    pt.same s₀ ((ruleFieldCtrl).effect c s) ↔ pt.same s₀ s := by
  simp at hpt
  simp [ruleFieldCtrl, hpt]
@[simp] theorem rulesEng_same (b : Nat) (c : WriteCtx) (s : State) (hpt : pt ∉ [.regs, .events, .outs, .qs, .eng, .gathers]) :
    pt.same s₀ ((rulesEng b).effect c s) ↔ pt.same s₀ s := by
  simp at hpt
  simp [rulesEng, hpt]
@[simp] theorem rulesMap_same (b : Nat) (c : WriteCtx) (s : State) (hpt : pt ∉ [.regs, .freeCtr, .events, .maps, .onyx]) :
    pt.same s₀ ((rulesMap b).effect c s) ↔ pt.same s₀ s := by
  simp at hpt
  simp [rulesMap, hpt]

-- RulesAct
@[simp] theorem ruleQctrl_same  (c : WriteCtx) (s : State) (hpt : pt ∉ [.regs, .outs, .qs]) :
    pt.same s₀ ((ruleQctrl).effect c s) ↔ pt.same s₀ s := by
  simp at hpt
  simp [ruleQctrl, hpt]
@[simp] theorem ruleQview_same (off : Nat) (c : WriteCtx) (s : State) :
    pt.same s₀ ((ruleQview off).effect c s) ↔ pt.same s₀ s := by
  simp [ruleQview]
@[simp] theorem ruleChCfg_same  (c : WriteCtx) (s : State) :
    pt.same s₀ ((ruleChCfg).effect c s) ↔ pt.same s₀ s := by
  simp [ruleChCfg]
@[simp] theorem ruleChLimit_same  (c : WriteCtx) (s : State) :
    pt.same s₀ ((ruleChLimit).effect c s) ↔ pt.same s₀ s := by
  simp [ruleChLimit]
@[simp] theorem ruleChRetry_same  (c : WriteCtx) (s : State) :
    pt.same s₀ ((ruleChRetry).effect c s) ↔ pt.same s₀ s := by
  simp [ruleChRetry]
@[simp] theorem ruleChCtrl_same  (c : WriteCtx) (s : State) (hpt : pt ∉ [.regs, .events, .outs]) :
    pt.same s₀ ((ruleChCtrl).effect c s) ↔ pt.same s₀ s := by
  simp at hpt
  simp [ruleChCtrl, hpt]
@[simp] theorem ruleFeedCfg_same  (c : WriteCtx) (s : State) :
    pt.same s₀ ((ruleFeedCfg).effect c s) ↔ pt.same s₀ s := by
  simp [ruleFeedCfg]
@[simp] theorem ruleFeedStat_same  (c : WriteCtx) (s : State) :
    pt.same s₀ ((ruleFeedStat).effect c s) ↔ pt.same s₀ s := by
  simp [ruleFeedStat]
@[simp] theorem ruleCapSel_same  (c : WriteCtx) (s : State) (hpt : pt ∉ [.regs, .readCap]) :
    pt.same s₀ ((ruleCapSel).effect c s) ↔ pt.same s₀ s := by
  simp at hpt
  simp [ruleCapSel, hpt]
@[simp] theorem ruleCapWin_same  (c : WriteCtx) (s : State) :
    pt.same s₀ ((ruleCapWin).effect c s) ↔ pt.same s₀ s := by
  simp [ruleCapWin]
@[simp] theorem ruleOutCtrl_same  (c : WriteCtx) (s : State) (hpt : pt ∉ [.regs, .events, .outs, .qs]) :
    pt.same s₀ ((ruleOutCtrl).effect c s) ↔ pt.same s₀ s := by
  simp at hpt
  simp [ruleOutCtrl, hpt]
@[simp] theorem ruleOutStat_same  (c : WriteCtx) (s : State) :
    pt.same s₀ ((ruleOutStat).effect c s) ↔ pt.same s₀ s := by
  simp [ruleOutStat]
@[simp] theorem ruleLearn_same  (c : WriteCtx) (s : State) (hpt : pt ∉ [.regs]) :
    pt.same s₀ ((ruleLearn).effect c s) ↔ pt.same s₀ s := by
  simp at hpt
  simp [ruleLearn, hpt]
@[simp] theorem ruleOutBinding_same  (c : WriteCtx) (s : State) :
    pt.same s₀ ((ruleOutBinding).effect c s) ↔ pt.same s₀ s := by
  simp [ruleOutBinding]
@[simp] theorem ruleRemDesc_same  (c : WriteCtx) (s : State) (hpt : pt ∉ [.regs]) :
    pt.same s₀ ((ruleRemDesc).effect c s) ↔ pt.same s₀ s := by
  simp at hpt
  simp [ruleRemDesc, hpt]
@[simp] theorem ruleRemCtrl_same  (c : WriteCtx) (s : State) (hpt : pt ∉ [.regs, .ports]) :
    pt.same s₀ ((ruleRemCtrl).effect c s) ↔ pt.same s₀ s := by
  simp at hpt
  simp [ruleRemCtrl, hpt]
@[simp] theorem ruleRemCfg_same  (c : WriteCtx) (s : State) :
    pt.same s₀ ((ruleRemCfg).effect c s) ↔ pt.same s₀ s := by
  simp [ruleRemCfg]
@[simp] theorem ruleDead_same  (c : WriteCtx) (s : State) :
    pt.same s₀ ((ruleDead).effect c s) ↔ pt.same s₀ s := by
  simp [ruleDead]
@[simp] theorem rulePwmCnt_same  (c : WriteCtx) (s : State) :
    pt.same s₀ ((rulePwmCnt).effect c s) ↔ pt.same s₀ s := by
  simp [rulePwmCnt]
@[simp] theorem rulePwmStat_same  (c : WriteCtx) (s : State) :
    pt.same s₀ ((rulePwmStat).effect c s) ↔ pt.same s₀ s := by
  simp [rulePwmStat]
@[simp] theorem ruleBank_same  (c : WriteCtx) (s : State) (hpt : pt ∉ [.regs, .outs]) :
    pt.same s₀ ((ruleBank).effect c s) ↔ pt.same s₀ s := by
  simp at hpt
  simp [ruleBank, hpt]
@[simp] theorem rulePwmGlobal_same  (c : WriteCtx) (s : State) (hpt : pt ∉ [.outs]) :
    pt.same s₀ ((rulePwmGlobal).effect c s) ↔ pt.same s₀ s := by
  simp at hpt
  simp [rulePwmGlobal, hpt]
@[simp] theorem ruleTick_same  (c : WriteCtx) (s : State) (hpt : pt ∉ [.nav]) :
    pt.same s₀ ((ruleTick).effect c s) ↔ pt.same s₀ s := by
  simp at hpt
  simp [ruleTick, hpt]
@[simp] theorem ruleTimeCtrl_same  (c : WriteCtx) (s : State) (hpt : pt ∉ [.regs, .events, .clock]) :
    pt.same s₀ ((ruleTimeCtrl).effect c s) ↔ pt.same s₀ s := by
  simp at hpt
  simp [ruleTimeCtrl, hpt]
@[simp] theorem rulePps_same  (c : WriteCtx) (s : State) (hpt : pt ∉ [.clock]) :
    pt.same s₀ ((rulePps).effect c s) ↔ pt.same s₀ s := by
  simp at hpt
  simp [rulePps, hpt]
@[simp] theorem ruleTm_same  (c : WriteCtx) (s : State) (hpt : pt ∉ [.clock]) :
    pt.same s₀ ((ruleTm).effect c s) ↔ pt.same s₀ s := by
  simp at hpt
  simp [ruleTm, hpt]
@[simp] theorem ruleTmId_same  (c : WriteCtx) (s : State) :
    pt.same s₀ ((ruleTmId).effect c s) ↔ pt.same s₀ s := by
  simp [ruleTmId]
@[simp] theorem rulesQueue_same (b : Nat) (c : WriteCtx) (s : State) (hpt : pt ∉ [.regs, .outs, .qs]) :
    pt.same s₀ ((rulesQueue b).effect c s) ↔ pt.same s₀ s := by
  simp at hpt
  unfold rulesQueue; split <;> simp [*]
@[simp] theorem rulesChan_same (b : Nat) (c : WriteCtx) (s : State) (hpt : pt ∉ [.regs, .events, .outs, .readCap]) :
    pt.same s₀ ((rulesChan b).effect c s) ↔ pt.same s₀ s := by
  simp at hpt
  unfold rulesChan; (repeat' split) <;> simp [*]
@[simp] theorem rulesOut_same (b : Nat) (c : WriteCtx) (s : State) (hpt : pt ∉ [.regs, .events, .outs, .qs, .ports]) :
    pt.same s₀ ((rulesOut b).effect c s) ↔ pt.same s₀ s := by
  simp at hpt
  unfold rulesOut; (repeat' split) <;> simp [*]
@[simp] theorem rulesPwm_same (b : Nat) (c : WriteCtx) (s : State) (hpt : pt ∉ [.regs, .outs, .nav]) :
    pt.same s₀ ((rulesPwm b).effect c s) ↔ pt.same s₀ s := by
  simp at hpt
  unfold rulesPwm; (repeat' split) <;> simp [*]
@[simp] theorem rulesTime_same (b : Nat) (c : WriteCtx) (s : State) (hpt : pt ∉ [.regs, .events, .clock]) :
    pt.same s₀ ((rulesTime b).effect c s) ↔ pt.same s₀ s := by
  simp at hpt
  unfold rulesTime; (repeat' split) <;> simp [*]

-- RulesFb
@[simp] theorem ruleFbConf_same  (c : WriteCtx) (s : State) :
    pt.same s₀ ((ruleFbConf).effect c s) ↔ pt.same s₀ s := by
  simp [ruleFbConf]
@[simp] theorem ruleFbCfg_same  (c : WriteCtx) (s : State) (hpt : pt ∉ [.regs, .qs, .fb]) :
    pt.same s₀ ((ruleFbCfg).effect c s) ↔ pt.same s₀ s := by
  simp at hpt
  simp [ruleFbCfg, hpt]
@[simp] theorem ruleFbThr_same  (c : WriteCtx) (s : State) :
    pt.same s₀ ((ruleFbThr).effect c s) ↔ pt.same s₀ s := by
  simp [ruleFbThr]
@[simp] theorem ruleFbSsi_same  (c : WriteCtx) (s : State) :
    pt.same s₀ ((ruleFbSsi).effect c s) ↔ pt.same s₀ s := by
  simp [ruleFbSsi]
@[simp] theorem ruleFbCount_same  (c : WriteCtx) (s : State) (hpt : pt ∉ [.regs, .qs, .marker, .fb]) :
    pt.same s₀ ((ruleFbCount).effect c s) ↔ pt.same s₀ s := by
  simp at hpt
  simp [ruleFbCount, hpt]
@[simp] theorem ruleFbSpeed_same  (c : WriteCtx) (s : State) :
    pt.same s₀ ((ruleFbSpeed).effect c s) ↔ pt.same s₀ s := by
  simp [ruleFbSpeed]
@[simp] theorem ruleFbCtrl_same  (c : WriteCtx) (s : State) (hpt : pt ∉ [.regs, .qs, .fb]) :
    pt.same s₀ ((ruleFbCtrl).effect c s) ↔ pt.same s₀ s := by
  simp at hpt
  simp [ruleFbCtrl, hpt]
@[simp] theorem ruleCmpCtrl_same  (c : WriteCtx) (s : State) (hpt : pt ∉ [.regs, .qs, .fb]) :
    pt.same s₀ ((ruleCmpCtrl).effect c s) ↔ pt.same s₀ s := by
  simp at hpt
  simp [ruleCmpCtrl, hpt]
@[simp] theorem ruleCmpValue_same  (c : WriteCtx) (s : State) (hpt : pt ∉ [.regs, .qs, .fb]) :
    pt.same s₀ ((ruleCmpValue).effect c s) ↔ pt.same s₀ s := by
  simp at hpt
  simp [ruleCmpValue, hpt]
@[simp] theorem rulePtCfg_same  (c : WriteCtx) (s : State) :
    pt.same s₀ ((rulePtCfg).effect c s) ↔ pt.same s₀ s := by
  simp [rulePtCfg]
@[simp] theorem rulePtStat_same  (c : WriteCtx) (s : State) :
    pt.same s₀ ((rulePtStat).effect c s) ↔ pt.same s₀ s := by
  simp [rulePtStat]
@[simp] theorem ruleFbGlobal_same  (c : WriteCtx) (s : State) (hpt : pt ∉ [.regs, .events, .qs, .fb]) :
    pt.same s₀ ((ruleFbGlobal).effect c s) ↔ pt.same s₀ s := by
  simp at hpt
  simp [ruleFbGlobal, hpt]
@[simp] theorem ruleGnssCtrl_same  (c : WriteCtx) (s : State) (hpt : pt ∉ [.regs, .nav]) :
    pt.same s₀ ((ruleGnssCtrl).effect c s) ↔ pt.same s₀ s := by
  simp at hpt
  simp [ruleGnssCtrl, hpt]
@[simp] theorem ruleTrkCfg_same  (c : WriteCtx) (s : State) (hpt : pt ∉ [.regs, .nav]) :
    pt.same s₀ ((ruleTrkCfg).effect c s) ↔ pt.same s₀ s := by
  simp at hpt
  simp [ruleTrkCfg, hpt]
@[simp] theorem ruleTrkLoop_same  (c : WriteCtx) (s : State) :
    pt.same s₀ ((ruleTrkLoop).effect c s) ↔ pt.same s₀ s := by
  simp [ruleTrkLoop]
@[simp] theorem ruleSpeedSrc_same  (c : WriteCtx) (s : State) :
    pt.same s₀ ((ruleSpeedSrc).effect c s) ↔ pt.same s₀ s := by
  simp [ruleSpeedSrc]
@[simp] theorem ruleCorrFeed_same  (c : WriteCtx) (s : State) (hpt : pt ∉ [.nav]) :
    pt.same s₀ ((ruleCorrFeed).effect c s) ↔ pt.same s₀ s := by
  simp at hpt
  simp [ruleCorrFeed, hpt]
@[simp] theorem ruleSnapCtrl_same  (c : WriteCtx) (s : State) (hpt : pt ∉ [.regs, .access, .nav]) :
    pt.same s₀ ((ruleSnapCtrl).effect c s) ↔ pt.same s₀ s := by
  simp at hpt
  simp [ruleSnapCtrl, hpt]
@[simp] theorem ruleSnapWin_same  (c : WriteCtx) (s : State) :
    pt.same s₀ ((ruleSnapWin).effect c s) ↔ pt.same s₀ s := by
  simp [ruleSnapWin]
@[simp] theorem rulesFb_same (b : Nat) (c : WriteCtx) (s : State) (hpt : pt ∉ [.regs, .mtime, .events, .outs, .qs, .marker, .fb]) :
    pt.same s₀ ((rulesFb b).effect c s) ↔ pt.same s₀ s := by
  simp at hpt
  simp [rulesFb, hpt]
@[simp] theorem rulesNav_same (b : Nat) (c : WriteCtx) (s : State) (hpt : pt ∉ [.regs, .access, .nav]) :
    pt.same s₀ ((rulesNav b).effect c s) ↔ pt.same s₀ s := by
  simp at hpt
  unfold rulesNav; (repeat' split) <;> simp [*]

-- RulesBus
@[simp] theorem rulePortCtrl_same  (c : WriteCtx) (s : State) (hpt : pt ∉ [.regs, .events, .ports]) :
    pt.same s₀ ((rulePortCtrl).effect c s) ↔ pt.same s₀ s := by
  simp at hpt
  simp [rulePortCtrl, hpt]
@[simp] theorem rulePortCfg_same  (c : WriteCtx) (s : State) :
    pt.same s₀ ((rulePortCfg).effect c s) ↔ pt.same s₀ s := by
  simp [rulePortCfg]
@[simp] theorem ruleNbt_same  (c : WriteCtx) (s : State) :
    pt.same s₀ ((ruleNbt).effect c s) ↔ pt.same s₀ s := by
  simp [ruleNbt]
@[simp] theorem ruleDbt_same  (c : WriteCtx) (s : State) :
    pt.same s₀ ((ruleDbt).effect c s) ↔ pt.same s₀ s := by
  simp [ruleDbt]
@[simp] theorem ruleXbt_same  (c : WriteCtx) (s : State) :
    pt.same s₀ ((ruleXbt).effect c s) ↔ pt.same s₀ s := by
  simp [ruleXbt]
@[simp] theorem ruleTdc_same  (c : WriteCtx) (s : State) :
    pt.same s₀ ((ruleTdc).effect c s) ↔ pt.same s₀ s := by
  simp [ruleTdc]
@[simp] theorem ruleWake_same  (c : WriteCtx) (s : State) :
    pt.same s₀ ((ruleWake).effect c s) ↔ pt.same s₀ s := by
  simp [ruleWake]
@[simp] theorem isoOn_same (p : Nat) (s : State) (hpt : pt ∉ [.regs, .ports]) :
    pt.same s₀ (isoOn p s) ↔ pt.same s₀ s := by
  simp at hpt
  simp [isoOn, hpt]
@[simp] theorem isoOff_same (p : Nat) (s : State) (hpt : pt ∉ [.regs, .ports]) :
    pt.same s₀ (isoOff p s) ↔ pt.same s₀ s := by
  simp at hpt
  simp [isoOff, hpt]
@[simp] theorem ruleIso_same  (c : WriteCtx) (s : State) (hpt : pt ∉ [.regs, .ports]) :
    pt.same s₀ ((ruleIso).effect c s) ↔ pt.same s₀ s := by
  simp at hpt
  simp [ruleIso, hpt]
@[simp] theorem ruleName_same  (c : WriteCtx) (s : State) :
    pt.same s₀ ((ruleName).effect c s) ↔ pt.same s₀ s := by
  simp [ruleName]
@[simp] theorem ruleObjCfg_same  (c : WriteCtx) (s : State) :
    pt.same s₀ ((ruleObjCfg).effect c s) ↔ pt.same s₀ s := by
  simp [ruleObjCfg]
@[simp] theorem ruleObjId_same  (c : WriteCtx) (s : State) :
    pt.same s₀ ((ruleObjId).effect c s) ↔ pt.same s₀ s := by
  simp [ruleObjId]
@[simp] theorem ruleObjData_same  (c : WriteCtx) (s : State) :
    pt.same s₀ ((ruleObjData).effect c s) ↔ pt.same s₀ s := by
  simp [ruleObjData]
@[simp] theorem ruleObjCtrl_same  (c : WriteCtx) (s : State) (hpt : pt ∉ [.regs, .freeCtr, .ports]) :
    pt.same s₀ ((ruleObjCtrl).effect c s) ↔ pt.same s₀ s := by
  simp at hpt
  simp [ruleObjCtrl, hpt]
@[simp] theorem rulesBus_same (b : Nat) (c : WriteCtx) (s : State) (hpt : pt ∉ [.regs, .freeCtr, .events, .ports]) :
    pt.same s₀ ((rulesBus b).effect c s) ↔ pt.same s₀ s := by
  simp at hpt
  simp [rulesBus, hpt]

-- Access
@[simp] theorem setMbx_same (m : Master) (k : Nat) (x : Mbx) (s : State) (hpt : pt ∉ [.mbx]) :
    pt.same s₀ (setMbx m k x s) ↔ pt.same s₀ s := by
  simp at hpt
  simp [setMbx, hpt]
@[simp] theorem mbxLatch_same (m : Master) (k : Nat) (s : State) (hpt : pt ∉ [.mbx]) :
    pt.same s₀ (mbxLatch m k s) ↔ pt.same s₀ s := by
  simp at hpt
  simp [mbxLatch, hpt]
@[simp] theorem mbxRead_same (m : Master) (k j : Nat) (s : State) (hpt : pt ∉ [.mbx]) :
    pt.same s₀ (mbxRead m k j s) ↔ pt.same s₀ s := by
  simp at hpt
  simp [mbxRead, hpt]
@[simp] theorem ruleMbxCtrl_same  (c : WriteCtx) (s : State) (hpt : pt ∉ [.mbx]) :
    pt.same s₀ ((ruleMbxCtrl).effect c s) ↔ pt.same s₀ s := by
  simp at hpt
  simp [ruleMbxCtrl, hpt]
@[simp] theorem ruleMbxData_same  (c : WriteCtx) (s : State) :
    pt.same s₀ ((ruleMbxData).effect c s) ↔ pt.same s₀ s := by
  simp [ruleMbxData]
@[simp] theorem ruleOf_same (b : Nat) (c : WriteCtx) (s : State) (hpt : pt ∉ [.regs, .mtime, .freeCtr, .reply, .sup, .start, .own, .unlock, .mbx, .access, .events, .records, .reader, .nv, .stage, .rcv, .fleet, .svc, .outs, .feeds, .rems, .qs, .readCap, .leads, .eng, .gathers, .maps, .onyx, .marker, .nav, .clock, .fb, .ports]) :
    pt.same s₀ ((ruleOf b).effect c s) ↔ pt.same s₀ s := by
  simp at hpt
  simp [ruleOf, hpt]
@[simp] theorem refuse_same (m : Master) (isWrite : Bool) (a : Nat) (e : Err) (data : Word) (s : State) (hpt : pt ∉ [.regs, .events]) :
    pt.same s₀ (refuse m isWrite a e data s) ↔ pt.same s₀ s := by
  simp at hpt
  simp [refuse, hpt]
@[simp] theorem beginTx_same (m : Master) (s : State) (hpt : pt ∉ [.unlock]) :
    pt.same s₀ (beginTx m s) ↔ pt.same s₀ s := by
  simp at hpt
  unfold beginTx; split <;> simp [*]
@[simp] theorem readEffect_same (m : Master) (h : RegHit) (s : State) (hpt : pt ∉ [.freeCtr, .mbx]) :
    pt.same s₀ (readEffect m h s) ↔ pt.same s₀ s := by
  simp at hpt
  simp [readEffect, hpt]
@[simp] theorem readPlace_same (r : RegRule) (m : Master) (shown : Nat) (p : Place) (s : State) (hpt : pt ∉ [.regs, .freeCtr, .mbx, .events]) :
    pt.same s₀ ((readPlace r m shown p s).2.2) ↔ pt.same s₀ s := by
  simp at hpt
  unfold readPlace; split <;> simp [*]
@[simp] theorem readAccess_same (m : Master) (a : Nat) (s : State) (hpt : pt ∉ [.regs, .freeCtr, .mbx, .events]) :
    pt.same s₀ ((readAccess m a s).2.2) ↔ pt.same s₀ s := by
  simp at hpt
  unfold readAccess; (repeat' split) <;> first | rfl | simp [hpt]
@[simp] theorem meterOver_same (s : State) (hpt : pt ∉ [.regs, .events, .svc, .outs, .qs, .fb, .ports]) :
    pt.same s₀ (meterOver s) ↔ pt.same s₀ s := by
  simp at hpt
  simp [meterOver, hpt]
@[simp] theorem imageChanged_same (h : RegHit) (c : WriteCtx) (s : State) (hpt : pt ∉ [.stage]) :
    pt.same s₀ (imageChanged h c s) ↔ pt.same s₀ s := by
  simp at hpt
  simp [imageChanged, hpt]
@[simp] theorem applyWrite_same (r : RegRule) (p : Place) (c : WriteCtx) (s : State) (hr : ∀ c s, pt.same s₀ (r.effect c s) ↔ pt.same s₀ s) (hpt : pt ∉ [.regs, .events, .stage, .svc, .outs, .qs, .fb, .ports]) :
    pt.same s₀ (applyWrite r p c s) ↔ pt.same s₀ s := by
  simp at hpt
  unfold applyWrite; simp [*]
@[simp] theorem writePlace_same (r : RegRule) (m : Master) (shown : Nat) (p : Place) (data : Word) (s : State) (hr : ∀ c s, pt.same s₀ (r.effect c s) ↔ pt.same s₀ s) (hpt : pt ∉ [.regs, .unlock, .events, .stage, .svc, .outs, .qs, .fb, .ports]) :
    pt.same s₀ ((writePlace r m shown p data s).2) ↔ pt.same s₀ s := by
  simp at hpt
  unfold writePlace; dsimp only; (repeat' split) <;> simp [*]
@[simp] theorem writeAccess_same (m : Master) (a : Nat) (data : Word) (s : State) (hpt : pt ∉ [.regs, .mtime, .freeCtr, .reply, .sup, .start, .own, .unlock, .mbx, .access, .events, .records, .reader, .nv, .stage, .rcv, .fleet, .svc, .outs, .feeds, .rems, .qs, .readCap, .leads, .eng, .gathers, .maps, .onyx, .marker, .nav, .clock, .fb, .ports]) :
    pt.same s₀ ((writeAccess m a data s).2) ↔ pt.same s₀ s := by
  simp at hpt
  unfold writeAccess; (repeat' split) <;> simp [*]
@[simp] theorem keyedWith_same (m : Master) (key : BitVec 16) (a : Nat) (data : Word) (target : State → Err × State) (s : State) (htarget : ∀ s, pt.same s₀ (target s).2 ↔ pt.same s₀ s) (hpt : pt ∉ [.regs, .unlock, .events]) :
    pt.same s₀ ((keyedWith m key a data target s).2) ↔ pt.same s₀ s := by
  simp at hpt
  unfold keyedWith; (repeat' split) <;> simp [*]
@[simp] theorem keyedAccess_same (m : Master) (key : BitVec 16) (a : Nat) (data : Word) (s : State) (hpt : pt ∉ [.regs, .mtime, .freeCtr, .reply, .sup, .start, .own, .unlock, .mbx, .access, .events, .records, .reader, .nv, .stage, .rcv, .fleet, .svc, .outs, .feeds, .rems, .qs, .readCap, .leads, .eng, .gathers, .maps, .onyx, .marker, .nav, .clock, .fb, .ports]) :
    pt.same s₀ ((keyedAccess m key a data s).2) ↔ pt.same s₀ s := by
  simp at hpt
  simp [keyedAccess, hpt]
@[simp] theorem setReply_same (r : Reply) (s : State) (hpt : pt ∉ [.reply]) :
    pt.same s₀ (setReply r s) ↔ pt.same s₀ s := by
  simp at hpt
  simp [setReply, hpt]
@[simp] theorem rowWrite_same (r : RegRule) (m : Master) (h : RegHit) (a : Nat) (data : Word) (s : State) (hr : ∀ c s, pt.same s₀ (r.effect c s) ↔ pt.same s₀ s) (hpt : pt ∉ [.regs, .reply, .unlock, .events, .stage, .svc, .outs, .qs, .fb, .ports]) :
    pt.same s₀ (rowWrite r m h a data s) ↔ pt.same s₀ s := by
  simp at hpt
  unfold rowWrite; simp [*]
@[simp] theorem rowKeyed_same (r : RegRule) (m : Master) (key : BitVec 16) (h : RegHit) (a : Nat) (data : Word) (s : State) (hr : ∀ c s, pt.same s₀ (r.effect c s) ↔ pt.same s₀ s) (hpt : pt ∉ [.regs, .reply, .unlock, .events, .stage, .svc, .outs, .qs, .fb, .ports]) :
    pt.same s₀ (rowKeyed r m key h a data s) ↔ pt.same s₀ s := by
  simp at hpt
  unfold rowKeyed; simp [*]
@[simp] theorem addrWrite_same (m : Master) (a : Nat) (data : Word) (s : State) (hpt : pt ∉ [.regs, .mtime, .freeCtr, .reply, .sup, .start, .own, .unlock, .mbx, .access, .events, .records, .reader, .nv, .stage, .rcv, .fleet, .svc, .outs, .feeds, .rems, .qs, .readCap, .leads, .eng, .gathers, .maps, .onyx, .marker, .nav, .clock, .fb, .ports]) :
    pt.same s₀ (addrWrite m a data s) ↔ pt.same s₀ s := by
  simp at hpt
  simp [addrWrite, hpt]

-- Alu
@[simp] theorem aluReg_same (g d a b : Nat) (f : Nat → Word → Word → Core → Core) (s : State) (hpt : pt ∉ [.regs, .events, .outs, .qs, .eng, .gathers]) :
    pt.same s₀ (aluReg g d a b f s) ↔ pt.same s₀ s := by
  simp at hpt
  simp [aluReg, hpt]
@[simp] theorem aluImm_same (g d a : Nat) (i : Word) (f : Nat → Word → Word → Core → Core) (s : State) (hpt : pt ∉ [.regs, .events, .outs, .qs, .eng, .gathers]) :
    pt.same s₀ (aluImm g d a i f s) ↔ pt.same s₀ s := by
  simp at hpt
  simp [aluImm, hpt]
@[simp] theorem asyncArith_same (g d a b : Nat) (f : Word → Word → Word) (s : State) (hpt : pt ∉ [.regs, .events, .outs, .qs, .eng, .gathers]) :
    pt.same s₀ (asyncArith g d a b f s) ↔ pt.same s₀ s := by
  simp at hpt
  simp [asyncArith, hpt]

-- BusAccess
@[simp] theorem busReply_same (p dest kind : Nat) (e : Err) (tag : Nat) (data : List Byte) (addr : Nat) (s : State) (hpt : pt ∉ [.reply, .ports]) :
    pt.same s₀ (busReply p dest kind e tag data addr s) ↔ pt.same s₀ s := by
  simp at hpt
  simp [busReply, hpt]
@[simp] theorem sessionReply_same (p dest : Nat) (e : Err) (s : State) (hpt : pt ∉ [.freeCtr, .reply, .ports]) :
    pt.same s₀ (sessionReply p dest e s) ↔ pt.same s₀ s := by
  simp at hpt
  simp [sessionReply, hpt]
@[simp] theorem refuseSession_same (p dest : Nat) (e : Err) (s : State) (hpt : pt ∉ [.regs, .freeCtr, .reply, .events, .ports]) :
    pt.same s₀ (refuseSession p dest e s) ↔ pt.same s₀ s := by
  simp at hpt
  simp [refuseSession, hpt]
@[simp] theorem dropKeyed_same (k : KeyedAddr) (s : State) (hpt : pt ∉ [.regs, .reply, .access, .events, .ports]) :
    pt.same s₀ (dropKeyed k s) ↔ pt.same s₀ s := by
  simp at hpt
  simp [dropKeyed, hpt]
@[simp] theorem serveOpen_same (p src : Nat) (s : State) (hpt : pt ∉ [.regs, .freeCtr, .reply, .access, .events, .ports]) :
    pt.same s₀ (serveOpen p src s) ↔ pt.same s₀ s := by
  simp at hpt
  simp [serveOpen, hpt]
@[simp] theorem serveClose_same (p src : Nat) (s : State) (hpt : pt ∉ [.regs, .freeCtr, .reply, .access, .events, .ports]) :
    pt.same s₀ (serveClose p src s) ↔ pt.same s₀ s := by
  simp at hpt
  simp [serveClose, hpt]
@[simp] theorem serveAccess_same (p src : Nat) (q : AccReq) (s : State) (hpt : pt ∉ [.regs, .mtime, .freeCtr, .reply, .sup, .start, .own, .unlock, .mbx, .access, .events, .records, .reader, .nv, .stage, .rcv, .fleet, .svc, .outs, .feeds, .rems, .qs, .readCap, .leads, .eng, .gathers, .maps, .onyx, .marker, .nav, .clock, .fb, .ports]) :
    pt.same s₀ (serveAccess p src q s) ↔ pt.same s₀ s := by
  simp at hpt
  unfold serveAccess; dsimp only; (repeat' split) <;> simp [*]
@[simp] theorem serveRequest_same (p src : Nat) (q : AccReq) (s : State) (hpt : pt ∉ [.regs, .mtime, .freeCtr, .reply, .sup, .start, .own, .unlock, .mbx, .access, .events, .records, .reader, .nv, .stage, .rcv, .fleet, .svc, .outs, .feeds, .rems, .qs, .readCap, .leads, .eng, .gathers, .maps, .onyx, .marker, .nav, .clock, .fb, .ports]) :
    pt.same s₀ (serveRequest p src q s) ↔ pt.same s₀ s := by
  simp at hpt
  unfold serveRequest; dsimp only; (repeat' split) <;> simp [*]
@[simp] theorem busAccess_same (p src : Nat) (q : AccReq) (s : State) (hpt : pt ∉ [.regs, .mtime, .freeCtr, .reply, .sup, .start, .own, .unlock, .mbx, .access, .events, .records, .reader, .nv, .stage, .rcv, .fleet, .svc, .outs, .feeds, .rems, .qs, .readCap, .leads, .eng, .gathers, .maps, .onyx, .marker, .nav, .clock, .fb, .ports]) :
    pt.same s₀ (busAccess p src q s) ↔ pt.same s₀ s := by
  simp at hpt
  unfold busAccess; dsimp only; (repeat' split) <;> simp [*]
@[simp] theorem keyedTimeout_same (s : State) (hpt : pt ∉ [.regs, .mtime, .reply, .access, .events, .ports]) :
    pt.same s₀ (keyedTimeout s) ↔ pt.same s₀ s := by
  simp at hpt
  unfold keyedTimeout; split <;> simp [*]

-- Flow
@[simp] theorem retireTo_same (g target : Nat) (f : Core → Core) (s : State) (hpt : pt ∉ [.eng, .gathers]) :
    pt.same s₀ (retireTo g target f s) ↔ pt.same s₀ s := by
  simp at hpt
  simp [retireTo, hpt]
@[simp] theorem branch_same (g k : Nat) (off : BitVec 22) (s : State) (hpt : pt ∉ [.regs, .events, .outs, .qs, .eng, .gathers]) :
    pt.same s₀ (branch g k off s) ↔ pt.same s₀ s := by
  simp at hpt
  simp [branch, hpt]
@[simp] theorem call_same (g : Nat) (off : BitVec 26) (s : State) (hpt : pt ∉ [.regs, .events, .outs, .qs, .eng, .gathers]) :
    pt.same s₀ (call g off s) ↔ pt.same s₀ s := by
  simp at hpt
  simp [call, hpt]
@[simp] theorem jumpReg_same (g a : Nat) (link : Bool) (s : State) (hpt : pt ∉ [.regs, .events, .outs, .qs, .eng, .gathers]) :
    pt.same s₀ (jumpReg g a link s) ↔ pt.same s₀ s := by
  simp at hpt
  simp [jumpReg, hpt]
@[simp] theorem illegalInstruction_same (g : Nat) (w : Word) (s : State) (hpt : pt ∉ [.regs, .events, .outs, .qs, .gathers]) :
    pt.same s₀ (illegalInstruction g w s) ↔ pt.same s₀ s := by
  simp at hpt
  simp [illegalInstruction, hpt]
@[simp] theorem fetchRangeFault_same (g : Nat) (s : State) (hpt : pt ∉ [.regs, .events, .outs, .qs, .gathers]) :
    pt.same s₀ (fetchRangeFault g s) ↔ pt.same s₀ s := by
  simp at hpt
  simp [fetchRangeFault, hpt]

-- Gaffer
@[simp] theorem gafferLine_same (f : State → State) (s : State) (hf : ∀ s, pt.same s₀ (f s) ↔ pt.same s₀ s) (hpt : pt ∉ [.unlock]) :
    pt.same s₀ (gafferLine f s) ↔ pt.same s₀ s := by
  simp at hpt
  unfold gafferLine; simp [*]
@[simp] theorem unlessBusy_same (f : State → State) (s : State) (hf : ∀ s, pt.same s₀ (f s) ↔ pt.same s₀ s) (hpt : pt ∉ [.reply]) :
    pt.same s₀ (unlessBusy f s) ↔ pt.same s₀ s := by
  simp at hpt
  unfold unlessBusy; simp [*]
@[simp] theorem setOp_same (o : PortOp) (s : State) (hpt : pt ∉ [.svc]) :
    pt.same s₀ (setOp o s) ↔ pt.same s₀ s := by
  simp at hpt
  simp [setOp, hpt]
@[simp] theorem gafferId_same (s : State) (hpt : pt ∉ [.reply]) :
    pt.same s₀ (gafferId s) ↔ pt.same s₀ s := by
  simp at hpt
  simp [gafferId, hpt]
@[simp] theorem gafferRd_same (a : Nat) (s : State) (hpt : pt ∉ [.regs, .freeCtr, .reply, .mbx, .events]) :
    pt.same s₀ (gafferRd a s) ↔ pt.same s₀ s := by
  simp at hpt
  simp [gafferRd, hpt]
@[simp] theorem gafferWords_same  (k a : Nat) (s : State) (hpt : pt ∉ [.regs, .freeCtr, .mbx, .events]) :
    pt.same s₀ ((gafferWords k a s).2.2) ↔ pt.same s₀ s := by
  simp at hpt
  induction k generalizing a s with
  | zero => rfl
  | succ n ih => unfold gafferWords; dsimp only; split <;> simp [hpt, ih]
@[simp] theorem gafferBurst_same (a n : Nat) (s : State) (hpt : pt ∉ [.regs, .freeCtr, .reply, .mbx, .events]) :
    pt.same s₀ (gafferBurst a n s) ↔ pt.same s₀ s := by
  simp at hpt
  simp [gafferBurst, hpt]
@[simp] theorem gafferWrite_same (r : RegRule) (h : RegHit) (a : Nat) (data : Word) (s : State) (hr : ∀ c s, pt.same s₀ (r.effect c s) ↔ pt.same s₀ s) (hpt : pt ∉ [.regs, .reply, .unlock, .events, .stage, .svc, .outs, .qs, .fb, .ports]) :
    pt.same s₀ (gafferWrite r h a data s) ↔ pt.same s₀ s := by
  simp at hpt
  unfold gafferWrite; simp [*]
@[simp] theorem gafferKeyed_same (r : RegRule) (key : BitVec 16) (h : RegHit) (a : Nat) (data : Word) (shows : Bool) (s : State) (hr : ∀ c s, pt.same s₀ (r.effect c s) ↔ pt.same s₀ s) (hpt : pt ∉ [.regs, .reply, .unlock, .events, .stage, .svc, .outs, .qs, .fb, .ports]) :
    pt.same s₀ (gafferKeyed r key h a data shows s) ↔ pt.same s₀ s := by
  simp at hpt
  unfold gafferKeyed; simp [*]
@[simp] theorem gafferOwn_same (s : State) (hpt : pt ∉ [.reply]) :
    pt.same s₀ (gafferOwn s) ↔ pt.same s₀ s := by
  simp at hpt
  simp [gafferOwn, hpt]
@[simp] theorem autoOn_same (s : State) (hpt : pt ∉ [.reply, .own]) :
    pt.same s₀ (autoOn s) ↔ pt.same s₀ s := by
  simp at hpt
  simp [autoOn, hpt]
@[simp] theorem autoOff_same (s : State) (hpt : pt ∉ [.reply, .own]) :
    pt.same s₀ (autoOff s) ↔ pt.same s₀ s := by
  simp at hpt
  simp [autoOff, hpt]
@[simp] theorem autoHeartbeat_same (s : State) (hpt : pt ∉ [.regs, .mtime, .own, .unlock, .events, .stage, .svc, .outs, .qs, .fb, .ports]) :
    pt.same s₀ (autoHeartbeat s) ↔ pt.same s₀ s := by
  simp at hpt
  simp [autoHeartbeat, hpt]
@[simp] theorem gafferLog_same (sev n : Nat) (s : State) (hpt : pt ∉ [.reply]) :
    pt.same s₀ (gafferLog sev n s) ↔ pt.same s₀ s := by
  simp at hpt
  simp [gafferLog, hpt]
@[simp] theorem meterWrite_same (check target : Nat) (s : State) (hpt : pt ∉ [.regs, .unlock, .events, .stage, .svc, .outs, .qs, .fb, .ports]) :
    pt.same s₀ ((meterWrite check target s).2) ↔ pt.same s₀ s := by
  simp at hpt
  simp [meterWrite, hpt]
@[simp] theorem gafferMeter_same (check target : Nat) (s : State) (hpt : pt ∉ [.regs, .reply, .unlock, .events, .stage, .svc, .outs, .qs, .fb, .ports]) :
    pt.same s₀ (gafferMeter check target s) ↔ pt.same s₀ s := by
  simp at hpt
  simp [gafferMeter, hpt]
@[simp] theorem gafferMeterRead_same (s : State) (hpt : pt ∉ [.reply]) :
    pt.same s₀ (gafferMeterRead s) ↔ pt.same s₀ s := by
  simp at hpt
  simp [gafferMeterRead, hpt]
@[simp] theorem gafferMeterOff_same (s : State) (hpt : pt ∉ [.regs, .reply, .unlock, .events, .stage, .svc, .outs, .qs, .fb, .ports]) :
    pt.same s₀ (gafferMeterOff s) ↔ pt.same s₀ s := by
  simp at hpt
  simp [gafferMeterOff, hpt]
@[simp] theorem meterMeasurement_same (mv : Int) (s : State) (hpt : pt ∉ [.regs, .reply, .svc]) :
    pt.same s₀ (meterMeasurement mv s) ↔ pt.same s₀ s := by
  simp at hpt
  simp [meterMeasurement, hpt]
@[simp] theorem gafferTest_same (unit port : Nat) (s : State) (hpt : pt ∉ [.regs, .reply, .unlock, .access, .events, .stage, .svc, .outs, .qs, .fb, .ports]) :
    pt.same s₀ (gafferTest unit port s) ↔ pt.same s₀ s := by
  simp at hpt
  simp [gafferTest, hpt]
@[simp] theorem demandHalt_same (s : State) (hpt : pt ∉ [.regs, .start, .events, .outs, .qs, .gathers]) :
    pt.same s₀ (demandHalt s) ↔ pt.same s₀ s := by
  simp at hpt
  simp [demandHalt, hpt]
@[simp] theorem unitResult_same (t : DemandTest) (u : Nat) (s : State) (hpt : pt ∉ [.regs, .start, .events, .records, .reader, .rcv, .outs, .qs, .eng, .gathers, .nav]) :
    pt.same s₀ (unitResult t u s) ↔ pt.same s₀ s := by
  simp at hpt
  unfold unitResult; split <;> simp [*]
@[simp] theorem testDone_same (t : DemandTest) (s : State) (hpt : pt ∉ [.regs, .reply, .start, .own, .access, .events, .records, .reader, .rcv, .svc, .outs, .qs, .eng, .gathers, .nav, .fb, .ports]) :
    pt.same s₀ (testDone t s) ↔ pt.same s₀ s := by
  simp at hpt
  unfold testDone; split
  · rfl
  · extract_lets port bad s1 s2 s3 src s4
    have e1 : pt.same s₀ s1 ↔ pt.same s₀ s := by
      apply withPortReset_same
      · intro s; apply forAll_same; intro x s; simp [hpt]
      · simp [hpt]
    simp [s4, s3, s2, e1, hpt]
@[simp] theorem snapWrite_same (data : Word) (s : State) (hpt : pt ∉ [.regs, .unlock, .access, .events, .stage, .svc, .outs, .qs, .nav, .fb, .ports]) :
    pt.same s₀ ((snapWrite data s).2) ↔ pt.same s₀ s := by
  simp at hpt
  simp [snapWrite, hpt]
@[simp] theorem gafferCapture_same (len chains : Nat) (s : State) (hpt : pt ∉ [.regs, .reply, .unlock, .access, .events, .stage, .svc, .outs, .qs, .nav, .fb, .ports]) :
    pt.same s₀ (gafferCapture len chains s) ↔ pt.same s₀ s := by
  simp at hpt
  simp [gafferCapture, hpt]
@[simp] theorem gafferSolve_same (s : State) (hpt : pt ∉ [.regs, .reply, .unlock, .access, .events, .stage, .svc, .outs, .qs, .nav, .fb, .ports]) :
    pt.same s₀ (gafferSolve s) ↔ pt.same s₀ s := by
  simp at hpt
  simp [gafferSolve, hpt]
@[simp] theorem gafferSnapRead_same (s : State) (hpt : pt ∉ [.reply]) :
    pt.same s₀ (gafferSnapRead s) ↔ pt.same s₀ s := by
  simp at hpt
  simp [gafferSnapRead, hpt]
@[simp] theorem captureReply_same (data : List Byte) (temp : BitVec 16) (s : State) (hpt : pt ∉ [.regs, .mtime, .reply, .svc, .nav]) :
    pt.same s₀ (captureReply data temp s) ↔ pt.same s₀ s := by
  simp at hpt
  simp [captureReply, hpt]
@[simp] theorem solveReply_same (found : Option (Int × Int × Int × Nat)) (s : State) (hpt : pt ∉ [.regs, .reply, .access, .svc, .nav]) :
    pt.same s₀ (solveReply found s) ↔ pt.same s₀ s := by
  simp at hpt
  simp [solveReply, hpt]
@[simp] theorem gafferJas_same (cmd : Nat) (s : State) (hpt : pt ∉ [.regs, .reply, .unlock, .events, .stage, .svc, .outs, .qs, .fb, .ports]) :
    pt.same s₀ (gafferJas cmd s) ↔ pt.same s₀ s := by
  simp at hpt
  simp [gafferJas, hpt]
@[simp] theorem usbDtr_same (isOpen : Bool) (s : State) (hpt : pt ∉ [.regs, .own]) :
    pt.same s₀ (usbDtr isOpen s) ↔ pt.same s₀ s := by
  simp at hpt
  simp [usbDtr, hpt]
@[simp] theorem lineRefused_same (f : LineFault) (s : State) (hpt : pt ∉ [.reply]) :
    pt.same s₀ (lineRefused f s) ↔ pt.same s₀ s := by
  simp at hpt
  simp [lineRefused, hpt]

-- Hspi
@[simp] theorem hspiRead_same (a : Nat) (s : State) (hpt : pt ∉ [.regs, .freeCtr, .reply, .unlock, .mbx, .events]) :
    pt.same s₀ (hspiRead a s) ↔ pt.same s₀ s := by
  simp at hpt
  simp [hspiRead, hpt]
@[simp] theorem hspiWrite_same (a : Nat) (data : Word) (s : State) (hpt : pt ∉ [.regs, .mtime, .freeCtr, .reply, .sup, .start, .own, .unlock, .mbx, .access, .events, .records, .reader, .nv, .stage, .rcv, .fleet, .svc, .outs, .feeds, .rems, .qs, .readCap, .leads, .eng, .gathers, .maps, .onyx, .marker, .nav, .clock, .fb, .ports]) :
    pt.same s₀ (hspiWrite a data s) ↔ pt.same s₀ s := by
  simp at hpt
  simp [hspiWrite, hpt]
@[simp] theorem hspiKeyed_same (key : BitVec 16) (a : Nat) (data : Word) (s : State) (hpt : pt ∉ [.regs, .mtime, .freeCtr, .reply, .sup, .start, .own, .unlock, .mbx, .access, .events, .records, .reader, .nv, .stage, .rcv, .fleet, .svc, .outs, .feeds, .rems, .qs, .readCap, .leads, .eng, .gathers, .maps, .onyx, .marker, .nav, .clock, .fb, .ports]) :
    pt.same s₀ (hspiKeyed key a data s) ↔ pt.same s₀ s := by
  simp at hpt
  simp [hspiKeyed, hpt]
@[simp] theorem burstRead_same  (k a : Nat) (s : State) (hpt : pt ∉ [.regs, .freeCtr, .mbx, .events]) :
    pt.same s₀ ((burstRead k a s).2) ↔ pt.same s₀ s := by
  simp at hpt
  induction k generalizing a s with
  | zero => rfl
  | succ n ih => unfold burstRead; dsimp only; split <;> simp [hpt, ih]
@[simp] theorem burstWrite_same  (ws : List Word) (a : Nat) (s : State) (hpt : pt ∉ [.regs, .mtime, .freeCtr, .reply, .sup, .start, .own, .unlock, .mbx, .access, .events, .records, .reader, .nv, .stage, .rcv, .fleet, .svc, .outs, .feeds, .rems, .qs, .readCap, .leads, .eng, .gathers, .maps, .onyx, .marker, .nav, .clock, .fb, .ports]) :
    pt.same s₀ ((burstWrite ws a s).2) ↔ pt.same s₀ s := by
  simp at hpt
  induction ws generalizing a s with
  | nil => rfl
  | cons w ws ih => unfold burstWrite; dsimp only; split <;> simp [hpt, ih]
@[simp] theorem hspiBurstRead_same (a n : Nat) (s : State) (hpt : pt ∉ [.regs, .freeCtr, .reply, .unlock, .mbx, .events]) :
    pt.same s₀ (hspiBurstRead a n s) ↔ pt.same s₀ s := by
  simp at hpt
  simp [hspiBurstRead, hpt]
@[simp] theorem hspiBurstWrite_same (a : Nat) (ws : List Word) (s : State) (hpt : pt ∉ [.regs, .mtime, .freeCtr, .reply, .sup, .start, .own, .unlock, .mbx, .access, .events, .records, .reader, .nv, .stage, .rcv, .fleet, .svc, .outs, .feeds, .rems, .qs, .readCap, .leads, .eng, .gathers, .maps, .onyx, .marker, .nav, .clock, .fb, .ports]) :
    pt.same s₀ (hspiBurstWrite a ws s) ↔ pt.same s₀ s := by
  simp at hpt
  simp [hspiBurstWrite, hpt]

-- Point
@[simp] theorem pointInstr_same (g d a b : Nat) (f : Word → Word → Word) (s : State) (hpt : pt ∉ [.regs, .events, .outs, .qs, .eng, .gathers]) :
    pt.same s₀ (pointInstr g d a b f s) ↔ pt.same s₀ s := by
  simp at hpt
  simp [pointInstr, hpt]
@[simp] theorem pointDistance_same (g d a b : Nat) (s : State) (hpt : pt ∉ [.regs, .events, .outs, .qs, .eng, .gathers]) :
    pt.same s₀ (pointDistance g d a b s) ↔ pt.same s₀ s := by
  simp at hpt
  simp [pointDistance, hpt]

-- QueueInstr
@[simp] theorem stallFull_same (g q : Nat) (s : State) (hpt : pt ∉ [.regs, .freeCtr, .gathers]) :
    pt.same s₀ (stallFull g q s) ↔ pt.same s₀ s := by
  simp at hpt
  simp [stallFull, hpt]
@[simp] theorem reserveWords_same (q : Nat) (rs : List QRes) (s : State) (hpt : pt ∉ [.regs, .qs]) :
    pt.same s₀ (reserveWords q rs s) ↔ pt.same s₀ s := by
  simp at hpt
  simp [reserveWords, hpt]
@[simp] theorem pushWord_same (g d q : Nat) (s : State) (hpt : pt ∉ [.regs, .freeCtr, .events, .outs, .qs, .eng, .gathers]) :
    pt.same s₀ (pushWord g d q s) ↔ pt.same s₀ s := by
  simp at hpt
  simp [pushWord, hpt]
@[simp] theorem popWord_same (g d q : Nat) (s : State) (hpt : pt ∉ [.regs, .events, .outs, .qs, .eng, .gathers]) :
    pt.same s₀ (popWord g d q s) ↔ pt.same s₀ s := by
  simp at hpt
  simp [popWord, hpt]
@[simp] theorem tryPop_same (g d q : Nat) (s : State) (hpt : pt ∉ [.regs, .events, .outs, .qs, .eng, .gathers]) :
    pt.same s₀ (tryPop g d q s) ↔ pt.same s₀ s := by
  simp at hpt
  unfold tryPop
  apply instruction_same
  · intro s; split
    · simp [hpt]
    · split <;> simp [hpt]
  · simp [hpt]
@[simp] theorem commitPacket_same (g q : Nat) (s : State) (hpt : pt ∉ [.regs, .events, .outs, .qs, .eng, .gathers]) :
    pt.same s₀ (commitPacket g q s) ↔ pt.same s₀ s := by
  simp at hpt
  simp [commitPacket, hpt]
@[simp] theorem queueLevel_same (g d q : Nat) (sel : Bool) (s : State) (hpt : pt ∉ [.regs, .events, .outs, .qs, .eng, .gathers]) :
    pt.same s₀ (queueLevel g d q sel s) ↔ pt.same s₀ s := by
  simp at hpt
  simp [queueLevel, hpt]
@[simp] theorem post_same (g d a b code : Nat) (s : State) (hpt : pt ∉ [.regs, .freeCtr, .events, .outs, .qs, .eng, .gathers]) :
    pt.same s₀ (post g d a b code s) ↔ pt.same s₀ s := by
  simp at hpt
  simp [post, hpt]

-- RowsEng
@[simp] theorem mapGeometry_same (m : Master) (g : GeoReg) (data : Word) (s : State) (hpt : pt ∉ [.regs, .freeCtr, .reply, .unlock, .events, .stage, .svc, .outs, .qs, .maps, .onyx, .fb, .ports]) :
    pt.same s₀ (mapGeometry m g data s) ↔ pt.same s₀ s := by
  simp at hpt
  unfold mapGeometry; split <;> simp [*]

-- RowsFb
@[simp] theorem fbCompare_same (m : Master) (c : CmpReg) (n : Fin 24) (r : Fin 4) (data : Word) (s : State) (hpt : pt ∉ [.regs, .reply, .unlock, .events, .stage, .svc, .outs, .qs, .fb, .ports]) :
    pt.same s₀ (fbCompare m c n r data s) ↔ pt.same s₀ s := by
  simp at hpt
  unfold fbCompare; split <;> simp [*]

-- RowsSys
@[simp] theorem unlockExpiry_same (m : Master) (s : State) (hpt : pt ∉ [.mtime, .unlock]) :
    pt.same s₀ (unlockExpiry m s) ↔ pt.same s₀ s := by
  simp at hpt
  unfold unlockExpiry; split <;> simp [*]
@[simp] theorem mbxDataRead_same (m : Master) (k : Fin 14) (j : Fin 4) (s : State) (hpt : pt ∉ [.regs, .freeCtr, .reply, .unlock, .mbx, .events]) :
    pt.same s₀ (mbxDataRead m k j s) ↔ pt.same s₀ s := by
  simp at hpt
  simp [mbxDataRead, hpt]

-- Ticks
@[simp] theorem restartGather_same (g : Nat) (s : State) (hpt : pt ∉ [.regs, .qs, .gathers]) :
    pt.same s₀ (restartGather g s) ↔ pt.same s₀ s := by
  simp at hpt
  simp [restartGather, hpt]
@[simp] theorem cfgActivate_same (s : State) (hpt : pt ∉ [.regs, .mtime, .freeCtr, .reply, .sup, .start, .own, .unlock, .mbx, .access, .events, .records, .reader, .nv, .stage, .rcv, .fleet, .svc, .outs, .feeds, .rems, .qs, .readCap, .leads, .eng, .gathers, .maps, .onyx, .marker, .nav, .clock, .fb, .ports]) :
    pt.same s₀ (cfgActivate s) ↔ pt.same s₀ s := by
  simp at hpt
  simp [cfgActivate, hpt]
@[simp] theorem cfgActivation_same (s : State) (hpt : pt ∉ [.regs, .mtime, .freeCtr, .reply, .sup, .start, .own, .unlock, .mbx, .access, .events, .records, .reader, .nv, .stage, .rcv, .fleet, .svc, .outs, .feeds, .rems, .qs, .readCap, .leads, .eng, .gathers, .maps, .onyx, .marker, .nav, .clock, .fb, .ports]) :
    pt.same s₀ (cfgActivation s) ↔ pt.same s₀ s := by
  simp at hpt
  simp [cfgActivation, hpt]
@[simp] theorem mapActivation_same (s : State) (hpt : pt ∉ [.regs, .mtime, .events, .nv, .maps, .marker]) :
    pt.same s₀ (mapActivation s) ↔ pt.same s₀ s := by
  simp at hpt
  simp [mapActivation, hpt]
@[simp] theorem tick_same (s : State) (hpt : pt ∉ [.regs, .mtime, .freeCtr, .reply, .sup, .start, .own, .unlock, .mbx, .access, .events, .records, .reader, .nv, .stage, .rcv, .fleet, .svc, .outs, .feeds, .rems, .qs, .readCap, .leads, .eng, .gathers, .maps, .onyx, .marker, .nav, .clock, .fb, .ports]) :
    pt.same s₀ (tick s) ↔ pt.same s₀ s := by
  simp at hpt
  simp [tick, hpt]
@[simp] theorem lineCalibration_same (n : Nat) (taps : List Nat) (s : State) (hpt : pt ∉ [.regs, .events, .outs]) :
    pt.same s₀ (lineCalibration n taps s) ↔ pt.same s₀ s := by
  simp at hpt
  simp [lineCalibration, hpt]

-- TimeInstr
@[simp] theorem readMtime_same (g d : Nat) (s : State) (hpt : pt ∉ [.regs, .freeCtr, .events, .outs, .qs, .eng, .gathers]) :
    pt.same s₀ (readMtime g d s) ↔ pt.same s₀ s := by
  simp at hpt
  simp [readMtime, hpt]
@[simp] theorem tickPlus_same (g d a : Nat) (s : State) (hpt : pt ∉ [.regs, .events, .outs, .qs, .eng, .gathers]) :
    pt.same s₀ (tickPlus g d a s) ↔ pt.same s₀ s := by
  simp at hpt
  simp [tickPlus, hpt]
@[simp] theorem readSnap_same (g d k : Nat) (s : State) (hpt : pt ∉ [.regs, .events, .outs, .qs, .eng, .gathers]) :
    pt.same s₀ (readSnap g d k s) ↔ pt.same s₀ s := by
  simp at hpt
  simp [readSnap, hpt]
@[simp] theorem readLatency_same (g d a k : Nat) (s : State) (hpt : pt ∉ [.regs, .freeCtr, .events, .outs, .qs, .eng, .gathers]) :
    pt.same s₀ (readLatency g d a k s) ↔ pt.same s₀ s := by
  simp at hpt
  simp [readLatency, hpt]

-- Step
@[simp] theorem idle_same (s : State) (hpt : pt ∉ [.mtime]) :
    pt.same s₀ (idle s) ↔ pt.same s₀ s := by
  simp at hpt
  simp [idle, hpt]
@[simp] theorem State.withFetchWord_same (s : State) (nbits w : Nat) (hpt : pt ∉ [.pending]) :
    pt.same s₀ (State.withFetchWord s nbits w) ↔ pt.same s₀ s := by
  simp at hpt
  unfold State.withFetchWord; split <;> simp [*]

end Sys2Proof.Machine
end

