-- ==== Sys2Proof/Laws/Tab.lean ====
section
/-! SUPPORT. Laws of sparse tables: reading after writing, and the canonical form is kept. -/
namespace Sys2Proof.Machine
variable {α : Type}

theorem tabFind_tabErase (t : Tab α) (k j : Nat) :
    tabFind (tabErase t k) j = if j = k then none else tabFind t j := by
  induction t with
  | nil => simp [tabErase, tabFind]
  | cons p t ih =>
    obtain ⟨i, v⟩ := p
    by_cases hik : i = k
    · subst hik
      simp only [tabErase, if_true, ih, tabFind]
      by_cases hj : j = i
      · simp [hj]
      · simp [hj, Ne.symm hj]
    · simp only [tabErase, hik, if_false, tabFind, ih]
      by_cases hij : i = j
      · subst hij; simp [hik]
      · simp [hij]

theorem tabFind_tabInsert (t : Tab α) (k j : Nat) (v : α) (h : tabFind t k = none) :
    tabFind (tabInsert t k v) j = if j = k then some v else tabFind t j := by
  induction t with
  | nil => simp only [tabInsert, tabFind, eq_comm]
  | cons p t ih =>
    obtain ⟨i, w⟩ := p
    have hik : i ≠ k := by rintro rfl; simp [tabFind] at h
    have ht : tabFind t k = none := by simpa [tabFind, hik] using h
    unfold tabInsert
    split
    · rw [tabFind]; simp only [eq_comm]
    · simp only [tabFind, ih ht]
      by_cases hij : i = j
      · subst hij; simp [hik]
      · simp [hij]

/-- A table reads v where v was written and what it read before elsewhere. -/
theorem tabGet_tabSet [DecidableEq α] (d : Nat → α) (t : Tab α) (k j : Nat) (v : α) :
    tabGet d (tabSet d t k v) j = if j = k then v else tabGet d t j := by
  have he := tabFind_tabErase t k
  unfold tabSet tabGet
  split
  · rename_i hv
    rw [he]
    by_cases hj : j = k
    · subst hj; simp [hv]
    · simp [hj]
  · rw [tabFind_tabInsert _ _ _ _ (by simp [he]), he]
    by_cases hj : j = k
    · simp [hj]
    · simp [hj]

@[simp] theorem tabGet_tabSet_same [DecidableEq α] (d : Nat → α) (t : Tab α) (k : Nat) (v : α) :
    tabGet d (tabSet d t k v) k = v := by simp [tabGet_tabSet]

@[simp] theorem tabGet_tabSet_other [DecidableEq α] (d : Nat → α) (t : Tab α) (k j : Nat) (v : α) (h : j ≠ k) :
    tabGet d (tabSet d t k v) j = tabGet d t j := by simp [tabGet_tabSet, h]

theorem tabErase_above (t : Tab α) (k n : Nat) (h : ∀ p ∈ t, n < p.1) : ∀ p ∈ tabErase t k, n < p.1 := by
  induction t with
  | nil => simp [tabErase]
  | cons p t ih =>
    obtain ⟨i, v⟩ := p
    have h2 := ih (fun q hq => h q (List.mem_cons_of_mem _ hq))
    unfold tabErase
    split
    · exact h2
    · intro q hq
      rcases List.mem_cons.mp hq with rfl | hq
      · exact h _ List.mem_cons_self
      · exact h2 q hq

/-- Removing an entry keeps the canonical form. -/
theorem tabErase_wf (d : Nat → α) (t : Tab α) (k : Nat) (h : tabWf d t) : tabWf d (tabErase t k) := by
  induction t with
  | nil => simp [tabErase, tabWf]
  | cons p t ih =>
    obtain ⟨i, v⟩ := p
    obtain ⟨h1, h2, h3⟩ := h
    unfold tabErase
    split
    · exact ih h3
    · exact ⟨h1, tabErase_above t k i h2, ih h3⟩

theorem tabInsert_above (t : Tab α) (k n : Nat) (v : α) (hk : n < k) (h : ∀ p ∈ t, n < p.1) :
    ∀ p ∈ tabInsert t k v, n < p.1 := by
  induction t with
  | nil => intro p hp; simp only [tabInsert, List.mem_singleton] at hp; subst hp; exact hk
  | cons p t ih =>
    obtain ⟨i, w⟩ := p
    have h2 := ih (fun q hq => h q (List.mem_cons_of_mem _ hq))
    unfold tabInsert
    split
    · intro q hq
      rcases List.mem_cons.mp hq with rfl | hq
      · exact hk
      · exact h q hq
    · intro q hq
      rcases List.mem_cons.mp hq with rfl | hq
      · exact h _ List.mem_cons_self
      · exact h2 q hq

/-- Inserting a value other than the default at a key that has no entry keeps the canonical form. -/
theorem tabInsert_wf (d : Nat → α) (t : Tab α) (k : Nat) (v : α) (hv : v ≠ d k) (hn : tabFind t k = none)
    (h : tabWf d t) : tabWf d (tabInsert t k v) := by
  induction t with
  | nil => exact ⟨hv, by simp, trivial⟩
  | cons p t ih =>
    obtain ⟨i, w⟩ := p
    obtain ⟨h1, h2, h3⟩ := h
    have hik : i ≠ k := by rintro rfl; simp [tabFind] at hn
    have ht : tabFind t k = none := by simpa [tabFind, hik] using hn
    unfold tabInsert
    split
    · rename_i hlt
      refine ⟨hv, ?_, h1, h2, h3⟩
      intro q hq
      rcases List.mem_cons.mp hq with rfl | hq
      · exact hlt
      · exact lt_trans hlt (h2 q hq)
    · rename_i hnl
      exact ⟨h1, tabInsert_above t k i v (by omega) h2, ih ht h3⟩

/-- Every write keeps the canonical form. -/
theorem tabSet_wf [DecidableEq α] (d : Nat → α) (t : Tab α) (k : Nat) (v : α) (h : tabWf d t) :
    tabWf d (tabSet d t k v) := by
  unfold tabSet
  split
  · exact tabErase_wf d t k h
  · rename_i hv
    exact tabInsert_wf d _ k v hv (by simp [tabFind_tabErase]) (tabErase_wf d t k h)

/-- Writing a run of keys keeps the canonical form. -/
theorem tabFill_wf [DecidableEq α] (d : Nat → α) (vs : List α) (t : Tab α) (k : Nat) (h : tabWf d t) :
    tabWf d (tabFill d t k vs) := by
  induction vs generalizing t k with
  | nil => exact h
  | cons v vs ih => exact ih _ _ (tabSet_wf d t k v h)

/-- What a run of writes leaves at a key: the written value inside the run, the value before outside it. -/
theorem tabGet_tabFill [DecidableEq α] (d : Nat → α) (vs : List α) (t : Tab α) (k j : Nat) :
    tabGet d (tabFill d t k vs) j = if h : k ≤ j ∧ j - k < vs.length then vs[j - k]'h.2 else tabGet d t j := by
  induction vs generalizing t k with
  | nil => simp [tabFill]
  | cons v vs ih =>
    rw [tabFill, ih, tabGet_tabSet]
    by_cases h1 : j = k
    · subst h1; simp
    · by_cases h2 : k < j
      · have : j - k = j - (k + 1) + 1 := by omega
        simp only [this, List.length_cons, List.getElem_cons_succ]
        by_cases h3 : j - (k + 1) < vs.length
        · rw [dif_pos ⟨by omega, h3⟩, dif_pos ⟨by omega, by omega⟩]
        · rw [dif_neg (by omega), dif_neg (by omega)]; simp [h1]
      · rw [dif_neg (by omega), dif_neg (by omega)]; simp [h1]

/-- Two tables in canonical form that read the same everywhere are equal. -/
theorem tab_ext (d : Nat → α) (t u : Tab α) (ht : tabWf d t) (hu : tabWf d u)
    (h : ∀ k, tabGet d t k = tabGet d u k) : t = u := by
  have above : ∀ (n : Nat) (t : Tab α), (∀ p ∈ t, n < p.1) → tabFind t n = none := by
    intro n t
    induction t with
    | nil => intro _; rfl
    | cons p t ih =>
      intro hp
      have := hp p List.mem_cons_self
      simp only [tabFind]
      rw [if_neg (by omega)]
      exact ih (fun q hq => hp q (List.mem_cons_of_mem _ hq))
  induction t generalizing u with
  | nil =>
    cases u with
    | nil => rfl
    | cons p u =>
      have := h p.1
      simp [tabGet, tabFind] at this
      exact absurd this.symm hu.1
  | cons p t ih =>
    obtain ⟨i, v⟩ := p
    obtain ⟨t1, t2, t3⟩ := ht
    cases u with
    | nil =>
      have := h i
      simp [tabGet, tabFind] at this
      exact absurd this t1
    | cons q u =>
      obtain ⟨j, w⟩ := q
      obtain ⟨u1, u2, u3⟩ := hu
      have key : i = j := by
        rcases Nat.lt_trichotomy i j with hl | he | hg
        · have := h i
          have hf : tabFind u i = none := above i u (fun q hq => lt_trans hl (u2 q hq))
          simp only [tabGet, tabFind, if_true, Option.getD_some, if_neg (Nat.ne_of_gt hl), hf, Option.getD_none] at this
          exact absurd this t1
        · exact he
        · have := h j
          have hf : tabFind t j = none := above j t (fun q hq => lt_trans hg (t2 q hq))
          simp only [tabGet, tabFind, if_true, Option.getD_some, if_neg (Nat.ne_of_gt hg), hf, Option.getD_none] at this
          exact absurd this.symm u1
      subst key
      have hv : v = w := by
        have := h i
        simpa [tabGet, tabFind] using this
      subst hv
      congr 1
      apply ih u t3 u3
      intro k
      have hk := h k
      by_cases e : i = k
      · subst e
        simp [tabGet, above i t t2, above i u u2]
      · simpa [tabGet, tabFind, e] using hk

end Sys2Proof.Machine
end

