-- ==== Sys2Proof/Laws/Regs.lean ====
section
/-! SUPPORT. Laws of registers and fields: what a read returns after a write. -/
namespace Sys2Proof.Machine

theorem bitsOf_lt (w : Word) (hi lo : Nat) : bitsOf w hi lo < 2 ^ (hi - lo + 1) := Nat.mod_lt _ (by positivity)

/-- Bit i of the value of bits hi to lo. -/
theorem testBit_bitsOf (w : Word) (hi lo i : Nat) :
    (bitsOf w hi lo).testBit i = (decide (i < hi - lo + 1) && w.getLsbD (lo + i)) := by
  unfold bitsOf
  rw [Nat.testBit_mod_two_pow, ← Nat.shiftRight_eq_div_pow, Nat.testBit_shiftRight]
  rfl

/-- Bit i of a word after bits hi to lo were replaced. -/
theorem getLsbD_withBits (w : Word) (hi lo v i : Nat) (h : lo ≤ hi) (hi' : hi < 32) (hi32 : i < 32) :
    (withBits w hi lo v).getLsbD i = if lo ≤ i ∧ i ≤ hi then v.testBit (i - lo) else w.getLsbD i := by
  unfold withBits
  rw [BitVec.getLsbD_ofNat]
  simp only [hi32, decide_true, Bool.true_and]
  obtain ⟨n, rfl⟩ : ∃ n, hi = lo + n := ⟨hi - lo, by omega⟩
  have e1 : 2 ^ lo * (v % 2 ^ (lo + n - lo + 1)) + 2 ^ (lo + n + 1) * (w.toNat / 2 ^ (lo + n + 1)) =
      2 ^ lo * (2 ^ (n + 1) * (w.toNat / 2 ^ (lo + n + 1)) + v % 2 ^ (n + 1)) := by
    rw [show lo + n - lo = n by omega, show lo + n + 1 = lo + (n + 1) by omega, pow_add]; ring
  rw [add_assoc, e1, add_comm, Nat.testBit_two_pow_mul_add _ (Nat.mod_lt _ (by positivity))]
  by_cases h1 : i < lo
  · rw [if_pos h1, if_neg (by omega), Nat.testBit_mod_two_pow]
    simp [h1, BitVec.getLsbD]
  · rw [if_neg h1, Nat.testBit_two_pow_mul_add _ (Nat.mod_lt _ (by positivity))]
    by_cases h2 : i - lo < n + 1
    · rw [if_pos h2, if_pos (by omega), Nat.testBit_mod_two_pow]; simp [h2]
    · rw [if_neg h2, if_neg (by omega), ← Nat.shiftRight_eq_div_pow, Nat.testBit_shiftRight]
      simp only [BitVec.getLsbD]; congr 1; omega

/-- A field reads the value that was written to it, modulo its width. -/
theorem bitsOf_withBits (w : Word) (hi lo v : Nat) (h : lo ≤ hi) (h32 : hi < 32) :
    bitsOf (withBits w hi lo v) hi lo = v % 2 ^ (hi - lo + 1) := by
  apply Nat.eq_of_testBit_eq; intro i
  rw [testBit_bitsOf, Nat.testBit_mod_two_pow]
  by_cases hh : i < hi - lo + 1
  · rw [getLsbD_withBits _ _ _ _ _ h h32 (by omega), if_pos (by omega)]; simp [hh]
  · simp [hh]

/-- A field reads as before when a field beside it was written. -/
theorem bitsOf_withBits_other (w : Word) (hi lo v hj lj : Nat) (h : lo ≤ hi) (h32 : hi < 32) (hl : lj ≤ hj) (h2 : hj < 32)
    (hd : hj < lo ∨ hi < lj) : bitsOf (withBits w hi lo v) hj lj = bitsOf w hj lj := by
  apply Nat.eq_of_testBit_eq; intro i
  rw [testBit_bitsOf, testBit_bitsOf]
  by_cases hh : i < hj - lj + 1
  · rw [getLsbD_withBits _ _ _ _ _ h h32 (by omega), if_neg (by omega)]
  · simp [hh]

@[simp] theorem rd_wr_same (s : State) (a : Nat) (w : Word) : rd (wr s a w) a = w := by simp [rd, wr]
/-- A register reads what was written to it, every other register what it read before. -/
theorem rd_wr (s : State) (a b : Nat) (w : Word) : rd (wr s a w) b = if b = a then w else rd s b := by
  simp [rd, wr, tabGet_tabSet]
@[simp] theorem rd_wr_other (s : State) (a b : Nat) (w : Word) (h : b ≠ a) : rd (wr s a w) b = rd s b := by simp [rd_wr, h]
theorem rd_fset (s : State) (f : Fld) (v b : Nat) (h : b ≠ f.reg) : rd (fset s f v) b = rd s b := by simp [fset, h]
theorem rd_fbool (s : State) (f : Fld) (v : Bool) (b : Nat) (h : b ≠ f.reg) : rd (fbool s f v) b = rd s b := rd_fset _ _ _ _ h
theorem rd_fsat (s : State) (f : Fld) (d b : Nat) (h : b ≠ f.reg) : rd (fsat s f d) b = rd s b := rd_fset _ _ _ _ h
theorem rd_fwrap (s : State) (f : Fld) (d b : Nat) (h : b ≠ f.reg) : rd (fwrap s f d) b = rd s b := rd_fset _ _ _ _ h
theorem rd_fmax (s : State) (f : Fld) (d b : Nat) (h : b ≠ f.reg) : rd (fmax s f d) b = rd s b := rd_fset _ _ _ _ h

/-- A field reads the value written to it. -/
theorem fget_fset_same (s : State) (f : Fld) (v : Nat) (h : f.lo ≤ f.hi) (h32 : f.hi < 32) :
    fget (fset s f v) f = v % 2 ^ (f.hi - f.lo + 1) := by simp [fget, fset, bitsOf_withBits _ _ _ _ h h32]
/-- A field of another register keeps its value. -/
theorem fget_fset_reg (s : State) (f k : Fld) (v : Nat) (h : k.reg ≠ f.reg) : fget (fset s f v) k = fget s k := by
  simp [fget, fset, h]
/-- A field beside the written one keeps its value. -/
theorem fget_fset_beside (s : State) (f k : Fld) (v : Nat) (hr : k.reg = f.reg) (h : f.lo ≤ f.hi) (h32 : f.hi < 32)
    (hl : k.lo ≤ k.hi) (h2 : k.hi < 32) (hd : k.hi < f.lo ∨ f.hi < k.lo) : fget (fset s f v) k = fget s k := by
  simp [fget, fset, hr, bitsOf_withBits_other _ _ _ _ _ _ h h32 hl h2 hd]

/-- Register writes keep the canonical form. -/
theorem wr_wf (s : State) (a : Nat) (w : Word) (h : tabWf regReset s.regs) : tabWf regReset (wr s a w).regs := tabSet_wf _ _ _ _ h

/-- A change of the state that leaves the registers leaves what they read. -/
theorem rd_congr {s t : State} (h : t.regs = s.regs) (a : Nat) : rd t a = rd s a := by simp [rd, h]

end Sys2Proof.Machine
end

