-- ==== Sys2Proof/Laws/State.lean ====
section
/-! SUPPORT. Laws of State: for every update of the state, each field after it. -/
namespace Sys2Proof.Machine
variable (s : State)

-- wr
@[simp] theorem wr_regs (a : Nat) (w : Word) : (wr s a w).regs = tabSet regReset s.regs a w := rfl
@[simp] theorem wr_mtime (a : Nat) (w : Word) : (wr s a w).mtime = s.mtime := rfl
@[simp] theorem wr_freeCtr (a : Nat) (w : Word) : (wr s a w).freeCtr = s.freeCtr := rfl
@[simp] theorem wr_pending (a : Nat) (w : Word) : (wr s a w).pending = s.pending := rfl
@[simp] theorem wr_reply (a : Nat) (w : Word) : (wr s a w).reply = s.reply := rfl
@[simp] theorem wr_sup (a : Nat) (w : Word) : (wr s a w).sup = s.sup := rfl
@[simp] theorem wr_start (a : Nat) (w : Word) : (wr s a w).start = s.start := rfl
@[simp] theorem wr_own (a : Nat) (w : Word) : (wr s a w).own = s.own := rfl
@[simp] theorem wr_acc (a : Nat) (w : Word) : (wr s a w).acc = s.acc := rfl
@[simp] theorem wr_agate (a : Nat) (w : Word) : (wr s a w).agate = s.agate := rfl
@[simp] theorem wr_nv (a : Nat) (w : Word) : (wr s a w).nv = s.nv := rfl
@[simp] theorem wr_stage (a : Nat) (w : Word) : (wr s a w).stage = s.stage := rfl
@[simp] theorem wr_rcv (a : Nat) (w : Word) : (wr s a w).rcv = s.rcv := rfl
@[simp] theorem wr_fleet (a : Nat) (w : Word) : (wr s a w).fleet = s.fleet := rfl
@[simp] theorem wr_svc (a : Nat) (w : Word) : (wr s a w).svc = s.svc := rfl
@[simp] theorem wr_outs (a : Nat) (w : Word) : (wr s a w).outs = s.outs := rfl
@[simp] theorem wr_feeds (a : Nat) (w : Word) : (wr s a w).feeds = s.feeds := rfl
@[simp] theorem wr_rems (a : Nat) (w : Word) : (wr s a w).rems = s.rems := rfl
@[simp] theorem wr_qs (a : Nat) (w : Word) : (wr s a w).qs = s.qs := rfl
@[simp] theorem wr_readCap (a : Nat) (w : Word) : (wr s a w).readCap = s.readCap := rfl
@[simp] theorem wr_leads (a : Nat) (w : Word) : (wr s a w).leads = s.leads := rfl
@[simp] theorem wr_leadsOld (a : Nat) (w : Word) : (wr s a w).leadsOld = s.leadsOld := rfl
@[simp] theorem wr_leadsAt (a : Nat) (w : Word) : (wr s a w).leadsAt = s.leadsAt := rfl
@[simp] theorem wr_eng (a : Nat) (w : Word) : (wr s a w).eng = s.eng := rfl
@[simp] theorem wr_gathers (a : Nat) (w : Word) : (wr s a w).gathers = s.gathers := rfl
@[simp] theorem wr_maps (a : Nat) (w : Word) : (wr s a w).maps = s.maps := rfl
@[simp] theorem wr_onyx (a : Nat) (w : Word) : (wr s a w).onyx = s.onyx := rfl
@[simp] theorem wr_marker (a : Nat) (w : Word) : (wr s a w).marker = s.marker := rfl
@[simp] theorem wr_nav (a : Nat) (w : Word) : (wr s a w).nav = s.nav := rfl
@[simp] theorem wr_clock (a : Nat) (w : Word) : (wr s a w).clock = s.clock := rfl
@[simp] theorem wr_fb (a : Nat) (w : Word) : (wr s a w).fb = s.fb := rfl
@[simp] theorem wr_ports (a : Nat) (w : Word) : (wr s a w).ports = s.ports := rfl
-- fset
@[simp] theorem fset_mtime (f : Fld) (v : Nat) : (fset s f v).mtime = s.mtime := rfl
@[simp] theorem fset_freeCtr (f : Fld) (v : Nat) : (fset s f v).freeCtr = s.freeCtr := rfl
@[simp] theorem fset_pending (f : Fld) (v : Nat) : (fset s f v).pending = s.pending := rfl
@[simp] theorem fset_reply (f : Fld) (v : Nat) : (fset s f v).reply = s.reply := rfl
@[simp] theorem fset_sup (f : Fld) (v : Nat) : (fset s f v).sup = s.sup := rfl
@[simp] theorem fset_start (f : Fld) (v : Nat) : (fset s f v).start = s.start := rfl
@[simp] theorem fset_own (f : Fld) (v : Nat) : (fset s f v).own = s.own := rfl
@[simp] theorem fset_acc (f : Fld) (v : Nat) : (fset s f v).acc = s.acc := rfl
@[simp] theorem fset_agate (f : Fld) (v : Nat) : (fset s f v).agate = s.agate := rfl
@[simp] theorem fset_nv (f : Fld) (v : Nat) : (fset s f v).nv = s.nv := rfl
@[simp] theorem fset_stage (f : Fld) (v : Nat) : (fset s f v).stage = s.stage := rfl
@[simp] theorem fset_rcv (f : Fld) (v : Nat) : (fset s f v).rcv = s.rcv := rfl
@[simp] theorem fset_fleet (f : Fld) (v : Nat) : (fset s f v).fleet = s.fleet := rfl
@[simp] theorem fset_svc (f : Fld) (v : Nat) : (fset s f v).svc = s.svc := rfl
@[simp] theorem fset_outs (f : Fld) (v : Nat) : (fset s f v).outs = s.outs := rfl
@[simp] theorem fset_feeds (f : Fld) (v : Nat) : (fset s f v).feeds = s.feeds := rfl
@[simp] theorem fset_rems (f : Fld) (v : Nat) : (fset s f v).rems = s.rems := rfl
@[simp] theorem fset_qs (f : Fld) (v : Nat) : (fset s f v).qs = s.qs := rfl
@[simp] theorem fset_readCap (f : Fld) (v : Nat) : (fset s f v).readCap = s.readCap := rfl
@[simp] theorem fset_leads (f : Fld) (v : Nat) : (fset s f v).leads = s.leads := rfl
@[simp] theorem fset_leadsOld (f : Fld) (v : Nat) : (fset s f v).leadsOld = s.leadsOld := rfl
@[simp] theorem fset_leadsAt (f : Fld) (v : Nat) : (fset s f v).leadsAt = s.leadsAt := rfl
@[simp] theorem fset_eng (f : Fld) (v : Nat) : (fset s f v).eng = s.eng := rfl
@[simp] theorem fset_gathers (f : Fld) (v : Nat) : (fset s f v).gathers = s.gathers := rfl
@[simp] theorem fset_maps (f : Fld) (v : Nat) : (fset s f v).maps = s.maps := rfl
@[simp] theorem fset_onyx (f : Fld) (v : Nat) : (fset s f v).onyx = s.onyx := rfl
@[simp] theorem fset_marker (f : Fld) (v : Nat) : (fset s f v).marker = s.marker := rfl
@[simp] theorem fset_nav (f : Fld) (v : Nat) : (fset s f v).nav = s.nav := rfl
@[simp] theorem fset_clock (f : Fld) (v : Nat) : (fset s f v).clock = s.clock := rfl
@[simp] theorem fset_fb (f : Fld) (v : Nat) : (fset s f v).fb = s.fb := rfl
@[simp] theorem fset_ports (f : Fld) (v : Nat) : (fset s f v).ports = s.ports := rfl
-- fbool
@[simp] theorem fbool_mtime (f : Fld) (b : Bool) : (fbool s f b).mtime = s.mtime := rfl
@[simp] theorem fbool_freeCtr (f : Fld) (b : Bool) : (fbool s f b).freeCtr = s.freeCtr := rfl
@[simp] theorem fbool_pending (f : Fld) (b : Bool) : (fbool s f b).pending = s.pending := rfl
@[simp] theorem fbool_reply (f : Fld) (b : Bool) : (fbool s f b).reply = s.reply := rfl
@[simp] theorem fbool_sup (f : Fld) (b : Bool) : (fbool s f b).sup = s.sup := rfl
@[simp] theorem fbool_start (f : Fld) (b : Bool) : (fbool s f b).start = s.start := rfl
@[simp] theorem fbool_own (f : Fld) (b : Bool) : (fbool s f b).own = s.own := rfl
@[simp] theorem fbool_acc (f : Fld) (b : Bool) : (fbool s f b).acc = s.acc := rfl
@[simp] theorem fbool_agate (f : Fld) (b : Bool) : (fbool s f b).agate = s.agate := rfl
@[simp] theorem fbool_nv (f : Fld) (b : Bool) : (fbool s f b).nv = s.nv := rfl
@[simp] theorem fbool_stage (f : Fld) (b : Bool) : (fbool s f b).stage = s.stage := rfl
@[simp] theorem fbool_rcv (f : Fld) (b : Bool) : (fbool s f b).rcv = s.rcv := rfl
@[simp] theorem fbool_fleet (f : Fld) (b : Bool) : (fbool s f b).fleet = s.fleet := rfl
@[simp] theorem fbool_svc (f : Fld) (b : Bool) : (fbool s f b).svc = s.svc := rfl
@[simp] theorem fbool_outs (f : Fld) (b : Bool) : (fbool s f b).outs = s.outs := rfl
@[simp] theorem fbool_feeds (f : Fld) (b : Bool) : (fbool s f b).feeds = s.feeds := rfl
@[simp] theorem fbool_rems (f : Fld) (b : Bool) : (fbool s f b).rems = s.rems := rfl
@[simp] theorem fbool_qs (f : Fld) (b : Bool) : (fbool s f b).qs = s.qs := rfl
@[simp] theorem fbool_readCap (f : Fld) (b : Bool) : (fbool s f b).readCap = s.readCap := rfl
@[simp] theorem fbool_leads (f : Fld) (b : Bool) : (fbool s f b).leads = s.leads := rfl
@[simp] theorem fbool_leadsOld (f : Fld) (b : Bool) : (fbool s f b).leadsOld = s.leadsOld := rfl
@[simp] theorem fbool_leadsAt (f : Fld) (b : Bool) : (fbool s f b).leadsAt = s.leadsAt := rfl
@[simp] theorem fbool_eng (f : Fld) (b : Bool) : (fbool s f b).eng = s.eng := rfl
@[simp] theorem fbool_gathers (f : Fld) (b : Bool) : (fbool s f b).gathers = s.gathers := rfl
@[simp] theorem fbool_maps (f : Fld) (b : Bool) : (fbool s f b).maps = s.maps := rfl
@[simp] theorem fbool_onyx (f : Fld) (b : Bool) : (fbool s f b).onyx = s.onyx := rfl
@[simp] theorem fbool_marker (f : Fld) (b : Bool) : (fbool s f b).marker = s.marker := rfl
@[simp] theorem fbool_nav (f : Fld) (b : Bool) : (fbool s f b).nav = s.nav := rfl
@[simp] theorem fbool_clock (f : Fld) (b : Bool) : (fbool s f b).clock = s.clock := rfl
@[simp] theorem fbool_fb (f : Fld) (b : Bool) : (fbool s f b).fb = s.fb := rfl
@[simp] theorem fbool_ports (f : Fld) (b : Bool) : (fbool s f b).ports = s.ports := rfl
-- fsat
@[simp] theorem fsat_mtime (f : Fld) (d : Nat) : (fsat s f d).mtime = s.mtime := rfl
@[simp] theorem fsat_freeCtr (f : Fld) (d : Nat) : (fsat s f d).freeCtr = s.freeCtr := rfl
@[simp] theorem fsat_pending (f : Fld) (d : Nat) : (fsat s f d).pending = s.pending := rfl
@[simp] theorem fsat_reply (f : Fld) (d : Nat) : (fsat s f d).reply = s.reply := rfl
@[simp] theorem fsat_sup (f : Fld) (d : Nat) : (fsat s f d).sup = s.sup := rfl
@[simp] theorem fsat_start (f : Fld) (d : Nat) : (fsat s f d).start = s.start := rfl
@[simp] theorem fsat_own (f : Fld) (d : Nat) : (fsat s f d).own = s.own := rfl
@[simp] theorem fsat_acc (f : Fld) (d : Nat) : (fsat s f d).acc = s.acc := rfl
@[simp] theorem fsat_agate (f : Fld) (d : Nat) : (fsat s f d).agate = s.agate := rfl
@[simp] theorem fsat_nv (f : Fld) (d : Nat) : (fsat s f d).nv = s.nv := rfl
@[simp] theorem fsat_stage (f : Fld) (d : Nat) : (fsat s f d).stage = s.stage := rfl
@[simp] theorem fsat_rcv (f : Fld) (d : Nat) : (fsat s f d).rcv = s.rcv := rfl
@[simp] theorem fsat_fleet (f : Fld) (d : Nat) : (fsat s f d).fleet = s.fleet := rfl
@[simp] theorem fsat_svc (f : Fld) (d : Nat) : (fsat s f d).svc = s.svc := rfl
@[simp] theorem fsat_outs (f : Fld) (d : Nat) : (fsat s f d).outs = s.outs := rfl
@[simp] theorem fsat_feeds (f : Fld) (d : Nat) : (fsat s f d).feeds = s.feeds := rfl
@[simp] theorem fsat_rems (f : Fld) (d : Nat) : (fsat s f d).rems = s.rems := rfl
@[simp] theorem fsat_qs (f : Fld) (d : Nat) : (fsat s f d).qs = s.qs := rfl
@[simp] theorem fsat_readCap (f : Fld) (d : Nat) : (fsat s f d).readCap = s.readCap := rfl
@[simp] theorem fsat_leads (f : Fld) (d : Nat) : (fsat s f d).leads = s.leads := rfl
@[simp] theorem fsat_leadsOld (f : Fld) (d : Nat) : (fsat s f d).leadsOld = s.leadsOld := rfl
@[simp] theorem fsat_leadsAt (f : Fld) (d : Nat) : (fsat s f d).leadsAt = s.leadsAt := rfl
@[simp] theorem fsat_eng (f : Fld) (d : Nat) : (fsat s f d).eng = s.eng := rfl
@[simp] theorem fsat_gathers (f : Fld) (d : Nat) : (fsat s f d).gathers = s.gathers := rfl
@[simp] theorem fsat_maps (f : Fld) (d : Nat) : (fsat s f d).maps = s.maps := rfl
@[simp] theorem fsat_onyx (f : Fld) (d : Nat) : (fsat s f d).onyx = s.onyx := rfl
@[simp] theorem fsat_marker (f : Fld) (d : Nat) : (fsat s f d).marker = s.marker := rfl
@[simp] theorem fsat_nav (f : Fld) (d : Nat) : (fsat s f d).nav = s.nav := rfl
@[simp] theorem fsat_clock (f : Fld) (d : Nat) : (fsat s f d).clock = s.clock := rfl
@[simp] theorem fsat_fb (f : Fld) (d : Nat) : (fsat s f d).fb = s.fb := rfl
@[simp] theorem fsat_ports (f : Fld) (d : Nat) : (fsat s f d).ports = s.ports := rfl
-- fwrap
@[simp] theorem fwrap_mtime (f : Fld) (d : Nat) : (fwrap s f d).mtime = s.mtime := rfl
@[simp] theorem fwrap_freeCtr (f : Fld) (d : Nat) : (fwrap s f d).freeCtr = s.freeCtr := rfl
@[simp] theorem fwrap_pending (f : Fld) (d : Nat) : (fwrap s f d).pending = s.pending := rfl
@[simp] theorem fwrap_reply (f : Fld) (d : Nat) : (fwrap s f d).reply = s.reply := rfl
@[simp] theorem fwrap_sup (f : Fld) (d : Nat) : (fwrap s f d).sup = s.sup := rfl
@[simp] theorem fwrap_start (f : Fld) (d : Nat) : (fwrap s f d).start = s.start := rfl
@[simp] theorem fwrap_own (f : Fld) (d : Nat) : (fwrap s f d).own = s.own := rfl
@[simp] theorem fwrap_acc (f : Fld) (d : Nat) : (fwrap s f d).acc = s.acc := rfl
@[simp] theorem fwrap_agate (f : Fld) (d : Nat) : (fwrap s f d).agate = s.agate := rfl
@[simp] theorem fwrap_nv (f : Fld) (d : Nat) : (fwrap s f d).nv = s.nv := rfl
@[simp] theorem fwrap_stage (f : Fld) (d : Nat) : (fwrap s f d).stage = s.stage := rfl
@[simp] theorem fwrap_rcv (f : Fld) (d : Nat) : (fwrap s f d).rcv = s.rcv := rfl
@[simp] theorem fwrap_fleet (f : Fld) (d : Nat) : (fwrap s f d).fleet = s.fleet := rfl
@[simp] theorem fwrap_svc (f : Fld) (d : Nat) : (fwrap s f d).svc = s.svc := rfl
@[simp] theorem fwrap_outs (f : Fld) (d : Nat) : (fwrap s f d).outs = s.outs := rfl
@[simp] theorem fwrap_feeds (f : Fld) (d : Nat) : (fwrap s f d).feeds = s.feeds := rfl
@[simp] theorem fwrap_rems (f : Fld) (d : Nat) : (fwrap s f d).rems = s.rems := rfl
@[simp] theorem fwrap_qs (f : Fld) (d : Nat) : (fwrap s f d).qs = s.qs := rfl
@[simp] theorem fwrap_readCap (f : Fld) (d : Nat) : (fwrap s f d).readCap = s.readCap := rfl
@[simp] theorem fwrap_leads (f : Fld) (d : Nat) : (fwrap s f d).leads = s.leads := rfl
@[simp] theorem fwrap_leadsOld (f : Fld) (d : Nat) : (fwrap s f d).leadsOld = s.leadsOld := rfl
@[simp] theorem fwrap_leadsAt (f : Fld) (d : Nat) : (fwrap s f d).leadsAt = s.leadsAt := rfl
@[simp] theorem fwrap_eng (f : Fld) (d : Nat) : (fwrap s f d).eng = s.eng := rfl
@[simp] theorem fwrap_gathers (f : Fld) (d : Nat) : (fwrap s f d).gathers = s.gathers := rfl
@[simp] theorem fwrap_maps (f : Fld) (d : Nat) : (fwrap s f d).maps = s.maps := rfl
@[simp] theorem fwrap_onyx (f : Fld) (d : Nat) : (fwrap s f d).onyx = s.onyx := rfl
@[simp] theorem fwrap_marker (f : Fld) (d : Nat) : (fwrap s f d).marker = s.marker := rfl
@[simp] theorem fwrap_nav (f : Fld) (d : Nat) : (fwrap s f d).nav = s.nav := rfl
@[simp] theorem fwrap_clock (f : Fld) (d : Nat) : (fwrap s f d).clock = s.clock := rfl
@[simp] theorem fwrap_fb (f : Fld) (d : Nat) : (fwrap s f d).fb = s.fb := rfl
@[simp] theorem fwrap_ports (f : Fld) (d : Nat) : (fwrap s f d).ports = s.ports := rfl
-- setReply
@[simp] theorem setReply_regs (r : Reply) : (setReply r s).regs = s.regs := rfl
@[simp] theorem setReply_mtime (r : Reply) : (setReply r s).mtime = s.mtime := rfl
@[simp] theorem setReply_freeCtr (r : Reply) : (setReply r s).freeCtr = s.freeCtr := rfl
@[simp] theorem setReply_pending (r : Reply) : (setReply r s).pending = s.pending := rfl
@[simp] theorem setReply_reply (r : Reply) : (setReply r s).reply = r := rfl
@[simp] theorem setReply_sup (r : Reply) : (setReply r s).sup = s.sup := rfl
@[simp] theorem setReply_start (r : Reply) : (setReply r s).start = s.start := rfl
@[simp] theorem setReply_own (r : Reply) : (setReply r s).own = s.own := rfl
@[simp] theorem setReply_acc (r : Reply) : (setReply r s).acc = s.acc := rfl
@[simp] theorem setReply_agate (r : Reply) : (setReply r s).agate = s.agate := rfl
@[simp] theorem setReply_nv (r : Reply) : (setReply r s).nv = s.nv := rfl
@[simp] theorem setReply_stage (r : Reply) : (setReply r s).stage = s.stage := rfl
@[simp] theorem setReply_rcv (r : Reply) : (setReply r s).rcv = s.rcv := rfl
@[simp] theorem setReply_fleet (r : Reply) : (setReply r s).fleet = s.fleet := rfl
@[simp] theorem setReply_svc (r : Reply) : (setReply r s).svc = s.svc := rfl
@[simp] theorem setReply_outs (r : Reply) : (setReply r s).outs = s.outs := rfl
@[simp] theorem setReply_feeds (r : Reply) : (setReply r s).feeds = s.feeds := rfl
@[simp] theorem setReply_rems (r : Reply) : (setReply r s).rems = s.rems := rfl
@[simp] theorem setReply_qs (r : Reply) : (setReply r s).qs = s.qs := rfl
@[simp] theorem setReply_readCap (r : Reply) : (setReply r s).readCap = s.readCap := rfl
@[simp] theorem setReply_leads (r : Reply) : (setReply r s).leads = s.leads := rfl
@[simp] theorem setReply_leadsOld (r : Reply) : (setReply r s).leadsOld = s.leadsOld := rfl
@[simp] theorem setReply_leadsAt (r : Reply) : (setReply r s).leadsAt = s.leadsAt := rfl
@[simp] theorem setReply_eng (r : Reply) : (setReply r s).eng = s.eng := rfl
@[simp] theorem setReply_gathers (r : Reply) : (setReply r s).gathers = s.gathers := rfl
@[simp] theorem setReply_maps (r : Reply) : (setReply r s).maps = s.maps := rfl
@[simp] theorem setReply_onyx (r : Reply) : (setReply r s).onyx = s.onyx := rfl
@[simp] theorem setReply_marker (r : Reply) : (setReply r s).marker = s.marker := rfl
@[simp] theorem setReply_nav (r : Reply) : (setReply r s).nav = s.nav := rfl
@[simp] theorem setReply_clock (r : Reply) : (setReply r s).clock = s.clock := rfl
@[simp] theorem setReply_fb (r : Reply) : (setReply r s).fb = s.fb := rfl
@[simp] theorem setReply_ports (r : Reply) : (setReply r s).ports = s.ports := rfl
-- setAgate
@[simp] theorem setAgate_regs (r : Recorder) : (setAgate r s).regs = s.regs := rfl
@[simp] theorem setAgate_mtime (r : Recorder) : (setAgate r s).mtime = s.mtime := rfl
@[simp] theorem setAgate_freeCtr (r : Recorder) : (setAgate r s).freeCtr = s.freeCtr := rfl
@[simp] theorem setAgate_pending (r : Recorder) : (setAgate r s).pending = s.pending := rfl
@[simp] theorem setAgate_reply (r : Recorder) : (setAgate r s).reply = s.reply := rfl
@[simp] theorem setAgate_sup (r : Recorder) : (setAgate r s).sup = s.sup := rfl
@[simp] theorem setAgate_start (r : Recorder) : (setAgate r s).start = s.start := rfl
@[simp] theorem setAgate_own (r : Recorder) : (setAgate r s).own = s.own := rfl
@[simp] theorem setAgate_acc (r : Recorder) : (setAgate r s).acc = s.acc := rfl
@[simp] theorem setAgate_agate (r : Recorder) : (setAgate r s).agate = r := rfl
@[simp] theorem setAgate_nv (r : Recorder) : (setAgate r s).nv = s.nv := rfl
@[simp] theorem setAgate_stage (r : Recorder) : (setAgate r s).stage = s.stage := rfl
@[simp] theorem setAgate_rcv (r : Recorder) : (setAgate r s).rcv = s.rcv := rfl
@[simp] theorem setAgate_fleet (r : Recorder) : (setAgate r s).fleet = s.fleet := rfl
@[simp] theorem setAgate_svc (r : Recorder) : (setAgate r s).svc = s.svc := rfl
@[simp] theorem setAgate_outs (r : Recorder) : (setAgate r s).outs = s.outs := rfl
@[simp] theorem setAgate_feeds (r : Recorder) : (setAgate r s).feeds = s.feeds := rfl
@[simp] theorem setAgate_rems (r : Recorder) : (setAgate r s).rems = s.rems := rfl
@[simp] theorem setAgate_qs (r : Recorder) : (setAgate r s).qs = s.qs := rfl
@[simp] theorem setAgate_readCap (r : Recorder) : (setAgate r s).readCap = s.readCap := rfl
@[simp] theorem setAgate_leads (r : Recorder) : (setAgate r s).leads = s.leads := rfl
@[simp] theorem setAgate_leadsOld (r : Recorder) : (setAgate r s).leadsOld = s.leadsOld := rfl
@[simp] theorem setAgate_leadsAt (r : Recorder) : (setAgate r s).leadsAt = s.leadsAt := rfl
@[simp] theorem setAgate_eng (r : Recorder) : (setAgate r s).eng = s.eng := rfl
@[simp] theorem setAgate_gathers (r : Recorder) : (setAgate r s).gathers = s.gathers := rfl
@[simp] theorem setAgate_maps (r : Recorder) : (setAgate r s).maps = s.maps := rfl
@[simp] theorem setAgate_onyx (r : Recorder) : (setAgate r s).onyx = s.onyx := rfl
@[simp] theorem setAgate_marker (r : Recorder) : (setAgate r s).marker = s.marker := rfl
@[simp] theorem setAgate_nav (r : Recorder) : (setAgate r s).nav = s.nav := rfl
@[simp] theorem setAgate_clock (r : Recorder) : (setAgate r s).clock = s.clock := rfl
@[simp] theorem setAgate_fb (r : Recorder) : (setAgate r s).fb = s.fb := rfl
@[simp] theorem setAgate_ports (r : Recorder) : (setAgate r s).ports = s.ports := rfl
-- setStage
@[simp] theorem setStage_regs (x : Staging) : (setStage x s).regs = s.regs := rfl
@[simp] theorem setStage_mtime (x : Staging) : (setStage x s).mtime = s.mtime := rfl
@[simp] theorem setStage_freeCtr (x : Staging) : (setStage x s).freeCtr = s.freeCtr := rfl
@[simp] theorem setStage_pending (x : Staging) : (setStage x s).pending = s.pending := rfl
@[simp] theorem setStage_reply (x : Staging) : (setStage x s).reply = s.reply := rfl
@[simp] theorem setStage_sup (x : Staging) : (setStage x s).sup = s.sup := rfl
@[simp] theorem setStage_start (x : Staging) : (setStage x s).start = s.start := rfl
@[simp] theorem setStage_own (x : Staging) : (setStage x s).own = s.own := rfl
@[simp] theorem setStage_acc (x : Staging) : (setStage x s).acc = s.acc := rfl
@[simp] theorem setStage_agate (x : Staging) : (setStage x s).agate = s.agate := rfl
@[simp] theorem setStage_nv (x : Staging) : (setStage x s).nv = s.nv := rfl
@[simp] theorem setStage_stage (x : Staging) : (setStage x s).stage = x := rfl
@[simp] theorem setStage_rcv (x : Staging) : (setStage x s).rcv = s.rcv := rfl
@[simp] theorem setStage_fleet (x : Staging) : (setStage x s).fleet = s.fleet := rfl
@[simp] theorem setStage_svc (x : Staging) : (setStage x s).svc = s.svc := rfl
@[simp] theorem setStage_outs (x : Staging) : (setStage x s).outs = s.outs := rfl
@[simp] theorem setStage_feeds (x : Staging) : (setStage x s).feeds = s.feeds := rfl
@[simp] theorem setStage_rems (x : Staging) : (setStage x s).rems = s.rems := rfl
@[simp] theorem setStage_qs (x : Staging) : (setStage x s).qs = s.qs := rfl
@[simp] theorem setStage_readCap (x : Staging) : (setStage x s).readCap = s.readCap := rfl
@[simp] theorem setStage_leads (x : Staging) : (setStage x s).leads = s.leads := rfl
@[simp] theorem setStage_leadsOld (x : Staging) : (setStage x s).leadsOld = s.leadsOld := rfl
@[simp] theorem setStage_leadsAt (x : Staging) : (setStage x s).leadsAt = s.leadsAt := rfl
@[simp] theorem setStage_eng (x : Staging) : (setStage x s).eng = s.eng := rfl
@[simp] theorem setStage_gathers (x : Staging) : (setStage x s).gathers = s.gathers := rfl
@[simp] theorem setStage_maps (x : Staging) : (setStage x s).maps = s.maps := rfl
@[simp] theorem setStage_onyx (x : Staging) : (setStage x s).onyx = s.onyx := rfl
@[simp] theorem setStage_marker (x : Staging) : (setStage x s).marker = s.marker := rfl
@[simp] theorem setStage_nav (x : Staging) : (setStage x s).nav = s.nav := rfl
@[simp] theorem setStage_clock (x : Staging) : (setStage x s).clock = s.clock := rfl
@[simp] theorem setStage_fb (x : Staging) : (setStage x s).fb = s.fb := rfl
@[simp] theorem setStage_ports (x : Staging) : (setStage x s).ports = s.ports := rfl
-- setFleet
@[simp] theorem setFleet_regs (x : Fleet) : (setFleet x s).regs = s.regs := rfl
@[simp] theorem setFleet_mtime (x : Fleet) : (setFleet x s).mtime = s.mtime := rfl
@[simp] theorem setFleet_freeCtr (x : Fleet) : (setFleet x s).freeCtr = s.freeCtr := rfl
@[simp] theorem setFleet_pending (x : Fleet) : (setFleet x s).pending = s.pending := rfl
@[simp] theorem setFleet_reply (x : Fleet) : (setFleet x s).reply = s.reply := rfl
@[simp] theorem setFleet_sup (x : Fleet) : (setFleet x s).sup = s.sup := rfl
@[simp] theorem setFleet_start (x : Fleet) : (setFleet x s).start = s.start := rfl
@[simp] theorem setFleet_own (x : Fleet) : (setFleet x s).own = s.own := rfl
@[simp] theorem setFleet_acc (x : Fleet) : (setFleet x s).acc = s.acc := rfl
@[simp] theorem setFleet_agate (x : Fleet) : (setFleet x s).agate = s.agate := rfl
@[simp] theorem setFleet_nv (x : Fleet) : (setFleet x s).nv = s.nv := rfl
@[simp] theorem setFleet_stage (x : Fleet) : (setFleet x s).stage = s.stage := rfl
@[simp] theorem setFleet_rcv (x : Fleet) : (setFleet x s).rcv = s.rcv := rfl
@[simp] theorem setFleet_fleet (x : Fleet) : (setFleet x s).fleet = x := rfl
@[simp] theorem setFleet_svc (x : Fleet) : (setFleet x s).svc = s.svc := rfl
@[simp] theorem setFleet_outs (x : Fleet) : (setFleet x s).outs = s.outs := rfl
@[simp] theorem setFleet_feeds (x : Fleet) : (setFleet x s).feeds = s.feeds := rfl
@[simp] theorem setFleet_rems (x : Fleet) : (setFleet x s).rems = s.rems := rfl
@[simp] theorem setFleet_qs (x : Fleet) : (setFleet x s).qs = s.qs := rfl
@[simp] theorem setFleet_readCap (x : Fleet) : (setFleet x s).readCap = s.readCap := rfl
@[simp] theorem setFleet_leads (x : Fleet) : (setFleet x s).leads = s.leads := rfl
@[simp] theorem setFleet_leadsOld (x : Fleet) : (setFleet x s).leadsOld = s.leadsOld := rfl
@[simp] theorem setFleet_leadsAt (x : Fleet) : (setFleet x s).leadsAt = s.leadsAt := rfl
@[simp] theorem setFleet_eng (x : Fleet) : (setFleet x s).eng = s.eng := rfl
@[simp] theorem setFleet_gathers (x : Fleet) : (setFleet x s).gathers = s.gathers := rfl
@[simp] theorem setFleet_maps (x : Fleet) : (setFleet x s).maps = s.maps := rfl
@[simp] theorem setFleet_onyx (x : Fleet) : (setFleet x s).onyx = s.onyx := rfl
@[simp] theorem setFleet_marker (x : Fleet) : (setFleet x s).marker = s.marker := rfl
@[simp] theorem setFleet_nav (x : Fleet) : (setFleet x s).nav = s.nav := rfl
@[simp] theorem setFleet_clock (x : Fleet) : (setFleet x s).clock = s.clock := rfl
@[simp] theorem setFleet_fb (x : Fleet) : (setFleet x s).fb = s.fb := rfl
@[simp] theorem setFleet_ports (x : Fleet) : (setFleet x s).ports = s.ports := rfl
-- setNav
@[simp] theorem setNav_regs (x : Nav) : (setNav x s).regs = s.regs := rfl
@[simp] theorem setNav_mtime (x : Nav) : (setNav x s).mtime = s.mtime := rfl
@[simp] theorem setNav_freeCtr (x : Nav) : (setNav x s).freeCtr = s.freeCtr := rfl
@[simp] theorem setNav_pending (x : Nav) : (setNav x s).pending = s.pending := rfl
@[simp] theorem setNav_reply (x : Nav) : (setNav x s).reply = s.reply := rfl
@[simp] theorem setNav_sup (x : Nav) : (setNav x s).sup = s.sup := rfl
@[simp] theorem setNav_start (x : Nav) : (setNav x s).start = s.start := rfl
@[simp] theorem setNav_own (x : Nav) : (setNav x s).own = s.own := rfl
@[simp] theorem setNav_acc (x : Nav) : (setNav x s).acc = s.acc := rfl
@[simp] theorem setNav_agate (x : Nav) : (setNav x s).agate = s.agate := rfl
@[simp] theorem setNav_nv (x : Nav) : (setNav x s).nv = s.nv := rfl
@[simp] theorem setNav_stage (x : Nav) : (setNav x s).stage = s.stage := rfl
@[simp] theorem setNav_rcv (x : Nav) : (setNav x s).rcv = s.rcv := rfl
@[simp] theorem setNav_fleet (x : Nav) : (setNav x s).fleet = s.fleet := rfl
@[simp] theorem setNav_svc (x : Nav) : (setNav x s).svc = s.svc := rfl
@[simp] theorem setNav_outs (x : Nav) : (setNav x s).outs = s.outs := rfl
@[simp] theorem setNav_feeds (x : Nav) : (setNav x s).feeds = s.feeds := rfl
@[simp] theorem setNav_rems (x : Nav) : (setNav x s).rems = s.rems := rfl
@[simp] theorem setNav_qs (x : Nav) : (setNav x s).qs = s.qs := rfl
@[simp] theorem setNav_readCap (x : Nav) : (setNav x s).readCap = s.readCap := rfl
@[simp] theorem setNav_leads (x : Nav) : (setNav x s).leads = s.leads := rfl
@[simp] theorem setNav_leadsOld (x : Nav) : (setNav x s).leadsOld = s.leadsOld := rfl
@[simp] theorem setNav_leadsAt (x : Nav) : (setNav x s).leadsAt = s.leadsAt := rfl
@[simp] theorem setNav_eng (x : Nav) : (setNav x s).eng = s.eng := rfl
@[simp] theorem setNav_gathers (x : Nav) : (setNav x s).gathers = s.gathers := rfl
@[simp] theorem setNav_maps (x : Nav) : (setNav x s).maps = s.maps := rfl
@[simp] theorem setNav_onyx (x : Nav) : (setNav x s).onyx = s.onyx := rfl
@[simp] theorem setNav_marker (x : Nav) : (setNav x s).marker = s.marker := rfl
@[simp] theorem setNav_nav (x : Nav) : (setNav x s).nav = x := rfl
@[simp] theorem setNav_clock (x : Nav) : (setNav x s).clock = s.clock := rfl
@[simp] theorem setNav_fb (x : Nav) : (setNav x s).fb = s.fb := rfl
@[simp] theorem setNav_ports (x : Nav) : (setNav x s).ports = s.ports := rfl
-- setOwn
@[simp] theorem setOwn_regs (x : Own) : (setOwn x s).regs = s.regs := rfl
@[simp] theorem setOwn_mtime (x : Own) : (setOwn x s).mtime = s.mtime := rfl
@[simp] theorem setOwn_freeCtr (x : Own) : (setOwn x s).freeCtr = s.freeCtr := rfl
@[simp] theorem setOwn_pending (x : Own) : (setOwn x s).pending = s.pending := rfl
@[simp] theorem setOwn_reply (x : Own) : (setOwn x s).reply = s.reply := rfl
@[simp] theorem setOwn_sup (x : Own) : (setOwn x s).sup = s.sup := rfl
@[simp] theorem setOwn_start (x : Own) : (setOwn x s).start = s.start := rfl
@[simp] theorem setOwn_own (x : Own) : (setOwn x s).own = x := rfl
@[simp] theorem setOwn_acc (x : Own) : (setOwn x s).acc = s.acc := rfl
@[simp] theorem setOwn_agate (x : Own) : (setOwn x s).agate = s.agate := rfl
@[simp] theorem setOwn_nv (x : Own) : (setOwn x s).nv = s.nv := rfl
@[simp] theorem setOwn_stage (x : Own) : (setOwn x s).stage = s.stage := rfl
@[simp] theorem setOwn_rcv (x : Own) : (setOwn x s).rcv = s.rcv := rfl
@[simp] theorem setOwn_fleet (x : Own) : (setOwn x s).fleet = s.fleet := rfl
@[simp] theorem setOwn_svc (x : Own) : (setOwn x s).svc = s.svc := rfl
@[simp] theorem setOwn_outs (x : Own) : (setOwn x s).outs = s.outs := rfl
@[simp] theorem setOwn_feeds (x : Own) : (setOwn x s).feeds = s.feeds := rfl
@[simp] theorem setOwn_rems (x : Own) : (setOwn x s).rems = s.rems := rfl
@[simp] theorem setOwn_qs (x : Own) : (setOwn x s).qs = s.qs := rfl
@[simp] theorem setOwn_readCap (x : Own) : (setOwn x s).readCap = s.readCap := rfl
@[simp] theorem setOwn_leads (x : Own) : (setOwn x s).leads = s.leads := rfl
@[simp] theorem setOwn_leadsOld (x : Own) : (setOwn x s).leadsOld = s.leadsOld := rfl
@[simp] theorem setOwn_leadsAt (x : Own) : (setOwn x s).leadsAt = s.leadsAt := rfl
@[simp] theorem setOwn_eng (x : Own) : (setOwn x s).eng = s.eng := rfl
@[simp] theorem setOwn_gathers (x : Own) : (setOwn x s).gathers = s.gathers := rfl
@[simp] theorem setOwn_maps (x : Own) : (setOwn x s).maps = s.maps := rfl
@[simp] theorem setOwn_onyx (x : Own) : (setOwn x s).onyx = s.onyx := rfl
@[simp] theorem setOwn_marker (x : Own) : (setOwn x s).marker = s.marker := rfl
@[simp] theorem setOwn_nav (x : Own) : (setOwn x s).nav = s.nav := rfl
@[simp] theorem setOwn_clock (x : Own) : (setOwn x s).clock = s.clock := rfl
@[simp] theorem setOwn_fb (x : Own) : (setOwn x s).fb = s.fb := rfl
@[simp] theorem setOwn_ports (x : Own) : (setOwn x s).ports = s.ports := rfl
-- setSvc
@[simp] theorem setSvc_regs (x : Service) : (setSvc x s).regs = s.regs := rfl
@[simp] theorem setSvc_mtime (x : Service) : (setSvc x s).mtime = s.mtime := rfl
@[simp] theorem setSvc_freeCtr (x : Service) : (setSvc x s).freeCtr = s.freeCtr := rfl
@[simp] theorem setSvc_pending (x : Service) : (setSvc x s).pending = s.pending := rfl
@[simp] theorem setSvc_reply (x : Service) : (setSvc x s).reply = s.reply := rfl
@[simp] theorem setSvc_sup (x : Service) : (setSvc x s).sup = s.sup := rfl
@[simp] theorem setSvc_start (x : Service) : (setSvc x s).start = s.start := rfl
@[simp] theorem setSvc_own (x : Service) : (setSvc x s).own = s.own := rfl
@[simp] theorem setSvc_acc (x : Service) : (setSvc x s).acc = s.acc := rfl
@[simp] theorem setSvc_agate (x : Service) : (setSvc x s).agate = s.agate := rfl
@[simp] theorem setSvc_nv (x : Service) : (setSvc x s).nv = s.nv := rfl
@[simp] theorem setSvc_stage (x : Service) : (setSvc x s).stage = s.stage := rfl
@[simp] theorem setSvc_rcv (x : Service) : (setSvc x s).rcv = s.rcv := rfl
@[simp] theorem setSvc_fleet (x : Service) : (setSvc x s).fleet = s.fleet := rfl
@[simp] theorem setSvc_svc (x : Service) : (setSvc x s).svc = x := rfl
@[simp] theorem setSvc_outs (x : Service) : (setSvc x s).outs = s.outs := rfl
@[simp] theorem setSvc_feeds (x : Service) : (setSvc x s).feeds = s.feeds := rfl
@[simp] theorem setSvc_rems (x : Service) : (setSvc x s).rems = s.rems := rfl
@[simp] theorem setSvc_qs (x : Service) : (setSvc x s).qs = s.qs := rfl
@[simp] theorem setSvc_readCap (x : Service) : (setSvc x s).readCap = s.readCap := rfl
@[simp] theorem setSvc_leads (x : Service) : (setSvc x s).leads = s.leads := rfl
@[simp] theorem setSvc_leadsOld (x : Service) : (setSvc x s).leadsOld = s.leadsOld := rfl
@[simp] theorem setSvc_leadsAt (x : Service) : (setSvc x s).leadsAt = s.leadsAt := rfl
@[simp] theorem setSvc_eng (x : Service) : (setSvc x s).eng = s.eng := rfl
@[simp] theorem setSvc_gathers (x : Service) : (setSvc x s).gathers = s.gathers := rfl
@[simp] theorem setSvc_maps (x : Service) : (setSvc x s).maps = s.maps := rfl
@[simp] theorem setSvc_onyx (x : Service) : (setSvc x s).onyx = s.onyx := rfl
@[simp] theorem setSvc_marker (x : Service) : (setSvc x s).marker = s.marker := rfl
@[simp] theorem setSvc_nav (x : Service) : (setSvc x s).nav = s.nav := rfl
@[simp] theorem setSvc_clock (x : Service) : (setSvc x s).clock = s.clock := rfl
@[simp] theorem setSvc_fb (x : Service) : (setSvc x s).fb = s.fb := rfl
@[simp] theorem setSvc_ports (x : Service) : (setSvc x s).ports = s.ports := rfl
-- setGather
@[simp] theorem setGather_regs (g : Nat) (x : Gather) : (setGather g x s).regs = s.regs := rfl
@[simp] theorem setGather_mtime (g : Nat) (x : Gather) : (setGather g x s).mtime = s.mtime := rfl
@[simp] theorem setGather_freeCtr (g : Nat) (x : Gather) : (setGather g x s).freeCtr = s.freeCtr := rfl
@[simp] theorem setGather_pending (g : Nat) (x : Gather) : (setGather g x s).pending = s.pending := rfl
@[simp] theorem setGather_reply (g : Nat) (x : Gather) : (setGather g x s).reply = s.reply := rfl
@[simp] theorem setGather_sup (g : Nat) (x : Gather) : (setGather g x s).sup = s.sup := rfl
@[simp] theorem setGather_start (g : Nat) (x : Gather) : (setGather g x s).start = s.start := rfl
@[simp] theorem setGather_own (g : Nat) (x : Gather) : (setGather g x s).own = s.own := rfl
@[simp] theorem setGather_acc (g : Nat) (x : Gather) : (setGather g x s).acc = s.acc := rfl
@[simp] theorem setGather_agate (g : Nat) (x : Gather) : (setGather g x s).agate = s.agate := rfl
@[simp] theorem setGather_nv (g : Nat) (x : Gather) : (setGather g x s).nv = s.nv := rfl
@[simp] theorem setGather_stage (g : Nat) (x : Gather) : (setGather g x s).stage = s.stage := rfl
@[simp] theorem setGather_rcv (g : Nat) (x : Gather) : (setGather g x s).rcv = s.rcv := rfl
@[simp] theorem setGather_fleet (g : Nat) (x : Gather) : (setGather g x s).fleet = s.fleet := rfl
@[simp] theorem setGather_svc (g : Nat) (x : Gather) : (setGather g x s).svc = s.svc := rfl
@[simp] theorem setGather_outs (g : Nat) (x : Gather) : (setGather g x s).outs = s.outs := rfl
@[simp] theorem setGather_feeds (g : Nat) (x : Gather) : (setGather g x s).feeds = s.feeds := rfl
@[simp] theorem setGather_rems (g : Nat) (x : Gather) : (setGather g x s).rems = s.rems := rfl
@[simp] theorem setGather_qs (g : Nat) (x : Gather) : (setGather g x s).qs = s.qs := rfl
@[simp] theorem setGather_readCap (g : Nat) (x : Gather) : (setGather g x s).readCap = s.readCap := rfl
@[simp] theorem setGather_leads (g : Nat) (x : Gather) : (setGather g x s).leads = s.leads := rfl
@[simp] theorem setGather_leadsOld (g : Nat) (x : Gather) : (setGather g x s).leadsOld = s.leadsOld := rfl
@[simp] theorem setGather_leadsAt (g : Nat) (x : Gather) : (setGather g x s).leadsAt = s.leadsAt := rfl
@[simp] theorem setGather_eng (g : Nat) (x : Gather) : (setGather g x s).eng = s.eng := rfl
@[simp] theorem setGather_maps (g : Nat) (x : Gather) : (setGather g x s).maps = s.maps := rfl
@[simp] theorem setGather_onyx (g : Nat) (x : Gather) : (setGather g x s).onyx = s.onyx := rfl
@[simp] theorem setGather_marker (g : Nat) (x : Gather) : (setGather g x s).marker = s.marker := rfl
@[simp] theorem setGather_nav (g : Nat) (x : Gather) : (setGather g x s).nav = s.nav := rfl
@[simp] theorem setGather_clock (g : Nat) (x : Gather) : (setGather g x s).clock = s.clock := rfl
@[simp] theorem setGather_fb (g : Nat) (x : Gather) : (setGather g x s).fb = s.fb := rfl
@[simp] theorem setGather_ports (g : Nat) (x : Gather) : (setGather g x s).ports = s.ports := rfl
-- setOut
@[simp] theorem setOut_regs (n : Nat) (x : Out) : (setOut n x s).regs = s.regs := rfl
@[simp] theorem setOut_mtime (n : Nat) (x : Out) : (setOut n x s).mtime = s.mtime := rfl
@[simp] theorem setOut_freeCtr (n : Nat) (x : Out) : (setOut n x s).freeCtr = s.freeCtr := rfl
@[simp] theorem setOut_pending (n : Nat) (x : Out) : (setOut n x s).pending = s.pending := rfl
@[simp] theorem setOut_reply (n : Nat) (x : Out) : (setOut n x s).reply = s.reply := rfl
@[simp] theorem setOut_sup (n : Nat) (x : Out) : (setOut n x s).sup = s.sup := rfl
@[simp] theorem setOut_start (n : Nat) (x : Out) : (setOut n x s).start = s.start := rfl
@[simp] theorem setOut_own (n : Nat) (x : Out) : (setOut n x s).own = s.own := rfl
@[simp] theorem setOut_acc (n : Nat) (x : Out) : (setOut n x s).acc = s.acc := rfl
@[simp] theorem setOut_agate (n : Nat) (x : Out) : (setOut n x s).agate = s.agate := rfl
@[simp] theorem setOut_nv (n : Nat) (x : Out) : (setOut n x s).nv = s.nv := rfl
@[simp] theorem setOut_stage (n : Nat) (x : Out) : (setOut n x s).stage = s.stage := rfl
@[simp] theorem setOut_rcv (n : Nat) (x : Out) : (setOut n x s).rcv = s.rcv := rfl
@[simp] theorem setOut_fleet (n : Nat) (x : Out) : (setOut n x s).fleet = s.fleet := rfl
@[simp] theorem setOut_svc (n : Nat) (x : Out) : (setOut n x s).svc = s.svc := rfl
@[simp] theorem setOut_feeds (n : Nat) (x : Out) : (setOut n x s).feeds = s.feeds := rfl
@[simp] theorem setOut_rems (n : Nat) (x : Out) : (setOut n x s).rems = s.rems := rfl
@[simp] theorem setOut_qs (n : Nat) (x : Out) : (setOut n x s).qs = s.qs := rfl
@[simp] theorem setOut_readCap (n : Nat) (x : Out) : (setOut n x s).readCap = s.readCap := rfl
@[simp] theorem setOut_leads (n : Nat) (x : Out) : (setOut n x s).leads = s.leads := rfl
@[simp] theorem setOut_leadsOld (n : Nat) (x : Out) : (setOut n x s).leadsOld = s.leadsOld := rfl
@[simp] theorem setOut_leadsAt (n : Nat) (x : Out) : (setOut n x s).leadsAt = s.leadsAt := rfl
@[simp] theorem setOut_eng (n : Nat) (x : Out) : (setOut n x s).eng = s.eng := rfl
@[simp] theorem setOut_gathers (n : Nat) (x : Out) : (setOut n x s).gathers = s.gathers := rfl
@[simp] theorem setOut_maps (n : Nat) (x : Out) : (setOut n x s).maps = s.maps := rfl
@[simp] theorem setOut_onyx (n : Nat) (x : Out) : (setOut n x s).onyx = s.onyx := rfl
@[simp] theorem setOut_marker (n : Nat) (x : Out) : (setOut n x s).marker = s.marker := rfl
@[simp] theorem setOut_nav (n : Nat) (x : Out) : (setOut n x s).nav = s.nav := rfl
@[simp] theorem setOut_clock (n : Nat) (x : Out) : (setOut n x s).clock = s.clock := rfl
@[simp] theorem setOut_fb (n : Nat) (x : Out) : (setOut n x s).fb = s.fb := rfl
@[simp] theorem setOut_ports (n : Nat) (x : Out) : (setOut n x s).ports = s.ports := rfl
-- setFeed
@[simp] theorem setFeed_regs (n : Nat) (x : Feed) : (setFeed n x s).regs = s.regs := rfl
@[simp] theorem setFeed_mtime (n : Nat) (x : Feed) : (setFeed n x s).mtime = s.mtime := rfl
@[simp] theorem setFeed_freeCtr (n : Nat) (x : Feed) : (setFeed n x s).freeCtr = s.freeCtr := rfl
@[simp] theorem setFeed_pending (n : Nat) (x : Feed) : (setFeed n x s).pending = s.pending := rfl
@[simp] theorem setFeed_reply (n : Nat) (x : Feed) : (setFeed n x s).reply = s.reply := rfl
@[simp] theorem setFeed_sup (n : Nat) (x : Feed) : (setFeed n x s).sup = s.sup := rfl
@[simp] theorem setFeed_start (n : Nat) (x : Feed) : (setFeed n x s).start = s.start := rfl
@[simp] theorem setFeed_own (n : Nat) (x : Feed) : (setFeed n x s).own = s.own := rfl
@[simp] theorem setFeed_acc (n : Nat) (x : Feed) : (setFeed n x s).acc = s.acc := rfl
@[simp] theorem setFeed_agate (n : Nat) (x : Feed) : (setFeed n x s).agate = s.agate := rfl
@[simp] theorem setFeed_nv (n : Nat) (x : Feed) : (setFeed n x s).nv = s.nv := rfl
@[simp] theorem setFeed_stage (n : Nat) (x : Feed) : (setFeed n x s).stage = s.stage := rfl
@[simp] theorem setFeed_rcv (n : Nat) (x : Feed) : (setFeed n x s).rcv = s.rcv := rfl
@[simp] theorem setFeed_fleet (n : Nat) (x : Feed) : (setFeed n x s).fleet = s.fleet := rfl
@[simp] theorem setFeed_svc (n : Nat) (x : Feed) : (setFeed n x s).svc = s.svc := rfl
@[simp] theorem setFeed_outs (n : Nat) (x : Feed) : (setFeed n x s).outs = s.outs := rfl
@[simp] theorem setFeed_rems (n : Nat) (x : Feed) : (setFeed n x s).rems = s.rems := rfl
@[simp] theorem setFeed_qs (n : Nat) (x : Feed) : (setFeed n x s).qs = s.qs := rfl
@[simp] theorem setFeed_readCap (n : Nat) (x : Feed) : (setFeed n x s).readCap = s.readCap := rfl
@[simp] theorem setFeed_leads (n : Nat) (x : Feed) : (setFeed n x s).leads = s.leads := rfl
@[simp] theorem setFeed_leadsOld (n : Nat) (x : Feed) : (setFeed n x s).leadsOld = s.leadsOld := rfl
@[simp] theorem setFeed_leadsAt (n : Nat) (x : Feed) : (setFeed n x s).leadsAt = s.leadsAt := rfl
@[simp] theorem setFeed_eng (n : Nat) (x : Feed) : (setFeed n x s).eng = s.eng := rfl
@[simp] theorem setFeed_gathers (n : Nat) (x : Feed) : (setFeed n x s).gathers = s.gathers := rfl
@[simp] theorem setFeed_maps (n : Nat) (x : Feed) : (setFeed n x s).maps = s.maps := rfl
@[simp] theorem setFeed_onyx (n : Nat) (x : Feed) : (setFeed n x s).onyx = s.onyx := rfl
@[simp] theorem setFeed_marker (n : Nat) (x : Feed) : (setFeed n x s).marker = s.marker := rfl
@[simp] theorem setFeed_nav (n : Nat) (x : Feed) : (setFeed n x s).nav = s.nav := rfl
@[simp] theorem setFeed_clock (n : Nat) (x : Feed) : (setFeed n x s).clock = s.clock := rfl
@[simp] theorem setFeed_fb (n : Nat) (x : Feed) : (setFeed n x s).fb = s.fb := rfl
@[simp] theorem setFeed_ports (n : Nat) (x : Feed) : (setFeed n x s).ports = s.ports := rfl
-- setRem
@[simp] theorem setRem_regs (d : Nat) (x : Remote) : (setRem d x s).regs = s.regs := rfl
@[simp] theorem setRem_mtime (d : Nat) (x : Remote) : (setRem d x s).mtime = s.mtime := rfl
@[simp] theorem setRem_freeCtr (d : Nat) (x : Remote) : (setRem d x s).freeCtr = s.freeCtr := rfl
@[simp] theorem setRem_pending (d : Nat) (x : Remote) : (setRem d x s).pending = s.pending := rfl
@[simp] theorem setRem_reply (d : Nat) (x : Remote) : (setRem d x s).reply = s.reply := rfl
@[simp] theorem setRem_sup (d : Nat) (x : Remote) : (setRem d x s).sup = s.sup := rfl
@[simp] theorem setRem_start (d : Nat) (x : Remote) : (setRem d x s).start = s.start := rfl
@[simp] theorem setRem_own (d : Nat) (x : Remote) : (setRem d x s).own = s.own := rfl
@[simp] theorem setRem_acc (d : Nat) (x : Remote) : (setRem d x s).acc = s.acc := rfl
@[simp] theorem setRem_agate (d : Nat) (x : Remote) : (setRem d x s).agate = s.agate := rfl
@[simp] theorem setRem_nv (d : Nat) (x : Remote) : (setRem d x s).nv = s.nv := rfl
@[simp] theorem setRem_stage (d : Nat) (x : Remote) : (setRem d x s).stage = s.stage := rfl
@[simp] theorem setRem_rcv (d : Nat) (x : Remote) : (setRem d x s).rcv = s.rcv := rfl
@[simp] theorem setRem_fleet (d : Nat) (x : Remote) : (setRem d x s).fleet = s.fleet := rfl
@[simp] theorem setRem_svc (d : Nat) (x : Remote) : (setRem d x s).svc = s.svc := rfl
@[simp] theorem setRem_outs (d : Nat) (x : Remote) : (setRem d x s).outs = s.outs := rfl
@[simp] theorem setRem_feeds (d : Nat) (x : Remote) : (setRem d x s).feeds = s.feeds := rfl
@[simp] theorem setRem_qs (d : Nat) (x : Remote) : (setRem d x s).qs = s.qs := rfl
@[simp] theorem setRem_readCap (d : Nat) (x : Remote) : (setRem d x s).readCap = s.readCap := rfl
@[simp] theorem setRem_leads (d : Nat) (x : Remote) : (setRem d x s).leads = s.leads := rfl
@[simp] theorem setRem_leadsOld (d : Nat) (x : Remote) : (setRem d x s).leadsOld = s.leadsOld := rfl
@[simp] theorem setRem_leadsAt (d : Nat) (x : Remote) : (setRem d x s).leadsAt = s.leadsAt := rfl
@[simp] theorem setRem_eng (d : Nat) (x : Remote) : (setRem d x s).eng = s.eng := rfl
@[simp] theorem setRem_gathers (d : Nat) (x : Remote) : (setRem d x s).gathers = s.gathers := rfl
@[simp] theorem setRem_maps (d : Nat) (x : Remote) : (setRem d x s).maps = s.maps := rfl
@[simp] theorem setRem_onyx (d : Nat) (x : Remote) : (setRem d x s).onyx = s.onyx := rfl
@[simp] theorem setRem_marker (d : Nat) (x : Remote) : (setRem d x s).marker = s.marker := rfl
@[simp] theorem setRem_nav (d : Nat) (x : Remote) : (setRem d x s).nav = s.nav := rfl
@[simp] theorem setRem_clock (d : Nat) (x : Remote) : (setRem d x s).clock = s.clock := rfl
@[simp] theorem setRem_fb (d : Nat) (x : Remote) : (setRem d x s).fb = s.fb := rfl
@[simp] theorem setRem_ports (d : Nat) (x : Remote) : (setRem d x s).ports = s.ports := rfl
-- setQueue
@[simp] theorem setQueue_regs (q : Nat) (x : Queue) : (setQueue q x s).regs = s.regs := rfl
@[simp] theorem setQueue_mtime (q : Nat) (x : Queue) : (setQueue q x s).mtime = s.mtime := rfl
@[simp] theorem setQueue_freeCtr (q : Nat) (x : Queue) : (setQueue q x s).freeCtr = s.freeCtr := rfl
@[simp] theorem setQueue_pending (q : Nat) (x : Queue) : (setQueue q x s).pending = s.pending := rfl
@[simp] theorem setQueue_reply (q : Nat) (x : Queue) : (setQueue q x s).reply = s.reply := rfl
@[simp] theorem setQueue_sup (q : Nat) (x : Queue) : (setQueue q x s).sup = s.sup := rfl
@[simp] theorem setQueue_start (q : Nat) (x : Queue) : (setQueue q x s).start = s.start := rfl
@[simp] theorem setQueue_own (q : Nat) (x : Queue) : (setQueue q x s).own = s.own := rfl
@[simp] theorem setQueue_acc (q : Nat) (x : Queue) : (setQueue q x s).acc = s.acc := rfl
@[simp] theorem setQueue_agate (q : Nat) (x : Queue) : (setQueue q x s).agate = s.agate := rfl
@[simp] theorem setQueue_nv (q : Nat) (x : Queue) : (setQueue q x s).nv = s.nv := rfl
@[simp] theorem setQueue_stage (q : Nat) (x : Queue) : (setQueue q x s).stage = s.stage := rfl
@[simp] theorem setQueue_rcv (q : Nat) (x : Queue) : (setQueue q x s).rcv = s.rcv := rfl
@[simp] theorem setQueue_fleet (q : Nat) (x : Queue) : (setQueue q x s).fleet = s.fleet := rfl
@[simp] theorem setQueue_svc (q : Nat) (x : Queue) : (setQueue q x s).svc = s.svc := rfl
@[simp] theorem setQueue_outs (q : Nat) (x : Queue) : (setQueue q x s).outs = s.outs := rfl
@[simp] theorem setQueue_feeds (q : Nat) (x : Queue) : (setQueue q x s).feeds = s.feeds := rfl
@[simp] theorem setQueue_rems (q : Nat) (x : Queue) : (setQueue q x s).rems = s.rems := rfl
@[simp] theorem setQueue_readCap (q : Nat) (x : Queue) : (setQueue q x s).readCap = s.readCap := rfl
@[simp] theorem setQueue_leads (q : Nat) (x : Queue) : (setQueue q x s).leads = s.leads := rfl
@[simp] theorem setQueue_leadsOld (q : Nat) (x : Queue) : (setQueue q x s).leadsOld = s.leadsOld := rfl
@[simp] theorem setQueue_leadsAt (q : Nat) (x : Queue) : (setQueue q x s).leadsAt = s.leadsAt := rfl
@[simp] theorem setQueue_eng (q : Nat) (x : Queue) : (setQueue q x s).eng = s.eng := rfl
@[simp] theorem setQueue_gathers (q : Nat) (x : Queue) : (setQueue q x s).gathers = s.gathers := rfl
@[simp] theorem setQueue_maps (q : Nat) (x : Queue) : (setQueue q x s).maps = s.maps := rfl
@[simp] theorem setQueue_onyx (q : Nat) (x : Queue) : (setQueue q x s).onyx = s.onyx := rfl
@[simp] theorem setQueue_marker (q : Nat) (x : Queue) : (setQueue q x s).marker = s.marker := rfl
@[simp] theorem setQueue_nav (q : Nat) (x : Queue) : (setQueue q x s).nav = s.nav := rfl
@[simp] theorem setQueue_clock (q : Nat) (x : Queue) : (setQueue q x s).clock = s.clock := rfl
@[simp] theorem setQueue_fb (q : Nat) (x : Queue) : (setQueue q x s).fb = s.fb := rfl
@[simp] theorem setQueue_ports (q : Nat) (x : Queue) : (setQueue q x s).ports = s.ports := rfl
-- setPort
@[simp] theorem setPort_regs (p : Nat) (x : Port) : (setPort p x s).regs = s.regs := rfl
@[simp] theorem setPort_mtime (p : Nat) (x : Port) : (setPort p x s).mtime = s.mtime := rfl
@[simp] theorem setPort_freeCtr (p : Nat) (x : Port) : (setPort p x s).freeCtr = s.freeCtr := rfl
@[simp] theorem setPort_pending (p : Nat) (x : Port) : (setPort p x s).pending = s.pending := rfl
@[simp] theorem setPort_reply (p : Nat) (x : Port) : (setPort p x s).reply = s.reply := rfl
@[simp] theorem setPort_sup (p : Nat) (x : Port) : (setPort p x s).sup = s.sup := rfl
@[simp] theorem setPort_start (p : Nat) (x : Port) : (setPort p x s).start = s.start := rfl
@[simp] theorem setPort_own (p : Nat) (x : Port) : (setPort p x s).own = s.own := rfl
@[simp] theorem setPort_acc (p : Nat) (x : Port) : (setPort p x s).acc = s.acc := rfl
@[simp] theorem setPort_agate (p : Nat) (x : Port) : (setPort p x s).agate = s.agate := rfl
@[simp] theorem setPort_nv (p : Nat) (x : Port) : (setPort p x s).nv = s.nv := rfl
@[simp] theorem setPort_stage (p : Nat) (x : Port) : (setPort p x s).stage = s.stage := rfl
@[simp] theorem setPort_rcv (p : Nat) (x : Port) : (setPort p x s).rcv = s.rcv := rfl
@[simp] theorem setPort_fleet (p : Nat) (x : Port) : (setPort p x s).fleet = s.fleet := rfl
@[simp] theorem setPort_svc (p : Nat) (x : Port) : (setPort p x s).svc = s.svc := rfl
@[simp] theorem setPort_outs (p : Nat) (x : Port) : (setPort p x s).outs = s.outs := rfl
@[simp] theorem setPort_feeds (p : Nat) (x : Port) : (setPort p x s).feeds = s.feeds := rfl
@[simp] theorem setPort_rems (p : Nat) (x : Port) : (setPort p x s).rems = s.rems := rfl
@[simp] theorem setPort_qs (p : Nat) (x : Port) : (setPort p x s).qs = s.qs := rfl
@[simp] theorem setPort_readCap (p : Nat) (x : Port) : (setPort p x s).readCap = s.readCap := rfl
@[simp] theorem setPort_leads (p : Nat) (x : Port) : (setPort p x s).leads = s.leads := rfl
@[simp] theorem setPort_leadsOld (p : Nat) (x : Port) : (setPort p x s).leadsOld = s.leadsOld := rfl
@[simp] theorem setPort_leadsAt (p : Nat) (x : Port) : (setPort p x s).leadsAt = s.leadsAt := rfl
@[simp] theorem setPort_eng (p : Nat) (x : Port) : (setPort p x s).eng = s.eng := rfl
@[simp] theorem setPort_gathers (p : Nat) (x : Port) : (setPort p x s).gathers = s.gathers := rfl
@[simp] theorem setPort_maps (p : Nat) (x : Port) : (setPort p x s).maps = s.maps := rfl
@[simp] theorem setPort_onyx (p : Nat) (x : Port) : (setPort p x s).onyx = s.onyx := rfl
@[simp] theorem setPort_marker (p : Nat) (x : Port) : (setPort p x s).marker = s.marker := rfl
@[simp] theorem setPort_nav (p : Nat) (x : Port) : (setPort p x s).nav = s.nav := rfl
@[simp] theorem setPort_clock (p : Nat) (x : Port) : (setPort p x s).clock = s.clock := rfl
@[simp] theorem setPort_fb (p : Nat) (x : Port) : (setPort p x s).fb = s.fb := rfl
-- setFb
@[simp] theorem setFb_regs (n : Nat) (x : FbIn) : (setFb n x s).regs = s.regs := rfl
@[simp] theorem setFb_mtime (n : Nat) (x : FbIn) : (setFb n x s).mtime = s.mtime := rfl
@[simp] theorem setFb_freeCtr (n : Nat) (x : FbIn) : (setFb n x s).freeCtr = s.freeCtr := rfl
@[simp] theorem setFb_pending (n : Nat) (x : FbIn) : (setFb n x s).pending = s.pending := rfl
@[simp] theorem setFb_reply (n : Nat) (x : FbIn) : (setFb n x s).reply = s.reply := rfl
@[simp] theorem setFb_sup (n : Nat) (x : FbIn) : (setFb n x s).sup = s.sup := rfl
@[simp] theorem setFb_start (n : Nat) (x : FbIn) : (setFb n x s).start = s.start := rfl
@[simp] theorem setFb_own (n : Nat) (x : FbIn) : (setFb n x s).own = s.own := rfl
@[simp] theorem setFb_acc (n : Nat) (x : FbIn) : (setFb n x s).acc = s.acc := rfl
@[simp] theorem setFb_agate (n : Nat) (x : FbIn) : (setFb n x s).agate = s.agate := rfl
@[simp] theorem setFb_nv (n : Nat) (x : FbIn) : (setFb n x s).nv = s.nv := rfl
@[simp] theorem setFb_stage (n : Nat) (x : FbIn) : (setFb n x s).stage = s.stage := rfl
@[simp] theorem setFb_rcv (n : Nat) (x : FbIn) : (setFb n x s).rcv = s.rcv := rfl
@[simp] theorem setFb_fleet (n : Nat) (x : FbIn) : (setFb n x s).fleet = s.fleet := rfl
@[simp] theorem setFb_svc (n : Nat) (x : FbIn) : (setFb n x s).svc = s.svc := rfl
@[simp] theorem setFb_outs (n : Nat) (x : FbIn) : (setFb n x s).outs = s.outs := rfl
@[simp] theorem setFb_feeds (n : Nat) (x : FbIn) : (setFb n x s).feeds = s.feeds := rfl
@[simp] theorem setFb_rems (n : Nat) (x : FbIn) : (setFb n x s).rems = s.rems := rfl
@[simp] theorem setFb_qs (n : Nat) (x : FbIn) : (setFb n x s).qs = s.qs := rfl
@[simp] theorem setFb_readCap (n : Nat) (x : FbIn) : (setFb n x s).readCap = s.readCap := rfl
@[simp] theorem setFb_leads (n : Nat) (x : FbIn) : (setFb n x s).leads = s.leads := rfl
@[simp] theorem setFb_leadsOld (n : Nat) (x : FbIn) : (setFb n x s).leadsOld = s.leadsOld := rfl
@[simp] theorem setFb_leadsAt (n : Nat) (x : FbIn) : (setFb n x s).leadsAt = s.leadsAt := rfl
@[simp] theorem setFb_eng (n : Nat) (x : FbIn) : (setFb n x s).eng = s.eng := rfl
@[simp] theorem setFb_gathers (n : Nat) (x : FbIn) : (setFb n x s).gathers = s.gathers := rfl
@[simp] theorem setFb_maps (n : Nat) (x : FbIn) : (setFb n x s).maps = s.maps := rfl
@[simp] theorem setFb_onyx (n : Nat) (x : FbIn) : (setFb n x s).onyx = s.onyx := rfl
@[simp] theorem setFb_marker (n : Nat) (x : FbIn) : (setFb n x s).marker = s.marker := rfl
@[simp] theorem setFb_nav (n : Nat) (x : FbIn) : (setFb n x s).nav = s.nav := rfl
@[simp] theorem setFb_clock (n : Nat) (x : FbIn) : (setFb n x s).clock = s.clock := rfl
@[simp] theorem setFb_ports (n : Nat) (x : FbIn) : (setFb n x s).ports = s.ports := rfl
-- setAi
@[simp] theorem setAi_regs (n : Nat) (x : AiIn) : (setAi n x s).regs = s.regs := rfl
@[simp] theorem setAi_mtime (n : Nat) (x : AiIn) : (setAi n x s).mtime = s.mtime := rfl
@[simp] theorem setAi_freeCtr (n : Nat) (x : AiIn) : (setAi n x s).freeCtr = s.freeCtr := rfl
@[simp] theorem setAi_pending (n : Nat) (x : AiIn) : (setAi n x s).pending = s.pending := rfl
@[simp] theorem setAi_reply (n : Nat) (x : AiIn) : (setAi n x s).reply = s.reply := rfl
@[simp] theorem setAi_sup (n : Nat) (x : AiIn) : (setAi n x s).sup = s.sup := rfl
@[simp] theorem setAi_start (n : Nat) (x : AiIn) : (setAi n x s).start = s.start := rfl
@[simp] theorem setAi_own (n : Nat) (x : AiIn) : (setAi n x s).own = s.own := rfl
@[simp] theorem setAi_acc (n : Nat) (x : AiIn) : (setAi n x s).acc = s.acc := rfl
@[simp] theorem setAi_agate (n : Nat) (x : AiIn) : (setAi n x s).agate = s.agate := rfl
@[simp] theorem setAi_nv (n : Nat) (x : AiIn) : (setAi n x s).nv = s.nv := rfl
@[simp] theorem setAi_stage (n : Nat) (x : AiIn) : (setAi n x s).stage = s.stage := rfl
@[simp] theorem setAi_rcv (n : Nat) (x : AiIn) : (setAi n x s).rcv = s.rcv := rfl
@[simp] theorem setAi_fleet (n : Nat) (x : AiIn) : (setAi n x s).fleet = s.fleet := rfl
@[simp] theorem setAi_svc (n : Nat) (x : AiIn) : (setAi n x s).svc = s.svc := rfl
@[simp] theorem setAi_outs (n : Nat) (x : AiIn) : (setAi n x s).outs = s.outs := rfl
@[simp] theorem setAi_feeds (n : Nat) (x : AiIn) : (setAi n x s).feeds = s.feeds := rfl
@[simp] theorem setAi_rems (n : Nat) (x : AiIn) : (setAi n x s).rems = s.rems := rfl
@[simp] theorem setAi_qs (n : Nat) (x : AiIn) : (setAi n x s).qs = s.qs := rfl
@[simp] theorem setAi_readCap (n : Nat) (x : AiIn) : (setAi n x s).readCap = s.readCap := rfl
@[simp] theorem setAi_leads (n : Nat) (x : AiIn) : (setAi n x s).leads = s.leads := rfl
@[simp] theorem setAi_leadsOld (n : Nat) (x : AiIn) : (setAi n x s).leadsOld = s.leadsOld := rfl
@[simp] theorem setAi_leadsAt (n : Nat) (x : AiIn) : (setAi n x s).leadsAt = s.leadsAt := rfl
@[simp] theorem setAi_eng (n : Nat) (x : AiIn) : (setAi n x s).eng = s.eng := rfl
@[simp] theorem setAi_gathers (n : Nat) (x : AiIn) : (setAi n x s).gathers = s.gathers := rfl
@[simp] theorem setAi_maps (n : Nat) (x : AiIn) : (setAi n x s).maps = s.maps := rfl
@[simp] theorem setAi_onyx (n : Nat) (x : AiIn) : (setAi n x s).onyx = s.onyx := rfl
@[simp] theorem setAi_marker (n : Nat) (x : AiIn) : (setAi n x s).marker = s.marker := rfl
@[simp] theorem setAi_nav (n : Nat) (x : AiIn) : (setAi n x s).nav = s.nav := rfl
@[simp] theorem setAi_clock (n : Nat) (x : AiIn) : (setAi n x s).clock = s.clock := rfl
@[simp] theorem setAi_ports (n : Nat) (x : AiIn) : (setAi n x s).ports = s.ports := rfl
-- setPt
@[simp] theorem setPt_regs (n : Nat) (x : PtPin) : (setPt n x s).regs = s.regs := rfl
@[simp] theorem setPt_mtime (n : Nat) (x : PtPin) : (setPt n x s).mtime = s.mtime := rfl
@[simp] theorem setPt_freeCtr (n : Nat) (x : PtPin) : (setPt n x s).freeCtr = s.freeCtr := rfl
@[simp] theorem setPt_pending (n : Nat) (x : PtPin) : (setPt n x s).pending = s.pending := rfl
@[simp] theorem setPt_reply (n : Nat) (x : PtPin) : (setPt n x s).reply = s.reply := rfl
@[simp] theorem setPt_sup (n : Nat) (x : PtPin) : (setPt n x s).sup = s.sup := rfl
@[simp] theorem setPt_start (n : Nat) (x : PtPin) : (setPt n x s).start = s.start := rfl
@[simp] theorem setPt_own (n : Nat) (x : PtPin) : (setPt n x s).own = s.own := rfl
@[simp] theorem setPt_acc (n : Nat) (x : PtPin) : (setPt n x s).acc = s.acc := rfl
@[simp] theorem setPt_agate (n : Nat) (x : PtPin) : (setPt n x s).agate = s.agate := rfl
@[simp] theorem setPt_nv (n : Nat) (x : PtPin) : (setPt n x s).nv = s.nv := rfl
@[simp] theorem setPt_stage (n : Nat) (x : PtPin) : (setPt n x s).stage = s.stage := rfl
@[simp] theorem setPt_rcv (n : Nat) (x : PtPin) : (setPt n x s).rcv = s.rcv := rfl
@[simp] theorem setPt_fleet (n : Nat) (x : PtPin) : (setPt n x s).fleet = s.fleet := rfl
@[simp] theorem setPt_svc (n : Nat) (x : PtPin) : (setPt n x s).svc = s.svc := rfl
@[simp] theorem setPt_outs (n : Nat) (x : PtPin) : (setPt n x s).outs = s.outs := rfl
@[simp] theorem setPt_feeds (n : Nat) (x : PtPin) : (setPt n x s).feeds = s.feeds := rfl
@[simp] theorem setPt_rems (n : Nat) (x : PtPin) : (setPt n x s).rems = s.rems := rfl
@[simp] theorem setPt_qs (n : Nat) (x : PtPin) : (setPt n x s).qs = s.qs := rfl
@[simp] theorem setPt_readCap (n : Nat) (x : PtPin) : (setPt n x s).readCap = s.readCap := rfl
@[simp] theorem setPt_leads (n : Nat) (x : PtPin) : (setPt n x s).leads = s.leads := rfl
@[simp] theorem setPt_leadsOld (n : Nat) (x : PtPin) : (setPt n x s).leadsOld = s.leadsOld := rfl
@[simp] theorem setPt_leadsAt (n : Nat) (x : PtPin) : (setPt n x s).leadsAt = s.leadsAt := rfl
@[simp] theorem setPt_eng (n : Nat) (x : PtPin) : (setPt n x s).eng = s.eng := rfl
@[simp] theorem setPt_gathers (n : Nat) (x : PtPin) : (setPt n x s).gathers = s.gathers := rfl
@[simp] theorem setPt_maps (n : Nat) (x : PtPin) : (setPt n x s).maps = s.maps := rfl
@[simp] theorem setPt_onyx (n : Nat) (x : PtPin) : (setPt n x s).onyx = s.onyx := rfl
@[simp] theorem setPt_marker (n : Nat) (x : PtPin) : (setPt n x s).marker = s.marker := rfl
@[simp] theorem setPt_nav (n : Nat) (x : PtPin) : (setPt n x s).nav = s.nav := rfl
@[simp] theorem setPt_clock (n : Nat) (x : PtPin) : (setPt n x s).clock = s.clock := rfl
@[simp] theorem setPt_ports (n : Nat) (x : PtPin) : (setPt n x s).ports = s.ports := rfl
-- setPeer
@[simp] theorem setPeer_regs (k : Nat) (x : PeerRound) : (setPeer k x s).regs = s.regs := rfl
@[simp] theorem setPeer_mtime (k : Nat) (x : PeerRound) : (setPeer k x s).mtime = s.mtime := rfl
@[simp] theorem setPeer_freeCtr (k : Nat) (x : PeerRound) : (setPeer k x s).freeCtr = s.freeCtr := rfl
@[simp] theorem setPeer_pending (k : Nat) (x : PeerRound) : (setPeer k x s).pending = s.pending := rfl
@[simp] theorem setPeer_reply (k : Nat) (x : PeerRound) : (setPeer k x s).reply = s.reply := rfl
@[simp] theorem setPeer_sup (k : Nat) (x : PeerRound) : (setPeer k x s).sup = s.sup := rfl
@[simp] theorem setPeer_start (k : Nat) (x : PeerRound) : (setPeer k x s).start = s.start := rfl
@[simp] theorem setPeer_own (k : Nat) (x : PeerRound) : (setPeer k x s).own = s.own := rfl
@[simp] theorem setPeer_acc (k : Nat) (x : PeerRound) : (setPeer k x s).acc = s.acc := rfl
@[simp] theorem setPeer_agate (k : Nat) (x : PeerRound) : (setPeer k x s).agate = s.agate := rfl
@[simp] theorem setPeer_nv (k : Nat) (x : PeerRound) : (setPeer k x s).nv = s.nv := rfl
@[simp] theorem setPeer_stage (k : Nat) (x : PeerRound) : (setPeer k x s).stage = s.stage := rfl
@[simp] theorem setPeer_rcv (k : Nat) (x : PeerRound) : (setPeer k x s).rcv = s.rcv := rfl
@[simp] theorem setPeer_svc (k : Nat) (x : PeerRound) : (setPeer k x s).svc = s.svc := rfl
@[simp] theorem setPeer_outs (k : Nat) (x : PeerRound) : (setPeer k x s).outs = s.outs := rfl
@[simp] theorem setPeer_feeds (k : Nat) (x : PeerRound) : (setPeer k x s).feeds = s.feeds := rfl
@[simp] theorem setPeer_rems (k : Nat) (x : PeerRound) : (setPeer k x s).rems = s.rems := rfl
@[simp] theorem setPeer_qs (k : Nat) (x : PeerRound) : (setPeer k x s).qs = s.qs := rfl
@[simp] theorem setPeer_readCap (k : Nat) (x : PeerRound) : (setPeer k x s).readCap = s.readCap := rfl
@[simp] theorem setPeer_leads (k : Nat) (x : PeerRound) : (setPeer k x s).leads = s.leads := rfl
@[simp] theorem setPeer_leadsOld (k : Nat) (x : PeerRound) : (setPeer k x s).leadsOld = s.leadsOld := rfl
@[simp] theorem setPeer_leadsAt (k : Nat) (x : PeerRound) : (setPeer k x s).leadsAt = s.leadsAt := rfl
@[simp] theorem setPeer_eng (k : Nat) (x : PeerRound) : (setPeer k x s).eng = s.eng := rfl
@[simp] theorem setPeer_gathers (k : Nat) (x : PeerRound) : (setPeer k x s).gathers = s.gathers := rfl
@[simp] theorem setPeer_maps (k : Nat) (x : PeerRound) : (setPeer k x s).maps = s.maps := rfl
@[simp] theorem setPeer_onyx (k : Nat) (x : PeerRound) : (setPeer k x s).onyx = s.onyx := rfl
@[simp] theorem setPeer_marker (k : Nat) (x : PeerRound) : (setPeer k x s).marker = s.marker := rfl
@[simp] theorem setPeer_nav (k : Nat) (x : PeerRound) : (setPeer k x s).nav = s.nav := rfl
@[simp] theorem setPeer_clock (k : Nat) (x : PeerRound) : (setPeer k x s).clock = s.clock := rfl
@[simp] theorem setPeer_fb (k : Nat) (x : PeerRound) : (setPeer k x s).fb = s.fb := rfl
@[simp] theorem setPeer_ports (k : Nat) (x : PeerRound) : (setPeer k x s).ports = s.ports := rfl
-- setUnlock
@[simp] theorem setUnlock_regs (m : Master) (u : Unlock) : (setUnlock m u s).regs = s.regs := rfl
@[simp] theorem setUnlock_mtime (m : Master) (u : Unlock) : (setUnlock m u s).mtime = s.mtime := rfl
@[simp] theorem setUnlock_freeCtr (m : Master) (u : Unlock) : (setUnlock m u s).freeCtr = s.freeCtr := rfl
@[simp] theorem setUnlock_pending (m : Master) (u : Unlock) : (setUnlock m u s).pending = s.pending := rfl
@[simp] theorem setUnlock_reply (m : Master) (u : Unlock) : (setUnlock m u s).reply = s.reply := rfl
@[simp] theorem setUnlock_sup (m : Master) (u : Unlock) : (setUnlock m u s).sup = s.sup := rfl
@[simp] theorem setUnlock_start (m : Master) (u : Unlock) : (setUnlock m u s).start = s.start := rfl
@[simp] theorem setUnlock_own (m : Master) (u : Unlock) : (setUnlock m u s).own = s.own := rfl
@[simp] theorem setUnlock_agate (m : Master) (u : Unlock) : (setUnlock m u s).agate = s.agate := rfl
@[simp] theorem setUnlock_nv (m : Master) (u : Unlock) : (setUnlock m u s).nv = s.nv := rfl
@[simp] theorem setUnlock_stage (m : Master) (u : Unlock) : (setUnlock m u s).stage = s.stage := rfl
@[simp] theorem setUnlock_rcv (m : Master) (u : Unlock) : (setUnlock m u s).rcv = s.rcv := rfl
@[simp] theorem setUnlock_fleet (m : Master) (u : Unlock) : (setUnlock m u s).fleet = s.fleet := rfl
@[simp] theorem setUnlock_svc (m : Master) (u : Unlock) : (setUnlock m u s).svc = s.svc := rfl
@[simp] theorem setUnlock_outs (m : Master) (u : Unlock) : (setUnlock m u s).outs = s.outs := rfl
@[simp] theorem setUnlock_feeds (m : Master) (u : Unlock) : (setUnlock m u s).feeds = s.feeds := rfl
@[simp] theorem setUnlock_rems (m : Master) (u : Unlock) : (setUnlock m u s).rems = s.rems := rfl
@[simp] theorem setUnlock_qs (m : Master) (u : Unlock) : (setUnlock m u s).qs = s.qs := rfl
@[simp] theorem setUnlock_readCap (m : Master) (u : Unlock) : (setUnlock m u s).readCap = s.readCap := rfl
@[simp] theorem setUnlock_leads (m : Master) (u : Unlock) : (setUnlock m u s).leads = s.leads := rfl
@[simp] theorem setUnlock_leadsOld (m : Master) (u : Unlock) : (setUnlock m u s).leadsOld = s.leadsOld := rfl
@[simp] theorem setUnlock_leadsAt (m : Master) (u : Unlock) : (setUnlock m u s).leadsAt = s.leadsAt := rfl
@[simp] theorem setUnlock_eng (m : Master) (u : Unlock) : (setUnlock m u s).eng = s.eng := rfl
@[simp] theorem setUnlock_gathers (m : Master) (u : Unlock) : (setUnlock m u s).gathers = s.gathers := rfl
@[simp] theorem setUnlock_maps (m : Master) (u : Unlock) : (setUnlock m u s).maps = s.maps := rfl
@[simp] theorem setUnlock_onyx (m : Master) (u : Unlock) : (setUnlock m u s).onyx = s.onyx := rfl
@[simp] theorem setUnlock_marker (m : Master) (u : Unlock) : (setUnlock m u s).marker = s.marker := rfl
@[simp] theorem setUnlock_nav (m : Master) (u : Unlock) : (setUnlock m u s).nav = s.nav := rfl
@[simp] theorem setUnlock_clock (m : Master) (u : Unlock) : (setUnlock m u s).clock = s.clock := rfl
@[simp] theorem setUnlock_fb (m : Master) (u : Unlock) : (setUnlock m u s).fb = s.fb := rfl
@[simp] theorem setUnlock_ports (m : Master) (u : Unlock) : (setUnlock m u s).ports = s.ports := rfl
-- setMbx
@[simp] theorem setMbx_regs (m : Master) (k : Nat) (x : Mbx) : (setMbx m k x s).regs = s.regs := rfl
@[simp] theorem setMbx_mtime (m : Master) (k : Nat) (x : Mbx) : (setMbx m k x s).mtime = s.mtime := rfl
@[simp] theorem setMbx_freeCtr (m : Master) (k : Nat) (x : Mbx) : (setMbx m k x s).freeCtr = s.freeCtr := rfl
@[simp] theorem setMbx_pending (m : Master) (k : Nat) (x : Mbx) : (setMbx m k x s).pending = s.pending := rfl
@[simp] theorem setMbx_reply (m : Master) (k : Nat) (x : Mbx) : (setMbx m k x s).reply = s.reply := rfl
@[simp] theorem setMbx_sup (m : Master) (k : Nat) (x : Mbx) : (setMbx m k x s).sup = s.sup := rfl
@[simp] theorem setMbx_start (m : Master) (k : Nat) (x : Mbx) : (setMbx m k x s).start = s.start := rfl
@[simp] theorem setMbx_own (m : Master) (k : Nat) (x : Mbx) : (setMbx m k x s).own = s.own := rfl
@[simp] theorem setMbx_agate (m : Master) (k : Nat) (x : Mbx) : (setMbx m k x s).agate = s.agate := rfl
@[simp] theorem setMbx_nv (m : Master) (k : Nat) (x : Mbx) : (setMbx m k x s).nv = s.nv := rfl
@[simp] theorem setMbx_stage (m : Master) (k : Nat) (x : Mbx) : (setMbx m k x s).stage = s.stage := rfl
@[simp] theorem setMbx_rcv (m : Master) (k : Nat) (x : Mbx) : (setMbx m k x s).rcv = s.rcv := rfl
@[simp] theorem setMbx_fleet (m : Master) (k : Nat) (x : Mbx) : (setMbx m k x s).fleet = s.fleet := rfl
@[simp] theorem setMbx_svc (m : Master) (k : Nat) (x : Mbx) : (setMbx m k x s).svc = s.svc := rfl
@[simp] theorem setMbx_outs (m : Master) (k : Nat) (x : Mbx) : (setMbx m k x s).outs = s.outs := rfl
@[simp] theorem setMbx_feeds (m : Master) (k : Nat) (x : Mbx) : (setMbx m k x s).feeds = s.feeds := rfl
@[simp] theorem setMbx_rems (m : Master) (k : Nat) (x : Mbx) : (setMbx m k x s).rems = s.rems := rfl
@[simp] theorem setMbx_qs (m : Master) (k : Nat) (x : Mbx) : (setMbx m k x s).qs = s.qs := rfl
@[simp] theorem setMbx_readCap (m : Master) (k : Nat) (x : Mbx) : (setMbx m k x s).readCap = s.readCap := rfl
@[simp] theorem setMbx_leads (m : Master) (k : Nat) (x : Mbx) : (setMbx m k x s).leads = s.leads := rfl
@[simp] theorem setMbx_leadsOld (m : Master) (k : Nat) (x : Mbx) : (setMbx m k x s).leadsOld = s.leadsOld := rfl
@[simp] theorem setMbx_leadsAt (m : Master) (k : Nat) (x : Mbx) : (setMbx m k x s).leadsAt = s.leadsAt := rfl
@[simp] theorem setMbx_eng (m : Master) (k : Nat) (x : Mbx) : (setMbx m k x s).eng = s.eng := rfl
@[simp] theorem setMbx_gathers (m : Master) (k : Nat) (x : Mbx) : (setMbx m k x s).gathers = s.gathers := rfl
@[simp] theorem setMbx_maps (m : Master) (k : Nat) (x : Mbx) : (setMbx m k x s).maps = s.maps := rfl
@[simp] theorem setMbx_onyx (m : Master) (k : Nat) (x : Mbx) : (setMbx m k x s).onyx = s.onyx := rfl
@[simp] theorem setMbx_marker (m : Master) (k : Nat) (x : Mbx) : (setMbx m k x s).marker = s.marker := rfl
@[simp] theorem setMbx_nav (m : Master) (k : Nat) (x : Mbx) : (setMbx m k x s).nav = s.nav := rfl
@[simp] theorem setMbx_clock (m : Master) (k : Nat) (x : Mbx) : (setMbx m k x s).clock = s.clock := rfl
@[simp] theorem setMbx_fb (m : Master) (k : Nat) (x : Mbx) : (setMbx m k x s).fb = s.fb := rfl
@[simp] theorem setMbx_ports (m : Master) (k : Nat) (x : Mbx) : (setMbx m k x s).ports = s.ports := rfl
-- atTime
@[simp] theorem atTime_regs (t : Nat) : (atTime t s).regs = s.regs := rfl
@[simp] theorem atTime_mtime (t : Nat) : (atTime t s).mtime = max s.mtime t := rfl
@[simp] theorem atTime_freeCtr (t : Nat) : (atTime t s).freeCtr = s.freeCtr := rfl
@[simp] theorem atTime_pending (t : Nat) : (atTime t s).pending = s.pending := rfl
@[simp] theorem atTime_reply (t : Nat) : (atTime t s).reply = s.reply := rfl
@[simp] theorem atTime_sup (t : Nat) : (atTime t s).sup = s.sup := rfl
@[simp] theorem atTime_start (t : Nat) : (atTime t s).start = s.start := rfl
@[simp] theorem atTime_own (t : Nat) : (atTime t s).own = s.own := rfl
@[simp] theorem atTime_acc (t : Nat) : (atTime t s).acc = s.acc := rfl
@[simp] theorem atTime_agate (t : Nat) : (atTime t s).agate = s.agate := rfl
@[simp] theorem atTime_nv (t : Nat) : (atTime t s).nv = s.nv := rfl
@[simp] theorem atTime_stage (t : Nat) : (atTime t s).stage = s.stage := rfl
@[simp] theorem atTime_rcv (t : Nat) : (atTime t s).rcv = s.rcv := rfl
@[simp] theorem atTime_fleet (t : Nat) : (atTime t s).fleet = s.fleet := rfl
@[simp] theorem atTime_svc (t : Nat) : (atTime t s).svc = s.svc := rfl
@[simp] theorem atTime_outs (t : Nat) : (atTime t s).outs = s.outs := rfl
@[simp] theorem atTime_feeds (t : Nat) : (atTime t s).feeds = s.feeds := rfl
@[simp] theorem atTime_rems (t : Nat) : (atTime t s).rems = s.rems := rfl
@[simp] theorem atTime_qs (t : Nat) : (atTime t s).qs = s.qs := rfl
@[simp] theorem atTime_readCap (t : Nat) : (atTime t s).readCap = s.readCap := rfl
@[simp] theorem atTime_leads (t : Nat) : (atTime t s).leads = s.leads := rfl
@[simp] theorem atTime_leadsOld (t : Nat) : (atTime t s).leadsOld = s.leadsOld := rfl
@[simp] theorem atTime_leadsAt (t : Nat) : (atTime t s).leadsAt = s.leadsAt := rfl
@[simp] theorem atTime_eng (t : Nat) : (atTime t s).eng = s.eng := rfl
@[simp] theorem atTime_gathers (t : Nat) : (atTime t s).gathers = s.gathers := rfl
@[simp] theorem atTime_maps (t : Nat) : (atTime t s).maps = s.maps := rfl
@[simp] theorem atTime_onyx (t : Nat) : (atTime t s).onyx = s.onyx := rfl
@[simp] theorem atTime_marker (t : Nat) : (atTime t s).marker = s.marker := rfl
@[simp] theorem atTime_nav (t : Nat) : (atTime t s).nav = s.nav := rfl
@[simp] theorem atTime_clock (t : Nat) : (atTime t s).clock = s.clock := rfl
@[simp] theorem atTime_fb (t : Nat) : (atTime t s).fb = s.fb := rfl
@[simp] theorem atTime_ports (t : Nat) : (atTime t s).ports = s.ports := rfl

/-! One entry of a table after it was replaced, and every other one. -/
theorem gatherOf_setGather (k j : Nat) (x : Gather) : gatherOf (setGather k x s) j = if j = k then x else gatherOf s j := by
  simp [gatherOf, setGather, tabGet_tabSet]
@[simp] theorem gatherOf_setGather_same (k : Nat) (x : Gather) : gatherOf (setGather k x s) k = x := by simp [gatherOf_setGather]
@[simp] theorem gatherOf_setGather_other (k j : Nat) (x : Gather) (h : j ≠ k) : gatherOf (setGather k x s) j = gatherOf s j := by simp [gatherOf_setGather, h]
/-- A change that leaves the table leaves each entry. -/
theorem gatherOf_congr {s t : State} (h : t.gathers = s.gathers) (k : Nat) : gatherOf t k = gatherOf s k := by simp [gatherOf, h]
theorem outOf_setOut (k j : Nat) (x : Out) : outOf (setOut k x s) j = if j = k then x else outOf s j := by
  simp [outOf, setOut, tabGet_tabSet]
@[simp] theorem outOf_setOut_same (k : Nat) (x : Out) : outOf (setOut k x s) k = x := by simp [outOf_setOut]
@[simp] theorem outOf_setOut_other (k j : Nat) (x : Out) (h : j ≠ k) : outOf (setOut k x s) j = outOf s j := by simp [outOf_setOut, h]
/-- A change that leaves the table leaves each entry. -/
theorem outOf_congr {s t : State} (h : t.outs = s.outs) (k : Nat) : outOf t k = outOf s k := by simp [outOf, h]
theorem feedOf_setFeed (k j : Nat) (x : Feed) : feedOf (setFeed k x s) j = if j = k then x else feedOf s j := by
  simp [feedOf, setFeed, tabGet_tabSet]
@[simp] theorem feedOf_setFeed_same (k : Nat) (x : Feed) : feedOf (setFeed k x s) k = x := by simp [feedOf_setFeed]
@[simp] theorem feedOf_setFeed_other (k j : Nat) (x : Feed) (h : j ≠ k) : feedOf (setFeed k x s) j = feedOf s j := by simp [feedOf_setFeed, h]
/-- A change that leaves the table leaves each entry. -/
theorem feedOf_congr {s t : State} (h : t.feeds = s.feeds) (k : Nat) : feedOf t k = feedOf s k := by simp [feedOf, h]
theorem remOf_setRem (k j : Nat) (x : Remote) : remOf (setRem k x s) j = if j = k then x else remOf s j := by
  simp [remOf, setRem, tabGet_tabSet]
@[simp] theorem remOf_setRem_same (k : Nat) (x : Remote) : remOf (setRem k x s) k = x := by simp [remOf_setRem]
@[simp] theorem remOf_setRem_other (k j : Nat) (x : Remote) (h : j ≠ k) : remOf (setRem k x s) j = remOf s j := by simp [remOf_setRem, h]
/-- A change that leaves the table leaves each entry. -/
theorem remOf_congr {s t : State} (h : t.rems = s.rems) (k : Nat) : remOf t k = remOf s k := by simp [remOf, h]
theorem queueOf_setQueue (k j : Nat) (x : Queue) : queueOf (setQueue k x s) j = if j = k then x else queueOf s j := by
  simp [queueOf, setQueue, tabGet_tabSet]
@[simp] theorem queueOf_setQueue_same (k : Nat) (x : Queue) : queueOf (setQueue k x s) k = x := by simp [queueOf_setQueue]
@[simp] theorem queueOf_setQueue_other (k j : Nat) (x : Queue) (h : j ≠ k) : queueOf (setQueue k x s) j = queueOf s j := by simp [queueOf_setQueue, h]
/-- A change that leaves the table leaves each entry. -/
theorem queueOf_congr {s t : State} (h : t.qs = s.qs) (k : Nat) : queueOf t k = queueOf s k := by simp [queueOf, h]
theorem portOf_setPort (k j : Nat) (x : Port) : portOf (setPort k x s) j = if j = k then x else portOf s j := by
  simp [portOf, setPort, tabGet_tabSet]
@[simp] theorem portOf_setPort_same (k : Nat) (x : Port) : portOf (setPort k x s) k = x := by simp [portOf_setPort]
@[simp] theorem portOf_setPort_other (k j : Nat) (x : Port) (h : j ≠ k) : portOf (setPort k x s) j = portOf s j := by simp [portOf_setPort, h]
/-- A change that leaves the table leaves each entry. -/
theorem portOf_congr {s t : State} (h : t.ports = s.ports) (k : Nat) : portOf t k = portOf s k := by simp [portOf, h]
theorem fbOf_setFb (k j : Nat) (x : FbIn) : fbOf (setFb k x s) j = if j = k then x else fbOf s j := by
  simp [fbOf, setFb, tabGet_tabSet]
@[simp] theorem fbOf_setFb_same (k : Nat) (x : FbIn) : fbOf (setFb k x s) k = x := by simp [fbOf_setFb]
@[simp] theorem fbOf_setFb_other (k j : Nat) (x : FbIn) (h : j ≠ k) : fbOf (setFb k x s) j = fbOf s j := by simp [fbOf_setFb, h]
/-- A change that leaves the table leaves each entry. -/
theorem fbOf_congr {s t : State} (h : t.fb = s.fb) (k : Nat) : fbOf t k = fbOf s k := by simp [fbOf, h]
theorem aiOf_setAi (k j : Nat) (x : AiIn) : aiOf (setAi k x s) j = if j = k then x else aiOf s j := by
  simp [aiOf, setAi, tabGet_tabSet]
@[simp] theorem aiOf_setAi_same (k : Nat) (x : AiIn) : aiOf (setAi k x s) k = x := by simp [aiOf_setAi]
@[simp] theorem aiOf_setAi_other (k j : Nat) (x : AiIn) (h : j ≠ k) : aiOf (setAi k x s) j = aiOf s j := by simp [aiOf_setAi, h]
/-- A change that leaves the table leaves each entry. -/
theorem aiOf_congr {s t : State} (h : t.fb = s.fb) (k : Nat) : aiOf t k = aiOf s k := by simp [aiOf, h]
theorem ptOf_setPt (k j : Nat) (x : PtPin) : ptOf (setPt k x s) j = if j = k then x else ptOf s j := by
  simp [ptOf, setPt, tabGet_tabSet]
@[simp] theorem ptOf_setPt_same (k : Nat) (x : PtPin) : ptOf (setPt k x s) k = x := by simp [ptOf_setPt]
@[simp] theorem ptOf_setPt_other (k j : Nat) (x : PtPin) (h : j ≠ k) : ptOf (setPt k x s) j = ptOf s j := by simp [ptOf_setPt, h]
/-- A change that leaves the table leaves each entry. -/
theorem ptOf_congr {s t : State} (h : t.fb = s.fb) (k : Nat) : ptOf t k = ptOf s k := by simp [ptOf, h]
theorem peerOf_setPeer (k j : Nat) (x : PeerRound) : peerOf (setPeer k x s) j = if j = k then x else peerOf s j := by
  simp [peerOf, setPeer, tabGet_tabSet]
@[simp] theorem peerOf_setPeer_same (k : Nat) (x : PeerRound) : peerOf (setPeer k x s) k = x := by simp [peerOf_setPeer]
@[simp] theorem peerOf_setPeer_other (k j : Nat) (x : PeerRound) (h : j ≠ k) : peerOf (setPeer k x s) j = peerOf s j := by simp [peerOf_setPeer, h]
/-- A change that leaves the table leaves each entry. -/
theorem peerOf_congr {s t : State} (h : t.fleet = s.fleet) (k : Nat) : peerOf t k = peerOf s k := by simp [peerOf, h]
theorem Master.num_inj {m n : Master} (h : m.num = n.num) : m = n := by cases m <;> cases n <;> first | rfl | cases h
theorem unlockOf_setUnlock (m n : Master) (u : Unlock) : unlockOf (setUnlock m u s) n = if n = m then u else unlockOf s n := by
  have e : n.num = m.num ↔ n = m := ⟨Master.num_inj, fun h => by rw [h]⟩
  simp [unlockOf, setUnlock, tabGet_tabSet, e]

/-! Readings that a change of other fields leaves. -/
theorem fget_congr {s t : State} (h : t.regs = s.regs) (f : Fld) : fget t f = fget s f := by simp [fget, rd_congr h]
theorem flag_congr {s t : State} (h : t.regs = s.regs) (f : Fld) : flag t f = flag s f := by simp [flag, fget_congr h]

end Sys2Proof.Machine
end

