-- ==== Sys2Proof/Laws/Access.lean ====
section
/-! SUPPORT. Laws of the recorder's front and of accesses: the registers that an event and a refusal can change, and the
shape of a command's write. -/
namespace Sys2Proof.Machine

theorem AGATE_DROP_mem (v : Nat) (h : v < 8) : A.AGATE_DROP v ∈ noteRegs := by
  simp only [noteRegs, List.mem_append, List.mem_map, List.mem_range]; exact .inr ⟨v, h, rfl⟩
theorem AGATE_SUPP_mem : A.AGATE_SUPP ∈ noteRegs := by simp [noteRegs]
theorem AGATE_STAT_mem : A.AGATE_STAT ∈ noteRegs := by simp [noteRegs]

/-- An event changes no register but the counts of the recorder's front. -/
theorem rd_raiseEvent (e : Event) (s : State) (a : Nat) (h : a ∉ noteRegs) (hv : e.sev < 8) : rd (raiseEvent e s) a = rd s a := by
  have h1 : a ≠ A.AGATE_SUPP := fun x => h (x ▸ AGATE_SUPP_mem)
  have h2 : a ≠ A.AGATE_STAT := fun x => h (x ▸ AGATE_STAT_mem)
  have h3 : a ≠ A.AGATE_DROP e.sev := fun x => h (x ▸ AGATE_DROP_mem _ hv)
  have d : rd (dropEvent e s) a = rd s a := by
    rw [dropEvent, rd_fset _ _ _ _ h2, rd_fsat _ _ _ _ h3]
  have c : ∀ f, rd (coalesce e f s) a = rd s a := fun f => by rw [coalesce, rd_fsat _ _ _ _ h1]; rfl
  unfold raiseEvent; dsimp only
  generalize (if e.kind = .log then decide ((s.agate.waiting.filter (fun x => x.kind == .log)).length < 1024)
    else decide (6 ≤ e.sev) || decide (waitingFrom s e < 4)) = room
  cases room
  · rw [if_neg (by decide)]
    cases s.agate.flood with
    | none => exact d
    | some f => dsimp only; split; exacts [c f, d]
  · rfl
theorem rd_raise (sev cls inst : Nat) (k : EvKind) (vals : List Int) (s : State) (a : Nat) (h : a ∉ noteRegs) (hv : sev < 8) :
    rd (raise sev cls inst k vals s) a = rd s a := rd_raiseEvent _ _ _ h hv

theorem Err.severity_lt (e : Err) : e.severity < 8 := by cases e <;> decide

/-- A refused access changes no register but the master's error registers and the counts of the recorder's front. -/
theorem rd_refuse (m : Master) (w : Bool) (b : Nat) (e : Err) (d : Word) (s : State) (a : Nat) (h : a ∉ errorRegs m) :
    rd (refuse m w b e d s) a = rd s a := by
  simp only [errorRegs, List.mem_append, List.mem_cons, List.not_mem_nil, or_false, not_or] at h
  obtain ⟨⟨h1, h2⟩, h3⟩ := h
  simp only [refuse]
  split
  · rfl
  · rw [rd_raise _ _ _ _ _ _ _ h3 (Err.severity_lt e), rd_fsat _ _ _ _ h2, rd_fset _ _ _ _ h1, rd_fset _ _ _ _ h1, rd_fbool _ _ _ _ h1]

/-- A transaction of a master changes nothing but its own unlock. -/
theorem unlockOf_beginTx (m n : Master) (s : State) (h : n ≠ m) : unlockOf (beginTx m s) n = unlockOf s n := by
  unfold beginTx; split
  · simp [unlockOf_setUnlock, h]
  · rfl
@[simp] theorem rd_beginTx (m : Master) (s : State) (a : Nat) : rd (beginTx m s) a = rd s a := by
  unfold beginTx; split <;> rfl
@[simp] theorem rd_setUnlock (m : Master) (u : Unlock) (s : State) (a : Nat) : rd (setUnlock m u s) a = rd s a := rfl
@[simp] theorem rd_setReply (r : Reply) (s : State) (a : Nat) : rd (setReply r s) a = rd s a := rfl

/-- What a write does that no check refuses. -/
theorem writePlace_ok (r : RegRule) (m : Master) (sh : Nat) (p : Place) (data : Word) (s : State)
    (h : writeErr r m p (writeCtx r m p data s) (unlocked s m) (if keyGuarded p (writeCtx r m p data s) then setUnlock m .no s else s) = .ok) :
    writePlace r m sh p data s =
      (.ok, let s' := if keyGuarded p (writeCtx r m p data s) then setUnlock m .no s else s
        if aliasIdle p data then s' else applyWrite r p (writeCtx r m p data s) s') := by
  simp only [writePlace, h]
/-- What a write does that a check refuses. -/
theorem writePlace_err (r : RegRule) (m : Master) (sh : Nat) (p : Place) (data : Word) (s : State) (e : Err) (he : e ≠ .ok)
    (h : writeErr r m p (writeCtx r m p data s) (unlocked s m) (if keyGuarded p (writeCtx r m p data s) then setUnlock m .no s else s) = e) :
    writePlace r m sh p data s =
      (e, let s' := if keyGuarded p (writeCtx r m p data s) then setUnlock m .no s else s
        refuse m true sh e data (if e = .key ∧ keyWrong p (writeCtx r m p data s) then setUnlock m .no s' else s')) := by
  simp only [writePlace, h]

/-- A keyed write with the right key is the target write under an unlock that ends with it (R94). -/
theorem keyedWith_key (m : Master) (a : Nat) (data : Word) (target : State → Err × State) (s : State) (h : reachable s) :
    keyedWith m 0xB7E1 a data target s = ((target (setUnlock m .held s)).1, setUnlock m .no (target (setUnlock m .held s)).2) := by
  simp [keyedWith, h.1, h.2.1]
/-- A keyed write with another key is refused and shuts the lock (R93, R94). -/
theorem keyedWith_wrong (m : Master) (key : BitVec 16) (a : Nat) (data : Word) (target : State → Err × State) (s : State) (h : reachable s)
    (hk : key ≠ 0xB7E1) : keyedWith m key a data target s = (.key, refuse m true a .key data (setUnlock m .no s)) := by
  have hk' : key = 47073#16 ↔ False := by simpa using hk
  simp [keyedWith, h.1, h.2.1, hk']

end Sys2Proof.Machine
end

