-- ==== Sys2Proof/Laws/Memory.lean ====
section
/-! SUPPORT. Laws of the memories: reading after writing, and every operation keeps the canonical form. -/
namespace Sys2Proof.Machine

theorem leBytes_length (n v : Nat) : (leBytes n v).length = n := by
  induction n generalizing v with
  | zero => rfl
  | succ n ih => simp [leBytes, ih]

/-- A store leaves every byte outside it. -/
theorem lmemByte_lmemStore_other (m : Tab Byte) (a n v j : Nat) (h : j < a ∨ a + n ≤ j) : lmemByte (lmemStore m a n v) j = lmemByte m j := by
  simp only [lmemByte, lmemStore, tabGet_tabFill, leBytes_length]
  rw [dif_neg (by omega)]
/-- A store of bytes of a value reads back byte by byte. -/
theorem lmemByte_lmemStore (m : Tab Byte) (a n v i : Nat) (h : i < n) :
    lmemByte (lmemStore m a n v) (a + i) = (leBytes n v)[i]'(by simpa [leBytes_length] using h) := by
  simp only [lmemByte, lmemStore, tabGet_tabFill, leBytes_length]
  rw [dif_pos (by omega)]; simp
/-- A local store keeps the canonical form. -/
theorem lmemStore_wf (m : Tab Byte) (a n v : Nat) (h : tabWf (fun _ => (0 : Byte)) m) : tabWf (fun _ => (0 : Byte)) (lmemStore m a n v) :=
  tabFill_wf _ _ _ _ h

/-- Dropping entries keeps the canonical form. -/
theorem tabFilter_wf {α : Type} (d : Nat → α) (t : Tab α) (p : Nat × α → Bool) (h : tabWf d t) : tabWf d (t.filter p) := by
  induction t with
  | nil => trivial
  | cons x t ih =>
    obtain ⟨i, v⟩ := x
    obtain ⟨h1, h2, h3⟩ := h
    by_cases hp : p (i, v) = true
    · simp only [List.filter_cons, hp, if_true]
      exact ⟨h1, fun q hq => h2 q (List.mem_filter.1 hq).1, ih h3⟩
    · simp only [List.filter_cons, hp]
      exact ih h3

/-- What a reset keeps of the registers is in canonical form. -/
theorem keepRegs_wf (mask : Nat → Nat) (t : Tab Word) (h : tabWf regReset t) : tabWf regReset (keepRegs mask t) := by
  induction t with
  | nil => trivial
  | cons x t ih =>
    obtain ⟨i, v⟩ := x
    obtain ⟨_, h2, h3⟩ := h
    have above : ∀ q ∈ keepRegs mask t, i < q.1 := by
      intro q hq
      obtain ⟨p, hp, he⟩ := List.mem_filterMap.1 hq
      have := h2 p hp
      dsimp only at he
      split at he
      · cases he
      · cases he; exact this
    by_cases hw : (v &&& BitVec.ofNat 32 (mask i)) ||| (regReset i &&& ~~~BitVec.ofNat 32 (mask i)) = regReset i
    · simp only [keepRegs, List.filterMap_cons, hw, if_true]; exact ih h3
    · simp only [keepRegs, List.filterMap_cons, hw, if_false]; exact ⟨hw, above, ih h3⟩
/-- Undoing the stores of a journal keeps the canonical form. -/
theorem undoStores_wf (j : List JEntry) (m : Tab Byte) (h : tabWf (fun _ => (0 : Byte)) m) : tabWf (fun _ => (0 : Byte)) (undoStores j m) := by
  induction j with
  | nil => exact h
  | cons e j ih => cases e <;> first | exact tabFill_wf _ _ _ _ ih | exact ih

/-- A word of common memory after a write. -/
theorem cmemWord_cmemWrite (s : State) (a b : Nat) (v : Word) : cmemWord (cmemWrite a v s) b = if b / 4 = a / 4 then v else cmemWord s b := by
  simp [cmemWord, cmemWrite, tabGet_tabSet]
/-- A word of program memory after a write. -/
theorem progWord_writeProg (s : State) (i j : Nat) (v : Word) : progWord (writeProg i v s) j = if j = i then v else progWord s j := by
  simp [progWord, writeProg, tabGet_tabSet]

theorem cmemWrite_wf (s : State) (a : Nat) (v : Word) (h : s.memWf) : (cmemWrite a v s).memWf :=
  ⟨h.1, h.2.1, tabSet_wf _ _ _ _ h.2.2.1, h.2.2.2⟩
theorem writeProg_wf (s : State) (i : Nat) (v : Word) (h : s.memWf) : (writeProg i v s).memWf :=
  ⟨tabSet_wf _ _ _ _ h.1, h.2⟩
theorem zeroPage_wf (s : State) (k : Nat) (h : s.memWf) : (zeroPage k s).memWf :=
  ⟨tabFilter_wf _ _ _ h.1, h.2⟩
theorem imageStore_wf (s : State) (h : s.memWf) : (imageStore s).memWf :=
  ⟨h.1, tabFilter_wf _ _ _ h.1, h.2.2⟩
/-- Replacing a gather keeps the memories if its local memory is in canonical form. -/
theorem setGather_wf (s : State) (g : Nat) (x : Gather) (h : s.memWf) (hx : tabWf (fun _ => (0 : Byte)) x.lmem) : (setGather g x s).memWf := by
  refine ⟨h.1, h.2.1, h.2.2.1, fun j => ?_⟩
  rw [gatherOf_setGather]
  split
  · exact hx
  · exact h.2.2.2 j
/-- A register write keeps the memories. -/
theorem wr_memWf (s : State) (a : Nat) (w : Word) (h : s.memWf) : (wr s a w).memWf := h
/-- A change of other parts keeps the memories. -/
theorem memWf_congr {s t : State} (he : t.eng = s.eng) (hn : t.nv = s.nv) (hg : t.gathers = s.gathers) (h : s.memWf) : t.memWf := by
  unfold State.memWf at *
  rw [he, hn]
  exact ⟨h.1, h.2.1, h.2.2.1, fun g => by rw [gatherOf_congr hg]; exact h.2.2.2 g⟩
/-- A change of other parts keeps the registers. -/
theorem regsWf_congr {s t : State} (hr : t.regs = s.regs) (h : s.regsWf) : t.regsWf := by
  unfold State.regsWf at *; rw [hr]; exact h
theorem fset_regsWf (s : State) (f : Fld) (v : Nat) (h : s.regsWf) : (fset s f v).regsWf := tabSet_wf _ _ _ _ h

/-- The memories and the registers of the machine after reset are in canonical form. -/
theorem reset_wf : State.reset.regsWf ∧ State.reset.memWf := by
  refine ⟨trivial, trivial, trivial, trivial, fun g => ?_⟩
  simp [gatherOf, tabGet, tabFind, State.reset, Gather.init, tabWf]

end Sys2Proof.Machine
end

