-- ==== Sys2Proof/Laws/Gather.lean ====
section
/-! SUPPORT. Laws of gathers: registers after a write, what issuing and retiring an instruction do. -/
namespace Sys2Proof.Machine

/-- An instruction that the sequencer issues does what its body does. -/
theorem instruction_issues (s : State) (g : Nat) (ws ps : List Nat) (body : State → State) (h : issues s g ws ps) :
    instruction g false ws ps body s = body s := by
  obtain ⟨h1, h2, h3⟩ := h
  simp only [coreOf] at h2
  simp [instruction, h1, h2, h3]

/-- A general register after a write; w0 reads zero. -/
theorem getW_setW (c : Core) (n m : Nat) (v : Word) :
    getW (setW n v c) m = if m = 0 then 0 else if m = n then v else getW c m := by
  unfold setW getW
  by_cases hm : m = 0
  · simp [hm]
  · simp only [hm, if_false]
    by_cases hn : n = 0
    · subst hn; simp [hm]
    · simp [hn, tabGet_tabSet]

/-- A core whose registers are those after a write of d differs in no other register. -/
theorem setsOnly_setW (c c' : Core) (d : Nat) (v : Word) (h : c'.w = (setW d v c).w) : setsOnly c c' d v := by
  have e : ∀ n, getW c' n = getW (setW d v c) n := fun n => by simp [getW, h]
  refine ⟨by rw [e, getW_setW]; simp, fun n hn => ?_⟩
  rw [e, getW_setW]; simp [hn]; intro h0; simp [h0, getW]

/-- An instruction that retires changes its gather's core and the count of issued instructions, nothing else. -/
theorem retire_next (s : State) (g : Nat) (f : Core → Core) :
    onlyCore s (retire g f s) g ∧ coreOf (retire g f s) g = { f (coreOf s g) with pc := (f (coreOf s g)).pc + 1 } := by
  refine ⟨⟨⟨fun p hp => ?_, fun h hh => ?_, rfl⟩, ?_⟩, ?_⟩
  · simp at hp; simp [hp]
  · simp [retire, countIssue, gatherOf, setGather, hh]
  · simp [retire, countIssue, gatherOf, setGather, coreOf]
  · simp [retire, countIssue, gatherOf, setGather, coreOf]

/-- Signed overflow of a sum with a carry, as the flag computation finds it. -/
theorem overflow_add (x y : Word) (k : Bool) :
    ((x.msb == y.msb) && ((x + y + (if k then 1 else 0)).msb != x.msb)) = !fitsSigned (x.toInt + y.toInt + (if k then 1 else 0)) := by
  have hx1 := x.le_toInt; have hx2 := x.toInt_lt; have hy1 := y.le_toInt; have hy2 := y.toInt_lt
  have e : (x + y + (if k then 1 else 0)).toInt = (x.toInt + y.toInt + (if k then 1 else 0)).bmod (2 ^ 32) := by
    cases k <;> simp [BitVec.toInt_add]
  simp only [BitVec.msb_eq_toInt, fitsSigned, e]
  generalize x.toInt = a at *
  generalize y.toInt = b at *
  clear e
  have hc : (0 : Int) ≤ (if k then 1 else 0) ∧ (if k then (1 : Int) else 0) ≤ 1 := by cases k <;> simp
  generalize (if k then (1 : Int) else 0) = c at *
  have hm : (a + b + c).bmod (2 ^ 32) = if a + b + c < -2 ^ 31 then a + b + c + 2 ^ 32 else if 2 ^ 31 ≤ a + b + c then a + b + c - 2 ^ 32 else a + b + c := by
    simp only [Int.bmod]; split_ifs <;> omega
  rw [hm, Bool.eq_iff_iff]
  split_ifs <;> simp <;> omega

end Sys2Proof.Machine
end

