-- ==== Sys2Proof/Laws/PerInstr.lean ====
section
/-! SUPPORT. For every command: its operands are bounded by their types, so that it is well formed, but for a received frame,
whose format decides. -/
namespace Sys2Proof.Laws.Bounded
open Sys2Proof.Machine

/-- A command is well formed, or it is a received frame whose format decides. -/
def Statement (i : Instr) : Prop :=
  i.wellFormed = true ∨ ∃ p f sof, i = .frameReceived p f sof ∧ i.wellFormed = frameOk f

theorem selftestEnd (t : SelfTest) : Statement (.selftestEnd t) := .inl rfl
theorem gnsSelftestEnd (bad : BitVec 4) : Statement (.gnsSelftestEnd bad) := .inl rfl
theorem configurationLoad (imageOk : Bool) (bad : List (Fin 262144)) : Statement (.configurationLoad imageOk bad) := .inl rfl
theorem supplyLoss (vbus : Bool) : Statement (.supplyLoss vbus) := .inl rfl
theorem feedUndervoltageEntry (f : FeedId) (reversed : Bool) : Statement (.feedUndervoltageEntry f reversed) := .inl rfl
theorem feedUndervoltageExit (f : FeedId) : Statement (.feedUndervoltageExit f) := .inl rfl
theorem staggeredTurnOn (k : Fin 11) : Statement (.staggeredTurnOn k) := .inl rfl
theorem keyUnlockWrite (m : Master) (data : Word) : Statement (.keyUnlockWrite m data) := .inl rfl
theorem unlockExpiry (m : Master) : Statement (.unlockExpiry m) := .inl rfl
theorem aliasWrite (m : Master) (off : BitVec 23) (data : Word) : Statement (.aliasWrite m off data) := .inl rfl
theorem oemKeyHashWrite (m : Master) (i : Fin 8) (data : Word) : Statement (.oemKeyHashWrite m i data) := .inl rfl
theorem writeOnceWrite (m : Master) (i : Fin 8) (data : Word) : Statement (.writeOnceWrite m i data) := .inl rfl
theorem oemKeyCommit (m : Master) (key : BitVec 16) : Statement (.oemKeyCommit m key) := .inl rfl
theorem mbxReq (m : Master) (k : Fin 14) : Statement (.mbxReq m k) := .inl rfl
theorem mbxDataRead (m : Master) (k : Fin 14) (j : Fin 4) : Statement (.mbxDataRead m k j) := .inl rfl
theorem hspiRead (a : BitVec 24) : Statement (.hspiRead a) := .inl rfl
theorem hspiWrite (a : BitVec 24) (data : Word) : Statement (.hspiWrite a data) := .inl rfl
theorem hspiKeyedWrite (key : BitVec 16) (a : BitVec 24) (data : Word) : Statement (.hspiKeyedWrite key a data) := .inl rfl
theorem hspiBurstRead (a : BitVec 24) (more : Nat) : Statement (.hspiBurstRead a more) := .inl rfl
theorem hspiBurstWrite (a : BitVec 24) (first : Word) (rest : List Word) : Statement (.hspiBurstWrite a first rest) := .inl rfl
theorem hspiInvalidCommand (b : Byte) : Statement (.hspiInvalidCommand b) := .inl rfl
theorem hspiCsEarlyRise (started : Bool) : Statement (.hspiCsEarlyRise started) := .inl rfl
theorem busAccessOpen (p : PortId) (src : Byte) : Statement (.busAccessOpen p src) := .inl rfl
theorem busAccessClose (p : PortId) (src : Byte) : Statement (.busAccessClose p src) := .inl rfl
theorem busAccessRead (p : PortId) (src : Byte) (w : BitVec 22) (tag : Fin 4) : Statement (.busAccessRead p src w tag) := .inl rfl
theorem busAccessWrite (p : PortId) (src : Byte) (w : BitVec 22) (tag : Fin 4) (data : Word) : Statement (.busAccessWrite p src w tag data) := .inl rfl
theorem busSessionDrop (m : Master) : Statement (.busSessionDrop m) := .inl rfl
theorem ownClaim (m : Master) (key : BitVec 16) : Statement (.ownClaim m key) := .inl rfl
theorem ownHandover (m : Master) (key : BitVec 16) (target : Master) : Statement (.ownHandover m key target) := .inl rfl
theorem ownRelease (m : Master) (key : BitVec 16) : Statement (.ownRelease m key) := .inl rfl
theorem ownHandoverCancel (m : Master) (key : BitVec 16) : Statement (.ownHandoverCancel m key) := .inl rfl
theorem ownAccept (m : Master) : Statement (.ownAccept m) := .inl rfl
theorem ownHeartbeatRefresh (m : Master) : Statement (.ownHeartbeatRefresh m) := .inl rfl
theorem ownSeize (m : Master) (key : BitVec 16) : Statement (.ownSeize m key) := .inl rfl
theorem ownCfgWrite (m : Master) (key : BitVec 16) (data : Word) : Statement (.ownCfgWrite m key data) := .inl rfl
theorem registerWrite (m : Master) (addr : BitVec 24) (data : Word) : Statement (.registerWrite m addr data) := .inl rfl
theorem add (g : GatherId) (d a b : RegId) : Statement (.add g d a b) := .inl rfl
theorem sub (g : GatherId) (d a b : RegId) : Statement (.sub g d a b) := .inl rfl
theorem adc (g : GatherId) (d a b : RegId) : Statement (.adc g d a b) := .inl rfl
theorem sbc (g : GatherId) (d a b : RegId) : Statement (.sbc g d a b) := .inl rfl
theorem andW (g : GatherId) (d a b : RegId) : Statement (.andW g d a b) := .inl rfl
theorem orW (g : GatherId) (d a b : RegId) : Statement (.orW g d a b) := .inl rfl
theorem xorW (g : GatherId) (d a b : RegId) : Statement (.xorW g d a b) := .inl rfl
theorem andn (g : GatherId) (d a b : RegId) : Statement (.andn g d a b) := .inl rfl
theorem shl (g : GatherId) (d a b : RegId) : Statement (.shl g d a b) := .inl rfl
theorem shr (g : GatherId) (d a b : RegId) : Statement (.shr g d a b) := .inl rfl
theorem sar (g : GatherId) (d a b : RegId) : Statement (.sar g d a b) := .inl rfl
theorem ror (g : GatherId) (d a b : RegId) : Statement (.ror g d a b) := .inl rfl
theorem mul (g : GatherId) (d a b : RegId) : Statement (.mul g d a b) := .inl rfl
theorem mulh (g : GatherId) (d a b : RegId) : Statement (.mulh g d a b) := .inl rfl
theorem mulhu (g : GatherId) (d a b : RegId) : Statement (.mulhu g d a b) := .inl rfl
theorem minW (g : GatherId) (d a b : RegId) : Statement (.minW g d a b) := .inl rfl
theorem maxW (g : GatherId) (d a b : RegId) : Statement (.maxW g d a b) := .inl rfl
theorem minu (g : GatherId) (d a b : RegId) : Statement (.minu g d a b) := .inl rfl
theorem maxu (g : GatherId) (d a b : RegId) : Statement (.maxu g d a b) := .inl rfl
theorem addi (g : GatherId) (d a : RegId) (imm : BitVec 16) : Statement (.addi g d a imm) := .inl rfl
theorem subi (g : GatherId) (d a : RegId) (imm : BitVec 16) : Statement (.subi g d a imm) := .inl rfl
theorem andi (g : GatherId) (d a : RegId) (imm : BitVec 16) : Statement (.andi g d a imm) := .inl rfl
theorem ori (g : GatherId) (d a : RegId) (imm : BitVec 16) : Statement (.ori g d a imm) := .inl rfl
theorem xori (g : GatherId) (d a : RegId) (imm : BitVec 16) : Statement (.xori g d a imm) := .inl rfl
theorem shli (g : GatherId) (d a : RegId) (count : Fin 32) : Statement (.shli g d a count) := .inl rfl
theorem shri (g : GatherId) (d a : RegId) (count : Fin 32) : Statement (.shri g d a count) := .inl rfl
theorem sari (g : GatherId) (d a : RegId) (count : Fin 32) : Statement (.sari g d a count) := .inl rfl
theorem rori (g : GatherId) (d a : RegId) (count : Fin 32) : Statement (.rori g d a count) := .inl rfl
theorem lui (g : GatherId) (d : RegId) (imm : BitVec 16) : Statement (.lui g d imm) := .inl rfl
theorem ldw (g : GatherId) (d a : RegId) (imm : BitVec 16) : Statement (.ldw g d a imm) := .inl rfl
theorem ldh (g : GatherId) (d a : RegId) (imm : BitVec 16) : Statement (.ldh g d a imm) := .inl rfl
theorem ldhu (g : GatherId) (d a : RegId) (imm : BitVec 16) : Statement (.ldhu g d a imm) := .inl rfl
theorem ldb (g : GatherId) (d a : RegId) (imm : BitVec 16) : Statement (.ldb g d a imm) := .inl rfl
theorem ldbu (g : GatherId) (d a : RegId) (imm : BitVec 16) : Statement (.ldbu g d a imm) := .inl rfl
theorem stw (g : GatherId) (d a : RegId) (imm : BitVec 16) : Statement (.stw g d a imm) := .inl rfl
theorem sth (g : GatherId) (d a : RegId) (imm : BitVec 16) : Statement (.sth g d a imm) := .inl rfl
theorem stb (g : GatherId) (d a : RegId) (imm : BitVec 16) : Statement (.stb g d a imm) := .inl rfl
theorem ldc (g : GatherId) (d a : RegId) (imm : BitVec 16) : Statement (.ldc g d a imm) := .inl rfl
theorem stc (g : GatherId) (d a : RegId) (imm : BitVec 16) : Statement (.stc g d a imm) := .inl rfl
theorem bc (g : GatherId) (cond : Fin 16) (off : BitVec 22) : Statement (.bc g cond off) := .inl rfl
theorem call (g : GatherId) (off : BitVec 26) : Statement (.call g off) := .inl rfl
theorem jr (g : GatherId) (a : RegId) : Statement (.jr g a) := .inl rfl
theorem callr (g : GatherId) (a : RegId) : Statement (.callr g a) := .inl rfl
theorem divW (g : GatherId) (d a b : RegId) : Statement (.divW g d a b) := .inl rfl
theorem divu (g : GatherId) (d a b : RegId) : Statement (.divu g d a b) := .inl rfl
theorem remW (g : GatherId) (d a b : RegId) : Statement (.remW g d a b) := .inl rfl
theorem remu (g : GatherId) (d a b : RegId) : Statement (.remu g d a b) := .inl rfl
theorem sqrt (g : GatherId) (d a : RegId) : Statement (.sqrt g d a) := .inl rfl
theorem pset (g : GatherId) (d a b : RegId) : Statement (.pset g d a b) := .inl rfl
theorem pgetx (g : GatherId) (d a : RegId) : Statement (.pgetx g d a) := .inl rfl
theorem pgety (g : GatherId) (d a : RegId) : Statement (.pgety g d a) := .inl rfl
theorem pmov (g : GatherId) (d a : RegId) : Statement (.pmov g d a) := .inl rfl
theorem padd (g : GatherId) (d a b : RegId) : Statement (.padd g d a b) := .inl rfl
theorem psub (g : GatherId) (d a b : RegId) : Statement (.psub g d a b) := .inl rfl
theorem pmid (g : GatherId) (d a b : RegId) : Statement (.pmid g d a b) := .inl rfl
theorem pdist (g : GatherId) (d a b : RegId) : Statement (.pdist g d a b) := .inl rfl
theorem foot (g : GatherId) (d a b c : RegId) : Statement (.foot g d a b c) := .inl rfl
theorem covq (g : GatherId) (d a b : RegId) : Statement (.covq g d a b) := .inl rfl
theorem covx (g : GatherId) (d a b c : RegId) : Statement (.covx g d a b c) := .inl rfl
theorem zonq (g : GatherId) (d a b : RegId) : Statement (.zonq g d a b) := .inl rfl
theorem excl (g : GatherId) (d a : RegId) : Statement (.excl g d a) := .inl rfl
theorem covm (g : GatherId) (d a b c : RegId) : Statement (.covm g d a b c) := .inl rfl
theorem qpush (g : GatherId) (d : RegId) (q : QId) : Statement (.qpush g d q) := .inl rfl
theorem qpop (g : GatherId) (d : RegId) (q : QId) : Statement (.qpop g d q) := .inl rfl
theorem qtry (g : GatherId) (d : RegId) (q : QId) : Statement (.qtry g d q) := .inl rfl
theorem qcommit (g : GatherId) (q : QId) : Statement (.qcommit g q) := .inl rfl
theorem qlevel (g : GatherId) (d : RegId) (q : QId) (sel : Bool) : Statement (.qlevel g d q sel) := .inl rfl
theorem post (g : GatherId) (d a b : RegId) (code : Fin 16) : Statement (.post g d a b code) := .inl rfl
theorem rdmt (g : GatherId) (d : RegId) : Statement (.rdmt g d) := .inl rfl
theorem tadd (g : GatherId) (d a : RegId) : Statement (.tadd g d a) := .inl rfl
theorem rds (g : GatherId) (d : RegId) (k : Fin 2048) : Statement (.rds g d k) := .inl rfl
theorem rdlat (g : GatherId) (d a : RegId) (k : Fin 2048) : Statement (.rdlat g d a k) := .inl rfl
theorem rdg (g : GatherId) (d : RegId) : Statement (.rdg g d) := .inl rfl
theorem nop (g : GatherId) : Statement (.nop g) := .inl rfl
theorem epoch (g : GatherId) : Statement (.epoch g) := .inl rfl
theorem fence (g : GatherId) : Statement (.fence g) := .inl rfl
theorem waita (g : GatherId) (d : RegId) : Statement (.waita g d) := .inl rfl
theorem waitt (g : GatherId) : Statement (.waitt g) := .inl rfl
theorem waitm (g : GatherId) (a : RegId) : Statement (.waitm g a) := .inl rfl
theorem waitq (g : GatherId) (q : QId) : Statement (.waitq g q) := .inl rfl
theorem halt (g : GatherId) : Statement (.halt g) := .inl rfl
theorem prio (g : GatherId) (p : Fin 8) : Statement (.prio g p) := .inl rfl
theorem logW (g : GatherId) (d : RegId) (sev : Fin 8) (code : Fin 2048) : Statement (.logW g d sev code) := .inl rfl
theorem asyncCompletion (g : GatherId) (k : Fin 8) : Statement (.asyncCompletion g k) := .inl rfl
theorem waitmWake (g : GatherId) : Statement (.waitmWake g) := .inl rfl
theorem waitqWake (g : GatherId) : Statement (.waitqWake g) := .inl rfl
theorem gCtrlStart (m : Master) (g : GatherId) (prio : Fin 8) (keep auto : Bool) : Statement (.gCtrlStart m g prio keep auto) := .inl rfl
theorem startingComplete (g : GatherId) : Statement (.startingComplete g) := .inl rfl
theorem gCtrlStop (m : Master) (g : GatherId) (prio : Fin 8) (keep auto : Bool) : Statement (.gCtrlStop m g prio keep auto) := .inl rfl
theorem stopall (m : Master) : Statement (.stopall m) := .inl rfl
theorem startauto (m : Master) : Statement (.startauto m) := .inl rfl
theorem gatherHoldWindowEnd (g : GatherId) : Statement (.gatherHoldWindowEnd g) := .inl rfl
theorem loadOpen (m : Master) (signed : Bool) : Statement (.loadOpen m signed) := .inl rfl
theorem loadWindowWrite (m : Master) (i : Fin 262144) (data : Word) : Statement (.loadWindowWrite m i data) := .inl rfl
theorem loadVerify (m : Master) (signed : Bool) : Statement (.loadVerify m signed) := .inl rfl
theorem loadAbort (m : Master) (signed : Bool) : Statement (.loadAbort m signed) := .inl rfl
theorem pageRelease (m : Master) (first last : Fin 64) : Statement (.pageRelease m first last) := .inl rfl
theorem cmemDataWrite (m : Master) (data : Word) : Statement (.cmemDataWrite m data) := .inl rfl
theorem lmemDataWrite (m : Master) (data : Word) : Statement (.lmemDataWrite m data) := .inl rfl
theorem gatherRewind (g : GatherId) (e : HwError) (repairable : Bool) (percent : Fin 101) : Statement (.gatherRewind g e repairable percent) := .inl rfl
theorem rewindComplete (g : GatherId) : Statement (.rewindComplete g) := .inl rfl
theorem fieldCreate (m : Master) (f : Fin 16) : Statement (.fieldCreate m f) := .inl rfl
theorem fieldHere (m : Master) (f : Fin 16) : Statement (.fieldHere m f) := .inl rfl
theorem fieldClear (m : Master) (key : BitVec 16) (f layers : Fin 16) : Statement (.fieldClear m key f layers) := .inl rfl
theorem fieldDelete (m : Master) (key : BitVec 16) (f : Fin 16) : Statement (.fieldDelete m key f) := .inl rfl
theorem fieldCommandDone (f : Fin 16) : Statement (.fieldCommandDone f) := .inl rfl
theorem tileFetch (i : Fin 262144) (readable : Bool) : Statement (.tileFetch i readable) := .inl rfl
theorem onyxFlush (m : Master) : Statement (.onyxFlush m) := .inl rfl
theorem mapWinWrite (m : Master) (i : Fin 1024) (data : Word) : Statement (.mapWinWrite m i data) := .inl rfl
theorem mapGeometryWrite (m : Master) (g : GeoReg) (data : Word) : Statement (.mapGeometryWrite m g data) := .inl rfl
theorem mapCheck (m : Master) : Statement (.mapCheck m) := .inl rfl
theorem mapActNow (m : Master) : Statement (.mapActNow m) := .inl rfl
theorem mapActArm (m : Master) : Statement (.mapActArm m) := .inl rfl
theorem mapActCancel (m : Master) : Statement (.mapActCancel m) := .inl rfl
theorem mapClear (m : Master) : Statement (.mapClear m) := .inl rfl
theorem actuationOn (n : OutId) : Statement (.actuationOn n) := .inl rfl
theorem actuationOff (n : OutId) : Statement (.actuationOff n) := .inl rfl
theorem actuationDuty (n : OutId) : Statement (.actuationDuty n) := .inl rfl
theorem actuationPeriod (n : OutId) : Statement (.actuationPeriod n) := .inl rfl
theorem actuationPhase (n : OutId) : Statement (.actuationPhase n) := .inl rfl
theorem actuationPulse (n : OutId) : Statement (.actuationPulse n) := .inl rfl
theorem pulseEnd (n : OutId) : Statement (.pulseEnd n) := .inl rfl
theorem latencyMeasurement (n : OutId) (samples : List Nat) : Statement (.latencyMeasurement n samples) := .inl rfl
theorem captureEnd (n : OutId) (samples : List Nat) : Statement (.captureEnd n samples) := .inl rfl
theorem outArm (m : Master) (n : OutId) : Statement (.outArm m n) := .inl rfl
theorem outDisarm (m : Master) (n : OutId) : Statement (.outDisarm m n) := .inl rfl
theorem lateClr (m : Master) (n : OutId) : Statement (.lateClr m n) := .inl rfl
theorem relearn (m : Master) (n : OutId) (data : Word) : Statement (.relearn m n data) := .inl rfl
theorem remArm (m : Master) (d : DescId) : Statement (.remArm m d) := .inl rfl
theorem remDisarm (m : Master) (d : DescId) : Statement (.remDisarm m d) := .inl rfl
theorem stateReport (p : PortId) (node chan : Byte) (on late : Bool) (seq : BitVec 4) (time : BitVec 24) : Statement (.stateReport p node chan on late seq time) := .inl rfl
theorem latencyReport (p : PortId) (node chan : Byte) (on : Bool) (seq : BitVec 4) (lat : BitVec 16) : Statement (.latencyReport p node chan on seq lat) := .inl rfl
theorem remoteReportTimeout (d : DescId) : Statement (.remoteReportTimeout d) := .inl rfl
theorem qflush (m : Master) (q : QId) : Statement (.qflush m q) := .inl rfl
theorem hwmClr (m : Master) (q : QId) : Statement (.hwmClr m q) := .inl rfl
theorem heldItemEntry (q : QId) : Statement (.heldItemEntry q) := .inl rfl
theorem channelTrip (n : OutId) : Statement (.channelTrip n) := .inl rfl
theorem retryPauseEnd (n : OutId) : Statement (.retryPauseEnd n) := .inl rfl
theorem tryCountReset (n : OutId) : Statement (.tryCountReset n) := .inl rfl
theorem unlatch (m : Master) (n : OutId) : Statement (.unlatch m n) := .inl rfl
theorem inrushWindowEnd (n : OutId) : Statement (.inrushWindowEnd n) := .inl rfl
theorem thermalShutdown (n : OutId) (hot : Bool) : Statement (.thermalShutdown n hot) := .inl rfl
theorem thermalRecovery (n : OutId) : Statement (.thermalRecovery n) := .inl rfl
theorem pulseDeferralEnd (n : OutId) : Statement (.pulseDeferralEnd n) := .inl rfl
theorem budgetAdmission (n : OutId) : Statement (.budgetAdmission n) := .inl rfl
theorem reversalGapEnd (n : OutId) : Statement (.reversalGapEnd n) := .inl rfl
theorem supplyCompUpdate (f : FeedId) (mv : BitVec 16) (meas : List ChanMeas) : Statement (.supplyCompUpdate f mv meas) := .inl rfl
theorem compensationFreeze (f : FeedId) : Statement (.compensationFreeze f) := .inl rfl
theorem compensationFreezeEnd (f : FeedId) : Statement (.compensationFreezeEnd f) := .inl rfl
theorem capSelWrite (m : Master) (data : Word) : Statement (.capSelWrite m data) := .inl rfl
theorem carrierReload (n : OutId) : Statement (.carrierReload n) := .inl rfl
theorem carrierFall (n : OutId) : Statement (.carrierFall n) := .inl rfl
theorem delayLineCalibration (n : OutId) (tap : Nat) (taps : List Nat) : Statement (.delayLineCalibration n tap taps) := .inl rfl
theorem poseRecordPublish (i : PoseInput) : Statement (.poseRecordPublish i) := .inl rfl
theorem gnssCold (m : Master) (key : BitVec 16) (data : Word) : Statement (.gnssCold m key data) := .inl rfl
theorem trkManualWrite (m : Master) (k : Fin 200) (data : Word) : Statement (.trkManualWrite m k data) := .inl rfl
theorem corrFeedWrite (m : Master) (data : Word) : Statement (.corrFeedWrite m data) := .inl rfl
theorem snapCapture (m : Master) : Statement (.snapCapture m) := .inl rfl
theorem snapSolve (m : Master) : Statement (.snapSolve m) := .inl rfl
theorem timeSet (m : Master) (key : BitVec 16) : Statement (.timeSet m key) := .inl rfl
theorem tickCfgWrite (m : Master) (data : Word) : Statement (.tickCfgWrite m data) := .inl rfl
theorem fbEdge (n : Fin 24) (both : Bool) : Statement (.fbEdge n both) := .inl rfl
theorem fbStaleTimeout (n : Fin 24) : Statement (.fbStaleTimeout n) := .inl rfl
theorem fbPeriodicRecord (n : Fin 24) : Statement (.fbPeriodicRecord n) := .inl rfl
theorem fbClearFault (m : Master) (n : Fin 24) : Statement (.fbClearFault m n) := .inl rfl
theorem fbCompareWrite (m : Master) (c : CmpReg) (n : Fin 24) (r : Fin 4) (data : Word) : Statement (.fbCompareWrite m c n r data) := .inl rfl
theorem fbCountWrite (m : Master) (n : Fin 24) (data : Word) : Statement (.fbCountWrite m n data) := .inl rfl
theorem aiConversion (m : Fin 16) (raw : BitVec 12) (over25 : Bool) : Statement (.aiConversion m raw over25) := .inl rfl
theorem sensorSupplyLevelChange (m : Master) (data : Word) : Statement (.sensorSupplyLevelChange m data) := .inl rfl
theorem streamItemTaken (p : PortId) : Statement (.streamItemTaken p) := .inl rfl
theorem frameTransmitComplete (p : PortId) (sof : Nat) (tdc : BitVec 8) : Statement (.frameTransmitComplete p sof tdc) := .inl rfl
theorem busError (p : PortId) (kind : Fin 7) (tx eight : Bool) : Statement (.busError p kind tx eight) := .inl rfl
theorem frameReceived (p : PortId) (f : CanFrame) (sof : Nat) : Statement (.frameReceived p f sof) := .inr ⟨_, _, _, rfl, rfl⟩
theorem receiveCheckTimeout (p : PortId) (i : Fin 160) : Statement (.receiveCheckTimeout p i) := .inl rfl
theorem sendReq (m : Master) (p : PortId) (o : Fin 128) : Statement (.sendReq m p o) := .inl rfl
theorem txAbort (m : Master) (p : PortId) (o : Fin 128) : Statement (.txAbort m p o) := .inl rfl
theorem portInitWrite (m : Master) (p : PortId) (init : Bool) : Statement (.portInitWrite m p init) := .inl rfl
theorem rdFirst (m : Master) : Statement (.rdFirst m) := .inl rfl
theorem rdNext (m : Master) : Statement (.rdNext m) := .inl rfl
theorem rdSeq (m : Master) : Statement (.rdSeq m) := .inl rfl
theorem agateClear (m : Master) (key : BitVec 16) : Statement (.agateClear m key) := .inl rfl
theorem resetEngine (m : Master) (key : BitVec 16) : Statement (.resetEngine m key) := .inl rfl
theorem resetWarm (m : Master) (key : BitVec 16) : Statement (.resetWarm m key) := .inl rfl
theorem clockMonitorFault (sys : Bool) : Statement (.clockMonitorFault sys) := .inl rfl
theorem cfgStageOpen (m : Master) (byGtime : Bool) : Statement (.cfgStageOpen m byGtime) := .inl rfl
theorem cfgStagedWrite (m : Master) (addr : BitVec 24) (data : Word) : Statement (.cfgStagedWrite m addr data) := .inl rfl
theorem cfgCheck (m : Master) (byGtime : Bool) : Statement (.cfgCheck m byGtime) := .inl rfl
theorem cfgActArm (m : Master) (byGtime : Bool) : Statement (.cfgActArm m byGtime) := .inl rfl
theorem cfgActNow (m : Master) (byGtime : Bool) : Statement (.cfgActNow m byGtime) := .inl rfl
theorem cfgDiscard (m : Master) (byGtime : Bool) : Statement (.cfgDiscard m byGtime) := .inl rfl
theorem factory (m : Master) (key : BitVec 16) : Statement (.factory m key) := .inl rfl
theorem standbyEnter (m : Master) (key : BitVec 16) : Statement (.standbyEnter m key) := .inl rfl
theorem gafferRd (a : BitVec 24) : Statement (.gafferRd a) := .inl rfl
theorem gafferRdBurst (a : BitVec 24) (n : Fin 255) : Statement (.gafferRdBurst a n) := .inl rfl
theorem gafferWr (a : BitVec 24) (data : Word) : Statement (.gafferWr a data) := .inl rfl
theorem gafferKey (key : BitVec 16) (a : BitVec 24) (data : Word) : Statement (.gafferKey key a data) := .inl rfl
theorem gafferOwnClaim (key : BitVec 16) : Statement (.gafferOwnClaim key) := .inl rfl
theorem gafferOwnSeize (key : BitVec 16) : Statement (.gafferOwnSeize key) := .inl rfl
theorem gafferOwnRelease (key : BitVec 16) : Statement (.gafferOwnRelease key) := .inl rfl
theorem gafferLogClear (key : BitVec 16) : Statement (.gafferLogClear key) := .inl rfl
theorem illegalInstruction (g : GatherId) (w : Word) : Statement (.illegalInstruction g w) := .inl rfl
theorem fetchRangeFault (g : GatherId) : Statement (.fetchRangeFault g) := .inl rfl
theorem rawLineChange (n : Fin 24) (level : Bool) : Statement (.rawLineChange n level) := .inl rfl
theorem ptComparePulseEnd (p : Fin 8) : Statement (.ptComparePulseEnd p) := .inl rfl
theorem synthesisedSpeedPeriod (p : Fin 8) : Statement (.synthesisedSpeedPeriod p) := .inl rfl
theorem dropoutEnd (dur : Word) (mv : BitVec 16) : Statement (.dropoutEnd dur mv) := .inl rfl
theorem ecuBandEntry (high : Bool) : Statement (.ecuBandEntry high) := .inl rfl
theorem antennaFoldBack (a : Fin 2) : Statement (.antennaFoldBack a) := .inl rfl
theorem antennaBiasRetry (a : Fin 2) (shorted : Bool) : Statement (.antennaBiasRetry a shorted) := .inl rfl
theorem sensorSupplyFoldBack (x : SensorFold) : Statement (.sensorSupplyFoldBack x) := .inl rfl
theorem keyedAddr (p : PortId) (src : Byte) (w : BitVec 22) (tag : Fin 4) (key : BitVec 16) : Statement (.keyedAddr p src w tag key) := .inl rfl
theorem keyedData (p : PortId) (src : Byte) (w : BitVec 22) (tag : Fin 4) (data : Word) : Statement (.keyedData p src w tag data) := .inl rfl
theorem tileWriteback (i : Fin 262144) : Statement (.tileWriteback i) := .inl rfl
theorem lpShort (n : OutId) : Statement (.lpShort n) := .inl rfl
theorem measurementEpoch (i : EpochInput) : Statement (.measurementEpoch i) := .inl rfl
theorem chainFailure (c : Fin 4) : Statement (.chainFailure c) := .inl rfl
theorem antOpen (a : Fin 2) (isOpen : Bool) : Statement (.antOpen a isOpen) := .inl rfl
theorem rtcmFrame (src : Fin 8) (b : Byte) (bs : List Byte) : Statement (.rtcmFrame src b bs) := .inl rfl
theorem snapCaptureDone (data : List Byte) (temp : BitVec 16) : Statement (.snapCaptureDone data temp) := .inl rfl
theorem snapSolveDone (found : Option (Int × Int × Int × Nat)) : Statement (.snapSolveDone found) := .inl rfl
theorem timeMsgWithdraw (p : PortId) : Statement (.timeMsgWithdraw p) := .inl rfl
theorem holdoverLimitExceeded (t : Nat) : Statement (.holdoverLimitExceeded t) := .inl rfl
theorem ssiFrame (n : Fin 24) (bits : Word) (parity startHigh endLow : Bool) : Statement (.ssiFrame n bits parity startHigh endLow) := .inl rfl
theorem ssiStaleTimeout (n : Fin 24) : Statement (.ssiStaleTimeout n) := .inl rfl
theorem aiBurdenReclose (m : Fin 16) : Statement (.aiBurdenReclose m) := .inl rfl
theorem ptShort (p : Fin 8) : Statement (.ptShort p) := .inl rfl
theorem busoffRecoveryComplete (p : PortId) : Statement (.busoffRecoveryComplete p) := .inl rfl
theorem busoffRec (m : Master) (p : PortId) (init : Bool) : Statement (.busoffRec m p init) := .inl rfl
theorem portSleep (m : Master) (p : PortId) (init : Bool) : Statement (.portSleep m p init) := .inl rfl
theorem portSleepEntry (p : PortId) : Statement (.portSleepEntry p) := .inl rfl
theorem portWakeCondition (p : PortId) (c : WakeCond) : Statement (.portWakeCondition p c) := .inl rfl
theorem portWake (m : Master) (p : PortId) (init : Bool) : Statement (.portWake m p init) := .inl rfl
theorem addressClaimReceived (p : PortId) (a : Byte) (name : BitVec 64) : Statement (.addressClaimReceived p a name) := .inl rfl
theorem requestForAddressClaim (p : PortId) (src : Byte) : Statement (.requestForAddressClaim p src) := .inl rfl
theorem addressClaimTimeout (p : PortId) : Statement (.addressClaimTimeout p) := .inl rfl
theorem tpRtsReceived (p : PortId) (src : Byte) (etp : Bool) (total : Word) (most : Byte) (pgn : BitVec 24) : Statement (.tpRtsReceived p src etp total most pgn) := .inl rfl
theorem tpBamReceived (p : PortId) (src : Byte) (total : BitVec 16) (pgn : BitVec 24) : Statement (.tpBamReceived p src total pgn) := .inl rfl
theorem tpDataReceived (p : PortId) (src seq : Byte) (bam etp : Bool) (d : BitVec 56) : Statement (.tpDataReceived p src seq bam etp d) := .inl rfl
theorem tpCtsReceived (p : PortId) (src : Byte) (etp : Bool) (n : Byte) (next pgn : BitVec 24) : Statement (.tpCtsReceived p src etp n next pgn) := .inl rfl
theorem tpAbortReceived (p : PortId) (src : Byte) (etp : Bool) (reason : Byte) (pgn : BitVec 24) : Statement (.tpAbortReceived p src etp reason pgn) := .inl rfl
theorem tpTimeout (p : PortId) (rx : Option (Nat × Bool × Bool)) : Statement (.tpTimeout p rx) := .inl rfl
theorem bamPacketSend (p : PortId) : Statement (.bamPacketSend p) := .inl rfl
theorem dm1Period (p : PortId) : Statement (.dm1Period p) := .inl rfl
theorem dm2Request (p : PortId) (src : Byte) : Statement (.dm2Request p src) := .inl rfl
theorem dm3Received (p : PortId) (src : Byte) : Statement (.dm3Received p src) := .inl rfl
theorem memoryScrub (found : Fin 256) : Statement (.memoryScrub found) := .inl rfl
theorem tmrMismatch (fatal : Bool) : Statement (.tmrMismatch fatal) := .inl rfl
theorem fleetDigestFrame (p : PortId) (src : Byte) (part : BitVec 3) (round : BitVec 5) (d : BitVec 48) : Statement (.fleetDigestFrame p src part round d) := .inl rfl
theorem fleetPeerTimeout (k : Fin 16) : Statement (.fleetPeerTimeout k) := .inl rfl
theorem standbyWake (w : WakeCause) : Statement (.standbyWake w) := .inl rfl
theorem snapshotWake (unc : Word) (gtime : BitVec 64) (found : Option (Int × Int × Int × Nat)) (meet : Option WakeCause) : Statement (.snapshotWake unc gtime found meet) := .inl rfl
theorem usbDtrChange (isOpen : Bool) : Statement (.usbDtrChange isOpen) := .inl rfl
theorem gafferLog (sev : Fin 8) (n : Fin 65536) : Statement (.gafferLog sev n) := .inl rfl
theorem gafferMeterCheck (k : Fin 10) (target : Fin 128) : Statement (.gafferMeterCheck k target) := .inl rfl
theorem svcMeterWrite (m : Master) (data : Word) : Statement (.svcMeterWrite m data) := .inl rfl
theorem gafferSelftest (unit : Fin 9) (port : PortId) : Statement (.gafferSelftest unit port) := .inl rfl
theorem svcTestGo (m : Master) (unit : Fin 16) (port : Fin 8) : Statement (.svcTestGo m unit port) := .inl rfl
theorem gafferSnapCap (len chains : Fin 16) : Statement (.gafferSnapCap len chains) := .inl rfl
theorem jasperEnableWrite (m : Master) (key : BitVec 16) (r : JasReg) (data : Word) : Statement (.jasperEnableWrite m key r data) := .inl rfl
theorem jasRefresh (m : Master) (key : BitVec 16) (okBit : Bool) (armKey : BitVec 16) : Statement (.jasRefresh m key okBit armKey) := .inl rfl
theorem jasOff (m : Master) (key : BitVec 16) (okBit : Bool) (armKey : BitVec 16) : Statement (.jasOff m key okBit armKey) := .inl rfl
theorem eccInject (m : Master) (key : BitVec 16) (double : Bool) : Statement (.eccInject m key double) := .inl rfl
theorem busOneshot (m : Master) (key : BitVec 16) (p : PortId) (bit every : Byte) : Statement (.busOneshot m key p bit every) := .inl rfl
theorem inertialSample (missing : Bool) (rate : Int × Int × Int) (acc : ImuAcc) : Statement (.inertialSample missing rate acc) := .inl rfl
theorem keepAbsentChange (absent : Bool) : Statement (.keepAbsentChange absent) := .inl rfl
theorem ecuBandExit (high : Bool) : Statement (.ecuBandExit high) := .inl rfl
theorem aiStaleTimeout (m : Fin 16) : Statement (.aiStaleTimeout m) := .inl rfl
theorem operatingTimeStore (ok : Bool) : Statement (.operatingTimeStore ok) := .inl rfl
theorem selftestOnDemandDone (t : DemandTest) : Statement (.selftestOnDemandDone t) := .inl rfl
theorem meterMeasurement (mv : BitVec 16) : Statement (.meterMeasurement mv) := .inl rfl
theorem gafferLineRefused (f : LineFault) : Statement (.gafferLineRefused f) := .inl rfl
theorem tpEndOfMessageAck (p : PortId) (src : Byte) (etp : Bool) (total : Word) (pgn : BitVec 24) : Statement (.tpEndOfMessageAck p src etp total pgn) := .inl rfl
theorem ecuPwrQualified : Statement .ecuPwrQualified := .inl rfl
theorem svcVbusColdStart : Statement .svcVbusColdStart := .inl rfl
theorem benchToNormal : Statement .benchToNormal := .inl rfl
theorem svcVbusLoss : Statement .svcVbusLoss := .inl rfl
theorem powerOnResetEnd : Statement .powerOnResetEnd := .inl rfl
theorem electionWindowEnd : Statement .electionWindowEnd := .inl rfl
theorem wakeInRise : Statement .wakeInRise := .inl rfl
theorem groundLoss : Statement .groundLoss := .inl rfl
theorem groundLossEnd : Statement .groundLossEnd := .inl rfl
theorem baseHotEntry : Statement .baseHotEntry := .inl rfl
theorem oemKeyCommitDone : Statement .oemKeyCommitDone := .inl rfl
theorem keyedAddrTimeout : Statement .keyedAddrTimeout := .inl rfl
theorem busSessionTimeout : Statement .busSessionTimeout := .inl rfl
theorem heartbeatTimeout : Statement .heartbeatTimeout := .inl rfl
theorem handoverTimeout : Statement .handoverTimeout := .inl rfl
theorem tick : Statement .tick := .inl rfl
theorem snapshotComplete : Statement .snapshotComplete := .inl rfl
theorem loadVerifyDone : Statement .loadVerifyDone := .inl rfl
theorem mapCheckDone : Statement .mapCheckDone := .inl rfl
theorem mapActivation : Statement .mapActivation := .inl rfl
theorem eventPlacement : Statement .eventPlacement := .inl rfl
theorem holdPlaced : Statement .holdPlaced := .inl rfl
theorem latencyStore : Statement .latencyStore := .inl rfl
theorem latencyTableRefresh : Statement .latencyTableRefresh := .inl rfl
theorem markerSweep : Statement .markerSweep := .inl rfl
theorem navDataStore : Statement .navDataStore := .inl rfl
theorem correctionStale : Statement .correctionStale := .inl rfl
theorem ppsPrepare : Statement .ppsPrepare := .inl rfl
theorem ppsEdge : Statement .ppsEdge := .inl rfl
theorem ppsFall : Statement .ppsFall := .inl rfl
theorem slewComplete : Statement .slewComplete := .inl rfl
theorem holdoverEntry : Statement .holdoverEntry := .inl rfl
theorem tmReferencePeriod : Statement .tmReferencePeriod := .inl rfl
theorem recorderEventAccept : Statement .recorderEventAccept := .inl rfl
theorem recordWrite : Statement .recordWrite := .inl rfl
theorem supervisorRestart : Statement .supervisorRestart := .inl rfl
theorem supervisorWatchdogTimeout : Statement .supervisorWatchdogTimeout := .inl rfl
theorem issueMonitorTimeout : Statement .issueMonitorTimeout := .inl rfl
theorem engineResetEnd : Statement .engineResetEnd := .inl rfl
theorem warmResetRelease : Statement .warmResetRelease := .inl rfl
theorem resetHoldWindowEnd : Statement .resetHoldWindowEnd := .inl rfl
theorem cfgCheckDone : Statement .cfgCheckDone := .inl rfl
theorem cfgActivation : Statement .cfgActivation := .inl rfl
theorem imageStore : Statement .imageStore := .inl rfl
theorem fleetRoundSend : Statement .fleetRoundSend := .inl rfl
theorem keepLossInStandby : Statement .keepLossInStandby := .inl rfl
theorem gafferId : Statement .gafferId := .inl rfl
theorem gafferOwn : Statement .gafferOwn := .inl rfl
theorem gafferOwnAccept : Statement .gafferOwnAccept := .inl rfl
theorem gafferOwnHb : Statement .gafferOwnHb := .inl rfl
theorem gafferOwnAutoOn : Statement .gafferOwnAutoOn := .inl rfl
theorem gafferOwnAutoOff : Statement .gafferOwnAutoOff := .inl rfl
theorem autoHeartbeat : Statement .autoHeartbeat := .inl rfl
theorem gafferMeterRead : Statement .gafferMeterRead := .inl rfl
theorem gafferMeterOff : Statement .gafferMeterOff := .inl rfl
theorem meterCheckTimeout : Statement .meterCheckTimeout := .inl rfl
theorem gafferSnapSolve : Statement .gafferSnapSolve := .inl rfl
theorem gafferSnapRead : Statement .gafferSnapRead := .inl rfl
theorem gafferJas : Statement .gafferJas := .inl rfl
theorem gafferJasRefresh : Statement .gafferJasRefresh := .inl rfl
theorem gafferJasOff : Statement .gafferJasOff := .inl rfl
theorem jasperExpiry : Statement .jasperExpiry := .inl rfl
theorem baseHotExit : Statement .baseHotExit := .inl rfl
theorem utcOffsetChange : Statement .utcOffsetChange := .inl rfl
theorem sensorSupplyRestore : Statement .sensorSupplyRestore := .inl rfl
theorem supervisorRestartEnd : Statement .supervisorRestartEnd := .inl rfl

end Sys2Proof.Laws.Bounded
end

