-- ==== Sys2Proof/Tests/Slice0.lean ====
section
/-! SUPPORT. Tests: ill-formed commands that WellFormed refuses, words of Grikar written out from the spec, worked
values of the spec, and for every statement states and operands that meet its hypotheses. -/
namespace Sys2Proof.Tests
open Sys2Proof Sys2Proof.Machine
set_option maxRecDepth 100000
set_option Elab.async false

-- WellFormed: what each check refuses, and its bounds
theorem test_frame_refused_bytes : (Instr.frameReceived 0 ⟨0x123, false, false, 0, List.replicate 9 0, 0, false⟩ 0).wellFormed = false := by decide
theorem test_frame_refused_fd_length : (Instr.frameReceived 0 ⟨0x123, false, false, 1, List.replicate 9 0, 0, false⟩ 0).wellFormed = false := by decide
theorem test_frame_refused_id : (Instr.frameReceived 0 ⟨0x800, false, false, 0, [], 0, false⟩ 0).wellFormed = false := by decide
theorem test_frame_refused_rtr : (Instr.frameReceived 0 ⟨0x123, false, true, 1, [], 0, false⟩ 0).wellFormed = false := by decide
theorem test_frame_refused_xl : (Instr.frameReceived 0 ⟨0x123, true, false, 3, [0], 0, false⟩ 0).wellFormed = false := by decide
theorem test_frame_accepted : (Instr.frameReceived 0 ⟨0x1FFFFFFF, true, false, 1, List.replicate 64 0, 0, false⟩ 0).wellFormed = true := by decide
theorem test_frame_refused_empty_xl : (Instr.frameReceived 0 ⟨0x123, false, false, 3, [], 0, false⟩ 0).wellFormed = false := by decide
theorem test_rtcm_any_bytes : (Instr.rtcmFrame 0 0 []).wellFormed = true := by decide

-- Words of Grikar, bit by bit from R140 and R143
theorem test_word_add : decodeWord 7 0b000001_00001_00010_00011_00000000000#32 = some (.add 7 1 2 3) := by decide
theorem test_word_addi : decodeWord 7 0b000010_00100_00101_1000000000000001#32 = some (.addi 7 4 5 0x8001) := by decide
theorem test_word_sari : decodeWord 7 0b000111_00001_00010_10_000000000_00111#32 = some (.sari 7 1 2 7) := by decide
theorem test_word_stw : decodeWord 7 0b010101_00001_00010_0000000000000100#32 = some (.stw 7 1 2 4) := by decide
theorem test_word_bc : decodeWord 7 0b100000_0010_1111111111111111111111#32 = some (.bc 7 2 0x3FFFFF) := by decide
theorem test_word_div : decodeWord 7 0b101000_00001_00010_00011_00000000000#32 = some (.divW 7 1 2 3) := by decide
theorem test_word_padd : decodeWord 7 0b101001_00001_00010_00011_00000_000100#32 = some (.padd 7 1 2 3) := by decide
theorem test_word_foot : decodeWord 7 0b101010_00010_00001_00011_00100_000001#32 = some (.foot 7 2 1 3 4) := by decide
theorem test_word_qlevel : decodeWord 7 0b101100_00001_00000_00100_000_1_1101000#32 = some (.qlevel 7 1 104 true) := by decide
theorem test_word_post : decodeWord 7 0b101101_00010_00001_00011_00000_00_0101#32 = some (.post 7 2 1 3 5) := by decide
theorem test_word_rds : decodeWord 7 0b101110_00001_00000_00010_00000010110#32 = some (.rds 7 1 22) := by decide
theorem test_word_waitq : decodeWord 7 0b101111_00000_00000_00110_0000_1100010#32 = some (.waitq 7 98) := by decide
theorem test_word_log : decodeWord 7 0b110000_00010_00000_00100_11111111111#32 = some (.logW 7 2 4 2047) := by decide
theorem test_word_illegal_odd_pair : decodeWord 7 0b110000_00011_00000_00100_11111111111#32 = none := by decide
theorem test_word_illegal_erased : decodeWord 7 0xFFFFFFFF#32 = none := by decide

-- States for the witnesses
/-- A state in which start-up is complete and a master owns the punty. -/
def up (c : Nat) : State := fset (fset { State.reset with mtime := 5120000000 } F.STARTUP_STAT_PHASE 4) F.OWN_STAT_OWNER c
/-- Gather 5 in the state x, with its region valid in page 0. -/
def going (x : Gather) : State := setGather 5 { x with phase := .run } (fset (up 1) (F.G_REGION_VALID 5) 1)
/-- Gather 5 in a phase with a wait. -/
def waits (p : GPhase) (w : GWait) : State := setGather 5 { Gather.init with phase := p, waiting := w } (fset (up 1) (F.G_REGION_VALID 5) 1)
/-- A core with registers 1 to 3. -/
def core3 (a b c : Word) : Core := { Core.init with w := [(1, a), (2, b), (3, c)] }
/-- The state after a command. -/
def after (s : State) (i : Instr) : State := match exec i s with | .next t => t | _ => s
-- Grikar
theorem test_add_wraps : (let t := after (going { Gather.init with cur := core3 0 0x80000000 0 }) (.add 5 1 2 2);
    getW (coreOf t 5) 1 = 0 ∧ (coreOf t 5).z = true ∧ (coreOf t 5).c = true ∧ (coreOf t 5).v = true) := by decide +kernel
theorem test_div_by_zero_negative : divResult 0xFFFFFFFF 0 = 0x80000000 := by decide
theorem witness_register_forms : issues (going Gather.init) 5 [1, 2, 3] [] ∧ issues (going Gather.init) 5 [31, 31, 31] [] ∧
    issues (going Gather.init) 5 [1, 2] [] := by unfold issues; decide +kernel
theorem witness_AddSubtractResultAndFlags : issues (going Gather.init) 5 [1, 2, 3] [] := by unfold issues; decide +kernel
theorem witness_LogicMultiplyMinMaxResultAndFlags : issues (going Gather.init) 5 [0, 31, 31] [] := by unfold issues; decide +kernel
theorem witness_ShiftResultAndFlags : issues (going Gather.init) 5 [1, 2, 3] [] ∧ issues (going Gather.init) 5 [1, 2] [] := by unfold issues; decide +kernel
theorem witness_ImmediateArithmeticResultAndFlags : issues (going Gather.init) 5 [1, 2] [] := by unfold issues; decide +kernel
/-- Registers 1 at a boundary of local or common memory. -/
theorem witness_LocalLoadReadsLocalMemory : issues (going { Gather.init with cur := core3 0xFFC 0 0 }) 5 [2, 1] [] ∧
    (0xFFC + (BitVec.ofInt 32 (0 : BitVec 16).toInt).toNat) % 2 ^ 32 = 0xFFC ∧
    issues (going { Gather.init with cur := core3 0x1000 0 0 }) 5 [2, 1] [] ∧ issues (going { Gather.init with cur := core3 2 0 0 }) 5 [2, 1] [] ∧
    getW (coreOf (going { Gather.init with cur := core3 0xFFC 0 0 }) 5) 1 = 0xFFC := by unfold issues; decide +kernel
/-- An error of one bit or of two stands in the word that is read. -/
theorem witness_LocalLoad_ecc : ∀ two : Bool, (let s := going { Gather.init with cur := core3 0xFFC 0 0 };
    let e : State := { s with rcv := { s.rcv with eccWords := [(1, 5, 0x3FF, two)] } }; issues e 5 [2, 1] [] ∧ eccAt e 1 5 (0xFFC / 4) = some two ∧
    eccAt s 1 5 (0xFFC / 4) = none) := by unfold issues; decide +kernel
theorem witness_LocalStoreWritesItsBytesAlone : (let s := going { Gather.init with cur := core3 0xFFC 7 0 };
      issues s 5 [2, 1] [] ∧ getW (coreOf s 5) 1 = 0xFFC ∧ (gatherOf s 5).journal.length < 256) ∧
    (let s := going { Gather.init with cur := core3 0xFFC 7 0, journal := List.replicate 256 (.stc 0 0) };
      issues s 5 [2, 1] [] ∧ 256 ≤ (gatherOf s 5).journal.length) := by unfold issues; decide +kernel
theorem witness_CommonMemoryAccessIsHeld : (let s := going { Gather.init with cur := core3 0xFFFFC 7 0 };
      issues s 5 [2, 1] [] ∧ getW (coreOf s 5) 1 = 0xFFFFC ∧ (gatherOf s 5).journal.length < 256 ∧ (gatherOf s 5).ops.length < 8 ∧ inFlight s < 512) := by
  unfold issues; decide +kernel
theorem witness_DivideAndRootIssueAndComplete : (let s := going { Gather.init with ops := List.replicate 7 ⟨0, .value 0, [9], []⟩, nextTag := 1 };
      issues s 5 [1, 2, 3] [] ∧ issues s 5 [1, 2, 0] [] ∧ (gatherOf s 5).ops.length < 8 ∧ inFlight s < 512 ∧
      ∀ q ∈ (gatherOf s 5).ops, q.tag < (gatherOf s 5).nextTag) := by unfold issues; decide +kernel
theorem witness_BranchSetsThePc : (let s := going Gather.init;
      issues s 5 [] [] ∧ issues s 5 [31] [] ∧ issues s 5 [0] [] ∧ issues s 5 [31, 4] []) := by unfold issues; decide +kernel
theorem witness_PointInstructionsMoveCoordinates : (let s := going Gather.init;
      issues s 5 [31, 0] [7] ∧ issues s 5 [4] [7] ∧ issues s 5 [] [7, 0, 0] ∧ issues s 5 [] [7, 7, 0]) := by unfold issues; decide +kernel
/-- Gather 5 with Q104 bound for pushing, every bus queue for popping, descriptor 0 and output 83. -/
def bound (x : Gather) : State :=
  fset (fset (fset (fset (fset (going x) (F.G_QPUSH_GEN 5) 1) (F.G_QPOPS_SYS 5) 0xFFF) (F.REM_GATHER_GATHER 0) 5) (F.REM_GATHER_VALID 0) 1)
    (F.OUT_PERMIT_GATHERS 83 0) 0x20
theorem witness_GeometryInstructionsIssueWithTheirOperands : (let s := bound { Gather.init with cur := core3 0x00000100 0 0, ops := List.replicate 7 ⟨0, .value 0, [9], []⟩ };
      (gatherOf s 5).ops.length < 8 ∧ inFlight s < 512 ∧ issues s 5 [1, 2, 3] [6, 7] ∧ issues s 5 [31, 30] [6, 7] ∧ issues s 5 [1, 1, 2, 3] [] ∧
      issues s 5 [31, 0] [7] ∧ popBound s 5 102 = true ∧ issues s 5 [30, 31] [] ∧ issues s 5 [1] [7, 0] ∧ (gatherOf s 5).journal.length < 256 ∧
      256 ≤ bitsOf (getW (coreOf s 5) 1) 9 0 ∧ bitsOf (getW (coreOf s 5) 1) 31 18 = 0 ∧ bitsOf (getW (coreOf s 5) 1) 15 10 = 0 ∧
      remBound s (bitsOf (getW (coreOf s 5) 1) 9 0 - 256) 5 = true) := by unfold issues; decide +kernel
theorem witness_QueueInstructionsPushPopAndCommit : (let s := bound Gather.init;
      issues s 5 [30, 31] [] ∧ issues s 5 [] [] ∧ issues s 5 [31] [] ∧ pushBound s 5 104 = true ∧ isPoisoned s 5 104 = false ∧ 1 ≤ freeRoom s 104 ∧
      fget s (F.JAS_QBP_DUTY 104) = 0 ∧ pushBound s 5 127 = false ∧ popBound s 5 91 = true ∧ popBound s 5 104 = false) := by
  unfold issues; decide +kernel
/-- Q104 was flushed while gather 5 had words in it. -/
theorem witness_Queue_poisoned : (let s := setQueue 104 { Queue.init with poison := [5] } (bound Gather.init);
    issues s 5 [30, 31] [] ∧ issues s 5 [] [] ∧ pushBound s 5 104 = true ∧ isPoisoned s 5 104 = true) := by unfold issues; decide +kernel
theorem witness_PostFormsOnePacketOnQ84 : (let s := bound { Gather.init with cur := core3 83 0xFFFFFFFF 0 };
      let far := bound { Gather.init with cur := { Core.init with w := [(1, 83), (3, 0x7FFFFFFF)] } };
      issues s 5 [2, 3, 1, 4] [] ∧ permits s (getW (coreOf s 5) 1).toNat 5 = true ∧ permits s 84 5 = false ∧ 2 ≤ freeRoom s 84 ∧
      fget s (F.JAS_QBP_DUTY 84) = 0 ∧ 0xFFFFFFFF ≤ s.mtime + 0x17D7840000 ∧ issues far 5 [2, 3, 1, 4] [] ∧
      permits far (getW (coreOf far 5) 1).toNat 5 = true ∧ far.mtime + 0x17D7840000 < 2 ^ 32 * 0x7FFFFFFF) := by unfold issues; decide +kernel
theorem witness_TimeAndSnapshotReadsWriteTheirRegister : (let s := bound { Gather.init with cur := core3 0x00000053 0 0 };
      issues s 5 [2] [] ∧ issues s 5 [1, 2, 3] [] ∧ issues s 5 [2, 1] [] ∧ issues s 5 [2, 3] [] ∧ namesOutput (getW (coreOf s 5) 1).toNat = true ∧
      s.mtime + 204 < 2 ^ 64 ∧ (gatherOf s 5).lastNow ≤ s.mtime + 204) := by unfold issues; decide +kernel
theorem witness_ControlInstructionsCompleteOrStall : (let s := going Gather.init;
      let p := going { Gather.init with ops := [⟨0, .value 0, [9], []⟩] };
      issues s 5 [] [] ∧ (gatherOf s 5).ops = [] ∧ issues p 5 [] [] ∧ (gatherOf p 5).ops ≠ [] ∧ meetsPending (gatherOf p 5) [8] [] = false ∧
      meetsPending (gatherOf p 5) [9] [] = true ∧ issues s 5 [30, 31] [] ∧ (gatherOf s 5).journal.length < 256) := by unfold issues; decide +kernel
theorem witness_EpochCommitsAndWaitsBegin : (let s := bound { Gather.init with cur := core3 0 0 0, journal := [.stc 4 1, .stc 4 2, .undo 0 [1]] };
      (gatherOf s 5).ops = [] ∧ issues s 5 [] [] ∧ popBound s 5 91 = true ∧ issues s 5 [2, 3] [] ∧
      (gatherOf s 5).journal.all (fun e => match e with | .mark _ _ _ => false | .log _ _ _ _ => false | _ => true) = true) ∧
    (let w := bound { Gather.init with ops := [⟨0, .value 0, [9], []⟩] }; (gatherOf w 5).ops ≠ [] ∧ issues w 5 [] [] ∧ issues w 5 [2, 3] []) := by
  unfold issues
  repeat' apply And.intro
  all_goals decide +kernel
theorem witness_WaitsEndAndIllegalWordsFault : (gatherOf (waits .waitTime (.time 9)) 5).waiting = .time 9 ∧
    (let s := setQueue 104 { Queue.init with slots := [⟨1, false, none, false⟩] } (waits .waitQueue (.queue 104));
     (gatherOf s 5).phase = .waitQueue ∧ visible s 104 ≠ 0) ∧ (gatherOf (waits .starting .none) 5).phase = .starting ∧
    (let s := going Gather.init; (gatherOf s 5).phase = .run ∧ inRegion s 5 (coreOf s 5).pc = true ∧ illegalWord 0 = true) ∧
    (let s := going { Gather.init with cur := { Core.init with pc := 4096 } }; inRegion s 5 (coreOf s 5).pc = false) := by decide +kernel
-- The register interface and the punty
/-- Port 0 on its bus with one request of address 0x26 waiting; the bus session open or not, for that address. -/
def asks (owner : Nat) (r : AccReq) (open' : Nat) : State :=
  setPort 0 { Port.init with acc := [(0x26, r)] } (fset (fset (fset (up owner) F.BUS_SESSION_OPEN open') F.BUS_SESSION_SRC 0x26)
    (F.PORT_STAT_STATE 0) 1)
/-- What the place of a plain register meets, beside its rule. -/
theorem witness_writable (s : State) (m : Master) (d : Word) (h : mayCommand s m) :
    (∃ p, writable s m A.TIME_SET_LO p d false) ∧ ∃ p, writable s m A.TIME_SET_HI p d true := by
  have hr : sysHeld s = false := h.1.2.1
  refine ⟨⟨(locate A.TIME_SET_LO).get (by decide +kernel), ⟨by decide +kernel, by decide +kernel, by decide +kernel, rfl, by decide +kernel, ?_, by decide +kernel⟩, h, by decide +kernel, ?_, by decide +kernel⟩,
    ⟨(locate A.TIME_SET_HI).get (by decide +kernel), ⟨by decide +kernel, by decide +kernel, by decide +kernel, rfl, by decide +kernel, ?_, by decide +kernel⟩, h, by decide +kernel, ?_, by decide +kernel⟩⟩
  · exact hr
  · rfl
  · exact hr
  · rfl
theorem witness_UnlocksAndOemKey : (let s := up 1;
      let w := fset (fset s (F.OEM_KEY_HASH_HASH 7) 1) F.OEM_KEY_CTRL_LOCKED 1;
      let k := fset s (F.OEM_KEY_HASH_HASH 7) 1;
      let e := { s with acc := { s.acc with unlock := [(0, .till 9)], commitDone := some 9 } };
      mayCommand s .host ∧ flag s F.OEM_KEY_CTRL_LOCKED = false ∧ mayCommand w .host ∧ flag w F.OEM_KEY_CTRL_LOCKED = true ∧
      1 ≠ w.nv.oemHash.getD 7 0 ∧ 0 = w.nv.oemHash.getD 7 0 ∧ (∀ i < 8, rd s (A.OEM_KEY_HASH i) = 0) ∧
      (let b := fset k F.OEM_KEY_CTRL_BUSY 1; mayCommand b .host ∧ flag b F.OEM_KEY_CTRL_LOCKED = false ∧ flag b F.OEM_KEY_CTRL_BUSY = true ∧
        rd b (A.OEM_KEY_HASH 7) ≠ 0) ∧ mayCommand k .host ∧ flag k F.OEM_KEY_CTRL_LOCKED = false ∧
      flag k F.OEM_KEY_CTRL_BUSY = false ∧ rd k (A.OEM_KEY_HASH 7) ≠ 0 ∧
      unlockOf e .host = .till 9 ∧ running e = true ∧ e.acc.commitDone = some 9) := by
  unfold mayCommand reachable
  repeat' apply And.intro
  all_goals decide +kernel
theorem witness_MailboxesLatchAndRead : reachable (up 0) ∧ reachable (up 3) := by unfold reachable; decide +kernel
theorem witness_RegisterAndAliasWrites : mayCommand (up 1) .host ∧ (∃ p, writable (up 1) .host A.TIME_SET_LO p 0xFFFFFFFF false) ∧
    (∃ p, plainPlace (up 1) A.TIME_SET_LO p ∧ hasKrw p.hit.fam.fields = false ∧
      ∃ f, bitField p.hit.fam.fields 31 = some f ∧ f.ty = .rw ∧ f.ok = []) ∧
    (∃ p, plainPlace (up 1) A.SUPPLY_STAT p ∧ hasKrw p.hit.fam.fields = false ∧ ∃ f, bitField p.hit.fam.fields 8 = some f ∧ f.ty = .w1c) ∧
    locate 0xFFFFFC = none := by
  have h : mayCommand (up 1) .host := by unfold mayCommand reachable; decide +kernel
  refine ⟨h, (witness_writable _ _ _ h).1, ⟨(locate A.TIME_SET_LO).get (by decide +kernel), ?_, by decide +kernel, ?_⟩,
    ⟨(locate A.SUPPLY_STAT).get (by decide +kernel), ?_, by decide +kernel, ?_⟩, by decide +kernel⟩
  · exact ⟨by decide +kernel, by decide +kernel, by decide +kernel, rfl, by decide +kernel, by decide +kernel, by decide +kernel⟩
  · exact ⟨(bitField ((locate A.TIME_SET_LO).get (by decide +kernel)).hit.fam.fields 31).get (by decide +kernel), by decide +kernel, by decide +kernel, by decide +kernel⟩
  · exact ⟨by decide +kernel, by decide +kernel, by decide +kernel, rfl, by decide +kernel, by decide +kernel, by decide +kernel⟩
  · exact ⟨(bitField ((locate A.SUPPLY_STAT).get (by decide +kernel)).hit.fam.fields 8).get (by decide +kernel), by decide +kernel, by decide +kernel⟩
/-- The burst's second word goes to TIME_SET_HI, the next address. -/
theorem witness_HostSpiFrames : mayCommand (up 1) .host ∧ reachable (up 1) ∧ A.TIME_SET_HI = A.TIME_SET_LO + 4 ∧ A.TIME_SET_LO < 0x40000 * 4 ∧
    (∃ p, writable (up 1) .host A.TIME_SET_LO p 5 false) ∧ (∃ p, writable (up 1) .host (A.TIME_SET_LO + 4) p 6 true) := by
  have h : mayCommand (up 1) .host := by unfold mayCommand reachable; decide +kernel
  exact ⟨h, h.1, by decide +kernel, by decide +kernel, (witness_writable _ _ _ h).1, (witness_writable _ _ _ h).2⟩
/-- The supervisor restarts. -/
def supervised (owner : Nat) : State := { up owner with start := { (up owner).start with supervisorAt := some 9 } }
/-- The request waits and no keyed address of its sender is pending. -/
def asked (s : State) (q : AccReq) : Prop := running s = true ∧ sysHeld s = false ∧ onBus s 0 = true ∧
  (portOf s 0).acc.head? = some (0x26, q) ∧ keyedOf s 0 0x26 = none
theorem witness_BusSessionAndAccesses : (
            asked (asks 1 .open' 0) .open' ∧ flag (asks 1 .open' 0) F.BUS_SESSION_OPEN = false ∧ sessionHeld (asks 1 .open' 0) = false ∧
      asked (asks 1 .close 1) .close ∧ isHolder (asks 1 .close 1) 0 0x26 = true ∧ ownerCode (asks 1 .close 1) ≠ 2 ∧
      asked (asks 2 (.read 0x60010 3) 1) (.read 0x60010 3) ∧ isHolder (asks 2 (.read 0x60010 3) 1) 0 0x26 = true ∧
      asked (asks 2 (.write 0x60010 3 7) 1) (.write 0x60010 3 7) ∧ mayCommand (asks 2 (.write 0x60010 3 7) 1) .bus ∧
      asked (asks 2 (.read 0x60010 3) 0) (.read 0x60010 3) ∧ isHolder (asks 2 (.read 0x60010 3) 0) 0 0x26 = false ∧
      asked (asks 2 (.write 0x60010 3 7) 0) (.write 0x60010 3 7) ∧ asked (asks 2 (.keyedAddr 0x60010 3 0xB7E1) 1) (.keyedAddr 0x60010 3 0xB7E1) ∧
      (let s := { asks 2 (.keyedData 0x60010 3 7) 1 with acc := { (up 2).acc with keyed := some ⟨0, 0x26, 0xB7E1, 0x60010, 3, 5120000000⟩ } };
        isHolder s 0 0x26 = true ∧ s.mtime ≤ 5120000000 ∧ mayCommand s .bus ∧ (portOf s 0).acc.head? = some (0x26, .keyedData 0x60010 3 7)) ∧
      (let s := fset (up 1) F.BUS_SESSION_OPEN 1; running s = true ∧ s.start.supervisorAt = none ∧ mayCommand s .host) ∧
      (let s := asks 2 .open' 0; asked s .open' ∧ flag s F.BUS_SESSION_OPEN = false ∧ sessionHeld s = true ∧ fget s F.BUS_SESSION_PORT = 0 ∧
        fget s F.BUS_SESSION_SRC = 0x26) ∧
      (let s := { asks 2 .open' 1 with acc := { (up 2).acc with keyed := some ⟨0, 0x26, 0xB7E1, 0x60010, 3, 9⟩ } };
        running s = true ∧ sysHeld s = false ∧ s.acc.keyed.isSome = true) ∧
      (supervised 2).start.supervisorAt.isSome = true) := by
  unfold asked mayCommand reachable
  repeat' apply And.intro
  all_goals decide +kernel
theorem witness_PuntyClaimHandoverAndRelease : (let s := { up 1 with sup := { (up 1).sup with power := .bench } };
      let o (s : State) (open' : Nat) : State := { fset s F.OWN_STAT_ELECTION open' with own := { s.own with order := [1, 2, 3] }, start := { s.start with electionOver := true } };
      let none' := o (fset s F.OWN_STAT_OWNER 0) 0;
      reachable none' ∧ claimRefused none' 1 = false ∧ electionOpen none' = false ∧
      (let e := o none' 1; claimRefused e 1 = false ∧ claimRefused e 2 = false ∧ electionOpen e = true ∧ e.own.order.head? = some 1) ∧
      claimRefused (o s 0) 2 = true ∧ inOrder (o s 0) 3 = true ∧ handoverPending (o s 0) = false ∧ ownerCode (o s 0) = 1 ∧ (o s 0).svc.meterEnd = none ∧
      (let h := fset (fset (o s 0) F.OWN_STAT_HANDOVER_PEND 1) F.OWN_STAT_TARGET 3;
        reachable h ∧ handoverPending h = true ∧ acceptRefused h 3 = false ∧ acceptRefused h 2 = true) ∧
      seizeRefused (o s 0) = false ∧ ownerCode (o s 0) ≠ 3) ∧ seizeRefused (up 1) = true ∧ (up 1).svc.meterEnd = none ∧
    [bitsOf (writtenWord Reg.OWN_CFG.fields (rd (up 1) A.OWN_CFG) 0x3C0131) 1 0, bitsOf (writtenWord Reg.OWN_CFG.fields (rd (up 1) A.OWN_CFG) 0x3C0131) 3 2,
      bitsOf (writtenWord Reg.OWN_CFG.fields (rd (up 1) A.OWN_CFG) 0x3C0131) 5 4] = [1, 0, 3] ∧
    rangeBad Reg.OWN_CFG.fields 0xFFFFFFFF (writtenWord Reg.OWN_CFG.fields (rd (up 1) A.OWN_CFG) 0x3C0131) = false := by
  unfold reachable
  repeat' apply And.intro
  all_goals decide +kernel
theorem witness_PuntyTimeouts : (let s := fset (fset (up 1) F.OWN_STAT_HANDOVER_PEND 1) F.OWN_STAT_TARGET 3;
      let e := { fset (up 1) F.OWN_STAT_ELECTION 1 with own := { State.reset.own with order := [1, 2, 3], claims := [2] } };
      running s = true ∧ s.svc.meterEnd = none ∧ s.start.supervisorAt = none ∧ (supervised 1).start.supervisorAt.isSome = true ∧
      running (supervised 1) = true ∧ (supervised 1).svc.meterEnd = none ∧ ownerCode s ≠ 0 ∧ handoverPending s = true ∧ handoverPending (up 1) = false ∧
      running e = true ∧ electionOpen e = true ∧ bestClaim e = some 2 ∧
      (let n := fset (up 1) F.OWN_STAT_ELECTION 1; electionOpen n = true ∧ bestClaim n = none ∧ flag n F.OWN_CFG_AUTOSTART = false)) := by decide +kernel
-- The section engine, program loading, Onyx and the map
/-- Page 0 verified, gather 5 stopped with its region valid there. -/
def fit : State := setPage 0 2 (fset (up 1) (F.G_REGION_VALID 5) 1)
theorem witness_GathersStartAndStop : mayCommand fit .host ∧ domainOff fit .eng = false ∧ startRefused fit 5 = false ∧ startRefused fit 6 = true ∧
    startRefused (going Gather.init) 5 = true ∧ (gatherOf (going Gather.init) 5).phase.isRunning = true ∧
    flag (fset fit (F.G_CTRL_AUTOSTART 5) 1) (F.G_CTRL_AUTOSTART 5) = true ∧ staging fit = false ∧ staging (fset fit F.CFG_STAT_STAGING 1) = true := by
  unfold mayCommand reachable; decide +kernel
/-- A load of one word at the last page. -/
def lastPage (opened : Nat) : State :=
  setPage 63 opened (fset (fset (fset (up 1) F.LOAD_BASE_BASE 258048) F.LOAD_LEN_LEN 4096) F.LOAD_STAT_OPEN_ACTIVE opened)
theorem witness_ProgramLoadAndRelease : mayCommand (lastPage 0) .host ∧ domainOff (lastPage 0) .eng = false ∧ openRefused (lastPage 0) = false ∧
    flag (lastPage 0) F.LOAD_STAT_BUSY = false ∧ mayCommand (lastPage 1) .host ∧ windowRefused (lastPage 1) 262143 = false ∧
    windowRefused (lastPage 1) 258047 = true ∧ flag (lastPage 1) F.LOAD_STAT_OPEN_ACTIVE = true ∧
    releaseRefused (setPage 63 2 (up 1)) (pageRange 0 63) = false ∧
    (gatherOf (up 1) (fget (up 1) F.LMEM_SEL_GATHER)).phase = .stopped ∧
    ({ up 1 with eng := { (up 1).eng with verify := some true } } : State).eng.verify = some true := by unfold mayCommand reachable; decide +kernel
theorem witness_GatherRewindAndHoldWindow : (let s := going { Gather.init with row := 1, journal := [.undo 0 [1]] };
      let z := going { Gather.init with row := 2 };
      let w := setGather 5 { Gather.init with phase := .rewind, waiting := .time 7 } (up 1);
      let h := setOut 83 { Out.init with holds := [5] } (fset (setGather 5 { Gather.init with phase := .fault, holdEnd := some 9 } (up 1)) (F.OUT_STAT_ARMED 83) 1);
      let b := setGather 5 { Gather.init with phase := .starting } (up 1);
      running s = true ∧ gRunning s 5 = true ∧ (gatherOf s 5).phase ≠ .starting ∧ (gatherOf s 5).row < 2 ∧ running z = true ∧ gRunning z 5 = true ∧
      (gatherOf z 5).phase ≠ .starting ∧ (gatherOf z 5).row = 2 ∧ running w = true ∧ (gatherOf w 5).phase = .rewind ∧
      (gatherOf h 5).holdEnd = some 9 ∧ (gatherOf h 5).phase.isRunning = false ∧ armed h 83 = true ∧ (outOf h 83).holds.contains 5 = true ∧
      (gatherOf w 5).phase.isRunning = true ∧ gRunning b 5 = true ∧ (gatherOf b 5).row < 2 ∧ (gatherOf w 5).waiting = .time 7) := by decide +kernel
/-- Field 15, of one tile a side, valid or not. -/
def field15 (valid : Nat) : State :=
  fset (fset (fset (up 1) (F.FIELD_SIZE_NE 15) 1) (F.FIELD_SIZE_NN 15) 1) (F.FIELD_CFG_VALID 15) valid
/-- A pose of quality 1 at the origin. -/
def pose1 : Pose := ⟨0, 1, 0, 0, 0, 0, 0, 0, 0, 0, 0, 0, 0, 0, 0, false, none, 0, 0, 0⟩
/-- Whichever run of entries the free value names: one is free. -/
theorem witness_create_allowed : createRefused (field15 0) 15 = false := by
  have h : dirFree (field15 0) 15 0 (dirCount (field15 0) 15) = true := by decide +kernel
  have v : flag (field15 0) (F.FIELD_CFG_VALID 15) = false := by decide +kernel
  have b : flag (field15 0) (F.FIELD_STAT_BUSY 15) = false := by decide +kernel
  unfold createRefused chooseDir
  simp only [v, b, Bool.false_or]
  split
  · rfl
  · simp [h]
theorem witness_FieldRecordCommands : mayCommand (field15 0) .host ∧ domainOff (field15 0) .eng = false ∧ fieldRange (field15 0) 15 = false ∧
    createRefused (field15 0) 15 = false ∧ fieldRange (field15 1) 15 = false ∧ fieldRange (up 1) 15 = true ∧ createRefused (field15 1) 15 = true ∧
    (let h := { field15 0 with marker := { (up 1).marker with poses := [pose1] } }; hereRefused h 15 = false ∧ hereRefused (up 1) 15 = true) ∧
    mayCommand (field15 1) .host ∧ clearRefused (field15 1) 15 false = false ∧ clearRefused (field15 1) 15 true = false ∧
    clearRefused (field15 0) 15 true = true ∧
    (let d := { up 1 with onyx := { (up 1).onyx with cmds := [(15, some (.create, 9))] } }; running d = true ∧ tabGet (fun _ => none) d.onyx.cmds 15 = some (.create, 9)) := by
  have h := witness_create_allowed
  unfold mayCommand reachable
  refine ⟨by decide +kernel, by decide +kernel, by decide +kernel, h, by decide +kernel, by decide +kernel, ?_⟩
  repeat' apply And.intro
  all_goals decide +kernel
/-- Directory entry 0, of field 15, with its tile cached and dirty. -/
def dirty0 (x : CacheTile) : State := { field15 1 with onyx := { (up 1).onyx with cache := [x] } }
/-- Directory entry 0 names the stored block of slot 7. -/
def stored0 : State := { field15 1 with onyx := { (up 1).onyx with dir := [(0, 0x40000007)] } }
theorem witness_TilesAreFetchedAndWrittenBack : running (field15 1) = true ∧ cachedTile (field15 1) 0 = none ∧ (ownerOf (field15 1) 0).isSome = true ∧
    (field15 1).onyx.cache.length < 16384 ∧ isStored (dirEntry (field15 1) 0) = false ∧ isStored (dirEntry stored0 0) = true ∧
    cachedTile stored0 0 = none ∧ (ownerOf stored0 0).isSome = true ∧ running (dirty0 ⟨0, 3, [], some 9⟩) = true ∧
    cachedTile (dirty0 ⟨0, 3, [], some 9⟩) 0 = some ⟨0, 3, [], some 9⟩ ∧ mayCommand (dirty0 ⟨0, 3, [], some 9⟩) .host ∧
    domainOff (dirty0 ⟨0, 3, [], some 9⟩) .eng = false ∧ ((dirty0 ⟨0, 3, [], some 9⟩).onyx.cache.map (·.idx)).Nodup := by
  unfold mayCommand reachable; decide +kernel
theorem witness_MapStagingChangesOneItem : mayCommand (up 1) .host ∧ domainOff (up 1) .eng = false ∧ stagingRefused (up 1) = false ∧
    winOffset (up 1) 1023 < itemLength (candidate (up 1)) (winItem (up 1)) ∧
    stagingRefused (fset (up 1) F.MAP_STAT_ACT_PEND 1) = true ∧
    (let s := fset (up 1) F.MAP_WIN_SEL_ITEM 1;
      let r := { s with maps := { s.maps with active := { MapSet.init with rasDim := 0x00010004 } } };
      stagingRefused r = false ∧ winOffset r 0 < itemLength (candidate r) (winItem r) ∧ winItem r = 1 ∧ 4 * winOffset r 0 < freeCells r) ∧
    rangeBad Reg.RASTER_CFG.fields 0xFFFFFFFF (writtenWord Reg.RASTER_CFG.fields (candidate (up 1)).rasCfg 0x28) = false ∧
    rangeBad Reg.POLY_CFG.fields 0xFFFFFFFF (writtenWord Reg.POLY_CFG.fields (candidate (up 1)).polyCfg 0x00030001) = false := by
  unfold mayCommand reachable; decide +kernel
theorem witness_MapCheckAndActivation : (let b := fset (up 1) F.MAP_STAT_CHECK_BUSY 1;
      let p := fset (up 1) F.MAP_STAT_RESULT 1;
      let a := fset p (F.OUT_STAT_ARMED 83) 1;
      mayCommand b .host ∧ flag b F.MAP_STAT_CHECK_BUSY = true ∧ mayCommand p .host ∧ fget p F.MAP_STAT_RESULT = 1 ∧ flag p F.MAP_STAT_CHECK_BUSY = false ∧
      domainOff p .eng = false ∧ anyArmed p = false ∧ anyArmed a = true ∧ fget a F.MAP_STAT_RESULT = 1 ∧ flag p F.MAP_STAT_ACT_PEND = false ∧
      (let c := { up 1 with maps := { (up 1).maps with checkDue := some 3 } }; running c = true ∧ c.maps.checkDue = some 3) ∧
      (let c := fset { up 1 with maps := { (up 1).maps with pendAt := some 0 } } F.MAP_STAT_ACT_PEND 1;
        running c = true ∧ c.start.engineAt = none ∧ c.start.engineHeld = false ∧ c.maps.pendAt = some 0 ∧ 0 ≤ nextTick c ∧ flag c F.MAP_STAT_ACT_PEND = true) ∧
      (let e := { up 1 with start := { (up 1).start with engineAt := some 9 } }; running e = true ∧ e.start.engineAt.isSome = true)) := by
  unfold mayCommand reachable; decide +kernel
-- Actuation, channels, feeds, learning and arming
/-- Output 5 configured, admitted and commanded ON or OFF, beyond its registers as given. -/
def out5 (on : Nat) (o : Out) : State :=
  setOut 5 o (fset (fset (fset (fset (fset (up 1) (F.CH_RETRY_TRIES 5) 3) (F.CH_RETRY_CAP 5) 50) (F.FEED_CFG_BUDGET 0) 255) (F.OUT_STAT_CMD_ON 5) on) (F.OUT_STAT_ARMED 5) 1)
/-- One event at the head of Q84 for output 5 with action a. -/
def q84 (a : Nat) (x : State) : State :=
  setQueue 84 { Queue.init with slots := [⟨5120001000, false, none, false⟩, ⟨BitVec.ofNat 64 (7 + a * 2 ^ 52 + 5 * 2 ^ 56), true, none, false⟩] } x
/-- Output 5 with one event of an action in its queue. -/
def fires5 (a : Action) (v : Nat) : State := out5 0 { Out.init with evq := [⟨5120001000, a, v, 5120000000, false, false⟩] }
theorem witness_TimedEventsPlaceAndFire : running (q84 1 (up 1)) = true ∧ headEvent (q84 1 (up 1)) = some (5, 5120001000, .on, 7) ∧
    armed (q84 1 (up 1)) 5 = false ∧ headEvent (q84 0 (out5 0 Out.init)) = none ∧
    (let h := q84 7 (out5 1 { Out.init with evq := [⟨5120002000, .on, 0, 0, false, false⟩] });
      headEvent h = some (5, 5120001000, .hold, 7) ∧ armed h 5 = true) ∧
    (let w := q84 1 (out5 0 Out.init); armed w 5 = true ∧ level w 5 + 2 ≤ depth 5) ∧
    (let f := q84 1 (out5 0 { Out.init with evq := List.replicate 128 ⟨5120002000, .on, 0, 0, false, false⟩ });
      headEvent f = some (5, 5120001000, .on, 7) ∧ armed f 5 = true ∧ depth 5 < level f 5 + 2) ∧
    running (fires5 .on 0) = true ∧ flag (fires5 .on 0) (F.OUT_STAT_CMD_ON 5) = false ∧ isBridge (fires5 .on 0) 5 = false ∧ mayTurnOn (fires5 .on 0) 5 5120001000 ∧
    onFallback (fires5 .pulse 9) 5 = false ∧ delaySum (fires5 .pulse 9) 5 < 9 ∧ running (out5 1 { Out.init with pulseEnd := some 9 }) = true := by
  unfold mayTurnOn
  repeat' apply And.intro
  all_goals decide +kernel
/-- A late target and one out of order; events of one ACT cycle; a HOLD's room; a pulse that has begun. -/
theorem witness_TimedEvents_together : (let e (a : Action) (t : Nat) : ActEvent := ⟨t, a, 7, 5120000000, false, false⟩;
      let o := { Out.init with evq := [e .duty 5120001001, e .on 5120001002, e .off 5120009000] };
      (firingsIn o ((fireTime o (e .duty 5120001001)).1 / 64) o.evq).map (·.ev.action) = [.duty, .on] ∧
      (let s := out5 0 o; running s = true ∧ (outOf s 5).evq.length = 3)) ∧
    ((5120000000 : Nat) / 64 + 2) * 64 = 5120000128 ∧
    (let w := q84 1 (out5 0 Out.init); freeRoom w 5 = 64 ∧ fget w (F.JAS_QBP_DUTY 5) = 0) ∧
    (let f := q84 1 (out5 0 { Out.init with evq := List.replicate 128 ⟨5120002000, .on, 0, 0, false, false⟩ }); freeRoom f 5 < 2) ∧
    onFallback (fires5 .pulse 9) 5 = false ∧ wantsFallback (fires5 .pulse 9) 5 = false := by
  repeat' apply And.intro
  all_goals decide +kernel
theorem witness_ChannelsTripPauseAndReturn : (let c := fset (out5 1 Out.init) (F.OUT_STAT_ACTUAL_ON 5) 1;
      running c = true ∧ isBridge c 5 = false ∧ flag c (F.OUT_STAT_ACTUAL_ON 5) = true ∧ 1 < fget c (F.CH_RETRY_TRIES 5) ∧
      fget (fset c (F.CH_STAT_TRY 5) 2) (F.CH_RETRY_TRIES 5) ≤ min 15 (2 + 1)) ∧
    (let o := { Out.init with pauseEnd := some 9, onSince := some 3, inrushEnd := some 5120000001, gapEnd := some 9, thermal := some .hot, hotPulse := true };
      let h := out5 1 o; running h = true ∧ (outOf h 5).pauseEnd = some 9 ∧ (outOf h 5).gapEnd = some 9 ∧ (outOf h 5).thermal ≠ none ∧
      (outOf h 5).thermal ≠ some .steadyLatched ∧ (outOf h 5).hotPulse = true) ∧
    flag (out5 1 Out.init) (F.CH_CFG_THERM_CLASS 5) = false ∧
    (let d := out5 1 { Out.init with deferral := some ⟨0, true⟩ }; (outOf d 5).deferral.isSome = true ∧ flag d (F.OUT_STAT_ACTUAL_ON 5) = false ∧ mayTurnOn d 5 d.mtime) ∧
    mayTurnOn (out5 1 Out.init) 5 5120000000 ∧ mayCommand (out5 1 { Out.init with latched := true }) .host := by
  unfold mayTurnOn mayCommand reachable
  repeat' apply And.intro
  all_goals decide +kernel
/-- A latched channel, tripped in this ACT cycle or long before; a steady class that a temperature of its own turns off. -/
theorem witness_Channels_unlatch : (let u := out5 1 { Out.init with latched := true, tripAt := some 5120000001 };
      mayCommand u .host ∧ (outOf u 5).latched = true ∧ sameCycle u.mtime (outOf u 5).tripAt = true) ∧
    (let u := out5 1 { Out.init with latched := true, tripAt := some 9 };
      mayCommand u .host ∧ sameCycle u.mtime (outOf u 5).tripAt = false ∧ mayTurnOn (setOut 5 { outOf u 5 with latched := false } u) 5 u.mtime ∧
      flag u (F.OUT_STAT_CMD_ON 5) = true ∧ (outOf u 5).thermal = none) ∧
    (let d := out5 1 { Out.init with deferral := some ⟨0, true⟩ }; flag d (F.OUT_STAT_CMD_ON 5) = true ∧ flag d (F.OUT_STAT_ACTUAL_ON 5) = false) := by
  unfold mayTurnOn mayCommand reachable
  repeat' apply And.intro
  all_goals decide +kernel
theorem witness_FeedsHoldAndReleaseChannels : (let s := fset (up 1) (F.FEED_STAT_UV 0) 1;
      running s = true ∧ flag s (F.FEED_STAT_UV 0) = true ∧ flag (up 1) (F.FEED_STAT_UV 0) = false) ∧
    (let w := setFeed 0 { Feed.init with stagger := [5], freezeEnd := some 9 } (out5 1 { Out.init with feedHeld := true });
      (feedOf w 0).stagger = [5] ∧ mayTurnOn (setOut 5 { outOf w 5 with feedHeld := false } w) 5 5120000000 ∧ (feedOf w 0).freezeEnd = some 9) ∧
    (up 1).sup.groundLost = false ∧ ({ up 1 with sup := { (up 1).sup with groundLost := true } } : State).sup.groundLost = true ∧
    (let c := fset (out5 1 { Out.init with car := { Carrier.init with fallAt := some 9, started := true } }) (F.PWM_STAT_CARRIER 5) 1;
      flag c (F.PWM_STAT_CARRIER 5) = true ∧ pulseHot c 5 = false ∧ (outOf c 5).car.started = true ∧ (outOf c 5).car.fallAt = some 9) ∧
    2 ≤ fget (fset (up 1) (F.PWM_CAL_RUN 83) 2) (F.PWM_CAL_RUN 83) := by
  unfold mayTurnOn
  repeat' apply And.intro
  all_goals decide +kernel
/-- A carrier that waits for a cooler channel, one that has not started; calibration measurements that pass and fail. -/
theorem witness_Feeds_carriers : (let h := fset (fset (out5 1 { Out.init with hotPulse := true, car := { Carrier.init with reload := 5120000064 } }) (F.PWM_STAT_CARRIER 5) 1) (F.CH_CFG_THERM_CLASS 5) 1;
      pulseHot h 5 = true ∧ (outOf h 5).car.high = false ∧ (outOf h 5).car.started = false ∧ flag h (F.PWM_STAT_CARRIER 5) = true) ∧
    calibrationFails ⟨[], []⟩ [] = true ∧ flag (fset (up 1) (F.FEED_STAT_FROZEN 0) 1) (F.FEED_STAT_FROZEN 0) = true := by
  repeat' apply And.intro
  all_goals decide +kernel
/-- Logic pair 83 and descriptor 427 configured so that each may be armed. -/
def armable : State :=
  let s := fset (fset (fset (fset (up 1) (F.CH_CFG_CLASS 83) 1) (F.OUT_PERMIT_GATHERS 83 0) 1) (F.REM_DESC_VALID 427) 1) (F.REM_GATHER_VALID 427) 1
  { s with maps := { s.maps with active := { MapSet.init with model := [(399, 0x80000000), (2111, 0x80000000)] } } }
theorem witness_OutputAndQueueCommands : mayCommand armable .host ∧ armRefused armable 83 = false ∧ armRefused (up 1) 83 = true ∧
    remArmRefused armable 427 = false ∧ remArmRefused (up 1) 427 = true ∧ remArmed (fset armable (F.REM_CTRL_ARMED 427) 1) 427 = true ∧
    remArmed armable 427 = false ∧ domainOff armable .eng = false ∧ domainOff armable .gns = false ∧ flushRefusal armable 5 = none ∧
    flushRefusal (out5 0 Out.init) 5 = some .armed ∧ flushRefusal (out5 0 Out.init) 84 = some .state ∧ staging armable = false ∧ anyArmed armable = false ∧
    rangeBad Reg.TICK_CFG.fields 0xFFFFFFFF (writtenWord Reg.TICK_CFG.fields (rd armable A.TICK_CFG) 20) = false ∧
    rangeBad Reg.CAP_SEL.fields 0xFFFFFFFF (writtenWord Reg.CAP_SEL.fields (rd armable A.CAP_SEL) 75) = false ∧
    rangeBad Reg.OUT_LEARN.fields 0xFFFFFFFF (writtenWord Reg.OUT_LEARN.fields (rd armable (A.OUT_LEARN 5)) (rd armable (A.OUT_LEARN 5))) = false ∧
    anyArmed (out5 0 Out.init) = true ∧ timeState armable = 0 ∧ timeState (fset (up 1) F.TIME_STAT_STATE 3) = 3 ∧ timeState (fset (up 1) F.TIME_STAT_STATE 2) = 2 := by
  unfold mayCommand reachable
  repeat' apply And.intro
  all_goals decide +kernel
/-- A coil current that rises, dips at 3 ms and goes on rising, one sample every 50 µs. -/
def dip : List Nat := (List.range 60).map (20 * ·) ++ (List.range 20).map (fun k => 1200 - 20 * k) ++ (List.range 4920).map (fun k => 800 + k / 8)
theorem witness_LearningStoresAndHeldItems : (let c := out5 1 { Out.init with cap := some ⟨5120000000, true, false⟩ };
      running c = true ∧ (outOf c 5).cap = some ⟨5120000000, true, false⟩ ∧ (arrival dip true 1 0).isSome = true ∧ arrival [] true 1 0 = none) ∧
    (let h := setQueue 97 { Queue.init with held := some [1, 2] } (up 1); (queueOf h 97).held = some [1, 2]) ∧
    (let r := setRem 427 { Remote.init with staleAt := some 9 } (up 1); (remOf r 427).staleAt = some 9) ∧ domainOff (up 1) .eng = false := by
  decide +kernel
/-- A capture that is measured, one with no dip, none; the marker while the engine is in reset. -/
theorem witness_Learning_captures : (let c := out5 1 { Out.init with cap := some ⟨5120000000, true, true⟩ };
      (outOf c 5).cap.all (·.measured) = true) ∧ (outOf (up 1) 5).cap = none ∧ (queueOf (up 1) 97).held = none ∧ (remOf (up 1) 427).staleAt = none ∧
    (up 1).start.engineAt = none ∧ (up 1).start.engineHeld = false ∧
    (let e := { up 1 with start := { (up 1).start with engineAt := some 9 } }; running e = true ∧ e.start.engineAt.isSome = true) ∧
    (let r := setQueue 97 { Queue.init with held := some [1, 2] } (up 1); fitsIn r 97 2 = true) := by
  repeat' apply And.intro
  all_goals decide +kernel
-- Supplies, start-up, recorder, configuration
/-- The supplies changed. -/
def power (f : Supply → Supply) (s : State) : State := { s with sup := f s.sup }
theorem witness_SupplyMonitorsSetTheirFlags : running (up 1) = true ∧ (up 1).sup.power = .normal ∧ bench (up 1) = false ∧
    folded (power (fun x => { x with foldA := some 9, foldB := some 9 }) (up 1)) 1 = some 9 ∧
    ({ up 1 with fb := { (up 1).fb with snsOffEnd := some 9 } } : State).fb.snsOffEnd = some 9 ∧ folded (up 1) 1 = none ∧ (up 1).fb.snsOffEnd = none ∧
    flag (up 1) (bandFlag true) = false ∧ flag (fset (up 1) (bandFlag true) 1) (bandFlag true) = true ∧
    (let b := power (fun x => { x with power := .bench }) (up 1); running b = true ∧ bench b = true ∧ b.sup.power ≠ .normal) := by decide +kernel
/-- Standby with BATT_KEEP, entered with ECU_PWR present or not, WAKE_IN enabled. -/
def asleep (ecu : Bool) : State :=
  fset (fset (fset (fset (power (fun x => { x with power := .off, inStandby := true, standbyEcu := ecu }) State.reset) F.STBY_CFG_WAKE_IN_EN 1) F.STBY_CFG_VBUS_WAKE 1)
    F.STBY_CFG_BUS_WAKE 0x20) F.STBY_CFG_SNAP_INT 1
theorem witness_PowerComesGoesAndWakes : (let off := power (fun x => { x with power := .off }) State.reset;
      off.sup.power = .off ∧ off.sup.inStandby = false ∧
      (let x := fset (power (fun x => { x with inStandby := true }) off) F.STBY_CFG_WAKE_IN_EN 0; wakeAdmitted x .wakeIn = none ∧ x.sup.inStandby = true)) ∧
    wakeAdmitted (asleep true) .wakeIn = some (2, 0) ∧ wakeAdmitted (asleep false) .ecu = some (1, 0) ∧ wakeAdmitted (asleep false) .vbus = some (4, 0) ∧
    wakeAdmitted (asleep false) (.bus 5 .pattern) = some (3, 5) ∧ (asleep true).sup.standbyEcu = true ∧ (asleep false).sup.inStandby = true ∧
    fget (asleep false) F.STBY_CFG_SNAP_INT ≠ 0 ∧ phase (up 1) ≠ 0 ∧ (up 1).sup.power = .normal ∧ mayCommand (up 1) .host ∧
    standbyRefused (up 1) = false ∧ anyArmed (up 1) = false ∧ standbyRefused (out5 0 Out.init) = true ∧ anyArmed (out5 0 Out.init) = true ∧
    mayCommand (out5 0 Out.init) .host ∧ bench (power (fun x => { x with power := .bench }) (up 1)) = true ∧ bench (up 1) = false ∧ (up 1).sup.power ≠ .off ∧
    State.reset.sup.power = .normal ∧ phase State.reset = 0 ∧ State.reset.start.warmAt = none ∧ (asleep true).sup.power = .off ∧
    wakeAdmitted (asleep true) (.bus 4 .pattern) = none ∧ wakeAdmitted (asleep false) .wakeIn = some (2, 0) := by
  unfold mayCommand reachable
  repeat' apply And.intro
  all_goals decide +kernel
theorem witness_regsWf : State.reset.regsWf ∧ (up 1).regsWf := ⟨trivial, wr_wf _ _ _ (wr_wf _ _ _ trivial)⟩
/-- A start-up self-test with nothing failed. -/
def passed : SelfTest := ⟨false, false, false, [], false, 0, [], [], []⟩
/-- Start-up changed. -/
def starts (f : Startup → Startup) (s : State) : State := { s with start := f s.start }
theorem witness_StartUpPhasesAndResets : powered State.reset = true ∧ phase State.reset = 0 ∧ State.reset.start.warmAt = none ∧
    (let p := fset State.reset F.STARTUP_STAT_PHASE 1; powered p = true ∧ phase p = 1 ∧ passed.supervisor = false ∧ passed.outputStage = false ∧
      passed.nvStore = false) ∧ phase (fset State.reset F.STARTUP_STAT_PHASE 2) = 2 ∧ running (up 1) = true ∧ bench (up 1) = false ∧ (up 1).start.gnsUp = false ∧
    mayCommand (up 1) .host ∧ (up 1).start.engineAt = none ∧ (up 1).start.warmAt = none ∧ (up 1).start.engineHeld = false ∧ (up 1).svc.meterEnd = none ∧
    (let e := starts (fun x => { x with engineAt := some 9, restart := [5] }) (up 1);
      running e = true ∧ e.start.engineAt = some 9 ∧ e.acc.queued = [] ∧ (∀ g ∈ e.start.restart, g < 128)) ∧
    (let e := starts (fun x => { x with warmAt := some 9, restart := [127] }) (up 1); running e = true ∧ e.start.warmAt = some 9 ∧ (∀ g ∈ e.start.restart, g < 128)) ∧
    (let h := { out5 0 Out.init with rcv := { (up 1).rcv with holdEnd := some 9 } }; running h = true ∧ h.rcv.holdEnd = some 9) ∧
    (let v := starts (fun x => { x with supervisorAt := some 9 }) (up 1); running v = true ∧ v.start.supervisorAt = some 9) := by
  unfold mayCommand reachable
  repeat' apply And.intro
  all_goals decide +kernel
/-- A self-test that fails; nothing pending; an ENGINE that waits behind a running one; a memory error that stands. -/
theorem witness_StartUp_repeats : ({ passed with supervisor := true } : SelfTest).supervisor = true ∧ fget (fset State.reset F.STARTUP_STAT_PHASE 1) F.STARTUP_STAT_KIND ≠ 2 ∧
    (up 1).rcv.holdEnd = none ∧ (up 1).start.supervisorAt = none ∧ (starts (fun x => { x with gnsUp := true }) (up 1)).start.gnsUp = true ∧
    (let e := starts (fun x => { x with engineAt := some 9 }) { up 1 with acc := { (up 1).acc with queued := [F.RESET_CTRL_ENGINE] } };
      running e = true ∧ mayCommand e .host ∧ e.start.engineAt = some 9 ∧ F.RESET_CTRL_ENGINE ∈ e.acc.queued ∧ e.start.warmAt = none ∧ e.start.engineHeld = false) ∧
    F.RESET_CTRL_ENGINE ∉ (up 1).acc.queued ∧
    (let f := starts (fun x => { x with factoryPending := true }) (fset (fset State.reset F.STARTUP_STAT_PHASE 2) F.STARTUP_STAT_KIND 2);
      powered f = true ∧ phase f = 2 ∧ fget f F.STARTUP_STAT_KIND = 2 ∧ f.start.factoryPending = true) := by
  unfold mayCommand reachable
  repeat' apply And.intro
  all_goals decide +kernel
/-- An event of severity 5. -/
def event5 : Event := ⟨5, 14, 0, .accessRefused, [], none, []⟩
/-- The recorder changed. -/
def agate (f : Recorder → Recorder) (s : State) : State := { s with agate := f s.agate }
theorem witness_RecorderTickAndFleet : running (up 1) = true ∧ nextEvent (up 1) (up 1).agate.waiting = none ∧
    (let e := agate (fun a => { a with waiting := [event5] }) (up 1); nextEvent e e.agate.waiting = some event5) ∧
    (let w := agate (fun a => { a with q103 := [⟨event5, 0, 0, 0, 0⟩], ready := true }) (up 1); w.agate.q103 = [⟨event5, 0, 0, 0, 0⟩] ∧ w.agate.ready = true ∧
      w.agate.store.length < 65536) ∧
    mayCommand (up 1) .host ∧ anyArmed (up 1) = false ∧ anyArmed (out5 0 Out.init) = true ∧ mayCommand (out5 0 Out.init) .host ∧
    flag (up 1) F.CFG_STAT_ACT_PEND = false ∧ (up 1).maps.pendAt = none ∧
    (let t := { up 1 with eng := { (up 1).eng with tickDue := some (9, snapZero) } }; t.eng.tickDue = some (9, snapZero)) ∧
    flag (fset (up 1) (F.FLEET_PEER_EN 15) 1) (F.FLEET_PEER_EN 15) = true ∧ flag (up 1) (F.FLEET_PEER_EN 15) = false := by
  unfold mayCommand reachable
  repeat' apply And.intro
  all_goals decide +kernel
/-- Nothing waits; a full Q103; a write while none is ready. -/
theorem witness_Recorder_idle : (up 1).agate.waiting = [] ∧ (up 1).agate.q103 = [] ∧ (up 1).eng.tickDue = none ∧
    (let f := agate (fun a => { a with waiting := [event5], q103 := List.replicate 256 ⟨event5, 0, 0, 0, 0⟩ }) (up 1);
      running f = true ∧ f.agate.waiting ≠ [] ∧ nextEvent f f.agate.waiting = none) := by
  repeat' apply And.intro
  all_goals decide +kernel
/-- Staging open, with an activation pending or not, a check's result and a running check. -/
def opened (pend result busy : Nat) : State :=
  fset (fset (fset (fset (up 1) F.CFG_STAT_STAGING 1) F.CFG_STAT_ACT_PEND pend) F.CFG_STAT_RESULT result) F.CFG_STAT_CHECK_BUSY busy
theorem witness_ConfigurationIsStagedCheckedAndActivated : mayCommand (up 1) .host ∧ staging (up 1) = false ∧ staging (opened 0 0 0) = true ∧
    mayCommand (opened 0 1 0) .host ∧ fget (opened 0 1 0) F.CFG_STAT_RESULT = 1 ∧ flag (opened 0 1 0) F.CFG_STAT_CHECK_BUSY = false ∧
    flag (opened 0 1 0) F.CFG_STAT_ACT_PEND = false ∧ anyArmed (opened 0 1 0) = false ∧ flag (opened 0 0 1) F.CFG_STAT_CHECK_BUSY = true ∧
    flag (opened 1 1 0) F.CFG_STAT_ACT_PEND = true ∧ timeState (fset (opened 0 1 0) F.TIME_STAT_STATE 1) = 1 ∧ timeState (opened 0 1 0) = 0 ∧
    (let c := { opened 0 0 1 with stage := { (up 1).stage with checkDone := some 9 } }; running c = true ∧ c.stage.checkDone = some 9) ∧
    (let a := { opened 1 1 0 with stage := { (up 1).stage with staged := [(A.TICK_CFG, 20)], actNow := true } };
      running a = true ∧ cfgActDue (nextTick a) a = true ∧ a.stage.staged = [(A.TICK_CFG, 20)]) ∧ cfgActDue (nextTick (up 1)) (up 1) = false ∧
    (up 1).stage.checkDone = none ∧ mayCommand (opened 0 0 1) .host ∧ flag (opened 0 0 1) F.CFG_STAT_ACT_PEND = false ∧
    F.CFG_CTRL_CHECK ∉ (opened 0 0 1).acc.queued := by
  unfold mayCommand reachable
  repeat' apply And.intro
  all_goals decide +kernel
/-- A register that is all image, for a staged write: TICK_CFG with 20 ms. -/
theorem witness_staged_write : (let s := opened 0 0 0; let p : Place := (locate A.TICK_CFG).get (by decide +kernel);
      let fs := p.hit.fam.fields; let c := writeCtx (ruleOf p.hit.fam.base) .host p 20 (beginTx .host s);
      locate A.TICK_CFG = some p ∧ p.bit = none ∧ loadMask true fs &&& ~~~BitVec.ofNat 32 (imageMask p.hit.fam) = 0 ∧ loadMask true fs ≠ 0 ∧
      typeMask .w1s fs = 0 ∧ typeMask .w1c fs = 0 ∧ hasKrw fs = false ∧ allReadOnly fs = false ∧ domainOff s (domainOf p.hit) = false ∧
      (ruleOf p.hit.fam.base).stores = true ∧ p.hit.fam.base ≠ A.KEY_UNLOCK ∧ rangeBad fs 0xFFFFFFFF c.new = false ∧
      (ruleOf p.hit.fam.base).value c (beginTx .host s) = false ∧ (ruleOf p.hit.fam.base).once c (beginTx .host s) = false) := by decide +kernel
-- Receiver, pose, time and feedback
/-- A frame of RTCM 3 with no message and a correct CRC-24Q. -/
def emptyFrame : List Byte := let b : List Byte := [0xD3, 0, 0]; let c := crc24q b; b ++ [BitVec.ofNat 8 (c / 65536), BitVec.ofNat 8 (c / 256), BitVec.ofNat 8 c]
/-- The navigation state changed. -/
def nav (f : Nav → Nav) (s : State) : State := { s with nav := f s.nav }
theorem witness_ReceiverChannelsAndCorrections : running (up 1) = true ∧ gnsUp (up 1) = false ∧ gnsUp (starts (fun x => { x with gnsUp := true }) (up 1)) = true ∧
    (BitVec.ofNat 32 (fget (fset (up 1) F.GNSS_STAT_CHAIN_FAIL 8) F.GNSS_STAT_CHAIN_FAIL)).getLsbD 3 = true ∧
    (BitVec.ofNat 32 (fget (up 1) F.GNSS_STAT_CHAIN_FAIL)).getLsbD 3 = false ∧ mayCommand (up 1) .host ∧ domainOff (up 1) .gns = false ∧
    (rd (fset (up 1) (F.TRK_CFG_MANUAL 199) 1) (A.TRK_CFG 199)).getLsbD 31 = true ∧ (rd (up 1) (A.TRK_CFG 199)).getLsbD 31 = false ∧
    (writtenWord Reg.TRK_CFG.fields (rd (up 1) (A.TRK_CFG 199)) 0x80000001).getLsbD 31 = true ∧
    isL5 (bitsOf (0x80000001 : Word) 19 16) = decide (bitsOf (0x80000001 : Word) 25 24 % 2 = 1) ∧
    goodFrame emptyFrame = true ∧ goodFrame [0xD3, 0, 0, 0, 0, 0] = false ∧
    (let c := fset (fset (up 1) F.CORR_CFG_EN 1) F.CORR_CFG_SOURCE 6; flag c F.CORR_CFG_EN = true ∧ fget c F.CORR_CFG_SOURCE = 6 ∧ c.nav.base = none ∧
      c.nav.setOpen = none ∧ timeState c = 0) ∧
    (let f := nav (fun x => { x with corrBuf := List.replicate 4096 0 }) (fset (up 1) F.CORR_CFG_SOURCE 7); fget f F.CORR_CFG_SOURCE = 7 ∧ 4096 ≤ f.nav.corrBuf.length) := by
  unfold mayCommand reachable
  repeat' apply And.intro
  all_goals decide +kernel
/-- A manual channel of the L5 band that is given work, one that has none; no measurement yet. -/
theorem witness_Receiver_manual : (let s := fset (fset (up 1) (F.TRK_CFG_MANUAL 199) 1) (F.TRK_CFG_SIGNAL 199) 2;
      let w : Word := 0xC1020001;
      let n := writtenWord Reg.TRK_CFG.fields (rd s (A.TRK_CFG 199)) w;
      rd s (A.TRK_CFG 199) ≠ n ∧ bitsOf (rd s (A.TRK_CFG 199)) (F.TRK_CFG_MANUAL 199).hi (F.TRK_CFG_MANUAL 199).lo = 1 ∧
      bitsOf n (F.TRK_CFG_MANUAL 199).hi (F.TRK_CFG_MANUAL 199).lo = 1 ∧ bitsOf n (F.TRK_CFG_EN 199).hi (F.TRK_CFG_EN 199).lo = 1 ∧
      bitsOf (rd s (A.TRK_CFG 199)) (F.TRK_CFG_EN 199).hi (F.TRK_CFG_EN 199).lo = 0 ∧
      isL5 (bitsOf w 19 16) = decide (bitsOf w 25 24 % 2 = 1) ∧ bitsOf w 19 16 ≤ 10 ∧ 1 ≤ bitsOf w 4 0) ∧
    isL5 0 = false ∧ (up 1).nav.meas = none := by
  repeat' apply And.intro
  all_goals decide +kernel
/-- A frame of RTCM 3 around a payload. -/
def rtcmOf (p : List Byte) : List Byte :=
  let b : List Byte := [0xD3, BitVec.ofNat 8 (p.length / 256), BitVec.ofNat 8 p.length] ++ p
  let c := crc24q b
  b ++ [BitVec.ofNat 8 (c / 65536), BitVec.ofNat 8 (c / 256), BitVec.ofNat 8 c]
/-- A message 1005 of station 7. -/
def base7 : List Byte := [0x3E, 0xD0, 0x07] ++ List.replicate 16 0
/-- A message 1077 with no more in it than its header. -/
def msm77 : List Byte := [0x43, 0x50, 0x07] ++ List.replicate 19 0
theorem witness_Receiver_frames : (baseOf base7).map (·.station) = some 7 ∧ goodFrame (rtcmOf base7) = true ∧
    msmSystem (rtcmField msm77 0 12) = some 0 ∧ baseOf msm77 = none ∧ 22 ≤ msm77.length ∧ goodFrame (rtcmOf msm77) = true ∧
    ((rtcmOf base7).take ((rtcmOf base7).length - 3)).drop 3 = base7 ∧ baseOf [] = none ∧
    (let c := fset (fset (up 1) F.CORR_CFG_EN 1) F.CORR_CFG_SOURCE 6; flag c F.CORR_CFG_EN = true ∧ fget c F.CORR_CFG_SOURCE = 6 ∧ c.nav.corrBuf = []) ∧
    (let c := nav (fun x => { x with corrBuf := rtcmOf base7 }) (fset (fset (up 1) F.CORR_CFG_EN 1) F.CORR_CFG_SOURCE 5);
      flag c F.CORR_CFG_EN = true ∧ fget c F.CORR_CFG_SOURCE = 5 ∧ c.nav.corrBuf = rtcmOf base7) ∧
    (let b : List Byte := [0xD3, 0, 0, 1, 2, 3]; goodFrame b = false ∧ b.length = rtcmLength b + 6 ∧ b.head? = some 0xD3 ∧ 0xD3 ∉ b.tail) ∧
    (let b : List Byte := [0xD3, 3, 255, 7]; b.head? = some 0xD3 ∧ (b.getD 1 0).toNat < 4 ∧ b.length < rtcmLength b + 6) ∧
    fget (up 1) F.CORR_CFG_SOURCE ≠ 6 ∧ flag (up 1) F.CORR_CFG_EN = false ∧ corrOld (up 1) none = true ∧
    (let o := nav (fun x => { x with setNewest := some 5 }) (fset (up 1) F.CORR_CFG_AGE 1); corrOld o (some 6) = false) := by
  repeat' apply And.intro
  all_goals decide +kernel
theorem witness_PosesAreRecordedAndSnapshotsTaken : running (up 1) = true ∧ (up 1).nav.goodRec.length = 16 ∧ (queueOf (up 1) 97).held = none ∧
    fget (up 1) (F.JAS_QBP_DUTY 97) = 0 ∧ 8 ≤ freeRoom (up 1) 97 ∧ mayCommand (up 1) .host ∧ fget (fset (up 1) F.SNAP_CFG_CHAINS 0) F.SNAP_CFG_CHAINS = 0 ∧
    (let c := fset (up 1) F.SNAP_CFG_CHAINS 15; bench c = false ∧ flag c F.SNAP_STAT_CAP_BUSY = false ∧ flag c F.SNAP_STAT_SOLVE_BUSY = false ∧ fget c F.SNAP_CFG_CHAINS ≠ 0) ∧
    (nav (fun x => { x with cap := some ⟨0, 15, 8⟩ }) (up 1)).nav.cap = some ⟨0, 15, 8⟩ ∧ flag (up 1) F.SNAP_STAT_VALID = false ∧
    flag (fset (up 1) F.SNAP_STAT_VALID 1) F.SNAP_STAT_VALID = true ∧ flag (fset (up 1) F.SNAP_STAT_SOLVE_BUSY 1) F.SNAP_STAT_SOLVE_BUSY = true := by
  unfold mayCommand reachable
  repeat' apply And.intro
  all_goals decide +kernel
/-- Nothing runs; a SOLVE that waits behind a running one; what the store knows. -/
theorem witness_Snapshots_queue : (up 1).nav.cap = none ∧ (up 1).svc.op ≠ .capture ∧ (up 1).svc.op ≠ .solve ∧ flag (up 1) F.SNAP_STAT_SOLVE_BUSY = false ∧
    (let w := fset (fset { up 1 with acc := { (up 1).acc with queued := [F.SNAP_CTRL_SOLVE] } } F.SNAP_STAT_VALID 1) F.SNAP_STAT_SOLVE_BUSY 1;
      mayCommand w .host ∧ flag w F.SNAP_STAT_VALID = true ∧ flag w F.SNAP_STAT_SOLVE_BUSY = true ∧ F.SNAP_CTRL_SOLVE ∈ w.acc.queued) ∧
    (up 1).nav.ephemeris = false ∧ (nav (fun x => { x with storedAlmanac := true }) (up 1)).nav.storedAlmanac = true ∧
    beNat [snapByte (up 1) 19, snapByte (up 1) 18, snapByte (up 1) 17, snapByte (up 1) 16] ≤ 2000000 ∧
    (let u := nav (fun x => { x with snapBuf := [(19, 255)] }) (up 1);
      2000000 < beNat [snapByte u 19, snapByte u 18, snapByte u 17, snapByte u 16]) := by
  unfold mayCommand reachable
  repeat' apply And.intro
  all_goals decide +kernel
/-- The time unit changed, in a state of TIME_STAT. -/
def clock (st : Nat) (f : Clock → Clock) : State := let s := fset (fset (up 1) F.TIME_STAT_STATE st) F.PPS_CFG_EN 1; { s with clock := f s.clock }
theorem witness_TimeUnitEventsAct : (let r := clock 1 id; running r = true ∧ flag r F.PPS_CFG_EN = true ∧ timeState r ≠ 0 ∧ r.clock.pulse = none) ∧
    (let e := clock 1 (fun c => { c with pulse := some ⟨6400, 0, 1, 1⟩, step := some (.correct 99), lastSol := some 9 });
      e.clock.pulse = some ⟨6400, 0, 1, 1⟩ ∧ e.clock.step = some (.correct 99) ∧ e.clock.lastSol = some 9 ∧ timeState e = 1) ∧
    (clock 3 (fun c => { c with pulse := some ⟨6400, 0, 1, 3⟩, step := some (.set 7) })).clock.step = some (.set 7) ∧
    (let p := setPort 5 { Port.init with time := ⟨false, none, some (9, [])⟩ } (up 1); (portOf p 5).time.msg = some (9, [])) ∧
    flag (fset (clock 3 id) F.TIME_STAT_SLEW 1) F.TIME_STAT_SLEW = true ∧ timeState (clock 2 id) = 2 ∧
    (let m := fset (up 1) F.TM_CFG_EN 1; flag m F.TM_CFG_EN = true ∧ fget m (F.PORT_STAT_STATE (fget m F.TM_CFG_PORT)) = 0) := by decide +kernel
/-- Nothing to do; a reference port in trouble, before and after the suspension is noted; a holdover whose limit is passed. -/
theorem witness_Time_suspends : flag (up 1) F.TM_CFG_EN = false ∧ (portOf (up 1) 5).time.msg = none ∧ flag (up 1) F.TIME_STAT_SLEW = false ∧
    (up 1).clock.lastSol = none ∧ (up 1).clock.pulse = none ∧ (clock 1 id).clock.step = none ∧
    (let q := fset (fset (fset (up 1) F.TM_CFG_EN 1) F.TM_CFG_PORT 5) (F.PORT_STAT_STATE 5) 3;
      flag q F.TM_CFG_EN = true ∧ fget q (F.PORT_STAT_STATE (fget q F.TM_CFG_PORT)) = 3 ∧ flag q F.TM_STAT_SUSPENDED = false ∧
      flag (fset q F.TM_STAT_SUSPENDED 1) F.TM_STAT_SUSPENDED = true) := by
  repeat' apply And.intro
  all_goals decide +kernel
/-- Holdover whose uncertainty is above the limit of 1 µs. -/
def overdue : State := fset (clock 2 (fun c => { c with unc := some 1000001, lastSol := some 5120000000 })) F.TIME_HOLD_LIMIT 1
theorem witness_Time_limit : timeState overdue = 2 ∧ (uncertainty (atTime 0 overdue)).any (fun u => decide (1000 * fget overdue F.TIME_HOLD_LIMIT < u)) = true := by
  have a : flag (atTime 0 overdue) F.TIME_STAT_SLEW = false := by decide +kernel
  have b : (atTime 0 overdue).clock.unc = some 1000001 := by decide +kernel
  have c : fget overdue F.TIME_HOLD_LIMIT = 1 := by decide +kernel
  refine ⟨by decide +kernel, ?_⟩
  unfold uncertainty
  rw [a, b, c]
  simp only [Bool.false_eq_true, if_false]
  split
  · simp
  · simp; omega
/-- Input 0 in a mode, its raw line high and its line low. -/
def edge0 (mode : Nat) : State :=
  setFb 1 { FbIn.init with raw := true, rawAt := 5120000000 } (setFb 0 { FbIn.init with raw := true, rawAt := 5120000000 } (fset (up 1) (F.FB_CFG_MODE 0) mode))
theorem witness_FeedbackInputsCountCompareAndReport : (let s := edge0 2; running s = true ∧ flag s (F.FB_STAT_LINE 0) ≠ (fbOf s 0).raw ∧ (fbOf s 0).change = none ∧
      (fbOf s 0).viol = false ∧ (fbOf s 0).counted = none ∧ flag s (F.FB_STAT_RANGE 0) = false ∧ flag s (F.FB_STAT_FAULTY 0) = false ∧ fbMode s 0 = 2 ∧
      fbOwner s 0 = 0 ∧ flag s (F.FB_STAT_LINE 1) ≠ (fbOf s 1).raw) ∧
    (let s := fset (fset (edge0 1) (F.FB_CMPCTRL_EN 0) 8) (F.FB_CMPVAL_VALUE 0 3) 1; fbMode s 0 = 1 ∧ fget s (F.FB_CMPCTRL_EN 0) = 2 ^ 3 ∧
      rd s (A.FB_CMPVAL 0 3) = rd s (A.FB_COUNT 0) + BitVec.ofInt 32 1 ∧ rd s (A.FB_CMPSTEP 0 3) = 0) ∧
    fbMode (edge0 2) 1 = 6 ∧ flag (up 1) (F.FB_STAT_LINE 23) = (fbOf (up 1) 23).raw ∧
    (let s := fset (fset (setFb 23 { FbIn.init with lastCount := some 9, moved := true, ssiGood := some 9 } (up 1)) (F.FB_CFG_MODE 23) 1) (F.FB_STAT_STALE 23) 0;
      (fbOf s 23).lastCount = some 9 ∧ flag s (F.FB_STAT_STALE 23) = false ∧ fbMode s 23 = 1) ∧
    (let s := fset (up 1) (F.FB_CFG_REC 23) 100; fget s (F.FB_CFG_REC 23) * ms ≠ 0 ∧ fbMode s 23 ≠ 6 ∧ (queueOf s 102).held = none ∧ 2 ≤ freeRoom s 102) ∧
    mayCommand (up 1) .host ∧ (fbOf (up 1) 23).moved = false ∧
    (let s := fset (fset (setFb 23 { FbIn.init with moved := true } (up 1)) (F.FB_CMPCTRL_EN 23) 1) (F.FB_STAT_DIR 23) 0;
      fget s (F.FB_CMPCTRL_EN 23) = 2 ^ 0 ∧ (fbOf s 23).moved = true ∧ flag s (F.FB_STAT_DIR 23) = false ∧ (0 - rd s (A.FB_COUNT 23)).toInt ≤ 0 ∧
      0 < ((1 : Word) - rd s (A.FB_COUNT 23)).toInt) ∧
    (let s := fset (fset (setFb 22 { FbIn.init with ssiGood := some 9 } (up 1)) (F.FB_CFG_MODE 22) 5) (F.FB_STAT_STALE 22) 0;
      fbMode s 22 = 5 ∧ flag s (F.FB_SSI_PARITY 22) = false ∧ (fbOf s 22).ssiGood = some 9 ∧ flag s (F.FB_STAT_STALE 22) = false) := by
  unfold mayCommand reachable
  repeat' apply And.intro
  all_goals decide +kernel
/-- No sensor supply is down: every input is powered. An input of a supply that is folded back is down. -/
theorem witness_inputs_powered (i : Nat) : inputDown (edge0 2) i = false ∧
    (Config.inputSupply i = 1 → inputDown { edge0 2 with sup := { (edge0 2).sup with sns5Fold := true } } i = true) := by
  have a : (edge0 2).sup.sns5Fold = false := by decide +kernel
  have b : (edge0 2).sup.snsPwrFold = false := by decide +kernel
  have c : (edge0 2).fb.snsOffEnd = none := by decide +kernel
  constructor
  · simp [inputDown, supplyDown, a, b, c]
  · intro h; simp [inputDown, supplyDown, h]
/-- Clauses that do nothing; both inputs of a quadrature pair at once. -/
theorem witness_Feedback_more : (fbOf (up 1) 23).lastCount = none ∧ fbMode (edge0 2) 0 = 2 ∧
    (let s := edge0 2; flag s (F.FB_STAT_LINE 0) ≠ (fbOf s 0).raw ∧ flag s (F.FB_STAT_LINE 1) ≠ (fbOf s 1).raw) ∧
    (let s := fset (up 1) (F.FB_CFG_REC 23) 0; fget s (F.FB_CFG_REC 23) * ms = 0) ∧ fbMode (edge0 2) 22 ≠ 5 := by
  repeat' apply And.intro
  all_goals decide +kernel
theorem witness_AnalogInputsAndPinsAct : (let s := fset (fset (up 1) (F.AI_CFG_EN 15) 1) (F.AI_CFG_RANGE 15) 2;
      running s = true ∧ flag s (F.AI_CFG_EN 15) = true ∧ fget s (F.AI_CFG_RANGE 15) = 2 ∧ flag s (F.AI_STAT_BURDEN_OPEN 15) = false) ∧
    flag (up 1) (F.AI_CFG_EN 15) = false ∧
    (let s := setAi 15 ⟨some 9, 0⟩ (fset (up 1) (F.AI_STAT_STALE 15) 0); (aiOf s 15).last = some 9 ∧ flag s (F.AI_STAT_STALE 15) = false) ∧
    (ptOf (setPt 7 { PtPin.init with pulseEnd := some 9 } (up 1)) 7).pulseEnd = some 9 ∧ (ptOf (up 1) 7).pulseEnd = none ∧
    mayCommand (up 1) .host ∧ staging (up 1) = false ∧ mayCommand (opened 0 0 0) .host ∧ staging (opened 0 0 0) = true := by
  unfold mayCommand reachable
  repeat' apply And.intro
  all_goals decide +kernel
/-- A code inside its window, one outside; a change of the level of SNS_PWR and none. -/
theorem witness_Analog_window : fget (up 1) (F.AI_WIN_LO 15) ≤ 0 ∧ ¬ 4096 ≤ fget (up 1) (F.AI_WIN_HI 15) ∧ (aiOf (up 1) 15).last = none ∧
    (writtenWord Reg.FB_GLOBAL.fields (rd (up 1) A.FB_GLOBAL) 4).getLsbD 2 ≠ (rd (up 1) A.FB_GLOBAL).getLsbD 2 ∧
    (writtenWord Reg.FB_GLOBAL.fields (rd (up 1) A.FB_GLOBAL) 0).getLsbD 2 = (rd (up 1) A.FB_GLOBAL).getLsbD 2 := by
  repeat' apply And.intro
  all_goals decide +kernel
-- Bus ports
/-- Port 5 on its bus, beyond its registers as given. -/
def port5 (x : Port) : State := setPort 5 x (fset (up 1) (F.PORT_STAT_STATE 5) 1)
/-- One stream item at the head of Q90. -/
def q90 (hdr body : Nat) (s : State) : State :=
  setQueue 90 { Queue.init with slots := [⟨BitVec.ofNat 64 hdr, false, none, false⟩, ⟨BitVec.ofNat 64 body, true, none, false⟩] } s
/-- A classical frame of one byte. -/
def frame1 : CanFrame := ⟨0x123, false, false, 0, [7], 0, false⟩
/-- A register-access request OPEN for address 0xFE. -/
def openFrame (a : Nat) : CanFrame := ⟨0x0CEF0000 + 256 * a + 0x26, true, false, 0, [0x20, 0, 0, 0, 0, 0, 0, 0], 0, false⟩
theorem witness_PortsSendFailSleepAndRecover : (let s := q90 (0x123 + 2 ^ 34) 7 (port5 Port.init); running s = true ∧ maySend s 5 = true ∧ flag s (F.PORT_CFG_MODE 5) = false ∧
      (portOf s 5).cur = none ∧ slotFrame s 5 = none ∧ hasAddress s 5 = true ∧ (portOf s 5).swallow = false ∧ (portOf s 5).tx = none ∧
      (headItem s 5 false).isSome = true ∧ headItem (port5 Port.init) 5 false = none) ∧
    (let s := port5 { Port.init with cur := some (.object 127, frame1), ackRun := 31, slept := 1 };
      (portOf s 5).cur = some (.object 127, frame1) ∧ maySend s 5 = true ∧ onBus s 5 = true ∧ mayCommand s .host) ∧
    (maySend (up 1) 5 = false ∧ onBus (up 1) 5 = false ∧ busState (up 1) 5 = 0) ∧
    (let b := fset (fset (up 1) (F.PORT_STAT_STATE 5) 3) (F.PORT_STAT_RECOV 5) 1; busState b 5 = 3 ∧ flag b (F.PORT_STAT_RECOV 5) = true) ∧
    (let t := fset (fset (port5 Port.init) F.TM_CFG_EN 1) F.TM_CFG_PORT 5; isTmPort t 5 = true ∧ mayCommand t .host ∧ staging t = false) ∧
    (let a := fset (fset (port5 Port.init) (F.REM_DESC_PORT 427) 5) (F.REM_CTRL_ARMED 427) 1; portArmed a 5 = true ∧ isTmPort a 5 = false) ∧
    (let i := fset (up 1) (F.PORT_CTRL_INIT 5) 1; flag i (F.PORT_CTRL_INIT 5) = true ∧ busState i 5 = 0 ∧ (portOf i 5).initReq = false) ∧
    flag (fset (port5 Port.init) (F.PORT_CTRL_INIT 5) 0) (F.PORT_CTRL_INIT 5) = false ∧ portArmed (port5 Port.init) 5 = false ∧
    (let w := fset (fset (up 1) (F.PORT_STAT_STATE 5) 4) (F.WAKE_CFG_MODE 5) 0; wakes w 5 .pattern = true ∧ busState w 5 = 4 ∧ wakes w 5 .frameErrors = false) := by
  unfold mayCommand reachable
  repeat' apply And.intro
  all_goals decide +kernel
/-- The items of Q90 that end badly, are long, are dead and go out. -/
theorem witness_stream_items : (headItem (q90 (0x123 + 2 ^ 40) 7 (port5 Port.init)) 5 false).any (malformed (port5 Port.init) 5 · false) = true ∧
    (headItem (q90 (0x123 + 2 ^ 48) 7 (port5 Port.init)) 5 false).any (malformed (port5 Port.init) 5 · false) = false := by decide +kernel
/-- The second packet of a message, and a swallowed one; a TIMED_CMD for no descriptor; a taken head. -/
theorem witness_Ports_stream : (let s := q90 (0x123 + 2 ^ 34) 7 (port5 { Port.init with swallow := true });
      (headItem s 5 true).isSome = true ∧ (portOf s 5).swallow = true ∧ maySend s 5 = true ∧ hasAddress s 5 = true) ∧
    (let s := q90 (0x123 + 2 ^ 34) 7 (port5 { Port.init with tx := some ⟨0x18EF2680, 20, 0, [], false, 0, 9, false, false, 0, []⟩ });
      (headItem s 5 true).isSome = true ∧ (portOf s 5).tx.isSome = true ∧ slotFrame s 5 = none) ∧
    (let f : CanFrame := ⟨0x0CEF8026, true, false, 0, [0x41, 7, 0, 0, 0, 0, 0, 0], 0, false⟩; isTimedCmd f = true ∧ cmdRems (up 1) 5 f = []) ∧
    (let s := port5 { Port.init with cur := some (.stream, ⟨0x123, false, false, 0, [7], 0, false⟩) };
      (portOf s 5).cur.isSome = true ∧ (portOf s 5).tx = none ∧ flag s (F.PORT_CFG_LOOP 5) = false ∧ (queueOf s 90).taken = false ∧
      (queueOf (setQueue 90 { Queue.init with taken := true } s) 90).taken = true) ∧
    (let i := port5 { Port.init with initReq := true, fullCount := true }; (portOf i 5).initReq = true ∧ busState i 5 = 1) ∧
    (let z := fset (port5 { Port.init with sleepReq := true, wakeReq := true }) (F.PORT_STAT_STATE 5) 1; (portOf z 5).sleepReq = true ∧ busState z 5 ≠ 4) ∧
    (let o := fset (port5 { Port.init with cur := some (.object 127, ⟨0x123, false, false, 0, [7], 0, false⟩) }) (F.OBJ_CTRL_SEND_REQ 5 127) 1;
      mayCommand o .host ∧ flag o (F.OBJ_CTRL_SEND_REQ 5 127) = true ∧ (portOf o 5).cur.isSome = true ∧ staging o = false) ∧
    wakes (fset (port5 Port.init) (F.WAKE_CFG_MODE 5) 0) 5 .pattern = true := by
  unfold mayCommand reachable
  repeat' apply And.intro
  all_goals decide +kernel
theorem witness_PortsReceiveFrames : frameOk frame1 = true ∧ running (port5 Port.init) = true ∧ onBus (port5 Port.init) 5 = true ∧ onBus (up 1) 5 = false ∧
    isOwnGroup frame1 = false ∧ isoPort (port5 Port.init) 5 = false ∧ flag (port5 Port.init) (F.PORT_CORR_ID_EN 5) = false ∧
    (let c := fset (port5 Port.init) (F.PORT_CFG_MODE 5) 0; flag c (F.PORT_CFG_MODE 5) = false ∧ acceptFilter c 5 frame1 = none ∧
      acceptFilter (fset (fset (fset c (F.SF_ID_EN 5 31) 1) (F.SF_ID_ID 5 31) 0x123) (F.SF_MASK_MASK 5 31) 0x7FF) 5 frame1 = some 31) ∧
    (let c := fset (fset (fset (fset (port5 Port.init) (F.PORT_CFG_MODE 5) 1) (F.OBJ_ID_EN 5 127) 1) (F.OBJ_ID_ID 5 127) 0x123) (F.OBJ_CFG_DIR 5 127) 0;
      acceptObject c 5 frame1 = some 127 ∧ checkFails (chkWord c 5 159) (rangeWord c 5 159) frame1.data = false ∧ acceptObject (fset c (F.OBJ_ID_EN 5 127) 0) 5 frame1 = none) ∧
    checkFails 0x02000000 0 frame1.data = true ∧
    (let f := openFrame (portAddr (port5 Port.init) 5); frameOk f = true ∧ isOwnGroup f = true ∧ ps f.id = portAddr (port5 Port.init) 5 ∧ accessRequest f = some .open') ∧
    flag (fset (port5 Port.init) (F.PORT_CFG_ACC_EN 5) 1) (F.PORT_CFG_ACC_EN 5) = true ∧
    (let d := fset (fset (fset (fset (port5 Port.init) (F.REM_DESC_VALID 427) 1) (F.REM_DESC_PORT 427) 5) (F.REM_DESC_ADDR 427) 0x80) (F.REM_DESC_CHANNEL 427) 255;
      flag d (F.REM_DESC_VALID 427) = true ∧ fget d (F.REM_DESC_PORT 427) = 5 ∧ fget d (F.REM_DESC_ADDR 427) = 0x80 ∧ fget d (F.REM_DESC_CHANNEL 427) = 255) ∧
    (let d := fset (fset (fset (port5 Port.init) (F.FLEET_PEER_EN 15) 1) (F.FLEET_PEER_PORT 15) 5) (F.FLEET_PEER_ADDR 15) 0x80;
      flag d (F.FLEET_PEER_EN 15) = true ∧ fget d (F.FLEET_PEER_PORT 15) = 5 ∧ (peerOf d 15).parts = []) ∧
    (let i := fset (fset (port5 { Port.init with claimAddr := 0x80 }) (F.ISO_CFG_EN 5) 1) (F.ISO_STAT_CLAIM 5) 2;
      isoPort i 5 = true ∧ (portOf i 5).claimAddr = 0x80 ∧ fget i (F.ISO_STAT_CLAIM 5) = 2 ∧ isoName i 5 / 2 ^ 63 % 2 = 0) ∧
    (let w := fset (fset (fset (port5 Port.init) (F.SF_ID_EN 5 31) 1) (F.SF_CHK_TIMEOUT 5 31) 100) (F.PORT_CFG_MODE 5) 0;
      bitsOf (chkWord w 5 31) 15 0 ≠ 0 ∧ flag w (F.SF_ID_EN 5 31) = true ∧ flag w (F.PORT_CFG_MODE 5) = false ∧ 31 ∉ (portOf w 5).timedOut ∧ busState w 5 ≠ 0) := by
  repeat' apply And.intro
  all_goals decide +kernel
/-- A frame that no format carries; a full access queue; a contested address with the lower NAME, of a NAME that moves and one that does not. -/
theorem witness_Receive_more : frameOk ⟨0x800, false, false, 0, [], 0, false⟩ = false ∧
    (let q := port5 { Port.init with acc := List.replicate 4 (0x26, .close) }; 4 ≤ (portOf q 5).acc.length) ∧
    (let i := fset (fset (fset (port5 { Port.init with claimAddr := 0x80 }) (F.ISO_CFG_EN 5) 1) (F.ISO_STAT_CLAIM 5) 2) (F.ISO_NAME_HI_NAME 5) 0x80000001;
      isoPort i 5 = true ∧ isoName i 5 / 2 ^ 63 % 2 = 1 ∧ 0 < isoName i 5 ∧ (freeAddresses i 5).filter (fun b => b != 0x80) ≠ [] ∧
      fget i (F.ISO_STAT_CLAIM 5) = 2 ∧ (portOf i 5).claimAddr = 0x80) ∧
    (let i := fset (fset (fset (port5 { Port.init with claimAddr := 0x80 }) (F.ISO_CFG_EN 5) 1) (F.ISO_STAT_CLAIM 5) 2) (F.ISO_NAME_HI_NAME 5) 1;
      isoName i 5 / 2 ^ 63 % 2 = 0 ∧ 0 < isoName i 5) ∧
    (peerOf (port5 Port.init) 15).parts = [] ∧ bitsOf (chkWord (port5 Port.init) 5 31) 15 0 = 0 := by
  repeat' apply And.intro
  all_goals decide +kernel
/-- The ISO 11783 port 5 with receive sessions and a send session to node 0x26. -/
def iso5 (rx : List RxSession) (tx : Option TxSession) : State := fset (port5 { Port.init with rx := rx, tx := tx }) (F.ISO_CFG_EN 5) 1
/-- A receive session of 10 bytes from node 0x26 with one packet taken, in its window or not. -/
def rx10 (window : Nat) : RxSession := ⟨0x26, false, false, 0xFECA, 7, 10, 7, [1, 2, 3, 4, 5, 6, 7], window, 16, 0, 0⟩
/-- A send session of 20 bytes to node 0x26. -/
def tx20 (bam : Bool) : TxSession := ⟨0x18EF2680, 20, 7, [], false, 0, 9, bam, false, 0, []⟩
theorem witness_TransportSessionsRun : (let s := iso5 [] none; running s = true ∧ onBus s 5 = true ∧ isoPort s 5 = true ∧ findRx s 5 0x26 false false = none ∧
      findRx s 5 0x26 true false = none ∧ (portOf s 5).rx.length < 8 ∧ txWith s 5 0x26 false = none ∧ (portOf s 5).tx = none) ∧
    (let s := iso5 (List.replicate 8 (rx10 1)) none; 8 ≤ (portOf s 5).rx.length ∧ findRx s 5 0x27 false false = none ∧ findRx s 5 0x27 true false = none) ∧
    (let s := iso5 [rx10 1] none; findRx s 5 0x26 false false = some (rx10 1) ∧ (rx10 1).window ≠ 0 ∧ (3 : Nat) ≠ (rx10 1).taken / 7 - (rx10 1).base + 1 ∧
      2 = (rx10 1).taken / 7 - (rx10 1).base + 1 ∧ (rx10 1).taken < (rx10 1).total ∧ (rx10 1).total ≤ (rx10 1).taken + 7 ∧ portAddr s 5 ≠ 255) ∧
    findRx (iso5 [rx10 0] none) 5 0x26 false false = some (rx10 0) ∧
    (let s := iso5 [] (some (tx20 false)); txWith s 5 0x26 false = some (tx20 false) ∧ 7 * (2 - 1) = (tx20 false).sent ∧ findRx s 5 0x26 false false = none) := by
  repeat' apply And.intro
  all_goals decide +kernel
/-- A session whose message goes in parts, one that the last packet ends, a second RTS of one sender; a send session that can go back. -/
theorem witness_Transport_more : (let r : RxSession := ⟨0x26, false, false, 0xFECA, 7, 1785, 994, List.replicate 994 0, 1, 16, 0, 0⟩;
      let s := iso5 [r] none; findRx s 5 0x26 false false = some r ∧ r.window = 1 ∧ (143 : Nat) = r.taken / 7 - r.base + 1 ∧ r.taken + 7 < r.total ∧
      1000 < r.total ∧ 1000 ≤ (r.buf ++ leBytes 7 0).length ∧ (r.buf ++ leBytes 7 0).length < 2000 ∧ (queueOf s 96).held = none ∧
      fget s (F.JAS_QBP_DUTY 96) = 0 ∧ 127 ≤ freeRoom s 96 ∧ (portOf s 5).rx.length ≤ 8) ∧
    (let t : TxSession := ⟨0x18EF2680, 20, 7, [], false, 0, 9, false, false, 0, [1, 2, 3, 4, 5, 6, 7]⟩;
      let s := iso5 [] (some t); txWith s 5 0x26 false = some t ∧ 7 * (1 - 1) ≤ t.sent ∧ t.sent - 0 ≤ t.back.length) ∧
    (let s := iso5 [rx10 1] (some (tx20 false)); txWith s 5 0x26 false = some (tx20 false) ∧ findRx s 5 0x26 false false ≠ none) ∧
    txWith (iso5 [] (some (tx20 true))) 5 0x26 false = none := by
  repeat' apply And.intro
  all_goals decide +kernel
-- The Gaffer port, service and general statements
/-- Service changed, the port owning the punty. -/
def service (f : Service → Service) : State := let s := up 3; { s with svc := f s.svc }
theorem witness_GafferLinesReadAndCommand : (let s := up 3; reachable s ∧ ownerCode s = 3 ∧ s.svc.op = .none ∧ s.svc.testEnd.isSome = false ∧ anyArmed s = false) ∧
    ownerCode (up 1) ≠ 3 ∧ flag (up 3) F.SNAP_STAT_CAP_BUSY = false ∧ (service (fun x => { x with op := .capture })).svc.op ≠ .none ∧
    (let b := power (fun x => { x with power := .bench }) { up 0 with own := { State.reset.own with order := [1, 3] }, start := { State.reset.start with electionOver := true } };
      claimRefused b 3 = false ∧ electionOpen b = false ∧ seizeRefused b = false ∧ b.svc.meterEnd = none ∧
      (let e := fset b F.OWN_STAT_ELECTION 1; claimRefused e 3 = false ∧ electionOpen e = true ∧ e.own.order.head? ≠ some 3)) ∧
    claimRefused (up 1) 3 = true ∧ seizeRefused (up 1) = true ∧
    (let h := fset (fset (up 1) F.OWN_STAT_HANDOVER_PEND 1) F.OWN_STAT_TARGET 3; acceptRefused h 3 = false) ∧ acceptRefused (up 1) 3 = true ∧
    anyArmed (fset (up 3) (F.OUT_STAT_ARMED 83) 1) = true ∧
    (let a := { fset (up 3) F.SVC_STAT_USB_OPEN 1 with own := { State.reset.own with autoHb := true } }; a.own.autoHb = true ∧ flag a F.SVC_STAT_USB_OPEN = true) := by
  unfold reachable
  repeat' apply And.intro
  all_goals decide +kernel
/-- Lines while an operation runs, and the perturbations, records and values that lines read. -/
theorem witness_Gaffer_reads : (service (fun x => { x with meterEnd := some 9 })).svc.meterEnd ≠ none ∧
    (let b := fset (service (fun x => { x with meterEnd := some 9 })) F.SVC_METER_CHECK 10; fget b F.SVC_METER_CHECK = 10 ∧ b.svc.op = .none) ∧
    flag (fset (up 3) F.SNAP_STAT_CAP_BUSY 1) F.SNAP_STAT_CAP_BUSY = true ∧
    (let c := { up 3 with own := { State.reset.own with order := [3, 1, 2] } }; c.own.order.head? = some 3) := by
  repeat' apply And.intro
  all_goals decide +kernel
theorem witness_gaffer_writes : (∃ p, writable (up 3) .gaffer A.TIME_SET_LO p 5 false) ∧ ∃ p, writable (up 3) .gaffer A.TIME_SET_HI p 5 true :=
  witness_writable _ _ _ (by unfold mayCommand reachable; decide +kernel)
theorem witness_ChecksTestsSnapshotsAndJasper : (let s := up 3; reachable s ∧ ownerCode s = 3 ∧ s.svc.op = .none ∧ s.svc.testEnd = none ∧ s.svc.meterEnd = none ∧
      anyArmed s = false ∧ bench s = false ∧ mayCommand s .gaffer ∧ testRefused s 0 5 = false ∧ testRefused s 3 5 = false) ∧
    15 < meterTargets 9 ∧ meterTargets 9 ≤ 16 ∧ 23 < meterTargets 6 ∧ ownerCode (up 1) ≠ 3 ∧ mayCommand (up 1) .host ∧
    armed (fset (up 3) (F.OUT_STAT_ARMED 83) 1) 83 = true ∧ anyArmed (fset (up 3) (F.OUT_STAT_ARMED 83) 1) = true ∧ reachable (fset (up 3) (F.OUT_STAT_ARMED 83) 1) ∧
    (let m := service (fun x => { x with meterEnd := some 9, meterSave := [(A.FB_CFG 5, 0)], op := .meter });
      m.svc.meterEnd = some 9 ∧ reachable m ∧ m.svc.meterHeld = none ∧ fget m F.SVC_METER_CHECK = 0 ∧ (m.svc.meterSave.map (·.1)).Nodup ∧
      A.FB_CFG 5 ∉ [A.SVC_METER, A.SVC_STAT, A.SVC_METER_VAL]) ∧
    testRefused (fset (up 3) (F.PORT_CTRL_INIT 5) 0) 6 5 = true ∧
    (let t := service (fun x => { x with testEnd := some 9, testAll := [5, 6], op := .test }); t.svc.testEnd ≠ none ∧ (∀ u ∈ t.svc.testAll, 2 ≤ u ∧ u ≤ 6)) ∧
    flag (up 3) F.SNAP_STAT_CAP_BUSY = false ∧ flag (up 3) F.SNAP_STAT_SOLVE_BUSY = false ∧ flag (up 3) F.SNAP_STAT_VALID = false ∧
    flag (fset (up 3) F.SNAP_STAT_VALID 1) F.SNAP_STAT_VALID = true ∧
    (let j := fset (fset (up 3) (F.OUT_STAT_ARMED 83) 1) F.JAS_CTRL_ARMED_OK 1; flag j F.JAS_CTRL_ARMED_OK = true ∧ anyArmed j = true ∧ mayCommand j .gaffer) := by
  unfold mayCommand reachable
  repeat' apply And.intro
  all_goals decide +kernel
/-- A test that runs while another is asked for; a capture and a SOLVE that run; a check that a state bars. -/
theorem witness_Checks_queue : (let t := { service (fun x => { x with testEnd := some 9, testAll := [5] }) with acc := { (up 3).acc with queued := [F.SVC_TEST_GO] } };
      reachable t ∧ t.svc.testEnd ≠ none ∧ mayCommand t .gaffer ∧ F.SVC_TEST_GO ∈ t.acc.queued ∧ (∀ u ∈ t.svc.testAll, 2 ≤ u ∧ u ≤ 6) ∧ testRefused t 5 0 = false) ∧
    (let v := fset (fset (up 3) F.SNAP_STAT_VALID 1) F.SNAP_STAT_SOLVE_BUSY 1; ownerCode v = 3 ∧ v.svc.op = .none ∧ v.svc.testEnd = none ∧
      flag v F.SNAP_STAT_VALID = true ∧ flag v F.SNAP_STAT_SOLVE_BUSY = true) ∧
    (let m := service (fun x => { x with meterEnd := some 9, op := .meter }); m.svc.op = .meter ∧ m.svc.meterEnd ≠ none ∧ fget m F.SVC_METER_CHECK = 0) ∧
    (∀ c ∈ [1, 3, 6, 7, 8, 9], c ∉ [2, 4, 5, 10]) ∧ (service id).svc.jasEnd = none ∧ (service (fun x => { x with jasEnd := some 9 })).svc.jasEnd = some 9 := by
  unfold mayCommand reachable
  repeat' apply And.intro
  all_goals decide +kernel
theorem witness_AsynchronousInstructionsKeepTheFlags : ∃ t, exec (.divW 5 1 2 3) (going Gather.init) = .next t := ⟨_, rfl⟩
theorem witness_WordsThatNoInstructionSpellsAreIllegal : (let s := going Gather.init; illegalWord 0 = true ∧ (gatherOf s 5).phase = .run ∧
    inRegion s 5 (coreOf s 5).pc = true ∧ progWord s (coreOf s 5).pc = 0) := by decide +kernel
theorem witness_RefusedAccessesAreNotedAndRecorded : reachable (up 1) ∧ (after (up 1) (.registerWrite .gaffer 1 0)).reply = .okValue .align [] ∧
    (after (up 1) (.hspiRead 2)).reply = .spi [0x51, 0, 0, 0, 0] ∧
    (let s := asks 1 (.read 4 0) 0; onBus s 0 = true ∧ (portOf s 0).acc.head? = some (0x26, .read 4 0) ∧ keyedOf s 0 0x26 = none ∧ isHolder s 0 0x26 = false) := by
  unfold reachable; decide +kernel
theorem witness_EveryWellFormedCommandAnswers : (Instr.tick).wellFormed = true ∧ (Instr.frameReceived 5 ⟨0x800, false, false, 0, [], 0, false⟩ 0).wellFormed = false := by decide
theorem witness_DecodeAndEncodeAgree : encodeWord (.foot 7 2 1 3 4) = some (7, 0b101010_00010_00001_00011_00100_000001#32) ∧
    illegalWord 0b101010_00010_00001_00011_00100_000001#32 = false := by decide
theorem witness_StepsKeepRegistersAndMemoriesCanonical : State.reset.regsWf ∧ State.reset.memWf ∧ ∃ t, step State.reset = .next t := by
  refine ⟨trivial, ⟨trivial, trivial, trivial, fun g => ?_⟩, ⟨_, rfl⟩⟩
  simp [gatherOf, tabGet, tabFind, State.reset, Gather.init, tabWf]
theorem witness_StepsKeepTheRecordStoreInOrder : State.reset.recordsOk ∧ ∃ t, step State.reset = .next t :=
  ⟨⟨by simp [State.reset], by simp [State.reset], by simp [State.reset], by simp [State.reset]⟩, ⟨_, rfl⟩⟩

-- Values that the spec works out
/-- An illegal word faults the gather with code 1. -/
theorem test_illegal_faults : (let t := after (going Gather.init) (.illegalInstruction 5 0); (gatherOf t 5).phase = .fault ∧ fget t (F.G_FAULT_CODE 5) = 1) := by decide +kernel
/-- The command at the PC of a gather is the one that its word spells. -/
theorem test_next_command : (let s := going Gather.init; nextCommand { s with eng := { s.eng with prog := [(0, 0b000010_00100_00101_1000000000000001#32)] } } 5 =
    some (.addi 5 4 5 0x8001)) := by decide +kernel
/-- A refused write notes the address, the code and a write (R107). -/
theorem test_refused_write : (let t := after (up 1) (.registerWrite .gaffer 0x60010 7); t.reply = .okValue .owner [] ∧
    fget t (F.ACC_ERR_LAST_CODE 2) = 6 ∧ fget t (F.ACC_ERR_LAST_ADDRESS 2) = 0x60010 ∧ rd t 0x60010 = 0) := by decide +kernel
theorem witness_StepRunsTheFrontCommand : State.reset.pending = [] ∧ (up 1).pending = [] ∧ running (up 1) = true ∧ running State.reset = false := by decide +kernel

end Sys2Proof.Tests
end

section
/-! SUPPORT. The step of the block, and a statement about resets that the settings of a meter check refute. -/
namespace Sys2Proof.Proofs
open Sys2Proof.Machine

/-! The step (R18, R33). -/

/-- The command at the front is the one that runs, with the rest as its queue. -/
theorem step_front (c : Instr) (rest : List Instr) (s : State) :
    step { s with pending := c :: rest } = exec c { s with pending := rest } := rfl

theorem step_empty (s : State) (h : s.pending = []) : step s = .next (idle s) := by
  simp only [step, h]

theorem idle_mtime (s : State) : (idle s).mtime = if running s = true then s.mtime + 64 else s.mtime := by
  unfold idle; split <;> rfl

theorem idle_keeps_all_but_mtime (s : State) : keeps s (idle s) [.mtime] := by
  intro p hp
  unfold idle
  split
  case isTrue => exact (Part.same_mtime s _ hp).mpr (Part.same_refl p s)
  case isFalse => exact Part.same_refl p s

/-- Settles O55: the two branches of the step, by the queue. -/
theorem stepRunsTheFrontCommand : Obligations.StepRunsTheFrontCommand := by
  unfold Obligations.StepRunsTheFrontCommand
  exact ⟨step_front, fun s h => ⟨idle s, step_empty s h, idle_keeps_all_but_mtime s, idle_mtime s⟩⟩

/-! The count of supervisor restarts (R553) beside the settings of a meter check (R602). -/

/-- A running Askat in which a meter check runs whose saved settings name a register with a word. The state holds them
as plain data: nothing in it says that they are registers which a check sets. -/
def meterCheckSaving (a : Nat) (w : Word) : State :=
  { fset State.reset F.STARTUP_STAT_PHASE 4 with
    svc := { State.reset.svc with meterEnd := some 0, meterSave := [(a, w)] } }

theorem meterCheckSaving_running : running (meterCheckSaving A.LOCKSTEP_CNT 7) = true := by decide +kernel

theorem meterCheckSaving_total : fget (meterCheckSaving A.LOCKSTEP_CNT 7) F.LOCKSTEP_CNT_TOTAL = 0 := by decide +kernel

/-- A restart ends the check before it counts, so that it counts on from the saved 7. -/
theorem supervisorRestart_total_of_saved :
    fget (supervisorRestart (portReset (meterCheckSaving A.LOCKSTEP_CNT 7))) F.LOCKSTEP_CNT_TOTAL = 8 := by decide +kernel

theorem exec_supervisorRestart (s : State) (h : running s = true) :
    exec .supervisorRestart s = .next (supervisorRestart (portReset s)) := by
  change live (fun s => supervisorRestart (portReset s)) s = _
  simp only [live, h, if_true, done]

/-- Refutes O39, in its clause on SUPERVISOR_RESTART: LOCKSTEP_CNT.TOTAL is to be one more than before it (R553). Where a
meter check runs, the restart first ends it (R602) and writes its saved settings back. The statement is about every
state and bounds those settings in no way, while meterSetup alone never saves LOCKSTEP_CNT. With 7 saved beside a count
of 0 the restart leaves 8, not 1. -/
theorem not_startUpPhasesAndResets : ¬ Obligations.StartUpPhasesAndResets := by
  unfold Obligations.StartUpPhasesAndResets
  intro h
  obtain ⟨-, -, -, -, -, -, -, -, -, -, -, -, -, -, -, -, -, -, -, -, -, hRestart, -⟩ :=
    h .host ⟨false, false, false, [], false, 0, [], [], []⟩ true [] 0 0 (meterCheckSaving A.LOCKSTEP_CNT 7)
  obtain ⟨t, ht, -, -, -, -, -, hTotal⟩ := hRestart meterCheckSaving_running
  rw [exec_supervisorRestart _ meterCheckSaving_running] at ht
  cases ht
  rw [supervisorRestart_total_of_saved, meterCheckSaving_total] at hTotal
  exact absurd hTotal (by decide)

end Sys2Proof.Proofs
end

section
/-! SUPPORT. An ARM of an output in its posture, which refutes a statement about arming, and a record that a full store
drops, which refutes a statement about the recorder. -/
namespace Sys2Proof.Proofs
open Sys2Proof.Machine

/-! OUT_ARM ends a posture (R224, R365). -/

theorem exec_outArm (m : Master) (n : OutId) (s : State) :
    exec (.outArm m n) s = .next (rowWrite ruleOutCtrl m ⟨Reg.OUT_CTRL, [n.val]⟩ (A.OUT_CTRL n.val) 1 s) := rfl

/-- A running Askat owned by the host, in which logic pair 83 is configured, permitted to a gather and placed by the maps,
and stands in its posture after a hold window. -/
def posturedPair : State :=
  let started := fset (fset State.reset F.STARTUP_STAT_PHASE 4) F.OWN_STAT_OWNER 1
  let bound := fset (fset started (F.CH_CFG_CLASS 83) 1) (F.OUT_PERMIT_GATHERS 83 0) 1
  setOut 83 { Out.init with posture := true } { bound with
    maps := { bound.maps with active := { MapSet.init with model := [(399, 0x80000000), (2111, 0x80000000)] } } }

theorem mayCommand_posturedPair : mayCommand posturedPair .host := by
  unfold mayCommand reachable
  decide +kernel

theorem armRefused_posturedPair : armRefused posturedPair 83 = false := by decide +kernel

theorem posture_posturedPair : (outOf posturedPair 83).posture = true := by
  simp only [posturedPair, outOf_setOut_same]

/-- The accepted ARM ends the posture as a posture. -/
theorem posture_after_outArm :
    (outOf (rowWrite ruleOutCtrl .host ⟨Reg.OUT_CTRL, [83]⟩ (A.OUT_CTRL 83) 1 posturedPair) 83).posture = false := by
  decide +kernel

/-- Refutes O35, in its first clause: an accepted OUT_ARM is to change no more than OUT_STAT. Arming an output that stands
in its posture also ends the posture and the hold windows noted for it, which are no registers (R224, R365): logic pair 83
of posturedPair stands in its posture before the ARM and no longer after it. -/
theorem not_outputAndQueueCommands : ¬ Obligations.OutputAndQueueCommands := by
  unfold Obligations.OutputAndQueueCommands
  intro h
  obtain ⟨hArm, -⟩ := h .host 83 0 0 0 posturedPair mayCommand_posturedPair
  obtain ⟨t, ht, ⟨-, -, hKeeps, -⟩, -⟩ := hArm armRefused_posturedPair
  rw [exec_outArm] at ht
  obtain rfl := Host.Outcome.next.inj ht
  have hOuts := congrArg Out.posture (outOf_congr (hKeeps .outs (by decide)) 83)
  exact absurd (posture_after_outArm.symm.trans (hOuts.trans posture_posturedPair)) (by decide)

/-! RECORD_WRITE into a store that has no room (R530). -/

theorem victim_of_all_more_severe (v : Nat) (st : List Record) (h : ∀ r ∈ st, v < r.entry.ev.sev) : victim v st = none := by
  unfold victim
  rw [List.find?_eq_none]
  intro r hr
  simp [h r hr]

/-- With the store full and no record to replace, an entry is dropped and counted under its severity. -/
theorem storeRecord_of_no_victim (e : Stamped) (s : State) (hFull : 65536 ≤ s.agate.store.length)
    (hVictim : victim e.ev.sev s.agate.store = none) :
    storeRecord e s = fset (fsat s (F.AGATE_DROP_COUNT e.ev.sev) 1) F.AGATE_STAT_DROP_FULL 1 := by
  simp only [storeRecord, if_neg (Nat.not_lt.mpr hFull), hVictim]

theorem endFlood_of_none (s : State) (h : s.agate.flood = none) : endFlood s = s := by
  simp only [endFlood, h]

theorem recordWrite_of_head {s : State} {e : Stamped} {es : List Stamped} (hHead : s.agate.q103 = e :: es)
    (hReady : s.agate.ready = true) :
    recordWrite s = endFlood (storeRecord e (countFinal 103 1 (setAgate { s.agate with q103 := es } s))) := by
  simp only [recordWrite, hHead, hReady, Bool.not_true, Bool.false_eq_true, if_false]

theorem exec_recordWrite (s : State) (h : running s = true) : exec .recordWrite s = .next (recordWrite s) := by
  change live recordWrite s = _
  simp only [live, h, if_true, done]

/-- Taking the head of a queue counts in QCCNT and in no other register. -/
theorem rd_countFinal (q n : Nat) (s : State) (a : Nat) (h : a ≠ A.QCCNT q) : rd (countFinal q n s) a = rd s a := by
  rw [countFinal, rd_fwrap _ _ _ _ h]
  rfl

/-- Outside a flood, with the store full of more severe records, the head of Q103 is dropped: the count of its severity
rises by one, whatever the severity. -/
theorem recordWrite_counts_drop {s : State} {e : Stamped} {es : List Stamped} (hHead : s.agate.q103 = e :: es)
    (hReady : s.agate.ready = true) (hFlood : s.agate.flood = none) (hFull : 65536 ≤ s.agate.store.length)
    (hSevere : ∀ r ∈ s.agate.store, e.ev.sev < r.entry.ev.sev) :
    fget (recordWrite s) (F.AGATE_DROP_COUNT e.ev.sev) = satAdd 32 (fget s (F.AGATE_DROP_COUNT e.ev.sev)) 1 % 2 ^ 32 := by
  have hDrop := storeRecord_of_no_victim e (countFinal 103 1 (setAgate { s.agate with q103 := es } s)) hFull
    (victim_of_all_more_severe _ _ hSevere)
  have hStat : A.AGATE_DROP e.ev.sev ≠ A.AGATE_STAT := by dsimp only [A.AGATE_DROP, A.AGATE_STAT]; omega
  have hCount : A.AGATE_DROP e.ev.sev ≠ A.QCCNT 103 := by dsimp only [A.AGATE_DROP, A.QCCNT]; omega
  rw [recordWrite_of_head hHead hReady, hDrop, endFlood_of_none]
  case h => exact hFlood
  rw [fget_fset_reg _ _ _ _ hStat, fsat, fget_fset_same _ _ _ (by simp) (by simp)]
  simp only [fget, rd_countFinal _ _ _ _ hCount]
  rfl

/-- An entry whose event has a given severity. The state holds it as a plain number: nothing in it bounds it by 7. -/
def entryOfSeverity (v : Nat) : Stamped := ⟨⟨v, 14, 0, .accessRefused, [], none, []⟩, 0, 0, 0, 0⟩

/-- The first n records of a store that keeps entries of severity 10. -/
def severeRecords (n : Nat) : List Record := (List.range n).map (fun q => ⟨q, false, entryOfSeverity 10⟩)

theorem mem_severeRecords {n : Nat} {r : Record} (h : r ∈ severeRecords n) : r.seq < n ∧ r.entry.ev.sev = 10 := by
  obtain ⟨q, hq, rfl⟩ := List.mem_map.mp h
  exact ⟨List.mem_range.mp hq, rfl⟩

theorem length_severeRecords (n : Nat) : (severeRecords n).length = n := by simp only [severeRecords, List.length_map, List.length_range]

theorem severeRecords_inOrder {n : Nat} (h : n ≤ 65536) : storeInOrder (severeRecords n) n 0 :=
  ⟨fun _ hr => (mem_severeRecords hr).1, List.pairwise_map.mpr List.pairwise_lt_range, (length_severeRecords n).trans_le h, Nat.zero_le _⟩

/-- A running Askat whose store is open and full of records of severity 10, with one entry of severity 9 in Q103. -/
def fullStore : State :=
  { fset State.reset F.STARTUP_STAT_PHASE 4 with
    agate := { State.reset.agate with q103 := [entryOfSeverity 9], ready := true, nextSeq := 65536, store := severeRecords 65536 } }

theorem store_fullStore : fullStore.agate.store = severeRecords 65536 := by simp only [fullStore]

/-- The store is in order, so the refutation does not rest on one that is not. -/
theorem recordsOk_fullStore : fullStore.recordsOk := by
  rw [State.recordsOk, store_fullStore]
  exact severeRecords_inOrder le_rfl

theorem running_fullStore : running fullStore = true := by decide +kernel

theorem agateTorn_fullStore : rd fullStore A.AGATE_TORN = 0 := by decide +kernel

/-- The eight counts of AGATE_DROP end two words before AGATE_TORN, where a count of severity 9 comes to lie. -/
theorem agateTorn_after_recordWrite : bitsOf (rd (recordWrite fullStore) A.AGATE_TORN) 31 0 = 1 := by
  have hFull : 65536 ≤ fullStore.agate.store.length := by rw [store_fullStore, length_severeRecords]
  have hSevere : ∀ r ∈ fullStore.agate.store, (entryOfSeverity 9).ev.sev < r.entry.ev.sev := fun r h => by
    rw [store_fullStore] at h
    rw [(mem_severeRecords h).2]
    decide
  have hCount : bitsOf (rd (recordWrite fullStore) A.AGATE_TORN) 31 0 =
      satAdd 32 (bitsOf (rd fullStore A.AGATE_TORN) 31 0) 1 % 2 ^ 32 :=
    recordWrite_counts_drop (e := entryOfSeverity 9) rfl rfl rfl hFull hSevere
  rw [hCount, agateTorn_fullStore]
  decide

/-- Refutes O40, in its clause on RECORD_WRITE: beside the counts of Q103 only the registers of the recorder's front are to
change. The statement is about every state and bounds the severity of an entry in no way. Where the store is full of more
severe records, the entry is dropped and counted at AGATE_DROP with its severity as index (R530): severity 9 counts in
AGATE_TORN. -/
theorem not_recorderTickAndFleet : ¬ Obligations.RecorderTickAndFleet := by
  unfold Obligations.RecorderTickAndFleet
  intro h
  obtain ⟨-, -, -, -, hWrite, -⟩ := h .host 0 fullStore
  obtain ⟨t, ht, ⟨hRegs, -⟩, -⟩ := hWrite (entryOfSeverity 9) [] rfl running_fullStore rfl
  rw [exec_recordWrite _ running_fullStore] at ht
  obtain rfl := Host.Outcome.next.inj ht
  have hTorn := agateTorn_after_recordWrite
  rw [hRegs A.AGATE_TORN (by decide), agateTorn_fullStore] at hTorn
  exact absurd hTorn (by decide)

end Sys2Proof.Proofs
end

section
/-! SUPPORT. A reload onto the fall-back path, which refutes a statement about carriers. -/
namespace Sys2Proof.Proofs
open Sys2Proof.Machine

/-! The moment of a reload (R368, R372, R384). -/

/-- A period that begins leaves MTIME. -/
theorem beginPeriod_mtime (n g : Nat) (s : State) : (beginPeriod n g s).mtime = s.mtime :=
  (beginPeriod_same (pt := .mtime) n g s (by decide)).mpr (Part.same_refl .mtime s)

/-- The reload comes at its edge as the path before it places the edge: the wanted path is taken after that. -/
theorem carrierReload_mtime {n : Nat} {s : State} (h : flag s (F.PWM_STAT_CARRIER n) = true) :
    (Machine.carrierReload n s).mtime = max s.mtime (edgeAt s n (carrierOf s n).reload) := by
  simp only [Machine.carrierReload, h, Bool.not_true, Bool.false_eq_true, if_false, beginPeriod_mtime]
  rfl

theorem exec_carrierReload (n : OutId) (s : State) (h : running s = true) :
    exec (.carrierReload n) s = .next (Machine.carrierReload n s) := by
  change live (Machine.carrierReload n) s = _
  simp only [live, h, if_true, done]

/-- A running Askat at MTIME 0 whose output 5 runs a carrier on the main path, started by an ON with a fine offset of 5
units; three bad calibrations have set FALLBACK, so that the next reload takes the fall-back path. -/
def reloadOntoFallback : State :=
  let started := fset State.reset F.STARTUP_STAT_PHASE 4
  let carrier := setOut 5 { Out.init with car := { Carrier.init with fine := 5, started := true } } started
  fset (fset carrier (F.PWM_STAT_CARRIER 5) 1) (F.PWM_STAT_FALLBACK 5) 1

theorem running_reloadOntoFallback : running reloadOntoFallback = true := by decide +kernel

theorem carrier_reloadOntoFallback : flag reloadOntoFallback (F.PWM_STAT_CARRIER 5) = true := by decide +kernel

theorem pulseHot_reloadOntoFallback : pulseHot reloadOntoFallback 5 = false := by decide +kernel

theorem wantsFallback_reloadOntoFallback : wantsFallback reloadOntoFallback 5 = true := by decide +kernel

/-- The edge of the carrier lies at its fine offset, which the main path keeps. -/
theorem edge_reloadOntoFallback : max reloadOntoFallback.mtime
    (edgeAt reloadOntoFallback 5 (carrierOf reloadOntoFallback 5).reload) = 5 := by decide +kernel

/-- On the fall-back path, without the fine offset, the edge would lie at the start of the ACT cycle. -/
theorem fallback_edge_reloadOntoFallback : max reloadOntoFallback.mtime
    ((outOf reloadOntoFallback 5).car.reload + 0) = 0 := by decide +kernel

/-- Refutes O34, in its clause on CARRIER_RELOAD: MTIME is to become the reload's edge as the path that is wanted then
places it. The reload comes at its edge on the path in use before it, and takes the wanted path after that. Where FALLBACK
is set while a carrier with a fine offset still runs on the main path, the fall-back path would drop the offset (R384), and
the two edges differ: for output 5 of reloadOntoFallback the statement says MTIME 0 and the reload comes at 5. -/
theorem not_feedsHoldAndReleaseChannels : ¬ Obligations.FeedsHoldAndReleaseChannels := by
  unfold Obligations.FeedsHoldAndReleaseChannels
  intro h
  obtain ⟨-, -, -, -, -, -, -, -, hReload, -⟩ := h 0 5 0 false 0 0 [] [] reloadOntoFallback running_reloadOntoFallback
  obtain ⟨t, ht, -, hTime, -⟩ := (hReload carrier_reloadOntoFallback).1 (.inl pulseHot_reloadOntoFallback)
  rw [exec_carrierReload _ _ running_reloadOntoFallback] at ht
  obtain rfl := Host.Outcome.next.inj ht
  have hMain := (carrierReload_mtime carrier_reloadOntoFallback).trans edge_reloadOntoFallback
  have hWanted := hTime.trans (congrArg (fun w : Bool => max reloadOntoFallback.mtime
    ((outOf reloadOntoFallback 5).car.reload + if w then 0 else (outOf reloadOntoFallback 5).car.fine))
    wantsFallback_reloadOntoFallback)
  exact absurd (hMain.symm.trans (hWanted.trans fallback_edge_reloadOntoFallback)) (by decide)

end Sys2Proof.Proofs
end

section
/-! SUPPORT. Register frames, a one-bit field beside the rest of its word, and the fields of a register after an event. -/
namespace Sys2Proof.Proofs
open Sys2Proof.Machine

/-! An event that acts while the logic runs (R18). -/

theorem answers_live {i : Instr} {f : State → State} {s : State} {P : State → Prop} (hExec : exec i s = live f s)
    (hRun : running s = true) (hPost : P (f s)) : answers i s P :=
  ⟨f s, by rw [hExec]; simp only [live, hRun, if_true, done], hPost⟩

/-! Which registers a change leaves. -/

theorem keepsRegs_refl (s : State) (r : List Nat) : keepsRegs s s r := fun _ _ => rfl

theorem keepsRegs_trans {s t u : State} {r : List Nat} (h : keepsRegs s t r) (h' : keepsRegs t u r) : keepsRegs s u r :=
  fun a ha => (h' a ha).trans (h a ha)

theorem keepsRegs_mono {s t : State} {r r' : List Nat} (h : keepsRegs s t r) (hSub : r ⊆ r') : keepsRegs s t r' :=
  fun a ha => h a (fun hIn => ha (hSub hIn))

theorem keepsRegs_of_regs {s t : State} (h : t.regs = s.regs) (r : List Nat) : keepsRegs s t r := fun a _ => rd_congr h a

theorem keepsRegs_wr {a : Nat} {r : List Nat} (h : a ∈ r) (s : State) (w : Word) : keepsRegs s (wr s a w) r :=
  fun _ hb => rd_wr_other s a _ w (fun e => hb (e ▸ h))

theorem keepsRegs_fset {f : Fld} {r : List Nat} (h : f.reg ∈ r) (s : State) (v : Nat) : keepsRegs s (fset s f v) r :=
  keepsRegs_wr h s _

theorem keepsRegs_fsat {f : Fld} {r : List Nat} (h : f.reg ∈ r) (s : State) (d : Nat) : keepsRegs s (fsat s f d) r :=
  keepsRegs_wr h s _

theorem keepsRegs_raise {sev : Nat} (hSev : sev < 8) (cls inst : Nat) (k : EvKind) (vals : List Int) (s : State) :
    keepsRegs s (raise sev cls inst k vals s) noteRegs := fun a ha => rd_raise sev cls inst k vals s a ha hSev

theorem keepsRegs_forAll {α : Type} {f : α → State → State} {r : List Nat} (l : List α)
    (h : ∀ x ∈ l, ∀ s, keepsRegs s (f x s) r) (s : State) : keepsRegs s (forAll f l s) r := by
  induction l generalizing s with
  | nil => exact keepsRegs_refl s r
  | cons x xs ih =>
    exact keepsRegs_trans (h x List.mem_cons_self s) (ih (fun y hy => h y (List.mem_cons_of_mem x hy)) (f x s))

/-- What every step keeps holds at the end of a list. -/
theorem forAll_invariant {α : Type} {f : α → State → State} {P : State → Prop} (l : List α)
    (h : ∀ x ∈ l, ∀ s, P s → P (f x s)) {s : State} (hs : P s) : P (forAll f l s) := by
  induction l generalizing s with
  | nil => exact hs
  | cons x xs ih => exact ih (fun y hy => h y (List.mem_cons_of_mem x hy)) (h x List.mem_cons_self s hs)

/-- What the step of one element brings about, and every other step keeps, holds at the end of a list. -/
theorem forAll_reaches {α : Type} {f : α → State → State} {Q P : State → Prop} {l : List α} {x : α}
    (hQ : ∀ y ∈ l, ∀ s, Q s → Q (f y s)) (hx : x ∈ l) (hReach : ∀ s, Q s → P (f x s))
    (hKeep : ∀ y ∈ l, y ≠ x → ∀ s, P s → P (f y s)) {s : State} (hs : Q s) : P (forAll f l s) := by
  classical
  have hSteps : ∀ y ∈ l, ∀ s, (Q s ∧ P s) → Q (f y s) ∧ P (f y s) := fun y hy s ⟨hq, hp⟩ =>
    ⟨hQ y hy s hq, if e : y = x then e ▸ hReach s hq else hKeep y hy e s hp⟩
  induction l generalizing s with
  | nil => cases hx
  | cons y ys ih =>
    have hTail : ∀ z ∈ ys, z ∈ y :: ys := fun z => List.mem_cons_of_mem y
    rcases List.mem_cons.mp hx with rfl | hx'
    · exact (forAll_invariant ys (fun z hz => hSteps z (hTail z hz))
        ⟨hQ x List.mem_cons_self s hs, hReach s hs⟩).2
    · exact ih (fun z hz => hQ z (hTail z hz)) hx' (fun z hz => hKeep z (hTail z hz)) (hQ y List.mem_cons_self s hs)
        (fun z hz => hSteps z (hTail z hz))

/-! Fields by their registers. -/

theorem fget_of_rd {s t : State} {f : Fld} (h : rd t f.reg = rd s f.reg) : fget t f = fget s f := by simp only [fget, h]

theorem flag_of_rd {s t : State} {f : Fld} (h : rd t f.reg = rd s f.reg) : flag t f = flag s f := by
  simp only [flag, fget_of_rd h]

theorem fget_lt (s : State) (f : Fld) : fget s f < 2 ^ (f.hi - f.lo + 1) := bitsOf_lt _ _ _

theorem flag_fset_bit (s : State) {f : Fld} (hOne : f.hi = f.lo) (h32 : f.hi < 32) (b : Bool) :
    flag (fset s f (if b = true then 1 else 0)) f = b := by
  rw [flag, fget_fset_same _ _ _ hOne.ge h32, hOne]
  cases b <;> simp

theorem flag_fset_one (s : State) {f : Fld} (hOne : f.hi = f.lo) (h32 : f.hi < 32) : flag (fset s f 1) f = true :=
  flag_fset_bit s hOne h32 true

theorem flag_fset_zero (s : State) {f : Fld} (hOne : f.hi = f.lo) (h32 : f.hi < 32) : flag (fset s f 0) f = false :=
  flag_fset_bit s hOne h32 false

theorem flag_fset_reg (s : State) {f k : Fld} (v : Nat) (h : k.reg ≠ f.reg) : flag (fset s f v) k = flag s k := by
  simp only [flag, fget_fset_reg _ _ _ _ h]

/-- A field beside the written one keeps its value: both lie in one register and share no bit. -/
theorem fget_fset_apart (s : State) {f k : Fld} (v : Nat) (hr : k.reg = f.reg)
    (h : f.lo ≤ f.hi ∧ f.hi < 32 ∧ k.lo ≤ k.hi ∧ k.hi < 32 ∧ (k.hi < f.lo ∨ f.hi < k.lo)) : fget (fset s f v) k = fget s k := by
  obtain ⟨hf, hf32, hk, hk32, hApart⟩ := h
  exact fget_fset_beside s f k v hr hf hf32 hk hk32 hApart

theorem flag_fset_apart (s : State) {f k : Fld} (v : Nat) (hr : k.reg = f.reg)
    (h : f.lo ≤ f.hi ∧ f.hi < 32 ∧ k.lo ≤ k.hi ∧ k.hi < 32 ∧ (k.hi < f.lo ∨ f.hi < k.lo)) : flag (fset s f v) k = flag s k := by
  simp only [flag, fget_fset_apart s v hr h]

theorem getLsbD_rd_fset (s : State) {f : Fld} (v : Nat) {k : Nat} (h : f.lo ≤ f.hi) (h32 : f.hi < 32) (hk : k < 32)
    (hOut : k < f.lo ∨ f.hi < k) : (rd (fset s f v) f.reg).getLsbD k = (rd s f.reg).getLsbD k := by
  rw [fset, rd_wr_same, getLsbD_withBits _ _ _ _ _ h h32 hk, if_neg (by omega)]

/-- A saturating counter of its whole width. -/
theorem fget_fsat (s : State) {f : Fld} (d : Nat) (h : f.lo ≤ f.hi) (h32 : f.hi < 32) :
    fget (fsat s f d) f = min (2 ^ (f.hi - f.lo + 1) - 1) (fget s f + d) := by
  have hPos : 0 < 2 ^ (f.hi - f.lo + 1) := by positivity
  rw [fsat, fget_fset_same _ _ _ h h32, satAdd, Nat.mod_eq_of_lt (by omega), min_comm]

/-- A one-bit field holds b, and every other bit of its register is as it was. -/
def onlyBit (s t : State) (f : Fld) (b : Bool) : Prop :=
  flag t f = b ∧ ∀ k < 32, k ≠ f.lo → (rd t f.reg).getLsbD k = (rd s f.reg).getLsbD k

theorem onlyBit_fset {s t : State} {f : Fld} (b : Bool) (hBase : rd t f.reg = rd s f.reg) (hOne : f.hi = f.lo)
    (h32 : f.hi < 32) : onlyBit s (fset t f (if b = true then 1 else 0)) f b :=
  ⟨flag_fset_bit t hOne h32 b, fun k hk hNe => by rw [getLsbD_rd_fset t _ hOne.ge h32 hk (by omega), hBase]⟩

theorem onlyBit_of_rd {s t u : State} {f : Fld} {b : Bool} (h : onlyBit s t f b) (hRd : rd u f.reg = rd t f.reg) :
    onlyBit s u f b :=
  ⟨(flag_of_rd hRd).trans h.1, fun k hk hNe => by rw [hRd]; exact h.2 k hk hNe⟩

theorem onlyBit_self {s : State} {f : Fld} {b : Bool} (h : flag s f = b) : onlyBit s s f b := ⟨h, fun _ _ _ => rfl⟩

/-! The registers of the recorder's front lie above all others that events touch. -/

theorem le_of_mem_noteRegs {a : Nat} (h : a ∈ noteRegs) : 0xe0004 ≤ a := by
  simp only [noteRegs, List.mem_append, List.mem_cons, List.not_mem_nil, or_false, List.mem_map, List.mem_range,
    A.AGATE_STAT, A.AGATE_SUPP, A.AGATE_DROP] at h
  omega

theorem not_mem_noteRegs {a : Nat} (h : a < 0xe0004) : a ∉ noteRegs := fun hIn => by
  have := le_of_mem_noteRegs hIn
  omega

/-- A field below the recorder's registers keeps its value at an event. -/
theorem fget_raise {sev : Nat} (hSev : sev < 8) (cls inst : Nat) (k : EvKind) (vals : List Int) (s : State) {f : Fld}
    (h : f.reg < 0xe0004) : fget (raise sev cls inst k vals s) f = fget s f :=
  fget_of_rd (keepsRegs_raise hSev cls inst k vals s _ (not_mem_noteRegs h))

theorem flag_raise {sev : Nat} (hSev : sev < 8) (cls inst : Nat) (k : EvKind) (vals : List Int) (s : State) {f : Fld}
    (h : f.reg < 0xe0004) : flag (raise sev cls inst k vals s) f = flag s f := by
  simp only [flag, fget_raise hSev cls inst k vals s h]

/-- A field that takes a value with an event: its register and the recorder's front are all that differs. -/
theorem changesOnly_raise_fset {sev : Nat} (hSev : sev < 8) (cls inst : Nat) (k : EvKind) (vals : List Int) (s : State)
    (f : Fld) (v : Nat) : changesOnly s (raise sev cls inst k vals (fset s f v)) (f.reg :: noteRegs) [.events] :=
  ⟨keepsRegs_trans (keepsRegs_fset List.mem_cons_self s v)
      (keepsRegs_mono (keepsRegs_raise hSev cls inst k vals _) (List.subset_cons_self _ _)),
    fun _ hp => by rw [raise_same _ _ _ _ _ _ hp, fset_same _ _ _ (fun h => hp (List.mem_cons.mpr (.inl (List.mem_singleton.mp h))))]
                   exact Part.same_refl _ s⟩

theorem changesOnly_fset (s : State) (f : Fld) (v : Nat) : changesOnly s (fset s f v) [f.reg] [] :=
  ⟨keepsRegs_fset List.mem_cons_self s v, fun _ hp => (fset_same s f v hp).mpr (Part.same_refl _ s)⟩

theorem keeps_refl (s : State) (parts : List Part) : keeps s s parts := fun p _ => Part.same_refl p s

end Sys2Proof.Proofs
end

section
/-! SUPPORT. What the failure of an input changes: its own registers, its queue and the recorder's front (R75, R462, R474,
R475, R478). -/
namespace Sys2Proof.Proofs
open Sys2Proof.Machine

/-! A hardware producer's item (R328, R329). -/

/-- The registers of a queue that a hardware producer's item can change. -/
def queueRegs (q : Nat) : List Nat := [A.QDROP q, A.QHWM q, A.QPCNT q, A.QSTAT q]

theorem keepsRegs_setQueue (q : Nat) (x : Queue) (s : State) (r : List Nat) : keepsRegs s (setQueue q x s) r := fun _ _ => rfl

theorem keepsRegs_commitItem (q : Nat) (item : List QWord) (s : State) : keepsRegs s (commitItem q item s) (queueRegs q) := by
  intro a ha
  simp only [queueRegs, List.mem_cons, List.not_mem_nil, or_false, not_or] at ha
  obtain ⟨-, hHwm, hCount, -⟩ := ha
  rw [commitItem, countCommit, noteHwm, rd_fmax _ _ _ _ hHwm, rd_fwrap _ _ _ _ hCount]
  rfl

theorem keepsRegs_dropItem (q : Nat) (s : State) :
    keepsRegs s (fsat (fset s (F.QSTAT_DROP q) 1) (F.QDROP_COUNT q) 1) (queueRegs q) :=
  keepsRegs_trans (keepsRegs_fset (by simp [queueRegs]) s 1) (keepsRegs_fsat (by simp [queueRegs]) _ 1)

theorem keepsRegs_holdItem (q : Nat) (x : Queue) (s : State) :
    keepsRegs s (fset (setQueue q x s) (F.QSTAT_BP_SEEN q) 1) (queueRegs q) :=
  keepsRegs_trans (keepsRegs_setQueue q x s _) (keepsRegs_fset (by simp [queueRegs]) _ 1)

theorem keepsRegs_deliver (q : Nat) (item : List QWord) (s : State) : keepsRegs s (deliver q item s) (queueRegs q) := by
  unfold deliver
  split
  case isTrue => exact keepsRegs_dropItem q s
  case isFalse =>
    split
    case h_1 =>
      split
      · exact keepsRegs_commitItem q item s
      · exact keepsRegs_holdItem q _ s
    case h_2 held _ =>
      split
      case isTrue =>
        have hHeld : keepsRegs s (commitItem q held (setQueue q { queueOf s q with held := none } s)) (queueRegs q) :=
          keepsRegs_trans (keepsRegs_setQueue q _ s _) (keepsRegs_commitItem q held _)
        dsimp only
        split
        · exact keepsRegs_trans hHeld (keepsRegs_commitItem q item _)
        · exact keepsRegs_trans hHeld (keepsRegs_holdItem q _ _)
      case isFalse => exact keepsRegs_dropItem q s

/-! One feedback input. -/

/-- The registers that a failure of feedback input n can change, but for the recorder's front. -/
def inputRegs (n : Nat) : List Nat := [A.FB_STAT n, A.FB_SPEED n, A.FB_ERRCNT n] ++ queueRegs (99 + n / 6)

theorem queueRegs_subset_inputRegs (n : Nat) : queueRegs (99 + n / 6) ⊆ inputRegs n := List.subset_append_right _ _

theorem keepsRegs_noteFbState (n t : Nat) (s : State) : keepsRegs s (noteFbState n t s) (queueRegs (99 + n / 6)) := by
  unfold noteFbState
  dsimp only
  split
  case isTrue => exact keepsRegs_refl s _
  case isFalse => exact keepsRegs_trans (keepsRegs_of_regs rfl _) (keepsRegs_deliver _ _ (setFb n _ s))

theorem keepsRegs_dropPeriods (n : Nat) (s : State) : keepsRegs s (dropPeriods n s) (inputRegs n) := by
  have hEnd (u : State) : keepsRegs u
      (fset (fset (setFb n { fbOf u n with periods := [], timing := none, skip := false } u) (F.FB_STAT_REV_HOLD n) 0)
        (F.FB_SPEED_SPEED n) 0) (inputRegs n) :=
    keepsRegs_trans (keepsRegs_of_regs rfl _) (keepsRegs_trans (keepsRegs_fset (by simp [inputRegs]) _ 0)
      (keepsRegs_fset (by simp [inputRegs]) _ 0))
  unfold dropPeriods
  dsimp only
  split
  case isTrue => exact hEnd s
  case isFalse => exact keepsRegs_trans (keepsRegs_of_regs rfl _) (hEnd _)

/-- The flags of a failed range check, before its count and its records. -/
def rangeFlags (n : Nat) (s : State) : State :=
  fset (fset (fset (dropPeriods n s) (F.FB_STAT_RANGE n) 1) (F.FB_STAT_RANGE_SEEN n) 1) (F.FB_STAT_STALE n) 1

theorem failRange_of_failed {n : Nat} {s : State} (t : Nat) (h : flag s (F.FB_STAT_RANGE n) = true) : failRange n t s = s := by
  simp only [failRange, h, if_true]

theorem failRange_of_good {n : Nat} {s : State} (t : Nat) (h : flag s (F.FB_STAT_RANGE n) = false) :
    failRange n t s = noteFbState n t (raise 2 6 n .fbRange [n] (fsat (rangeFlags n s) (F.FB_ERRCNT_RANGE_ERR n) 1)) := by
  simp only [failRange, h, Bool.false_eq_true, if_false]
  rfl

theorem keepsRegs_rangeFlags (n : Nat) (s : State) : keepsRegs s (rangeFlags n s) (inputRegs n) := by
  have hStat : A.FB_STAT n ∈ inputRegs n := by simp [inputRegs]
  exact keepsRegs_trans (keepsRegs_dropPeriods n s) (keepsRegs_trans (keepsRegs_fset hStat _ 1)
    (keepsRegs_trans (keepsRegs_fset hStat _ 1) (keepsRegs_fset hStat _ 1)))

theorem keepsRegs_failRange (n t : Nat) (s : State) : keepsRegs s (failRange n t s) (inputRegs n ++ noteRegs) := by
  cases h : flag s (F.FB_STAT_RANGE n) with
  | true => rw [failRange_of_failed t h]; exact keepsRegs_refl s _
  | false =>
    rw [failRange_of_good t h]
    have hOwn {u v : State} (h : keepsRegs u v (inputRegs n)) : keepsRegs u v (inputRegs n ++ noteRegs) :=
      keepsRegs_mono h (List.subset_append_left _ _)
    exact keepsRegs_trans (hOwn (keepsRegs_trans (keepsRegs_rangeFlags n s) (keepsRegs_fsat (by simp [inputRegs]) _ 1)))
      (keepsRegs_trans (keepsRegs_mono (keepsRegs_raise (by decide) _ _ _ _ _) (List.subset_append_right _ _))
        (hOwn (keepsRegs_mono (keepsRegs_noteFbState n t _) (queueRegs_subset_inputRegs n))))

theorem not_mem_queueRegs {a q : Nat} (hq : q < 103) (ha : 0xA000 ≤ a) : a ∉ queueRegs q := by
  simp only [queueRegs, A.QDROP, A.QHWM, A.QPCNT, A.QSTAT, List.mem_cons, List.not_mem_nil, or_false]
  omega

/-- The records of a state leave the input's own registers. -/
theorem rd_noteFbState {n a : Nat} (hn : n < 24) (ha : 0xA000 ≤ a) (t : Nat) (s : State) : rd (noteFbState n t s) a = rd s a :=
  keepsRegs_noteFbState n t s a (not_mem_queueRegs (by omega) ha)

theorem FB_STAT_bounds {n : Nat} (hn : n < 24) : 0xA000 ≤ A.FB_STAT n ∧ A.FB_STAT n < 0x41000 := by
  simp only [A.FB_STAT]; omega

/-- What a state record and an event leave of a flag of the input. -/
theorem flag_noteFbState_raise {n : Nat} (hn : n < 24) {f : Fld} (hf : f.reg = A.FB_STAT n) {sev : Nat} (hSev : sev < 8)
    (t cls inst : Nat) (k : EvKind) (vals : List Int) (s : State) :
    flag (noteFbState n t (raise sev cls inst k vals s)) f = flag s f := by
  obtain ⟨hLow, hHigh⟩ := FB_STAT_bounds hn
  rw [flag_of_rd (rd_noteFbState hn (hf ▸ hLow) t _), flag_raise hSev _ _ _ _ _ (by omega)]

theorem flag_range_rangeFlags (n : Nat) (s : State) : flag (rangeFlags n s) (F.FB_STAT_RANGE n) = true := by
  rw [rangeFlags, flag_fset_apart (f := F.FB_STAT_STALE n) (k := F.FB_STAT_RANGE n) _ _ rfl (by simp),
    flag_fset_apart (f := F.FB_STAT_RANGE_SEEN n) (k := F.FB_STAT_RANGE n) _ _ rfl (by simp), flag_fset_one _ rfl (by simp)]

theorem flag_range_failRange {n : Nat} (hn : n < 24) (t : Nat) (s : State) :
    flag (failRange n t s) (F.FB_STAT_RANGE n) = true := by
  cases h : flag s (F.FB_STAT_RANGE n) with
  | true => rw [failRange_of_failed t h]; exact h
  | false =>
    rw [failRange_of_good t h, flag_noteFbState_raise hn rfl (by decide), fsat,
      flag_fset_reg _ _ (by simp only [A.FB_STAT, A.FB_ERRCNT]; omega), flag_range_rangeFlags]

theorem keepsRegs_failSsi (n : Nat) (s : State) : keepsRegs s (failSsi n s) (inputRegs n ++ noteRegs) := by
  unfold failSsi
  split
  case isTrue => exact keepsRegs_refl s _
  case isFalse =>
    exact keepsRegs_trans (keepsRegs_fset (by simp [inputRegs]) s 1)
      (keepsRegs_trans (keepsRegs_mono (keepsRegs_raise (by decide) _ _ _ _ _) (List.subset_append_right _ _))
        (keepsRegs_mono (keepsRegs_noteFbState n _ _)
          (List.Subset.trans (queueRegs_subset_inputRegs n) (List.subset_append_left _ _))))

theorem flag_stale_failSsi {n : Nat} (hn : n < 24) {s : State} (hMode : fbMode s n = 5) :
    flag (failSsi n s) (F.FB_STAT_STALE n) = true := by
  cases h : flag s (F.FB_STAT_STALE n) with
  | true => simp only [failSsi, h, or_true, if_true]
  | false =>
    simp only [failSsi, hMode, h, ne_eq, not_true_eq_false, Bool.false_eq_true, or_self, if_false]
    rw [flag_noteFbState_raise hn rfl (by decide), flag_fset_one _ rfl (by simp)]

/-! The data of the inputs beyond their registers. -/

/-- Of the feedback beyond its registers nothing differs but feedback input n. -/
def onlyInput (s t : State) (n : Nat) : Prop :=
  t.fb = { s.fb with ins := t.fb.ins } ∧ ∀ j, j ≠ n → fbOf t j = fbOf s j

theorem onlyInput_trans {s t u : State} {n : Nat} (h : onlyInput s t n) (h' : onlyInput t u n) : onlyInput s u n :=
  ⟨by rw [h'.1, h.1], fun j hj => (h'.2 j hj).trans (h.2 j hj)⟩

theorem onlyInput_of_fb {s t : State} (h : t.fb = s.fb) (n : Nat) : onlyInput s t n :=
  ⟨by rw [h], fun j _ => fbOf_congr h j⟩

theorem onlyInput_setFb (n : Nat) (x : FbIn) (s : State) : onlyInput s (setFb n x s) n :=
  ⟨rfl, fun j hj => fbOf_setFb_other s n j x hj⟩

theorem raise_fb (sev cls inst : Nat) (k : EvKind) (vals : List Int) (s : State) : (raise sev cls inst k vals s).fb = s.fb :=
  (raise_same (pt := .fb) (s₀ := s) sev cls inst k vals s (by decide)).mpr rfl

theorem fbRecord_fb (n kind t flags hi : Nat) (s : State) : (fbRecord n kind t flags hi s).fb = s.fb :=
  (fbRecord_same (pt := .fb) (s₀ := s) n kind t flags hi s (by decide)).mpr rfl

theorem failAi_fb (m : Nat) (k : EvKind) (vals : List Int) (s : State) : (failAi m k vals s).fb = s.fb :=
  (failAi_same (pt := .fb) (s₀ := s) m k vals s (by decide)).mpr rfl

theorem onlyInput_noteFbState (n t : Nat) (s : State) : onlyInput s (noteFbState n t s) n := by
  unfold noteFbState
  dsimp only
  split
  case isTrue => exact onlyInput_of_fb rfl n
  case isFalse =>
    exact onlyInput_trans (onlyInput_setFb n _ s)
      (onlyInput_of_fb (fbRecord_fb _ _ _ _ _ _) n)

theorem onlyInput_dropPeriods (n : Nat) (s : State) : onlyInput s (dropPeriods n s) n := by
  unfold dropPeriods
  dsimp only
  split
  case isTrue => exact onlyInput_trans (onlyInput_setFb n _ s) (onlyInput_of_fb ((fset_fb _ _ _).trans (fset_fb _ _ _)) n)
  case isFalse =>
    exact onlyInput_trans (onlyInput_setFb n _ s) (onlyInput_trans (onlyInput_setFb n _ _)
      (onlyInput_of_fb ((fset_fb _ _ _).trans (fset_fb _ _ _)) n))

theorem onlyInput_failRange (n t : Nat) (s : State) : onlyInput s (failRange n t s) n := by
  cases h : flag s (F.FB_STAT_RANGE n) with
  | true => rw [failRange_of_failed t h]; exact onlyInput_of_fb rfl n
  | false =>
    rw [failRange_of_good t h]
    have hFlags : onlyInput s (rangeFlags n s) n := onlyInput_trans (onlyInput_dropPeriods n s)
      (onlyInput_of_fb ((fset_fb _ _ _).trans ((fset_fb _ _ _).trans (fset_fb _ _ _))) n)
    exact onlyInput_trans hFlags (onlyInput_trans (onlyInput_of_fb ((raise_fb _ _ _ _ _ _).trans (fsat_fb _ _ _)) n)
      (onlyInput_noteFbState n t _))

theorem onlyInput_failSsi (n : Nat) (s : State) : onlyInput s (failSsi n s) n := by
  unfold failSsi
  split
  case isTrue => exact onlyInput_of_fb rfl n
  case isFalse =>
    exact onlyInput_trans (onlyInput_of_fb ((raise_fb _ _ _ _ _ _).trans (fset_fb _ _ _)) n) (onlyInput_noteFbState n _ _)

/-! An input of a supply that goes down. -/

/-- Feedback input n fails its check or its timeout, by its mode. -/
def failInput (n : Nat) (s : State) : State :=
  if 1 ≤ fbMode s n ∧ fbMode s n ≤ 4 then failRange n s.mtime s else failSsi n s

/-- Analog input m, where it is enabled and in its range, fails it. -/
def failAnalog (m : Nat) (s : State) : State :=
  if flag s (F.AI_CFG_EN m) && !flag s (F.AI_STAT_RANGE m) then failAi m .aiRange [m, (aiOf s m).filt] s else s

/-- The feedback inputs that supply k powers. -/
def inputsOf (k : Nat) : List Nat := (List.range 24).filter (fun i => decide (Config.inputSupply i = k))
/-- The analog inputs that supply k powers. -/
def analogsOf (k : Nat) : List Nat := (List.range 16).filter (fun m => decide (Config.inputSupply (24 + m) = k))

theorem failPowered_eq (k : Nat) (s : State) :
    failPowered k s = forAll failAnalog (analogsOf k) (forAll failInput (inputsOf k) s) := rfl

theorem mem_inputsOf {k n : Nat} : n ∈ inputsOf k ↔ n < 24 ∧ Config.inputSupply n = k := by
  simp only [inputsOf, List.mem_filter, List.mem_range, decide_eq_true_eq]

theorem mem_analogsOf {k m : Nat} : m ∈ analogsOf k ↔ m < 16 ∧ Config.inputSupply (24 + m) = k := by
  simp only [analogsOf, List.mem_filter, List.mem_range, decide_eq_true_eq]

theorem keepsRegs_failInput (n : Nat) (s : State) : keepsRegs s (failInput n s) (inputRegs n ++ noteRegs) := by
  unfold failInput
  split
  case isTrue => exact keepsRegs_failRange n _ s
  case isFalse => exact keepsRegs_failSsi n s

theorem onlyInput_failInput (n : Nat) (s : State) : onlyInput s (failInput n s) n := by
  unfold failInput
  split
  case isTrue => exact onlyInput_failRange n _ s
  case isFalse => exact onlyInput_failSsi n s

/-- Feedback input n has failed: out of range in a counting mode, stale as an SSI input. The mode is that of state s. -/
def inputFailed (s t : State) (n : Nat) : Prop :=
  (1 ≤ fbMode s n → fbMode s n ≤ 4 → flag t (F.FB_STAT_RANGE n) = true) ∧
    (fbMode s n = 5 → flag t (F.FB_STAT_STALE n) = true)

theorem inputFailed_failInput {n : Nat} (hn : n < 24) (s : State) : inputFailed s (failInput n s) n := by
  refine ⟨fun hLow hHigh => ?_, fun hMode => ?_⟩
  · rw [failInput, if_pos ⟨hLow, hHigh⟩]
    exact flag_range_failRange hn _ s
  · rw [failInput, if_neg (by omega)]
    exact flag_stale_failSsi hn hMode

theorem inputFailed_of_rd {s t u : State} {n : Nat} (h : inputFailed s t n) (hRd : rd u (A.FB_STAT n) = rd t (A.FB_STAT n)) :
    inputFailed s u n :=
  ⟨fun hLow hHigh => (flag_of_rd hRd).trans (h.1 hLow hHigh), fun hMode => (flag_of_rd hRd).trans (h.2 hMode)⟩

/-- A change that leaves the registers FB_CFG leaves the modes. -/
theorem fbMode_of_rd {s t : State} {n : Nat} (hn : n < 24) (h : ∀ j < 24, rd t (A.FB_CFG j) = rd s (A.FB_CFG j)) :
    fbMode t n = fbMode s n := by
  have hField (j : Nat) (hj : j < 24) : fget t (F.FB_CFG_MODE j) = fget s (F.FB_CFG_MODE j) := fget_of_rd (h j hj)
  simp only [fbMode, hField n hn, hField (n - 1) (by omega)]

theorem inputFailed_of_cfg {s t u : State} {n : Nat} (hn : n < 24) (hCfg : ∀ j < 24, rd t (A.FB_CFG j) = rd s (A.FB_CFG j))
    (h : inputFailed t u n) : inputFailed s u n := by
  rwa [inputFailed, fbMode_of_rd hn hCfg] at h

/-- A failure of input m leaves every register of the inputs but its own. -/
theorem rd_failInput {m a : Nat} (hm : m < 24) (hLow : 0xA000 ≤ a) (hHigh : a < 0xe0004)
    (h : a ∉ [A.FB_STAT m, A.FB_SPEED m, A.FB_ERRCNT m]) (s : State) : rd (failInput m s) a = rd s a := by
  refine keepsRegs_failInput m s a ?_
  simp only [inputRegs, List.mem_append, not_or]
  exact ⟨⟨h, not_mem_queueRegs (by omega) hLow⟩, not_mem_noteRegs hHigh⟩

theorem rd_cfg_failInput {m : Nat} (hm : m < 24) (j : Nat) (hj : j < 24) (s : State) :
    rd (failInput m s) (A.FB_CFG j) = rd s (A.FB_CFG j) :=
  rd_failInput hm (by simp only [A.FB_CFG]; omega) (by simp only [A.FB_CFG]; omega)
    (by simp only [A.FB_CFG, A.FB_STAT, A.FB_SPEED, A.FB_ERRCNT, List.mem_cons, List.not_mem_nil, or_false]; omega) s

theorem rd_stat_failInput {m n : Nat} (hm : m < 24) (hn : n < 24) (h : m ≠ n) (s : State) :
    rd (failInput m s) (A.FB_STAT n) = rd s (A.FB_STAT n) :=
  rd_failInput hm (by simp only [A.FB_STAT]; omega) (by simp only [A.FB_STAT]; omega)
    (by simp only [A.FB_STAT, A.FB_SPEED, A.FB_ERRCNT, List.mem_cons, List.not_mem_nil, or_false]; omega) s

/-- The analog registers lie above those of the feedback inputs. -/
theorem rd_analog_failInput {m a : Nat} (hm : m < 24) (hLow : 0x41000 ≤ a) (hHigh : a < 0xe0004) (s : State) :
    rd (failInput m s) a = rd s a :=
  rd_failInput hm (by omega) hHigh
    (by simp only [A.FB_STAT, A.FB_SPEED, A.FB_ERRCNT, List.mem_cons, List.not_mem_nil, or_false]; omega) s

/-! One analog input (R475). -/

/-- The registers that a failure of analog input m can change, but for the recorder's front. -/
def analogRegs (m : Nat) : List Nat := [A.AI_STAT m, A.AI_ERRCNT m]

theorem keepsRegs_failAi (m : Nat) (k : EvKind) (vals : List Int) (s : State) :
    keepsRegs s (failAi m k vals s) (analogRegs m ++ noteRegs) := by
  have hStat : A.AI_STAT m ∈ analogRegs m ++ noteRegs := by simp [analogRegs]
  have hCount : A.AI_ERRCNT m ∈ analogRegs m ++ noteRegs := by simp [analogRegs]
  exact keepsRegs_trans (keepsRegs_fset hStat s 1) (keepsRegs_trans (keepsRegs_fset hStat _ 1)
    (keepsRegs_trans (keepsRegs_fsat hCount _ 1)
      (keepsRegs_mono (keepsRegs_raise (by decide) _ _ _ _ _) (List.subset_append_right _ _))))

theorem flag_range_failAi {m : Nat} (hm : m < 16) (k : EvKind) (vals : List Int) (s : State) :
    flag (failAi m k vals s) (F.AI_STAT_RANGE m) = true := by
  rw [failAi, flag_raise (by decide) _ _ _ _ _ (by simp only [A.AI_STAT]; omega), fsat,
    flag_fset_reg _ _ (by simp only [A.AI_STAT, A.AI_ERRCNT]; omega),
    flag_fset_apart (f := F.AI_STAT_RANGE_SEEN m) (k := F.AI_STAT_RANGE m) _ _ rfl (by simp), flag_fset_one _ rfl (by simp)]

theorem keepsRegs_failAnalog (m : Nat) (s : State) : keepsRegs s (failAnalog m s) (analogRegs m ++ noteRegs) := by
  unfold failAnalog
  split
  case isTrue => exact keepsRegs_failAi m _ _ s
  case isFalse => exact keepsRegs_refl s _

theorem flag_range_failAnalog {m : Nat} (hm : m < 16) {s : State} (hOn : flag s (F.AI_CFG_EN m) = true) :
    flag (failAnalog m s) (F.AI_STAT_RANGE m) = true := by
  cases h : flag s (F.AI_STAT_RANGE m) with
  | true => simp only [failAnalog, h, Bool.not_true, Bool.and_false, Bool.false_eq_true, if_false]
  | false =>
    simp only [failAnalog, hOn, h, Bool.not_false, Bool.and_true, if_true]
    exact flag_range_failAi hm _ _ s

theorem fb_failAnalog (m : Nat) (s : State) : (failAnalog m s).fb = s.fb := by
  unfold failAnalog
  split
  case isTrue => exact failAi_fb m _ _ s
  case isFalse => rfl

theorem rd_failAnalog {m a : Nat} (hHigh : a < 0xe0004) (h : a ∉ analogRegs m) (s : State) : rd (failAnalog m s) a = rd s a := by
  refine keepsRegs_failAnalog m s a ?_
  simp only [List.mem_append, not_or]
  exact ⟨h, not_mem_noteRegs hHigh⟩

theorem rd_below_failAnalog {m a : Nat} (h : a < 0x41000) (s : State) : rd (failAnalog m s) a = rd s a :=
  rd_failAnalog (by omega) (by simp only [analogRegs, A.AI_STAT, A.AI_ERRCNT, List.mem_cons, List.not_mem_nil, or_false]; omega) s

theorem rd_stat_failAnalog {m j : Nat} (hm : m < 16) (hj : j < 16) (h : m ≠ j) (s : State) :
    rd (failAnalog m s) (A.AI_STAT j) = rd s (A.AI_STAT j) :=
  rd_failAnalog (by simp only [A.AI_STAT]; omega)
    (by simp only [analogRegs, A.AI_STAT, A.AI_ERRCNT, List.mem_cons, List.not_mem_nil, or_false]; omega) s

theorem rd_cfg_failAnalog {m j : Nat} (hm : m < 16) (hj : j < 16) (s : State) :
    rd (failAnalog m s) (A.AI_CFG j) = rd s (A.AI_CFG j) :=
  rd_failAnalog (by simp only [A.AI_CFG]; omega)
    (by simp only [analogRegs, A.AI_CFG, A.AI_STAT, A.AI_ERRCNT, List.mem_cons, List.not_mem_nil, or_false]; omega) s

/-! Every input of the supply (R75, R478). -/

/-- The registers that the failure of a supply's inputs can change. -/
def failingRegs : List Nat := (List.range 24).flatMap inputRegs ++ (List.range 16).flatMap analogRegs ++ noteRegs

/-- They are registers of queues, of inputs and of the recorder's front: SYS and AON registers lie below, those of the pins and
FB_GLOBAL between. -/
theorem not_mem_failingRegs {a : Nat} (h : a < 0x8000 ∨ (0x42000 ≤ a ∧ a < 0xe0004)) : a ∉ failingRegs := by
  intro hIn
  simp only [failingRegs, inputRegs, queueRegs, analogRegs, List.mem_append, List.mem_flatMap, List.mem_range, List.mem_cons,
    List.not_mem_nil, or_false] at hIn
  obtain (⟨n, hn, hReg⟩ | ⟨m, hm, hReg⟩) | hReg := hIn
  · simp only [A.FB_STAT, A.FB_SPEED, A.FB_ERRCNT, A.QDROP, A.QHWM, A.QPCNT, A.QSTAT] at hReg
    omega
  · simp only [A.AI_STAT, A.AI_ERRCNT] at hReg
    omega
  · exact not_mem_noteRegs (by omega) hReg

theorem failPowered_regs (k : Nat) (s : State) : keepsRegs s (failPowered k s) failingRegs := by
  rw [failPowered_eq]
  refine keepsRegs_trans (keepsRegs_forAll _ (fun n hn u => ?_) s) (keepsRegs_forAll _ (fun m hm u => ?_) _)
  · refine keepsRegs_mono (keepsRegs_failInput n u) (List.append_subset.mpr ⟨fun a ha => ?_, List.subset_append_right _ _⟩)
    exact List.mem_append_left _ (List.mem_append_left _ (List.mem_flatMap.mpr ⟨n, List.mem_range.mpr (mem_inputsOf.mp hn).1, ha⟩))
  · refine keepsRegs_mono (keepsRegs_failAnalog m u) (List.append_subset.mpr ⟨fun a ha => ?_, List.subset_append_right _ _⟩)
    exact List.mem_append_left _ (List.mem_append_right _ (List.mem_flatMap.mpr ⟨m, List.mem_range.mpr (mem_analogsOf.mp hm).1, ha⟩))

/-- The registers of the feedback inputs are as the failures of the feedback inputs leave them. -/
theorem rd_failPowered_below {a : Nat} (h : a < 0x41000) (k : Nat) (s : State) :
    rd (failPowered k s) a = rd (forAll failInput (inputsOf k) s) a := by
  rw [failPowered_eq]
  exact forAll_invariant (P := fun u => rd u a = _) _ (fun _ _ u hu => (rd_below_failAnalog h u).trans hu) rfl

theorem failPowered_fb_eq (k : Nat) (s : State) : (failPowered k s).fb = (forAll failInput (inputsOf k) s).fb := by
  rw [failPowered_eq]
  exact forAll_invariant (P := fun u => u.fb = _) _ (fun m _ u hu => (fb_failAnalog m u).trans hu) rfl

theorem failPowered_input {k n : Nat} (hn : n < 24) (hPow : Config.inputSupply n = k) (s : State) :
    inputFailed s (failPowered k s) n := by
  refine inputFailed_of_rd ?_ (rd_failPowered_below (by simp only [A.FB_STAT]; omega) k s)
  refine forAll_reaches (Q := fun u => ∀ j < 24, rd u (A.FB_CFG j) = rd s (A.FB_CFG j)) (P := fun u => inputFailed s u n)
    (fun m hm u hu j hj => (rd_cfg_failInput (mem_inputsOf.mp hm).1 j hj u).trans (hu j hj)) (mem_inputsOf.mpr ⟨hn, hPow⟩)
    (fun u hu => inputFailed_of_cfg hn hu (inputFailed_failInput hn u))
    (fun m hm hNe u hu => inputFailed_of_rd hu (rd_stat_failInput (mem_inputsOf.mp hm).1 hn hNe u)) (fun _ _ => rfl)

theorem failPowered_other_input {k n : Nat} (hn : n < 24) (hPow : Config.inputSupply n ≠ k) (s : State) :
    fbOf (failPowered k s) n = fbOf s n ∧ rd (failPowered k s) (A.FB_STAT n) = rd s (A.FB_STAT n) := by
  have hNe (m : Nat) (hm : m ∈ inputsOf k) : m ≠ n := fun e => hPow (e ▸ (mem_inputsOf.mp hm).2)
  rw [fbOf_congr (failPowered_fb_eq k s), rd_failPowered_below (by simp only [A.FB_STAT]; omega)]
  exact forAll_invariant (P := fun u => fbOf u n = fbOf s n ∧ rd u (A.FB_STAT n) = rd s (A.FB_STAT n)) _
    (fun m hm u ⟨hData, hReg⟩ => ⟨((onlyInput_failInput m u).2 n (hNe m hm).symm).trans hData,
      (rd_stat_failInput (mem_inputsOf.mp hm).1 hn (hNe m hm) u).trans hReg⟩) ⟨rfl, rfl⟩

theorem failPowered_fb (k : Nat) (s : State) : (failPowered k s).fb = { s.fb with ins := (failPowered k s).fb.ins } := by
  rw [failPowered_fb_eq]
  exact forAll_invariant (P := fun u => u.fb = { s.fb with ins := u.fb.ins }) _
    (fun m _ u hu => by rw [(onlyInput_failInput m u).1, hu]) rfl

/-- The failures of the feedback inputs leave the analog inputs. -/
theorem rd_analog_failInputs {a : Nat} (hLow : 0x41000 ≤ a) (hHigh : a < 0xe0004) (k : Nat) (s : State) :
    rd (forAll failInput (inputsOf k) s) a = rd s a :=
  forAll_invariant (P := fun u => rd u a = rd s a) _
    (fun _ hm u hu => (rd_analog_failInput (mem_inputsOf.mp hm).1 hLow hHigh u).trans hu) rfl

theorem failPowered_analog {k m : Nat} (hm : m < 16) (hPow : Config.inputSupply (24 + m) = k) {s : State}
    (hOn : flag s (F.AI_CFG_EN m) = true) : flag (failPowered k s) (F.AI_STAT_RANGE m) = true := by
  rw [failPowered_eq]
  refine forAll_reaches (Q := fun u => rd u (A.AI_CFG m) = rd s (A.AI_CFG m)) (P := fun u => flag u (F.AI_STAT_RANGE m) = true)
    (fun j hj u hu => (rd_cfg_failAnalog (mem_analogsOf.mp hj).1 hm u).trans hu) (mem_analogsOf.mpr ⟨hm, hPow⟩)
    (fun u hu => flag_range_failAnalog hm ((flag_of_rd hu).trans hOn))
    (fun j hj hNe u hu => (flag_of_rd (rd_stat_failAnalog (mem_analogsOf.mp hj).1 hm hNe u)).trans hu)
    (rd_analog_failInputs (by simp only [A.AI_CFG]; omega) (by simp only [A.AI_CFG]; omega) k s)

theorem failPowered_other_analog {k m : Nat} (hm : m < 16) (hPow : Config.inputSupply (24 + m) ≠ k) (s : State) :
    rd (failPowered k s) (A.AI_STAT m) = rd s (A.AI_STAT m) := by
  rw [failPowered_eq]
  refine forAll_invariant (P := fun u => rd u (A.AI_STAT m) = rd s (A.AI_STAT m)) _ (fun j hj u hu => ?_)
    (rd_analog_failInputs (by simp only [A.AI_STAT]; omega) (by simp only [A.AI_STAT]; omega) k s)
  obtain ⟨hj16, hjPow⟩ := mem_analogsOf.mp hj
  exact (rd_stat_failAnalog hj16 hm (fun e => hPow (e ▸ hjPow)) u).trans hu

end Sys2Proof.Proofs
end

section
/-! SUPPORT. The monitors of the supplies (R51 to R55, R74 to R77, R478). -/
namespace Sys2Proof.Proofs
open Sys2Proof.Machine

/-! The word SUPPLY_STAT lies apart from the recorder's front. -/

theorem SUPPLY_STAT_not_note : A.SUPPLY_STAT ∉ noteRegs := not_mem_noteRegs (by decide)

theorem rd_supplyRecord {sev : Nat} (hSev : sev < 8) (k : EvKind) (vals : List Int) (s : State) :
    rd (supplyRecord sev k vals s) A.SUPPLY_STAT = rd s A.SUPPLY_STAT := rd_raise _ _ _ _ _ _ _ SUPPLY_STAT_not_note hSev

/-- What a flag of SUPPLY_STAT with its record leaves: only the recorder's front beside that one bit. -/
theorem supplyRecord_fset {sev : Nat} (hSev : sev < 8) (k : EvKind) (vals : List Int) (s : State) {f : Fld}
    (hReg : f.reg = A.SUPPLY_STAT) (hOne : f.hi = f.lo) (h32 : f.hi < 32) :
    changesOnly s (supplyRecord sev k vals (fset s f 1)) (A.SUPPLY_STAT :: noteRegs) [.events] ∧
      onlyBit s (supplyRecord sev k vals (fset s f 1)) f true :=
  ⟨hReg ▸ changesOnly_raise_fset hSev 15 4 k vals s f 1,
    onlyBit_of_rd (onlyBit_fset true rfl hOne h32) (hReg ▸ rd_supplyRecord hSev k vals _)⟩

/-! The bands of ECU_PWR and the base (R51, R77). -/

theorem bandEntry_of_standing {s : State} (h : flag s (bandFlag true) = true) : bandEntry true s = s := by
  simp only [bandEntry, bandFlag, if_true] at h ⊢
  simp only [h, Bool.and_self, if_true]

theorem bandEntry_of_entry {high : Bool} {s : State} (h : high = false ∨ flag s (bandFlag high) = false) :
    bandEntry high s = supplyRecord 3 .ecuBand [if high then 1 else 0] (fset s (bandFlag high) 1) := by
  have hGuard : (high && flag s F.SUPPLY_STAT_ECU_HIGH) = false := by
    cases high with
    | false => rfl
    | true => simpa [bandFlag] using h
  simp only [bandEntry, hGuard, Bool.false_eq_true, if_false]

theorem bandFlag_bit (high : Bool) : (bandFlag high).reg = A.SUPPLY_STAT ∧ (bandFlag high).hi = (bandFlag high).lo ∧
    (bandFlag high).hi < 32 := by
  cases high <;> decide

theorem baseHot_of_hot {s : State} (h : flag s F.SUPPLY_STAT_BASE_HOT = true) : baseHot s = s := by
  simp only [baseHot, h, if_true]

theorem baseHot_of_cool {s : State} (h : flag s F.SUPPLY_STAT_BASE_HOT = false) :
    baseHot s = supplyRecord 3 .baseHot [] (fset s F.SUPPLY_STAT_BASE_HOT 1) := by
  simp only [baseHot, h, Bool.false_eq_true, if_false]

/-! A dropout (R53). -/

theorem dropoutEnd_of_normal {s : State} (h : s.sup.power = .normal) (dur mv : Nat) : dropoutEnd dur mv s =
    supplyRecord 2 .dropout [dur, mv] (fsat (fset s F.SUPPLY_STAT_DROPOUT 1) F.SUPPLY_STAT_DROPOUT_CNT 1) := by
  simp only [dropoutEnd, h, ne_eq, not_true_eq_false, if_false]

theorem dropoutEnd_of_other {s : State} (h : s.sup.power ≠ .normal) (dur mv : Nat) : dropoutEnd dur mv s = s := by
  simp only [dropoutEnd, h, ne_eq, not_false_eq_true, if_true]

theorem dropoutEnd_changesOnly (dur mv : Nat) {s : State} (h : s.sup.power = .normal) :
    changesOnly s (dropoutEnd dur mv s) (A.SUPPLY_STAT :: noteRegs) [.events] := by
  refine ⟨?_, fun p hp => (dropoutEnd_same dur mv s hp).mpr (Part.same_refl p s)⟩
  rw [dropoutEnd_of_normal h]
  exact keepsRegs_trans (keepsRegs_fset List.mem_cons_self s 1) (keepsRegs_trans (keepsRegs_fsat List.mem_cons_self _ 1)
    (keepsRegs_mono (keepsRegs_raise (by decide) _ _ _ _ _) (List.subset_cons_self _ _)))

/-- DROPOUT is set, its count rises up to 255, and every other bit of the word is as it was. -/
theorem dropoutEnd_word (dur mv : Nat) {s : State} (h : s.sup.power = .normal) :
    flag (dropoutEnd dur mv s) F.SUPPLY_STAT_DROPOUT = true ∧
      fget (dropoutEnd dur mv s) F.SUPPLY_STAT_DROPOUT_CNT = min 255 (fget s F.SUPPLY_STAT_DROPOUT_CNT + 1) ∧
      ∀ k < 32, k ≠ F.SUPPLY_STAT_DROPOUT.lo → (k < F.SUPPLY_STAT_DROPOUT_CNT.lo ∨ F.SUPPLY_STAT_DROPOUT_CNT.hi < k) →
        (rd (dropoutEnd dur mv s) A.SUPPLY_STAT).getLsbD k = (rd s A.SUPPLY_STAT).getLsbD k := by
  have hRd := rd_supplyRecord (sev := 2) (by decide) .dropout [dur, mv]
    (fsat (fset s F.SUPPLY_STAT_DROPOUT 1) F.SUPPLY_STAT_DROPOUT_CNT 1)
  rw [dropoutEnd_of_normal h]
  refine ⟨?_, ?_, fun k hk hFlag hCount => ?_⟩
  · rw [flag_of_rd hRd, fsat, flag_fset_apart (f := F.SUPPLY_STAT_DROPOUT_CNT) (k := F.SUPPLY_STAT_DROPOUT) _ _ rfl (by decide),
      flag_fset_one _ rfl (by decide)]
  · rw [fget_of_rd hRd, fget_fsat _ _ (by decide) (by decide),
      fget_fset_apart (f := F.SUPPLY_STAT_DROPOUT) (k := F.SUPPLY_STAT_DROPOUT_CNT) _ _ rfl (by decide)]
    rfl
  · rw [hRd, fsat, getLsbD_rd_fset (f := F.SUPPLY_STAT_DROPOUT_CNT) _ _ (by decide) (by decide) hk hCount,
      getLsbD_rd_fset (f := F.SUPPLY_STAT_DROPOUT) _ _ (by decide) (by decide) hk (by simp only at hFlag ⊢; omega)]

/-! The bias of the antenna ports (R74). -/

/-- The flag of an antenna port's fold-back. -/
def foldFlag (a : Nat) : Fld := if a = 0 then F.SUPPLY_STAT_ANT_A_FOLD else F.SUPPLY_STAT_ANT_B_FOLD

theorem foldFlag_bit (a : Nat) : (foldFlag a).reg = A.SUPPLY_STAT ∧ (foldFlag a).hi = (foldFlag a).lo ∧ (foldFlag a).hi < 32 := by
  unfold foldFlag
  split <;> decide

/-- The bias of port a is tried next as b says, that of the other port as before; of the supplies nothing else differs. -/
def onlyBias (s t : State) (a : Nat) (b : Option Nat) : Prop :=
  (∀ k < 2, folded t k = if k = a then b else folded s k) ∧ t.sup = { s.sup with foldA := t.sup.foldA, foldB := t.sup.foldB }

theorem onlyBias_setFolded {s t : State} (hSup : t.sup = s.sup) {a : Nat} (ha : a < 2) (b : Option Nat) :
    onlyBias s (setFolded a b t) a b := by
  obtain rfl | rfl : a = 0 ∨ a = 1 := by omega
  all_goals
    refine ⟨fun k hk => ?_, by simp [setFolded, hSup]⟩
    obtain rfl | rfl : k = 0 ∨ k = 1 := by omega
    all_goals simp [folded, setFolded, hSup]

theorem onlyBias_of_sup {s t u : State} {a : Nat} {b : Option Nat} (h : onlyBias s t a b) (hSup : u.sup = t.sup) :
    onlyBias s u a b := by
  obtain ⟨hFold, hRest⟩ := h
  exact ⟨fun k hk => by simp only [folded, hSup]; exact hFold k hk, by rw [hSup]; exact hRest⟩

theorem keepsRegs_foldBias (a : Nat) (s : State) : keepsRegs s (foldBias a s) [A.SUPPLY_STAT] := by
  have hReg : (foldFlag a).reg ∈ [A.SUPPLY_STAT] := List.mem_singleton.mpr (foldFlag_bit a).1
  exact keepsRegs_trans (keepsRegs_of_regs rfl _) (keepsRegs_fset hReg (setFolded a (some (s.mtime + sec)) s) 1)

theorem onlyBit_foldBias (a : Nat) (s : State) : onlyBit s (foldBias a s) (foldFlag a) true :=
  onlyBit_fset true rfl (foldFlag_bit a).2.1 (foldFlag_bit a).2.2

theorem onlyBias_foldBias {s t : State} (hSup : t.sup = s.sup) {a : Nat} (ha : a < 2) :
    onlyBias s (foldBias a t) a (some (t.mtime + sec)) :=
  onlyBias_of_sup (onlyBias_setFolded hSup ha _) rfl

theorem antennaFold_of_idle {a : Nat} {s : State} (h : bench s = true ∨ (folded s a).isSome = true) : antennaFold a s = s := by
  have hGuard : (bench s || (folded s a).isSome) = true := by simpa using h
  simp only [antennaFold, hGuard, if_true]

theorem antennaFold_of_full {a : Nat} {s : State} (hBench : bench s = false) (hFull : folded s a = none) :
    antennaFold a s = supplyRecord 3 .antFold [a] (foldBias a s) := by
  simp only [antennaFold, hBench, hFull, Option.isSome_none, Bool.or_self, Bool.false_eq_true, if_false]

theorem biasRetry_of_full {a : Nat} {s : State} (h : folded s a = none) (shorted : Bool) : biasRetry a shorted s = s := by
  simp only [biasRetry, h]

theorem biasRetry_of_folded {a u : Nat} {s : State} (h : folded s a = some u) (shorted : Bool) :
    biasRetry a shorted s = if shorted = true then foldBias a (atTime u s) else setFolded a none (atTime u s) := by
  simp only [biasRetry, h]

/-- A fold-back of full bias outside bench-alive. -/
theorem antennaFold_full {a : Nat} (ha : a < 2) {s : State} (hBench : bench s = false) (hFull : folded s a = none) :
    changesOnly s (antennaFold a s) (A.SUPPLY_STAT :: noteRegs) [.sup, .events] ∧
      onlyBit s (antennaFold a s) (foldFlag a) true ∧ onlyBias s (antennaFold a s) a (some (s.mtime + sec)) := by
  refine ⟨⟨?_, fun p hp => (antennaFold_same a s hp).mpr (Part.same_refl p s)⟩, ?_, ?_⟩
  all_goals rw [antennaFold_of_full hBench hFull]
  · exact keepsRegs_trans (keepsRegs_mono (keepsRegs_foldBias a s) (by simp))
      (keepsRegs_mono (keepsRegs_raise (by decide) _ _ _ _ _) (List.subset_cons_self _ _))
  · exact onlyBit_of_rd (onlyBit_foldBias a s) ((foldFlag_bit a).1 ▸ rd_supplyRecord (by decide) _ _ _)
  · exact onlyBias_of_sup (onlyBias_foldBias rfl ha)
      ((supplyRecord_same (pt := .sup) (s₀ := foldBias a s) 3 _ _ _ (by decide)).mpr rfl)

/-- A retry that finds the short cleared. -/
theorem biasRetry_cleared {a u : Nat} (ha : a < 2) {s : State} (h : folded s a = some u) :
    keeps s (biasRetry a false s) [.mtime, .sup] ∧ (biasRetry a false s).mtime = max s.mtime u ∧
      onlyBias s (biasRetry a false s) a none := by
  rw [biasRetry_of_folded h]
  refine ⟨fun p hp => ?_, rfl, onlyBias_setFolded rfl ha none⟩
  simp only [List.mem_cons, List.not_mem_nil, or_false, not_or] at hp
  simp [hp]

/-- A retry that finds the short standing. -/
theorem biasRetry_shorted {a u : Nat} (ha : a < 2) {s : State} (h : folded s a = some u) :
    changesOnly s (biasRetry a true s) [A.SUPPLY_STAT] [.mtime, .sup] ∧ onlyBit s (biasRetry a true s) (foldFlag a) true ∧
      (biasRetry a true s).mtime = max s.mtime u ∧
      onlyBias s (biasRetry a true s) a (some ((biasRetry a true s).mtime + sec)) := by
  refine ⟨⟨?_, fun p hp => (biasRetry_same a true s hp).mpr (Part.same_refl p s)⟩, ?_⟩
  all_goals rw [biasRetry_of_folded h, if_pos rfl]
  · exact keepsRegs_trans (keepsRegs_of_regs rfl _) (keepsRegs_foldBias a _)
  · exact ⟨onlyBit_of_rd (onlyBit_fset true rfl (foldFlag_bit a).2.1 (foldFlag_bit a).2.2) rfl, rfl, onlyBias_foldBias rfl ha⟩

/-! The sensor supplies (R75, R478). -/

/-- The flag of a sensor supply's fold-back. -/
def sensorFlag (pwr : Bool) : Fld := if pwr = true then F.SUPPLY_STAT_SNS_PWR_FAULT else F.SUPPLY_STAT_SNS5_FAULT

theorem sensorFlag_bit (pwr : Bool) : (sensorFlag pwr).reg = A.SUPPLY_STAT ∧ (sensorFlag pwr).hi = (sensorFlag pwr).lo ∧
    (sensorFlag pwr).hi < 32 := by
  cases pwr <;> decide

/-- The supplies with the fold-back of SNS_PWR or of SNS5 noted. -/
def noteSensorFold (pwr b : Bool) (s : State) : State :=
  { s with sup := if pwr = true then { s.sup with snsPwrFold := b } else { s.sup with sns5Fold := b } }

/-- A fold-back with its flag and its record, before its inputs fail. -/
def foldedSensor (pwr : Bool) (s : State) : State :=
  supplyRecord 3 .sensorFold [if pwr then 1 else 0] (fset (noteSensorFold pwr true s) (sensorFlag pwr) 1)

theorem sensorFold_of_bench {s : State} (h : bench s = true) (b : Bool) : sensorFold true b s = s := by
  simp only [sensorFold, h, Bool.and_self, if_true]

theorem sensorFold_of_other {pwr : Bool} {s : State} (h : pwr = false ∨ bench s = false) (b : Bool) : sensorFold pwr b s =
    if b = true then failPowered (if pwr = true then 2 else 1) (foldedSensor pwr s) else noteSensorFold pwr false s := by
  have hGuard : (pwr && bench s) = false := by
    cases pwr with
    | false => rfl
    | true => simpa using h
  simp only [sensorFold, hGuard, Bool.false_eq_true, if_false]
  cases b <;> rfl

theorem keepsRegs_foldedSensor (pwr : Bool) (s : State) : keepsRegs s (foldedSensor pwr s) (A.SUPPLY_STAT :: noteRegs) :=
  keepsRegs_trans (keepsRegs_of_regs rfl _) (keepsRegs_trans
    (keepsRegs_fset (by rw [(sensorFlag_bit pwr).1]; exact List.mem_cons_self) (noteSensorFold pwr true s) 1)
    (keepsRegs_mono (keepsRegs_raise (by decide) _ _ _ _ _) (List.subset_cons_self _ _)))

theorem onlyBit_foldedSensor (pwr : Bool) (s : State) : onlyBit s (foldedSensor pwr s) (sensorFlag pwr) true :=
  onlyBit_of_rd (onlyBit_fset (t := noteSensorFold pwr true s) true rfl (sensorFlag_bit pwr).2.1 (sensorFlag_bit pwr).2.2)
    ((sensorFlag_bit pwr).1 ▸ rd_supplyRecord (by decide) _ _ _)

theorem foldedSensor_sup (pwr : Bool) (s : State) : (foldedSensor pwr s).sup = (noteSensorFold pwr true s).sup :=
  (supplyRecord_same (pt := .sup) (s₀ := noteSensorFold pwr true s) 3 _ _ _ (by decide)).mpr rfl

theorem foldedSensor_fb (pwr : Bool) (s : State) : (foldedSensor pwr s).fb = s.fb :=
  (supplyRecord_same (pt := .fb) (s₀ := s) 3 _ _ _ (by decide)).mpr rfl

/-- A register above SUPPLY_STAT and below the recorder's front stays at a fold-back. -/
theorem rd_foldedSensor {a : Nat} (hLow : 0x40000 ≤ a) (hHigh : a < 0xe0004) (pwr : Bool) (s : State) :
    rd (foldedSensor pwr s) a = rd s a :=
  keepsRegs_foldedSensor pwr s a (fun h => (List.mem_cons.mp h).elim (fun e => by simp only [A.SUPPLY_STAT] at e; omega)
    (not_mem_noteRegs hHigh))

theorem rd_failPowered_supplyStat (k : Nat) (s : State) : rd (failPowered k s) A.SUPPLY_STAT = rd s A.SUPPLY_STAT :=
  failPowered_regs k s _ (not_mem_failingRegs (by decide))

/-- The registers of the inputs that a folded-back supply may power, and of their queues. -/
def sensorInputRegs : List Nat :=
  (List.range 24).flatMap (fun n => [A.FB_STAT n, A.FB_SPEED n, A.FB_ERRCNT n]) ++ (List.range 16).flatMap analogRegs ++
    (List.range 4).flatMap (fun j => queueRegs (99 + j))

theorem failingRegs_subset : failingRegs ⊆ (A.SUPPLY_STAT :: noteRegs) ++ sensorInputRegs := by
  intro a ha
  simp only [failingRegs, inputRegs, sensorInputRegs, List.mem_append, List.mem_flatMap, List.mem_cons (b := A.SUPPLY_STAT)] at ha ⊢
  obtain (⟨n, hn, h | h⟩ | h) | h := ha
  · exact .inr (.inl (.inl ⟨n, hn, h⟩))
  · have hQueue : n / 6 < 4 := by
      have := List.mem_range.mp hn
      omega
    exact .inr (.inr ⟨n / 6, List.mem_range.mpr hQueue, h⟩)
  · exact .inr (.inl (.inr h))
  · exact .inl (.inr h)

/-- A fold-back of a sensor supply, but of SNS_PWR in bench-alive: its flag, its note, and the inputs that it powers. -/
theorem sensorFold_down {pwr : Bool} {s : State} (h : pwr = false ∨ bench s = false) :
    let t := sensorFold pwr true s
    let k := if pwr = true then 2 else 1
    changesOnly s t ((A.SUPPLY_STAT :: noteRegs) ++ sensorInputRegs) [.sup, .events, .qs, .fb] ∧
      onlyBit s t (sensorFlag pwr) true ∧
      t.sup = (if pwr = true then { s.sup with snsPwrFold := true } else { s.sup with sns5Fold := true }) ∧
      (∀ n < 24, Config.inputSupply n = k → inputFailed s t n) ∧
      (∀ m < 16, Config.inputSupply (24 + m) = k → flag s (F.AI_CFG_EN m) = true → flag t (F.AI_STAT_RANGE m) = true) ∧
      (∀ n < 24, Config.inputSupply n ≠ k → fbOf t n = fbOf s n ∧ rd t (A.FB_STAT n) = rd s (A.FB_STAT n)) ∧
      ∀ m < 16, Config.inputSupply (24 + m) ≠ k → rd t (A.AI_STAT m) = rd s (A.AI_STAT m) := by
  intro t k
  have hEq : t = failPowered k (foldedSensor pwr s) := by rw [show t = _ from sensorFold_of_other h true, if_pos rfl]
  have hKeep : keeps s t (.regs :: [.sup, .events, .qs, .fb]) := fun p hp => (sensorFold_same pwr true s hp).mpr (Part.same_refl p s)
  have hBelow (a : Nat) (hLow : 0x40000 ≤ a) (hHigh : a < 0xe0004) : rd (foldedSensor pwr s) a = rd s a :=
    rd_foldedSensor hLow hHigh pwr s
  refine ⟨⟨?_, hKeep⟩, ?_⟩
  all_goals rw [hEq]
  · exact keepsRegs_trans (keepsRegs_mono (keepsRegs_foldedSensor pwr s) (List.subset_append_left _ _))
      (keepsRegs_mono (failPowered_regs k _) failingRegs_subset)
  refine ⟨?flag, ?sup, fun n hn hPow => ?input, fun m hm hPow hOn => ?analog, fun n hn hPow => ?otherInput,
    fun m hm hPow => ?otherAnalog⟩
  case flag =>
    exact onlyBit_of_rd (onlyBit_foldedSensor pwr s) ((sensorFlag_bit pwr).1 ▸ rd_failPowered_supplyStat k _)
  case sup =>
    have hSup : (failPowered k (foldedSensor pwr s)).sup = (foldedSensor pwr s).sup :=
      (failPowered_same (pt := .sup) (s₀ := foldedSensor pwr s) k _ (by decide)).mpr rfl
    exact hSup.trans (foldedSensor_sup pwr s)
  case input =>
    exact inputFailed_of_cfg hn (fun j hj => hBelow _ (by simp only [A.FB_CFG]; omega) (by simp only [A.FB_CFG]; omega))
      (failPowered_input hn hPow _)
  case analog =>
    exact failPowered_analog hm hPow
      ((flag_of_rd (hBelow _ (by simp only [A.AI_CFG]; omega) (by simp only [A.AI_CFG]; omega))).trans hOn)
  case otherInput =>
    obtain ⟨hData, hStat⟩ := failPowered_other_input hn hPow (foldedSensor pwr s)
    exact ⟨hData.trans (fbOf_congr (foldedSensor_fb pwr s) n),
      hStat.trans (hBelow _ (by simp only [A.FB_STAT]; omega) (by simp only [A.FB_STAT]; omega))⟩
  case otherAnalog =>
    exact (failPowered_other_analog hm hPow _).trans
      (hBelow _ (by simp only [A.AI_STAT]; omega) (by simp only [A.AI_STAT]; omega))

/-- The end of a fold-back. -/
theorem sensorFold_up {pwr : Bool} {s : State} (h : pwr = false ∨ bench s = false) :
    keeps s (sensorFold pwr false s) [.sup] ∧ (sensorFold pwr false s).sup =
      if pwr = true then { s.sup with snsPwrFold := false } else { s.sup with sns5Fold := false } := by
  rw [sensorFold_of_other h, if_neg (by decide)]
  exact ⟨fun p hp => (Part.same_sup s _ hp).mpr (Part.same_refl p s), rfl⟩

theorem snsRestore_of_on {s : State} (h : s.fb.snsOffEnd = none) : snsRestore s = s := by simp only [snsRestore, h]

theorem snsRestore_of_off {s : State} {u : Nat} (h : s.fb.snsOffEnd = some u) :
    keeps s (snsRestore s) [.mtime, .fb] ∧ (snsRestore s).mtime = max s.mtime u ∧
      (snsRestore s).fb = { s.fb with snsOffEnd := none } := by
  refine ⟨fun p hp => (snsRestore_same s hp).mpr (Part.same_refl p s), ?_⟩
  simp only [snsRestore, h]
  exact ⟨rfl, rfl⟩

/-! BATT_KEEP (R55). -/

theorem keepChange_word (absent : Bool) (s : State) :
    changesOnly s (keepChange absent s) [A.SUPPLY_STAT] [.sup] ∧
      onlyBit s (keepChange absent s) F.SUPPLY_STAT_KEEP_ABSENT absent ∧
      (keepChange absent s).sup = { s.sup with keep := !absent } :=
  ⟨⟨keepsRegs_trans (keepsRegs_of_regs rfl _) (keepsRegs_fset (f := F.SUPPLY_STAT_KEEP_ABSENT) List.mem_cons_self
      { s with sup := { s.sup with keep := !absent } } _), fun p hp => (keepChange_same absent s hp).mpr (Part.same_refl p s)⟩,
    onlyBit_fset (t := { s with sup := { s.sup with keep := !absent } }) absent rfl rfl (by decide), rfl⟩

/-! The entries and exits of a band or of the base as whole clauses. -/

theorem bandEntry_clause {high : Bool} {s : State} (h : high = false ∨ flag s (bandFlag high) = false) :
    changesOnly s (bandEntry high s) (A.SUPPLY_STAT :: noteRegs) [.events] ∧ onlyBit s (bandEntry high s) (bandFlag high) true := by
  obtain ⟨hReg, hOne, h32⟩ := bandFlag_bit high
  rw [bandEntry_of_entry h]
  exact supplyRecord_fset (by decide) _ _ s hReg hOne h32

theorem bandExit_clause (high : Bool) (s : State) :
    changesOnly s (bandExit high s) [A.SUPPLY_STAT] [] ∧ onlyBit s (bandExit high s) (bandFlag high) false := by
  obtain ⟨hReg, hOne, h32⟩ := bandFlag_bit high
  exact ⟨hReg ▸ changesOnly_fset s (bandFlag high) 0, onlyBit_fset false rfl hOne h32⟩

theorem baseHot_clause (s : State) :
    changesOnly s (baseHot s) (A.SUPPLY_STAT :: noteRegs) [.events] ∧ onlyBit s (baseHot s) F.SUPPLY_STAT_BASE_HOT true ∧
      (flag s F.SUPPLY_STAT_BASE_HOT = true → keeps s (baseHot s) []) := by
  cases h : flag s F.SUPPLY_STAT_BASE_HOT with
  | true =>
    rw [baseHot_of_hot h]
    exact ⟨⟨keepsRegs_refl s _, keeps_refl s _⟩, onlyBit_self h, fun _ => keeps_refl s []⟩
  | false =>
    rw [baseHot_of_cool h]
    obtain ⟨hFrame, hBit⟩ := supplyRecord_fset (sev := 3) (by decide) .baseHot [] s (f := F.SUPPLY_STAT_BASE_HOT) rfl rfl (by decide)
    exact ⟨hFrame, hBit, fun hHot => absurd hHot (by decide)⟩

theorem baseCool_clause (s : State) :
    changesOnly s (baseCool s) [A.SUPPLY_STAT] [] ∧ onlyBit s (baseCool s) F.SUPPLY_STAT_BASE_HOT false :=
  ⟨changesOnly_fset s F.SUPPLY_STAT_BASE_HOT 0, onlyBit_fset false rfl rfl (by decide)⟩

theorem answers_idle {i : Instr} {f : State → State} {s : State} (hExec : exec i s = live f s) (hRun : running s = true)
    (hIdle : f s = s) (parts : List Part) : answers i s fun t => keeps s t parts :=
  answers_live hExec hRun (by rw [hIdle]; exact keeps_refl s parts)

/-- The flag of a port as the statement writes it. -/
theorem foldFlag_port (a : Fin 2) :
    (if a = 0 then F.SUPPLY_STAT_ANT_A_FOLD else F.SUPPLY_STAT_ANT_B_FOLD) = foldFlag a := by
  fin_cases a <;> rfl

/-- Settles O37: each monitor by the equation of its meaning, the inputs of a folded sensor supply by failPowered's. -/
theorem supplyMonitorsSetTheirFlags : Obligations.SupplyMonitorsSetTheirFlags := by
  unfold Obligations.SupplyMonitorsSetTheirFlags
  intro high pwr absent dur mv a s hRun
  simp only [foldFlag_port]
  refine ⟨fun h => ?bandEntry, fun h => answers_idle rfl hRun (bandEntry_of_standing h) [], ?bandExit,
    answers_live rfl hRun (baseHot_clause s), answers_live rfl hRun (baseCool_clause s),
    fun h => answers_live rfl hRun ⟨dropoutEnd_changesOnly _ _ h, dropoutEnd_word _ _ h⟩,
    fun h => answers_idle rfl hRun (dropoutEnd_of_other h _ _) [],
    fun hBench hFull => ?fold, fun h => answers_idle rfl hRun (antennaFold_of_idle h) [],
    fun u hFolded => ⟨answers_live rfl hRun (biasRetry_cleared a.isLt hFolded), ?retry⟩,
    fun h => answers_idle rfl hRun (biasRetry_of_full h absent) [],
    fun h => ⟨?sensorDown, answers_live rfl hRun (sensorFold_up h)⟩,
    fun h => answers_idle rfl hRun (sensorFold_of_bench h absent) [],
    fun h => answers_idle rfl hRun (snsRestore_of_on h) [], fun u h => answers_live rfl hRun (snsRestore_of_off h),
    answers_live rfl hRun (keepChange_word absent s)⟩
  case bandEntry =>
    obtain ⟨hFrame, hFlag, hRest⟩ := bandEntry_clause h
    exact answers_live rfl hRun ⟨hFrame, hFlag, (bandFlag_bit high).1 ▸ hRest⟩
  case bandExit =>
    obtain ⟨hFrame, hFlag, hRest⟩ := bandExit_clause high s
    exact answers_live rfl hRun ⟨hFrame, hFlag, (bandFlag_bit high).1 ▸ hRest⟩
  case fold =>
    obtain ⟨hFrame, ⟨hFlag, hRest⟩, hPort⟩ := antennaFold_full a.isLt hBench hFull
    exact answers_live rfl hRun ⟨hFrame, ⟨hFlag, (foldFlag_bit a).1 ▸ hRest⟩, hPort⟩
  case retry =>
    obtain ⟨hFrame, ⟨hFlag, hRest⟩, hTime, hPort⟩ := biasRetry_shorted a.isLt hFolded
    exact answers_live rfl hRun ⟨hFrame, ⟨hFlag, (foldFlag_bit a).1 ▸ hRest⟩, hTime, hPort⟩
  case sensorDown =>
    obtain ⟨hFrame, ⟨hFlag, hRest⟩, hDown⟩ := sensorFold_down h
    exact answers_live rfl hRun ⟨hFrame, ⟨hFlag, (sensorFlag_bit pwr).1 ▸ hRest⟩, hDown⟩

end Sys2Proof.Proofs
end

section
/-! SUPPORT. Analog inputs and pass-through pins (R475 to R478). -/
namespace Sys2Proof.Proofs
open Sys2Proof.Machine

/-! The parts of a conversion (R475): the sample, the burden, the window. -/

/-- The conversion taken: the raw code, the filtered code with its moment, and the input no longer stale. -/
def sampledAi (m raw : Nat) (s : State) : State :=
  fset (fset (setAi m ⟨some s.mtime, aiFilter s m raw⟩ { s with freeCtr := s.freeCtr + 1 }) (F.AI_VAL_RAW m) raw) (F.AI_STAT_STALE m) 0

/-- Whether the current opens the burden now. -/
def opensBurden (m : Nat) (over25 : Bool) (s : State) : Bool :=
  over25 && decide (fget s (F.AI_CFG_RANGE m) = 2) && !flag s (F.AI_STAT_BURDEN_OPEN m)

/-- The burden judged: it opens with a failure of its own. -/
def judgedBurden (m : Nat) (over25 : Bool) (s : State) : State :=
  onlyIf (opensBurden m over25 s) (fun s => failAi m .burden [m] (fset s (F.AI_STAT_BURDEN_OPEN m) 1)) s

/-- The state in which the window is judged. -/
def beforeWindow (m raw : Nat) (over25 : Bool) (s : State) : State := judgedBurden m over25 (sampledAi m raw s)

/-- Whether the filtered code y counts: inside the window, with the burden closed and the supply there. -/
def codeGood (m y : Nat) (s : State) : Prop :=
  fget s (F.AI_WIN_LO m) ≤ y ∧ y ≤ fget s (F.AI_WIN_HI m) ∧ flag s (F.AI_STAT_BURDEN_OPEN m) = false ∧ inputDown s (24 + m) = false

/-- The filtered code becomes the code. -/
def acceptedCode (m y : Nat) (s : State) : State := noteJoints (fset (fset s (F.AI_VAL_CODE m) y) (F.AI_STAT_RANGE m) 0)

/-- The last code is held, with a failure at its entry. -/
def heldCode (m y : Nat) (s : State) : State :=
  if flag s (F.AI_STAT_RANGE m) = true then s else failAi m .aiRange [m, y] s

theorem aiConversion_of_disabled {m : Nat} {s : State} (h : flag s (F.AI_CFG_EN m) = false) (raw : Nat) (over25 : Bool) :
    aiConversion m raw over25 s = s := by
  simp only [aiConversion, h, Bool.not_false, if_true]

theorem aiConversion_of_good {m raw : Nat} {over25 : Bool} {s : State} (hOn : flag s (F.AI_CFG_EN m) = true)
    (h : codeGood m (aiFilter s m raw) (beforeWindow m raw over25 s)) :
    aiConversion m raw over25 s = acceptedCode m (aiFilter s m raw) (beforeWindow m raw over25 s) := by
  obtain ⟨hLow, hHigh, hBurden, hSupply⟩ := h
  rw [← Bool.not_eq_true'] at hBurden hSupply
  simp only [aiConversion, hOn, Bool.not_true, Bool.false_eq_true, if_false]
  exact if_pos ⟨hLow, hHigh, hBurden, hSupply⟩

theorem aiConversion_of_bad {m raw : Nat} {over25 : Bool} {s : State} (hOn : flag s (F.AI_CFG_EN m) = true)
    (h : ¬ codeGood m (aiFilter s m raw) (beforeWindow m raw over25 s)) :
    aiConversion m raw over25 s = heldCode m (aiFilter s m raw) (beforeWindow m raw over25 s) := by
  simp only [aiConversion, hOn, Bool.not_true, Bool.false_eq_true, if_false]
  refine if_neg (fun ⟨hLow, hHigh, hBurden, hSupply⟩ => h ⟨hLow, hHigh, ?_, ?_⟩)
  · exact (Bool.not_eq_true' _).mp hBurden
  · exact (Bool.not_eq_true' _).mp hSupply

/-- With TAU 0 the filter passes the conversion, else it lies between the last code and the conversion. -/
theorem aiFilter_between (s : State) (m raw : Nat) :
    min (aiOf s m).filt raw ≤ aiFilter s m raw ∧ aiFilter s m raw ≤ max (aiOf s m).filt raw := by
  unfold aiFilter
  split
  case isTrue => exact ⟨min_le_right _ _, le_max_right _ _⟩
  case isFalse =>
    generalize Config.free s.freeCtr = r
    have hRest : r % (max (aiOf s m).filt raw - min (aiOf s m).filt raw + 1) < max (aiOf s m).filt raw - min (aiOf s m).filt raw + 1 :=
      Nat.mod_lt r (Nat.succ_pos _)
    have hOrder : min (aiOf s m).filt raw ≤ max (aiOf s m).filt raw := min_le_max
    dsimp only
    omega

theorem aiFilter_of_tau_zero {s : State} {m : Nat} (h : fget s (F.AI_CFG_TAU m) = 0) (raw : Nat) : aiFilter s m raw = raw := by
  simp only [aiFilter, h, if_true]

/-! What each part leaves of the registers. -/

/-- The registers of analog input m that a conversion can change, but for the recorder's front. -/
def conversionRegs (m : Nat) : List Nat := [A.AI_VAL m, A.AI_STAT m, A.AI_ERRCNT m] ++ noteRegs

theorem keepsRegs_sampledAi (m raw : Nat) (s : State) : keepsRegs s (sampledAi m raw s) (conversionRegs m) :=
  keepsRegs_trans (keepsRegs_of_regs rfl _) (keepsRegs_trans
    (keepsRegs_fset (by simp [conversionRegs]) (setAi m ⟨some s.mtime, aiFilter s m raw⟩ { s with freeCtr := s.freeCtr + 1 }) raw)
    (keepsRegs_fset (by simp [conversionRegs]) _ 0))

theorem analogRegs_subset_conversionRegs (m : Nat) : analogRegs m ++ noteRegs ⊆ conversionRegs m := List.subset_cons_self _ _

theorem keepsRegs_judgedBurden (m : Nat) (over25 : Bool) (s : State) : keepsRegs s (judgedBurden m over25 s) (conversionRegs m) := by
  cases h : opensBurden m over25 s with
  | false => rw [judgedBurden, h]; exact keepsRegs_refl s _
  | true =>
    rw [judgedBurden, h]
    exact keepsRegs_trans (keepsRegs_fset (by simp [conversionRegs]) s 1)
      (keepsRegs_mono (keepsRegs_failAi m _ _ _) (analogRegs_subset_conversionRegs m))

theorem keepsRegs_acceptedCode (m y : Nat) (s : State) : keepsRegs s (acceptedCode m y s) [A.AI_VAL m, A.AI_STAT m] :=
  keepsRegs_trans (keepsRegs_fset List.mem_cons_self s y)
    (keepsRegs_trans (keepsRegs_fset (f := F.AI_STAT_RANGE m) (List.mem_cons_of_mem _ List.mem_cons_self) _ 0)
      (keepsRegs_of_regs rfl _))

theorem keepsRegs_heldCode (m y : Nat) (s : State) : keepsRegs s (heldCode m y s) (analogRegs m ++ noteRegs) := by
  unfold heldCode
  split
  case isTrue => exact keepsRegs_refl s _
  case isFalse => exact keepsRegs_failAi m _ _ s

/-- The settings of an analog input are none of the registers that a conversion changes. -/
theorem rd_settings_of_keeps {m a : Nat} {s t : State} (hm : m < 16) (h : keepsRegs s t (conversionRegs m))
    (ha : a = A.AI_CFG m ∨ a = A.AI_WIN m) : rd t a = rd s a := by
  refine h a ?_
  simp only [conversionRegs, List.mem_append, List.mem_cons, List.not_mem_nil, or_false, not_or]
  simp only [A.AI_CFG, A.AI_WIN] at ha
  exact ⟨by simp only [A.AI_VAL, A.AI_STAT, A.AI_ERRCNT]; omega, not_mem_noteRegs (by omega)⟩

/-! The flags and the count of a failure. -/

/-- A flag of the input beside RANGE and RANGE_SEEN. -/
theorem flag_failAi_apart {m : Nat} (hm : m < 16) {f : Fld} (hReg : f.reg = A.AI_STAT m)
    (hBits : 0 < f.lo ∧ f.lo ≤ f.hi ∧ f.hi < 32 ∧ (f.hi < 2 ∨ 2 < f.lo)) (k : EvKind) (vals : List Int) (s : State) :
    flag (failAi m k vals s) f = flag s f := by
  obtain ⟨hLow, hOrder, h32, hSeen⟩ := hBits
  rw [failAi, flag_raise (by decide) _ _ _ _ _ (by simp only [hReg, A.AI_STAT]; omega), fsat,
    flag_fset_reg _ _ (by simp only [hReg, A.AI_STAT, A.AI_ERRCNT]; omega),
    flag_fset_apart (f := F.AI_STAT_RANGE_SEEN m) _ _ hReg ⟨le_rfl, by simp, hOrder, h32, hSeen⟩,
    flag_fset_apart (f := F.AI_STAT_RANGE m) _ _ hReg ⟨le_rfl, by simp, hOrder, h32, .inr hLow⟩]

theorem fget_count_failAi {m : Nat} (hm : m < 16) (k : EvKind) (vals : List Int) (s : State) :
    fget (failAi m k vals s) (F.AI_ERRCNT_COUNT m) = min 0xFFFFFFFF (fget s (F.AI_ERRCNT_COUNT m) + 1) := by
  have hApart : (F.AI_ERRCNT_COUNT m).reg ≠ A.AI_STAT m := by simp only [A.AI_STAT, A.AI_ERRCNT]; omega
  rw [failAi, fget_raise (by decide) _ _ _ _ _ (by simp only [A.AI_ERRCNT]; omega), fget_fsat _ _ (by simp) (by simp),
    fget_fset_reg _ _ _ _ hApart, fget_fset_reg _ _ _ _ hApart]
  rfl

theorem fget_value_failAi {m : Nat} (hm : m < 16) {f : Fld} (hReg : f.reg = A.AI_VAL m) (k : EvKind) (vals : List Int) (s : State) :
    fget (failAi m k vals s) f = fget s f := by
  refine fget_of_rd (keepsRegs_failAi m k vals s _ ?_)
  rw [hReg]
  simp only [analogRegs, List.mem_append, List.mem_cons, List.not_mem_nil, or_false, not_or]
  exact ⟨by simp only [A.AI_VAL, A.AI_STAT, A.AI_ERRCNT]; omega, not_mem_noteRegs (by simp only [A.AI_VAL]; omega)⟩

theorem failAi_marker (m : Nat) (k : EvKind) (vals : List Int) (s : State) : (failAi m k vals s).marker = s.marker :=
  (failAi_same (pt := .marker) (s₀ := s) m k vals s (by decide)).mpr rfl

theorem failAi_sup (m : Nat) (k : EvKind) (vals : List Int) (s : State) : (failAi m k vals s).sup = s.sup :=
  (failAi_same (pt := .sup) (s₀ := s) m k vals s (by decide)).mpr rfl

/-! The sample. -/

theorem sampledAi_value {m raw : Nat} (hRaw : raw < 4096) (s : State) :
    fget (sampledAi m raw s) (F.AI_VAL_RAW m) = raw ∧ fget (sampledAi m raw s) (F.AI_VAL_CODE m) = fget s (F.AI_VAL_CODE m) := by
  have hApart : A.AI_VAL m ≠ A.AI_STAT m := by simp only [A.AI_VAL, A.AI_STAT]; omega
  constructor
  · rw [sampledAi, fget_fset_reg _ _ _ _ hApart, fget_fset_same _ _ _ (by simp) (by simp)]
    exact Nat.mod_eq_of_lt hRaw
  · rw [sampledAi, fget_fset_reg _ _ _ _ hApart, fget_fset_apart (f := F.AI_VAL_RAW m) (k := F.AI_VAL_CODE m) _ _ rfl (by simp)]
    rfl

/-- A sample clears STALE and leaves every other flag of its input. -/
theorem sampledAi_flags {m raw : Nat} (s : State) :
    flag (sampledAi m raw s) (F.AI_STAT_STALE m) = false ∧
      flag (sampledAi m raw s) (F.AI_STAT_RANGE m) = flag s (F.AI_STAT_RANGE m) ∧
      flag (sampledAi m raw s) (F.AI_STAT_BURDEN_OPEN m) = flag s (F.AI_STAT_BURDEN_OPEN m) := by
  have hApart : A.AI_STAT m ≠ A.AI_VAL m := by simp only [A.AI_VAL, A.AI_STAT]; omega
  refine ⟨flag_fset_zero _ rfl (by simp), ?_, ?_⟩
  · rw [sampledAi, flag_fset_apart (f := F.AI_STAT_STALE m) (k := F.AI_STAT_RANGE m) _ _ rfl (by simp), flag_fset_reg _ _ hApart]
    rfl
  · rw [sampledAi, flag_fset_apart (f := F.AI_STAT_STALE m) (k := F.AI_STAT_BURDEN_OPEN m) _ _ rfl (by simp), flag_fset_reg _ _ hApart]
    rfl

theorem sampledAi_count {m raw : Nat} (hm : m < 16) (s : State) : rd (sampledAi m raw s) (A.AI_ERRCNT m) = rd s (A.AI_ERRCNT m) := by
  rw [sampledAi, rd_fset _ _ _ _ (by simp only [A.AI_ERRCNT, A.AI_STAT]; omega), rd_fset _ _ _ _ (by simp only [A.AI_ERRCNT, A.AI_VAL]; omega)]
  rfl

/-! The burden. -/

theorem judgedBurden_flags {m : Nat} (hm : m < 16) (over25 : Bool) (s : State) :
    flag (judgedBurden m over25 s) (F.AI_STAT_STALE m) = flag s (F.AI_STAT_STALE m) ∧
      flag (judgedBurden m over25 s) (F.AI_STAT_RANGE m) = (opensBurden m over25 s || flag s (F.AI_STAT_RANGE m)) ∧
      flag (judgedBurden m over25 s) (F.AI_STAT_BURDEN_OPEN m) = (opensBurden m over25 s || flag s (F.AI_STAT_BURDEN_OPEN m)) := by
  cases h : opensBurden m over25 s with
  | false => simp only [judgedBurden, h, onlyIf, Bool.false_eq_true, if_false, Bool.false_or, and_self]
  | true =>
    simp only [judgedBurden, h, onlyIf, if_true, Bool.true_or]
    refine ⟨?_, flag_range_failAi hm _ _ _, ?_⟩
    · rw [flag_failAi_apart hm rfl (by simp),
        flag_fset_apart (f := F.AI_STAT_BURDEN_OPEN m) (k := F.AI_STAT_STALE m) _ _ rfl (by simp)]
    · rw [flag_failAi_apart hm rfl (by simp), flag_fset_one _ rfl (by simp)]

theorem judgedBurden_count {m : Nat} (hm : m < 16) (over25 : Bool) (s : State) :
    fget (judgedBurden m over25 s) (F.AI_ERRCNT_COUNT m) =
      min 0xFFFFFFFF (fget s (F.AI_ERRCNT_COUNT m) + if opensBurden m over25 s = true then 1 else 0) := by
  cases h : opensBurden m over25 s with
  | false =>
    have hBound : fget s (F.AI_ERRCNT_COUNT m) < 4294967296 := fget_lt s (F.AI_ERRCNT_COUNT m)
    simp only [judgedBurden, h, onlyIf, Bool.false_eq_true, if_false]
    omega
  | true =>
    simp only [judgedBurden, h, onlyIf, if_true]
    rw [fget_count_failAi hm, fget_fset_reg _ _ _ _ (by simp only [A.AI_STAT, A.AI_ERRCNT]; omega)]

theorem judgedBurden_value {m : Nat} (hm : m < 16) {f : Fld} (hReg : f.reg = A.AI_VAL m) (over25 : Bool) (s : State) :
    fget (judgedBurden m over25 s) f = fget s f := by
  cases h : opensBurden m over25 s with
  | false => rw [judgedBurden, h]; rfl
  | true =>
    rw [judgedBurden, h]
    exact (fget_value_failAi hm hReg _ _ _).trans (fget_fset_reg _ _ _ _ (by simp only [hReg, A.AI_VAL, A.AI_STAT]; omega))

/-- The burden leaves the data of the inputs, the supplies and the joints. -/
theorem judgedBurden_parts (m : Nat) (over25 : Bool) (s : State) :
    (judgedBurden m over25 s).fb = s.fb ∧ (judgedBurden m over25 s).sup = s.sup ∧ (judgedBurden m over25 s).marker = s.marker := by
  cases h : opensBurden m over25 s with
  | false => rw [judgedBurden, h]; exact ⟨rfl, rfl, rfl⟩
  | true => rw [judgedBurden, h]; exact ⟨failAi_fb _ _ _ _, failAi_sup _ _ _ _, failAi_marker _ _ _ _⟩

/-! The window. -/

theorem acceptedCode_fields {m : Nat} (y : Nat) (s : State) :
    fget (acceptedCode m y s) (F.AI_VAL_CODE m) = y % 4096 ∧ fget (acceptedCode m y s) (F.AI_VAL_RAW m) = fget s (F.AI_VAL_RAW m) ∧
      flag (acceptedCode m y s) (F.AI_STAT_RANGE m) = false ∧
      flag (acceptedCode m y s) (F.AI_STAT_STALE m) = flag s (F.AI_STAT_STALE m) ∧
      flag (acceptedCode m y s) (F.AI_STAT_BURDEN_OPEN m) = flag s (F.AI_STAT_BURDEN_OPEN m) := by
  have hApart : A.AI_VAL m ≠ A.AI_STAT m := by simp only [A.AI_VAL, A.AI_STAT]; omega
  have hJoints (u : State) (f : Fld) : fget (noteJoints u) f = fget u f ∧ flag (noteJoints u) f = flag u f :=
    ⟨fget_congr rfl f, flag_congr rfl f⟩
  simp only [acceptedCode, hJoints]
  refine ⟨?_, ?_, flag_fset_zero _ rfl (by simp), ?_, ?_⟩
  · rw [fget_fset_reg _ _ _ _ hApart, fget_fset_same _ _ _ (by simp) (by simp)]
    rfl
  · rw [fget_fset_reg _ _ _ _ hApart, fget_fset_apart (f := F.AI_VAL_CODE m) (k := F.AI_VAL_RAW m) _ _ rfl (by simp)]
  · rw [flag_fset_apart (f := F.AI_STAT_RANGE m) (k := F.AI_STAT_STALE m) _ _ rfl (by simp), flag_fset_reg _ _ hApart.symm]
  · rw [flag_fset_apart (f := F.AI_STAT_RANGE m) (k := F.AI_STAT_BURDEN_OPEN m) _ _ rfl (by simp), flag_fset_reg _ _ hApart.symm]

/-- An accepted code reaches the joints alone (R253). -/
theorem acceptedCode_marker (m y : Nat) (s : State) :
    (acceptedCode m y s).marker = { s.marker with joints := (acceptedCode m y s).marker.joints } := rfl

theorem heldCode_fields {m : Nat} (hm : m < 16) (y : Nat) (s : State) :
    flag (heldCode m y s) (F.AI_STAT_RANGE m) = true ∧
      (∀ f : Fld, f.reg = A.AI_VAL m → fget (heldCode m y s) f = fget s f) ∧
      flag (heldCode m y s) (F.AI_STAT_STALE m) = flag s (F.AI_STAT_STALE m) ∧
      flag (heldCode m y s) (F.AI_STAT_BURDEN_OPEN m) = flag s (F.AI_STAT_BURDEN_OPEN m) ∧
      fget (heldCode m y s) (F.AI_ERRCNT_COUNT m) =
        min 0xFFFFFFFF (fget s (F.AI_ERRCNT_COUNT m) + if flag s (F.AI_STAT_RANGE m) = true then 0 else 1) := by
  cases h : flag s (F.AI_STAT_RANGE m) with
  | true =>
    have hBound : fget s (F.AI_ERRCNT_COUNT m) < 4294967296 := fget_lt s (F.AI_ERRCNT_COUNT m)
    simp only [heldCode, h, if_true]
    exact ⟨trivial, fun _ _ => trivial, trivial, trivial, by omega⟩
  | false =>
    simp only [heldCode, h, Bool.false_eq_true, if_false]
    exact ⟨flag_range_failAi hm _ _ s, fun f hf => fget_value_failAi hm hf _ _ s, flag_failAi_apart hm rfl (by simp) _ _ s,
      flag_failAi_apart hm rfl (by simp) _ _ s, fget_count_failAi hm _ _ s⟩

theorem heldCode_parts (m y : Nat) (s : State) : (heldCode m y s).fb = s.fb ∧ (heldCode m y s).marker = s.marker := by
  unfold heldCode
  split
  case isTrue => exact ⟨rfl, rfl⟩
  case isFalse => exact ⟨failAi_fb _ _ _ _, failAi_marker _ _ _ _⟩

/-- Of the analog inputs beyond their registers only input m takes the sample. -/
theorem sampledAi_data (m raw : Nat) (s : State) :
    (sampledAi m raw s).fb = { s.fb with ais := (sampledAi m raw s).fb.ais } ∧
      (∀ j, j ≠ m → aiOf (sampledAi m raw s) j = aiOf s j) ∧ aiOf (sampledAi m raw s) m = ⟨some s.mtime, aiFilter s m raw⟩ :=
  ⟨rfl, fun j hj => aiOf_setAi_other { s with freeCtr := s.freeCtr + 1 } m j _ hj, aiOf_setAi_same _ m _⟩

theorem inputDown_congr {s t : State} (hSup : t.sup = s.sup) (hOff : t.fb.snsOffEnd = s.fb.snsOffEnd) (i : Nat) :
    inputDown t i = inputDown s i := by
  simp only [inputDown, supplyDown, hSup, hOff]

/-! A conversion as a whole. -/

/-- The sample leaves what opens the burden. -/
theorem opensBurden_sampledAi {m : Nat} (hm : m < 16) (raw : Nat) (over25 : Bool) (s : State) :
    opensBurden m over25 (sampledAi m raw s) = opensBurden m over25 s := by
  have hSettings : fget (sampledAi m raw s) (F.AI_CFG_RANGE m) = fget s (F.AI_CFG_RANGE m) :=
    fget_of_rd (rd_settings_of_keeps hm (keepsRegs_sampledAi m raw s) (.inl rfl))
  obtain ⟨-, -, hBurden⟩ := sampledAi_flags (m := m) (raw := raw) s
  simp only [opensBurden, hSettings, hBurden]

/-- What stands before the window is judged, of the state before the conversion. -/
theorem beforeWindow_fields {m raw : Nat} (hm : m < 16) (hRaw : raw < 4096) (over25 : Bool) (s : State) :
    let u := beforeWindow m raw over25 s
    fget u (F.AI_VAL_RAW m) = raw ∧ fget u (F.AI_VAL_CODE m) = fget s (F.AI_VAL_CODE m) ∧ flag u (F.AI_STAT_STALE m) = false ∧
      flag u (F.AI_STAT_RANGE m) = (opensBurden m over25 s || flag s (F.AI_STAT_RANGE m)) ∧
      flag u (F.AI_STAT_BURDEN_OPEN m) = (opensBurden m over25 s || flag s (F.AI_STAT_BURDEN_OPEN m)) ∧
      fget u (F.AI_ERRCNT_COUNT m) =
        min 0xFFFFFFFF (fget s (F.AI_ERRCNT_COUNT m) + if opensBurden m over25 s = true then 1 else 0) := by
  obtain ⟨hSampleRaw, hSampleCode⟩ := sampledAi_value (m := m) hRaw s
  obtain ⟨hSampleStale, hSampleRange, hSampleBurden⟩ := sampledAi_flags (m := m) (raw := raw) s
  obtain ⟨hStale, hRange, hBurden⟩ := judgedBurden_flags hm over25 (sampledAi m raw s)
  have hOpens := opensBurden_sampledAi hm raw over25 s
  have hCount : fget (sampledAi m raw s) (F.AI_ERRCNT_COUNT m) = fget s (F.AI_ERRCNT_COUNT m) := fget_of_rd (sampledAi_count hm s)
  exact ⟨(judgedBurden_value hm rfl over25 _).trans hSampleRaw, (judgedBurden_value hm rfl over25 _).trans hSampleCode,
    hStale.trans hSampleStale, hRange.trans (by rw [hOpens, hSampleRange]), hBurden.trans (by rw [hOpens, hSampleBurden]),
    (judgedBurden_count hm over25 _).trans (by rw [hOpens, hCount])⟩

theorem beforeWindow_parts (m raw : Nat) (over25 : Bool) (s : State) :
    (beforeWindow m raw over25 s).fb = (sampledAi m raw s).fb ∧ (beforeWindow m raw over25 s).sup = s.sup ∧
      (beforeWindow m raw over25 s).marker = s.marker :=
  judgedBurden_parts m over25 (sampledAi m raw s)

theorem keepsRegs_beforeWindow (m raw : Nat) (over25 : Bool) (s : State) :
    keepsRegs s (beforeWindow m raw over25 s) (conversionRegs m) :=
  keepsRegs_trans (keepsRegs_sampledAi m raw s) (keepsRegs_judgedBurden m over25 _)

/-- Whether the code counts is judged by the settings, the burden and the supplies of the state before. -/
theorem codeGood_beforeWindow {m raw : Nat} (hm : m < 16) (hRaw : raw < 4096) (over25 : Bool) (s : State) (y : Nat) :
    codeGood m y (beforeWindow m raw over25 s) ↔ (fget s (F.AI_WIN_LO m) ≤ y ∧ y ≤ fget s (F.AI_WIN_HI m)) ∧
      (opensBurden m over25 s || flag s (F.AI_STAT_BURDEN_OPEN m)) = false ∧ inputDown s (24 + m) = false := by
  obtain ⟨-, -, -, -, hBurden, -⟩ := beforeWindow_fields hm hRaw over25 s
  obtain ⟨hFb, hSup, -⟩ := beforeWindow_parts m raw over25 s
  have hDown : inputDown (beforeWindow m raw over25 s) (24 + m) = inputDown s (24 + m) :=
    inputDown_congr hSup ((congrArg Feedback.snsOffEnd hFb).trans rfl) _
  have hWindow (f : Fld) (hReg : f.reg = A.AI_WIN m) : fget (beforeWindow m raw over25 s) f = fget s f :=
    fget_of_rd (rd_settings_of_keeps hm (keepsRegs_beforeWindow m raw over25 s) (.inr hReg))
  rw [codeGood, hBurden, hDown, hWindow _ rfl, hWindow _ rfl, and_assoc]

/-- What every conversion of an enabled input does, whether its code counts or not. -/
theorem aiConversion_common {m raw : Nat} {over25 : Bool} (hm : m < 16) (hRaw : raw < 4096) {s : State}
    (hOn : flag s (F.AI_CFG_EN m) = true) :
    let t := aiConversion m raw over25 s
    keepsRegs s t (conversionRegs m) ∧ t.marker = { s.marker with joints := t.marker.joints } ∧
      t.fb = { s.fb with ais := t.fb.ais } ∧ (∀ j, j ≠ m → aiOf t j = aiOf s j) ∧ aiOf t m = ⟨some s.mtime, aiFilter s m raw⟩ ∧
      fget t (F.AI_VAL_RAW m) = raw ∧ flag t (F.AI_STAT_STALE m) = false ∧
      flag t (F.AI_STAT_BURDEN_OPEN m) = (opensBurden m over25 s || flag s (F.AI_STAT_BURDEN_OPEN m)) := by
  intro t
  obtain ⟨hRawBefore, -, hStaleBefore, -, hBurdenBefore, -⟩ := beforeWindow_fields hm hRaw over25 s
  obtain ⟨hFbBefore, -, hMarkerBefore⟩ := beforeWindow_parts m raw over25 s
  obtain ⟨hSampleFb, hSampleOthers, hSampleOwn⟩ := sampledAi_data m raw s
  have hData (hFb : t.fb = (beforeWindow m raw over25 s).fb) : t.fb = { s.fb with ais := t.fb.ais } ∧
      (∀ j, j ≠ m → aiOf t j = aiOf s j) ∧ aiOf t m = ⟨some s.mtime, aiFilter s m raw⟩ := by
    have hSample : t.fb = (sampledAi m raw s).fb := hFb.trans hFbBefore
    refine ⟨?_, fun j hj => (aiOf_congr hSample j).trans (hSampleOthers j hj), (aiOf_congr hSample m).trans hSampleOwn⟩
    rw [hSample]
    exact hSampleFb
  by_cases hGood : codeGood m (aiFilter s m raw) (beforeWindow m raw over25 s)
  · have hEq : t = acceptedCode m (aiFilter s m raw) (beforeWindow m raw over25 s) := aiConversion_of_good hOn hGood
    obtain ⟨-, hRawSame, -, hStaleSame, hBurdenSame⟩ := acceptedCode_fields (m := m) (aiFilter s m raw) (beforeWindow m raw over25 s)
    obtain ⟨hFb, hOthers, hOwn⟩ := hData (by rw [hEq]; rfl)
    refine ⟨?_, ?_, hFb, hOthers, hOwn, ?_, ?_, ?_⟩
    all_goals rw [hEq]
    · exact keepsRegs_trans (keepsRegs_beforeWindow m raw over25 s)
        (keepsRegs_mono (keepsRegs_acceptedCode m _ _) (by simp [conversionRegs]))
    · rw [acceptedCode_marker, hMarkerBefore]
    · exact hRawSame.trans hRawBefore
    · exact hStaleSame.trans hStaleBefore
    · exact hBurdenSame.trans hBurdenBefore
  · have hEq : t = heldCode m (aiFilter s m raw) (beforeWindow m raw over25 s) := aiConversion_of_bad hOn hGood
    obtain ⟨-, hValueSame, hStaleSame, hBurdenSame, -⟩ := heldCode_fields hm (aiFilter s m raw) (beforeWindow m raw over25 s)
    obtain ⟨hFbSame, hMarkerSame⟩ := heldCode_parts m (aiFilter s m raw) (beforeWindow m raw over25 s)
    obtain ⟨hFb, hOthers, hOwn⟩ := hData (by rw [hEq, hFbSame])
    refine ⟨?_, ?_, hFb, hOthers, hOwn, ?_, ?_, ?_⟩
    all_goals rw [hEq]
    · exact keepsRegs_trans (keepsRegs_beforeWindow m raw over25 s)
        (keepsRegs_mono (keepsRegs_heldCode m _ _) (analogRegs_subset_conversionRegs m))
    · rw [hMarkerSame, hMarkerBefore]
    · exact (hValueSame _ rfl).trans hRawBefore
    · exact hStaleSame.trans hStaleBefore
    · exact hBurdenSame.trans hBurdenBefore

/-- A code that counts. -/
theorem aiConversion_good_code {m raw : Nat} {over25 : Bool} (hm : m < 16) (hRaw : raw < 4096) {s : State}
    (hOn : flag s (F.AI_CFG_EN m) = true) (hIn : fget s (F.AI_WIN_LO m) ≤ aiFilter s m raw ∧ aiFilter s m raw ≤ fget s (F.AI_WIN_HI m))
    (hClosed : (opensBurden m over25 s || flag s (F.AI_STAT_BURDEN_OPEN m)) = false) (hUp : inputDown s (24 + m) = false) :
    let t := aiConversion m raw over25 s
    fget t (F.AI_VAL_CODE m) = aiFilter s m raw % 4096 ∧ flag t (F.AI_STAT_RANGE m) = false ∧
      rd t (A.AI_ERRCNT m) = rd s (A.AI_ERRCNT m) := by
  have hGood := (codeGood_beforeWindow hm hRaw over25 s (aiFilter s m raw)).mpr ⟨hIn, hClosed, hUp⟩
  have hEq : aiConversion m raw over25 s = acceptedCode m (aiFilter s m raw) (beforeWindow m raw over25 s) :=
    aiConversion_of_good hOn hGood
  obtain ⟨hCode, -, hRange, -, -⟩ := acceptedCode_fields (m := m) (aiFilter s m raw) (beforeWindow m raw over25 s)
  have hNoOpen : opensBurden m over25 (sampledAi m raw s) = false :=
    (opensBurden_sampledAi hm raw over25 s).trans (Bool.or_eq_false_iff.mp hClosed).1
  have hCount : rd (beforeWindow m raw over25 s) (A.AI_ERRCNT m) = rd s (A.AI_ERRCNT m) := by
    rw [beforeWindow, judgedBurden, hNoOpen]
    exact sampledAi_count hm s
  intro t
  refine ⟨?_, ?_, ?_⟩
  all_goals rw [show t = _ from hEq]
  · exact hCode
  · exact hRange
  · exact (keepsRegs_acceptedCode m _ _ _ (by simp only [A.AI_ERRCNT, A.AI_VAL, A.AI_STAT, List.mem_cons, List.not_mem_nil, or_false]; omega)).trans hCount

/-- A code that does not count: the last one is held, and an entry of either failure counts. -/
theorem aiConversion_held_code {m raw : Nat} {over25 : Bool} (hm : m < 16) (hRaw : raw < 4096) {s : State}
    (hOn : flag s (F.AI_CFG_EN m) = true)
    (hBad : ¬ ((fget s (F.AI_WIN_LO m) ≤ aiFilter s m raw ∧ aiFilter s m raw ≤ fget s (F.AI_WIN_HI m)) ∧
      (opensBurden m over25 s || flag s (F.AI_STAT_BURDEN_OPEN m)) = false ∧ inputDown s (24 + m) = false)) :
    let t := aiConversion m raw over25 s
    fget t (F.AI_VAL_CODE m) = fget s (F.AI_VAL_CODE m) ∧ flag t (F.AI_STAT_RANGE m) = true ∧ t.marker = s.marker ∧
      fget t (F.AI_ERRCNT_COUNT m) = min 0xFFFFFFFF
        (fget s (F.AI_ERRCNT_COUNT m) + if opensBurden m over25 s = true ∨ flag s (F.AI_STAT_RANGE m) = false then 1 else 0) := by
  have hEq : aiConversion m raw over25 s = heldCode m (aiFilter s m raw) (beforeWindow m raw over25 s) :=
    aiConversion_of_bad hOn (fun h => hBad ((codeGood_beforeWindow hm hRaw over25 s _).mp h))
  obtain ⟨-, hCodeBefore, -, hRangeBefore, -, hCountBefore⟩ := beforeWindow_fields hm hRaw over25 s
  obtain ⟨-, -, hMarkerBefore⟩ := beforeWindow_parts m raw over25 s
  obtain ⟨hRange, hValue, -, -, hCount⟩ := heldCode_fields hm (aiFilter s m raw) (beforeWindow m raw over25 s)
  intro t
  refine ⟨?_, ?_, ?_, ?_⟩
  all_goals rw [show t = _ from hEq]
  · exact (hValue _ rfl).trans hCodeBefore
  · exact hRange
  · exact (heldCode_parts m _ _).2.trans hMarkerBefore
  · rw [hCount, hCountBefore, hRangeBefore]
    cases opensBurden m over25 s <;> cases flag s (F.AI_STAT_RANGE m) <;> simp; omega

/-! Reclosing, staleness and the pins (R475 to R477). -/

theorem aiBurdenReclose_clause (m : Nat) (s : State) :
    changesOnly s (aiBurdenReclose m s) [A.AI_STAT m] [] ∧ onlyBit s (aiBurdenReclose m s) (F.AI_STAT_BURDEN_OPEN m) false :=
  ⟨changesOnly_fset s (F.AI_STAT_BURDEN_OPEN m) 0, onlyBit_fset false rfl rfl (by simp)⟩

theorem aiStaleTimeout_of_idle {m : Nat} {s : State} (h : (aiOf s m).last = none ∨ flag s (F.AI_STAT_STALE m) = true) :
    aiStaleTimeout m s = s := by
  unfold aiStaleTimeout
  split
  case h_1 => rfl
  case h_2 u hLast =>
    have hStale : flag s (F.AI_STAT_STALE m) = true := h.resolve_left (fun hNone => by simp [hLast] at hNone)
    exact if_pos hStale

theorem aiStaleTimeout_of_due {m u : Nat} {s : State} (hLast : (aiOf s m).last = some u)
    (hFresh : flag s (F.AI_STAT_STALE m) = false) :
    aiStaleTimeout m s = fset (atTime (u + 10 * ms) s) (F.AI_STAT_STALE m) 1 := by
  simp only [aiStaleTimeout, hLast, hFresh, Bool.false_eq_true, if_false]

theorem aiStaleTimeout_clause {m u : Nat} {s : State} (hLast : (aiOf s m).last = some u)
    (hFresh : flag s (F.AI_STAT_STALE m) = false) :
    changesOnly s (aiStaleTimeout m s) [A.AI_STAT m] [.mtime] ∧ (aiStaleTimeout m s).mtime = max s.mtime (u + 10 * ms) ∧
      flag (aiStaleTimeout m s) (F.AI_STAT_STALE m) = true := by
  refine ⟨⟨?_, fun p hp => (aiStaleTimeout_same m s hp).mpr (Part.same_refl p s)⟩, ?_⟩
  all_goals rw [aiStaleTimeout_of_due hLast hFresh]
  · exact keepsRegs_trans (keepsRegs_of_regs rfl _)
      (keepsRegs_fset (f := F.AI_STAT_STALE m) List.mem_cons_self (atTime (u + 10 * ms) s) 1)
  · exact ⟨rfl, flag_fset_one _ rfl (by simp)⟩

theorem ptShort_clause {p : Nat} (hp : p < 8) (s : State) :
    changesOnly s (ptShort p s) (A.PT_STAT p :: noteRegs) [.events] ∧ onlyBit s (ptShort p s) (F.PT_STAT_SHORT p) true :=
  ⟨changesOnly_raise_fset (by decide) 8 p .ptShort [p] s (F.PT_STAT_SHORT p) 1,
    onlyBit_of_rd (onlyBit_fset true rfl rfl (by simp))
      (rd_raise _ _ _ _ _ _ _ (not_mem_noteRegs (by simp only [A.PT_STAT]; omega)) (by decide))⟩

/-- Of the feedback beyond its registers only pin p differs, and it holds x. -/
theorem setPt_clause (p : Nat) (x : PtPin) (t : Nat) (s : State) :
    keeps s (setPt p x (atTime t s)) [.mtime, .fb] ∧
      ((setPt p x (atTime t s)).fb = { s.fb with pts := (setPt p x (atTime t s)).fb.pts } ∧
        ∀ j, j ≠ p → ptOf (setPt p x (atTime t s)) j = ptOf s j) ∧
      (setPt p x (atTime t s)).mtime = max s.mtime t ∧ ptOf (setPt p x (atTime t s)) p = x := by
  refine ⟨fun q hq => ?_, ⟨rfl, fun j hj => ptOf_setPt_other _ p j x hj⟩, rfl, ptOf_setPt_same _ p x⟩
  simp only [List.mem_cons, List.not_mem_nil, or_false, not_or] at hq
  simp [hq]

theorem ptPulseEnd_of_none {p : Nat} {s : State} (h : (ptOf s p).pulseEnd = none) : ptPulseEnd p s = s := by
  simp only [ptPulseEnd, h]

theorem ptPulseEnd_of_some {p u : Nat} {s : State} (h : (ptOf s p).pulseEnd = some u) :
    ptPulseEnd p s = setPt p { ptOf s p with pulseEnd := none } (atTime u s) := by
  simp only [ptPulseEnd, h]

theorem synthPeriod_eq (p : Nat) (s : State) : synthPeriod p s =
    let start := if (ptOf s p).freq = 0 then s.mtime else (ptOf s p).periodAt + sec * 65536000 / (ptOf s p).freq
    setPt p { ptOf s p with freq := (ptOf s p).next, periodAt := start } (atTime start s) := rfl

end Sys2Proof.Proofs
end

section
/-! SUPPORT. A write of FB_GLOBAL (R478, R568), and the statement about analog inputs and pins. -/
namespace Sys2Proof.Proofs
open Sys2Proof.Machine

/-! A write of FB_GLOBAL by a master that may command. -/

/-- The place of FB_GLOBAL. -/
def fbGlobalPlace : Place := ⟨⟨Reg.FB_GLOBAL, []⟩, A.FB_GLOBAL, none⟩

/-- The write of FB_GLOBAL that reaches the register. -/
def fbGlobalCtx (m : Master) (data : Word) (s : State) : WriteCtx := writeCtx ruleFbGlobal m fbGlobalPlace data s

theorem exec_sensorSupplyLevelChange (m : Master) (data : Word) (s : State) :
    exec (.sensorSupplyLevelChange m data) s = .next (rowWrite ruleFbGlobal m ⟨Reg.FB_GLOBAL, []⟩ A.FB_GLOBAL data s) := rfl

theorem fbGlobal_masks : loadMask true Reg.FB_GLOBAL.fields = 7#32 ∧ typeMask .w1c Reg.FB_GLOBAL.fields = 0#32 ∧
    typeMask .w1s Reg.FB_GLOBAL.fields = 0#32 ∧ imageMask Reg.FB_GLOBAL = 7 := by decide

theorem fbGlobalCtx_cmds (m : Master) (data : Word) (s : State) : (fbGlobalCtx m data s).cmds = 0#32 := by
  change data &&& selMask fbGlobalPlace &&& typeMask .w1s Reg.FB_GLOBAL.fields = 0#32
  obtain ⟨-, -, hCommands, -⟩ := fbGlobal_masks
  rw [hCommands, BitVec.and_zero]

theorem fbGlobalCtx_new (m : Master) (data : Word) (s : State) :
    (fbGlobalCtx m data s).new = writtenWord Reg.FB_GLOBAL.fields (fbGlobalCtx m data s).old data := by
  have hSel : selMask fbGlobalPlace = BitVec.allOnes 32 := by decide
  change ((_ &&& ~~~(_ &&& selMask fbGlobalPlace)) ||| (data &&& (_ &&& selMask fbGlobalPlace))) &&&
    ~~~(data &&& selMask fbGlobalPlace &&& _) = _
  rw [hSel, BitVec.and_allOnes, BitVec.and_allOnes]
  rfl

theorem sysHeld_beginTx (m : Master) (s : State) : sysHeld (beginTx m s) = sysHeld s := by
  have hStart : (beginTx m s).start = s.start := (beginTx_same (pt := .start) (s₀ := s) m s (by decide)).mpr rfl
  have hTime : (beginTx m s).mtime = s.mtime := (beginTx_same (pt := .mtime) (s₀ := s) m s (by decide)).mpr rfl
  simp only [sysHeld, hStart, hTime]

/-- No check refuses the write: no field has a range or a key, no state bars it. -/
theorem fbGlobal_writeErr {m : Master} {s : State} (hHeld : sysHeld s = false) (hOwner : ownerCode s = m.code) (data : Word) (key : Bool) :
    writeErr ruleFbGlobal m fbGlobalPlace (fbGlobalCtx m data s) key s = .ok := by
  have hDomain : domainOff s (domainOf fbGlobalPlace.hit) = false := hHeld
  have hTy : aliasTy fbGlobalPlace = none := rfl
  have hReadOnly : allReadOnly fbGlobalPlace.hit.fam.fields = false := by decide
  have hMay : mayWrite s m (fbGlobalCtx m data s) fbGlobalPlace.hit.fam.base = true := by simp [mayWrite, hOwner]
  have hKey : keyGuarded fbGlobalPlace (fbGlobalCtx m data s) = false := by
    simp only [keyGuarded, fbGlobalCtx_cmds]
    decide
  have hWrong : keyWrong fbGlobalPlace (fbGlobalCtx m data s) = false := by
    have hBase : (fbGlobalPlace.hit.fam.base == Reg.KEY_UNLOCK.base) = false := by decide
    simp only [keyWrong, hBase, Bool.false_and]
  have hRange (sel w : Word) : rangeBad fbGlobalPlace.hit.fam.fields sel w = false := by
    simp [rangeBad, fbGlobalPlace, Reg.FB_GLOBAL, inRanges]
  simp [writeErr, hDomain, hTy, hReadOnly, hMay, hKey, hWrong, hRange, ruleFbGlobal, plainRule]

/-- The accepted write, answered OK. -/
theorem rowWrite_fbGlobal {m : Master} {s : State} (h : mayCommand s m) (data : Word) :
    rowWrite ruleFbGlobal m ⟨Reg.FB_GLOBAL, []⟩ A.FB_GLOBAL data s =
      setReply (.okValue .ok []) (applyWrite ruleFbGlobal fbGlobalPlace (fbGlobalCtx m data (beginTx m s)) (beginTx m s)) := by
  obtain ⟨⟨hRun, hHeld, -⟩, hOwner⟩ := h
  have hKey : keyGuarded fbGlobalPlace (fbGlobalCtx m data (beginTx m s)) = false := by
    simp only [keyGuarded, fbGlobalCtx_cmds]
    decide
  have hOwnerTx : ownerCode (beginTx m s) = m.code := (fget_of_rd (rd_beginTx m s _)).trans hOwner
  have hErr := fbGlobal_writeErr (hHeld := (sysHeld_beginTx m s).trans hHeld) hOwnerTx data (unlocked (beginTx m s) m)
  have hPlace : writePlace ruleFbGlobal m A.FB_GLOBAL fbGlobalPlace data (beginTx m s) =
      (.ok, applyWrite ruleFbGlobal fbGlobalPlace (fbGlobalCtx m data (beginTx m s)) (beginTx m s)) := by
    rw [writePlace_ok]
    all_goals rw [show writeCtx ruleFbGlobal m fbGlobalPlace data (beginTx m s) = fbGlobalCtx m data (beginTx m s) from rfl, hKey]
    · rfl
    · exact hErr
  simp only [rowWrite, hRun, hHeld, Bool.not_true, Bool.or_self, Bool.false_eq_true, if_false]
  rw [show (⟨⟨Reg.FB_GLOBAL, []⟩, A.FB_GLOBAL, none⟩ : Place) = fbGlobalPlace from rfl, hPlace]

/-! With staging closed the register itself is written (R568). -/

/-- The register with its new word, and the image that is due to be stored. -/
def fbGlobalWritten (m : Master) (data : Word) (s : State) : State :=
  imageChanged fbGlobalPlace.hit (fbGlobalCtx m data s) (wr s A.FB_GLOBAL (fbGlobalCtx m data s).new)

theorem stagedBits_of_closed {s : State} (h : staging s = false) (hit : RegHit) : stagedBits s hit = 0#32 := by
  simp only [stagedBits, h, Bool.false_eq_true, if_false]
  rfl

theorem activeCtx_of_closed {s : State} (h : staging s = false) (p : Place) (c : WriteCtx) : activeCtx p c s = c := by
  simp only [activeCtx, stagedBits_of_closed h, BitVec.not_zero, BitVec.and_allOnes, BitVec.and_zero, BitVec.or_zero]

theorem fbGlobalCtx_old_of_closed {m : Master} {data : Word} {s : State} (h : staging s = false) :
    (fbGlobalCtx m data s).old = rd s A.FB_GLOBAL := by
  change baseWord s fbGlobalPlace.hit A.FB_GLOBAL = _
  simp only [baseWord, h, Bool.false_and, Bool.false_eq_true, if_false]

theorem applyWrite_fbGlobal_closed {m : Master} {data : Word} {s : State} (h : staging s = false) :
    applyWrite ruleFbGlobal fbGlobalPlace (fbGlobalCtx m data s) s =
      meterOver (if (fbGlobalCtx m data s).changes F.FB_GLOBAL_SNS_PWR_12V = true then snsLevelChange (fbGlobalWritten m data s)
        else fbGlobalWritten m data s) := by
  have hActs : acts fbGlobalPlace (fbGlobalCtx m data s) s = true := by
    simp [acts, stagedBits_of_closed h]
  simp only [applyWrite, hActs, activeCtx_of_closed h, stagedBits_of_closed h, BitVec.and_zero, BitVec.zero_and, if_true]
  rfl

theorem meterOver_of_owner {s : State} (h : s.svc.meterEnd.isSome = true → ownerCode s = 3) : meterOver s = s := by
  unfold meterOver
  refine if_neg (fun hOver => ?_)
  obtain ⟨hEnd, hOwner⟩ := Bool.and_eq_true_iff.mp hOver
  simp [h hEnd] at hOwner

theorem imageChanged_regs (hit : RegHit) (c : WriteCtx) (s : State) : (imageChanged hit c s).regs = s.regs := by
  unfold imageChanged
  split <;> rfl

theorem rd_fbGlobalWritten_same (m : Master) (data : Word) (s : State) :
    rd (fbGlobalWritten m data s) A.FB_GLOBAL = (fbGlobalCtx m data s).new :=
  (rd_congr (imageChanged_regs _ _ _) _).trans (rd_wr_same _ _ _)

theorem keepsRegs_fbGlobalWritten (m : Master) (data : Word) (s : State) : keepsRegs s (fbGlobalWritten m data s) [A.FB_GLOBAL] :=
  keepsRegs_trans (keepsRegs_wr (List.mem_singleton_self _) s _) (keepsRegs_of_regs (imageChanged_regs _ _ _) _)

theorem same_trans {p : Part} {s t u : State} (h : p.same s t) (h' : p.same t u) : p.same s u := by
  cases p <;> simp only [Part.same] at h h' ⊢ <;> simp only [h', h, and_self]

theorem keepsRegs_beginTx (m : Master) (s : State) (r : List Nat) : keepsRegs s (beginTx m s) r := fun a _ => rd_beginTx m s a

/-- A state in which only these registers, the reply and m's unlock may differ, and these parts. -/
theorem accepts_of_written {s u : State} {m : Master} {r : List Nat} {parts : List Part}
    (hRegs : keepsRegs (beginTx m s) u r) (hKeep : keeps (beginTx m s) u (.regs :: parts))
    (hUnlock : .unlock ∉ (Part.regs :: parts)) : accepts s (setReply (.okValue .ok []) u) m r parts := by
  refine ⟨rfl, keepsRegs_trans (keepsRegs_beginTx m s r) hRegs, fun p hp => ?_, fun n hn => ?_⟩
  · simp only [List.mem_append, List.mem_cons, List.not_mem_nil, or_false, not_or] at hp
    obtain ⟨⟨hpRegs, hpReply, hpUnlock⟩, hpParts⟩ := hp
    refine (setReply_same _ _ (by simpa using hpReply)).mpr (same_trans ?_ (hKeep p ?_))
    · exact (beginTx_same m s (by simpa using hpUnlock)).mpr (Part.same_refl p s)
    · simpa only [List.mem_cons, not_or] using ⟨hpRegs, hpParts⟩
  · have hSame : u.acc.unlock = (beginTx m s).acc.unlock := hKeep .unlock hUnlock
    have hUnlocks : unlockOf (setReply (.okValue .ok []) u) n = unlockOf (beginTx m s) n := by
      simp only [unlockOf, setReply_acc, hSame]
    exact hUnlocks.trans (unlockOf_beginTx m n s hn)

/-- What the write itself leaves: FB_GLOBAL and the image that is due differ. -/
theorem keeps_fbGlobalWritten (m : Master) (data : Word) (s : State) : keeps s (fbGlobalWritten m data s) [.regs, .stage] := by
  intro p hp
  simp only [List.mem_cons, List.not_mem_nil, or_false, not_or] at hp
  obtain ⟨hpRegs, hpStage⟩ := hp
  exact (imageChanged_same _ _ _ (by simpa using hpStage)).mpr ((wr_same _ _ _ (by simpa using hpRegs)).mpr (Part.same_refl p s))

/-- A meter check that runs under the port's ownership goes on after a change that leaves both. -/
theorem meterOver_of_same {s u : State} (h : s.svc.meterEnd.isSome = true → ownerCode s = 3) (hSvc : u.svc = s.svc)
    (hOwn : rd u A.OWN_STAT = rd s A.OWN_STAT) : meterOver u = u :=
  meterOver_of_owner (fun hEnd => (fget_of_rd hOwn).trans (h (hSvc ▸ hEnd)))

theorem bitsOf_bit (w : Word) (b : Nat) : bitsOf w b b = (w.getLsbD b).toNat := by
  rw [BitVec.getLsbD, Nat.toNat_testBit, bitsOf, Nat.sub_self]
  rfl

theorem fbGlobal_changes {m : Master} {data : Word} {s : State} (h : staging s = false) :
    (fbGlobalCtx m data s).changes F.FB_GLOBAL_SNS_PWR_12V =
      ((writtenWord Reg.FB_GLOBAL.fields (rd s A.FB_GLOBAL) data).getLsbD 2 != (rd s A.FB_GLOBAL).getLsbD 2) := by
  simp only [WriteCtx.changes, WriteCtx.get, WriteCtx.was, fbGlobalCtx_new, fbGlobalCtx_old_of_closed h, bitsOf_bit]
  cases BitVec.getLsbD _ 2 <;> cases BitVec.getLsbD _ 2 <;> rfl

/-- The parts of the state before that the write itself leaves. -/
theorem fbGlobalWritten_parts (m : Master) (data : Word) (s : State) :
    let w := fbGlobalWritten m data (beginTx m s)
    w.fb = s.fb ∧ w.mtime = s.mtime ∧ w.svc = s.svc :=
  have hKeep (p : Part) (hp : p ∉ [.regs, .stage]) (hTx : p ∉ [.unlock]) : p.same s (fbGlobalWritten m data (beginTx m s)) :=
    same_trans ((beginTx_same m s hTx).mpr (Part.same_refl p s)) (keeps_fbGlobalWritten m data _ p hp)
  ⟨hKeep .fb (by decide) (by decide), hKeep .mtime (by decide) (by decide), hKeep .svc (by decide) (by decide)⟩

theorem rd_fbGlobalWritten_other {a : Nat} (h : a ≠ A.FB_GLOBAL) (m : Master) (data : Word) (s : State) :
    rd (fbGlobalWritten m data (beginTx m s)) a = rd s a :=
  (keepsRegs_fbGlobalWritten m data _ a (by simpa using h)).trans (rd_beginTx m s a)

theorem keepsRegs_snsLevelChange (s : State) : keepsRegs s (snsLevelChange s) failingRegs :=
  keepsRegs_trans (keepsRegs_of_regs rfl _) (failPowered_regs 2 { s with fb := { s.fb with snsOffEnd := some (s.mtime + 10 * ms) } })

/-- With staging closed: the register is written, and a change of level switches the supply off. -/
theorem rowWrite_fbGlobal_closed {m : Master} {s : State} (hMay : mayCommand s m) (hClosed : staging s = false) (data : Word) :
    let w := fbGlobalWritten m data (beginTx m s)
    rowWrite ruleFbGlobal m ⟨Reg.FB_GLOBAL, []⟩ A.FB_GLOBAL data s = setReply (.okValue .ok [])
      (if (writtenWord Reg.FB_GLOBAL.fields (rd s A.FB_GLOBAL) data).getLsbD 2 ≠ (rd s A.FB_GLOBAL).getLsbD 2 then snsLevelChange w
        else w) := by
  intro w
  obtain ⟨⟨-, -, hMeter⟩, -⟩ := id hMay
  have hTx : staging (beginTx m s) = false := (flag_of_rd (rd_beginTx m s _)).trans hClosed
  obtain ⟨-, -, hSvc⟩ := fbGlobalWritten_parts m data s
  have hOwn : rd w A.OWN_STAT = rd s A.OWN_STAT := rd_fbGlobalWritten_other (by decide) m data s
  have hWrite : meterOver w = w := meterOver_of_same hMeter hSvc hOwn
  have hLevel : meterOver (snsLevelChange w) = snsLevelChange w :=
    meterOver_of_same hMeter (((snsLevelChange_same (pt := .svc) (s₀ := w) w (by decide)).mpr rfl).trans hSvc)
      ((keepsRegs_snsLevelChange w _ (not_mem_failingRegs (by decide))).trans hOwn)
  rw [rowWrite_fbGlobal hMay, applyWrite_fbGlobal_closed hTx, fbGlobal_changes hTx, rd_beginTx]
  simp only [bne_iff_ne]
  split
  case isTrue => rw [hLevel]
  case isFalse => rw [hWrite]

theorem rd_fbGlobalWritten_closed {m : Master} {s : State} (hClosed : staging s = false) (data : Word) :
    rd (fbGlobalWritten m data (beginTx m s)) A.FB_GLOBAL = writtenWord Reg.FB_GLOBAL.fields (rd s A.FB_GLOBAL) data := by
  have hTx : staging (beginTx m s) = false := (flag_of_rd (rd_beginTx m s _)).trans hClosed
  rw [rd_fbGlobalWritten_same, fbGlobalCtx_new, fbGlobalCtx_old_of_closed hTx, rd_beginTx]

/-- A write that leaves the level of SNS_PWR. -/
theorem fbGlobal_same_level {m : Master} {data : Word} {s : State} (hMay : mayCommand s m) (hClosed : staging s = false)
    (hLevel : (writtenWord Reg.FB_GLOBAL.fields (rd s A.FB_GLOBAL) data).getLsbD 2 = (rd s A.FB_GLOBAL).getLsbD 2) :
    let t := rowWrite ruleFbGlobal m ⟨Reg.FB_GLOBAL, []⟩ A.FB_GLOBAL data s
    accepts s t m [A.FB_GLOBAL] [.stage] ∧ rd t A.FB_GLOBAL = writtenWord Reg.FB_GLOBAL.fields (rd s A.FB_GLOBAL) data := by
  intro t
  have hEq : t = setReply (.okValue .ok []) (fbGlobalWritten m data (beginTx m s)) := by
    rw [show t = _ from rowWrite_fbGlobal_closed hMay hClosed data, if_neg (not_not_intro hLevel)]
  rw [hEq]
  exact ⟨accepts_of_written (keepsRegs_fbGlobalWritten m data _) (keeps_fbGlobalWritten m data _) (by decide),
    rd_fbGlobalWritten_closed hClosed data⟩

/-- A write that changes the level of SNS_PWR: the inputs that it powers fail. -/
theorem fbGlobal_new_level {m : Master} {data : Word} {s : State} (hMay : mayCommand s m) (hClosed : staging s = false)
    (hLevel : (writtenWord Reg.FB_GLOBAL.fields (rd s A.FB_GLOBAL) data).getLsbD 2 ≠ (rd s A.FB_GLOBAL).getLsbD 2) :
    let t := rowWrite ruleFbGlobal m ⟨Reg.FB_GLOBAL, []⟩ A.FB_GLOBAL data s
    accepts s t m (A.FB_GLOBAL :: failingRegs) [.fb, .stage, .events, .qs] ∧
      rd t A.FB_GLOBAL = writtenWord Reg.FB_GLOBAL.fields (rd s A.FB_GLOBAL) data ∧
      t.fb = { s.fb with ins := t.fb.ins, snsOffEnd := some (s.mtime + 10 * ms) } ∧
      (∀ n < 24, Config.inputSupply n = 2 → inputFailed s t n) ∧
      ∀ k < 16, Config.inputSupply (24 + k) = 2 → flag s (F.AI_CFG_EN k) = true → flag t (F.AI_STAT_RANGE k) = true := by
  intro t
  let w := fbGlobalWritten m data (beginTx m s)
  let v : State := { w with fb := { w.fb with snsOffEnd := some (w.mtime + 10 * ms) } }
  have hEq : t = setReply (.okValue .ok []) (failPowered 2 v) := by
    rw [show t = _ from rowWrite_fbGlobal_closed hMay hClosed data, if_pos hLevel]
    rfl
  obtain ⟨hFb, hTime, -⟩ := fbGlobalWritten_parts m data s
  have hBefore {a : Nat} (h : a < 0x42000) : rd v a = rd s a := rd_fbGlobalWritten_other (by simp only [A.FB_GLOBAL]; omega) m data s
  have hGlobal : A.FB_GLOBAL ∉ failingRegs := not_mem_failingRegs (by decide)
  rw [hEq]
  refine ⟨accepts_of_written ?regs ?parts (by decide), ?word, ?fb, fun n hn hPow => ?input, fun k hk hPow hOn => ?analog⟩
  case regs =>
    exact keepsRegs_trans (keepsRegs_mono (keepsRegs_fbGlobalWritten m data _) (by simp))
      (keepsRegs_mono (keepsRegs_snsLevelChange w) (List.subset_cons_self _ _))
  case parts =>
    intro p hp
    have hpWrite : p ∉ [.regs, .stage] := fun h => hp (by simp only [List.mem_cons] at h ⊢; tauto)
    have hpLevel : p ∉ [.regs, .events, .qs, .fb] := fun h => hp (by simp only [List.mem_cons] at h ⊢; tauto)
    exact same_trans (keeps_fbGlobalWritten m data _ p hpWrite) ((snsLevelChange_same w hpLevel).mpr (Part.same_refl p w))
  case word => exact (failPowered_regs 2 v _ hGlobal).trans (rd_fbGlobalWritten_closed hClosed data)
  case fb =>
    have hLost := failPowered_fb 2 v
    rw [show v.fb = { s.fb with snsOffEnd := some (s.mtime + 10 * ms) } by simp only [v, w, hFb, hTime]] at hLost
    exact hLost
  case input =>
    exact inputFailed_of_cfg hn (fun j hj => hBefore (by simp only [A.FB_CFG]; omega)) (failPowered_input hn hPow v)
  case analog =>
    exact failPowered_analog hk hPow ((flag_of_rd (hBefore (by simp only [A.AI_CFG]; omega))).trans hOn)

/-! With staging open the write goes to the staged image alone (R568). -/

/-- A write of FB_GLOBAL changes its three image bits alone, and each takes the written bit. -/
theorem fbGlobalCtx_image (m : Master) (data : Word) (s : State) :
    ((fbGlobalCtx m data s).new ^^^ (fbGlobalCtx m data s).old) &&& ~~~7#32 = 0#32 ∧ (fbGlobalCtx m data s).new % 8 = data % 8 := by
  obtain ⟨hLoad, hClear, -⟩ := fbGlobal_masks
  have hMod (x : Word) : x % 8 = x &&& 7#32 := BitVec.eq_of_toNat_eq (by
    rw [BitVec.toNat_umod, BitVec.toNat_and]
    exact (Nat.and_two_pow_sub_one_eq_mod x.toNat 3).symm)
  rw [fbGlobalCtx_new, writtenWord, hLoad, hClear, hMod, hMod]
  generalize (fbGlobalCtx m data s).old = old
  constructor
  all_goals
    ext i hi
    simp only [BitVec.getElem_and, BitVec.getElem_xor, BitVec.getElem_or, BitVec.getElem_not, BitVec.getElem_zero]
    cases old[i] <;> cases data[i] <;> cases (7#32)[i] <;> rfl

theorem applyWrite_fbGlobal_open {m : Master} {data : Word} {s : State} (h : staging s = true) :
    applyWrite ruleFbGlobal fbGlobalPlace (fbGlobalCtx m data s) s = stageWrite A.FB_GLOBAL (fbGlobalCtx m data s).new s := by
  have hBits : stagedBits s fbGlobalPlace.hit = 7#32 := by
    rw [stagedBits, if_pos h]
    decide
  have hActs : acts fbGlobalPlace (fbGlobalCtx m data s) s = false := by
    simp only [acts, hBits, fbGlobalCtx_cmds, (fbGlobalCtx_image m data s).1]
    decide
  have hCovers : ((fbGlobalCtx m data s).sel &&& 7#32 &&& loadMask fbGlobalPlace.bit.isNone fbGlobalPlace.hit.fam.fields != 0) = true := by
    change (selMask fbGlobalPlace &&& 7#32 &&& loadMask fbGlobalPlace.bit.isNone fbGlobalPlace.hit.fam.fields != 0) = true
    decide
  simp only [applyWrite, hBits, hActs, hCovers, Bool.false_eq_true, if_false, if_true]
  rfl

theorem stagedWord_stageWrite (a : Nat) (w : Word) (s : State) : stagedWord (stageWrite a w s) a = w := by
  have hFind : tabFind (tabInsert (tabErase s.stage.staged a) a w) a = some w := by
    rw [tabFind_tabInsert _ _ _ _ (by rw [tabFind_tabErase, if_pos rfl]), if_pos rfl]
  change (tabFind (tabInsert (tabErase s.stage.staged a) a w) a).getD _ = w
  rw [hFind, Option.getD_some]

theorem keepsRegs_stageWrite (a : Nat) (w : Word) (s : State) : keepsRegs s (stageWrite a w s) [A.CFG_STAT] :=
  keepsRegs_trans (keepsRegs_of_regs rfl _) (keepsRegs_fset (f := F.CFG_STAT_RESULT) List.mem_cons_self (setStage _ s) 0)

/-- A write while staging is open. -/
theorem fbGlobal_staged {m : Master} {s : State} (hMay : mayCommand s m) (hOpen : staging s = true) (data : Word) :
    let t := rowWrite ruleFbGlobal m ⟨Reg.FB_GLOBAL, []⟩ A.FB_GLOBAL data s
    accepts s t m [A.CFG_STAT] [.stage] ∧ stagedWord t A.FB_GLOBAL % 8 = data % 8 := by
  intro t
  have hTx : staging (beginTx m s) = true := (flag_of_rd (rd_beginTx m s _)).trans hOpen
  have hEq : t = setReply (.okValue .ok []) (stageWrite A.FB_GLOBAL (fbGlobalCtx m data (beginTx m s)).new (beginTx m s)) := by
    rw [show t = _ from rowWrite_fbGlobal hMay data, applyWrite_fbGlobal_open hTx]
  rw [hEq]
  refine ⟨accepts_of_written (keepsRegs_stageWrite _ _ _) (fun p hp => (stageWrite_same _ _ _ hp).mpr (Part.same_refl p _))
    (by decide), ?_⟩
  exact (congrArg (· % 8) (stagedWord_stageWrite _ _ _)).trans (fbGlobalCtx_image m data (beginTx m s)).2

/-! The statement. -/

/-- The registers of a supply's inputs, in the order of the statement. -/
def levelChangeRegs : List Nat :=
  (List.range 24).map A.FB_STAT ++ (List.range 24).map A.FB_SPEED ++ (List.range 24).map A.FB_ERRCNT ++
    (List.range 16).map A.AI_STAT ++ (List.range 16).map A.AI_ERRCNT ++ [99, 100, 101, 102].flatMap queueRegs ++ noteRegs

theorem failingRegs_subset_levelChangeRegs : failingRegs ⊆ levelChangeRegs := by
  intro a ha
  simp only [failingRegs, inputRegs, analogRegs, List.mem_append, List.mem_flatMap, List.mem_range, List.mem_cons,
    List.not_mem_nil, or_false] at ha
  simp only [levelChangeRegs, List.mem_append, List.mem_map, List.mem_range]
  obtain (⟨n, hn, (rfl | rfl | rfl) | hQueue⟩ | ⟨k, hk, rfl | rfl⟩) | hNote := ha
  · exact .inl (.inl (.inl (.inl (.inl (.inl ⟨n, hn, rfl⟩)))))
  · exact .inl (.inl (.inl (.inl (.inl (.inr ⟨n, hn, rfl⟩)))))
  · exact .inl (.inl (.inl (.inl (.inr ⟨n, hn, rfl⟩))))
  · have hFour : 99 + n / 6 ∈ [99, 100, 101, 102] := by
      simp only [List.mem_cons, List.not_mem_nil, or_false]
      omega
    exact .inl (.inr (List.mem_flatMap.mpr ⟨_, hFour, hQueue⟩))
  · exact .inl (.inl (.inl (.inr ⟨k, hk, rfl⟩)))
  · exact .inl (.inl (.inr ⟨k, hk, rfl⟩))
  · exact .inr hNote

theorem accepts_mono {s t : State} {m : Master} {r r' : List Nat} {parts : List Part} (h : accepts s t m r parts) (hSub : r ⊆ r') :
    accepts s t m r' parts := by
  obtain ⟨hReply, hRegs, hKeep, hUnlock⟩ := h
  exact ⟨hReply, keepsRegs_mono hRegs hSub, hKeep, hUnlock⟩

theorem opensBurden_iff {m : Nat} {over25 : Bool} {s : State} : opensBurden m over25 s = true ↔
    over25 = true ∧ fget s (F.AI_CFG_RANGE m) = 2 ∧ flag s (F.AI_STAT_BURDEN_OPEN m) = false := by
  simp only [opensBurden, Bool.and_eq_true, decide_eq_true_eq, Bool.not_eq_true', and_assoc]

/-- A conversion of an enabled input, in the words of the statement. -/
theorem aiConversion_clause {m raw : Nat} {over25 : Bool} (hm : m < 16) (hRaw : raw < 4096) {s : State}
    (hOn : flag s (F.AI_CFG_EN m) = true) :
    let t := aiConversion m raw over25 s
    let y := aiOf s m
    let opens := over25 = true ∧ fget s (F.AI_CFG_RANGE m) = 2 ∧ flag s (F.AI_STAT_BURDEN_OPEN m) = false
    let isOpen := opens ∨ flag s (F.AI_STAT_BURDEN_OPEN m) = true
    let down := inputDown s (24 + m) = true
    let inside (v : Nat) : Prop := fget s (F.AI_WIN_LO m) ≤ v ∧ v ≤ fget s (F.AI_WIN_HI m)
    changesOnly s t (conversionRegs m) [.freeCtr, .events, .marker, .fb] ∧ t.marker = { s.marker with joints := t.marker.joints } ∧
      t.fb = { s.fb with ais := t.fb.ais } ∧ (∀ j, j ≠ m → aiOf t j = aiOf s j) ∧ fget t (F.AI_VAL_RAW m) = raw ∧
      flag t (F.AI_STAT_STALE m) = false ∧ (aiOf t m).last = some s.mtime ∧
      min y.filt raw ≤ (aiOf t m).filt ∧ (aiOf t m).filt ≤ max y.filt raw ∧
      (fget s (F.AI_CFG_TAU m) = 0 → (aiOf t m).filt = raw) ∧ (flag t (F.AI_STAT_BURDEN_OPEN m) = true ↔ isOpen) ∧
      (inside (aiOf t m).filt → ¬ isOpen → ¬ down → fget t (F.AI_VAL_CODE m) = (aiOf t m).filt % 4096 ∧
        flag t (F.AI_STAT_RANGE m) = false ∧ rd t (A.AI_ERRCNT m) = rd s (A.AI_ERRCNT m)) ∧
      (¬ inside (aiOf t m).filt ∨ isOpen ∨ down → fget t (F.AI_VAL_CODE m) = fget s (F.AI_VAL_CODE m) ∧
        flag t (F.AI_STAT_RANGE m) = true ∧ t.marker = s.marker ∧ fget t (F.AI_ERRCNT_COUNT m) =
          min 0xFFFFFFFF (fget s (F.AI_ERRCNT_COUNT m) + if opens ∨ flag s (F.AI_STAT_RANGE m) = false then 1 else 0)) := by
  intro t y opens isOpen down inside
  obtain ⟨hRegs, hMarker, hFb, hOthers, hOwn, hValue, hStale, hBurden⟩ := aiConversion_common (over25 := over25) hm hRaw hOn
  have hOpens : opensBurden m over25 s = true ↔ opens := opensBurden_iff
  have hOpen : (opensBurden m over25 s || flag s (F.AI_STAT_BURDEN_OPEN m)) = true ↔ isOpen := by rw [Bool.or_eq_true, hOpens]
  have hFilt : (aiOf t m).filt = aiFilter s m raw := by rw [hOwn]
  refine ⟨⟨hRegs, fun p hp => (aiConversion_same m raw over25 s hp).mpr (Part.same_refl p s)⟩, hMarker, hFb, hOthers, hValue,
    hStale, by rw [hOwn], ?_⟩
  rw [hFilt]
  refine ⟨(aiFilter_between s m raw).1, (aiFilter_between s m raw).2, fun hTau => aiFilter_of_tau_zero hTau raw, hBurden ▸ hOpen,
    fun hIn hClosed hUp => ?_, fun hBad => ?_⟩
  · exact aiConversion_good_code hm hRaw hOn hIn (Bool.eq_false_iff.mpr (fun h => hClosed (hOpen.mp h))) (Bool.eq_false_iff.mpr hUp)
  · simp only [← hOpens]
    refine aiConversion_held_code hm hRaw hOn (fun ⟨hIn, hClosed, hUp⟩ => ?_)
    obtain hOut | hOpened | hDown := hBad
    · exact hOut hIn
    · exact absurd ((hOpen.mpr hOpened).symm.trans hClosed) (by decide)
    · exact absurd (hDown.symm.trans hUp) (by decide)

/-- Settles O46: a conversion by its sample, its burden and its window, the level of SNS_PWR by the write of FB_GLOBAL with
staging closed or open, the pins by the equations of their meanings. -/
theorem analogInputsAndPinsAct : Obligations.AnalogInputsAndPinsAct := by
  unfold Obligations.AnalogInputsAndPinsAct
  intro m k p raw over25 data s hRun
  refine ⟨fun hOff => answers_idle rfl hRun (aiConversion_of_disabled (by simpa using hOff) _ _) [], fun hOn => ?conversion,
    ?reclose, fun u hLast hFresh => answers_live rfl hRun (aiStaleTimeout_clause hLast hFresh),
    fun h => answers_idle rfl hRun (aiStaleTimeout_of_idle h) [], ?short,
    fun h => answers_idle rfl hRun (ptPulseEnd_of_none h) [], fun u h => ?pulse,
    answers_live rfl hRun (synthPeriod_eq p s ▸ setPt_clause p _ _ s),
    fun hMay hClosed hLevel => ⟨_, exec_sensorSupplyLevelChange m data s, fbGlobal_same_level hMay hClosed hLevel⟩,
    fun hMay hClosed hLevel => ?level,
    fun hMay hOpen => ⟨_, exec_sensorSupplyLevelChange m data s, fbGlobal_staged hMay hOpen data⟩⟩
  case conversion =>
    exact answers_live rfl hRun (aiConversion_clause k.isLt raw.isLt hOn)
  case reclose =>
    exact answers_live rfl hRun (aiBurdenReclose_clause k s)
  case short =>
    exact answers_live rfl hRun (ptShort_clause p.isLt s)
  case pulse =>
    exact answers_live rfl hRun (ptPulseEnd_of_some h ▸ setPt_clause p _ _ s)
  case level =>
    obtain ⟨hAccepts, hWord, hFb, hInputs, hAnalogs⟩ := fbGlobal_new_level hMay hClosed hLevel
    exact ⟨_, exec_sensorSupplyLevelChange m data s,
      accepts_mono hAccepts (List.cons_subset_cons _ failingRegs_subset_levelChangeRegs), hWord, hFb,
      fun n hn hPow => (hInputs n hn hPow).1, fun n hn hPow => (hInputs n hn hPow).2, hAnalogs⟩

end Sys2Proof.Proofs
end

section
/-! SUPPORT. An automatic heartbeat over a register table that is not in canonical form, which refutes a statement about
Gaffer lines, and a meter check whose saved settings name the ownership, which refutes a statement about checks. -/
namespace Sys2Proof.Proofs
open Sys2Proof.Machine

/-- A running Askat that the Gaffer port owns with its interface open. -/
def gafferOwns : State :=
  fset (fset (fset State.reset F.STARTUP_STAT_PHASE 4) F.OWN_STAT_OWNER 3) F.SVC_STAT_USB_OPEN 1

/-! The automatic heartbeat writes its register (R598). -/

/-- The Gaffer port owns the punty and refreshes automatically, and the register table lists OWN_HEARTBEAT with the word
that it reads as unlisted: nothing in the statement asks for the canonical form. -/
def heartbeatListed : State :=
  { gafferOwns with
    regs := (A.OWN_HEARTBEAT, 0) :: gafferOwns.regs
    own := { gafferOwns.own with autoHb := true } }

theorem reachable_heartbeatListed : reachable heartbeatListed := by
  unfold reachable
  decide +kernel

theorem mayRefresh_heartbeatListed :
    (decide (ownerCode heartbeatListed = 3) && flag heartbeatListed F.SVC_STAT_USB_OPEN) = true := by decide +kernel

theorem exec_autoHeartbeat {s : State} (h : running s = true) : exec .autoHeartbeat s = .next (autoHeartbeat s) := by
  change live autoHeartbeat s = _
  simp only [live, h, if_true, done]

/-- The refresh writes OWN_HEARTBEAT, and the write puts the table in canonical form. -/
theorem regs_autoHeartbeat_heartbeatListed : (autoHeartbeat heartbeatListed).regs = gafferOwns.regs := by decide +kernel

/-- Refutes O50, in its clause on AUTO_HEARTBEAT: a refresh is to leave the register table as it was. It writes the word
of OWN_HEARTBEAT back (R86, R598), and a write removes an entry that equals what an unlisted address reads as. The statement
is about every state and does not ask for the canonical form of the table: with OWN_HEARTBEAT listed as 0 the refresh
reads the same everywhere and holds another table. -/
theorem not_gafferLinesReadAndCommand : ¬ Obligations.GafferLinesReadAndCommand := by
  unfold Obligations.GafferLinesReadAndCommand
  intro h
  obtain ⟨-, -, -, -, -, -, -, -, -, -, -, -, -, -, -, -, -, -, -, -, -, hAuto, -⟩ :=
    h 0 0 0 0 0 false .usb heartbeatListed reachable_heartbeatListed
  obtain ⟨-, -, -, -, hRefresh⟩ := hAuto
  obtain ⟨t, ht, hKeeps, -⟩ := hRefresh rfl mayRefresh_heartbeatListed
  rw [exec_autoHeartbeat reachable_heartbeatListed.1] at ht
  obtain rfl := Host.Outcome.next.inj ht
  have hRegs : (autoHeartbeat heartbeatListed).regs = heartbeatListed.regs := hKeeps .regs (by decide)
  rw [regs_autoHeartbeat_heartbeatListed] at hRegs
  exact absurd hRegs (List.ne_cons_self)

/-! A check that starts over a running one first gives back what that one saved (R602). -/

/-- The Gaffer port owns the punty while a meter check runs whose saved settings name the ownership, with no owner. The
state holds them as plain data: nothing in it says that they are registers which a check sets. -/
def ownershipSaved : State :=
  { gafferOwns with svc := { gafferOwns.svc with meterEnd := some 0, meterSave := [(A.OWN_STAT, 0)] } }

theorem reachable_ownershipSaved : reachable ownershipSaved := by
  unfold reachable
  decide +kernel

theorem gafferOwner_ownershipSaved : ownerCode ownershipSaved = 3 := by decide +kernel

theorem unarmed_ownershipSaved : anyArmed ownershipSaved = false := by decide +kernel

theorem bench_ownershipSaved : bench ownershipSaved = false := by decide +kernel

theorem exec_gafferMeterCheck (k : Fin 10) (target : Fin 128) (s : State) :
    exec (.gafferMeterCheck k target) s =
      .next (gafferLine (unlessBusy (gafferMeter (k.val + 1) target.val)) s) := rfl

/-- The old check's end takes the punty away, and with it the new check that the line has started. -/
theorem meterEnd_after_gafferMeter :
    (gafferLine (unlessBusy (gafferMeter ((0 : Fin 10).val + 1) (0 : Fin 128).val)) ownershipSaved).svc.meterEnd = none := by decide +kernel

/-- Refutes O51, in its clause on a check that starts: the check is to run for its 10 minutes. Where one runs already, its
saved settings are written back first (R602). The statement is about every state and bounds those settings in no way,
while meterSetup alone never saves OWN_STAT. With an ownership saved that names nobody, the old check's end leaves no
owner, and a check of the Gaffer port ends as the port loses the punty: none runs after the line. -/
theorem not_checksTestsSnapshotsAndJasper : ¬ Obligations.ChecksTestsSnapshotsAndJasper := by
  unfold Obligations.ChecksTestsSnapshotsAndJasper
  intro h
  obtain ⟨-, -, -, hStart, -⟩ := h .gaffer 0 0 0 0 0 ⟨false, [], [], [], [], false, false, [], false, 0⟩ 0 0 .sched 0 false false 0 0 0
    ownershipSaved reachable_ownershipSaved
  have hFree : ¬ ((match (none : Option Nat) with | some o => armed ownershipSaved o = true | none => anyArmed ownershipSaved = true) ∨
      (bench ownershipSaved = true ∧ (1 = 2 ∨ 1 = 3 ∨ (1 = 8 ∧ flag ownershipSaved (F.PT_CFG_LEVEL 0) = true)))) := by
    simp [unarmed_ownershipSaved, bench_ownershipSaved]
  obtain ⟨⟨t, ht, ⟨hEnd, -⟩, -⟩, -⟩ := hStart ⟨rfl, rfl⟩ (by decide) gafferOwner_ownershipSaved hFree
  rw [exec_gafferMeterCheck] at ht
  obtain rfl := Host.Outcome.next.inj ht
  exact absurd (hEnd.symm.trans meterEnd_after_gafferMeter) (by simp)

end Sys2Proof.Proofs
end

section
/-! SUPPORT. The registers and memories stay in canonical form under every command. One lemma per operation of the model, in the
model's order: each says that the operation keeps the form, and its proof names the operations that its definition is made of. -/
namespace Sys2Proof.Proofs
open Sys2Proof.Machine
set_option Elab.async false
variable {s : State}

/-- The register table and every memory in canonical form. -/
def Canonical (s : State) : Prop := s.regsWf ∧ s.memWf

/-- The local memory of a gather is in canonical form. -/
theorem Canonical.lmem (h : Canonical s) (g : Nat) : tabWf (fun _ => (0 : Byte)) (gatherOf s g).lmem := by
  obtain ⟨_, _, _, _, hLocal⟩ := h
  exact hLocal g

theorem Canonical.ite {p : Prop} [Decidable p] {a b : State} (ha : Canonical a) (hb : Canonical b) :
    Canonical (if p then a else b) := by
  split
  · exact ha
  · exact hb

/-- A change of other parts keeps the canonical form. -/
theorem Canonical.keep {mtime freeCtr leadsAt : Nat} {pending : List Instr} {reply : Reply} {sup : Supply} {start : Startup} {own : Own} {acc :
    Access} {agate : Recorder} {stage : Staging} {rcv : Recovery} {fleet : Fleet} {svc : Service} {outs : Tab Out} {feeds : Tab Feed} {rems : Tab
    Remote} {qs : Tab Queue} {readCap : Option Capture} {leads leadsOld : Tab (Nat × Nat × Nat)} {maps : Maps} {onyx : Onyx} {marker : Marker} {nav :
    Nav} {clock : Clock} {fb : Feedback} {ports : Tab Port} (h : Canonical s) :
    Canonical
      ⟨s.regs, mtime, freeCtr, pending, reply, sup, start, own, acc, agate, s.nv, stage, rcv, fleet, svc, outs, feeds, rems, qs, readCap, leads,
      leadsOld, leadsAt, s.eng, s.gathers, maps, onyx, marker, nav, clock, fb, ports⟩ := h

/-- A change of the engine beside its memories keeps the canonical form. -/
theorem Canonical.keepEng {e : Engine} (h : Canonical s) (hProg : e.prog = s.eng.prog := by dsimp only)
    (hCommon : e.cmem = s.eng.cmem := by dsimp only) :
    Canonical { s with eng := e } := by
  obtain ⟨hRegs, hp, hStored, hc, hLocal⟩ := h
  exact ⟨hRegs, hProg ▸ hp, hStored, hCommon ▸ hc, hLocal⟩

/-- A change of nonvolatile memory beside the stored program keeps the canonical form. -/
theorem Canonical.keepNv {n : Stored} (h : Canonical s) (hStored : n.prog = s.nv.prog := by dsimp only) : Canonical { s with nv := n } := by
  obtain ⟨hRegs, hProg, hs, hCommon, hLocal⟩ := h
  exact ⟨hRegs, hProg, hStored ▸ hs, hCommon, hLocal⟩

/-- A reset that drops bits of registers keeps the canonical form. -/
theorem Canonical.keepRegs {mask : Nat → Nat} (h : Canonical s) : Canonical { s with regs := Machine.keepRegs mask s.regs } :=
  ⟨keepRegs_wf _ _ h.1, h.2⟩

/-- The reset state with the registers and the nonvolatile memory of a state in canonical form. -/
theorem Canonical.onReset (h : Canonical s) : Canonical { State.reset with regs := s.regs, nv := s.nv } := by
  obtain ⟨hRegs, _, hStored, _⟩ := h
  obtain ⟨_, hProg, _, hCommon, hLocal⟩ := reset_wf
  exact ⟨hRegs, hProg, hStored, hCommon, hLocal⟩

/-- What a write of a register with a rule of its own does beside the fields keeps the canonical form. -/
def KeepsCanonical (r : RegRule) : Prop := ∀ (c : WriteCtx) (s : State), Canonical s → Canonical (r.effect c s)

theorem KeepsCanonical.ite {p : Prop} [Decidable p] {a b : RegRule} (ha : KeepsCanonical a) (hb : KeepsCanonical b) :
    KeepsCanonical (if p then a else b) := by
  split
  · exact ha
  · exact hb

theorem plainRule_keeps : KeepsCanonical plainRule := fun _ _ h => h

/-- A command that answers a next state answers one in canonical form. -/
def EndsCanonical (o : Outcome) : Prop := ∀ t, o = .next t → Canonical t

theorem Canonical.done (h : Canonical s) : EndsCanonical (Machine.done s) := by
  rintro t ⟨⟩
  exact h

theorem Canonical.live {f : State → State} (h : Canonical s) (hf : ∀ s, Canonical s → Canonical (f s)) :
    EndsCanonical (Machine.live f s) := Canonical.done (.ite (hf s h) h)

/-! The operations of Machine/Ops.lean. -/

theorem Canonical.wr {a : Nat} {w : Word} (h : Canonical s) : Canonical (Machine.wr s a w) :=
  ⟨wr_wf _ _ _ h.1, wr_memWf _ _ _ h.2⟩
theorem Canonical.fset {f : Fld} {v : Nat} (h : Canonical s) : Canonical (Machine.fset s f v) := h.wr
theorem Canonical.fbool {f : Fld} {b : Bool} (h : Canonical s) : Canonical (Machine.fbool s f b) := h.fset
theorem Canonical.fsetSat {f : Fld} {v : Int} (h : Canonical s) : Canonical (Machine.fsetSat s f v) := h.fset
theorem Canonical.fsat {f : Fld} {d : Nat} (h : Canonical s) : Canonical (Machine.fsat s f d) := h.fset
theorem Canonical.fwrap {f : Fld} {d : Nat} (h : Canonical s) : Canonical (Machine.fwrap s f d) := h.fset
theorem Canonical.fmax {f : Fld} {v : Nat} (h : Canonical s) : Canonical (Machine.fmax s f v) := h.fset
theorem Canonical.onlyIf {b : Bool} {f : State → State} (h : Canonical s) (hf : ∀ s, Canonical s → Canonical (f s)) : Canonical (Machine.onlyIf
    b f s) :=
  .ite (hf _ h) h
theorem Canonical.forAll {α : Type} {f : α → State → State} {xs : List α} (h : Canonical s)
    (hf : ∀ x s, Canonical s → Canonical (f x s)) : Canonical (Machine.forAll f xs s) := by
  induction xs generalizing s with
  | nil => exact h
  | cons x xs ih => exact ih (hf x s h)
theorem Canonical.atTime {t : Nat} (h : Canonical s) : Canonical (Machine.atTime t s) := h.keep
theorem Canonical.queueCmd {f : Fld} (h : Canonical s) : Canonical (Machine.queueCmd f s) := h.keep
theorem Canonical.runQueued {f : Fld} {k : State → State} (h : Canonical s) (hk : ∀ s, Canonical s → Canonical (k s)) : Canonical
    (Machine.runQueued f k s) :=
  .ite (hk _ h.keep) h
theorem Canonical.fresh (h : Canonical s) : Canonical (Machine.fresh s).2 := h.keep
theorem Canonical.coalesce {e : Event} {f : Flood} (h : Canonical s) : Canonical (Machine.coalesce e f s) := h.keep.fsat
theorem Canonical.dropEvent {e : Event} (h : Canonical s) : Canonical (Machine.dropEvent e s) := h.fsat.fset
theorem Canonical.raiseEvent {e : Event} (h : Canonical s) : Canonical (Machine.raiseEvent e s) :=
  .ite h.keep (by split; exacts [.ite h.coalesce h.dropEvent, h.dropEvent])
theorem Canonical.raise {sev cls inst : Nat} {k : EvKind} {vals : List Int} (h : Canonical s) : Canonical (Machine.raise sev cls inst k vals s) :=
  h.raiseEvent
theorem Canonical.setOut {n : Nat} {o : Out} (h : Canonical s) : Canonical (Machine.setOut n o s) := h.keep
theorem Canonical.setFeed {f : Nat} {x : Feed} (h : Canonical s) : Canonical (Machine.setFeed f x s) := h.keep
theorem Canonical.setRem {d : Nat} {x : Remote} (h : Canonical s) : Canonical (Machine.setRem d x s) := h.keep
theorem Canonical.setQueue {q : Nat} {x : Queue} (h : Canonical s) : Canonical (Machine.setQueue q x s) := h.keep

/-! The operations of Machine/Queues.lean. -/

theorem Canonical.noteHwm {q : Nat} (h : Canonical s) : Canonical (Machine.noteHwm q s) := h.fmax
theorem Canonical.countCommit {q n : Nat} (h : Canonical s) : Canonical (Machine.countCommit q n s) := h.setQueue.fwrap.noteHwm
theorem Canonical.countFinal {q n : Nat} (h : Canonical s) : Canonical (Machine.countFinal q n s) := h.setQueue.fwrap
theorem Canonical.commitItem {q : Nat} {item : List QWord} (h : Canonical s) : Canonical (Machine.commitItem q item s) := h.setQueue.countCommit
theorem Canonical.deliver {q : Nat} {item : List QWord} (h : Canonical s) : Canonical (Machine.deliver q item s) :=
  .ite h.fset.fsat (by split; exacts [.ite h.commitItem h.setQueue.fset, .ite (.ite h.setQueue.commitItem.commitItem h.setQueue.commitItem.setQueue.fset) h.fset.fsat])
theorem Canonical.enterHeld {q : Nat} (h : Canonical s) : Canonical (Machine.enterHeld q s) := by
  unfold Machine.enterHeld
  split
  exacts [h, .ite h.setQueue.commitItem h.keep]
theorem Canonical.advanceFinal {q : Nat} (h : Canonical s) : Canonical (Machine.advanceFinal q s) := h.setQueue.countFinal
theorem Canonical.popHead {q n : Nat} (h : Canonical s) : Canonical (Machine.popHead q n s) := h.setQueue.countFinal
theorem Canonical.epochQueue {g q : Nat} (h : Canonical s) : Canonical (Machine.epochQueue g q s) :=
  .advanceFinal (.ite h.setQueue h.setQueue.countCommit)
theorem Canonical.rewindQueue {g q : Nat} (h : Canonical s) : Canonical (Machine.rewindQueue g q s) := h.setQueue.advanceFinal
theorem Canonical.clearQueue {g q : Nat} (h : Canonical s) : Canonical (Machine.clearQueue g q s) := h.rewindQueue.setQueue
theorem Canonical.flushQueue {q : Nat} (h : Canonical s) : Canonical (Machine.flushQueue q s) := .ite h.setQueue.setOut h.setQueue
theorem Canonical.resetQueue {q : Nat} (h : Canonical s) : Canonical (Machine.resetQueue q s) := h.setQueue.forAll (fun _ _ h => h.wr)
theorem Canonical.dropReserved {q : Nat} (h : Canonical s) : Canonical (Machine.dropReserved q s) := h.setQueue

/-! The operations of Machine/Pwm.lean. -/

theorem Canonical.takePath {n : Nat} (h : Canonical s) : Canonical (Machine.takePath n s) := h.setOut
theorem Canonical.takePathIdle {n : Nat} (h : Canonical s) : Canonical (Machine.takePathIdle n s) := .ite h h.takePath
theorem Canonical.setCarrier {n : Nat} {c : Carrier} (h : Canonical s) : Canonical (Machine.setCarrier n c s) := h.setOut
theorem Canonical.countDrop {n : Nat} (h : Canonical s) : Canonical (Machine.countDrop n s) := h.fset.fsat
theorem Canonical.countGap {n : Nat} (h : Canonical s) : Canonical (Machine.countGap n s) := h.fset.fsat
theorem Canonical.startPeriod {n g : Nat} (h : Canonical s) : Canonical (Machine.startPeriod n g s) :=
  .onlyIf (.onlyIf (h.setOut.onlyIf (fun _ h => h.countGap)) (fun _ h => h.countDrop)) (fun _ h => h.fsat)
theorem Canonical.reloadPeriod {n g : Nat} (h : Canonical s) : Canonical (Machine.reloadPeriod n g s) := h.setCarrier.startPeriod
theorem Canonical.replanPeriod {n : Nat} (h : Canonical s) : Canonical (Machine.replanPeriod n s) := by
  unfold Machine.replanPeriod
  dsimp only
  split
  exacts [h, .startPeriod (.setOut (h.forAll (fun _ _ h => h.fset)))]
theorem Canonical.fallAt {n f : Nat} (h : Canonical s) : Canonical (Machine.fallAt n f s) := h.setOut
theorem Canonical.holdPulse {n : Nat} {atOnce : Bool} (h : Canonical s) : Canonical (Machine.holdPulse n atOnce s) :=
  .ite (h.onlyIf (fun _ h => h.fset)) (.fsat (.setCarrier (h.onlyIf (fun _ h => h.fset))))
theorem Canonical.updateCompare {n t : Nat} (h : Canonical s) : Canonical (Machine.updateCompare n t s) :=
  .ite h (.ite h.replanPeriod (.ite h (by dsimp only; split; exacts [h.setCarrier.setOut, .ite h.setCarrier.fallAt h.setCarrier.holdPulse.fallAt])))
theorem Canonical.compensated {n : Nat} (h : Canonical s) : Canonical (Machine.compensated n s).2 := by
  unfold Machine.compensated
  dsimp only
  split
  exacts [h.fset, by split; exacts [h.fset, by split; exacts [h.fset.fset, by split; exacts [h.fset.fset, h.fset]]]]
theorem Canonical.applyDuty {n t : Nat} (h : Canonical s) : Canonical (Machine.applyDuty n t s) := h.compensated.fbool.fset.updateCompare
theorem Canonical.delayReload {n d : Nat} (h : Canonical s) : Canonical (Machine.delayReload n d s) := by
  unfold Machine.delayReload
  dsimp only
  split
  exacts [h.setCarrier, .ite h.setCarrier.fallAt h.setCarrier]
theorem Canonical.spreadMove {l m k n : Nat} (h : Canonical s) : Canonical (Machine.spreadMove l m k n s) := .ite h h.delayReload
theorem Canonical.respread {b : Nat} (h : Canonical s) : Canonical (Machine.respread b s) :=
  .ite h (.forAll (h.fset.fset.forAll (fun _ _ h => h.fbool)) (fun _ _ h => h.spreadMove))
theorem Canonical.endDrive {n t : Nat} (h : Canonical s) : Canonical (Machine.endDrive n t s) := h.setOut
theorem Canonical.driveSteady {n t : Nat} {f : Option Nat} (h : Canonical s) : Canonical (Machine.driveSteady n t f s) := h.setOut
theorem Canonical.scheduleCarrier {n t : Nat} (h : Canonical s) : Canonical (Machine.scheduleCarrier n t s) :=
  .ite h.takePath.driveSteady (.fset (.setCarrier (h.takePath.onlyIf (fun _ h => h.endDrive))))
theorem Canonical.stopCarrier {n t : Nat} (h : Canonical s) : Canonical (Machine.stopCarrier n t s) := h.endDrive.setCarrier.fset.takePath
theorem Canonical.setPeriod {n t v : Nat} (h : Canonical s) : Canonical (Machine.setPeriod n t v s) := by
  have clamped {low first : Bool} {vals : List Int} {p : Nat} : Canonical (Machine.fset (Machine.onlyIf first (Machine.raise 2 1 n .periodClamp vals)
      (Machine.onlyIf low (fun s => Machine.fset s (F.PWM_STAT_PERIOD_CLAMP n) 1) s)) (F.PWM_PERIOD_PERIOD n) p) :=
    .fset (.onlyIf (.onlyIf h fun _ h => h.fset) fun _ h => h.raise)
  exact .respread (.ite clamped (.ite (.ite clamped clamped.driveSteady.fset.takePath) (.ite clamped.setCarrier.fset.startPeriod
    (.ite clamped (.ite clamped.replanPeriod (.ite clamped.setCarrier.updateCompare clamped.setOut))))))
theorem Canonical.setPhase {n v : Nat} (h : Canonical s) : Canonical (Machine.setPhase n v s) :=
  .ite h.fset.setCarrier (.ite h.fset.setCarrier.setCarrier.delayReload h.fset.setCarrier.setCarrier.setCarrier)
theorem Canonical.exchangeLines {n : Nat} (h : Canonical s) : Canonical (Machine.exchangeLines n s) := .ite h h.setOut.fset
theorem Canonical.carrierFall {n : Nat} (h : Canonical s) : Canonical (Machine.carrierFall n s) := by
  unfold Machine.carrierFall
  split
  exacts [h, h.atTime.setCarrier]
theorem Canonical.calibrate {n : Nat} {taps : List Nat} (h : Canonical s) : Canonical (Machine.calibrate n taps s) :=
  .ite (.ite h.exchangeLines.fsat.fset.fset.takePathIdle.raise h.exchangeLines.fsat.fset) h.exchangeLines.setOut.fset.exchangeLines

/-! The operations of Machine/Channels.lean. -/

theorem Canonical.notePstate {n : Nat} (h : Canonical s) : Canonical (Machine.notePstate n s) := h.fset
theorem Canonical.rejectMeas {n : Nat} {on : Bool} {r v : Nat} (h : Canonical s) : Canonical (Machine.rejectMeas n on r v s) :=
  .ite h.fset.fsat.fset.raise.fset.raise h.fset.fsat.fset.raise
theorem Canonical.judgeMeas {n : Nat} {on : Bool} {m : Nat} (h : Canonical s) : Canonical (Machine.judgeMeas n on m s) :=
  .ite h.rejectMeas h.fset.fset.fset.fset
theorem Canonical.endCaptureEarly {n : Nat} (h : Canonical s) : Canonical (Machine.endCaptureEarly n s) := by
  unfold Machine.endCaptureEarly
  dsimp only
  split
  exacts [h, .setOut (.ite h h.rejectMeas)]
theorem Canonical.startCapture {n t : Nat} {on : Bool} (h : Canonical s) : Canonical (Machine.startCapture n t on s) :=
  .ite h.endCaptureEarly.setOut h.endCaptureEarly
theorem Canonical.countDeferral {n t : Nat} (h : Canonical s) : Canonical (Machine.countDeferral n t s) := by
  unfold Machine.countDeferral
  split
  exacts [h, h.fsat.fmax]
theorem Canonical.actualOn {n t : Nat} (h : Canonical s) : Canonical (Machine.actualOn n t s) :=
  .applyDuty (.startCapture (.fset (.setOut (by split; exacts [h, h.countDeferral.fset.onlyIf (fun _ h => h.raise)]))))
theorem Canonical.actualOff {n t : Nat} (h : Canonical s) : Canonical (Machine.actualOff n t s) := .ite h h.setOut.fset.startCapture.applyDuty
theorem Canonical.retractOn {n t : Nat} (h : Canonical s) : Canonical (Machine.retractOn n t s) := h.setOut.fset.notePstate
theorem Canonical.judgeLater {n t : Nat} (h : Canonical s) : Canonical (Machine.judgeLater n t s) := by
  unfold Machine.judgeLater
  split
  exacts [h, h.forAll (fun _ _ h => .ite h.retractOn h)]
theorem Canonical.settle {n t : Nat} (h : Canonical s) : Canonical (Machine.settle n t s) :=
  .notePstate (.ite h.actualOff (.ite (.ite h.actualOff (.ite h h.actualOn)) (.ite h.actualOff (.ite h (.ite (by split; exacts [h, h.setOut]) h.actualOn.judgeLater)))))
theorem Canonical.beginPeriod {n g : Nat} (h : Canonical s) : Canonical (Machine.beginPeriod n g s) :=
  .ite (.ite h.setCarrier.actualOff.setOut.notePstate h.setCarrier) (h.reloadPeriod.onlyIf (fun _ h => h.respread))
theorem Canonical.enterBrake {n t : Nat} (h : Canonical s) : Canonical (Machine.enterBrake n t s) := .ite h (h.forAll (fun _ _ h => h.setOut))
theorem Canonical.leaveBrake {n t : Nat} (h : Canonical s) : Canonical (Machine.leaveBrake n t s) := .ite h h.setOut
theorem Canonical.engage {n t : Nat} {d : State → State} (h : Canonical s) (hd : ∀ s, Canonical s → Canonical (d s)) : Canonical (Machine.engage
    n t d s) :=
  .settle (.enterBrake (hd _ h.setOut.fset))
theorem Canonical.startOn {n t : Nat} (h : Canonical s) : Canonical (Machine.startOn n t s) :=
  .respread (.onlyIf (h.engage (fun _ h => h.scheduleCarrier)) (fun _ h => h.beginPeriod))
theorem Canonical.commandOn {n t : Nat} (h : Canonical s) : Canonical (Machine.commandOn n t s) := .ite h h.startOn
theorem Canonical.commandOff {n t : Nat} (h : Canonical s) : Canonical (Machine.commandOff n t s) :=
  .ite h (.respread (.ite (.settle (.setOut (.onlyIf (.setOut (.settle (.stopCarrier (.fset (.setOut (.ite h.countDeferral.fset.setOut h))))))
      (fun _ h => h.leaveBrake)))) (.onlyIf (.setOut (.settle (.stopCarrier (.fset (.setOut (.ite h.countDeferral.fset.setOut h)))))) (fun _ h =>
      h.leaveBrake))))
theorem Canonical.drivePulse {n t e : Nat} (h : Canonical s) : Canonical (Machine.drivePulse n t e s) := h.driveSteady.setOut.fset.takePath
theorem Canonical.commandPulse {n t l : Nat} (h : Canonical s) : Canonical (Machine.commandPulse n t l s) :=
  .ite h.takePathIdle.commandOff (.ite h.takePathIdle.countDrop.commandOff (.respread (.engage (h.takePathIdle.onlyIf (fun _ h => h.fsat)) (fun
      _ h => h.drivePulse))))
theorem Canonical.countTrip {n t : Nat} (h : Canonical s) : Canonical (Machine.countTrip n t s) :=
  .settle (.ite h.fsat.fset.fset.endCaptureEarly.setOut.raise.raise h.fsat.fset.fset.endCaptureEarly.setOut.raise)
theorem Canonical.channelTrip {n : Nat} (h : Canonical s) : Canonical (Machine.channelTrip n s) :=
  .ite (.onlyIf (h.onlyIf (fun _ h => h.countTrip)) (fun _ h => h.countTrip)) (.ite h.countTrip h)
theorem Canonical.retryPauseEnd {n : Nat} (h : Canonical s) : Canonical (Machine.retryPauseEnd n s) := by
  unfold Machine.retryPauseEnd
  split
  exacts [h, h.atTime.setOut.settle]
theorem Canonical.resetTries {n : Nat} (h : Canonical s) : Canonical (Machine.resetTries n s) := h.fset.setOut
theorem Canonical.tryCountReset {n : Nat} (h : Canonical s) : Canonical (Machine.tryCountReset n s) := by
  unfold Machine.tryCountReset
  split
  exacts [h, h.atTime.resetTries]
theorem Canonical.unlatch {n : Nat} (h : Canonical s) : Canonical (Machine.unlatch n s) := .ite h.setOut.settle h.setOut.resetTries.settle
theorem Canonical.inrushWindowEnd {n : Nat} (h : Canonical s) : Canonical (Machine.inrushWindowEnd n s) := by
  unfold Machine.inrushWindowEnd
  split
  exacts [h, h.atTime.setOut.notePstate]
theorem Canonical.thermalShutdown {n : Nat} {hot : Bool} (h : Canonical s) : Canonical (Machine.thermalShutdown n hot s) :=
  .ite h h.fset.endCaptureEarly.raise.setOut.settle
theorem Canonical.thermalRecovery {n : Nat} (h : Canonical s) : Canonical (Machine.thermalRecovery n s) := by
  unfold Machine.thermalRecovery
  dsimp only
  split
  exacts [h.setOut.settle, h.setOut.settle, h]
theorem Canonical.pulseDeferralEnd {n : Nat} (h : Canonical s) : Canonical (Machine.pulseDeferralEnd n s) :=
  .ite h (h.fset.setOut.settle.onlyIf (fun _ h => h.beginPeriod))
theorem Canonical.budgetAdmission {n : Nat} (h : Canonical s) : Canonical (Machine.budgetAdmission n s) := .ite h.settle h
theorem Canonical.reversalGapEnd {n : Nat} (h : Canonical s) : Canonical (Machine.reversalGapEnd n s) := by
  unfold Machine.reversalGapEnd
  split
  exacts [h, h.atTime.setOut.settle]
theorem Canonical.lpShort {n : Nat} (h : Canonical s) : Canonical (Machine.lpShort n s) := .ite h h.fset.raise
theorem Canonical.carrierReload {n : Nat} (h : Canonical s) : Canonical (Machine.carrierReload n s) := .ite h h.atTime.takePath.beginPeriod
theorem Canonical.pulseEnd {n : Nat} (h : Canonical s) : Canonical (Machine.pulseEnd n s) := by
  unfold Machine.pulseEnd
  split
  exacts [h, h.atTime.commandOff]
theorem Canonical.noteMeas {n : Nat} {m : ChanMeas} (h : Canonical s) : Canonical (Machine.noteMeas n m s) :=
  .ite h.fset.fset.fset.setOut h.fset.fset.fset
theorem Canonical.supplyCompUpdate {f mv : Nat} {ms' : List ChanMeas} (h : Canonical s) : Canonical (Machine.supplyCompUpdate f mv ms' s) :=
  .ite (.fset (h.fset.forAll (fun _ _ h => h.noteMeas))) (.forAll (.fset (h.fset.forAll (fun _ _ h => h.noteMeas))) (fun _ _ h => h.setOut.applyDuty))
theorem Canonical.compensationFreeze {f : Nat} (h : Canonical s) : Canonical (Machine.compensationFreeze f s) :=
  .ite h.setFeed (h.setFeed.fset.fset.raise.forAll (fun _ _ h => h.endCaptureEarly.applyDuty))
theorem Canonical.compensationFreezeEnd {f : Nat} (h : Canonical s) : Canonical (Machine.compensationFreezeEnd f s) := by
  unfold Machine.compensationFreezeEnd
  split
  exacts [h, h.atTime.fset.setFeed]
theorem Canonical.feedUvEntry {f : Nat} {reversed : Bool} (h : Canonical s) : Canonical (Machine.feedUvEntry f reversed s) :=
  .ite h.fbool (h.fbool.fsat.fset.fset.raise.setFeed.forAll (fun _ _ h => h.endCaptureEarly.settle))
theorem Canonical.holdForStagger {k : Nat} {ns : List Nat} (h : Canonical s) : Canonical (Machine.holdForStagger k ns s) :=
  .forAll (.setFeed (h.forAll (fun _ _ h => h.setOut))) (fun _ _ h => h.notePstate)
theorem Canonical.feedUvExit {f : Nat} (h : Canonical s) : Canonical (Machine.feedUvExit f s) := .ite h h.fset.fset.holdForStagger
theorem Canonical.staggeredTurnOn {k : Nat} (h : Canonical s) : Canonical (Machine.staggeredTurnOn k s) := by
  unfold Machine.staggeredTurnOn
  dsimp only
  split
  exacts [h, h.atTime.setFeed.setOut.settle]
theorem Canonical.groundLoss (h : Canonical s) : Canonical (Machine.groundLoss s) :=
  .ite h (h.keep.raise.forAll (fun _ _ h => h.endCaptureEarly.settle))
theorem Canonical.groundLossEnd (h : Canonical s) : Canonical (Machine.groundLossEnd s) := .ite h h.keep.holdForStagger
theorem Canonical.brakeBridge {n t : Nat} (h : Canonical s) : Canonical (Machine.brakeBridge n t s) :=
  .forAll (.enterBrake (h.forAll (fun _ _ h => h.setOut.fset))) (fun _ _ h => .ite h.settle h.startOn)
theorem Canonical.takePosture {n : Nat} (h : Canonical s) : Canonical (Machine.takePosture n s) :=
  .setOut (by split; exacts [.ite h h.commandOff, h.setOut, .ite h.fset.endDrive.fset.setOut.settle (.ite h.brakeBridge (.ite h.commandOff (.ite h.setPeriod.commandOn h.fset.applyDuty.commandOn)))])
theorem Canonical.discardPending {n : Nat} (h : Canonical s) : Canonical (Machine.discardPending n s) := h.fsat.countFinal.setOut
theorem Canonical.disarmByPosture {n : Nat} (h : Canonical s) : Canonical (Machine.disarmByPosture n s) := h.fset.discardPending.setOut.takePosture
theorem Canonical.disarmOut {n : Nat} (h : Canonical s) : Canonical (Machine.disarmOut n s) := h.fset.discardPending.commandOff.setOut
theorem Canonical.allOff (h : Canonical s) : Canonical (Machine.allOff s) := h.forAll (fun _ _ h => h.commandOff)
theorem Canonical.latencyMeasurement {n : Nat} {samples : List Nat} (h : Canonical s) : Canonical (Machine.latencyMeasurement n samples s) := by
  unfold Machine.latencyMeasurement
  split
  exacts [h, .ite h (by dsimp only; split; exacts [h, h.judgeMeas.setOut.applyDuty])]
theorem Canonical.captureEnd {n : Nat} {samples : List Nat} (h : Canonical s) : Canonical (Machine.captureEnd n samples s) := by
  unfold Machine.captureEnd
  split
  exacts [h, .applyDuty (.setOut (.ite h.latencyMeasurement.atTime h.latencyMeasurement.atTime.rejectMeas))]
theorem Canonical.takeReadCopy {n : Nat} (h : Canonical s) : Canonical (Machine.takeReadCopy n s) := by
  unfold Machine.takeReadCopy
  dsimp only
  split
  exacts [h.keep.fset, h.keep.fset.fbool.fset.fset.wr.wr]

/-! The operations of Machine/Actuation.lean. -/

theorem Canonical.markLate {n : Nat} (h : Canonical s) : Canonical (Machine.markLate n s) := h.fset.fsat
theorem Canonical.placeEvent {n target : Nat} {a : Action} {v : Nat} (h : Canonical s) : Canonical (Machine.placeEvent n target a v s) :=
  .onlyIf (h.setOut.countCommit.onlyIf (fun _ h => h.markLate)) (fun _ h => h.fset.fsat)
theorem Canonical.actHold {n target mask : Nat} (h : Canonical s) : Canonical (Machine.actHold n target mask s) :=
  .onlyIf (h.setOut.countFinal.fsat.onlyIf (fun _ h => h.markLate)) (fun _ h => h.fset)
theorem Canonical.takeHead (h : Canonical s) : Canonical (Machine.takeHead s) := h.popHead.fset
theorem Canonical.discardEvent {n : Nat} (h : Canonical s) : Canonical (Machine.discardEvent n s) := h.takeHead.fset.fsat
theorem Canonical.stallDistributor {n : Nat} (h : Canonical s) : Canonical (Machine.stallDistributor n s) := .ite h.keep.fset h.keep.fset.fset.fsat
theorem Canonical.eventPlacement (h : Canonical s) : Canonical (Machine.eventPlacement s) := by
  unfold Machine.eventPlacement
  split
  · exact h
  · exact .ite h.takeHead (.ite h.discardEvent (.ite h.takeHead.actHold (.ite h.stallDistributor h.takeHead.placeEvent)))
theorem Canonical.holdPlacement (h : Canonical s) : Canonical (Machine.holdPlacement s) := by
  unfold Machine.holdPlacement
  split
  exacts [h.eventPlacement, h]
theorem Canonical.accountFirings {n : Nat} {fs : List Firing} (h : Canonical s) : Canonical (Machine.accountFirings n fs s) :=
  h.setOut.countFinal.forAll (fun _ _ h => .onlyIf (h.onlyIf (fun _ h => h.markLate)) (fun _ h => h.fmax))
theorem Canonical.fireValue {n : Nat} {f : Firing} (h : Canonical s) : Canonical (Machine.fireValue n f s) := by
  unfold Machine.fireValue
  split
  exacts [h.fset.applyDuty, h.setPeriod, h.setPhase, h, h, h, h]
theorem Canonical.fireDrive {n : Nat} {again : Bool} {f : Firing} (h : Canonical s) : Canonical (Machine.fireDrive n again f s) := by
  unfold Machine.fireDrive
  split
  exacts [.ite h.startOn h.commandOn, h.commandOff, h.commandPulse, h, h, h, h]
theorem Canonical.fireAll {n : Nat} {fs : List Firing} (h : Canonical s) : Canonical (Machine.fireAll n fs s) := by
  unfold Machine.fireAll
  dsimp only
  split
  · exact h.forAll (fun _ _ h => h.fireValue)
  · exact .ite (.fireDrive (h.forAll (fun _ _ h => h.fireValue))) (h.fireDrive.forAll (fun _ _ h => h.fireValue))
theorem Canonical.fireHead {n : Nat} {a : Action} (h : Canonical s) : Canonical (Machine.fireHead n a s) := by
  unfold Machine.fireHead
  dsimp only
  split
  exacts [h, .ite h h.atTime.accountFirings.fireAll]
theorem Canonical.actuationOn {n : Nat} (h : Canonical s) : Canonical (Machine.actuationOn n s) := h.fireHead
theorem Canonical.actuationOff {n : Nat} (h : Canonical s) : Canonical (Machine.actuationOff n s) := h.fireHead
theorem Canonical.actuationDuty {n : Nat} (h : Canonical s) : Canonical (Machine.actuationDuty n s) := h.fireHead
theorem Canonical.actuationPeriod {n : Nat} (h : Canonical s) : Canonical (Machine.actuationPeriod n s) := h.fireHead
theorem Canonical.actuationPhase {n : Nat} (h : Canonical s) : Canonical (Machine.actuationPhase n s) := h.fireHead
theorem Canonical.actuationPulse {n : Nat} (h : Canonical s) : Canonical (Machine.actuationPulse n s) := h.fireHead
theorem Canonical.latencyStore (h : Canonical s) : Canonical (Machine.latencyStore s) := h.keepNv
theorem Canonical.latencyTableRefresh (h : Canonical s) : Canonical (Machine.latencyTableRefresh s) := h.atTime.keep
theorem Canonical.lateClear {n : Nat} (h : Canonical s) : Canonical (Machine.lateClear n s) := h.fset
theorem Canonical.relearn {n : Nat} (h : Canonical s) : Canonical (Machine.relearn n s) := h.fset.fset

/-! The operations of Machine/Operands.lean. -/

theorem Canonical.setGather {g : Nat} {x : Gather} (h : Canonical s) (hx : tabWf (fun _ => (0 : Byte)) x.lmem) :
    Canonical (Machine.setGather g x s) := ⟨h.1, setGather_wf _ _ _ h.2 hx⟩
theorem Canonical.rewindQueueWork {g : Nat} (h : Canonical s) : Canonical (Machine.rewindQueueWork g s) := h.forAll (fun _ _ h => h.rewindQueue)
theorem Canonical.dropQueueWork {g : Nat} (h : Canonical s) : Canonical (Machine.dropQueueWork g s) := h.forAll (fun _ _ h => h.clearQueue)
theorem Canonical.holdOutputs {g : Nat} {outs : List Nat} (h : Canonical s) : Canonical (Machine.holdOutputs g outs s) :=
  h.forAll (fun _ _ h => h.setOut)
theorem Canonical.enterFault {g code pc : Nat} {word : Word} (h : Canonical s) : Canonical (Machine.enterFault g code pc word s) :=
  .raise (.fbool (.fset (.fset (.holdOutputs (.dropQueueWork (h.setGather (h.lmem _)))))))
theorem Canonical.faultHere {g code : Nat} (h : Canonical s) : Canonical (Machine.faultHere g code s) := h.enterFault
theorem Canonical.stallAs {g code : Nat} (h : Canonical s) : Canonical (Machine.stallAs g code s) := h.setGather (h.lmem _)
theorem Canonical.countIssue (h : Canonical s) : Canonical (Machine.countIssue s) := h.keepEng
theorem Canonical.retire {g : Nat} {f : Core → Core} (h : Canonical s) : Canonical (Machine.retire g f s) := .countIssue (h.setGather (h.lmem _))
theorem Canonical.instruction {g : Nat} {illegal : Bool} {ws ps : List Nat} {body : State → State} (h : Canonical s) (hbody : ∀ s, Canonical s →
    Canonical (body s)) : Canonical (Machine.instruction g illegal ws ps body s) :=
  .ite h (.ite h.enterFault (.ite h.faultHere (.ite h.stallAs (hbody _ h))))
theorem Canonical.coreInstr {g : Nat} {illegal : Bool} {ws ps : List Nat} {f : Core → Core} (h : Canonical s) : Canonical (Machine.coreInstr g
    illegal ws ps f s) :=
  h.instruction (fun _ h => h.retire)
theorem Canonical.noteJournal {g : Nat} (h : Canonical s) : Canonical (Machine.noteJournal g s) := h.fmax
theorem Canonical.journalAdd {g : Nat} {e : JEntry} (h : Canonical s) : Canonical (Machine.journalAdd g e s) := .noteJournal (h.setGather (h.lmem _))
theorem Canonical.asyncInstr {g : Nat} {illegal : Bool} {ws ps : List Nat} {body : State → State} (h : Canonical s) (hbody : ∀ s, Canonical s →
    Canonical (body s)) : Canonical (Machine.asyncInstr g illegal ws ps body s) :=
  h.instruction (fun _ h => .ite h.stallAs (.ite h.stallAs (hbody _ h)))
theorem Canonical.issueAsync {g : Nat} {k : OpKind} {wd pd : List Nat} (h : Canonical s) : Canonical (Machine.issueAsync g k wd pd s) :=
  .retire (h.setGather (h.lmem _))

/-! The operations of Machine/Health.lean. -/

theorem Canonical.cullet {k : Nat} (h : Canonical s) : Canonical (Machine.cullet k s) := .ite h (.ite h.fset.fset.raise h.fset.fset.raise.fset.fsat)
theorem Canonical.culletClear {k : Nat} (h : Canonical s) : Canonical (Machine.culletClear k s) := h.fset.fbool

/-! The operations of Machine/Onyx.lean. -/

theorem Canonical.replaceTile {t : CacheTile} (h : Canonical s) : Canonical (Machine.replaceTile t s) := h.keep
theorem Canonical.putTile {t : CacheTile} (h : Canonical s) : Canonical (Machine.putTile t s) := h.keep
theorem Canonical.writeDir {i : Nat} {e : Word} (h : Canonical s) : Canonical (Machine.writeDir i e s) := h.keep
theorem Canonical.checkWear (h : Canonical s) : Canonical (Machine.checkWear s) := h.onlyIf (fun _ h => h.cullet)
theorem Canonical.writeBack {i : Nat} (h : Canonical s) : Canonical (Machine.writeBack i s) := by
  unfold Machine.writeBack
  split
  · exact h
  · exact .ite h (.ite h.replaceTile.writeDir.checkWear (by split; exacts [h, h.keep.replaceTile.writeDir.checkWear]))
theorem Canonical.flushTiles (h : Canonical s) : Canonical (Machine.flushTiles s) := h.forAll (fun _ _ h => h.writeBack)
theorem Canonical.makeRoom (h : Canonical s) : Canonical (Machine.makeRoom s) :=
  .ite h (by dsimp only; split; exacts [by split; exacts [h.writeBack, h], (Canonical.keep (by split; exacts [h.writeBack, h]))])
theorem Canonical.badTile {i : Nat} (h : Canonical s) : Canonical (Machine.badTile i s) := by
  unfold Machine.badTile
  split
  exacts [h, h.putTile.keep.fsat.fset.raise]
theorem Canonical.fetchTile {i : Nat} {readable : Bool} (h : Canonical s) : Canonical (Machine.fetchTile i readable s) := by
  unfold Machine.fetchTile
  split
  exacts [h.putTile, .ite h.makeRoom.fsat.badTile h.makeRoom.fsat.putTile]
theorem Canonical.tileFetch {i : Nat} {readable : Bool} (h : Canonical s) : Canonical (Machine.tileFetch i readable s) := .ite h h.fetchTile
theorem Canonical.markCell {f l : Nat} {ce cn : Int} (h : Canonical s) : Canonical (Machine.markCell f l ce cn s) := by
  unfold Machine.markCell
  split
  exacts [h.fsat.fset, h.fetchTile.putTile]
theorem Canonical.noModel (h : Canonical s) : Canonical (Machine.noModel s) := h.fsat.fset
theorem Canonical.clearLayer {f l : Nat} (h : Canonical s) : Canonical (Machine.clearLayer f l s) :=
  (Canonical.keep (h.forAll (fun _ _ h => h.writeDir))).checkWear

/-! The operations of Machine/Marking.lean. -/

theorem Canonical.markCells {l : Nat} {cs : List (Nat × Int × Int)} (h : Canonical s) : Canonical (Machine.markCells l cs s) :=
  h.forAll (fun _ _ h => h.markCell)
theorem Canonical.markOutput {n lo hi : Nat} (h : Canonical s) : Canonical (Machine.markOutput n lo hi s) := by
  unfold Machine.markOutput
  split
  exacts [.ite h h.noModel, h.forAll (fun _ _ h => h.forAll (fun _ _ h => h.markCells))]
theorem Canonical.forgetIntervals {n hi : Nat} (h : Canonical s) : Canonical (Machine.forgetIntervals n hi s) := h.setOut
theorem Canonical.markUpTo {hi : Nat} (h : Canonical s) : Canonical (Machine.markUpTo hi s) :=
  .onlyIf (.onlyIf ((Canonical.keep (h.forAll (fun _ _ h => h.markOutput.forgetIntervals)))) (fun _ h => h.fset.fsat)) (fun _ h => h.raise)
theorem Canonical.markerSweep (h : Canonical s) : Canonical (Machine.markerSweep s) := h.atTime.markUpTo

/-! The operations of Machine/Memory.lean. -/

theorem Canonical.readWord {m g w : Nat} {k : State → State} (h : Canonical s) (hk : ∀ s, Canonical s → Canonical (k s)) : Canonical
    (Machine.readWord m g w k s) := by
  unfold Machine.readWord
  split
  exacts [hk _ h, h, hk _ h.keep.fsat]
theorem Canonical.localLoad {g d a n : Nat} {imm : BitVec 16} {signed : Bool} (h : Canonical s) : Canonical (Machine.localLoad g d a n imm
    signed s) :=
  h.instruction (fun _ h => .ite h.faultHere (.ite h.faultHere (h.readWord (fun _ h => h.retire))))
theorem Canonical.localStore {g d a n : Nat} {imm : BitVec 16} (h : Canonical s) : Canonical (Machine.localStore g d a n imm s) :=
  h.instruction (fun _ h => .ite h.faultHere (.ite h.faultHere (.ite h.faultHere (.retire (h.journalAdd.setGather (lmemStore_wf _ _ _ _ (h.lmem
      _)))))))
theorem Canonical.cmemWrite {a : Nat} {v : Word} (h : Canonical s) : Canonical (Machine.cmemWrite a v s) :=
  ⟨h.1, cmemWrite_wf _ _ _ h.2⟩
theorem Canonical.commonLoad {g d a : Nat} {imm : BitVec 16} (h : Canonical s) : Canonical (Machine.commonLoad g d a imm s) :=
  h.asyncInstr (fun _ h => .ite h.faultHere (.ite h.faultHere h.issueAsync))
theorem Canonical.commonStore {g d a : Nat} {imm : BitVec 16} (h : Canonical s) : Canonical (Machine.commonStore g d a imm s) :=
  h.instruction (fun _ h => .ite h.faultHere (.ite h.faultHere (.ite h.faultHere h.journalAdd.retire)))

/-! The operations of Machine/Async.lean. -/

theorem Canonical.markRemote {g d a b c : Nat} (h : Canonical s) : Canonical (Machine.markRemote g d a b c s) :=
  h.asyncInstr (fun _ h => .ite h.faultHere (.ite h.faultHere h.journalAdd.issueAsync))
theorem Canonical.finishOp {g : Nat} {o : AsyncOp} {vals : List Word} {p : Option Seg} (h : Canonical s) : Canonical (Machine.finishOp g o vals
    p s) :=
  (Canonical.keepEng (h.setGather (h.lmem _)))
theorem Canonical.fetchUnder {g layer : Nat} {q : Seg} (h : Canonical s) : Canonical (Machine.fetchUnder s g layer q) := by
  unfold Machine.fetchUnder
  split
  exacts [h, h.forAll (fun _ _ h => by split; exacts [h.fetchTile, h])]
theorem Canonical.fetchPath {g layer i hit t : Nat} (h : Canonical s) : Canonical (Machine.fetchPath s g layer i hit t) := by
  unfold Machine.fetchPath
  dsimp only
  split
  exacts [h, .ite h (h.forAll (fun _ _ h => h.fetchUnder))]
theorem Canonical.completeOp {g : Nat} {o : AsyncOp} (h : Canonical s) : Canonical (Machine.completeOp g o s) := by
  unfold Machine.completeOp
  dsimp only
  split
  · exact h.finishOp
  · exact h.finishOp
  · exact h.readWord (fun _ h => h.finishOp)
  · split
    exacts [h.noModel.finishOp, h.finishOp]
  · exact .finishOp (.ite h.fetchUnder h)
  · exact .ite h.finishOp (by split; exacts [h.noModel.finishOp, h.fetchPath.finishOp])
  · exact h.finishOp
  · exact h.finishOp
  · exact .finishOp (.setGather (.ite h.noModel h) (Canonical.lmem (.ite h.noModel h) _))
  · split
    exacts [h, h.setQueue.finishOp]
theorem Canonical.asyncCompletion {g k : Nat} (h : Canonical s) : Canonical (Machine.asyncCompletion g k s) := by
  unfold Machine.asyncCompletion
  split
  exacts [h, h.completeOp]

/-! The operations of Machine/Gathers.lean. -/

theorem Canonical.handLog {g sev code : Nat} {lo hi : Word} (h : Canonical s) : Canonical (Machine.handLog g sev code lo hi s) := h.raiseEvent
theorem Canonical.commitStores {js : List JEntry} (h : Canonical s) : Canonical (Machine.commitStores js s) := by
  induction js generalizing s with
  | nil => exact h
  | cons j js ih =>
    cases j with
    | stc a v => exact ih h.cmemWrite
    | _ => exact ih h
theorem Canonical.commitMarks {js : List JEntry} (h : Canonical s) : Canonical (Machine.commitMarks js s) := by
  induction js generalizing s with
  | nil => exact h
  | cons j js ih =>
    cases j with
    | mark d l cs => exact ih h.markCells
    | _ => exact ih h
theorem Canonical.commitLogs {g : Nat} {js : List JEntry} (h : Canonical s) : Canonical (Machine.commitLogs g js s) := by
  induction js generalizing s with
  | nil => exact h
  | cons j js ih =>
    cases j with
    | log sev code lo hi => exact ih h.handLog
    | _ => exact ih h
theorem Canonical.commitEpoch {g : Nat} {w : GWait} (h : Canonical s) : Canonical (Machine.commitEpoch g w s) := by
  have committed {s : State} (h : Canonical s) : Canonical (Machine.setGather g
      { gatherOf s g with journal := [], com := (gatherOf s g).cur, row := 0, waiting := w } s) := h.setGather (h.lmem g)
  exact committed (h.commitStores.commitMarks.commitLogs.forAll fun _ _ h => h.epochQueue)
theorem Canonical.epochThen {g : Nat} {w : GWait} {rest : State → State} (h : Canonical s) (hrest : ∀ s, Canonical s → Canonical (rest s)) :
    Canonical (Machine.epochThen g w rest s) :=
  .ite (hrest _ h.retire.commitEpoch) h.stallAs
theorem Canonical.setPhase' {g : Nat} {p : GPhase} (h : Canonical s) : Canonical (Machine.setPhase' g p s) := h.setGather (h.lmem _)
theorem Canonical.countMissed {g : Nat} (h : Canonical s) : Canonical (Machine.countMissed g s) := .fsat (h.setGather (h.lmem _))
theorem Canonical.noWait {g : Nat} (h : Canonical s) : Canonical (Machine.noWait g s) := h.setGather (h.lmem _)
theorem Canonical.waitTime {g a : Nat} (h : Canonical s) : Canonical (Machine.waitTime g a s) :=
  h.instruction (fun _ h => h.epochThen (fun _ h => .ite h.noWait h.setPhase'))
theorem Canonical.waitQueue {g q : Nat} (h : Canonical s) : Canonical (Machine.waitQueue g q s) :=
  h.instruction (fun _ h => .ite h.faultHere (h.epochThen (fun _ h => .ite h.noWait h.setPhase')))
theorem Canonical.logRecord {g d sev code : Nat} (h : Canonical s) : Canonical (Machine.logRecord g d sev code s) :=
  h.instruction (fun _ h => .ite h.faultHere h.journalAdd.retire)
theorem Canonical.waitmWake {g : Nat} (h : Canonical s) : Canonical (Machine.waitmWake g s) := by
  unfold Machine.waitmWake
  dsimp only
  split
  exacts [h.atTime.setGather (h.lmem _), h]
theorem Canonical.waitqWake {g : Nat} (h : Canonical s) : Canonical (Machine.waitqWake g s) := by
  unfold Machine.waitqWake
  dsimp only
  split
  exacts [.ite (h.setGather (h.lmem _)) h, h]
theorem Canonical.setPage {k v : Nat} (h : Canonical s) : Canonical (Machine.setPage k v s) := h.wr
theorem Canonical.startGather {g : Nat} (h : Canonical s) : Canonical (Machine.startGather g s) :=
  .fset (.fset (.fset (.fset (.dropQueueWork (h.setGather (by split; exacts [h.lmem _, trivial]))))))
theorem Canonical.restoreGather {g : Nat} (h : Canonical s) : Canonical (Machine.restoreGather g s) :=
  .rewindQueueWork (h.setGather (undoStores_wf _ _ (h.lmem _)))
theorem Canonical.stopGather {g : Nat} (h : Canonical s) : Canonical (Machine.stopGather g s) := by
  unfold Machine.stopGather
  split
  exacts [h, h.setPhase', h.setPhase', h.restoreGather.setGather (h.restoreGather.lmem _)]
theorem Canonical.startingComplete {g : Nat} (h : Canonical s) : Canonical (Machine.startingComplete g s) := .ite h.setPhase' h
theorem Canonical.gatherHoldEnd {g : Nat} (h : Canonical s) : Canonical (Machine.gatherHoldEnd g s) := by
  unfold Machine.gatherHoldEnd
  dsimp only
  split
  · exact h
  · exact .ite (.fset (.setGather (h.atTime.forAll (fun _ _ h => h.disarmByPosture)) (h.lmem _))) (.raise (.fset (.fset (.setGather
      (h.atTime.forAll (fun _ _ h => h.disarmByPosture)) (h.lmem _)))))

/-! The operations of Machine/Loader.lean. -/

theorem Canonical.zeroPage {k : Nat} (h : Canonical s) : Canonical (Machine.zeroPage k s) := ⟨h.1, zeroPage_wf _ _ h.2⟩
theorem Canonical.freePage {k : Nat} (h : Canonical s) : Canonical (Machine.freePage k s) := h.zeroPage.setPage
theorem Canonical.openLoad (h : Canonical s) : Canonical (Machine.openLoad s) := .fset (h.forAll (fun _ _ h => h.zeroPage.setPage))
theorem Canonical.writeProg {i : Nat} {v : Word} (h : Canonical s) : Canonical (Machine.writeProg i v s) :=
  ⟨h.1, writeProg_wf _ _ _ h.2⟩
theorem Canonical.startVerify {signed : Bool} (h : Canonical s) : Canonical (Machine.startVerify signed s) := h.keepEng.fset
theorem Canonical.closeLoad {r : Nat} (h : Canonical s) : Canonical (Machine.closeLoad r s) := h.keepEng.fset.fset.fset
theorem Canonical.verifyDone (h : Canonical s) : Canonical (Machine.verifyDone s) := by
  unfold Machine.verifyDone
  split
  · exact h
  · exact .ite (.raise (.closeLoad ((Canonical.keepEng (h.wr.forAll (fun _ _ h => h.setPage)))))) (.raise (.closeLoad (h.wr.forAll (fun _ _ h =>
      h.freePage))))
theorem Canonical.abortLoad (h : Canonical s) : Canonical (Machine.abortLoad s) := .ite (.closeLoad (h.forAll (fun _ _ h => h.freePage))) h
theorem Canonical.releaseRun (h : Canonical s) : Canonical (Machine.releaseRun s) := (Canonical.keepEng (h.forAll (fun _ _ h => h.freePage)))

/-! The operations of Machine/Feedback.lean. -/

theorem Canonical.setFb {n : Nat} {x : FbIn} (h : Canonical s) : Canonical (Machine.setFb n x s) := h.keep
theorem Canonical.setAi {m : Nat} {x : AiIn} (h : Canonical s) : Canonical (Machine.setAi m x s) := h.keep
theorem Canonical.setPt {p : Nat} {x : PtPin} (h : Canonical s) : Canonical (Machine.setPt p x s) := h.keep
theorem Canonical.fbRecord {n kind t flags hi : Nat} (h : Canonical s) : Canonical (Machine.fbRecord n kind t flags hi s) := h.deliver
theorem Canonical.noteFbState {n t : Nat} (h : Canonical s) : Canonical (Machine.noteFbState n t s) := .ite h h.setFb.fbRecord
theorem Canonical.noteFast {n t : Nat} (h : Canonical s) : Canonical (Machine.noteFast n t s) := .ite h h.setFb
theorem Canonical.dropPeriods {n : Nat} (h : Canonical s) : Canonical (Machine.dropPeriods n s) := .fset (.fset (.setFb (.ite h h.setFb)))
theorem Canonical.comparePulse {n k t : Nat} (h : Canonical s) : Canonical (Machine.comparePulse n k t s) := h.forAll (fun _ _ h => .ite h.setPt h)
theorem Canonical.fireCompare {n k t : Nat} {late : Bool} {dist : Nat} (h : Canonical s) : Canonical (Machine.fireCompare n k t late dist s) :=
  .ite (.fset (.comparePulse (.fbRecord (.ite h.fset.fset.fset h.fset)))) (.wr (.comparePulse (.fbRecord (.ite h.fset.fset.fset h.fset))))
theorem Canonical.judgeTimes {n k t m : Nat} (h : Canonical s) : Canonical (Machine.judgeTimes n k t m s) := by
  induction m generalizing s with
  | zero => exact h
  | succ m ih =>
    rw [Machine.judgeTimes]
    split
    · exact h
    · split
      · exact h
      · exact ih h.fireCompare
theorem Canonical.judgeCompare {n k t : Nat} (h : Canonical s) : Canonical (Machine.judgeCompare n k t s) := h.judgeTimes
theorem Canonical.moveCompares {n t : Nat} {c : Word} {d : Int} (h : Canonical s) : Canonical (Machine.moveCompares n t c d s) :=
  h.forAll (fun _ _ h => .ite h.fireCompare.judgeCompare h)
theorem Canonical.failRange {o t : Nat} (h : Canonical s) : Canonical (Machine.failRange o t s) :=
  .ite h h.dropPeriods.fset.fset.fset.fsat.raise.noteFbState
theorem Canonical.checkLine {o l t : Nat} {isCounted : Bool} (h : Canonical s) : Canonical (Machine.checkLine o l t isCounted s) :=
  .ite h.setFb.failRange (.ite h.setFb.fset h.setFb)
theorem Canonical.noteJoints (h : Canonical s) : Canonical (Machine.noteJoints s) := h.keep
theorem Canonical.timingEdge {n t : Nat} {reversal : Bool} (h : Canonical s) : Canonical (Machine.timingEdge n t reversal s) := by
  unfold Machine.timingEdge
  dsimp only
  split
  exacts [h.setFb, .ite h.setFb (.noteFast (.fsetSat (.wr (.fset (.setFb (h.onlyIf (fun _ h => h.setFb)))))))]
theorem Canonical.countEdge {n t : Nat} {d : Int} {timing : Bool} (h : Canonical s) : Canonical (Machine.countEdge n t d timing s) :=
  .noteJoints (.moveCompares (.onlyIf (.ite (.ite h.wr.setFb.fbool.fset.noteFbState.fsetSat.fset
      h.wr.setFb.fbool.fset.noteFbState.fset.fbRecord) h.wr.setFb.fbool.fset.noteFbState) (fun _ h => h.timingEdge)))
theorem Canonical.phaseError {n t : Nat} (h : Canonical s) : Canonical (Machine.phaseError n t s) :=
  .ite h.setFb.fsat.raise h.setFb.fsat.raise.dropPeriods.fset.fset.raise.noteFbState
theorem Canonical.takeLine {n : Nat} (h : Canonical s) : Canonical (Machine.takeLine n s) := h.fbool
theorem Canonical.fbEdge {n : Nat} {both : Bool} (h : Canonical s) : Canonical (Machine.fbEdge n both s) := by
  have taken {b : Bool} {k m t : Nat} : Canonical (Machine.onlyIf b (Machine.takeLine k) (Machine.takeLine m (Machine.atTime t s))) :=
    h.atTime.takeLine.onlyIf fun _ h => h.takeLine
  have checked {b c d : Bool} {i j k m t u : Nat} {s : State} (h : Canonical s) :
      Canonical (Machine.onlyIf b (Machine.checkLine i k u d) (Machine.checkLine j m t c s)) :=
    h.checkLine.onlyIf fun _ h => h.checkLine
  unfold Machine.fbEdge
  exact .ite h (.ite taken.failRange (.ite (.ite (checked taken).phaseError (.ite (checked taken)
    (by split; exacts [checked taken, (checked taken).countEdge]))) taken))
theorem Canonical.rawLineChange {n : Nat} {level : Bool} (h : Canonical s) : Canonical (Machine.rawLineChange n level s) := .ite h h.setFb
theorem Canonical.fbStaleTimeout {n : Nat} (h : Canonical s) : Canonical (Machine.fbStaleTimeout n s) := by
  unfold Machine.fbStaleTimeout
  split
  exacts [h, .ite h h.atTime.dropPeriods.fset.raise.noteFbState]
theorem Canonical.fbPeriodicRecord {n : Nat} (h : Canonical s) : Canonical (Machine.fbPeriodicRecord n s) := .ite h h.setFb.atTime.fbRecord
theorem Canonical.clearFault {n : Nat} (h : Canonical s) : Canonical (Machine.clearFault n s) := h.fset.setFb.noteFbState
theorem Canonical.countLoaded {n : Nat} (h : Canonical s) : Canonical (Machine.countLoaded n s) :=
  .noteJoints (h.forAll (fun _ _ h => h.judgeCompare))
theorem Canonical.ssiFrame {n : Nat} {bits : Word} {parity startHigh endLow : Bool} (h : Canonical s) : Canonical (Machine.ssiFrame n bits
    parity startHigh endLow s) :=
  .ite h (.ite h.setFb.fwrap.wr.wr.fset.noteFbState.moveCompares.noteJoints (h.fsat.fset.setFb.onlyIf (fun _ h => h.raise)))
theorem Canonical.ssiStaleTimeout {n : Nat} (h : Canonical s) : Canonical (Machine.ssiStaleTimeout n s) := by
  unfold Machine.ssiStaleTimeout
  split
  exacts [h, .ite h h.atTime.fset.raise.noteFbState]
theorem Canonical.failAi {m : Nat} {k : EvKind} {vals : List Int} (h : Canonical s) : Canonical (Machine.failAi m k vals s) := h.fset.fset.fsat.raise
theorem Canonical.aiConversion {m raw : Nat} {over25 : Bool} (h : Canonical s) : Canonical (Machine.aiConversion m raw over25 s) :=
  .ite h (.ite (.noteJoints (.fset (.fset (h.keep.setAi.fset.fset.onlyIf (fun _ h => h.fset.failAi))))) (.ite (h.keep.setAi.fset.fset.onlyIf
      (fun _ h => h.fset.failAi)) (.failAi (h.keep.setAi.fset.fset.onlyIf (fun _ h => h.fset.failAi)))))
theorem Canonical.aiBurdenReclose {m : Nat} (h : Canonical s) : Canonical (Machine.aiBurdenReclose m s) := h.fset
theorem Canonical.aiStaleTimeout {m : Nat} (h : Canonical s) : Canonical (Machine.aiStaleTimeout m s) := by
  unfold Machine.aiStaleTimeout
  split
  exacts [h, .ite h h.atTime.fset]
theorem Canonical.ptShort {p : Nat} (h : Canonical s) : Canonical (Machine.ptShort p s) := h.fset.raise
theorem Canonical.ptPulseEnd {p : Nat} (h : Canonical s) : Canonical (Machine.ptPulseEnd p s) := by
  unfold Machine.ptPulseEnd
  split
  exacts [h, h.atTime.setPt]
theorem Canonical.synthPeriod {p : Nat} (h : Canonical s) : Canonical (Machine.synthPeriod p s) := h.atTime.setPt
theorem Canonical.setSynth {p : Nat} {v : Int} {valid : Bool} (h : Canonical s) : Canonical (Machine.setSynth p v valid s) :=
  .ite h (.ite h.setPt.fset.fset h.setPt.fset.fset)
theorem Canonical.failSsi {n : Nat} (h : Canonical s) : Canonical (Machine.failSsi n s) := .ite h h.fset.raise.noteFbState
theorem Canonical.failPowered {k : Nat} (h : Canonical s) : Canonical (Machine.failPowered k s) :=
  .forAll (h.forAll (fun _ _ h => .ite h.failRange h.failSsi)) (fun _ _ h => .ite h.failAi h)
theorem Canonical.snsLevelChange (h : Canonical s) : Canonical (Machine.snsLevelChange s) := h.keep.failPowered
theorem Canonical.snsRestore (h : Canonical s) : Canonical (Machine.snsRestore s) := by
  unfold Machine.snsRestore
  split
  exacts [h, h.atTime.keep]
theorem Canonical.feedbackWarm (h : Canonical s) : Canonical (Machine.feedbackWarm s) := h.keep.forAll (fun _ _ h => h.wr.fset)

/-! The operations of Machine/Time.lean. -/

theorem Canonical.setPort {p : Nat} {x : Port} (h : Canonical s) : Canonical (Machine.setPort p x s) := h.keep
theorem Canonical.rebase (h : Canonical s) : Canonical (Machine.rebase s) := h.keep
theorem Canonical.enterTime {st sev : Nat} {k : EvKind} (h : Canonical s) : Canonical (Machine.enterTime st sev k s) := h.fset.raise
theorem Canonical.dropCorrection (h : Canonical s) : Canonical (Machine.dropCorrection s) := h.rebase.keep.fset.fset
theorem Canonical.startSlew {e : Int} (h : Canonical s) : Canonical (Machine.startSlew e s) := h.keep.fset
theorem Canonical.timeSolution {m g u : Nat} (h : Canonical s) : Canonical (Machine.timeSolution m g u s) :=
  .ite h.keep.enterTime (.ite (.ite h.keep.dropCorrection.keep.keep.fset h.keep.dropCorrection.keep.enterTime) (.ite
      h.keep.dropCorrection.keep.startSlew h.keep.dropCorrection.keep.keep.fset))
theorem Canonical.slewComplete (h : Canonical s) : Canonical (Machine.slewComplete s) :=
  .ite h (.ite h.atTime.dropCorrection h.atTime.dropCorrection.enterTime)
theorem Canonical.holdoverEntry (h : Canonical s) : Canonical (Machine.holdoverEntry s) := by
  unfold Machine.holdoverEntry
  split
  exacts [h, .ite h h.atTime.enterTime]
theorem Canonical.holdoverLimit {t : Nat} (h : Canonical s) : Canonical (Machine.holdoverLimit t s) := .ite h.atTime.enterTime h.atTime
theorem Canonical.takeStep {k : EvKind} {new : Int} (h : Canonical s) : Canonical (Machine.takeStep k new s) := h.dropCorrection.keep.fsat.raise
theorem Canonical.timeSet (h : Canonical s) : Canonical (Machine.timeSet s) := .ite h.keep.fset.takeStep h.dropCorrection.keep.fset
theorem Canonical.utcChange (h : Canonical s) : Canonical (Machine.utcChange s) := by
  unfold Machine.utcChange
  split
  exacts [h, h.atTime.keep]
theorem Canonical.ppsPrepare (h : Canonical s) : Canonical (Machine.ppsPrepare s) := .ite h (h.atTime.keep.forAll (fun _ _ h => h.setPort))
theorem Canonical.ppsEdge (h : Canonical s) : Canonical (Machine.ppsEdge s) := by
  unfold Machine.ppsEdge
  split
  · exact h
  · dsimp only
    split; exacts [h.atTime.keep, h.atTime.keep.takeStep.fset, h.atTime.keep.takeStep.keep.fset]
theorem Canonical.ppsFall (h : Canonical s) : Canonical (Machine.ppsFall s) := by
  unfold Machine.ppsFall
  split
  exacts [h, h.atTime.keep]
theorem Canonical.timeMsgWithdraw {p : Nat} (h : Canonical s) : Canonical (Machine.timeMsgWithdraw p s) := by
  unfold Machine.timeMsgWithdraw
  dsimp only
  split
  exacts [h, h.atTime.setPort.fsat]
theorem Canonical.tmSuspend {p : Nat} (h : Canonical s) : Canonical (Machine.tmSuspend p s) := .ite h h.fset.setPort.fsat.raise
theorem Canonical.tmPeriod (h : Canonical s) : Canonical (Machine.tmPeriod s) := .ite h (.ite h.atTime.keep.tmSuspend h.atTime.keep.fset.setPort)

/-! The operations of Machine/Gnss.lean. -/

theorem Canonical.setNav {n : Nav} (h : Canonical s) : Canonical (Machine.setNav n s) := h.keep
theorem Canonical.noteSlip {k : Nat} (h : Canonical s) : Canonical (Machine.noteSlip k s) := h.setNav
theorem Canonical.leaveLock {k st : Nat} (h : Canonical s) : Canonical (Machine.leaveLock k st s) := .wr (.wr (h.onlyIf (fun _ h => h.noteSlip)))
theorem Canonical.idleChannel {k : Nat} (h : Canonical s) : Canonical (Machine.idleChannel k s) := h.leaveLock.setNav
theorem Canonical.searchChannel {k : Nat} (h : Canonical s) : Canonical (Machine.searchChannel k s) := h.idleChannel.leaveLock.fset
theorem Canonical.noteChannel {r : MeasRec} (h : Canonical s) : Canonical (Machine.noteChannel r s) :=
  .ite (.wr (.fset (.fset (.fset (.setNav (h.onlyIf (fun _ h => h.noteSlip))))))) (.fset (.fset (.fset (.fset (.fset (.fset (.fset (.fset (.wr
      (.fset (.fset (.fset (.setNav (h.onlyIf (fun _ h => h.noteSlip)))))))))))))))
theorem Canonical.missChannel {k : Nat} (h : Canonical s) : Canonical (Machine.missChannel k s) := .ite h.leaveLock (.ite h.idleChannel h)
theorem Canonical.sendMeasurements {k t : Nat} {rs : List MeasRec} (h : Canonical s) : Canonical (Machine.sendMeasurements k t rs s) :=
  .ite (.setNav (h.deliver.forAll (fun _ _ h => h.deliver))) h
theorem Canonical.measurementEpoch {i : EpochInput} (h : Canonical s) : Canonical (Machine.measurementEpoch i s) :=
  .ite h (.sendMeasurements (.fset (.fset (.fbool (.setNav (.forAll (.forAll (.forAll (h.setNav.atTime.forAll (fun _ _ h => h.missChannel)) (fun
      _ _ h => h.noteChannel)) (fun _ _ h => h.fset.fset)) (fun _ _ h => h.onlyIf (fun _ h => h.noteSlip))))))))
theorem Canonical.chainFailure {c : Nat} (h : Canonical s) : Canonical (Machine.chainFailure c s) :=
  .ite h (.cullet (h.fset.raise.forAll (fun _ _ h => h.idleChannel)))
theorem Canonical.antOpen {a : Nat} {isOpen : Bool} (h : Canonical s) : Canonical (Machine.antOpen a isOpen s) := .ite h (.ite h.fset.raise h.fset)
theorem Canonical.gnssCold (h : Canonical s) : Canonical (Machine.gnssCold s) := .fset (h.setNav.forAll (fun _ _ h => h.idleChannel))
theorem Canonical.navStore (h : Canonical s) : Canonical (Machine.navStore s) := h.setNav
theorem Canonical.gnsDown (h : Canonical s) : Canonical (Machine.gnsDown s) :=
  .setNav (.fset (.fset (.fset (h.keep.forAll (fun _ _ h => h.idleChannel)))))
theorem Canonical.badCorrection {crc : Bool} (h : Canonical s) : Canonical (Machine.badCorrection crc s) := .ite h.fsat.fset h.fsat
theorem Canonical.takeBase {b : BasePos} (h : Canonical s) : Canonical (Machine.takeBase b s) := .ite h.setNav.fset h
theorem Canonical.takeMsm {m : MsmSet} {more : Bool} (h : Canonical s) : Canonical (Machine.takeMsm m more s) :=
  .ite h.setNav (.ite h.setNav.setNav h.setNav.badCorrection)
theorem Canonical.takeMessage {p : List Byte} (h : Canonical s) : Canonical (Machine.takeMessage p s) := by
  unfold Machine.takeMessage
  dsimp only
  split
  exacts [h.fsat.takeBase, h.fsat.takeMsm, h.fsat.fsat]
theorem Canonical.parseFrame {n : Nat} (h : Canonical s) : Canonical (Machine.parseFrame n s) := by
  induction n generalizing s with
  | zero => exact h
  | succ n ih => exact .ite h.setNav (.ite h.setNav.takeMessage (ih h.setNav.badCorrection))
theorem Canonical.feedByte {src : Nat} {b : Byte} (h : Canonical s) : Canonical (Machine.feedByte src b s) := .ite h.setNav h
theorem Canonical.rtcmFrame {src : Nat} {b : List Byte} (h : Canonical s) : Canonical (Machine.rtcmFrame src b s) :=
  .ite h.fsat (.ite h (.parseFrame (h.onlyIf (fun _ h => h.forAll (fun _ _ h => h.feedByte)))))
theorem Canonical.corrStale (h : Canonical s) : Canonical (Machine.corrStale s) := .ite h (h.fset.onlyIf (fun _ h => h.raise))
theorem Canonical.takeSet {g : Option Nat} (h : Canonical s) : Canonical (Machine.takeSet g s) := by
  unfold Machine.takeSet
  split
  exacts [.ite h.setNav.badCorrection (.ite h.setNav (.ite h.setNav.setNav h.setNav.setNav.fset)), h]
theorem Canonical.correctionStale (h : Canonical s) : Canonical (Machine.correctionStale s) := .ite h.atTime.corrStale h
theorem Canonical.noteMotion (h : Canonical s) : Canonical (Machine.noteMotion s) := h.setNav
theorem Canonical.inertialSample {x : Option ImuSample} (h : Canonical s) : Canonical (Machine.inertialSample x s) := by
  unfold Machine.inertialSample
  dsimp only
  split
  · exact .fbool (.setNav (h.fsat.onlyIf (fun _ h => h.fset)))
  · exact .fbool (.onlyIf (.ite (.setNav (.onlyIf (.setNav (h.onlyIf (fun _ h => h.noteMotion))) (fun _ h => h.fset))) (.ite (.setNav (h.onlyIf
      (fun _ h => h.noteMotion))) (.setNav (.setNav (h.onlyIf (fun _ h => h.noteMotion)))))) (fun _ h => h.setNav))
theorem Canonical.learnScale {v : Int} {k : Nat} (h : Canonical s) : Canonical (Machine.learnScale v k s) := by
  unfold Machine.learnScale
  split
  exacts [h, .ite h h.fset]
theorem Canonical.noteSolved {i : PoseInput} {r : Solved} {k m : Nat} (h : Canonical s) : Canonical (Machine.noteSolved i r k m s) := h.keep.setNav
theorem Canonical.poseTime {i : PoseInput} {p : Pose} {m : Nat} (h : Canonical s) : Canonical (Machine.poseTime i p m s) := by
  unfold Machine.poseTime
  cases i.gtime with
  | none => cases i.utc <;> cases i.utcNext <;> exact h.keep
  | some x => cases i.utc <;> cases i.utcNext <;> exact .ite h.keep.timeSolution h.keep
theorem Canonical.poseRecorded {i : PoseInput} {used : Option Nat} {p : Pose} {src : Nat} {words : List Word} {m : Nat} (h : Canonical s) :
    Canonical (Machine.poseRecorded i used p src words m s) :=
  .poseTime (.deliver (.fwrap (.onlyIf (.onlyIf (.onlyIf (.onlyIf (by split; exacts [h.setNav.keep.fbool.fset.fset.fset, h.setNav.keep.fbool.fset.fset]) (fun _ h => h.fset)) (fun _ h => h.learnScale.learnScale)) (fun _ h => h.raise)) (fun _ h => h.fsat))))
theorem Canonical.posePublish {i : PoseInput} (h : Canonical s) : Canonical (Machine.posePublish i s) :=
  .poseRecorded (.noteSolved (.fbool (by split; exacts [.fset (h.atTime.takeSet.onlyIf (fun _ h => h.corrStale)), .ite (.fset (.fset (h.atTime.takeSet.onlyIf (fun _ h => h.corrStale)))) (.fsat (.fset (h.atTime.takeSet.onlyIf (fun _ h => h.corrStale))))])))
theorem Canonical.latchTick {t : Nat} (h : Canonical s) : Canonical (Machine.latchTick t s) :=
  (Canonical.keepEng (.ite ((Canonical.keep (.noteJoints (.setNav (by split; exacts [h, h.fwrap]))))) (.setNav ((Canonical.keep (.noteJoints (.setNav (by split; exacts [h, h.fwrap]))))))))
theorem Canonical.wakeTick {g : Nat} (h : Canonical s) : Canonical (Machine.wakeTick g s) := .ite (h.setGather (h.lmem _)) h
theorem Canonical.turnSpeed {n : Nat} (h : Canonical s) : Canonical (Machine.turnSpeed n s) := by
  unfold Machine.turnSpeed
  split
  exacts [h.setOut, h.setOut.fsetSat]
theorem Canonical.snapshotComplete (h : Canonical s) : Canonical (Machine.snapshotComplete s) := by
  unfold Machine.snapshotComplete
  split
  · exact h
  · exact .forAll (.forAll (h.keepEng.forAll (fun _ _ h => h.wakeTick)) (fun _ _ h => h.turnSpeed.applyDuty)) (fun _ _ h => h.setSynth)
theorem Canonical.startCaptureSnap (h : Canonical s) : Canonical (Machine.startCaptureSnap s) := h.setNav.fset.fset
theorem Canonical.captureDone {data : List Byte} {temp : BitVec 16} (h : Canonical s) : Canonical (Machine.captureDone data temp s) := by
  unfold Machine.captureDone
  split
  exacts [h, h.atTime.setNav.fset.fset.fset]
theorem Canonical.startSolve (h : Canonical s) : Canonical (Machine.startSolve s) := h.setNav.fset
theorem Canonical.solveResult {found : Option (Int × Int × Int × Nat)} (h : Canonical s) : Canonical (Machine.solveResult found s) :=
  .ite h.fset (.ite h.fset (by split; exacts [h.fset, h.wr.wr.wr.wr.fset]))
theorem Canonical.solveDone {found : Option (Int × Int × Int × Nat)} (h : Canonical s) : Canonical (Machine.solveDone found s) :=
  .ite h (h.setNav.fset.solveResult.runQueued (fun _ h => h.startSolve))
theorem Canonical.abortSnap (h : Canonical s) : Canonical (Machine.abortSnap s) := .fset (.fset (.setNav (h.onlyIf (fun _ h => h.fset))))
theorem Canonical.gnsSelftestEnd {bad : Nat} (h : Canonical s) : Canonical (Machine.gnsSelftestEnd bad s) :=
  .ite h (.forAll (.onlyIf (.fbool ((Canonical.keep (.setNav (.ite h h.setNav.fset))).fset)) (fun _ h => h.culletClear)) (fun _ _ h =>
      h.chainFailure))

/-! The operations of Machine/Owner.lean. -/

theorem Canonical.setOwn {o : Own} (h : Canonical s) : Canonical (Machine.setOwn o s) := h.keep
theorem Canonical.endHandover (h : Canonical s) : Canonical (Machine.endHandover s) := h.setOwn.fset.fset
theorem Canonical.completeStart (h : Canonical s) : Canonical (Machine.completeStart s) := .ite h.fset h
theorem Canonical.closeElection (h : Canonical s) : Canonical (Machine.closeElection s) := h.setOwn.keep.fset.completeStart
theorem Canonical.gainOwner {c : Nat} (h : Canonical s) : Canonical (Machine.gainOwner c s) :=
  .fset (.setOwn (.endHandover (h.onlyIf (fun _ h => h.closeElection))))
theorem Canonical.loseOwner (h : Canonical s) : Canonical (Machine.loseOwner s) := h.endHandover.setOwn.fset
theorem Canonical.ownRecord {sev : Nat} {k : EvKind} {old : Nat} (h : Canonical s) : Canonical (Machine.ownRecord sev k old s) := h.raise
theorem Canonical.claimBy {c : Nat} (h : Canonical s) : Canonical (Machine.claimBy c s) := .ite h.setOwn h.gainOwner.ownRecord
theorem Canonical.electionEnds (h : Canonical s) : Canonical (Machine.electionEnds s) := by
  unfold Machine.electionEnds
  split
  exacts [h.gainOwner.ownRecord, h.closeElection]
theorem Canonical.handover {t : Nat} (h : Canonical s) : Canonical (Machine.handover t s) :=
  .ite (.ownRecord (.loseOwner (h.onlyIf (fun _ h => h.fset)))) (.ite (.ite h.fset.endHandover.setOwn.ownRecord h) h.setOwn.fset.fset)
theorem Canonical.acceptBy {c : Nat} (h : Canonical s) : Canonical (Machine.acceptBy c s) := .ownRecord (h.gainOwner.onlyIf (fun _ h => h.setOwn))
theorem Canonical.refreshHeartbeat (h : Canonical s) : Canonical (Machine.refreshHeartbeat s) := h.setOwn
theorem Canonical.lapse (h : Canonical s) : Canonical (Machine.lapse s) := .ite h (.ite h.fset.setOwn h.fset.loseOwner.ownRecord)
theorem Canonical.heartbeatTimeout (h : Canonical s) : Canonical (Machine.heartbeatTimeout s) := .ite h h.atTime.lapse
theorem Canonical.handoverTimeout (h : Canonical s) : Canonical (Machine.handoverTimeout s) :=
  .ite h (.ite h.atTime.fset.loseOwner.ownRecord h.atTime.fset.endHandover.ownRecord)
theorem Canonical.seize (h : Canonical s) : Canonical (Machine.seize s) := .ite h (.ownRecord (.fset (.gainOwner (h.onlyIf (fun _ h => h.fset)))))
theorem Canonical.touchSession (h : Canonical s) : Canonical (Machine.touchSession s) := h.keep
theorem Canonical.openSession {p a : Nat} (h : Canonical s) : Canonical (Machine.openSession p a s) := h.setPort.fset.fset.fset.touchSession
theorem Canonical.endSession (h : Canonical s) : Canonical (Machine.endSession s) := h.fset
theorem Canonical.sessionTimeout (h : Canonical s) : Canonical (Machine.sessionTimeout s) := .ite h h.atTime.endSession
theorem Canonical.holderLost (h : Canonical s) : Canonical (Machine.holderLost s) := .ite h.endSession.lapse h.endSession

/-! The operations of Machine/Remote.lean. -/

theorem Canonical.bindOut {n : Nat} (h : Canonical s) : Canonical (Machine.bindOut n s) := .ite h.setOut.relearn h
theorem Canonical.armOut {n : Nat} (h : Canonical s) : Canonical (Machine.armOut n s) := h.fset.setOut
theorem Canonical.armRem {d : Nat} (h : Canonical s) : Canonical (Machine.armRem d s) := h.fset
theorem Canonical.disarmRem {d : Nat} (h : Canonical s) : Canonical (Machine.disarmRem d s) := .ite h h.fset.setPort
theorem Canonical.stateReport {on late : Bool} {d : Nat} (h : Canonical s) : Canonical (Machine.stateReport on late d s) :=
  .ite h.fbool.fset.setRem.fset h.fbool.fset.setRem
theorem Canonical.latencyReport {on : Bool} {m d : Nat} (h : Canonical s) : Canonical (Machine.latencyReport on m d s) :=
  .ite (.ite h.setRem.raise.raise h.setRem.raise) h.setRem.fset
theorem Canonical.reportTimeout {d : Nat} (h : Canonical s) : Canonical (Machine.reportTimeout d s) := by
  unfold Machine.reportTimeout
  split
  exacts [h, h.atTime.setRem.fset.raise]

/-! The operations of Machine/ConfigImage.lean. -/

theorem Canonical.setStage {x : Staging} (h : Canonical s) : Canonical (Machine.setStage x s) := h.keep
theorem Canonical.stageWrite {a : Nat} {w : Word} (h : Canonical s) : Canonical (Machine.stageWrite a w s) := h.setStage.fset
theorem Canonical.stageOpen (h : Canonical s) : Canonical (Machine.stageOpen s) := h.setStage.fset.fset
theorem Canonical.cfgCheck (h : Canonical s) : Canonical (Machine.cfgCheck s) := h.setStage.fset
theorem Canonical.cfgCheckDone (h : Canonical s) : Canonical (Machine.cfgCheckDone s) := by
  unfold Machine.cfgCheckDone
  split
  · exact h
  · exact .runQueued (.ite (h.setStage.fset.fset.forAll (fun _ _ h => h.wr)) h.setStage.fset.fset) (fun _ h => h.cfgCheck)
theorem Canonical.cfgDiscard (h : Canonical s) : Canonical (Machine.cfgDiscard s) :=
  .ite h.fset (.fset (.fset (.fset (.setStage (h.runQueued (fun _ h => h))))))
theorem Canonical.imageStore (h : Canonical s) : Canonical (Machine.imageStore s) := ⟨h.1, imageStore_wf _ h.2⟩

/-! The operations of Machine/Fleet.lean. -/

theorem Canonical.setFleet {f : Fleet} (h : Canonical s) : Canonical (Machine.setFleet f s) := h.keep
theorem Canonical.setPeer {k : Nat} {x : PeerRound} (h : Canonical s) : Canonical (Machine.setPeer k x s) := h.setFleet
theorem Canonical.fleetRound (h : Canonical s) : Canonical (Machine.fleetRound s) :=
  .ite h.atTime.setFleet (h.atTime.setFleet.forAll (fun _ _ h => h.setPort))
theorem Canonical.judgeSkew {gen : Nat} (h : Canonical s) : Canonical (Machine.judgeSkew gen s) := by
  unfold Machine.judgeSkew
  dsimp only
  split
  exacts [h.fset, .ite h h.fset.fset.raise]
theorem Canonical.peerComplete {k : Nat} {str : List Byte} (h : Canonical s) : Canonical (Machine.peerComplete k str s) := h.setPeer.judgeSkew
theorem Canonical.peerPart {k : Nat} {d : List Byte} (h : Canonical s) : Canonical (Machine.peerPart k d s) :=
  .ite h (.ite h.setPeer.peerComplete h.setPeer)
theorem Canonical.fleetFrame {p src : Nat} {d : List Byte} (h : Canonical s) : Canonical (Machine.fleetFrame p src d s) :=
  h.forAll (fun _ _ h => h.peerPart)
theorem Canonical.peerTimeout {k : Nat} (h : Canonical s) : Canonical (Machine.peerTimeout k s) :=
  .ite h (.ite h.atTime.setPeer h.atTime.setPeer.fset.raise)

/-! The operations of Machine/Bus.lean. -/

theorem Canonical.sendProt {p : Nat} {f : CanFrame} (h : Canonical s) : Canonical (Machine.sendProt p f s) := h.setPort
theorem Canonical.deliverFrame {p : Nat} {f : CanFrame} {filt : Nat} {bad own : Bool} {sof : Nat} (h : Canonical s) : Canonical
    (Machine.deliverFrame p f filt bad own sof s) :=
  h.deliver
theorem Canonical.deliverOwn {p hit w1 : Nat} {data : List Byte} (h : Canonical s) : Canonical (Machine.deliverOwn p hit w1 data s) := h.fresh.deliver
theorem Canonical.countBad {p : Nat} (h : Canonical s) : Canonical (Machine.countBad p s) := .ite h.fsat.fset.raise h.fsat.fset
theorem Canonical.enterPassive {p : Nat} (h : Canonical s) : Canonical (Machine.enterPassive p s) := h.fset.fset.raise.tmSuspend
theorem Canonical.enterBusOff {p : Nat} (h : Canonical s) : Canonical (Machine.enterBusOff p s) := h.setPort.fset.fset.fsat.fbool.raise.tmSuspend
theorem Canonical.judgeErrors {p : Nat} (h : Canonical s) : Canonical (Machine.judgeErrors p s) :=
  .ite h (.ite h.enterBusOff (.ite (.ite h.enterPassive h) h.fset))
theorem Canonical.enterInit {p : Nat} (h : Canonical s) : Canonical (Machine.enterInit p s) := .ite h.setPort h.setPort.fset.fset
theorem Canonical.frameEnds {p : Nat} (h : Canonical s) : Canonical (Machine.frameEnds p s) := .ite h.setPort.enterInit h.setPort
theorem Canonical.noteAckError {p : Nat} (h : Canonical s) : Canonical (Machine.noteAckError p s) := .ite h.fsat.setPort.fset.raise h.fsat.setPort
theorem Canonical.endOneshot {p : Nat} (h : Canonical s) : Canonical (Machine.endOneshot p s) := h.keep
theorem Canonical.busError {p kind : Nat} {tx eight : Bool} (h : Canonical s) : Canonical (Machine.busError p kind tx eight s) :=
  .ite h (.ite h.frameEnds (.ite (.frameEnds (.judgeErrors (.ite (.ite (.ite h.fset.endOneshot.noteAckError h.fset.endOneshot.noteAckError.fset)
      h.fset.endOneshot.fsat.setPort.fset) h.fset.fsat.fsat))) (.judgeErrors (.ite (.ite (.ite h.fset.endOneshot.noteAckError
      h.fset.endOneshot.noteAckError.fset) h.fset.endOneshot.fsat.setPort.fset) h.fset.fsat.fsat))))
theorem Canonical.busoffRecovered {p : Nat} (h : Canonical s) : Canonical (Machine.busoffRecovered p s) := .ite h h.fset.fset.fset.setPort.fset.raise
theorem Canonical.startRecovery {p : Nat} (h : Canonical s) : Canonical (Machine.startRecovery p s) := .ite h.fset.setPort h
theorem Canonical.startClaim {p a : Nat} (h : Canonical s) : Canonical (Machine.startClaim p a s) := h.setPort.fset.fset.sendProt
theorem Canonical.leaveInit {p : Nat} (h : Canonical s) : Canonical (Machine.leaveInit p s) :=
  .ite (.startClaim (.ite h.setPort.fset.fset h.setPort.fset.judgeErrors)) (.ite h.setPort.fset.fset h.setPort.fset.judgeErrors)
theorem Canonical.portInit {p : Nat} {v : Bool} (h : Canonical s) : Canonical (Machine.portInit p v s) :=
  .ite (.ite h.fbool (.ite h.fbool.setPort h.fbool.enterInit)) (.ite h.fbool.setPort (.ite h.fbool.leaveInit (.ite h.fbool.setPort h.fbool)))
theorem Canonical.wakePort {p : Nat} (h : Canonical s) : Canonical (Machine.wakePort p s) := .ite h.fset.fset.setPort (.ite h.setPort h)
theorem Canonical.requestSleep {p : Nat} (h : Canonical s) : Canonical (Machine.requestSleep p s) := .ite h h.setPort
theorem Canonical.sleepEntry {p : Nat} (h : Canonical s) : Canonical (Machine.sleepEntry p s) := .ite h (.ite h.setPort.fset.wakePort h.setPort.fset)
theorem Canonical.wakeCondition {p : Nat} {c : WakeCond} (h : Canonical s) : Canonical (Machine.wakeCondition p c s) := .ite h.wakePort h

/-! The operations of Machine/Transport.lean. -/

theorem Canonical.loseAddress {p : Nat} (h : Canonical s) : Canonical (Machine.loseAddress p s) := by
  unfold Machine.loseAddress
  dsimp only
  split
  exacts [h.fset.raise.setPort.startClaim, h.fset.raise.setPort.setPort.fset.fset.sendProt.completeStart]
theorem Canonical.claimReceived {p a name : Nat} (h : Canonical s) : Canonical (Machine.claimReceived p a name s) :=
  .ite h (.ite (.setPort (.ite h.holderLost h)) (.ite (.loseAddress (.setPort (.ite h.holderLost h))) (.sendProt (.setPort (.ite h.holderLost h)))))
theorem Canonical.claimRequested {p : Nat} (h : Canonical s) : Canonical (Machine.claimRequested p s) := .ite h h.sendProt
theorem Canonical.claimTimeout {p : Nat} (h : Canonical s) : Canonical (Machine.claimTimeout p s) := by
  unfold Machine.claimTimeout
  split
  exacts [h, h.atTime.setPort.fset.fset.completeStart]
theorem Canonical.dm1Period {p : Nat} (h : Canonical s) : Canonical (Machine.dm1Period p s) := .ite h (.sendProt (.setPort (.ite h.atTime h)))
theorem Canonical.dm2Request {p : Nat} (h : Canonical s) : Canonical (Machine.dm2Request p s) := .ite h h.sendProt
theorem Canonical.dm3Received {p src : Nat} (h : Canonical s) : Canonical (Machine.dm3Received p src s) := .ite h h.sendProt
theorem Canonical.dropRx {p src : Nat} {bam etp : Bool} (h : Canonical s) : Canonical (Machine.dropRx p src bam etp s) := h.setPort
theorem Canonical.putRx {p : Nat} {r : RxSession} (h : Canonical s) : Canonical (Machine.putRx p r s) := h.setPort
theorem Canonical.failRx {p : Nat} {r : RxSession} (h : Canonical s) : Canonical (Machine.failRx p r s) := .ite h.dropRx.fsat h.dropRx.fsat.deliverOwn
theorem Canonical.sendCts {p : Nat} {r : RxSession} (h : Canonical s) : Canonical (Machine.sendCts p r s) := h.putRx.sendProt
theorem Canonical.rtsReceived {p src prio total most pgn : Nat} {etp : Bool} (h : Canonical s) : Canonical (Machine.rtsReceived p src prio total
    most pgn etp s) :=
  .ite h (.ite (.sendProt (by split; exacts [h.failRx, h])) (.sendCts (.setPort (by split; exacts [h.failRx, h]))))
theorem Canonical.bamReceived {p src prio total pgn : Nat} (h : Canonical s) : Canonical (Machine.bamReceived p src prio total pgn s) :=
  .ite h (.ite (.setPort (by split; exacts [h.failRx, h])) (.setPort (by split; exacts [h.failRx, h])))
theorem Canonical.deliverParts {p : Nat} {r : RxSession} (h : Canonical s) : Canonical (Machine.deliverParts p r s).2 := by
  unfold Machine.deliverParts
  split
  exacts [h.deliverOwn, by split; exacts [h.deliverOwn, h]]
theorem Canonical.finishRx {p : Nat} {r : RxSession} (h : Canonical s) : Canonical (Machine.finishRx p r s) :=
  .ite h.dropRx.fwrap h.dropRx.fwrap.sendProt
theorem Canonical.takePacket {p : Nat} {r : RxSession} {data : List Byte} (h : Canonical s) :
    Canonical (Machine.takePacket p r data s) := by
  have filed {r : RxSession} {s : State} (h : Canonical s) : Canonical (Machine.putRx p (Machine.deliverParts p r s).1 (Machine.deliverParts p r
      s).2) :=
    h.deliverParts.putRx
  unfold Machine.takePacket
  dsimp only
  split
  · exact .ite (filed h.deliverOwn).finishRx (.ite (filed h.deliverOwn).sendCts (filed h.deliverOwn))
  · exact .ite (filed h).finishRx (.ite (filed h).sendCts (filed h))
theorem Canonical.dataReceived {p src seq : Nat} {bam etp : Bool} {data : List Byte} (h : Canonical s) : Canonical (Machine.dataReceived p src
    seq bam etp data s) := by
  unfold Machine.dataReceived
  split
  exacts [h, .ite h (.ite h.takePacket (.ite h.failRx h.failRx.sendProt))]
theorem Canonical.dpoReceived {p src n offset : Nat} (h : Canonical s) : Canonical (Machine.dpoReceived p src n offset s) := by
  unfold Machine.dpoReceived
  split
  exacts [h, .ite h.putRx h]
theorem Canonical.ctsReceived {p node n next : Nat} {etp : Bool} (h : Canonical s) : Canonical (Machine.ctsReceived p node n next etp s) := by
  unfold Machine.ctsReceived
  split
  exacts [h, .ite h (.ite h.setPort.sendProt h.setPort)]
theorem Canonical.endTx {p : Nat} {t : TxSession} (h : Canonical s) : Canonical (Machine.endTx p t s) := h.setPort
theorem Canonical.failTx {p : Nat} {t : TxSession} (h : Canonical s) : Canonical (Machine.failTx p t s) := h.endTx.fsat.deliverOwn.raise
theorem Canonical.abortReceived {p node : Nat} {etp : Bool} (h : Canonical s) : Canonical (Machine.abortReceived p node etp s) := by
  unfold Machine.abortReceived
  dsimp only
  split
  exacts [.failTx (by split; exacts [h.failRx, h]), by split; exacts [h.failRx, h]]
theorem Canonical.endAck {p node : Nat} {etp : Bool} (h : Canonical s) : Canonical (Machine.endAck p node etp s) := by
  unfold Machine.endAck
  split
  exacts [h, h.endTx.fwrap]
theorem Canonical.tpTimeout {p : Nat} {rx : Option (Nat × Bool × Bool)} (h : Canonical s) : Canonical (Machine.tpTimeout p rx s) := by
  unfold Machine.tpTimeout
  split
  exacts [by split; exacts [h, .ite h.failRx h.failRx.sendProt], by split; exacts [h, .ite h.failTx h.failTx.sendProt]]
theorem Canonical.bamPacket {p : Nat} (h : Canonical s) : Canonical (Machine.bamPacket p s) := by
  unfold Machine.bamPacket
  split
  exacts [h, .ite h h.atTime.setPort]
theorem Canonical.startTx {p : Nat} {i : TxItem} (h : Canonical s) : Canonical (Machine.startTx p i s) := h.popHead.setPort.sendProt
theorem Canonical.packetSent {p : Nat} {t : TxSession} (h : Canonical s) : Canonical (Machine.packetSent p t s) :=
  .ite h.setPort.endTx.fwrap h.setPort

/-! The operations of Machine/Send.lean. -/

theorem Canonical.popItem {p n : Nat} (h : Canonical s) : Canonical (Machine.popItem p n s) := h.popHead.setQueue.setPort
theorem Canonical.popSent {p : Nat} (h : Canonical s) : Canonical (Machine.popSent p s) := .ite h.popItem h.setPort
theorem Canonical.discardCmd {p : Nat} {ds : List Nat} {n : Nat} (h : Canonical s) : Canonical (Machine.discardCmd p ds n s) :=
  .ite h.popItem.fsat (h.popItem.forAll (fun _ _ h => h.fset))
theorem Canonical.takeItem {p : Nat} {i : TxItem} (h : Canonical s) : Canonical (Machine.takeItem p i s) :=
  .ite (.ite h.countBad.popItem.setPort h.countBad.popItem) (.ite h.discardCmd (.ite h.startTx h.setQueue.setPort))
theorem Canonical.streamItemTaken {p : Nat} (h : Canonical s) : Canonical (Machine.streamItemTaken p s) :=
  .ite h (.ite (by split; exacts [h, h.popItem.setPort]) (by split; exacts [by split; exacts [h, .ite h (.ite h.countBad.popItem h.popItem.setPort)], by split; exacts [h, h.takeItem]]))
theorem Canonical.checkPast {p sof : Nat} {f : CanFrame} (h : Canonical s) : Canonical (Machine.checkPast p sof f s) := by
  unfold Machine.checkPast
  split
  exacts [h, .ite (h.forAll (fun _ _ h => h.fset.raise)) h]
theorem Canonical.sourceDone {p sof : Nat} {src : TxSrc} {f : CanFrame} (h : Canonical s) : Canonical (Machine.sourceDone p sof src f s) := by
  unfold Machine.sourceDone
  dsimp only
  split
  · exact h.fwrap.setPort
  · exact h.setPort
  · exact h.setPort
  · exact h.setPort.keep
  · exact h.setPort
  · exact h.fset.fset.checkPast
  · split
    exacts [h.packetSent, h.popSent.checkPast]
theorem Canonical.noteTdc {p tdc : Nat} {f : CanFrame} (h : Canonical s) : Canonical (Machine.noteTdc p tdc f s) := .ite (.ite h.fset.fset h.fset) h
theorem Canonical.transmitComplete {p sof tdc : Nat} (h : Canonical s) : Canonical (Machine.transmitComplete p sof tdc s) :=
  .ite h (by split; exacts [h, .frameEnds (.ite h.atTime.sourceDone.fwrap.fset.fset.setPort.judgeErrors.endOneshot.noteTdc.fresh.deliverFrame h.atTime.sourceDone.fwrap.fset.fset.setPort.judgeErrors.endOneshot.noteTdc)])
theorem Canonical.sendReq {p o : Nat} (h : Canonical s) : Canonical (Machine.sendReq p o s) := .ite h.fset h
theorem Canonical.txAbort {p o : Nat} (h : Canonical s) : Canonical (Machine.txAbort p o s) := .ite h (.ite h.fresh.setPort h.fresh.fset)

/-! The operations of Machine/Receive.lean. -/

theorem Canonical.countGood {p : Nat} (h : Canonical s) : Canonical (Machine.countGood p s) := .ite h.fwrap.fresh.fset.judgeErrors h.fwrap.fset
theorem Canonical.judgeCheck {p i : Nat} {d : List Byte} (h : Canonical s) : Canonical (Machine.judgeCheck p i d s).2 := by
  unfold Machine.judgeCheck
  dsimp only
  split
  exacts [.ite h.setPort.raise h.setPort, h.setPort]
theorem Canonical.storeObject {p o : Nat} {f : CanFrame} {sof : Nat} (h : Canonical s) : Canonical (Machine.storeObject p o f sof s) :=
  .fset (.ite (.fset (.wr (.wr (.fset (h.forAll (fun _ _ h => h.wr)))))) (.wr (.wr (.fset (h.forAll (fun _ _ h => h.wr))))))
theorem Canonical.deliverReceived {p : Nat} {f : CanFrame} {sof : Nat} (h : Canonical s) : Canonical (Machine.deliverReceived p f sof s) :=
  .ite (by split; exacts [h.fsat, .ite h.judgeCheck.fset h.judgeCheck.storeObject]) (by split; exacts [h.fsat, h.judgeCheck.deliverFrame])
theorem Canonical.queueRequest {p src : Nat} {q : AccReq} (h : Canonical s) : Canonical (Machine.queueRequest p src q s) := .ite h.setPort h.fset
theorem Canonical.cmReceived {p : Nat} {etp : Bool} {f : CanFrame} (h : Canonical s) : Canonical (Machine.cmReceived p etp f s) := by
  unfold Machine.cmReceived
  dsimp only
  split
  · exact h.rtsReceived
  · exact h.bamReceived
  · exact h.ctsReceived
  · exact h.endAck
  · exact h.rtsReceived
  · exact h.ctsReceived
  · exact h.dpoReceived
  · exact h.endAck
  · exact h.abortReceived
  · exact h
theorem Canonical.requestReceived {p src pgn : Nat} (h : Canonical s) : Canonical (Machine.requestReceived p src pgn s) :=
  .ite h.claimRequested (.ite h.dm2Request (.ite h.dm3Received h))
theorem Canonical.actOnIso {p : Nat} {f : CanFrame} (h : Canonical s) : Canonical (Machine.actOnIso p f s) :=
  .ite h (.ite h.claimReceived (.ite h.requestReceived h))
theorem Canonical.takeTransport {p : Nat} {f : CanFrame} (h : Canonical s) : Canonical (Machine.takeTransport p f s) :=
  .ite h.cmReceived (.ite h.cmReceived h.dataReceived)
theorem Canonical.actOnReport {f : CanFrame} {d : Nat} (h : Canonical s) : Canonical (Machine.actOnReport f d s) :=
  .ite h.stateReport (.ite h.latencyReport h)
theorem Canonical.takeCorrection {p : Nat} {f : CanFrame} (h : Canonical s) : Canonical (Machine.takeCorrection p f s) :=
  .ite (h.forAll (fun _ _ h => h.feedByte)) h
theorem Canonical.frameReceived {p : Nat} {f : CanFrame} {sof : Nat} (h : Canonical s) : Canonical (Machine.frameReceived p f sof s) := by
  have counted : Canonical (Machine.countGood p (Machine.atTime sof s)) := h.atTime.countGood
  unfold Machine.frameReceived
  generalize Machine.countGood p (Machine.atTime sof s) = t at counted ⊢
  have acted {b : Prop} [Decidable b] : Canonical (Machine.takeCorrection p f (if b then
      Machine.fleetFrame p (sa f.id) f.data (Machine.actOnIso p f t) else Machine.actOnIso p f t)) :=
    .takeCorrection (.ite counted.actOnIso.fleetFrame counted.actOnIso)
  refine .ite h ?_
  dsimp only
  split
  · exact counted.queueRequest
  · refine .ite counted.takeTransport ?_
    split
    · exact acted.deliverReceived
    · exact .deliverFrame (acted.forAll fun _ _ h => h.actOnReport)
theorem Canonical.checkTimeout {p i : Nat} (h : Canonical s) : Canonical (Machine.checkTimeout p i s) :=
  .ite h (.ite h.atTime.setPort.raise.fresh.deliver h.atTime.setPort.raise.fset)

/-! The operations of Machine/Agate.lean. -/

theorem Canonical.setAgate {r : Recorder} (h : Canonical s) : Canonical (Machine.setAgate r s) := h.keep
theorem Canonical.enterQ103 {e : Stamped} (h : Canonical s) : Canonical (Machine.enterQ103 e s) :=
  .ite h.setAgate.countCommit.setAgate h.setAgate.countCommit
theorem Canonical.acceptEvent (h : Canonical s) : Canonical (Machine.acceptEvent s) := by
  unfold Machine.acceptEvent
  split
  exacts [.ite h h.fset, by dsimp only; split; exacts [h.setAgate.coalesce, h.setAgate.enterQ103]]
theorem Canonical.endFlood (h : Canonical s) : Canonical (Machine.endFlood s) := by
  unfold Machine.endFlood
  split
  exacts [h, .ite h h.setAgate.enterQ103]
theorem Canonical.storeRecord {e : Stamped} (h : Canonical s) : Canonical (Machine.storeRecord e s) :=
  .ite h.setAgate (by split; exacts [h.setAgate, h.fsat.fset])
theorem Canonical.recordWrite (h : Canonical s) : Canonical (Machine.recordWrite s) := by
  unfold Machine.recordWrite
  split
  exacts [h, .ite h h.setAgate.countFinal.storeRecord.endFlood]
theorem Canonical.selectRecord {r : Record} (h : Canonical s) : Canonical (Machine.selectRecord r s) := .fset (h.setAgate.forAll (fun _ _ h => h.wr))
theorem Canonical.rdFirst (h : Canonical s) : Canonical (Machine.rdFirst s) := by
  unfold Machine.rdFirst
  split
  exacts [h.selectRecord, h.fset]
theorem Canonical.rdNext (h : Canonical s) : Canonical (Machine.rdNext s) := by
  unfold Machine.rdNext
  split
  exacts [h.rdFirst, by split; exacts [h.selectRecord, h.fset]]
theorem Canonical.rdSeq (h : Canonical s) : Canonical (Machine.rdSeq s) := by
  unfold Machine.rdSeq
  dsimp only
  split
  exacts [h.selectRecord, h.fset]
theorem Canonical.clearStore {m : Master} (h : Canonical s) : Canonical (Machine.clearStore m s) :=
  .storeRecord (.fset (.setAgate (.forAll (by split; exacts [h, h.fset.fset.fset]) (fun _ _ h => h.fset))))
theorem Canonical.agateStart {torn : List Nat} (h : Canonical s) : Canonical (Machine.agateStart torn s) :=
  .ite h.setAgate.fset h.setAgate.fset.fset.raiseEvent

/-! The operations of Machine/Alu.lean. -/

theorem Canonical.aluReg {g d a b : Nat} {f : Nat → Word → Word → Core → Core} (h : Canonical s) : Canonical (Machine.aluReg g d a b f s) :=
  h.coreInstr
theorem Canonical.aluImm {g d a : Nat} {i : Word} {f : Nat → Word → Word → Core → Core} (h : Canonical s) : Canonical (Machine.aluImm g d a i f s) :=
  h.coreInstr
theorem Canonical.asyncArith {g d a b : Nat} {f : Word → Word → Word} (h : Canonical s) : Canonical (Machine.asyncArith g d a b f s) :=
  h.asyncInstr (fun _ h => h.issueAsync)

/-! The operations of Machine/Rule.lean. -/

theorem Canonical.onCmd {c : WriteCtx} {f : Fld} {k : State → State} (h : Canonical s) (hk : ∀ s, Canonical s → Canonical (k s)) : Canonical
    (Machine.onCmd c f k s) :=
  h.onlyIf (fun _ h => hk _ h)

/-! The operations of Machine/RulesAct.lean. -/

theorem ruleQctrl_keeps : KeepsCanonical ruleQctrl := fun _ _ h => .onCmd (h.onCmd (fun _ h => h.flushQueue)) (fun _ h => h.fset)
theorem ruleQview_keeps {off : Nat} : KeepsCanonical (ruleQview off) := plainRule_keeps
theorem ruleChCfg_keeps : KeepsCanonical ruleChCfg := plainRule_keeps
theorem ruleChLimit_keeps : KeepsCanonical ruleChLimit := plainRule_keeps
theorem ruleChRetry_keeps : KeepsCanonical ruleChRetry := plainRule_keeps
theorem ruleChCtrl_keeps : KeepsCanonical ruleChCtrl := fun _ _ h => h.onCmd (fun _ h => h.unlatch)
theorem ruleFeedCfg_keeps : KeepsCanonical ruleFeedCfg := plainRule_keeps
theorem ruleFeedStat_keeps : KeepsCanonical ruleFeedStat := plainRule_keeps
theorem ruleCapSel_keeps : KeepsCanonical ruleCapSel := fun _ _ h => h.takeReadCopy
theorem ruleCapWin_keeps : KeepsCanonical ruleCapWin := plainRule_keeps
theorem ruleOutCtrl_keeps : KeepsCanonical ruleOutCtrl :=
  fun _ _ h => .onCmd (.onCmd (h.onCmd (fun _ h => h.armOut)) (fun _ h => h.disarmOut)) (fun _ h => h.lateClear)
theorem ruleOutStat_keeps : KeepsCanonical ruleOutStat := plainRule_keeps
theorem ruleLearn_keeps : KeepsCanonical ruleLearn := fun _ _ h => h.onCmd (fun _ h => h.relearn)
theorem ruleOutBinding_keeps : KeepsCanonical ruleOutBinding := plainRule_keeps
theorem ruleRemDesc_keeps : KeepsCanonical ruleRemDesc := fun _ _ h => .ite h.fset.fset h
theorem ruleRemCtrl_keeps : KeepsCanonical ruleRemCtrl := fun _ _ h => .onCmd (h.onCmd (fun _ h => h.armRem)) (fun _ h => h.disarmRem)
theorem ruleRemCfg_keeps : KeepsCanonical ruleRemCfg := plainRule_keeps
theorem ruleDead_keeps : KeepsCanonical ruleDead := plainRule_keeps
theorem rulePwmCnt_keeps : KeepsCanonical rulePwmCnt := plainRule_keeps
theorem rulePwmStat_keeps : KeepsCanonical rulePwmStat := plainRule_keeps
theorem ruleBank_keeps : KeepsCanonical ruleBank := fun _ _ h => h.respread
theorem rulePwmGlobal_keeps : KeepsCanonical rulePwmGlobal := fun _ _ h => h.forAll (fun _ _ h => h.takePathIdle)
theorem ruleTick_keeps : KeepsCanonical ruleTick := fun _ _ h => .ite h h.keep
theorem ruleTimeCtrl_keeps : KeepsCanonical ruleTimeCtrl := fun _ _ h => h.onCmd (fun _ h => h.timeSet)
theorem rulePps_keeps : KeepsCanonical rulePps := fun _ _ h => .ite h.keep (.ite h.keep h)
theorem ruleTm_keeps : KeepsCanonical ruleTm := fun _ _ h => .ite h.keep h
theorem ruleTmId_keeps : KeepsCanonical ruleTmId := plainRule_keeps
theorem rulesQueue_keeps {b : Nat} : KeepsCanonical (rulesQueue b) := .ite ruleQctrl_keeps ruleQview_keeps
theorem rulesChan_keeps {b : Nat} : KeepsCanonical (rulesChan b) :=
  .ite ruleChCfg_keeps (.ite ruleChLimit_keeps (.ite ruleChRetry_keeps (.ite ruleChCtrl_keeps (.ite ruleFeedCfg_keeps (.ite ruleFeedStat_keeps
      (.ite ruleCapSel_keeps (.ite ruleCapWin_keeps plainRule_keeps)))))))
theorem rulesOut_keeps {b : Nat} : KeepsCanonical (rulesOut b) :=
  .ite ruleOutCtrl_keeps (.ite ruleOutStat_keeps (.ite ruleLearn_keeps (.ite ruleOutBinding_keeps (.ite ruleRemDesc_keeps (.ite
      ruleRemCtrl_keeps (.ite ruleRemCfg_keeps plainRule_keeps))))))
theorem rulesPwm_keeps {b : Nat} : KeepsCanonical (rulesPwm b) :=
  .ite ruleDead_keeps (.ite rulePwmCnt_keeps (.ite rulePwmStat_keeps (.ite ruleBank_keeps (.ite rulePwmGlobal_keeps (.ite ruleTick_keeps
      plainRule_keeps)))))
theorem rulesTime_keeps {b : Nat} : KeepsCanonical (rulesTime b) :=
  .ite ruleTimeCtrl_keeps (.ite rulePps_keeps (.ite ruleTm_keeps (.ite ruleTmId_keeps plainRule_keeps)))

/-! The operations of Machine/RulesBus.lean. -/

theorem rulePortCtrl_keeps : KeepsCanonical rulePortCtrl :=
  fun _ _ h => .onCmd (.onCmd (.onCmd (.ite h.portInit h) (fun _ h => h.startRecovery)) (fun _ h => h.requestSleep)) (fun _ h => h.wakePort)
theorem rulePortCfg_keeps : KeepsCanonical rulePortCfg := plainRule_keeps
theorem ruleNbt_keeps : KeepsCanonical ruleNbt := plainRule_keeps
theorem ruleDbt_keeps : KeepsCanonical ruleDbt := plainRule_keeps
theorem ruleXbt_keeps : KeepsCanonical ruleXbt := plainRule_keeps
theorem ruleTdc_keeps : KeepsCanonical ruleTdc := plainRule_keeps
theorem ruleWake_keeps : KeepsCanonical ruleWake := plainRule_keeps
theorem Canonical.isoOn {p : Nat} (h : Canonical s) : Canonical (Machine.isoOn p s) := .ite h h.startClaim
theorem Canonical.isoOff {p : Nat} (h : Canonical s) : Canonical (Machine.isoOff p s) := h.setPort.fset.fset.completeStart
theorem ruleIso_keeps : KeepsCanonical ruleIso := fun _ _ h => .ite h (.ite h.isoOn h.isoOff)
theorem ruleName_keeps : KeepsCanonical ruleName := plainRule_keeps
theorem ruleObjCfg_keeps : KeepsCanonical ruleObjCfg := plainRule_keeps
theorem ruleObjId_keeps : KeepsCanonical ruleObjId := plainRule_keeps
theorem ruleObjData_keeps : KeepsCanonical ruleObjData := plainRule_keeps
theorem ruleObjCtrl_keeps : KeepsCanonical ruleObjCtrl := fun _ _ h => .onCmd (h.onCmd (fun _ h => h.sendReq)) (fun _ h => h.txAbort)
theorem rulesBus_keeps {b : Nat} : KeepsCanonical (rulesBus b) :=
  .ite rulePortCtrl_keeps (.ite rulePortCfg_keeps (.ite ruleNbt_keeps (.ite ruleDbt_keeps (.ite ruleXbt_keeps (.ite ruleTdc_keeps (.ite
      ruleWake_keeps (.ite ruleIso_keeps (.ite ruleName_keeps (.ite ruleObjCfg_keeps (.ite ruleObjId_keeps (.ite ruleObjData_keeps (.ite
      ruleObjCtrl_keeps plainRule_keeps))))))))))))

/-! The operations of Machine/Maps.lean. -/

theorem Canonical.startItem {i : Nat} (h : Canonical s) : Canonical (Machine.startItem i s) := .ite h h.keep.fset
theorem Canonical.stageItem {i : Nat} {f : MapSet → MapSet} (h : Canonical s) : Canonical (Machine.stageItem i f s) := h.startItem.keep.fset.fset
theorem Canonical.mapWrite {i k : Nat} {v : Word} (h : Canonical s) : Canonical (Machine.mapWrite i k v s) := h.stageItem
theorem Canonical.mapClear (h : Canonical s) : Canonical (Machine.mapClear s) := h.fset.fset.fset
theorem Canonical.startMapCheck (h : Canonical s) : Canonical (Machine.startMapCheck s) := h.keep.fset
theorem Canonical.mapCheckDone (h : Canonical s) : Canonical (Machine.mapCheckDone s) := by
  unfold Machine.mapCheckDone
  split
  exacts [h, .fset (.fset (.fset ((Canonical.keep (h.forAll (fun _ _ h => .ite h.wr h))))))]
theorem Canonical.pendActivation {t : Nat} (h : Canonical s) : Canonical (Machine.pendActivation t s) := h.keep.fset
theorem Canonical.cancelActivation (h : Canonical s) : Canonical (Machine.cancelActivation s) := h.keep.fset
theorem Canonical.setActiveField {t : Nat} {f : Option Nat} (h : Canonical s) : Canonical (Machine.setActiveField t f s) :=
  (Canonical.keep (h.fbool.fset.forAll (fun _ _ h => h.fbool)))
theorem Canonical.activateMaps {t : Nat} (h : Canonical s) : Canonical (Machine.activateMaps t s) := by
  have taken {m : Maps} {model : Tab Word} {f : Nat} :
      Canonical { s with maps := m, nv := { s.nv with model := model, fieldSel := f } } := h.keepNv.keep
  exact .raise (.fset (.fset (.onlyIf taken fun _ h => h.setActiveField)))
theorem Canonical.activateDue {t : Nat} (h : Canonical s) : Canonical (Machine.activateDue t s) := .ite h.atTime.activateMaps h
theorem Canonical.runField {f : Nat} {c : FieldCmd} (h : Canonical s) : Canonical (Machine.runField f c s) := h.keep.fset
theorem Canonical.fieldCreate {f : Nat} (h : Canonical s) : Canonical (Machine.fieldCreate f s) := by
  unfold Machine.fieldCreate
  split
  exacts [h, h.keep.fset.runField]
theorem Canonical.fieldHere {f : Nat} (h : Canonical s) : Canonical (Machine.fieldHere f s) := by
  unfold Machine.fieldHere
  split
  exacts [h, h.wr.wr.wr]
theorem Canonical.fieldClear {f mask : Nat} (h : Canonical s) : Canonical (Machine.fieldClear f mask s) :=
  .runField (h.forAll (fun _ _ h => h.clearLayer))
theorem Canonical.fieldDelete {f : Nat} (h : Canonical s) : Canonical (Machine.fieldDelete f s) :=
  .runField (.fset (h.forAll (fun _ _ h => h.clearLayer)))
theorem Canonical.fieldCommandDone {f : Nat} (h : Canonical s) : Canonical (Machine.fieldCommandDone f s) := by
  unfold Machine.fieldCommandDone
  split
  exacts [h, by dsimp only; split; exacts [.fset (h.keep.fset.forAll (fun _ _ h => h.clearLayer)), h.keep.fset]]

/-! The operations of Machine/Recovery.lean. -/

theorem Canonical.startHold (h : Canonical s) : Canonical (Machine.startHold s) := .ite h h.keep.fset
theorem Canonical.holdWindowEnd (h : Canonical s) : Canonical (Machine.holdWindowEnd s) := by
  unfold Machine.holdWindowEnd
  split
  · exact h
  · exact .ite (.forAll (h.atTime.keep.fset.forAll (fun _ _ h => h.disarmByPosture)) (fun _ _ h => h.disarmRem)) (.raise (.fset (.forAll
      (h.atTime.keep.fset.forAll (fun _ _ h => h.disarmByPosture)) (fun _ _ h => h.disarmRem))))
theorem Canonical.dropHeld {q : Nat} (h : Canonical s) : Canonical (Machine.dropHeld q s) := h.setQueue
theorem Canonical.stopEngine (h : Canonical s) : Canonical (Machine.stopEngine s) :=
  .keepRegs (.forAll (.forAll (h.abortLoad.forAll fun _ _ h => h.stopGather) fun _ _ h => h.resetQueue) fun _ _ h => h.dropReserved)
theorem Canonical.engineReset {cause : Nat} (h : Canonical s) : Canonical (Machine.engineReset cause s) :=
  .ite h ((Canonical.keep (.stopEngine (.fsat (.fset (.fset (.ite h h.raise)))))).startHold)
theorem Canonical.restartGathers (h : Canonical s) : Canonical (Machine.restartGathers s) := h.keep.forAll (fun _ _ h => .ite h.raise h.startGather)
theorem Canonical.engineResetEnd (h : Canonical s) : Canonical (Machine.engineResetEnd s) := by
  unfold Machine.engineResetEnd
  split
  exacts [h, h.atTime.keep.restartGathers.runQueued (fun _ h => h.engineReset)]
theorem Canonical.holdEngine (h : Canonical s) : Canonical (Machine.holdEngine s) := .ite h h.engineReset.keep.raise
theorem Canonical.pipeFail {k : Nat} (h : Canonical s) : Canonical (Machine.pipeFail k s) :=
  .ite (.ite h (.ite h.fset.fset.holdEngine h.fset.fset)) h.fset.fset.cullet
theorem Canonical.repair {e : HwError} {percent : Nat} (h : Canonical s) : Canonical (Machine.repair e percent s) := by
  unfold Machine.repair
  split
  exacts [h.pipeFail, h.fset.onlyIf (fun _ h => h.cullet)]
theorem Canonical.gatherRewind {g : Nat} {e : HwError} {repairable : Bool} {percent : Nat} (h : Canonical s) :
    Canonical (Machine.gatherRewind g e repairable percent s) := by
  have restored {s : State} {row : Nat} (h : Canonical s) : Canonical (Machine.setGather g
      { gatherOf (Machine.restoreGather g s) g with phase := .rewind, row := row } (Machine.restoreGather g s)) :=
    h.restoreGather.setGather (h.restoreGather.lmem g)
  have rowCleared {s : State} (h : Canonical s) : Canonical (Machine.setGather g { gatherOf s g with row := 0 } s) :=
    h.setGather (h.lmem g)
  exact .ite h (.ite (restored h.keep).fsat.fsat.raise (.ite (rowCleared (restored h.keep).fsat.fsat.raise.repair.raise)
    (restored h.keep).fsat.fsat.raise.enterFault.raise))
theorem Canonical.rewindComplete {g : Nat} (h : Canonical s) : Canonical (Machine.rewindComplete g s) :=
  .ite h (by split; exacts [h.setPhase', h.setPhase'.countMissed, h.setPhase', h.setPhase'])
theorem Canonical.memoryScrub {found : Nat} (h : Canonical s) : Canonical (Machine.memoryScrub found s) := h.keep.fsat
theorem Canonical.drainAgate {n : Nat} (h : Canonical s) : Canonical (Machine.drainAgate n s) := by
  induction n generalizing s with
  | zero => exact h
  | succ n ih => exact ih h.acceptEvent.recordWrite
theorem Canonical.writeOutAgate (h : Canonical s) : Canonical (Machine.writeOutAgate s) := h.drainAgate
theorem Canonical.stageHash {ws : List Word} (h : Canonical s) : Canonical (Machine.stageHash ws s) := h.forAll (fun _ _ h => h.wr)
theorem Canonical.settleHash (h : Canonical s) : Canonical (Machine.settleHash s) := (Canonical.keep (.ite h.keepNv.fset h)).stageHash.fset
theorem Canonical.unpowered (h : Canonical s) : Canonical (Machine.unpowered s) := by
  have hSettled := h.settleHash
  unfold Machine.unpowered
  generalize Machine.settleHash s = t at hSettled ⊢
  have hKept := hSettled.onReset.keepRegs (mask := fun a => if latencyAddrs.contains a then 0 else storedBits a ||| standbyBits a)
  exact hKept.keep
theorem Canonical.coldReset {pw : Power} {wake port cause : Nat} (h : Canonical s) :
    Canonical (Machine.coldReset pw wake port cause s) :=
  h.flushTiles.unpowered.keepRegs.keep.fset.fset.fset.fset.fbool.fbool.fbool.fset.fbool.fset
theorem Canonical.clearJasper (h : Canonical s) : Canonical (Machine.clearJasper s) := (Canonical.keep (h.forAll (fun _ _ h => h.fset)))
theorem Canonical.endMeter (h : Canonical s) : Canonical (Machine.endMeter s) := by
  unfold Machine.endMeter
  dsimp only
  split
  · exact .settle (.fset (.fset (.fset ((Canonical.keep (h.forAll (fun _ _ h => h.wr)))))))
  · exact .fset (.fset (.fset ((Canonical.keep (h.forAll (fun _ _ h => h.wr))))))
theorem Canonical.warmReset {cause : Nat} (h : Canonical s) : Canonical (Machine.warmReset cause s) :=
  .fset (.fset (.fset (.fset (.feedbackWarm (.keep (.keepRegs (.abortSnap (.startHold (.forAll (.forAll
    (.stopEngine (.settleHash (.endMeter (.clearJasper (.writeOutAgate (.fsat (.fset (.fset (.ite h.raise h)))))))))
    fun _ _ h => h.resetQueue) fun _ _ h => h.dropHeld)))))))))
theorem Canonical.warmRelease (h : Canonical s) : Canonical (Machine.warmRelease s) := by
  unfold Machine.warmRelease
  split
  exacts [h, h.atTime.keep.restartGathers]
theorem Canonical.pauseTimeouts {d : Nat} (h : Canonical s) : Canonical (Machine.pauseTimeouts d s) := h.keep
theorem Canonical.supervisorRestart (h : Canonical s) : Canonical (Machine.supervisorRestart s) :=
  .onlyIf (.raise (.fset (.fsat ((Canonical.keep (by split; exacts [h.pauseTimeouts, h])))))) (fun _ h => h.cullet)
theorem Canonical.supervisorRestartEnd (h : Canonical s) : Canonical (Machine.supervisorRestartEnd s) := by
  unfold Machine.supervisorRestartEnd
  split
  exacts [h, h.keep.atTime.pauseTimeouts]
theorem Canonical.tmrMismatch {fatal : Bool} (h : Canonical s) : Canonical (Machine.tmrMismatch fatal s) :=
  .ite h.raise.writeOutAgate.coldReset h.fsat
theorem Canonical.optStore {ok : Bool} (h : Canonical s) : Canonical (Machine.optStore ok s) := .ite h h.cullet

/-! The operations of Machine/Supply.lean. -/

theorem Canonical.supplyRecord {sev : Nat} {k : EvKind} {vals : List Int} (h : Canonical s) : Canonical (Machine.supplyRecord sev k vals s) := h.raise
theorem Canonical.powerDown {ecu : Bool} (h : Canonical s) : Canonical (Machine.powerDown ecu s) := h.unpowered.keep
theorem Canonical.everythingOff (h : Canonical s) : Canonical (Machine.everythingOff s) :=
  .forAll (.allOff (h.forAll (fun _ _ h => h.disarmOut))) (fun _ _ h => h.fset)
theorem Canonical.supplyLoss {vbus : Bool} (h : Canonical s) : Canonical (Machine.supplyLoss vbus s) :=
  .ite h (.ite h.powerDown (.ite
      h.everythingOff.markUpTo.flushTiles.setAgate.writeOutAgate.supplyRecord.writeOutAgate.keep.gnsDown.warmReset.fset.fset.fset
      h.everythingOff.markUpTo.flushTiles.setAgate.writeOutAgate.supplyRecord.writeOutAgate.powerDown))
theorem Canonical.startFrom {pw : Power} {c : Nat × Nat} (h : Canonical s) : Canonical (Machine.startFrom pw c s) := h.coldReset
theorem Canonical.standbyWake {w : WakeCause} (h : Canonical s) : Canonical (Machine.standbyWake w s) :=
  .ite h (by split; exacts [h, .ite h.startFrom (.ite h.startFrom h.keep)])
theorem Canonical.ecuQualified (h : Canonical s) : Canonical (Machine.ecuQualified s) := .ite h (.ite h.standbyWake h.coldReset)
theorem Canonical.vbusStart (h : Canonical s) : Canonical (Machine.vbusStart s) := .ite h (.ite h.standbyWake h.coldReset)
theorem Canonical.benchToNormal (h : Canonical s) : Canonical (Machine.benchToNormal s) := .ite h h.keep.warmReset.fset.fset
theorem Canonical.vbusLoss (h : Canonical s) : Canonical (Machine.vbusLoss s) := .ite h h.powerDown
theorem Canonical.dropoutEnd {dur mv : Nat} (h : Canonical s) : Canonical (Machine.dropoutEnd dur mv s) := .ite h h.fset.fsat.supplyRecord
theorem Canonical.bandEntry {high : Bool} (h : Canonical s) : Canonical (Machine.bandEntry high s) := .ite h h.fset.supplyRecord
theorem Canonical.bandExit {high : Bool} (h : Canonical s) : Canonical (Machine.bandExit high s) := h.fset
theorem Canonical.setFolded {a : Nat} {b : Option Nat} (h : Canonical s) : Canonical (Machine.setFolded a b s) := h.keep
theorem Canonical.foldBias {a : Nat} (h : Canonical s) : Canonical (Machine.foldBias a s) := h.setFolded.fset
theorem Canonical.antennaFold {a : Nat} (h : Canonical s) : Canonical (Machine.antennaFold a s) := .ite h h.foldBias.supplyRecord
theorem Canonical.biasRetry {a : Nat} {shorted : Bool} (h : Canonical s) : Canonical (Machine.biasRetry a shorted s) := by
  unfold Machine.biasRetry
  split
  exacts [h, .ite h.atTime.foldBias h.atTime.setFolded]
theorem Canonical.sensorFold {pwr folded : Bool} (h : Canonical s) : Canonical (Machine.sensorFold pwr folded s) :=
  .ite h (.ite h.keep h.keep.fset.supplyRecord.failPowered)
theorem Canonical.baseHot (h : Canonical s) : Canonical (Machine.baseHot s) := .ite h h.fset.supplyRecord
theorem Canonical.baseCool (h : Canonical s) : Canonical (Machine.baseCool s) := h.fset
theorem Canonical.keepChange {absent : Bool} (h : Canonical s) : Canonical (Machine.keepChange absent s) := h.keep.fbool
theorem Canonical.keepLoss (h : Canonical s) : Canonical (Machine.keepLoss s) := .ite h (.ite h.keep.coldReset h.keep.keep)
theorem Canonical.snapshotWake {unc gtime : Nat} {found : Option (Int × Int × Int × Nat)} {meet : Option WakeCause} (h : Canonical s) :
    Canonical (Machine.snapshotWake unc gtime found meet s) :=
  .ite h (by dsimp only; split; exacts [h.fsat.fset.standbyWake, h.fsat.fset.storeRecord])

/-! The operations of Machine/Startup.lean. -/

theorem Canonical.powerOnEnd (h : Canonical s) : Canonical (Machine.powerOnEnd s) := .ite h h.keep.fset
theorem Canonical.openElection (h : Canonical s) : Canonical (Machine.openElection s) := h.setOwn.keep.fset
theorem Canonical.startAuto (h : Canonical s) : Canonical (Machine.startAuto s) := h.forAll (fun _ _ h => .ite h (.ite h.raise h.startGather))
theorem Canonical.electionWindowEnd (h : Canonical s) : Canonical (Machine.electionWindowEnd s) :=
  .ite h (h.atTime.electionEnds.onlyIf (fun _ h => h.startAuto))
theorem Canonical.haltStart {unit : Nat} (h : Canonical s) : Canonical (Machine.haltStart unit s) := h.keep.everythingOff.raise.fset.openElection
theorem Canonical.delayFails {n : Nat} (h : Canonical s) : Canonical (Machine.delayFails n s) := .ite h h.fset.takePathIdle.raise.cullet
theorem Canonical.testLogic {t : SelfTest} (h : Canonical s) : Canonical (Machine.testLogic t s) :=
  .onlyIf (h.fbool.fbool.fbool.fset.forAll (fun _ _ h => h.pipeFail)) (fun _ h => h.cullet)
theorem Canonical.testCold {t : SelfTest} (h : Canonical s) : Canonical (Machine.testCold t s) :=
  .onlyIf (.forAll ((Canonical.keep (.forAll (h.fbool.fbool.fbool.fbool.onlyIf (fun _ h => h.culletClear)) (fun _ _ h => h.delayFails)))) (fun _
      _ h => h.raise)) (fun _ h => h.agateStart)
theorem Canonical.selftestEnd {t : SelfTest} (h : Canonical s) : Canonical (Machine.selftestEnd t s) :=
  .ite h (.ite (.haltStart (h.testLogic.onlyIf (fun _ h => h.testCold))) (.ite (.haltStart (h.testLogic.onlyIf (fun _ h => h.testCold))) (.ite
      (.haltStart (h.testLogic.onlyIf (fun _ h => h.testCold))) (.fset (h.testLogic.onlyIf (fun _ h => h.testCold))))))
theorem Canonical.factoryRegs (h : Canonical s) : Canonical (Machine.factoryRegs s) := h.keepRegs
theorem Canonical.loadRegs (h : Canonical s) : Canonical (Machine.loadRegs s) := h.factoryRegs.forAll (fun _ _ h => h.wr)
theorem Canonical.loadMaps {model : Tab Word} {f : Option Nat} (h : Canonical s) : Canonical (Machine.loadMaps model f s) := h.keep.setActiveField
theorem Canonical.loadProgram {bad : List Nat} (h : Canonical s) : Canonical (Machine.loadProgram bad s) := by
  obtain ⟨hRegs, _, hStored, hCommon, hLocal⟩ := h
  have stored {keep : Nat × Word → Bool} {good : List (Nat × Nat)} :
      Canonical { s with eng := { s.eng with prog := s.nv.prog.filter keep, regions := good } } :=
    ⟨hRegs, tabFilter_wf _ _ _ hStored, hStored, hCommon, hLocal⟩
  exact .forAll (stored.forAll fun _ _ h => h.setPage) fun _ _ h => h.raise
theorem Canonical.loadLatencies (h : Canonical s) : Canonical (Machine.loadLatencies s) :=
  .forAll (.forAll (.forAll (h.forAll (fun _ _ h => h.wr)) (fun _ _ h => h.setOut)) (fun _ _ h => h.bindOut)) (fun _ _ h => .ite h h.fset.fset)
theorem Canonical.applyLoaded (h : Canonical s) : Canonical (Machine.applyLoaded s) :=
  .forAll (h.forAll (fun _ _ h => .ite h h.leaveInit)) (fun _ _ h => h.setPeer)
theorem Canonical.loadCold {imageOk : Bool} {bad : List Nat} (h : Canonical s) : Canonical (Machine.loadCold imageOk bad s) :=
  (Canonical.keep (.forAll (.forAll (.loadLatencies (.ite h.loadRegs.loadProgram.loadMaps h.factoryRegs.loadMaps.fset.raise)) (fun _ _ h =>
      h.fieldCommandDone)) (fun _ _ h => h.takePathIdle)))
theorem Canonical.loadFactory (h : Canonical s) : Canonical (Machine.loadFactory s) := by
  have regionsDropped {s : State} (h : Canonical s) : Canonical { s with eng := { s.eng with regions := [] } } := h.keepEng
  exact .imageStore (.keep (.setStage (regionsDropped (.forAll (.setActiveField (.keep (.factoryRegs h))) fun _ _ h => h.freePage))))
theorem Canonical.configurationLoad {imageOk : Bool} {bad : List Nat} (h : Canonical s) : Canonical (Machine.configurationLoad imageOk bad s) :=
  .ite h (.openElection (.fset (.applyLoaded (.ite (h.onlyIf (fun _ h => h.loadFactory)) h.loadCold))))
theorem Canonical.factory (h : Canonical s) : Canonical (Machine.factory s) := h.raise.keep.warmReset
theorem Canonical.standbyEnter (h : Canonical s) : Canonical (Machine.standbyEnter s) :=
  h.allOff.markUpTo.flushTiles.imageStore.raise.writeOutAgate.powerDown

/-! The operations of Machine/RulesEng.lean. -/

theorem ruleEngCtrl_keeps : KeepsCanonical ruleEngCtrl :=
  fun _ _ h => .onCmd (h.onCmd (fun _ h => h.forAll (fun _ _ h => h.stopGather))) (fun _ h => h.startAuto)
theorem ruleEngStat_keeps : KeepsCanonical ruleEngStat := plainRule_keeps
theorem ruleLoadCtrl_keeps : KeepsCanonical ruleLoadCtrl :=
  fun _ _ h => .onCmd (.onCmd (h.onCmd (fun _ h => h.openLoad)) (fun _ h => h.startVerify)) (fun _ h => h.abortLoad)
theorem ruleLoadBase_keeps : KeepsCanonical ruleLoadBase := plainRule_keeps
theorem ruleLoadLen_keeps : KeepsCanonical ruleLoadLen := plainRule_keeps
theorem ruleLoadBank_keeps : KeepsCanonical ruleLoadBank := plainRule_keeps
theorem ruleLoadWin_keeps : KeepsCanonical ruleLoadWin := fun _ _ h => h.writeProg
theorem ruleRelease_keeps : KeepsCanonical ruleRelease := fun _ _ h => h.onCmd (fun _ h => h.releaseRun)
theorem ruleCmem_keeps : KeepsCanonical ruleCmem := fun _ _ h => h.cmemWrite
theorem ruleLmem_keeps : KeepsCanonical ruleLmem := fun _ _ h => h.setGather (lmemStore_wf _ _ _ _ (h.lmem _))
theorem ruleGCtrl_keeps : KeepsCanonical ruleGCtrl := fun _ _ h => .onCmd (h.onCmd (fun _ h => h.startGather)) (fun _ h => h.stopGather)
theorem ruleGStat_keeps : KeepsCanonical ruleGStat := plainRule_keeps
theorem ruleBinding_keeps : KeepsCanonical ruleBinding := plainRule_keeps
theorem ruleRegion_keeps : KeepsCanonical ruleRegion := ruleBinding_keeps
theorem ruleGWin_keeps : KeepsCanonical ruleGWin := plainRule_keeps
theorem rulePermit_keeps : KeepsCanonical rulePermit := fun _ _ h => h.bindOut
theorem ruleRemGather_keeps : KeepsCanonical ruleRemGather := plainRule_keeps
theorem ruleMapCtrl_keeps : KeepsCanonical ruleMapCtrl :=
  fun _ _ h => .onCmd (.onCmd (.onCmd (.onCmd (h.onCmd (fun _ h => h.startMapCheck)) (fun _ h => h.pendActivation)) (fun _ h =>
      h.pendActivation)) (fun _ h => h.cancelActivation)) (fun _ h => h.mapClear)
theorem ruleMapStat_keeps : KeepsCanonical ruleMapStat := plainRule_keeps
theorem ruleMapAct_keeps : KeepsCanonical ruleMapAct := plainRule_keeps
theorem ruleMapField_keeps : KeepsCanonical ruleMapField := fun _ _ h => h.stageItem
theorem ruleRaster_keeps {get : MapSet → Word} {put : Word → MapSet → MapSet} : KeepsCanonical (ruleRaster get put) := fun _ _ h => h.stageItem
theorem rulePoly_keeps : KeepsCanonical rulePoly := fun _ _ h => h.stageItem.stageItem
theorem ruleMapWin_keeps : KeepsCanonical ruleMapWin := fun _ _ h => h.mapWrite
theorem ruleOnyxStat_keeps : KeepsCanonical ruleOnyxStat := plainRule_keeps
theorem ruleOnyxFree_keeps : KeepsCanonical ruleOnyxFree := plainRule_keeps
theorem ruleOnyxWear_keeps : KeepsCanonical ruleOnyxWear := plainRule_keeps
theorem ruleOnyxCtrl_keeps : KeepsCanonical ruleOnyxCtrl := fun _ _ h => h.onCmd (fun _ h => h.flushTiles)
theorem ruleField_keeps : KeepsCanonical ruleField := plainRule_keeps
theorem ruleFieldCfg_keeps : KeepsCanonical ruleFieldCfg := plainRule_keeps
theorem ruleFieldCtrl_keeps : KeepsCanonical ruleFieldCtrl :=
  fun _ _ h => .ite (.fieldDelete (.onCmd (h.onCmd (fun _ h => h.fieldCreate)) (fun _ h => h.fieldHere))) (.onCmd (.onCmd (h.onCmd (fun _ h =>
      h.fieldCreate)) (fun _ h => h.fieldHere)) (fun _ h => h.fieldClear))
theorem rulesEng_keeps {b : Nat} : KeepsCanonical (rulesEng b) :=
  .ite ruleEngCtrl_keeps (.ite ruleEngStat_keeps (.ite ruleLoadCtrl_keeps (.ite ruleLoadBase_keeps (.ite ruleLoadLen_keeps (.ite
      ruleLoadBank_keeps (.ite ruleRelease_keeps (.ite ruleCmem_keeps (.ite ruleLmem_keeps (.ite ruleGCtrl_keeps (.ite ruleGStat_keeps (.ite
      ruleRegion_keeps (.ite ruleBinding_keeps (.ite ruleGWin_keeps (.ite rulePermit_keeps (.ite ruleRemGather_keeps (.ite ruleLoadWin_keeps
      plainRule_keeps))))))))))))))))
theorem rulesMap_keeps {b : Nat} : KeepsCanonical (rulesMap b) :=
  .ite ruleMapCtrl_keeps (.ite ruleMapStat_keeps (.ite ruleMapAct_keeps (.ite ruleMapField_keeps (.ite ruleRaster_keeps (.ite ruleRaster_keeps
      (.ite ruleRaster_keeps (.ite ruleRaster_keeps (.ite rulePoly_keeps (.ite ruleMapWin_keeps (.ite ruleOnyxStat_keeps (.ite ruleOnyxFree_keeps
      (.ite ruleOnyxWear_keeps (.ite ruleOnyxCtrl_keeps (.ite ruleField_keeps (.ite ruleFieldCfg_keeps (.ite ruleFieldCtrl_keeps
      plainRule_keeps))))))))))))))))

/-! The operations of Machine/RulesFb.lean. -/

theorem ruleFbConf_keeps : KeepsCanonical ruleFbConf := plainRule_keeps
theorem ruleFbCfg_keeps : KeepsCanonical ruleFbCfg := fun _ _ h => .ite h.dropPeriods.fset.noteFbState h
theorem ruleFbThr_keeps : KeepsCanonical ruleFbThr := ruleFbConf_keeps
theorem ruleFbSsi_keeps : KeepsCanonical ruleFbSsi := ruleFbConf_keeps
theorem ruleFbCount_keeps : KeepsCanonical ruleFbCount := fun _ _ h => h.countLoaded
theorem ruleFbSpeed_keeps : KeepsCanonical ruleFbSpeed := plainRule_keeps
theorem ruleFbCtrl_keeps : KeepsCanonical ruleFbCtrl := fun _ _ h => h.onCmd (fun _ h => h.clearFault)
theorem ruleCmpCtrl_keeps : KeepsCanonical ruleCmpCtrl := fun _ _ h => h.forAll (fun _ _ h => .ite h.judgeCompare h)
theorem ruleCmpValue_keeps : KeepsCanonical ruleCmpValue := fun _ _ h => h.judgeCompare
theorem rulePtCfg_keeps : KeepsCanonical rulePtCfg := plainRule_keeps
theorem rulePtStat_keeps : KeepsCanonical rulePtStat := plainRule_keeps
theorem ruleFbGlobal_keeps : KeepsCanonical ruleFbGlobal := fun _ _ h => .ite h.snsLevelChange h
theorem ruleGnssCtrl_keeps : KeepsCanonical ruleGnssCtrl := fun _ _ h => h.onCmd (fun _ h => h.gnssCold)
theorem ruleTrkCfg_keeps : KeepsCanonical ruleTrkCfg := fun _ _ h => .ite (.ite h.wr.idleChannel h) (.ite h.idleChannel (.ite h.searchChannel h))
theorem ruleTrkLoop_keeps : KeepsCanonical ruleTrkLoop := plainRule_keeps
theorem ruleSpeedSrc_keeps : KeepsCanonical ruleSpeedSrc := plainRule_keeps
theorem ruleCorrFeed_keeps : KeepsCanonical ruleCorrFeed := fun _ _ h => h.feedByte
theorem ruleSnapCtrl_keeps : KeepsCanonical ruleSnapCtrl :=
  fun _ _ h => .onCmd (h.onCmd (fun _ h => h.startCaptureSnap)) (fun _ h => .ite h.queueCmd (.ite h.startSolve h))
theorem ruleSnapWin_keeps : KeepsCanonical ruleSnapWin := plainRule_keeps
theorem rulesFb_keeps {b : Nat} : KeepsCanonical (rulesFb b) :=
  .ite ruleFbCfg_keeps (.ite ruleFbThr_keeps (.ite ruleFbSsi_keeps (.ite ruleFbConf_keeps (.ite ruleFbCount_keeps (.ite ruleFbSpeed_keeps (.ite
      ruleFbCtrl_keeps (.ite ruleCmpCtrl_keeps (.ite ruleCmpValue_keeps (.ite rulePtCfg_keeps (.ite rulePtStat_keeps (.ite ruleFbGlobal_keeps
      plainRule_keeps)))))))))))
theorem rulesNav_keeps {b : Nat} : KeepsCanonical (rulesNav b) :=
  .ite ruleGnssCtrl_keeps (.ite ruleTrkCfg_keeps (.ite ruleTrkLoop_keeps (.ite ruleSpeedSrc_keeps (.ite ruleCorrFeed_keeps (.ite
      ruleSnapCtrl_keeps (.ite ruleSnapWin_keeps plainRule_keeps))))))

/-! The operations of Machine/Service.lean. -/

theorem Canonical.setSvc {x : Service} (h : Canonical s) : Canonical (Machine.setSvc x s) := h.keep
theorem Canonical.jasperEnabled {addr : Nat} {v : Word} (h : Canonical s) : Canonical (Machine.jasperEnabled addr v s) := h.setSvc.raise
theorem Canonical.jasRefresh (h : Canonical s) : Canonical (Machine.jasRefresh s) := .ite h.setSvc h
theorem Canonical.jasOff (h : Canonical s) : Canonical (Machine.jasOff s) := h.clearJasper.raise
theorem Canonical.jasperExpiry (h : Canonical s) : Canonical (Machine.jasperExpiry s) := by
  unfold Machine.jasperExpiry
  split
  exacts [h, h.atTime.jasOff]
theorem Canonical.eccInject (h : Canonical s) : Canonical (Machine.eccInject s) := h.keep
theorem Canonical.busOneshot {p : Nat} (h : Canonical s) : Canonical (Machine.busOneshot p s) := .ite h h.setSvc
theorem Canonical.meterSet {a : Nat} {w : Word} (h : Canonical s) : Canonical (Machine.meterSet a w s) := h.setSvc.wr
theorem Canonical.meterSetup {check target : Nat} (h : Canonical s) : Canonical (Machine.meterSetup check target s) := by
  unfold Machine.meterSetup
  split
  · exact h.meterSet
  · exact h.meterSet.onlyIf (fun _ h => h.snsLevelChange)
  · exact h.setSvc
  · exact h.setSvc
  · exact h.meterSet
  · exact h.meterSet
  · exact h.meterSet.meterSet.onlyIf (fun _ h => h.portInit)
  · exact h
theorem Canonical.meterRestore (h : Canonical s) : Canonical (Machine.meterRestore s) := by
  unfold Machine.meterRestore
  dsimp only
  split
  · exact .settle (.onlyIf (h.endMeter.onlyIf (fun _ h => h.portInit)) (fun _ h => h.snsLevelChange))
  · exact .onlyIf (h.endMeter.onlyIf (fun _ h => h.portInit)) (fun _ h => h.snsLevelChange)
theorem Canonical.meterOff (h : Canonical s) : Canonical (Machine.meterOff s) := .ite h.meterRestore h
theorem Canonical.portReset (h : Canonical s) : Canonical (Machine.portReset s) := h.meterOff.setOwn
theorem Canonical.withPortReset {f : State → State} (h : Canonical s) (hf : ∀ s, Canonical s → Canonical (f s)) : Canonical
    (Machine.withPortReset f s) :=
  .ite (.portReset (hf _ h)) (hf _ h)
theorem Canonical.meterStart {check target : Nat} (h : Canonical s) : Canonical (Machine.meterStart check target s) :=
  .ite h.meterOff (by dsimp only; split; exacts [h.meterOff.setSvc.fset.fset.fset.meterSetup.settle, h.meterOff.setSvc.fset.fset.fset.meterSetup])
theorem Canonical.meterTimeout (h : Canonical s) : Canonical (Machine.meterTimeout s) := by
  unfold Machine.meterTimeout
  split
  exacts [h, h.atTime.meterOff]
theorem Canonical.meterMeasure {mv : Int} (h : Canonical s) : Canonical (Machine.meterMeasure mv s) := .ite h h.fset.fbool.fbool

/-! The operations of Machine/RulesSys.lean. -/

theorem Canonical.setUnlock {m : Master} {u : Unlock} (h : Canonical s) : Canonical (Machine.setUnlock m u s) := h.keep
theorem ruleMeasured_keeps {bits : Nat} : KeepsCanonical (ruleMeasured bits) := plainRule_keeps
theorem ruleKeyUnlock_keeps : KeepsCanonical ruleKeyUnlock := fun _ _ h => .ite h h.setUnlock
theorem ruleKeyStat_keeps : KeepsCanonical ruleKeyStat := plainRule_keeps
theorem ruleHash_keeps : KeepsCanonical ruleHash := fun _ _ h => .ite h h.wr
theorem Canonical.commitHash (h : Canonical s) : Canonical (Machine.commitHash s) := .ite h (.ite h.queueCmd h.keep.fset)
theorem Canonical.commitDone (h : Canonical s) : Canonical (Machine.commitDone s) := by
  unfold Machine.commitDone
  split
  exacts [h, h.atTime.keepNv.keep.fset.fset]
theorem ruleOem_keeps : KeepsCanonical ruleOem := fun _ _ h => h.onCmd (fun _ h => h.commitHash)
theorem ruleSession_keeps : KeepsCanonical ruleSession := fun c s h =>
  show Canonical (onCmd c F.BUS_SESSION_DROP (fun s => if flag s F.BUS_SESSION_OPEN then endSession s else s) s) from
    h.onCmd fun _ h => .ite h.endSession h
theorem ruleOwnStat_keeps : KeepsCanonical ruleOwnStat := plainRule_keeps
theorem ruleOwnCfg_keeps : KeepsCanonical ruleOwnCfg := plainRule_keeps
theorem ruleClaim_keeps : KeepsCanonical ruleClaim := fun _ _ h => .ite h.claimBy h
theorem ruleHandover_keeps : KeepsCanonical ruleHandover := fun _ _ h => h.handover
theorem ruleAccept_keeps : KeepsCanonical ruleAccept := fun _ _ h => h.onCmd (fun _ h => h.acceptBy)
theorem ruleHeartbeat_keeps : KeepsCanonical ruleHeartbeat := fun _ _ h => h.onCmd (fun _ h => h.refreshHeartbeat)
theorem ruleSeize_keeps : KeepsCanonical ruleSeize := fun _ _ h => h.onCmd (fun _ h => h.seize)
theorem ruleHealth_keeps : KeepsCanonical ruleHealth := plainRule_keeps
theorem ruleReset_keeps : KeepsCanonical ruleReset :=
  fun _ _ h => .ite h.warmReset (h.onCmd (fun _ h => .ite h.queueCmd (h.withPortReset (fun _ h => h.engineReset))))
theorem Canonical.cfgArm {now : Bool} (h : Canonical s) : Canonical (Machine.cfgArm now s) := h.setStage.fset
theorem ruleCfgCtrl_keeps : KeepsCanonical ruleCfgCtrl :=
  fun _ _ h => .onCmd (.onCmd (.onCmd (.onCmd (h.onCmd (fun _ h => h.stageOpen)) (fun _ h => .ite h.queueCmd h.cfgCheck)) (fun _ h => h.cfgArm))
      (fun _ h => h.cfgArm)) (fun _ h => h.cfgDiscard)
theorem ruleCfgHeld_keeps : KeepsCanonical ruleCfgHeld := plainRule_keeps
theorem rulePeer_keeps : KeepsCanonical rulePeer := fun _ _ h => .ite h h.setPeer
theorem ruleAgateCtrl_keeps : KeepsCanonical ruleAgateCtrl :=
  fun _ _ h => .onCmd (.onCmd (.onCmd (h.onCmd (fun _ h => h.rdFirst)) (fun _ h => h.rdNext)) (fun _ h => h.rdSeq)) (fun _ h => h.clearStore)
theorem ruleAgateStat_keeps : KeepsCanonical ruleAgateStat := plainRule_keeps
theorem ruleFactory_keeps : KeepsCanonical ruleFactory := fun _ _ h => h.onCmd (fun _ h => h.factory)
theorem ruleStandby_keeps : KeepsCanonical ruleStandby := fun _ _ h => h.onCmd (fun _ h => h.standbyEnter)
theorem ruleMeter_keeps : KeepsCanonical ruleMeter := fun _ _ h => h.meterStart
theorem Canonical.testStart (h : Canonical s) : Canonical (Machine.testStart s) := .ite h.queueCmd h.setSvc.fset.fset
theorem ruleTest_keeps : KeepsCanonical ruleTest := fun _ _ h => h.onCmd (fun _ h => h.testStart)
theorem ruleSvcStat_keeps : KeepsCanonical ruleSvcStat := plainRule_keeps
theorem ruleJasper_keeps {f : Fld} {queueOne : Bool} : KeepsCanonical (ruleJasper f queueOne) := fun _ _ h => .ite h.jasperEnabled h
theorem ruleJasBus_keeps : KeepsCanonical ruleJasBus :=
  fun _ _ h => .ite (.jasperEnabled (h.onCmd (fun _ h => h.busOneshot))) (h.onCmd (fun _ h => h.busOneshot))
theorem ruleJasCtrl_keeps : KeepsCanonical ruleJasCtrl := fun _ _ h => .onCmd (h.fset.onCmd (fun _ h => h.jasRefresh)) (fun _ h => h.jasOff)
theorem ruleJasStat_keeps : KeepsCanonical ruleJasStat := plainRule_keeps
theorem ruleEccAddr_keeps : KeepsCanonical ruleEccAddr := plainRule_keeps
theorem ruleEccCtrl_keeps : KeepsCanonical ruleEccCtrl := fun _ _ h => h.onCmd (fun _ h => h.eccInject.jasperEnabled)
theorem rulesSys_keeps {b : Nat} : KeepsCanonical (rulesSys b) :=
  .ite ruleMeasured_keeps (.ite ruleMeasured_keeps (.ite ruleKeyUnlock_keeps (.ite ruleKeyStat_keeps (.ite ruleHash_keeps (.ite ruleOem_keeps
      (.ite ruleSession_keeps (.ite ruleOwnStat_keeps (.ite ruleOwnCfg_keeps (.ite ruleClaim_keeps (.ite ruleHandover_keeps (.ite ruleAccept_keeps
      (.ite ruleHeartbeat_keeps (.ite ruleSeize_keeps (.ite ruleHealth_keeps (.ite ruleReset_keeps (.ite ruleCfgCtrl_keeps (.ite ruleCfgHeld_keeps
      (.ite rulePeer_keeps (.ite ruleFactory_keeps (.ite ruleStandby_keeps plainRule_keeps))))))))))))))))))))
theorem rulesSvc_keeps {b : Nat} : KeepsCanonical (rulesSvc b) :=
  .ite ruleAgateCtrl_keeps (.ite ruleAgateStat_keeps (.ite ruleSvcStat_keeps (.ite ruleMeter_keeps (.ite ruleTest_keeps (.ite ruleJasCtrl_keeps
      (.ite ruleJasStat_keeps (.ite ruleJasper_keeps (.ite ruleJasper_keeps (.ite ruleJasper_keeps (.ite ruleJasper_keeps (.ite ruleJasBus_keeps
      (.ite ruleEccAddr_keeps (.ite ruleEccCtrl_keeps (.ite ruleJasper_keeps (.ite ruleJasper_keeps plainRule_keeps)))))))))))))))

/-! The operations of Machine/Access.lean. -/

theorem Canonical.setMbx {m : Master} {k : Nat} {x : Mbx} (h : Canonical s) : Canonical (Machine.setMbx m k x s) := h.keep
theorem Canonical.mbxLatch {m : Master} {k : Nat} (h : Canonical s) : Canonical (Machine.mbxLatch m k s) := h.forAll (fun _ _ h => h.setMbx)
theorem Canonical.mbxRead {m : Master} {k j : Nat} (h : Canonical s) : Canonical (Machine.mbxRead m k j s) := h.setMbx
theorem ruleMbxCtrl_keeps : KeepsCanonical ruleMbxCtrl := fun _ _ h => h.onCmd (fun _ h => h.mbxLatch)
theorem ruleMbxData_keeps : KeepsCanonical ruleMbxData := plainRule_keeps
theorem ruleOf_keeps {b : Nat} : KeepsCanonical (ruleOf b) :=
  .ite (.ite ruleMbxCtrl_keeps (.ite ruleMbxData_keeps rulesSys_keeps)) (.ite rulesQueue_keeps (.ite rulesEng_keeps (.ite rulesMap_keeps (.ite
      rulesChan_keeps (.ite rulesOut_keeps (.ite rulesPwm_keeps (.ite rulesFb_keeps (.ite rulesNav_keeps (.ite rulesTime_keeps (.ite rulesBus_keeps
      (.ite rulesSvc_keeps rulesEng_keeps)))))))))))
theorem Canonical.refuse {m : Master} {isWrite : Bool} {a : Nat} {e : Err} {data : Word} (h : Canonical s) : Canonical (Machine.refuse m isWrite
    a e data s) :=
  .ite h h.fbool.fset.fset.fsat.raise
theorem Canonical.beginTx {m : Master} (h : Canonical s) : Canonical (Machine.beginTx m s) := by
  unfold Machine.beginTx
  split
  exacts [h.setUnlock, h]
theorem Canonical.readEffect {m : Master} {hit : RegHit} (h : Canonical s) : Canonical (Machine.readEffect m hit s) := .ite h.mbxRead (.ite h.keep h)
theorem Canonical.readPlace {r : RegRule} {m : Master} {shown : Nat} {p : Place} (h : Canonical s) (_hr : KeepsCanonical r) : Canonical
    (Machine.readPlace r m shown p s).2.2 := by
  unfold Machine.readPlace
  split
  exacts [h.readEffect, h.refuse]
theorem Canonical.readAccess {m : Master} {a : Nat} (h : Canonical s) : Canonical (Machine.readAccess m a s).2.2 := by
  unfold Machine.readAccess
  split
  exacts [h, by split; exacts [h.refuse, by split; exacts [h.refuse, h.readPlace (ruleOf_keeps)]]]
theorem Canonical.meterOver (h : Canonical s) : Canonical (Machine.meterOver s) := .ite h.meterOff h
theorem Canonical.imageChanged {hit : RegHit} {c : WriteCtx} (h : Canonical s) : Canonical (Machine.imageChanged hit c s) := .ite h.setStage h
theorem Canonical.applyWrite {r : RegRule} {p : Place} {c : WriteCtx} (h : Canonical s) (hr : KeepsCanonical r) : Canonical (Machine.applyWrite
    r p c s) :=
  .ite (.meterOver (hr _ _ (.imageChanged (.ite (.wr (.ite h.stageWrite h)) (.ite h.stageWrite h))))) (.ite h.stageWrite h)
theorem Canonical.writePlace {r : RegRule} {m : Master} {shown : Nat} {p : Place} {data : Word} (h : Canonical s) (hr : KeepsCanonical r) :
    Canonical (Machine.writePlace r m shown p data s).2 := by
  unfold Machine.writePlace
  dsimp only
  split
  · exact .ite (.ite h.setUnlock h) (.applyWrite (.ite h.setUnlock h) (hr))
  · exact .refuse (.ite (.setUnlock (.ite h.setUnlock h)) (.ite h.setUnlock h))
theorem Canonical.writeAccess {m : Master} {a : Nat} {data : Word} (h : Canonical s) : Canonical (Machine.writeAccess m a data s).2 := by
  unfold Machine.writeAccess
  split
  exacts [h, by split; exacts [h.refuse, by split; exacts [h.refuse, h.writePlace (ruleOf_keeps)]]]
theorem Canonical.keyedWith {m : Master} {key : BitVec 16} {a : Nat} {data : Word} {target : State → Err × State} (h : Canonical s) (htarget : ∀
    s, Canonical s → Canonical (target s).2) : Canonical (Machine.keyedWith m key a data target s).2 := by
  unfold Machine.keyedWith
  split
  exacts [h, by split; exacts [h.setUnlock.refuse, .setUnlock (htarget _ h.setUnlock)]]
theorem Canonical.keyedAccess {m : Master} {key : BitVec 16} {a : Nat} {data : Word} (h : Canonical s) : Canonical (Machine.keyedAccess m key a
    data s).2 :=
  h.keyedWith (fun _ h => h.writeAccess)
theorem Canonical.setReply {r : Reply} (h : Canonical s) : Canonical (Machine.setReply r s) := h.keep
theorem Canonical.rowWrite {r : RegRule} {m : Master} {hit : RegHit} {a : Nat} {data : Word} (h : Canonical s) (hr : KeepsCanonical r) :
    Canonical (Machine.rowWrite r m hit a data s) :=
  .ite h.setReply (.setReply (h.beginTx.writePlace (hr)))
theorem Canonical.rowKeyed {r : RegRule} {m : Master} {key : BitVec 16} {hit : RegHit} {a : Nat} {data : Word} (h : Canonical s) (hr :
    KeepsCanonical r) : Canonical (Machine.rowKeyed r m key hit a data s) :=
  .setReply (h.beginTx.keyedWith (fun _ h => h.writePlace (hr)))
theorem Canonical.addrWrite {m : Master} {a : Nat} {data : Word} (h : Canonical s) : Canonical (Machine.addrWrite m a data s) :=
  h.beginTx.writeAccess.setReply

/-! The operations of Machine/BusAccess.lean. -/

theorem Canonical.busReply {p dest kind : Nat} {e : Err} {tag : Nat} {data : List Byte} {addr : Nat} (h : Canonical s) : Canonical
    (Machine.busReply p dest kind e tag data addr s) :=
  h.sendProt.setReply
theorem Canonical.sessionReply {p dest : Nat} {e : Err} (h : Canonical s) : Canonical (Machine.sessionReply p dest e s) := h.fresh.busReply
theorem Canonical.refuseSession {p dest : Nat} {e : Err} (h : Canonical s) : Canonical (Machine.refuseSession p dest e s) :=
  h.fresh.refuse.sessionReply
theorem Canonical.dropKeyed {k : KeyedAddr} (h : Canonical s) : Canonical (Machine.dropKeyed k s) := h.keep.refuse.busReply
theorem Canonical.serveOpen {p src : Nat} (h : Canonical s) : Canonical (Machine.serveOpen p src s) :=
  .ite h.touchSession.sessionReply (.ite h.openSession.sessionReply h.refuseSession)
theorem Canonical.serveClose {p src : Nat} (h : Canonical s) : Canonical (Machine.serveClose p src s) :=
  .ite h.refuseSession (.ite h.touchSession.refuseSession h.endSession.sessionReply)
theorem Canonical.serveAccess {p src : Nat} {q : AccReq} (h : Canonical s) : Canonical (Machine.serveAccess p src q s) := by
  unfold Machine.serveAccess
  dsimp only
  split
  · exact .busReply (by split; exacts [h.readAccess, h.refuse])
  · exact .busReply (by split; exacts [h.writeAccess, h.refuse])
  · exact .ite h.keep h.refuse.busReply
  · exact .busReply (by split; exacts [h.refuse, h.refuse])
  · exact h
theorem Canonical.serveRequest {p src : Nat} {q : AccReq} (h : Canonical s) : Canonical (Machine.serveRequest p src q s) := by
  unfold Machine.serveRequest
  dsimp only
  split
  · exact .ite h.beginTx.keep.touchSession.keyedAccess.busReply (.serveAccess (h.beginTx.dropKeyed.onlyIf (fun _ h => h.touchSession)))
  · split
    exacts [.serveOpen (by split; exacts [h.beginTx.dropKeyed, h.beginTx]), .serveClose (by split; exacts [h.beginTx.dropKeyed, h.beginTx]), .serveAccess (.onlyIf (by split; exacts [h.beginTx.dropKeyed, h.beginTx]) (fun _ h => h.touchSession))]
theorem Canonical.busAccess {p src : Nat} {q : AccReq} (h : Canonical s) : Canonical (Machine.busAccess p src q s) :=
  .ite h (by dsimp only; split; exacts [.ite (.serveRequest (.setPort (.ite h h.frameReceived))) (.ite h h.frameReceived), .ite h h.frameReceived])
theorem Canonical.keyedTimeout (h : Canonical s) : Canonical (Machine.keyedTimeout s) := by
  unfold Machine.keyedTimeout
  split
  exacts [h.atTime.dropKeyed, h]

/-! The operations of Machine/Flow.lean. -/

theorem Canonical.retireTo {g target : Nat} {f : Core → Core} (h : Canonical s) : Canonical (Machine.retireTo g target f s) :=
  .countIssue (h.setGather (h.lmem _))
theorem Canonical.branch {g k : Nat} {off : BitVec 22} (h : Canonical s) : Canonical (Machine.branch g k off s) :=
  h.instruction (fun _ h => .ite h.retireTo h.retire)
theorem Canonical.call {g : Nat} {off : BitVec 26} (h : Canonical s) : Canonical (Machine.call g off s) := h.instruction (fun _ h => h.retireTo)
theorem Canonical.jumpReg {g a : Nat} {link : Bool} (h : Canonical s) : Canonical (Machine.jumpReg g a link s) :=
  h.instruction (fun _ h => h.retireTo)
theorem Canonical.illegalInstruction {g : Nat} {w : Word} (h : Canonical s) : Canonical (Machine.illegalInstruction g w s) :=
  .ite h (.ite h.enterFault (.ite h.enterFault h))
theorem Canonical.fetchRangeFault {g : Nat} (h : Canonical s) : Canonical (Machine.fetchRangeFault g s) := .ite h (.ite h h.enterFault)

/-! The operations of Machine/Gaffer.lean. -/

theorem Canonical.gafferLine {f : State → State} (h : Canonical s) (hf : ∀ s, Canonical s → Canonical (f s)) : Canonical (Machine.gafferLine f s) :=
  .ite h (hf _ h.beginTx)
theorem Canonical.unlessBusy {f : State → State} (h : Canonical s) (hf : ∀ s, Canonical s → Canonical (f s)) : Canonical (Machine.unlessBusy f s) :=
  .ite h.setReply (hf _ h)
theorem Canonical.setOp {o : PortOp} (h : Canonical s) : Canonical (Machine.setOp o s) := h.setSvc
theorem Canonical.gafferId (h : Canonical s) : Canonical (Machine.gafferId s) := h.setReply
theorem Canonical.gafferRd {a : Nat} (h : Canonical s) : Canonical (Machine.gafferRd a s) := h.readAccess.setReply
theorem Canonical.gafferWords {n a : Nat} (h : Canonical s) : Canonical (Machine.gafferWords n a s).2.2 := by
  induction n generalizing a s with
  | zero => exact h
  | succ n ih =>
    rw [Machine.gafferWords]
    split
    · exact ih h.readAccess
    · exact h.readAccess
theorem Canonical.gafferBurst {a n : Nat} (h : Canonical s) : Canonical (Machine.gafferBurst a n s) := h.gafferWords.setReply
theorem Canonical.gafferWrite {r : RegRule} {hit : RegHit} {a : Nat} {data : Word} (h : Canonical s) (hr : KeepsCanonical r) : Canonical
    (Machine.gafferWrite r hit a data s) :=
  .setReply (h.writePlace (hr))
theorem Canonical.gafferKeyed {r : RegRule} {key : BitVec 16} {hit : RegHit} {a : Nat} {data : Word} {shows : Bool} (h : Canonical s) (hr :
    KeepsCanonical r) : Canonical (Machine.gafferKeyed r key hit a data shows s) :=
  .setReply (h.keyedWith (fun _ h => h.writePlace (hr)))
theorem Canonical.gafferOwn (h : Canonical s) : Canonical (Machine.gafferOwn s) := h.setReply
theorem Canonical.autoOn (h : Canonical s) : Canonical (Machine.autoOn s) := h.setOwn.setReply
theorem Canonical.autoOff (h : Canonical s) : Canonical (Machine.autoOff s) := h.setOwn.setReply
theorem Canonical.autoHeartbeat (h : Canonical s) : Canonical (Machine.autoHeartbeat s) :=
  .ite h (.ite h.setOwn (.setOwn (h.atTime.writePlace (ruleHeartbeat_keeps))))
theorem Canonical.gafferLog {sev n : Nat} (h : Canonical s) : Canonical (Machine.gafferLog sev n s) := h.setReply
theorem Canonical.meterWrite {check target : Nat} (h : Canonical s) : Canonical (Machine.meterWrite check target s).2 :=
  h.writePlace (ruleMeter_keeps)
theorem Canonical.gafferMeter {check target : Nat} (h : Canonical s) : Canonical (Machine.gafferMeter check target s) :=
  .ite h.setReply (.ite h.meterWrite.setReply (.ite h.meterWrite.setReply h.meterWrite.setOp.setReply))
theorem Canonical.gafferMeterRead (h : Canonical s) : Canonical (Machine.gafferMeterRead s) := h.setReply
theorem Canonical.gafferMeterOff (h : Canonical s) : Canonical (Machine.gafferMeterOff s) := h.meterWrite.setReply
theorem Canonical.meterMeasurement {mv : Int} (h : Canonical s) : Canonical (Machine.meterMeasurement mv s) :=
  .ite h.meterMeasure.setOp.setReply h.meterMeasure
theorem Canonical.gafferTest {unit port : Nat} (h : Canonical s) : Canonical (Machine.gafferTest unit port s) :=
  .ite (.setReply (.setOp (h.writePlace (ruleTest_keeps)))) (.setReply (.ite (.fset (h.writePlace (ruleTest_keeps))) (h.writePlace (ruleTest_keeps))))
theorem Canonical.demandHalt (h : Canonical s) : Canonical (Machine.demandHalt s) :=
  .fset (.raise (h.keep.everythingOff.forAll (fun _ _ h => h.stopGather)))
theorem Canonical.unitResult {t : DemandTest} {u : Nat} (h : Canonical s) : Canonical (Machine.unitResult t u s) := by
  have cleared {s : State} (h : Canonical s) : Canonical { s with eng := { s.eng with cmem := [] } } := by
    obtain ⟨hRegs, hProg, hStored, _, hLocal⟩ := h
    exact ⟨hRegs, hProg, hStored, trivial, hLocal⟩
  unfold Machine.unitResult
  split
  · exact .ite h.fbool.demandHalt h.fbool.agateStart
  · exact h.fbool.forAll fun _ _ h => h.delayFails
  · exact h.fbool.forAll fun _ _ h => h.chainFailure
  · exact .forAll (.fbool h.keep) fun _ _ h => h.raise
  · exact h.fbool.forAll fun _ _ h => h.pipeFail
  · exact .forAll (.forAll (cleared (.onlyIf h.fbool.fset fun _ h => h.cullet)) fun _ _ h => .setGather h trivial)
      fun _ _ h => h.flushQueue
  · exact h
theorem Canonical.testDone {t : DemandTest} (h : Canonical s) : Canonical (Machine.testDone t s) := by
  unfold Machine.testDone
  split
  · exact h
  · exact .ite (.setReply (.setOp (.runQueued (.setSvc (.fset (.fset (.fset (.fset (h.withPortReset (fun _ h => h.forAll (fun _ _ h =>
      h.unitResult)))))))) (fun _ h => h.testStart)))) (.runQueued (.setSvc (.fset (.fset (.fset (.fset (h.withPortReset (fun _ h => h.forAll (fun _
      _ h => h.unitResult)))))))) (fun _ h => h.testStart))
theorem Canonical.snapWrite {data : Word} (h : Canonical s) : Canonical (Machine.snapWrite data s).2 := h.writePlace (ruleSnapCtrl_keeps)
theorem Canonical.gafferCapture {len chains : Nat} (h : Canonical s) : Canonical (Machine.gafferCapture len chains s) :=
  .ite (.setReply (h.writePlace (plainRule_keeps))) (.ite (.setReply (.snapWrite (h.writePlace (plainRule_keeps)))) (.setReply (.setOp
      (.snapWrite (h.writePlace (plainRule_keeps))))))
theorem Canonical.gafferSolve (h : Canonical s) : Canonical (Machine.gafferSolve s) := .ite h.snapWrite.setReply h.snapWrite.setOp.setReply
theorem Canonical.gafferSnapRead (h : Canonical s) : Canonical (Machine.gafferSnapRead s) := .ite h.setReply h.setReply
theorem Canonical.captureReply {data : List Byte} {temp : BitVec 16} (h : Canonical s) : Canonical (Machine.captureReply data temp s) :=
  .ite h.captureDone.setOp.setReply h.captureDone
theorem Canonical.solveReply {found : Option (Int × Int × Int × Nat)} (h : Canonical s) : Canonical (Machine.solveReply found s) :=
  .ite h.solveDone.setOp.setReply h.solveDone
theorem Canonical.gafferJas {cmd : Nat} (h : Canonical s) : Canonical (Machine.gafferJas cmd s) := h.gafferKeyed (ruleJasCtrl_keeps)
theorem Canonical.usbDtr {isOpen : Bool} (h : Canonical s) : Canonical (Machine.usbDtr isOpen s) := .ite h.fbool h.fbool.setOwn
theorem Canonical.lineRefused {f : LineFault} (h : Canonical s) : Canonical (Machine.lineRefused f s) := h.setReply

/-! The operations of Machine/Hspi.lean. -/

theorem Canonical.hspiRead {a : Nat} (h : Canonical s) : Canonical (Machine.hspiRead a s) := h.beginTx.readAccess.setReply
theorem Canonical.hspiWrite {a : Nat} {data : Word} (h : Canonical s) : Canonical (Machine.hspiWrite a data s) := h.beginTx.writeAccess.setReply
theorem Canonical.hspiKeyed {key : BitVec 16} {a : Nat} {data : Word} (h : Canonical s) : Canonical (Machine.hspiKeyed key a data s) :=
  h.beginTx.keyedAccess.setReply
theorem Canonical.burstRead {n a : Nat} (h : Canonical s) : Canonical (Machine.burstRead n a s).2 := by
  induction n generalizing a s with
  | zero => exact h
  | succ n ih =>
    rw [Machine.burstRead]
    split
    · exact ih h.readAccess
    · exact h.readAccess
theorem Canonical.burstWrite {ws : List Word} {a : Nat} (h : Canonical s) : Canonical (Machine.burstWrite ws a s).2 := by
  induction ws generalizing a s with
  | nil => exact h
  | cons w ws ih =>
    rw [Machine.burstWrite]
    split
    · exact ih h.writeAccess
    · exact h.writeAccess
theorem Canonical.hspiBurstRead {a n : Nat} (h : Canonical s) : Canonical (Machine.hspiBurstRead a n s) := h.beginTx.burstRead.setReply
theorem Canonical.hspiBurstWrite {a : Nat} {ws : List Word} (h : Canonical s) : Canonical (Machine.hspiBurstWrite a ws s) :=
  h.beginTx.burstWrite.setReply

/-! The operations of Machine/Point.lean. -/

theorem Canonical.pointInstr {g d a b : Nat} {f : Word → Word → Word} (h : Canonical s) : Canonical (Machine.pointInstr g d a b f s) := h.coreInstr
theorem Canonical.pointDistance {g d a b : Nat} (h : Canonical s) : Canonical (Machine.pointDistance g d a b s) :=
  h.asyncInstr (fun _ h => h.issueAsync)

/-! The operations of Machine/QueueInstr.lean. -/

theorem Canonical.stallFull {g q : Nat} (h : Canonical s) : Canonical (Machine.stallFull g q s) := h.keep.fset.stallAs
theorem Canonical.reserveWords {q : Nat} {rs : List QRes} (h : Canonical s) : Canonical (Machine.reserveWords q rs s) := h.setQueue.noteHwm
theorem Canonical.pushWord {g d q : Nat} (h : Canonical s) : Canonical (Machine.pushWord g d q s) :=
  h.instruction (fun _ h => .ite h.faultHere (.ite h.fsat.retire (.ite h.stallFull h.reserveWords.retire)))
theorem Canonical.popWord {g d q : Nat} (h : Canonical s) : Canonical (Machine.popWord g d q s) :=
  h.asyncInstr (fun _ h => .ite h.faultHere h.keepEng.issueAsync)
theorem Canonical.tryPop {g d q : Nat} (h : Canonical s) : Canonical (Machine.tryPop g d q s) :=
  h.instruction (fun _ h => .ite h.faultHere (by split; exacts [h.retire, h.setQueue.retire]))
theorem Canonical.commitPacket {g q : Nat} (h : Canonical s) : Canonical (Machine.commitPacket g q s) :=
  h.instruction (fun _ h => .ite h.faultHere h.setQueue.retire)
theorem Canonical.queueLevel {g d q : Nat} {sel : Bool} (h : Canonical s) : Canonical (Machine.queueLevel g d q sel s) :=
  h.instruction (fun _ h => .ite h.faultHere h.retire)
theorem Canonical.post {g d a b code : Nat} (h : Canonical s) : Canonical (Machine.post g d a b code s) :=
  h.instruction (fun _ h => .ite h.faultHere (.ite h.faultHere (.ite h.stallFull h.reserveWords.retire)))

/-! The operations of Machine/RowsEng.lean. -/

theorem Canonical.mapGeometry {m : Master} {g : GeoReg} {data : Word} (h : Canonical s) : Canonical (Machine.mapGeometry m g data s) := by
  unfold Machine.mapGeometry
  split
  · exact h.rowWrite (rulesMap_keeps)
  · exact h.rowWrite (rulesMap_keeps)
  · exact h.rowWrite (rulesMap_keeps)
  · exact h.rowWrite (rulesMap_keeps)
  · exact h.rowWrite (rulePoly_keeps)
  · exact h.rowWrite (ruleMapField_keeps)

/-! The operations of Machine/RowsFb.lean. -/

theorem Canonical.fbCompare {m : Master} {c : CmpReg} {n : Fin 24} {r : Fin 4} {data : Word} (h : Canonical s) : Canonical (Machine.fbCompare m
    c n r data s) := by
  unfold Machine.fbCompare
  split
  exacts [h.rowWrite (ruleCmpCtrl_keeps), h.rowWrite (ruleCmpValue_keeps), h.rowWrite (ruleCmpValue_keeps)]

/-! The operations of Machine/RowsSys.lean. -/

theorem Canonical.unlockExpiry {m : Master} (h : Canonical s) : Canonical (Machine.unlockExpiry m s) := by
  unfold Machine.unlockExpiry
  split
  exacts [h.atTime.setUnlock, h]
theorem Canonical.mbxDataRead {m : Master} {k : Fin 14} {j : Fin 4} (h : Canonical s) : Canonical (Machine.mbxDataRead m k j s) :=
  .ite h.setReply (.setReply (h.beginTx.readPlace (ruleMbxData_keeps)))

/-! The operations of Machine/Ticks.lean. -/

theorem Canonical.restartGather {g : Nat} (h : Canonical s) : Canonical (Machine.restartGather g s) := .ite h.stopGather h.stopGather.startGather
theorem Canonical.cfgActivate (h : Canonical s) : Canonical (Machine.cfgActivate s) :=
  .judgeSkew (.raise (.forAll (.fset (.fset (.setStage (.forAll (h.forAll (fun _ _ h => h.wr)) (fun _ _ h => ruleOf_keeps _ _ h))))) (fun _ _ h
      => h.restartGather)))
theorem Canonical.cfgActivation (h : Canonical s) : Canonical (Machine.cfgActivation s) := .ite h.atTime.cfgActivate h
theorem Canonical.mapActivation (h : Canonical s) : Canonical (Machine.mapActivation s) := h.activateDue
theorem Canonical.tick (h : Canonical s) : Canonical (Machine.tick s) := h.atTime.cfgActivation.activateDue.latchTick
theorem Canonical.lineCalibration {n : Nat} {taps : List Nat} (h : Canonical s) : Canonical (Machine.lineCalibration n taps s) :=
  .ite h.calibrate.cullet h.calibrate

/-! The operations of Machine/TimeInstr.lean. -/

theorem Canonical.readMtime {g d : Nat} (h : Canonical s) : Canonical (Machine.readMtime g d s) :=
  h.instruction (fun _ h => .retire (h.keep.setGather (h.lmem _)))
theorem Canonical.tickPlus {g d a : Nat} (h : Canonical s) : Canonical (Machine.tickPlus g d a s) := h.instruction (fun _ h => h.retire)
theorem Canonical.readSnap {g d k : Nat} (h : Canonical s) : Canonical (Machine.readSnap g d k s) := h.instruction (fun _ h => h.retire)
theorem Canonical.readLatency {g d a k : Nat} (h : Canonical s) : Canonical (Machine.readLatency g d a k s) :=
  h.instruction (fun _ h => .ite h.faultHere h.keep.retire)

/-! The operations of Machine/Step.lean. -/

theorem Canonical.idle (h : Canonical s) : Canonical (Machine.idle s) := .ite h.keep h

/-- Every command keeps the registers and memories in canonical form. -/
theorem exec_endsCanonical (i : Instr) (h : Canonical s) : EndsCanonical (exec i s) := by
  cases i with
  | selftestEnd => exact h.selftestEnd.done
  | gnsSelftestEnd => exact h.live (fun _ h => h.gnsSelftestEnd)
  | configurationLoad => exact h.configurationLoad.done
  | supplyLoss => exact h.supplyLoss.done
  | feedUndervoltageEntry => exact h.live (fun _ h => h.feedUvEntry)
  | feedUndervoltageExit => exact h.live (fun _ h => h.feedUvExit)
  | staggeredTurnOn => exact h.live (fun _ h => h.staggeredTurnOn)
  | keyUnlockWrite => exact .done (h.rowWrite (ruleKeyUnlock_keeps))
  | unlockExpiry => exact h.live (fun _ h => h.unlockExpiry)
  | aliasWrite => exact h.addrWrite.done
  | oemKeyHashWrite => exact .done (h.rowWrite (ruleHash_keeps))
  | writeOnceWrite => exact .done (h.rowWrite (ruleHash_keeps))
  | oemKeyCommit => exact .done (h.rowKeyed (ruleOem_keeps))
  | mbxReq => exact .done (h.rowWrite (ruleMbxCtrl_keeps))
  | mbxDataRead => exact h.mbxDataRead.done
  | hspiRead => exact h.hspiRead.done
  | hspiWrite => exact h.hspiWrite.done
  | hspiKeyedWrite => exact h.hspiKeyed.done
  | hspiBurstRead => exact h.hspiBurstRead.done
  | hspiBurstWrite => exact h.hspiBurstWrite.done
  | hspiInvalidCommand => exact .done (.ite h h.beginTx.setReply)
  | hspiCsEarlyRise => exact .done (.setReply (h.onlyIf (fun _ h => h.beginTx)))
  | busAccessOpen => exact h.live (fun _ h => h.busAccess)
  | busAccessClose => exact h.live (fun _ h => h.busAccess)
  | busAccessRead => exact h.live (fun _ h => h.busAccess)
  | busAccessWrite => exact h.live (fun _ h => h.busAccess)
  | busSessionDrop => exact .done (h.rowWrite (ruleSession_keeps))
  | ownClaim => exact .done (h.rowKeyed (ruleClaim_keeps))
  | ownHandover => exact .done (h.rowKeyed (ruleHandover_keeps))
  | ownRelease => exact .done (h.rowKeyed (ruleHandover_keeps))
  | ownHandoverCancel => exact .done (h.rowKeyed (ruleHandover_keeps))
  | ownAccept => exact .done (h.rowWrite (ruleAccept_keeps))
  | ownHeartbeatRefresh => exact .done (h.rowWrite (ruleHeartbeat_keeps))
  | ownSeize => exact .done (h.rowKeyed (ruleSeize_keeps))
  | ownCfgWrite => exact .done (h.rowKeyed (ruleOwnCfg_keeps))
  | registerWrite => exact h.addrWrite.done
  | add => exact h.aluReg.done
  | sub => exact h.aluReg.done
  | adc => exact h.aluReg.done
  | sbc => exact h.aluReg.done
  | andW => exact h.aluReg.done
  | orW => exact h.aluReg.done
  | xorW => exact h.aluReg.done
  | andn => exact h.aluReg.done
  | shl => exact h.aluReg.done
  | shr => exact h.aluReg.done
  | sar => exact h.aluReg.done
  | ror => exact h.aluReg.done
  | mul => exact h.aluReg.done
  | mulh => exact h.aluReg.done
  | mulhu => exact h.aluReg.done
  | minW => exact h.aluReg.done
  | maxW => exact h.aluReg.done
  | minu => exact h.aluReg.done
  | maxu => exact h.aluReg.done
  | addi => exact h.aluImm.done
  | subi => exact h.aluImm.done
  | andi => exact h.aluImm.done
  | ori => exact h.aluImm.done
  | xori => exact h.aluImm.done
  | shli => exact h.coreInstr.done
  | shri => exact h.coreInstr.done
  | sari => exact h.coreInstr.done
  | rori => exact h.coreInstr.done
  | lui => exact h.coreInstr.done
  | ldw => exact h.localLoad.done
  | ldh => exact h.localLoad.done
  | ldhu => exact h.localLoad.done
  | ldb => exact h.localLoad.done
  | ldbu => exact h.localLoad.done
  | stw => exact h.localStore.done
  | sth => exact h.localStore.done
  | stb => exact h.localStore.done
  | ldc => exact h.commonLoad.done
  | stc => exact h.commonStore.done
  | bc => exact h.branch.done
  | call => exact h.call.done
  | jr => exact h.jumpReg.done
  | callr => exact h.jumpReg.done
  | divW => exact h.asyncArith.done
  | divu => exact h.asyncArith.done
  | remW => exact h.asyncArith.done
  | remu => exact h.asyncArith.done
  | sqrt => exact h.asyncArith.done
  | pset => exact h.coreInstr.done
  | pgetx => exact h.coreInstr.done
  | pgety => exact h.coreInstr.done
  | pmov => exact h.pointInstr.done
  | padd => exact h.pointInstr.done
  | psub => exact h.pointInstr.done
  | pmid => exact h.pointInstr.done
  | pdist => exact h.pointDistance.done
  | foot => exact .done (h.asyncInstr (fun _ h => h.issueAsync))
  | covq => exact .done (h.asyncInstr (fun _ h => h.issueAsync))
  | covx => exact .done (h.asyncInstr (fun _ h => h.issueAsync))
  | zonq => exact .done (h.asyncInstr (fun _ h => h.issueAsync))
  | excl => exact .done (h.asyncInstr (fun _ h => h.issueAsync))
  | covm => exact h.markRemote.done
  | qpush => exact h.pushWord.done
  | qpop => exact h.popWord.done
  | qtry => exact h.tryPop.done
  | qcommit => exact h.commitPacket.done
  | qlevel => exact h.queueLevel.done
  | post => exact h.post.done
  | rdmt => exact h.readMtime.done
  | tadd => exact h.tickPlus.done
  | rds => exact h.readSnap.done
  | rdlat => exact h.readLatency.done
  | rdg => exact h.coreInstr.done
  | nop => exact h.coreInstr.done
  | epoch => exact .done (h.instruction (fun _ h => h.epochThen (fun _ h => h)))
  | fence => exact .done (h.instruction (fun _ h => .ite h.retire h.stallAs))
  | waita => exact .done (h.instruction (fun _ h => .ite h.stallAs h.retire))
  | waitt => exact .done (h.instruction (fun _ h => h.epochThen (fun _ h => h.countMissed.setPhase')))
  | waitm => exact h.waitTime.done
  | waitq => exact h.waitQueue.done
  | halt => exact .done (h.instruction (fun _ h => h.epochThen (fun _ h => .raise (h.setGather (h.lmem _)))))
  | prio => exact h.coreInstr.done
  | logW => exact h.logRecord.done
  | asyncCompletion => exact h.asyncCompletion.done
  | waitmWake => exact h.waitmWake.done
  | waitqWake => exact h.waitqWake.done
  | gCtrlStart => exact .done (h.rowWrite (ruleGCtrl_keeps))
  | startingComplete => exact h.startingComplete.done
  | gCtrlStop => exact .done (h.rowWrite (ruleGCtrl_keeps))
  | stopall => exact .done (h.rowWrite (ruleEngCtrl_keeps))
  | startauto => exact .done (h.rowWrite (ruleEngCtrl_keeps))
  | gatherHoldWindowEnd => exact h.gatherHoldEnd.done
  | loadOpen => exact .done (h.rowWrite (ruleLoadCtrl_keeps))
  | loadWindowWrite => exact .done (h.rowWrite (ruleLoadWin_keeps))
  | loadVerify => exact .done (h.rowWrite (ruleLoadCtrl_keeps))
  | loadAbort => exact .done (h.rowWrite (ruleLoadCtrl_keeps))
  | pageRelease => exact .done (h.rowWrite (ruleRelease_keeps))
  | cmemDataWrite => exact .done (h.rowWrite (ruleCmem_keeps))
  | lmemDataWrite => exact .done (h.rowWrite (ruleLmem_keeps))
  | gatherRewind => exact h.live (fun _ h => h.withPortReset (fun _ h => h.gatherRewind))
  | rewindComplete => exact h.live (fun _ h => h.rewindComplete)
  | fieldCreate => exact .done (h.rowWrite (ruleFieldCtrl_keeps))
  | fieldHere => exact .done (h.rowWrite (ruleFieldCtrl_keeps))
  | fieldClear => exact .done (h.rowKeyed (ruleFieldCtrl_keeps))
  | fieldDelete => exact .done (h.rowKeyed (ruleFieldCtrl_keeps))
  | fieldCommandDone => exact h.live (fun _ h => h.fieldCommandDone)
  | tileFetch => exact h.live (fun _ h => h.tileFetch)
  | onyxFlush => exact .done (h.rowWrite (ruleOnyxCtrl_keeps))
  | mapWinWrite => exact .done (h.rowWrite (ruleMapWin_keeps))
  | mapGeometryWrite => exact h.mapGeometry.done
  | mapCheck => exact .done (h.rowWrite (ruleMapCtrl_keeps))
  | mapActNow => exact .done (h.rowWrite (ruleMapCtrl_keeps))
  | mapActArm => exact .done (h.rowWrite (ruleMapCtrl_keeps))
  | mapActCancel => exact .done (h.rowWrite (ruleMapCtrl_keeps))
  | mapClear => exact .done (h.rowWrite (ruleMapCtrl_keeps))
  | actuationOn => exact h.live (fun _ h => h.actuationOn)
  | actuationOff => exact h.live (fun _ h => h.actuationOff)
  | actuationDuty => exact h.live (fun _ h => h.actuationDuty)
  | actuationPeriod => exact h.live (fun _ h => h.actuationPeriod)
  | actuationPhase => exact h.live (fun _ h => h.actuationPhase)
  | actuationPulse => exact h.live (fun _ h => h.actuationPulse)
  | pulseEnd => exact h.live (fun _ h => h.pulseEnd)
  | latencyMeasurement => exact h.live (fun _ h => h.latencyMeasurement)
  | captureEnd => exact h.live (fun _ h => h.captureEnd)
  | outArm => exact .done (h.rowWrite (ruleOutCtrl_keeps))
  | outDisarm => exact .done (h.rowWrite (ruleOutCtrl_keeps))
  | lateClr => exact .done (h.rowWrite (ruleOutCtrl_keeps))
  | relearn => exact .done (h.rowWrite (ruleLearn_keeps))
  | remArm => exact .done (h.rowWrite (ruleRemCtrl_keeps))
  | remDisarm => exact .done (h.rowWrite (ruleRemCtrl_keeps))
  | stateReport => exact h.live (fun _ h => h.frameReceived)
  | latencyReport => exact h.live (fun _ h => h.frameReceived)
  | remoteReportTimeout => exact h.live (fun _ h => h.reportTimeout)
  | qflush => exact .done (h.rowWrite (ruleQctrl_keeps))
  | hwmClr => exact .done (h.rowWrite (ruleQctrl_keeps))
  | heldItemEntry => exact h.live (fun _ h => h.enterHeld)
  | channelTrip => exact h.live (fun _ h => h.channelTrip)
  | retryPauseEnd => exact h.live (fun _ h => h.retryPauseEnd)
  | tryCountReset => exact h.live (fun _ h => h.tryCountReset)
  | unlatch => exact .done (h.rowWrite (ruleChCtrl_keeps))
  | inrushWindowEnd => exact h.live (fun _ h => h.inrushWindowEnd)
  | thermalShutdown => exact h.live (fun _ h => h.thermalShutdown)
  | thermalRecovery => exact h.live (fun _ h => h.thermalRecovery)
  | pulseDeferralEnd => exact h.live (fun _ h => h.pulseDeferralEnd)
  | budgetAdmission => exact h.live (fun _ h => h.budgetAdmission)
  | reversalGapEnd => exact h.live (fun _ h => h.reversalGapEnd)
  | supplyCompUpdate => exact h.live (fun _ h => h.supplyCompUpdate)
  | compensationFreeze => exact h.live (fun _ h => h.compensationFreeze)
  | compensationFreezeEnd => exact h.live (fun _ h => h.compensationFreezeEnd)
  | capSelWrite => exact .done (h.rowWrite (ruleCapSel_keeps))
  | carrierReload => exact h.live (fun _ h => h.carrierReload)
  | carrierFall => exact h.live (fun _ h => h.carrierFall)
  | delayLineCalibration => exact h.live (fun _ h => h.lineCalibration)
  | poseRecordPublish => exact h.live (fun _ h => h.posePublish)
  | gnssCold => exact .done (h.rowKeyed (ruleGnssCtrl_keeps))
  | trkManualWrite => exact .done (h.rowWrite (ruleTrkCfg_keeps))
  | corrFeedWrite => exact .done (h.rowWrite (ruleCorrFeed_keeps))
  | snapCapture => exact .done (h.rowWrite (ruleSnapCtrl_keeps))
  | snapSolve => exact .done (h.rowWrite (ruleSnapCtrl_keeps))
  | timeSet => exact .done (h.rowKeyed (ruleTimeCtrl_keeps))
  | tickCfgWrite => exact .done (h.rowWrite (ruleTick_keeps))
  | fbEdge => exact h.live (fun _ h => h.fbEdge)
  | fbStaleTimeout => exact h.live (fun _ h => h.fbStaleTimeout)
  | fbPeriodicRecord => exact h.live (fun _ h => h.fbPeriodicRecord)
  | fbClearFault => exact .done (h.rowWrite (ruleFbCtrl_keeps))
  | fbCompareWrite => exact h.fbCompare.done
  | fbCountWrite => exact .done (h.rowWrite (ruleFbCount_keeps))
  | aiConversion => exact h.live (fun _ h => h.aiConversion)
  | sensorSupplyLevelChange => exact .done (h.rowWrite (ruleFbGlobal_keeps))
  | streamItemTaken => exact h.live (fun _ h => h.streamItemTaken)
  | frameTransmitComplete => exact h.live (fun _ h => h.transmitComplete)
  | busError => exact h.live (fun _ h => h.busError)
  | frameReceived p f sof =>
    change EndsCanonical (execFrameReceived p f sof s)
    unfold execFrameReceived
    split
    · exact h.live (fun _ h => h.frameReceived)
    · exact h.done
  | receiveCheckTimeout => exact h.live (fun _ h => h.checkTimeout)
  | sendReq => exact .done (h.rowWrite (ruleObjCtrl_keeps))
  | txAbort => exact .done (h.rowWrite (ruleObjCtrl_keeps))
  | portInitWrite => exact .done (h.rowWrite (rulePortCtrl_keeps))
  | rdFirst => exact .done (h.rowWrite (ruleAgateCtrl_keeps))
  | rdNext => exact .done (h.rowWrite (ruleAgateCtrl_keeps))
  | rdSeq => exact .done (h.rowWrite (ruleAgateCtrl_keeps))
  | agateClear => exact .done (h.rowKeyed (ruleAgateCtrl_keeps))
  | resetEngine => exact .done (h.rowKeyed (ruleReset_keeps))
  | resetWarm => exact .done (h.rowKeyed (ruleReset_keeps))
  | clockMonitorFault => exact h.live (fun _ h => .ite h.warmReset (h.withPortReset (fun _ h => h.engineReset)))
  | cfgStageOpen => exact .done (h.rowWrite (ruleCfgCtrl_keeps))
  | cfgStagedWrite => exact h.addrWrite.done
  | cfgCheck => exact .done (h.rowWrite (ruleCfgCtrl_keeps))
  | cfgActArm => exact .done (h.rowWrite (ruleCfgCtrl_keeps))
  | cfgActNow => exact .done (h.rowWrite (ruleCfgCtrl_keeps))
  | cfgDiscard => exact .done (h.rowWrite (ruleCfgCtrl_keeps))
  | factory => exact .done (h.rowKeyed (ruleFactory_keeps))
  | standbyEnter => exact .done (h.rowKeyed (ruleStandby_keeps))
  | gafferRd => exact .done (h.gafferLine (fun _ h => h.gafferRd))
  | gafferRdBurst => exact .done (h.gafferLine (fun _ h => h.gafferBurst))
  | gafferWr => exact .done (h.gafferLine (fun _ h => h.writeAccess.setReply))
  | gafferKey => exact .done (h.gafferLine (fun _ h => h.keyedAccess.setReply))
  | gafferOwnClaim => exact .done (h.gafferLine (fun _ h => h.gafferKeyed (ruleClaim_keeps)))
  | gafferOwnSeize => exact .done (h.gafferLine (fun _ h => h.gafferKeyed (ruleSeize_keeps)))
  | gafferOwnRelease => exact .done (h.gafferLine (fun _ h => h.gafferKeyed (ruleHandover_keeps)))
  | gafferLogClear => exact .done (h.gafferLine (fun _ h => h.gafferKeyed (ruleAgateCtrl_keeps)))
  | illegalInstruction => exact h.illegalInstruction.done
  | fetchRangeFault => exact h.fetchRangeFault.done
  | rawLineChange => exact h.live (fun _ h => h.rawLineChange)
  | ptComparePulseEnd => exact h.live (fun _ h => h.ptPulseEnd)
  | synthesisedSpeedPeriod => exact h.live (fun _ h => h.synthPeriod)
  | dropoutEnd => exact h.live (fun _ h => h.dropoutEnd)
  | ecuBandEntry => exact h.live (fun _ h => h.bandEntry)
  | antennaFoldBack => exact h.live (fun _ h => h.antennaFold)
  | antennaBiasRetry => exact h.live (fun _ h => h.biasRetry)
  | sensorSupplyFoldBack => exact h.live (fun _ h => h.sensorFold)
  | keyedAddr => exact h.live (fun _ h => h.busAccess)
  | keyedData => exact h.live (fun _ h => h.busAccess)
  | tileWriteback => exact h.live (fun _ h => h.writeBack)
  | lpShort => exact h.live (fun _ h => h.lpShort)
  | measurementEpoch => exact h.live (fun _ h => h.measurementEpoch)
  | chainFailure => exact h.live (fun _ h => h.chainFailure)
  | antOpen => exact h.live (fun _ h => h.antOpen)
  | rtcmFrame => exact h.live (fun _ h => h.rtcmFrame)
  | snapCaptureDone => exact h.live (fun _ h => h.captureReply)
  | snapSolveDone => exact h.live (fun _ h => h.solveReply)
  | timeMsgWithdraw => exact h.live (fun _ h => h.timeMsgWithdraw)
  | holdoverLimitExceeded => exact h.live (fun _ h => h.holdoverLimit)
  | ssiFrame => exact h.live (fun _ h => h.ssiFrame)
  | ssiStaleTimeout => exact h.live (fun _ h => h.ssiStaleTimeout)
  | aiBurdenReclose => exact h.live (fun _ h => h.aiBurdenReclose)
  | ptShort => exact h.live (fun _ h => h.ptShort)
  | busoffRecoveryComplete => exact h.live (fun _ h => h.busoffRecovered)
  | busoffRec => exact .done (h.rowWrite (rulePortCtrl_keeps))
  | portSleep => exact .done (h.rowWrite (rulePortCtrl_keeps))
  | portSleepEntry => exact h.live (fun _ h => h.sleepEntry)
  | portWakeCondition => exact h.live (fun _ h => h.wakeCondition)
  | portWake => exact .done (h.rowWrite (rulePortCtrl_keeps))
  | addressClaimReceived => exact h.live (fun _ h => h.frameReceived)
  | requestForAddressClaim => exact h.live (fun _ h => h.frameReceived)
  | addressClaimTimeout => exact h.live (fun _ h => h.claimTimeout)
  | tpRtsReceived => exact h.live (fun _ h => h.frameReceived)
  | tpBamReceived => exact h.live (fun _ h => h.frameReceived)
  | tpDataReceived => exact h.live (fun _ h => h.frameReceived)
  | tpCtsReceived => exact h.live (fun _ h => h.frameReceived)
  | tpAbortReceived => exact h.live (fun _ h => h.frameReceived)
  | tpTimeout => exact h.live (fun _ h => h.tpTimeout)
  | bamPacketSend => exact h.live (fun _ h => h.bamPacket)
  | dm1Period => exact h.live (fun _ h => h.dm1Period)
  | dm2Request => exact h.live (fun _ h => h.frameReceived)
  | dm3Received => exact h.live (fun _ h => h.frameReceived)
  | memoryScrub => exact h.live (fun _ h => h.memoryScrub)
  | tmrMismatch => exact h.live (fun _ h => h.tmrMismatch)
  | fleetDigestFrame => exact h.live (fun _ h => h.frameReceived)
  | fleetPeerTimeout => exact h.live (fun _ h => h.peerTimeout)
  | standbyWake => exact h.standbyWake.done
  | snapshotWake => exact h.snapshotWake.done
  | usbDtrChange => exact h.live (fun _ h => h.usbDtr)
  | gafferLog => exact .done (h.gafferLine (fun _ h => h.gafferLog))
  | gafferMeterCheck => exact .done (h.gafferLine (fun _ h => h.unlessBusy (fun _ h => h.gafferMeter)))
  | svcMeterWrite => exact .done (h.rowWrite (ruleMeter_keeps))
  | gafferSelftest => exact .done (h.gafferLine (fun _ h => h.unlessBusy (fun _ h => h.gafferTest)))
  | svcTestGo => exact .done (h.rowWrite (ruleTest_keeps))
  | gafferSnapCap => exact .done (h.gafferLine (fun _ h => h.unlessBusy (fun _ h => h.gafferCapture)))
  | jasperEnableWrite => exact h.beginTx.keyedAccess.setReply.done
  | jasRefresh => exact .done (h.rowKeyed (ruleJasCtrl_keeps))
  | jasOff => exact .done (h.rowKeyed (ruleJasCtrl_keeps))
  | eccInject => exact .done (h.rowKeyed (ruleEccCtrl_keeps))
  | busOneshot => exact .done (h.rowKeyed (ruleJasBus_keeps))
  | inertialSample => exact h.live (fun _ h => h.inertialSample)
  | keepAbsentChange => exact h.live (fun _ h => h.keepChange)
  | ecuBandExit => exact h.live (fun _ h => h.bandExit)
  | aiStaleTimeout => exact h.live (fun _ h => h.aiStaleTimeout)
  | operatingTimeStore => exact h.live (fun _ h => h.optStore)
  | selftestOnDemandDone => exact h.live (fun _ h => h.testDone)
  | meterMeasurement => exact h.live (fun _ h => h.meterMeasurement)
  | gafferLineRefused => exact .done (h.gafferLine (fun _ h => h.lineRefused))
  | tpEndOfMessageAck => exact h.live (fun _ h => h.frameReceived)
  | ecuPwrQualified => exact h.ecuQualified.done
  | svcVbusColdStart => exact h.vbusStart.done
  | benchToNormal => exact h.benchToNormal.done
  | svcVbusLoss => exact h.vbusLoss.done
  | powerOnResetEnd => exact h.powerOnEnd.done
  | electionWindowEnd => exact h.live (fun _ h => h.electionWindowEnd)
  | wakeInRise => exact h.standbyWake.done
  | groundLoss => exact h.live (fun _ h => h.groundLoss)
  | groundLossEnd => exact h.live (fun _ h => h.groundLossEnd)
  | baseHotEntry => exact h.live (fun _ h => h.baseHot)
  | oemKeyCommitDone => exact h.live (fun _ h => h.commitDone)
  | keyedAddrTimeout => exact h.live (fun _ h => h.keyedTimeout)
  | busSessionTimeout => exact h.live (fun _ h => h.sessionTimeout)
  | heartbeatTimeout => exact h.live (fun _ h => h.heartbeatTimeout.meterOver)
  | handoverTimeout => exact h.live (fun _ h => h.handoverTimeout.meterOver)
  | tick => exact h.live (fun _ h => h.tick)
  | snapshotComplete => exact h.live (fun _ h => h.snapshotComplete)
  | loadVerifyDone => exact h.verifyDone.done
  | mapCheckDone => exact h.live (fun _ h => h.mapCheckDone)
  | mapActivation => exact h.live (fun _ h => h.mapActivation)
  | eventPlacement => exact h.live (fun _ h => h.eventPlacement)
  | holdPlaced => exact h.live (fun _ h => h.holdPlacement)
  | latencyStore => exact h.live (fun _ h => h.latencyStore)
  | latencyTableRefresh => exact h.live (fun _ h => h.latencyTableRefresh)
  | markerSweep => exact (by unfold exec execMarkerSweep; exact h.live (fun _ h => .ite h h.markerSweep))
  | navDataStore => exact h.live (fun _ h => h.navStore)
  | correctionStale => exact h.live (fun _ h => h.correctionStale)
  | ppsPrepare => exact h.live (fun _ h => h.ppsPrepare)
  | ppsEdge => exact h.live (fun _ h => h.ppsEdge)
  | ppsFall => exact h.live (fun _ h => h.ppsFall)
  | slewComplete => exact h.live (fun _ h => h.slewComplete)
  | holdoverEntry => exact h.live (fun _ h => h.holdoverEntry)
  | tmReferencePeriod => exact h.live (fun _ h => h.tmPeriod)
  | recorderEventAccept => exact h.live (fun _ h => h.acceptEvent)
  | recordWrite => exact h.live (fun _ h => h.recordWrite)
  | supervisorRestart => exact h.live (fun _ h => h.portReset.supervisorRestart)
  | supervisorWatchdogTimeout => exact h.live (fun _ h => h.warmReset)
  | issueMonitorTimeout => exact h.live (fun _ h => h.withPortReset (fun _ h => h.engineReset))
  | engineResetEnd => exact h.live (fun _ h => h.withPortReset (fun _ h => h.engineResetEnd))
  | warmResetRelease => exact h.live (fun _ h => h.warmRelease)
  | resetHoldWindowEnd => exact h.live (fun _ h => h.holdWindowEnd)
  | cfgCheckDone => exact h.live (fun _ h => h.cfgCheckDone)
  | cfgActivation => exact h.live (fun _ h => h.cfgActivation)
  | imageStore => exact h.live (fun _ h => h.imageStore)
  | fleetRoundSend => exact h.live (fun _ h => h.fleetRound)
  | keepLossInStandby => exact h.keepLoss.done
  | gafferId => exact .done (h.gafferLine (fun _ h => h.gafferId))
  | gafferOwn => exact .done (h.gafferLine (fun _ h => h.gafferOwn))
  | gafferOwnAccept => exact .done (h.gafferLine (fun _ h => h.gafferWrite (ruleAccept_keeps)))
  | gafferOwnHb => exact .done (h.gafferLine (fun _ h => h.gafferWrite (ruleHeartbeat_keeps)))
  | gafferOwnAutoOn => exact .done (h.gafferLine (fun _ h => h.autoOn))
  | gafferOwnAutoOff => exact .done (h.gafferLine (fun _ h => h.autoOff))
  | autoHeartbeat => exact h.live (fun _ h => h.autoHeartbeat)
  | gafferMeterRead => exact .done (h.gafferLine (fun _ h => h.unlessBusy (fun _ h => h.gafferMeterRead)))
  | gafferMeterOff => exact .done (h.gafferLine (fun _ h => h.unlessBusy (fun _ h => h.gafferMeterOff)))
  | meterCheckTimeout => exact h.live (fun _ h => h.meterTimeout)
  | gafferSnapSolve => exact .done (h.gafferLine (fun _ h => h.unlessBusy (fun _ h => h.gafferSolve)))
  | gafferSnapRead => exact .done (h.gafferLine (fun _ h => h.unlessBusy (fun _ h => h.gafferSnapRead)))
  | gafferJas => exact .done (h.gafferLine (fun _ h => h.setReply))
  | gafferJasRefresh => exact .done (h.gafferLine (fun _ h => h.gafferJas))
  | gafferJasOff => exact .done (h.gafferLine (fun _ h => h.gafferJas))
  | jasperExpiry => exact h.live (fun _ h => h.jasperExpiry)
  | baseHotExit => exact h.live (fun _ h => h.baseCool)
  | utcOffsetChange => exact h.live (fun _ h => h.utcChange)
  | sensorSupplyRestore => exact h.live (fun _ h => h.snsRestore)
  | supervisorRestartEnd => exact h.live (fun _ h => h.supervisorRestartEnd)

theorem idle_canonical (h : Canonical s) : Canonical (idle s) := .ite h h

/-- Settles O59: every operation that a command is made of keeps the canonical form, and an idle step writes neither. -/
theorem stepsKeepRegistersAndMemoriesCanonical : Obligations.StepsKeepRegistersAndMemoriesCanonical := by
  unfold Obligations.StepsKeepRegistersAndMemoriesCanonical
  intro s t hRegs hMem hStep
  have h : Canonical s := ⟨hRegs, hMem⟩
  unfold step at hStep
  split at hStep
  · exact Host.Outcome.next.inj hStep ▸ idle_canonical h
  · exact exec_endsCanonical _ h.keep t hStep

end Sys2Proof.Proofs
end

section
/-! SUPPORT. A write of a whole register without image bits: the word that it leaves, the checks that it meets, what an accepted
and a refused one change (R86, R100, R104, R107). -/
namespace Sys2Proof.Proofs
open Sys2Proof.Machine

/-! What a transaction of one master changes before its access. -/

/-- Nothing but master m's unlock differs. -/
def onlyUnlock (s t : State) (m : Master) : Prop := keeps s t [.unlock] ∧ onlyUnlockOf s t m

theorem onlyUnlock_refl (s : State) (m : Master) : onlyUnlock s s m := ⟨keeps_refl s _, fun _ _ => rfl⟩

theorem onlyUnlock_trans {s t u : State} {m : Master} (h : onlyUnlock s t m) (h' : onlyUnlock t u m) : onlyUnlock s u m := by
  obtain ⟨hKeep, hUnlock⟩ := h
  obtain ⟨hKeep', hUnlock'⟩ := h'
  exact ⟨fun p hp => same_trans (hKeep p hp) (hKeep' p hp), fun n hn => (hUnlock' n hn).trans (hUnlock n hn)⟩

theorem onlyUnlock_beginTx (m : Master) (s : State) : onlyUnlock s (beginTx m s) m :=
  ⟨fun p hp => (beginTx_same m s hp).mpr (Part.same_refl p s), fun n hn => unlockOf_beginTx m n s hn⟩

theorem onlyUnlock_setUnlock (m : Master) (u : Unlock) (s : State) : onlyUnlock s (setUnlock m u s) m :=
  ⟨fun p hp => (setUnlock_same m u s hp).mpr (Part.same_refl p s), fun n hn => by simp only [unlockOf_setUnlock, if_neg hn]⟩

/-- Nothing that a read sees differs but master m's unlock: the register table may be written again with what it holds. -/
def readsAlike (s t : State) (m : Master) : Prop :=
  (∀ a, rd t a = rd s a) ∧ keeps s t [.regs, .unlock] ∧ onlyUnlockOf s t m

theorem onlyUnlock.readsAlike {s t : State} {m : Master} (h : onlyUnlock s t m) : readsAlike s t m := by
  obtain ⟨hKeep, hUnlock⟩ := h
  have hRegs : t.regs = s.regs := hKeep .regs (by decide)
  exact ⟨fun a => rd_congr hRegs a, fun p hp => hKeep p (fun h => hp (List.mem_cons_of_mem _ h)), hUnlock⟩

theorem readsAlike_trans {s t u : State} {m : Master} (h : readsAlike s t m) (h' : readsAlike t u m) : readsAlike s u m := by
  obtain ⟨hRd, hKeep, hUnlock⟩ := h
  obtain ⟨hRd', hKeep', hUnlock'⟩ := h'
  exact ⟨fun a => (hRd' a).trans (hRd a), fun p hp => same_trans (hKeep p hp) (hKeep' p hp), fun n hn => (hUnlock' n hn).trans (hUnlock n hn)⟩

theorem readsAlike_wr {s : State} {a : Nat} {w : Word} (h : rd s a = w) (m : Master) : readsAlike s (wr s a w) m := by
  refine ⟨fun b => ?_, fun p hp => (wr_same s a w (by simp at hp ⊢; exact hp.1)).mpr (Part.same_refl p s), fun _ _ => rfl⟩
  by_cases hb : b = a
  · rw [hb, rd_wr_same, h]
  · exact rd_wr_other s a b w hb

section
variable {s t : State} {m : Master} (h : readsAlike s t m)
include h

theorem readsAlike.rd (a : Nat) : rd t a = rd s a := h.1 a
theorem readsAlike.part (p : Part) (hp : p ∉ [.regs, .unlock]) : p.same s t := h.2.1 p hp
theorem readsAlike.fget (f : Fld) : fget t f = fget s f := fget_of_rd (h.rd f.reg)
theorem readsAlike.flag (f : Fld) : flag t f = flag s f := flag_of_rd (h.rd f.reg)
theorem readsAlike.ownerCode : ownerCode t = ownerCode s := h.fget _
theorem readsAlike.handoverPending : handoverPending t = handoverPending s := h.flag _
theorem readsAlike.start : t.start = s.start := h.part .start (by decide)
theorem readsAlike.mtime : t.mtime = s.mtime := h.part .mtime (by decide)
theorem readsAlike.svc : t.svc = s.svc := h.part .svc (by decide)
theorem readsAlike.sup : t.sup = s.sup := h.part .sup (by decide)
theorem readsAlike.nv : t.nv = s.nv := h.part .nv (by decide)
theorem readsAlike.own : t.own = s.own := h.part .own (by decide)

theorem readsAlike.acc : t.acc = { s.acc with unlock := t.acc.unlock } := by
  have hMbx : t.acc.mbx = s.acc.mbx := h.part .mbx (by decide)
  obtain ⟨hSession, hKeyed, hQueued, hStored, hDone⟩ : Part.access.same s t := h.part .access (by decide)
  simp only [← hMbx, ← hSession, ← hKeyed, ← hQueued, ← hStored, ← hDone]

theorem readsAlike.running : running t = running s := by
  simp only [Machine.running, powered, phase, h.fget, h.start, h.sup]

theorem readsAlike.sysHeld : sysHeld t = sysHeld s := by simp only [Machine.sysHeld, h.start, h.mtime]

theorem readsAlike.domainOff (d : Domain) : domainOff t d = domainOff s d := by
  cases d <;> simp only [Machine.domainOff, h.sysHeld, h.start, bench, h.sup]

theorem readsAlike.reachable (hReach : reachable s) : reachable t := by
  obtain ⟨hRun, hHeld, hMeter⟩ := hReach
  exact ⟨h.running.trans hRun, h.sysHeld.trans hHeld, fun hEnd => h.ownerCode.trans (hMeter (h.svc ▸ hEnd))⟩

theorem readsAlike.mayWrite (n : Master) (c : WriteCtx) (b : Nat) : mayWrite t n c b = mayWrite s n c b := by
  simp only [Machine.mayWrite, h.ownerCode, h.handoverPending, h.fget]

end

/-! What an accepted and a refused write are to the state before the transaction. -/

theorem accepts_of_readsAlike {s u v : State} {m : Master} {r : List Nat} {parts : List Part} (hTx : readsAlike s u m)
    (hRegs : keepsRegs u v r) (hKeep : keeps u v ([.regs, .unlock] ++ parts)) (hUnlock : onlyUnlockOf u v m) :
    accepts s (setReply (.okValue .ok []) v) m r parts := by
  refine ⟨rfl, fun a ha => (hRegs a ha).trans (hTx.rd a), fun p hp => ?_, fun n hn => ?_⟩
  · simp only [List.mem_append, List.mem_cons, List.not_mem_nil, or_false, not_or] at hp
    obtain ⟨⟨hpRegs, hpReply, hpUnlock⟩, hpParts⟩ := hp
    refine (setReply_same _ _ (by simpa using hpReply)).mpr (same_trans (hTx.part p (by simp [hpRegs, hpUnlock])) (hKeep p ?_))
    simp [hpRegs, hpUnlock, hpParts]
  · obtain ⟨-, -, hTxUnlock⟩ := hTx
    exact (hUnlock n hn).trans (hTxUnlock n hn)

theorem keeps_mono {s t : State} {l l' : List Part} (h : keeps s t l) (hSub : l ⊆ l') : keeps s t l' :=
  fun p hp => h p (fun hIn => hp (hSub hIn))

theorem keeps_trans {s t u : State} {l : List Part} (h : keeps s t l) (h' : keeps t u l) : keeps s u l :=
  fun p hp => same_trans (h p hp) (h' p hp)

theorem changesOnly_refl (s : State) (r : List Nat) (parts : List Part) : changesOnly s s r parts := ⟨keepsRegs_refl s r, keeps_refl s _⟩

theorem changesOnly_trans {s t u : State} {r : List Nat} {parts : List Part} (h : changesOnly s t r parts) (h' : changesOnly t u r parts) :
    changesOnly s u r parts := ⟨keepsRegs_trans h.1 h'.1, keeps_trans h.2 h'.2⟩

theorem changesOnly_mono {s t : State} {r r' : List Nat} {parts parts' : List Part} (h : changesOnly s t r parts) (hRegs : r ⊆ r')
    (hParts : parts ⊆ parts') : changesOnly s t r' parts' :=
  ⟨keepsRegs_mono h.1 hRegs, keeps_mono h.2 (List.cons_subset_cons _ hParts)⟩

theorem part_of_changesOnly {s t : State} {r : List Nat} {parts : List Part} (h : changesOnly s t r parts) (p : Part)
    (hp : p ∉ .regs :: parts) : p.same s t := h.2 p hp

theorem unlockOf_of_same {s t : State} (h : Part.unlock.same s t) (n : Master) : unlockOf t n = unlockOf s n :=
  congrArg (fun l => tabGet (fun _ => Unlock.no) l n.num) h

/-- An accepted write, by what its effect changes. -/
theorem accepts_write {s v w : State} {m : Master} {r : List Nat} {parts : List Part} (hTx : readsAlike s v m)
    (h : changesOnly v w r parts) (hUnlock : .unlock ∉ Part.regs :: parts) : accepts s (setReply (.okValue .ok []) w) m r parts :=
  accepts_of_readsAlike hTx h.1 (keeps_mono h.2 (by intro p hp; simp at hp ⊢; tauto))
    fun n _ => unlockOf_of_same (part_of_changesOnly h .unlock hUnlock) n

/-- An accepted write whose unlock ends or begins with it. -/
theorem accepts_unlock {s v w : State} {m : Master} {r : List Nat} {parts : List Part} (hTx : readsAlike s v m)
    (h : changesOnly v w r parts) (hUnlock : .unlock ∉ Part.regs :: parts) (l : Unlock) :
    accepts s (setReply (.okValue .ok []) (setUnlock m l w)) m r parts := by
  refine accepts_of_readsAlike hTx h.1 (keeps_trans (keeps_mono h.2 (by intro p hp; simp at hp ⊢; tauto)) ?_) fun n hn => ?_
  · exact keeps_mono (onlyUnlock_setUnlock m l w).1 (by simp)
  · exact ((onlyUnlock_setUnlock m l w).2 n hn).trans (unlockOf_of_same (part_of_changesOnly h .unlock hUnlock) n)

@[simp] theorem fget_setReply (r : Reply) (s : State) (f : Fld) : fget (setReply r s) f = fget s f := rfl
@[simp] theorem flag_setReply (r : Reply) (s : State) (f : Fld) : flag (setReply r s) f = flag s f := rfl
@[simp] theorem fget_setUnlock (m : Master) (l : Unlock) (s : State) (f : Fld) : fget (setUnlock m l s) f = fget s f := rfl
@[simp] theorem flag_setUnlock (m : Master) (l : Unlock) (s : State) (f : Fld) : flag (setUnlock m l s) f = flag s f := rfl
@[simp] theorem unlockOf_setReply (r : Reply) (s : State) (m : Master) : unlockOf (setReply r s) m = unlockOf s m := rfl

theorem unlockOf_setUnlock_same (m : Master) (u : Unlock) (s : State) : unlockOf (setUnlock m u s) m = u := by
  rw [unlockOf_setUnlock, if_pos rfl]

theorem unlockOf_refuse (m n : Master) (w : Bool) (a : Nat) (e : Err) (d : Word) (s : State) :
    unlockOf (refuse m w a e d s) n = unlockOf s n := by
  have hSame : (refuse m w a e d s).acc.unlock = s.acc.unlock :=
    (refuse_same (pt := .unlock) (s₀ := s) m w a e d s (by decide)).mpr rfl
  simp only [unlockOf, hSame]

theorem refuses_of_readsAlike {s u v : State} {m : Master} {e : Err} (hTx : readsAlike s u m) (hRegs : keepsRegs u v (errorRegs m))
    (hKeep : keeps u v [.regs, .unlock, .events]) (hUnlock : onlyUnlockOf u v m) : refuses s (setReply (.okValue e []) v) m e := by
  refine ⟨rfl, fun a ha => (hRegs a ha).trans (hTx.rd a), fun p hp => ?_, fun n hn => ?_⟩
  · simp only [List.mem_cons, List.not_mem_nil, or_false, not_or] at hp
    obtain ⟨hpRegs, hpReply, hpUnlock, hpEvents⟩ := hp
    refine (setReply_same _ _ (by simpa using hpReply)).mpr (same_trans (hTx.part p (by simp [hpRegs, hpUnlock])) (hKeep p ?_))
    simp [hpRegs, hpUnlock, hpEvents]
  · obtain ⟨-, -, hTxUnlock⟩ := hTx
    exact (hUnlock n hn).trans (hTxUnlock n hn)

theorem keeps_refuse (m : Master) (w : Bool) (a : Nat) (e : Err) (d : Word) (s : State) :
    keeps s (refuse m w a e d s) [.regs, .events] := fun p hp => (refuse_same m w a e d s hp).mpr (Part.same_refl p s)

theorem keepsRegs_refuse (m : Master) (w : Bool) (a : Nat) (e : Err) (d : Word) (s : State) :
    keepsRegs s (refuse m w a e d s) (errorRegs m) := fun b hb => rd_refuse m w a e d s b hb

/-- A refusal after which the unlock may end. -/
theorem refuses_refuse {s u : State} {m : Master} (hTx : readsAlike s u m) (w : Bool) (a : Nat) (e : Err) (d : Word) :
    refuses s (setReply (.okValue e []) (refuse m w a e d u)) m e :=
  refuses_of_readsAlike hTx (keepsRegs_refuse m w a e d u) (keeps_mono (keeps_refuse m w a e d u) (by decide)) fun n _ => unlockOf_refuse m n w a e d u

theorem refuses_refuse_unlock {s u : State} {m : Master} (hTx : readsAlike s u m) (w : Bool) (a : Nat) (e : Err) (d : Word)
    (l : Unlock) : refuses s (setReply (.okValue e []) (setUnlock m l (refuse m w a e d u))) m e :=
  refuses_of_readsAlike hTx (keepsRegs_refuse m w a e d u)
    (keeps_trans (keeps_mono (keeps_refuse m w a e d u) (by decide)) (keeps_mono (onlyUnlock_setUnlock m l _).1 (by decide)))
    fun n hn => ((onlyUnlock_setUnlock m l _).2 n hn).trans (unlockOf_refuse m n w a e d u)

/-! The write that reaches a register without image bits. -/

/-- The word that a write of register h at address a starts from. -/
def oldWord (r : RegRule) (m : Master) (h : RegHit) (a : Nat) (s : State) : Word :=
  if r.stores = true then rd s a else r.view s m h.idx (rd s a)

/-- The write of a whole register without image bits. -/
def wholeCtx (r : RegRule) (m : Master) (h : RegHit) (a : Nat) (data : Word) (s : State) : WriteCtx :=
  { m := m, idx := h.idx, addr := a, data := data, sel := BitVec.allOnes 32, old := oldWord r m h a s
    new := writtenWord h.fam.fields (oldWord r m h a s) data, cmds := data &&& typeMask .w1s h.fam.fields }

section
variable {h : RegHit} (hImage : imageMask h.fam = 0)
include hImage

theorem baseWord_of_noImage (s : State) (a : Nat) : baseWord s h a = rd s a := by
  simp [baseWord, hImage]

theorem stagedBits_of_noImage (s : State) : stagedBits s h = 0#32 := by
  simp [stagedBits, hImage]

theorem writeCtx_whole (r : RegRule) (m : Master) (a : Nat) (data : Word) (s : State) :
    writeCtx r m ⟨h, a, none⟩ data s = wholeCtx r m h a data s := by
  have hSel : selMask ⟨h, a, none⟩ = BitVec.allOnes 32 := rfl
  have hData : spreadData ⟨h, a, none⟩ data = data := rfl
  simp only [writeCtx, wholeCtx, oldWord, viewWord, baseWord_of_noImage hImage, hSel, hData, BitVec.and_allOnes, Option.isNone_none,
    writtenWord]

theorem acts_of_noImage (b : Option Nat) (a : Nat) (c : WriteCtx) (s : State) : acts ⟨h, a, b⟩ c s = true := by
  simp [acts, stagedBits_of_noImage hImage]

theorem activeCtx_of_noImage (b : Option Nat) (a : Nat) (c : WriteCtx) (s : State) : activeCtx ⟨h, a, b⟩ c s = c := by
  simp only [activeCtx, stagedBits_of_noImage hImage, BitVec.not_zero, BitVec.and_allOnes, BitVec.and_zero, BitVec.or_zero]

theorem imageChanged_of_noImage (c : WriteCtx) (s : State) : imageChanged h c s = s := by
  simp [imageChanged, hImage]

/-- Such a write changes the register where its rule stores it, and does what the rule says. -/
theorem applyWrite_of_noImage (r : RegRule) (b : Option Nat) (a : Nat) (c : WriteCtx) (s : State) :
    applyWrite r ⟨h, a, b⟩ c s = meterOver (r.effect c (if r.stores = true then wr s a c.new else s)) := by
  simp [applyWrite, acts_of_noImage hImage, activeCtx_of_noImage hImage, imageChanged_of_noImage hImage,
    stagedBits_of_noImage hImage]

/-- The checks of a whole register, in their order. -/
theorem writeErr_whole (r : RegRule) (m : Master) (a : Nat) (c : WriteCtx) (key : Bool) (s : State) :
    writeErr r m ⟨h, a, none⟩ c key s =
      if domainOff s (domainOf h) = true then .power
      else if allReadOnly h.fam.fields = true then .readonly
      else if mayWrite s m c h.fam.base = false then .owner
      else if ((keyGuarded ⟨h, a, none⟩ c && !key) || keyWrong ⟨h, a, none⟩ c) = true then .key
      else if r.once c s = true then .once
      else if (rangeBad h.fam.fields c.sel c.new || r.value c s) = true then .value
      else if r.state c s = true then .state
      else if r.armed c s = true then .armed
      else .ok := by
  simp [writeErr, acts_of_noImage hImage, activeCtx_of_noImage hImage, aliasTy]

end

theorem rangeBad_of_noRanges {fs : List FieldSpec} (h : fs.all (·.ok.isEmpty) = true) (sel w : Word) : rangeBad fs sel w = false := by
  simp only [rangeBad, List.any_eq_false]
  intro f hf
  have hOk := List.all_eq_true.mp h f hf
  simp [inRanges, hOk]

theorem mayWrite_of_owner {s : State} {m : Master} (h : ownerCode s = m.code) (c : WriteCtx) (b : Nat) : mayWrite s m c b = true := by
  simp [mayWrite, h]

theorem keyGuarded_of_free {p : Place} (hKrw : hasKrw p.hit.fam.fields = false) (hKeyed : keyedMask p.hit.fam.fields = 0#32)
    (c : WriteCtx) : keyGuarded p c = false := by
  simp [keyGuarded, hKrw, hKeyed]

theorem keyWrong_of_base {p : Place} (h : p.hit.fam.base ≠ Reg.KEY_UNLOCK.base) (c : WriteCtx) : keyWrong p c = false := by
  simp [keyWrong, h]

/-- No check refuses a write of a whole register. -/
structure Passes (r : RegRule) (m : Master) (h : RegHit) (a : Nat) (c : WriteCtx) (key : Bool) (s : State) : Prop where
  power : domainOff s (domainOf h) = false
  fields : allReadOnly h.fam.fields = false
  may : mayWrite s m c h.fam.base = true
  guarded : keyGuarded ⟨h, a, none⟩ c = true → key = true
  right : keyWrong ⟨h, a, none⟩ c = false
  once : r.once c s = false
  range : rangeBad h.fam.fields c.sel c.new = false
  value : r.value c s = false
  state : r.state c s = false
  armed : r.armed c s = false

theorem Passes.writeErr {r : RegRule} {m : Master} {h : RegHit} {a : Nat} {c : WriteCtx} {key : Bool} {s : State}
    (hPass : Passes r m h a c key s) (hImage : imageMask h.fam = 0) : writeErr r m ⟨h, a, none⟩ c key s = .ok := by
  have hGuard : (keyGuarded ⟨h, a, none⟩ c && !key) = false := by
    cases hKey : keyGuarded ⟨h, a, none⟩ c with
    | false => rfl
    | true => rw [hPass.guarded hKey]; rfl
  simp [writeErr_whole hImage, hPass.power, hPass.fields, hPass.may, hGuard, hPass.right, hPass.once, hPass.range, hPass.value,
    hPass.state, hPass.armed]

/-- The state on which the checks of a write are made: a write that needs the key ends the unlock (R92). -/
def keySpent (m : Master) (p : Place) (c : WriteCtx) (s : State) : State := if keyGuarded p c = true then setUnlock m .no s else s

theorem onlyUnlock_keySpent (m : Master) (p : Place) (c : WriteCtx) (s : State) : onlyUnlock s (keySpent m p c s) m := by
  unfold keySpent
  split
  · exact onlyUnlock_setUnlock m _ s
  · exact onlyUnlock_refl s m

/-- The state in which a keyed write meets its target: the unlock is held (R94). -/
theorem onlyUnlock_held (m : Master) (s : State) : onlyUnlock s (setUnlock m .held (beginTx m s)) m :=
  onlyUnlock_trans (onlyUnlock_beginTx m s) (onlyUnlock_setUnlock m _ _)

theorem unlocked_setUnlock_held (m : Master) (s : State) : unlocked (setUnlock m .held s) m = true := by
  have hHeld : tabGet (fun _ => Unlock.no) (setUnlock m .held s).acc.unlock m.num = .held := by
    change unlockOf (setUnlock m .held s) m = _
    rw [unlockOf_setUnlock, if_pos rfl]
  simp only [unlocked, hHeld]

/-- What the write that no check refuses leaves, on the state after the checks. -/
def wholeWritten (r : RegRule) (a : Nat) (c : WriteCtx) (s : State) : State :=
  meterOver (r.effect c (if r.stores = true then wr s a c.new else s))

section
variable {r : RegRule} {m : Master} {h : RegHit} {a : Nat} {data : Word} {s : State} (hImage : imageMask h.fam = 0)
include hImage

theorem writePlace_whole_ok (sh : Nat)
    (hPass : ∀ u, onlyUnlock s u m → Passes r m h a (wholeCtx r m h a data s) (unlocked s m) u) :
    ∃ u, onlyUnlock s u m ∧ writePlace r m sh ⟨h, a, none⟩ data s = (.ok, wholeWritten r a (wholeCtx r m h a data s) u) := by
  refine ⟨_, onlyUnlock_keySpent m ⟨h, a, none⟩ (wholeCtx r m h a data s) s, ?_⟩
  rw [writePlace_ok]
  · simp only [writeCtx_whole hImage, applyWrite_of_noImage hImage, wholeWritten, keySpent, aliasIdle, Bool.false_eq_true, if_false]
  · rw [writeCtx_whole hImage]
    exact (hPass _ (onlyUnlock_keySpent m _ _ s)).writeErr hImage

theorem writePlace_whole_err (sh : Nat) {e : Err} (he : e ≠ .ok)
    (hErr : ∀ u, onlyUnlock s u m → writeErr r m ⟨h, a, none⟩ (wholeCtx r m h a data s) (unlocked s m) u = e) :
    ∃ u, onlyUnlock s u m ∧ writePlace r m sh ⟨h, a, none⟩ data s = (e, refuse m true sh e data u) := by
  have hSpent := onlyUnlock_keySpent m ⟨h, a, none⟩ (wholeCtx r m h a data s) s
  have hPlace := writePlace_err r m sh ⟨h, a, none⟩ data s e he (by rw [writeCtx_whole hImage]; exact hErr _ hSpent)
  refine ⟨_, ?_, hPlace⟩
  rw [writeCtx_whole hImage]
  simp only [keySpent] at hSpent
  split
  · exact onlyUnlock_trans hSpent (onlyUnlock_setUnlock m _ _)
  · exact hSpent

/-! Commands that write one register, by its row and with the key. -/

/-- A write that passes its checks is answered OK. -/
theorem rowWrite_ok (hReach : reachable s)
    (hPass : ∀ u, onlyUnlock s u m → Passes r m h a (wholeCtx r m h a data (beginTx m s)) (unlocked (beginTx m s) m) u) :
    ∃ u, onlyUnlock s u m ∧
      rowWrite r m h a data s = setReply (.okValue .ok []) (wholeWritten r a (wholeCtx r m h a data (beginTx m s)) u) := by
  have hTx := onlyUnlock_beginTx m s
  obtain ⟨hRun, hHeld, -⟩ := hReach
  obtain ⟨u, hu, hPlace⟩ := writePlace_whole_ok hImage (sh := a) (fun u hu => hPass u (onlyUnlock_trans hTx hu))
  refine ⟨u, onlyUnlock_trans hTx hu, ?_⟩
  simp only [rowWrite, hRun, hHeld, Bool.not_true, Bool.or_self, Bool.false_eq_true, if_false, hPlace]

theorem rowWrite_err {e : Err} (hReach : reachable s) (he : e ≠ .ok)
    (hErr : ∀ u, onlyUnlock s u m →
      writeErr r m ⟨h, a, none⟩ (wholeCtx r m h a data (beginTx m s)) (unlocked (beginTx m s) m) u = e) :
    refuses s (rowWrite r m h a data s) m e := by
  have hTx := onlyUnlock_beginTx m s
  obtain ⟨hRun, hHeld, -⟩ := hReach
  obtain ⟨u, hu, hPlace⟩ := writePlace_whole_err hImage (sh := a) he (fun u hu => hErr u (onlyUnlock_trans hTx hu))
  simp only [rowWrite, hRun, hHeld, Bool.not_true, Bool.or_self, Bool.false_eq_true, if_false, hPlace]
  exact refuses_refuse (onlyUnlock_trans hTx hu).readsAlike _ _ _ _

theorem rowKeyed_ok (hReach : reachable s)
    (hPass : ∀ u, onlyUnlock s u m → Passes r m h a (wholeCtx r m h a data (setUnlock m .held (beginTx m s))) true u) :
    ∃ u, onlyUnlock s u m ∧ rowKeyed r m 0xB7E1 h a data s = setReply (.okValue .ok [])
      (setUnlock m .no (wholeWritten r a (wholeCtx r m h a data (setUnlock m .held (beginTx m s))) u)) := by
  have hTx := onlyUnlock_held m s
  obtain ⟨u, hu, hPlace⟩ := writePlace_whole_ok hImage (sh := a) (fun u hu => by
    rw [unlocked_setUnlock_held]
    exact hPass u (onlyUnlock_trans hTx hu))
  refine ⟨u, onlyUnlock_trans hTx hu, ?_⟩
  simp only [rowKeyed, keyedWith_key m a data _ _ ((onlyUnlock_beginTx m s).readsAlike.reachable hReach), hPlace]

theorem rowKeyed_err {e : Err} (hReach : reachable s) (he : e ≠ .ok)
    (hErr : ∀ u, onlyUnlock s u m →
      writeErr r m ⟨h, a, none⟩ (wholeCtx r m h a data (setUnlock m .held (beginTx m s))) true u = e) :
    refuses s (rowKeyed r m 0xB7E1 h a data s) m e := by
  have hTx := onlyUnlock_held m s
  obtain ⟨u, hu, hPlace⟩ := writePlace_whole_err hImage (sh := a) he (fun u hu => by
    rw [unlocked_setUnlock_held]
    exact hErr u (onlyUnlock_trans hTx hu))
  simp only [rowKeyed, keyedWith_key m a data _ _ ((onlyUnlock_beginTx m s).readsAlike.reachable hReach), hPlace]
  exact refuses_refuse_unlock (onlyUnlock_trans hTx hu).readsAlike _ _ _ _ _

end

theorem rowKeyed_wrongKey {s : State} (hReach : reachable s) {m : Master} {key : BitVec 16} (hKey : key ≠ 0xB7E1) (r : RegRule)
    (h : RegHit) (a : Nat) (data : Word) :
    let t := rowKeyed r m key h a data s
    refuses s t m .key ∧ unlockOf t m = .no := by
  have hTx := onlyUnlock_beginTx m s
  simp only [rowKeyed, keyedWith_wrong m key a data _ _ (hTx.readsAlike.reachable hReach) hKey]
  refine ⟨refuses_refuse (onlyUnlock_trans hTx (onlyUnlock_setUnlock m _ _)).readsAlike _ _ _ _, ?_⟩
  simp only [unlockOf, setReply_acc]
  change unlockOf (refuse _ _ _ _ _ _) m = _
  rw [unlockOf_refuse, unlockOf_setUnlock, if_pos rfl]

/-! Registers that their rules store: the write starts from the word that the register holds, and a register of commands keeps it. -/

theorem wholeCtx_congr {r : RegRule} (hStores : r.stores = true) {s t : State} {n : Master} (hAlike : readsAlike s t n) (m : Master)
    (h : RegHit) (a : Nat) (data : Word) : wholeCtx r m h a data t = wholeCtx r m h a data s := by
  simp only [wholeCtx, oldWord, hStores, if_true, hAlike.rd]

theorem writtenWord_of_commands {fs : List FieldSpec} (hLoad : loadMask true fs = 0#32) (hClear : typeMask .w1c fs = 0#32)
    (old d : Word) : writtenWord fs old d = old := by
  simp only [writtenWord, hLoad, hClear, BitVec.and_zero, BitVec.not_zero, BitVec.and_allOnes, BitVec.or_zero]

section
variable {r : RegRule} {m : Master} {h : RegHit} {a : Nat} {data : Word} {s : State} (hImage : imageMask h.fam = 0)
  (hStores : r.stores = true)
include hImage hStores

omit hImage in
/-- A register of commands does what its rule says, and is written again with its word. -/
theorem wholeWritten_command (hLoad : loadMask true h.fam.fields = 0#32) (hClear : typeMask .w1c h.fam.fields = 0#32) {u : State}
    (hu : readsAlike s u m) : ∃ v, readsAlike s v m ∧
      wholeWritten r a (wholeCtx r m h a data s) u = meterOver (r.effect (wholeCtx r m h a data s) v) := by
  have hNew : (wholeCtx r m h a data s).new = rd s a := by
    simp only [wholeCtx, writtenWord_of_commands hLoad hClear, oldWord, hStores, if_true]
  refine ⟨wr u a (rd s a), readsAlike_trans hu (readsAlike_wr (hu.rd a) m), ?_⟩
  simp only [wholeWritten, hStores, if_true, hNew]

theorem rowWrite_command (hLoad : loadMask true h.fam.fields = 0#32) (hClear : typeMask .w1c h.fam.fields = 0#32)
    (hReach : reachable s) (hPass : ∀ u key, readsAlike s u m → Passes r m h a (wholeCtx r m h a data s) key u) :
    ∃ v, readsAlike s v m ∧
      rowWrite r m h a data s = setReply (.okValue .ok []) (meterOver (r.effect (wholeCtx r m h a data s) v)) := by
  have hCtx := wholeCtx_congr hStores (onlyUnlock_beginTx m s).readsAlike m h a data
  obtain ⟨u, hu, hRow⟩ := rowWrite_ok hImage (data := data) hReach (fun u hu => by rw [hCtx]; exact hPass u _ hu.readsAlike)
  obtain ⟨v, hv, hWritten⟩ := wholeWritten_command hStores hLoad hClear (a := a) (data := data) hu.readsAlike
  exact ⟨v, hv, by rw [hRow, hCtx, hWritten]⟩

theorem rowKeyed_command (hLoad : loadMask true h.fam.fields = 0#32) (hClear : typeMask .w1c h.fam.fields = 0#32)
    (hReach : reachable s) (hPass : ∀ u, readsAlike s u m → Passes r m h a (wholeCtx r m h a data s) true u) :
    ∃ v, readsAlike s v m ∧ rowKeyed r m 0xB7E1 h a data s =
      setReply (.okValue .ok []) (setUnlock m .no (meterOver (r.effect (wholeCtx r m h a data s) v))) := by
  have hCtx := wholeCtx_congr hStores (onlyUnlock_held m s).readsAlike m h a data
  obtain ⟨u, hu, hRow⟩ := rowKeyed_ok hImage (data := data) hReach (fun u hu => by rw [hCtx]; exact hPass u hu.readsAlike)
  obtain ⟨v, hv, hWritten⟩ := wholeWritten_command hStores hLoad hClear (a := a) (data := data) hu.readsAlike
  exact ⟨v, hv, by rw [hRow, hCtx, hWritten]⟩

theorem rowWrite_refused {e : Err} (hReach : reachable s) (he : e ≠ .ok)
    (hErr : ∀ u key, readsAlike s u m → writeErr r m ⟨h, a, none⟩ (wholeCtx r m h a data s) key u = e) :
    refuses s (rowWrite r m h a data s) m e :=
  rowWrite_err hImage hReach he fun u hu => by
    rw [wholeCtx_congr hStores (onlyUnlock_beginTx m s).readsAlike]
    exact hErr u _ hu.readsAlike

theorem rowKeyed_refused {e : Err} (hReach : reachable s) (he : e ≠ .ok)
    (hErr : ∀ u, readsAlike s u m → writeErr r m ⟨h, a, none⟩ (wholeCtx r m h a data s) true u = e) :
    refuses s (rowKeyed r m 0xB7E1 h a data s) m e :=
  rowKeyed_err hImage hReach he fun u hu => by
    rw [wholeCtx_congr hStores (onlyUnlock_held m s).readsAlike]
    exact hErr u hu.readsAlike

end

/-- A meter check goes on after an effect that leaves it and the ownership. -/
theorem meterOver_of_changes {s u v : State} {m : Master} {r : List Nat} {parts : List Part} (hReach : reachable s)
    (hu : readsAlike s u m) (h : changesOnly u v r parts) (hOwn : A.OWN_STAT ∉ r) (hSvc : .svc ∉ Part.regs :: parts) :
    meterOver v = v := by
  obtain ⟨-, -, hMeter⟩ := hu.reachable hReach
  exact meterOver_of_same hMeter (part_of_changesOnly h .svc hSvc) (h.1 _ hOwn)

end Sys2Proof.Proofs
end

section
/-! SUPPORT. KEY_UNLOCK and its expiry, the words of OEM_KEY_HASH and their commit (R91 to R97). -/
namespace Sys2Proof.Proofs
open Sys2Proof.Machine

/-! KEY_UNLOCK (R91, R93). -/

theorem keyUnlock_fields : imageMask Reg.KEY_UNLOCK = 0 ∧ allReadOnly Reg.KEY_UNLOCK.fields = false ∧ hasKrw Reg.KEY_UNLOCK.fields = false ∧
    keyedMask Reg.KEY_UNLOCK.fields = 0#32 ∧ Reg.KEY_UNLOCK.fields.all (·.ok.isEmpty) = true ∧
    typeMask .w1s Reg.KEY_UNLOCK.fields = 0xFFFF#32 := by decide

/-- The write of KEY_UNLOCK that reaches the register. -/
def keyUnlockCtx (m : Master) (data : Word) (s : State) : WriteCtx := wholeCtx ruleKeyUnlock m ⟨Reg.KEY_UNLOCK, []⟩ A.KEY_UNLOCK data s

theorem keyUnlock_guarded (m : Master) (data : Word) (s : State) :
    keyGuarded ⟨⟨Reg.KEY_UNLOCK, []⟩, A.KEY_UNLOCK, none⟩ (keyUnlockCtx m data s) = false := by
  obtain ⟨-, -, hKrw, hKeyed, -⟩ := keyUnlock_fields
  exact keyGuarded_of_free hKrw hKeyed _

theorem keyUnlock_wrong (m : Master) (data : Word) (s : State) :
    keyWrong ⟨⟨Reg.KEY_UNLOCK, []⟩, A.KEY_UNLOCK, none⟩ (keyUnlockCtx m data s) = decide (data.toNat % 65536 ≠ 0xB7E1) := by
  simp only [keyWrong, keyUnlockCtx, wholeCtx, beq_self_eq_true, Bool.true_and, Option.isNone_none, if_true]
  exact decide_eq_decide.mpr Iff.rfl

theorem keyUnlock_commands {m : Master} {data : Word} (hKey : data.toNat % 65536 = 0xB7E1) (s : State) :
    (keyUnlockCtx m data s).cmds ≠ 0 := by
  obtain ⟨-, -, -, -, -, hMask⟩ := keyUnlock_fields
  intro hZero
  have hAnd : data &&& 0xFFFF#32 = 0 := by simpa [keyUnlockCtx, wholeCtx, hMask] using hZero
  have hNat := congrArg BitVec.toNat hAnd
  rw [BitVec.toNat_and, show (0xFFFF#32).toNat = 2 ^ 16 - 1 from rfl, Nat.and_two_pow_sub_one_eq_mod] at hNat
  simp only [Nat.reducePow, hKey] at hNat
  exact absurd hNat (by decide)

/-- With its right value the write opens the lock for 1 µs. -/
theorem keyUnlock_right {m : Master} {data : Word} {s : State} (hReach : reachable s) (hKey : data.toNat % 65536 = 0xB7E1) :
    ∃ u, onlyUnlock s u m ∧ rowWrite ruleKeyUnlock m ⟨Reg.KEY_UNLOCK, []⟩ A.KEY_UNLOCK data s =
      setReply (.okValue .ok []) (setUnlock m (.till (s.mtime + us)) u) := by
  obtain ⟨hImage, hFields, -, -, hRanges, -⟩ := keyUnlock_fields
  obtain ⟨-, hHeld, -⟩ := id hReach
  obtain ⟨u, hu, hRow⟩ := rowWrite_ok (r := ruleKeyUnlock) (h := ⟨Reg.KEY_UNLOCK, []⟩) (a := A.KEY_UNLOCK) (data := data) (m := m)
    hImage hReach fun u hu =>
    { power := hu.readsAlike.sysHeld.trans hHeld
      fields := hFields
      may := by simp [mayWrite]
      guarded := fun hGuard => absurd ((keyUnlock_guarded m data (beginTx m s)).symm.trans hGuard) (by decide)
      right := (keyUnlock_wrong m data (beginTx m s)).trans (by simp [hKey])
      once := rfl
      range := rangeBad_of_noRanges hRanges _ _
      value := rfl
      state := rfl
      armed := rfl }
  refine ⟨u, hu, ?_⟩
  have hEffect : ruleKeyUnlock.effect (keyUnlockCtx m data (beginTx m s)) u = setUnlock m (.till (s.mtime + us)) u := by
    simp only [ruleKeyUnlock, if_neg (keyUnlock_commands hKey (beginTx m s)), hu.readsAlike.mtime]
    rfl
  have hMeter : meterOver (setUnlock m (.till (s.mtime + us)) u) = setUnlock m (.till (s.mtime + us)) u :=
    meterOver_of_same (hu.readsAlike.reachable hReach).2.2 rfl rfl
  rw [hRow]
  exact congrArg _ ((congrArg meterOver hEffect).trans hMeter)

/-- With another value it is refused with KEY and shuts the lock. -/
theorem keyUnlock_refused {m : Master} {data : Word} {s : State} (hReach : reachable s) (hKey : data.toNat % 65536 ≠ 0xB7E1) :
    let t := rowWrite ruleKeyUnlock m ⟨Reg.KEY_UNLOCK, []⟩ A.KEY_UNLOCK data s
    refuses s t m .key ∧ unlockOf t m = .no := by
  intro t
  obtain ⟨hImage, hFields, -, -, hRanges, -⟩ := keyUnlock_fields
  obtain ⟨hRun, hHeld, -⟩ := id hReach
  have hTx := onlyUnlock_beginTx m s
  have hErr (key : Bool) : writeErr ruleKeyUnlock m ⟨⟨Reg.KEY_UNLOCK, []⟩, A.KEY_UNLOCK, none⟩ (keyUnlockCtx m data (beginTx m s)) key
      (beginTx m s) = .key := by
    have hPower : domainOff (beginTx m s) (domainOf ⟨Reg.KEY_UNLOCK, []⟩) = false := hTx.readsAlike.sysHeld.trans hHeld
    have hMay : mayWrite (beginTx m s) m (keyUnlockCtx m data (beginTx m s)) Reg.KEY_UNLOCK.base = true := by simp [mayWrite]
    simp [writeErr_whole (h := ⟨Reg.KEY_UNLOCK, []⟩) hImage, hPower, hFields, hMay, keyUnlock_wrong, hKey]
  have hPlace := writePlace_err ruleKeyUnlock m A.KEY_UNLOCK ⟨⟨Reg.KEY_UNLOCK, []⟩, A.KEY_UNLOCK, none⟩ data (beginTx m s) .key (by decide)
    (by rw [writeCtx_whole (h := ⟨Reg.KEY_UNLOCK, []⟩) hImage, ← keyUnlockCtx, keyUnlock_guarded]; exact hErr _)
  rw [writeCtx_whole (h := ⟨Reg.KEY_UNLOCK, []⟩) hImage, ← keyUnlockCtx, keyUnlock_guarded, keyUnlock_wrong] at hPlace
  have hRow : t = setReply (.okValue .key []) (refuse m true A.KEY_UNLOCK .key data (setUnlock m .no (beginTx m s))) := by
    simp [t, rowWrite, hRun, hHeld, hPlace, hKey]
  rw [hRow]
  refine ⟨refuses_refuse (onlyUnlock_trans hTx (onlyUnlock_setUnlock m _ _)).readsAlike _ _ _ _, ?_⟩
  change unlockOf (refuse _ _ _ _ _ _) m = _
  rw [unlockOf_refuse, unlockOf_setUnlock, if_pos rfl]

/-! UNLOCK_EXPIRY (R92). -/

theorem unlockExpiry_of_till {m : Master} {s : State} {e : Nat} (h : unlockOf s m = .till e) :
    unlockExpiry m s = setUnlock m .no (atTime (e + 1) s) := by
  simp only [unlockOf] at h
  simp only [unlockExpiry, h]

theorem unlockExpiry_clause {m : Master} {s : State} {e : Nat} (h : unlockOf s m = .till e) :
    let t := unlockExpiry m s
    keeps s t [.mtime, .unlock] ∧ onlyUnlockOf s t m ∧ unlockOf t m = .no ∧ t.mtime = max s.mtime (e + 1) := by
  rw [unlockExpiry_of_till h]
  refine ⟨fun p hp => ?_, fun n hn => by simp only [unlockOf_setUnlock, if_neg hn]; rfl, by simp only [unlockOf_setUnlock, if_true], rfl⟩
  simp only [List.mem_cons, List.not_mem_nil, or_false, not_or] at hp
  obtain ⟨hpTime, hpUnlock⟩ := hp
  exact (setUnlock_same _ _ _ (by simpa using hpUnlock)).mpr ((atTime_same _ _ (by simpa using hpTime)).mpr (Part.same_refl p s))

/-! The words of OEM_KEY_HASH (R95, R96). -/

theorem oemHash_fields : imageMask Reg.OEM_KEY_HASH = 0 ∧ allReadOnly Reg.OEM_KEY_HASH.fields = false ∧
    hasKrw Reg.OEM_KEY_HASH.fields = false ∧ keyedMask Reg.OEM_KEY_HASH.fields = 0#32 ∧
    Reg.OEM_KEY_HASH.fields.all (·.ok.isEmpty) = true ∧ loadMask true Reg.OEM_KEY_HASH.fields = BitVec.allOnes 32 ∧
    typeMask .w1c Reg.OEM_KEY_HASH.fields = 0#32 := by decide

/-- The word of OEM_KEY_HASH that is in force: the stored one once LOCKED, and the staged one before. -/
def hashWord (s : State) (k : Nat) : Word :=
  if flag s F.OEM_KEY_CTRL_LOCKED = true then s.nv.oemHash.getD k 0 else rd s (A.OEM_KEY_HASH k)

theorem hashWord_congr {s t : State} {m : Master} (h : readsAlike s t m) (k : Nat) : hashWord t k = hashWord s k := by
  simp only [hashWord, h.flag, h.nv, h.rd]

theorem writtenWord_hash (old d : Word) : writtenWord Reg.OEM_KEY_HASH.fields old d = d := by
  obtain ⟨-, -, -, -, -, hLoad, hClear⟩ := oemHash_fields
  simp only [writtenWord, hLoad, hClear, BitVec.and_zero, BitVec.not_zero, BitVec.and_allOnes, BitVec.not_allOnes, BitVec.zero_or]

/-- What a write of word i leaves: the staged word while the hash is open. -/
def hashStored (i : Fin 8) (data : Word) (s : State) : State :=
  if flag s F.OEM_KEY_CTRL_LOCKED = true then s else wr s (A.OEM_KEY_HASH i) data

theorem hashStored_changes (i : Fin 8) (data : Word) (s : State) : changesOnly s (hashStored i data s) [A.OEM_KEY_HASH i] [] := by
  unfold hashStored
  split
  · exact changesOnly_refl s _ _
  · exact ⟨keepsRegs_wr (List.mem_singleton_self _) s _, fun p hp => (wr_same s _ _ hp).mpr (Part.same_refl p s)⟩

theorem hashWord_hashStored {i : Fin 8} {data : Word} {s : State}
    (h : flag s F.OEM_KEY_CTRL_LOCKED = false ∨ data = hashWord s i) : hashWord (hashStored i data s) i = data := by
  cases hLocked : flag s F.OEM_KEY_CTRL_LOCKED with
  | true =>
    have hSame : data = hashWord s i := h.resolve_left (by simp [hLocked])
    simp only [hashStored, hLocked, if_true, hSame]
  | false =>
    have hApart : A.OEM_KEY_CTRL ≠ A.OEM_KEY_HASH i := by simp only [A.OEM_KEY_CTRL, A.OEM_KEY_HASH]; omega
    have hFlag : flag (wr s (A.OEM_KEY_HASH i) data) F.OEM_KEY_CTRL_LOCKED = false :=
      (flag_of_rd (rd_wr_other s _ _ data hApart)).trans hLocked
    simp only [hashStored, hLocked, Bool.false_eq_true, if_false, hashWord, hFlag, rd_wr_same]

section
variable {m : Master} {i : Fin 8} {data : Word} {s : State} (hMay : mayCommand s m)
include hMay

theorem rowWrite_hash_ok (h : flag s F.OEM_KEY_CTRL_LOCKED = false ∨ data = hashWord s i) :
    let t := rowWrite ruleHash m ⟨Reg.OEM_KEY_HASH, [i.val]⟩ (A.OEM_KEY_HASH i.val) data s
    accepts s t m [A.OEM_KEY_HASH i] [] ∧ hashWord t i = data := by
  obtain ⟨hImage, hFields, hKrw, hKeyed, hRanges, -⟩ := oemHash_fields
  obtain ⟨hReach, hOwner⟩ := hMay
  obtain ⟨-, hHeld, -⟩ := id hReach
  have hTx := (onlyUnlock_beginTx m s).readsAlike
  obtain ⟨u, hu, hRow⟩ := rowWrite_ok (r := ruleHash) (h := ⟨Reg.OEM_KEY_HASH, [i.val]⟩) (a := A.OEM_KEY_HASH i) (data := data) (m := m)
    hImage hReach fun u hu =>
    { power := hu.readsAlike.sysHeld.trans hHeld
      fields := hFields
      may := mayWrite_of_owner (hu.readsAlike.ownerCode.trans hOwner) _ _
      guarded := fun hGuard => absurd ((keyGuarded_of_free hKrw hKeyed _).symm.trans hGuard) (by decide)
      right := keyWrong_of_base (show Reg.OEM_KEY_HASH.base ≠ Reg.KEY_UNLOCK.base by decide) _
      once := by
        change (flag u F.OEM_KEY_CTRL_LOCKED && data != hashWord (beginTx m s) i) = false
        rw [hu.readsAlike.flag, hashWord_congr hTx]
        rcases h with hOpen | hSame
        · simp [hOpen]
        · simp [hSame]
      range := rangeBad_of_noRanges hRanges _ _
      value := rfl
      state := rfl
      armed := rfl }
  have hEffect : ruleHash.effect (wholeCtx ruleHash m ⟨Reg.OEM_KEY_HASH, [i.val]⟩ (A.OEM_KEY_HASH i) data (beginTx m s)) u =
      hashStored i data u := by
    simp only [ruleHash, wholeCtx, writtenWord_hash, hashStored]
  have hChange := hashStored_changes i data u
  have hMeter : meterOver (hashStored i data u) = hashStored i data u :=
    meterOver_of_changes hReach hu.readsAlike hChange (by simp only [List.mem_singleton, A.OWN_STAT, A.OEM_KEY_HASH]; omega) (by decide)
  have hRowEq : rowWrite ruleHash m ⟨Reg.OEM_KEY_HASH, [i.val]⟩ (A.OEM_KEY_HASH i) data s = setReply (.okValue .ok []) (hashStored i data u) := by
    rw [hRow]
    exact congrArg _ ((congrArg meterOver hEffect).trans hMeter)
  simp only [hRowEq]
  refine ⟨accepts_write hu.readsAlike hChange (by decide), hashWord_hashStored ?_⟩
  rwa [hu.readsAlike.flag, hashWord_congr hu.readsAlike]

theorem rowWrite_hash_refused (hLocked : flag s F.OEM_KEY_CTRL_LOCKED = true) (hOther : data ≠ hashWord s i) :
    refuses s (rowWrite ruleHash m ⟨Reg.OEM_KEY_HASH, [i.val]⟩ (A.OEM_KEY_HASH i.val) data s) m .once := by
  obtain ⟨hImage, hFields, hKrw, hKeyed, -⟩ := oemHash_fields
  obtain ⟨hReach, hOwner⟩ := hMay
  obtain ⟨-, hHeld, -⟩ := id hReach
  have hTx := (onlyUnlock_beginTx m s).readsAlike
  refine rowWrite_err (h := ⟨Reg.OEM_KEY_HASH, [i.val]⟩) hImage hReach (by decide) fun u hu => ?_
  have hPower : domainOff u (domainOf ⟨Reg.OEM_KEY_HASH, [i.val]⟩) = false := hu.readsAlike.sysHeld.trans hHeld
  have hMayWrite (c : WriteCtx) := mayWrite_of_owner (hu.readsAlike.ownerCode.trans hOwner) c Reg.OEM_KEY_HASH.base
  have hGuard (c : WriteCtx) := keyGuarded_of_free (p := ⟨⟨Reg.OEM_KEY_HASH, [i.val]⟩, A.OEM_KEY_HASH i, none⟩) hKrw hKeyed c
  have hWrong (c : WriteCtx) : keyWrong ⟨⟨Reg.OEM_KEY_HASH, [i.val]⟩, A.OEM_KEY_HASH i, none⟩ c = false :=
    keyWrong_of_base (show Reg.OEM_KEY_HASH.base ≠ Reg.KEY_UNLOCK.base by decide) c
  have hOnce : ruleHash.once (wholeCtx ruleHash m ⟨Reg.OEM_KEY_HASH, [i.val]⟩ (A.OEM_KEY_HASH i) data (beginTx m s)) u = true := by
    change (flag u F.OEM_KEY_CTRL_LOCKED && data != hashWord (beginTx m s) i) = true
    rw [hu.readsAlike.flag, hashWord_congr hTx]
    simp [hLocked, hOther]
  rw [writeErr_whole (h := ⟨Reg.OEM_KEY_HASH, [i.val]⟩) hImage]
  simp [hPower, hFields, hMayWrite, hGuard, hWrong, hOnce]

end

/-! OEM_KEY_CTRL.COMMIT (R86, R96, R97). -/

theorem oemCtrl_fields : imageMask Reg.OEM_KEY_CTRL = 0 ∧ allReadOnly Reg.OEM_KEY_CTRL.fields = false ∧
    loadMask true Reg.OEM_KEY_CTRL.fields = 0#32 ∧ typeMask .w1c Reg.OEM_KEY_CTRL.fields = 0#32 ∧
    Reg.OEM_KEY_CTRL.fields.all (·.ok.isEmpty) = true := by decide

/-- The write that starts a commit. -/
def commitCtx (m : Master) (s : State) : WriteCtx := wholeCtx ruleOem m ⟨Reg.OEM_KEY_CTRL, []⟩ A.OEM_KEY_CTRL 1 s

theorem commitCtx_cmd (m : Master) (s : State) : (commitCtx m s).cmd F.OEM_KEY_CTRL_COMMIT = true := by
  simp only [commitCtx, wholeCtx, WriteCtx.cmd]
  decide

theorem hashWords_congr {s t : State} {m : Master} (h : readsAlike s t m) : hashWords t = hashWords s := by
  simp only [hashWords, h.rd]

section
variable {m : Master} {s : State} (hMay : mayCommand s m)
include hMay

/-- A commit that no check refuses. -/
theorem oemKeyCommit_ok (hOnce : flag s F.OEM_KEY_CTRL_LOCKED = true → s.nv.oemHash = hashWords s)
    (hValue : flag s F.OEM_KEY_CTRL_LOCKED = false → ∃ w ∈ hashWords s, w ≠ 0) :
    ∃ v, readsAlike s v m ∧ rowKeyed ruleOem m 0xB7E1 ⟨Reg.OEM_KEY_CTRL, []⟩ A.OEM_KEY_CTRL 1 s =
      setReply (.okValue .ok []) (setUnlock m .no (meterOver (commitHash v))) := by
  obtain ⟨hImage, hFields, hLoad, hClear, hRanges⟩ := oemCtrl_fields
  obtain ⟨hReach, hOwner⟩ := hMay
  obtain ⟨-, hHeld, -⟩ := id hReach
  obtain ⟨v, hv, hRow⟩ := rowKeyed_command (r := ruleOem) (h := ⟨Reg.OEM_KEY_CTRL, []⟩) (a := A.OEM_KEY_CTRL) (data := 1) (m := m)
    hImage rfl hLoad hClear hReach fun u hu =>
    { power := hu.sysHeld.trans hHeld
      fields := hFields
      may := mayWrite_of_owner (hu.ownerCode.trans hOwner) _ _
      guarded := fun _ => rfl
      right := keyWrong_of_base (show Reg.OEM_KEY_CTRL.base ≠ Reg.KEY_UNLOCK.base by decide) _
      once := by
        change ((commitCtx m s).cmd F.OEM_KEY_CTRL_COMMIT && flag u F.OEM_KEY_CTRL_LOCKED && decide (u.nv.oemHash ≠ hashWords u)) = false
        rw [hu.flag, hu.nv, hashWords_congr hu]
        cases hLocked : flag s F.OEM_KEY_CTRL_LOCKED with
        | false => simp
        | true => simp [hOnce hLocked]
      range := rangeBad_of_noRanges hRanges _ _
      value := by
        change ((commitCtx m s).cmd F.OEM_KEY_CTRL_COMMIT && !flag u F.OEM_KEY_CTRL_LOCKED && (hashWords u).all (· == 0)) = false
        rw [hu.flag, hashWords_congr hu]
        cases hLocked : flag s F.OEM_KEY_CTRL_LOCKED with
        | true => simp
        | false =>
          simpa using fun _ => hValue hLocked
      state := rfl
      armed := rfl }
  refine ⟨v, hv, ?_⟩
  have hEffect : ruleOem.effect (commitCtx m s) v = commitHash v := by
    change onCmd (commitCtx m s) F.OEM_KEY_CTRL_COMMIT commitHash v = _
    simp only [onCmd, onlyIf, commitCtx_cmd, if_true]
  rw [hRow]
  exact congrArg (fun t => setReply (.okValue .ok []) (setUnlock m .no (meterOver t))) hEffect

/-- A commit that a check refuses. -/
theorem oemKeyCommit_refused {e : Err} (he : e ≠ .ok) (hErr : ∀ u, readsAlike s u m →
      (if (flag u F.OEM_KEY_CTRL_LOCKED && decide (u.nv.oemHash ≠ hashWords u)) = true then Err.once
        else if (!flag u F.OEM_KEY_CTRL_LOCKED && (hashWords u).all (· == 0)) = true then .value else .ok) = e) :
    refuses s (rowKeyed ruleOem m 0xB7E1 ⟨Reg.OEM_KEY_CTRL, []⟩ A.OEM_KEY_CTRL 1 s) m e := by
  obtain ⟨hImage, hFields, -, -, hRanges⟩ := oemCtrl_fields
  obtain ⟨hReach, hOwner⟩ := hMay
  obtain ⟨-, hHeld, -⟩ := id hReach
  refine rowKeyed_refused (h := ⟨Reg.OEM_KEY_CTRL, []⟩) hImage rfl hReach he fun u hu => ?_
  have hPower : domainOff u (domainOf ⟨Reg.OEM_KEY_CTRL, []⟩) = false := hu.sysHeld.trans hHeld
  have hMayWrite := mayWrite_of_owner (hu.ownerCode.trans hOwner) (commitCtx m s) Reg.OEM_KEY_CTRL.base
  have hWrong : keyWrong ⟨⟨Reg.OEM_KEY_CTRL, []⟩, A.OEM_KEY_CTRL, none⟩ (commitCtx m s) = false :=
    keyWrong_of_base (show Reg.OEM_KEY_CTRL.base ≠ Reg.KEY_UNLOCK.base by decide) _
  have hRange := rangeBad_of_noRanges hRanges (commitCtx m s).sel (commitCtx m s).new
  have hCmd := commitCtx_cmd m s
  rw [← hErr u hu, writeErr_whole (h := ⟨Reg.OEM_KEY_CTRL, []⟩) hImage, ← commitCtx]
  simp [hPower, hFields, hMayWrite, hWrong, hRange, hCmd, ruleOem, plainRule]

end

/-! What a commit leaves (R96). -/

theorem commitHash_locked {s : State} (h : flag s F.OEM_KEY_CTRL_LOCKED = true) : commitHash s = s := by
  simp only [commitHash, h, if_true]

theorem commitHash_busy {s : State} (hOpen : flag s F.OEM_KEY_CTRL_LOCKED = false) (hBusy : flag s F.OEM_KEY_CTRL_BUSY = true) :
    commitHash s = queueCmd F.OEM_KEY_CTRL_COMMIT s := by
  simp only [commitHash, hOpen, hBusy, Bool.false_eq_true, if_false, if_true]

/-- A commit has started: the eight words are taken for its end 5 ms later. -/
def commitStarted (s : State) : State :=
  fset { s with acc := { s.acc with oemStored := hashWords s, commitDone := some (s.mtime + 5 * ms) } } F.OEM_KEY_CTRL_BUSY 1

theorem commitHash_idle {s : State} (hOpen : flag s F.OEM_KEY_CTRL_LOCKED = false) (hIdle : flag s F.OEM_KEY_CTRL_BUSY = false) :
    commitHash s = commitStarted s := by
  simp only [commitHash, hOpen, hIdle, Bool.false_eq_true, if_false, commitStarted]

theorem commitStarted_changes (s : State) : changesOnly s (commitStarted s) [A.OEM_KEY_CTRL] [.access] :=
  ⟨fun a ha => rd_fset _ _ _ _ (by simpa using ha), fun p hp => by
    simp only [List.mem_cons, List.not_mem_nil, or_false, not_or] at hp
    obtain ⟨hpRegs, hpAccess⟩ := hp
    exact (fset_same _ _ _ (by simpa using hpRegs)).mpr ((Part.same_acc_stored _ _ _ (by simpa using hpAccess)).mpr (Part.same_refl p s))⟩

theorem commitStarted_busy (s : State) : flag (commitStarted s) F.OEM_KEY_CTRL_BUSY = true := flag_fset_one _ rfl (by decide)

theorem commitStarted_locked (s : State) : flag (commitStarted s) F.OEM_KEY_CTRL_LOCKED = flag s F.OEM_KEY_CTRL_LOCKED := by
  unfold commitStarted
  rw [flag_fset_apart (f := F.OEM_KEY_CTRL_BUSY) (k := F.OEM_KEY_CTRL_LOCKED) _ _ rfl (by decide)]
  rfl

theorem queueCmd_changes (f : Fld) (s : State) : changesOnly s (queueCmd f s) [] [.access] :=
  ⟨fun _ _ => rfl, fun p hp => (queueCmd_same f s (by simp at hp ⊢; exact hp.2)).mpr (Part.same_refl p s)⟩

theorem mem_queued_queueCmd (f : Fld) (s : State) : f ∈ (queueCmd f s).acc.queued := by
  simp only [queueCmd]
  split
  next h => exact List.contains_iff_mem.mp h
  next => simp

section
variable {m : Master} {s : State} (hMay : mayCommand s m) (hOpen : flag s F.OEM_KEY_CTRL_LOCKED = false)
  (hWords : ∃ w ∈ hashWords s, w ≠ 0)
include hMay hOpen hWords

theorem oemKeyCommit_starts (hIdle : flag s F.OEM_KEY_CTRL_BUSY = false) :
    let t := rowKeyed ruleOem m 0xB7E1 ⟨Reg.OEM_KEY_CTRL, []⟩ A.OEM_KEY_CTRL 1 s
    accepts s t m [A.OEM_KEY_CTRL] [.access] ∧ unlockOf t m = .no ∧ flag t F.OEM_KEY_CTRL_BUSY = true ∧
      flag t F.OEM_KEY_CTRL_LOCKED = false ∧
      t.acc = { s.acc with oemStored := hashWords s, commitDone := some (s.mtime + 5 * ms), unlock := t.acc.unlock } := by
  obtain ⟨v, hv, hRow⟩ := oemKeyCommit_ok hMay (by simp [hOpen]) (fun _ => hWords)
  rw [commitHash_idle ((hv.flag _).trans hOpen) ((hv.flag _).trans hIdle),
    meterOver_of_changes hMay.1 hv (commitStarted_changes v) (by decide) (by decide)] at hRow
  simp only [hRow]
  refine ⟨accepts_unlock hv (commitStarted_changes v) (by decide) _, ?_, ?_, ?_, ?_⟩
  · rw [unlockOf_setReply, unlockOf_setUnlock_same]
  · rw [flag_setReply, flag_setUnlock, commitStarted_busy]
  · rw [flag_setReply, flag_setUnlock, commitStarted_locked, hv.flag, hOpen]
  · rw [← hashWords_congr hv, ← hv.mtime, setReply_acc]
    simp only [setUnlock, commitStarted, fset_acc]
    rw [hv.acc]

theorem oemKeyCommit_queued (hBusy : flag s F.OEM_KEY_CTRL_BUSY = true) :
    let t := rowKeyed ruleOem m 0xB7E1 ⟨Reg.OEM_KEY_CTRL, []⟩ A.OEM_KEY_CTRL 1 s
    accepts s t m [] [.access] ∧ F.OEM_KEY_CTRL_COMMIT ∈ t.acc.queued ∧ t.acc.oemStored = s.acc.oemStored ∧
      t.acc.commitDone = s.acc.commitDone := by
  obtain ⟨v, hv, hRow⟩ := oemKeyCommit_ok hMay (by simp [hOpen]) (fun _ => hWords)
  rw [commitHash_busy ((hv.flag _).trans hOpen) ((hv.flag _).trans hBusy),
    meterOver_of_changes hMay.1 hv (queueCmd_changes _ v) (by decide) (by decide)] at hRow
  obtain ⟨-, -, -, hStored, hDone⟩ : Part.access.same s v := hv.part .access (by decide)
  simp only [hRow]
  exact ⟨accepts_unlock hv (queueCmd_changes _ v) (by decide) _, mem_queued_queueCmd _ v, hStored, hDone⟩

end

theorem oemKeyCommit_locked {m : Master} {s : State} (hMay : mayCommand s m) (hLocked : flag s F.OEM_KEY_CTRL_LOCKED = true) :
    let t := rowKeyed ruleOem m 0xB7E1 ⟨Reg.OEM_KEY_CTRL, []⟩ A.OEM_KEY_CTRL 1 s
    if s.nv.oemHash = hashWords s then accepts s t m [] [] else refuses s t m .once := by
  intro t
  split
  next hSame =>
    obtain ⟨v, hv, hRow⟩ := oemKeyCommit_ok hMay (fun _ => hSame) (by simp [hLocked])
    rw [commitHash_locked ((hv.flag _).trans hLocked), meterOver_of_changes hMay.1 hv (changesOnly_refl v [] []) (by decide) (by decide)] at hRow
    simp only [t, hRow]
    exact accepts_unlock hv (changesOnly_refl v [] []) (by decide) _
  next hOther =>
    refine oemKeyCommit_refused hMay (by decide) fun u hu => ?_
    rw [hu.flag, hu.nv, hashWords_congr hu]
    simp [hLocked, hOther]

theorem oemKeyCommit_zero {m : Master} {s : State} (hMay : mayCommand s m) (hOpen : flag s F.OEM_KEY_CTRL_LOCKED = false)
    (hWords : ∀ w ∈ hashWords s, w = 0) :
    refuses s (rowKeyed ruleOem m 0xB7E1 ⟨Reg.OEM_KEY_CTRL, []⟩ A.OEM_KEY_CTRL 1 s) m .value := by
  refine oemKeyCommit_refused hMay (by decide) fun u hu => ?_
  have hAll : (hashWords s).all (· == 0) = true := List.all_eq_true.mpr fun w hw => by simp [hWords w hw]
  rw [hu.flag, hu.nv, hashWords_congr hu, hAll]
  simp [hOpen]

/-! OEM_KEY_COMMIT_DONE (R96). -/

/-- The words that were taken are stored. -/
def hashCommitted (e : Nat) (s : State) : State :=
  { s with
    mtime := max s.mtime e
    nv := { s.nv with oemHash := s.acc.oemStored }
    acc := { s.acc with commitDone := none, queued := s.acc.queued.erase F.OEM_KEY_CTRL_COMMIT } }

theorem keeps_hashCommitted (e : Nat) (s : State) : keeps s (hashCommitted e s) [.regs, .mtime, .access, .nv] := by
  intro p hp
  cases p <;> simp [Part.same, hashCommitted] at hp ⊢

theorem commitDone_of_some {s : State} {e : Nat} (h : s.acc.commitDone = some e) :
    commitDone s = fset (fset (hashCommitted e s) F.OEM_KEY_CTRL_LOCKED 1) F.OEM_KEY_CTRL_BUSY 0 := by
  simp only [commitDone, h]
  rfl

theorem commitDone_clause {s : State} {e : Nat} (h : s.acc.commitDone = some e) :
    let t := commitDone s
    changesOnly s t [A.OEM_KEY_CTRL] [.mtime, .access, .nv] ∧ t.nv = { s.nv with oemHash := s.acc.oemStored } ∧
      t.acc.commitDone = none ∧ t.mtime = max s.mtime e ∧ flag t F.OEM_KEY_CTRL_LOCKED = true ∧
      flag t F.OEM_KEY_CTRL_BUSY = false ∧ ∀ k < 8, hashWord t k = s.acc.oemStored.getD k 0 := by
  rw [commitDone_of_some h]
  have hLocked : flag (fset (fset (hashCommitted e s) F.OEM_KEY_CTRL_LOCKED 1) F.OEM_KEY_CTRL_BUSY 0) F.OEM_KEY_CTRL_LOCKED = true := by
    rw [flag_fset_apart (f := F.OEM_KEY_CTRL_BUSY) (k := F.OEM_KEY_CTRL_LOCKED) _ _ rfl (by decide), flag_fset_one _ rfl (by decide)]
  have hNv : (fset (fset (hashCommitted e s) F.OEM_KEY_CTRL_LOCKED 1) F.OEM_KEY_CTRL_BUSY 0).nv = { s.nv with oemHash := s.acc.oemStored } := by
    simp only [fset_nv, hashCommitted]
  refine ⟨⟨fun a ha => ?_, fun p hp => ?_⟩, hNv, ?_, ?_, hLocked, flag_fset_zero _ rfl (by decide), fun k _ => ?_⟩
  · rw [rd_fset _ _ _ _ (by simpa using ha), rd_fset _ _ _ _ (by simpa using ha)]
    rfl
  · have hpRegs : p ∉ [Part.regs] := fun hIn => hp (List.mem_cons.mpr (.inl (List.mem_singleton.mp hIn)))
    exact (fset_same _ _ _ hpRegs).mpr ((fset_same _ _ _ hpRegs).mpr (keeps_hashCommitted e s p hp))
  · simp only [fset_acc, hashCommitted]
  · simp only [fset_mtime, hashCommitted]
  · simp only [hashWord, hLocked, if_true, hNv]

/-- Settles O18: each row is the write of its register, whose checks and effect the lemmas above give. -/
theorem unlocksAndOemKey : Obligations.UnlocksAndOemKey := by
  unfold Obligations.UnlocksAndOemKey
  intro m i data key s locked words hash stores
  have hStores (c : Instr) (hExec : exec c s = .next (rowWrite ruleHash m ⟨Reg.OEM_KEY_HASH, [i.val]⟩ (A.OEM_KEY_HASH i.val) data s))
      (hMay : mayCommand s m) : stores c :=
    ⟨fun h => ⟨_, hExec, rowWrite_hash_ok hMay h⟩, fun hLocked hOther => ⟨_, hExec, rowWrite_hash_refused hMay hLocked hOther⟩⟩
  refine ⟨fun hReach hKey => ?_, fun hReach hKey => ⟨_, rfl, keyUnlock_refused hReach hKey⟩, fun e hRun hTill => ?_,
    fun hMay => ⟨hStores _ rfl hMay, hStores _ rfl hMay⟩, ?_, ?_, ?_, ?_, ?_, fun e hRun hDone => ?_⟩
  · obtain ⟨u, hu, hRow⟩ := keyUnlock_right hReach hKey
    refine ⟨_, congrArg Host.Outcome.next hRow, ?_, unlockOf_setUnlock_same m _ _⟩
    exact accepts_unlock hu.readsAlike (changesOnly_refl u [] []) (by decide) _
  · exact answers_live rfl hRun (unlockExpiry_clause hTill)
  · rintro hMay rfl hOpen hIdle hWords
    exact ⟨_, rfl, oemKeyCommit_starts hMay hOpen hWords hIdle⟩
  · rintro hMay rfl hOpen hBusy hWords
    exact ⟨_, rfl, oemKeyCommit_queued hMay hOpen hWords hBusy⟩
  · rintro hMay rfl hOpen hWords
    exact ⟨_, rfl, oemKeyCommit_zero hMay hOpen hWords⟩
  · rintro hMay rfl hLocked
    exact ⟨_, rfl, oemKeyCommit_locked hMay hLocked⟩
  · intro hMay hKey
    exact ⟨_, rfl, rowKeyed_wrongKey hMay.1 hKey ..⟩
  · exact answers_live rfl hRun (commitDone_clause hDone)

end Sys2Proof.Proofs
end

section
/-! SUPPORT. Mailboxes: a request latches a group for one master, a read of a data word changes one snapshot (R109 to R112). -/
namespace Sys2Proof.Proofs
open Sys2Proof.Machine

/-! What a mailbox shows does not depend on what the register interface holds. -/

theorem mbxWords_acc (s : State) (x : Access) (k : Nat) : mbxWords { s with acc := x } k = mbxWords s k := rfl

/-- A state of which only an unlock differs is the state with other unlocks. -/
theorem eq_of_onlyUnlock {s t : State} {m : Master} (h : onlyUnlock s t m) : ∃ l, t = { s with acc := { s.acc with unlock := l } } := by
  refine ⟨t.acc.unlock, ?_⟩
  have hPart (p : Part) (hp : p ≠ .unlock) : p.same s t := h.1 p (by simpa using hp)
  obtain ⟨hWaiting, hQueue, hFlood⟩ := hPart .events (by decide)
  obtain ⟨hStore, hSeq, hSevere⟩ := hPart .records (by decide)
  obtain ⟨hSel, hReady⟩ := hPart .reader (by decide)
  obtain ⟨hLeads, hOld, hAt⟩ := hPart .leads (by decide)
  have hAgate : t.agate = s.agate := by
    cases hT : t.agate
    cases hS : s.agate
    simp_all
  have hAcc := h.readsAlike.acc
  cases t
  cases s
  simp only [State.mk.injEq]
  exact ⟨hPart .regs (by decide), hPart .mtime (by decide), hPart .freeCtr (by decide), hPart .pending (by decide),
    hPart .reply (by decide), hPart .sup (by decide), hPart .start (by decide), hPart .own (by decide), hAcc, hAgate,
    hPart .nv (by decide), hPart .stage (by decide), hPart .rcv (by decide), hPart .fleet (by decide), hPart .svc (by decide),
    hPart .outs (by decide), hPart .feeds (by decide), hPart .rems (by decide), hPart .qs (by decide), hPart .readCap (by decide),
    hLeads, hOld, hAt, hPart .eng (by decide), hPart .gathers (by decide), hPart .maps (by decide), hPart .onyx (by decide),
    hPart .marker (by decide), hPart .nav (by decide), hPart .clock (by decide), hPart .fb (by decide), hPart .ports (by decide)⟩

/-! Which snapshot a change of one leaves. -/

theorem mbxOf_setMbx {k i : Nat} (hk : k < 16) (hi : i < 16) (m n : Master) (x : Mbx) (s : State) :
    mbxOf (setMbx m k x s) n i = if n = m ∧ i = k then x else mbxOf s n i := by
  have hIndex : 16 * n.num + i = 16 * m.num + k ↔ n = m ∧ i = k := by
    refine ⟨fun h => ?_, fun ⟨hn, hk⟩ => by rw [hn, hk]⟩
    have hNum : n.num = m.num := by omega
    exact ⟨Master.num_inj hNum, by omega⟩
  simp only [mbxOf, setMbx, tabGet_tabSet, hIndex]

theorem mbxGroup_small {k : Nat} (hk : k < 14) : (mbxGroup k).Nodup ∧ ∀ i ∈ mbxGroup k, i < 16 := by
  unfold mbxGroup
  split
  · decide
  · split
    · decide
    · simp; omega

/-- A snapshot of mailbox i taken now. -/
def latched (s : State) (m : Master) (i : Nat) : Mbx := ⟨mbxWords s i, ((mbxOf s m i).seq + 1) % 256, true, false⟩

/-- Replace a master's snapshot of mailbox i by one taken now. -/
def latchOne (m : Master) (i : Nat) (s : State) : State := setMbx m i (latched s m i) s

theorem mbxLatch_eq (m : Master) (k : Nat) (s : State) : mbxLatch m k s = forAll (latchOne m) (mbxGroup k) s := rfl

theorem mbxOf_latchAll {l : List Nat} (hNodup : l.Nodup) (hSmall : ∀ i ∈ l, i < 16) (m n : Master) {i : Nat} (hi : i < 16) (s : State) :
    mbxOf (forAll (latchOne m) l s) n i = if n = m ∧ i ∈ l then latched s m i else mbxOf s n i := by
  induction l generalizing s with
  | nil => simp [forAll]
  | cons j l ih =>
    obtain ⟨hFresh, hNodup⟩ := List.nodup_cons.mp hNodup
    have hj : j < 16 := hSmall j List.mem_cons_self
    have hWords (x : Mbx) : mbxWords (setMbx m j x s) i = mbxWords s i := mbxWords_acc s _ i
    rw [forAll, ih hNodup fun i h => hSmall i (List.mem_cons_of_mem j h)]
    simp only [latched, latchOne, hWords, mbxOf_setMbx hj hi, List.mem_cons]
    by_cases hIn : i ∈ l
    · have hOther : i ≠ j := fun h => hFresh (h ▸ hIn)
      simp [hIn, hOther]
    · by_cases hIs : i = j
      · subst hIs
        simp [hIn]
      · simp [hIn, hIs]

theorem latchAll_keeps (m : Master) (k : Nat) (s : State) : changesOnly s (mbxLatch m k s) [] [.mbx] := by
  refine ⟨fun a _ => ?_, fun p hp => (mbxLatch_same m k s ?_).mpr (Part.same_refl p s)⟩
  · exact rd_congr ((mbxLatch_same (pt := .regs) (s₀ := s) m k s (by decide)).mpr rfl) a
  · simp at hp ⊢; exact hp.2

/-! MBX_CTRL.REQ (R110, R112). -/

theorem mbxCtrl_fields : imageMask Reg.MBX_CTRL = 0 ∧ allReadOnly Reg.MBX_CTRL.fields = false ∧ hasKrw Reg.MBX_CTRL.fields = false ∧
    keyedMask Reg.MBX_CTRL.fields = 0#32 ∧ Reg.MBX_CTRL.fields.all (·.ok.isEmpty) = true ∧
    1#32 &&& typeMask .w1s Reg.MBX_CTRL.fields = 1#32 := by decide

theorem mbxReq_ok {s : State} (hReach : reachable s) (m : Master) (k : Nat) :
    ∃ u, onlyUnlock s u m ∧
      rowWrite ruleMbxCtrl m ⟨Reg.MBX_CTRL, [k]⟩ (A.MBX_CTRL k) 1 s = setReply (.okValue .ok []) (mbxLatch m k u) := by
  obtain ⟨hImage, hFields, hKrw, hKeyed, hRanges, hCmd⟩ := mbxCtrl_fields
  obtain ⟨-, hHeld, -⟩ := id hReach
  obtain ⟨u, hu, hRow⟩ := rowWrite_ok (r := ruleMbxCtrl) (h := ⟨Reg.MBX_CTRL, [k]⟩) (a := A.MBX_CTRL k) (data := 1) (m := m)
    hImage hReach fun u hu =>
    { power := hu.readsAlike.sysHeld.trans hHeld
      fields := hFields
      may := by simp [mayWrite]
      guarded := fun hGuard => absurd ((keyGuarded_of_free hKrw hKeyed _).symm.trans hGuard) (by decide)
      right := keyWrong_of_base (show Reg.MBX_CTRL.base ≠ Reg.KEY_UNLOCK.base by decide) _
      once := rfl
      range := rangeBad_of_noRanges hRanges _ _
      value := rfl
      state := rfl
      armed := rfl }
  have hEffect : ruleMbxCtrl.effect (wholeCtx ruleMbxCtrl m ⟨Reg.MBX_CTRL, [k]⟩ (A.MBX_CTRL k) 1 (beginTx m s)) u = mbxLatch m k u := by
    have hStarts : bitsOf (1#32 &&& typeMask .w1s Reg.MBX_CTRL.fields) 0 0 ≠ 0 := by rw [hCmd]; decide
    exact if_pos (bne_iff_ne.mpr hStarts)
  have hMeter : meterOver (mbxLatch m k u) = mbxLatch m k u :=
    meterOver_of_changes hReach hu.readsAlike (latchAll_keeps m k u) (by simp) (by decide)
  refine ⟨u, hu, ?_⟩
  rw [hRow]
  exact congrArg _ ((congrArg meterOver hEffect).trans hMeter)

/-! MBX_DATA (R111). -/

theorem readPlace_ok {r : RegRule} {p : Place} {s : State} (h : readErr r p s = .ok) (hBit : p.bit = none) (m : Master) (sh : Nat) :
    readPlace r m sh p s = (.ok, viewWord r m p.hit p.addr s, readEffect m p.hit s) := by
  simp only [readPlace, h, hBit]

theorem mbxDataRead_ok {s : State} (hReach : reachable s) (m : Master) (k : Fin 14) (j : Fin 4) :
    mbxDataRead m k j s = setReply (.okValue .ok [(mbxOf s m k).words.getD j 0]) (mbxRead m k j (beginTx m s)) := by
  obtain ⟨hRun, hHeld, -⟩ := id hReach
  have hMbx : mbxOf (beginTx m s) m k = mbxOf s m k :=
    congrArg (fun l => tabGet (fun _ => Mbx.init) l _) ((onlyUnlock_beginTx m s).1 .mbx (by decide))
  have hErr : readErr ruleMbxData ⟨⟨Reg.MBX_DATA, [k.val, j.val]⟩, A.MBX_DATA k.val j.val, none⟩ (beginTx m s) = .ok := by
    have hPower : domainOff (beginTx m s) (domainOf ⟨Reg.MBX_DATA, [k.val, j.val]⟩) = false :=
      (onlyUnlock_beginTx m s).readsAlike.sysHeld.trans hHeld
    simp [readErr, hPower, aliasTy, ruleMbxData, plainRule]
  have hWord : viewWord ruleMbxData m ⟨Reg.MBX_DATA, [k.val, j.val]⟩ (A.MBX_DATA k.val j.val) (beginTx m s) =
      (mbxOf s m k).words.getD j 0 := congrArg (fun x => x.words.getD j.val 0) hMbx
  have hEffect : readEffect m ⟨Reg.MBX_DATA, [k.val, j.val]⟩ (beginTx m s) = mbxRead m k j (beginTx m s) := if_pos rfl
  simp only [mbxDataRead, hRun, hHeld, Bool.not_true, Bool.or_self, Bool.false_eq_true, if_false, readPlace_ok hErr rfl, hWord, hEffect]

/-- Settles O19: a request replaces the group's snapshots one after another, a read replaces one. -/
theorem mailboxesLatchAndRead : Obligations.MailboxesLatchAndRead := by
  unfold Obligations.MailboxesLatchAndRead
  intro m k j s hReach others
  obtain ⟨hNodup, hSmall⟩ := mbxGroup_small k.isLt
  constructor
  · obtain ⟨u, hu, hRow⟩ := mbxReq_ok hReach m k
    have hMbx (n : Master) {i : Nat} (hi : i < 16) :
        mbxOf (mbxLatch m k u) n i = if n = m ∧ i ∈ mbxGroup k then latched s m i else mbxOf s n i := by
      obtain ⟨l, rfl⟩ := eq_of_onlyUnlock hu
      exact mbxOf_latchAll hNodup hSmall m n hi _
    refine ⟨_, congrArg Host.Outcome.next hRow, accepts_write hu.readsAlike (latchAll_keeps m k u) (by decide), ?_, ?_⟩
    · intro n i hi hOther
      exact (hMbx n hi).trans (if_neg fun ⟨hn, hIn⟩ => hOther.elim (absurd hn) (absurd hIn))
    · intro i hIn
      exact (hMbx m (hSmall i hIn)).trans (if_pos ⟨rfl, hIn⟩)
  · have hTx := onlyUnlock_beginTx m s
    have hk : k.val < 16 := by omega
    have hMbx (n : Master) {i : Nat} (hi : i < 16) : mbxOf (mbxRead m k j (beginTx m s)) n i = if n = m ∧ i = k then
        { mbxOf s m k with valid := (mbxOf s m k).valid && j != 3, stale := (mbxOf s m k).stale || !(mbxOf s m k).valid }
        else mbxOf s n i := by
      obtain ⟨l, hl⟩ := eq_of_onlyUnlock hTx
      have hLast : (j != 3) = (j.val != 3) := by revert j; decide
      rw [hl, hLast]
      exact mbxOf_setMbx hk hi m n _ _
    refine ⟨_, congrArg Host.Outcome.next (mbxDataRead_ok hReach m k j), fun p hp => ?_, fun n hn => ?_, ?_, rfl, ?_⟩
    · simp only [List.mem_cons, List.not_mem_nil, or_false, not_or] at hp
      obtain ⟨hpReply, hpUnlock, hpMbx⟩ := hp
      refine (setReply_same _ _ (by simpa using hpReply)).mpr ((mbxRead_same m k j _ (by simpa using hpMbx)).mpr ?_)
      exact hTx.1 p (by simpa using hpUnlock)
    · exact hTx.2 n hn
    · intro n i hi hOther
      refine (hMbx n hi).trans (if_neg ?_)
      rintro ⟨hn, hIs⟩
      exact hOther.elim (absurd hn) (absurd (List.mem_singleton.mpr hIs))
    · have hRead := hMbx m hk
      rw [if_pos (And.intro rfl rfl)] at hRead
      exact hRead

end Sys2Proof.Proofs
end

section
/-! SUPPORT. Accesses at an address to registers whose fields say everything: the place, the read, the whole write and the write of
one bit (R84 to R88, R98 to R100, R106). -/
namespace Sys2Proof.Proofs
open Sys2Proof.Machine

/-! The place that an address names. -/

theorem locate_low {a : Nat} (h : a < 0x800000) : locate a = (regAt a).map fun h => ⟨h, a, none⟩ := by
  simp only [locate, if_pos h]

theorem locate_alias {a b : Nat} (ha : a % 4 = 0) (hLow : a < 0x40000) (hb : b < 32) :
    locate (0x800000 + (a * 32 + b * 4)) = (regAt a).map fun h => ⟨h, a, some b⟩ := by
  have hBelow : ¬ 0x800000 + (a * 32 + b * 4) < 0x800000 := by omega
  have hWithin : ¬ 0x1000000 ≤ 0x800000 + (a * 32 + b * 4) := by omega
  have hReg : (0x800000 + (a * 32 + b * 4) - 0x800000) / 4 / 32 * 4 = a := by omega
  have hBit : (0x800000 + (a * 32 + b * 4) - 0x800000) / 4 % 32 = b := by omega
  simp only [locate, if_neg hBelow, if_neg hWithin, hReg, hBit]

/-- A register at address a whose fields say everything, powered. -/
structure PlainReg (s : State) (a : Nat) (h : RegHit) : Prop where
  low : a < 0x800000
  aligned : a % 4 = 0
  reg : regAt a = some h
  rule : ruleOf h.fam.base = plainRule
  image : imageMask h.fam = 0
  power : domainOff s (domainOf h) = false
  unmeasured : h.fam.base ∉ [Reg.MBX_DATA.base, Reg.SUPPLY_VOLT.base, Reg.BASE_TEMP.base]

theorem plainReg_of_plainPlace {s : State} {a : Nat} {p : Place} (h : plainPlace s a p) : PlainReg s a p.hit ∧ p = ⟨p.hit, a, none⟩ := by
  obtain ⟨hAligned, hLocate, hBit, hRule, hImage, hPower, hFam⟩ := h
  have hLow : a < 0x800000 := by
    by_contra hHigh
    simp only [locate, if_neg hHigh] at hLocate
    split at hLocate
    · exact absurd hLocate (by simp)
    · obtain ⟨r, -, rfl⟩ := Option.map_eq_some_iff.mp hLocate
      exact absurd hBit (by simp)
  rw [locate_low hLow] at hLocate
  obtain ⟨r, hReg, rfl⟩ := Option.map_eq_some_iff.mp hLocate
  exact ⟨⟨hLow, hAligned, hReg, hRule, hImage, hPower, hFam⟩, rfl⟩

theorem PlainReg.of_readsAlike {s t : State} {a : Nat} {h : RegHit} {m : Master} (hp : PlainReg s a h) (hAlike : readsAlike s t m) :
    PlainReg t a h := { hp with power := (hAlike.domainOff _).trans hp.power }

theorem writable_of_readsAlike {s t : State} {m n : Master} {a : Nat} {p : Place} {d : Word} {key : Bool}
    (h : writable s m a p d key) (hAlike : readsAlike s t n) : writable t m a p d key := by
  obtain ⟨⟨hAligned, hLocate, hBit, hRule, hImage, hPower, hFam⟩, ⟨hReach, hOwner⟩, hFields, hRange, hKey⟩ := h
  refine ⟨⟨hAligned, hLocate, hBit, hRule, hImage, (hAlike.domainOff _).trans hPower, hFam⟩, ⟨hAlike.reachable hReach, ?_⟩, hFields, ?_, hKey⟩
  · exact hAlike.ownerCode.trans hOwner
  · rw [hAlike.rd]; exact hRange

/-! Two registers have a rule of their own: KEY_UNLOCK is not stored, and OWN_STAT shows the time left. -/

theorem ruleOf_keyUnlock : (ruleOf Reg.KEY_UNLOCK.base).stores = false := by decide +kernel

theorem ruleOf_ownStat : (ruleOf Reg.OWN_STAT.base).view State.reset .host [] 0xFFFFFFFF ≠ 0xFFFFFFFF := by decide +kernel

theorem regAt_ownStat : regAt A.OWN_STAT = some ⟨Reg.OWN_STAT, []⟩ := by decide +kernel

theorem PlainReg.not_keyUnlock {s : State} {a : Nat} {h : RegHit} (hp : PlainReg s a h) : h.fam.base ≠ Reg.KEY_UNLOCK.base := by
  intro hBase
  have hRule := hp.rule
  rw [hBase] at hRule
  exact absurd ((congrArg RegRule.stores hRule).symm.trans ruleOf_keyUnlock) (by decide)

theorem PlainReg.not_ownStat {s : State} {a : Nat} {h : RegHit} (hp : PlainReg s a h) : a ≠ A.OWN_STAT := by
  rintro rfl
  have hHit : h = ⟨Reg.OWN_STAT, []⟩ := Option.some.inj (hp.reg.symm.trans regAt_ownStat)
  have hRule := hp.rule
  rw [hHit] at hRule
  exact ruleOf_ownStat (congrFun (congrFun (congrFun (congrFun (congrArg RegRule.view hRule) State.reset) .host) []) 0xFFFFFFFF)

/-! Reads (R84). -/

theorem readAccess_plain {s : State} {a : Nat} {h : RegHit} (hp : PlainReg s a h) (hRun : running s = true) (hHeld : sysHeld s = false)
    (m : Master) : readAccess m a s = (.ok, rd s a, s) := by
  have hErr : readErr plainRule ⟨h, a, none⟩ s = .ok := by simp [readErr, hp.power, aliasTy, plainRule]
  have hWord : viewWord plainRule m h a s = rd s a := baseWord_of_noImage hp.image s a
  have hEffect : readEffect m h s = s := by
    have hFam := hp.unmeasured
    simp only [List.mem_cons, List.not_mem_nil, or_false, not_or] at hFam
    obtain ⟨hMbx, hVolt, hTemp⟩ := hFam
    simp only [readEffect, if_neg hMbx, hVolt, hTemp, or_self, if_false]
  simp only [readAccess, hRun, hHeld, hp.aligned, locate_low hp.low, hp.reg, Option.map_some, hp.rule, readPlace_ok hErr rfl, hWord,
    hEffect, Bool.not_true, Bool.or_self, Bool.false_eq_true, if_false, ne_eq, not_true_eq_false]

/-! Writes of a whole register (R86, R88). -/

theorem meterOver_wr {s : State} (hReach : reachable s) {a : Nat} (ha : a ≠ A.OWN_STAT) (w : Word) : meterOver (wr s a w) = wr s a w := by
  obtain ⟨-, -, hMeter⟩ := hReach
  exact meterOver_of_same hMeter ((wr_same (pt := .svc) (s₀ := s) s a w (by decide)).mpr rfl) (rd_wr_other s a A.OWN_STAT w ha.symm)

theorem changesOnly_wr {a : Nat} {r : List Nat} (h : a ∈ r) (s : State) (w : Word) : changesOnly s (wr s a w) r [] :=
  ⟨keepsRegs_wr h s w, fun p hp => (wr_same s a w hp).mpr (Part.same_refl p s)⟩

theorem writeAccess_found {s : State} {a : Nat} {p : Place} (hReach : reachable s) (hAligned : a % 4 = 0) (hLocate : locate a = some p)
    (m : Master) (d : Word) : writeAccess m a d s = writePlace (ruleOf p.hit.fam.base) m a p d s := by
  obtain ⟨hRun, hHeld, -⟩ := hReach
  simp only [writeAccess, hRun, hHeld, hAligned, hLocate, Bool.not_true, Bool.or_self, Bool.false_eq_true, if_false, ne_eq, not_true_eq_false]

theorem writeAccess_writable {s : State} {m : Master} {a : Nat} {p : Place} {d : Word} {key : Bool} (h : writable s m a p d key)
    (hKey : key = true → unlocked s m = true) :
    ∃ u, onlyUnlock s u m ∧ writeAccess m a d s = (.ok, wr u a (writtenWord p.hit.fam.fields (rd s a) d)) := by
  obtain ⟨hPlace, ⟨hReach, hOwner⟩, hFields, hRange, hNeeds⟩ := h
  obtain ⟨hReg, hp⟩ := plainReg_of_plainPlace hPlace
  rw [hp] at hPlace
  obtain ⟨hAligned, hLocate, -⟩ := hPlace
  obtain ⟨u, hu, hWrite⟩ := writePlace_whole_ok (r := plainRule) (m := m) (h := p.hit) (a := a) (data := d) (s := s) hReg.image a
    fun u hu =>
    { power := (hu.readsAlike.domainOff _).trans hReg.power
      fields := hFields
      may := mayWrite_of_owner (hu.readsAlike.ownerCode.trans hOwner) _ _
      guarded := fun hGuard => by
        rcases hNeeds with hGiven | ⟨hKrw, hKeyed⟩
        · exact hKey hGiven
        · exact absurd ((keyGuarded_of_free hKrw hKeyed _).symm.trans hGuard) (by decide)
      right := keyWrong_of_base (p := ⟨p.hit, a, none⟩) hReg.not_keyUnlock _
      once := rfl
      range := hRange
      value := rfl
      state := rfl
      armed := rfl }
  refine ⟨u, hu, ?_⟩
  rw [writeAccess_found hReach hAligned hLocate, hReg.rule, hWrite]
  exact congrArg (Prod.mk Err.ok) (meterOver_wr (hu.readsAlike.reachable hReach) hReg.not_ownStat _)

/-! The fields of a register lie apart: of each bit the type is that of the one field that holds it (R83). -/

/-- Whether bit b lies in a field. -/
def holdsBit (f : FieldSpec) (b : Nat) : Bool := decide (f.lo ≤ b ∧ b ≤ f.hi)

/-- Whether each bit lies in at most one field and the masks of the types hold it by that field's type. -/
def bitsApart (fs : List FieldSpec) : Bool :=
  fs.all (fun f => decide (f.lo ≤ f.hi)) && (List.range 32).all fun b =>
    fs.all (fun f => !holdsBit f b || bitField fs b == some f) &&
      [FTy.rw, .krw, .w1c, .w1s].all fun ty => (typeMask ty fs).getLsbD b == (bitField fs b).any (fun f => f.ty == ty)

theorem bitsApart_map : [mapSys, mapQueue, mapEngA, mapEngB, mapChan, mapOut, mapPwm, mapFb, mapNav, mapTime, mapBus, mapAgate, mapSvc,
    mapLoad].all (fun l => l.all fun r => bitsApart r.fields) = true := by decide +kernel

theorem mem_of_ite {α : Type} {c : Prop} [Decidable c] {x y : α} {l : List α} (hx : x ∈ l) (hy : y ∈ l) : (if c then x else y) ∈ l := by
  split
  · exact hx
  · exact hy

theorem bitsApart_famsOf (a : Nat) : ∀ r ∈ famsOf a, bitsApart r.fields = true := by
  have hMap : ∀ l ∈ [mapSys, mapQueue, mapEngA, mapEngB, mapChan, mapOut, mapPwm, mapFb, mapNav, mapTime, mapBus, mapAgate, mapSvc,
      mapLoad, []], ∀ r ∈ l, bitsApart r.fields = true := by
    simpa only [List.all_eq_true, List.forall_mem_append, List.forall_mem_cons, List.not_mem_nil, false_implies, implies_true, and_true]
      using bitsApart_map
  refine hMap _ ?_
  unfold famsOf
  iterate 14 refine mem_of_ite (by simp) ?_
  simp

theorem mem_of_findReg {l : List RegFam} {a : Nat} {h : RegHit} (hFind : findReg l a = some h) : h.fam ∈ l := by
  induction l with
  | nil => exact absurd hFind (by simp [findReg])
  | cons r l ih =>
    simp only [findReg] at hFind
    split at hFind
    · obtain rfl := Option.some.inj hFind
      exact List.mem_cons_self
    · exact List.mem_cons_of_mem r (ih hFind)

/-- What the type of the field that holds bit b says of the masks, and that no other field holds it. -/
theorem bits_of_regAt {a : Nat} {h : RegHit} (hReg : regAt a = some h) {b : Nat} (hb : b < 32) {f : FieldSpec}
    (hField : bitField h.fam.fields b = some f) :
    (∀ g ∈ h.fam.fields, g.lo ≤ g.hi ∧ (holdsBit g b = true → g = f)) ∧
      ∀ ty ∈ [FTy.rw, .krw, .w1c, .w1s], (typeMask ty h.fam.fields).getLsbD b = decide (f.ty = ty) := by
  have hApart := bitsApart_famsOf a h.fam (mem_of_findReg hReg)
  simp only [bitsApart, Bool.and_eq_true, List.all_eq_true] at hApart
  obtain ⟨hOrder, hBits⟩ := hApart
  obtain ⟨hOne, hMask⟩ := hBits b (List.mem_range.mpr hb)
  refine ⟨fun g hg => ⟨of_decide_eq_true (hOrder g hg), fun hHolds => ?_⟩, fun ty hTy => ?_⟩
  · have hSame := hOne g hg
    rw [hHolds, hField] at hSame
    exact (by simpa using hSame : f = g).symm
  · have hSame := hMask ty hTy
    rw [hField] at hSame
    exact eq_of_beq hSame

/-! Writes of one bit (R88, R98, R99). -/

theorem getLsbD_two_pow {b k : Nat} (hk : k < 32) : (BitVec.ofNat 32 (2 ^ b)).getLsbD k = decide (k = b) := by
  rw [BitVec.getLsbD_ofNat, decide_eq_true hk, Bool.true_and, Nat.testBit_two_pow]
  exact decide_eq_decide.mpr eq_comm

/-- The selected bit lies in the fields that the write covers. -/
theorem holdsBit_of_covered {b : Nat} (hb : b < 32) {f : FieldSpec} (hOrder : f.lo ≤ f.hi) (h : bitsOf (BitVec.ofNat 32 (2 ^ b)) f.hi f.lo ≠ 0) :
    holdsBit f b = true := by
  have hNat : (BitVec.ofNat 32 (2 ^ b)).toNat = 2 ^ b := by
    rw [BitVec.toNat_ofNat, Nat.mod_eq_of_lt (Nat.pow_lt_pow_right (by decide) hb)]
  simp only [bitsOf, hNat] at h
  simp only [holdsBit, decide_eq_true_eq]
  constructor
  · by_contra hBelow
    rw [Nat.div_eq_of_lt (Nat.pow_lt_pow_right (by decide) (by omega)), Nat.zero_mod] at h
    exact h rfl
  · by_contra hAbove
    rw [Nat.pow_div (by omega) (by decide)] at h
    exact h (Nat.mod_eq_zero_of_dvd (Nat.pow_dvd_pow 2 (by omega)))

/-- The word that a write of bit b leaves. -/
def bitWritten (fs : List FieldSpec) (b : Nat) (old d : Word) : Word :=
  let sel := BitVec.ofNat 32 (2 ^ b)
  let put := BitVec.ofNat 32 (d.toNat % 2 * 2 ^ b)
  let load := loadMask false fs &&& sel
  ((old &&& ~~~load) ||| (put &&& load)) &&& ~~~(put &&& sel &&& typeMask .w1c fs)

theorem getLsbD_put {b k : Nat} (hk : k < 32) (d : Word) :
    (BitVec.ofNat 32 (d.toNat % 2 * 2 ^ b)).getLsbD k = (decide (k = b) && d.getLsbD 0) := by
  rw [BitVec.getLsbD_ofNat, decide_eq_true hk, Bool.true_and, BitVec.getLsbD, Nat.testBit_zero]
  rcases Nat.mod_two_eq_zero_or_one d.toNat with hd | hd
  · simp [hd]
  · simp [hd, Nat.testBit_two_pow, eq_comm]

theorem getLsbD_bitWritten {a : Nat} {h : RegHit} (hReg : regAt a = some h) {b : Nat} (hb : b < 32) {f : FieldSpec}
    (hField : bitField h.fam.fields b = some f) (old d : Word) {k : Nat} (hk : k < 32) :
    (bitWritten h.fam.fields b old d).getLsbD k = if k = b then
      (if f.ty = .rw ∨ f.ty = .krw then d.getLsbD 0 else if f.ty = .w1c then old.getLsbD k && !d.getLsbD 0 else old.getLsbD k)
      else old.getLsbD k := by
  obtain ⟨-, hMask⟩ := bits_of_regAt hReg hb hField
  simp only [bitWritten, loadMask, BitVec.getLsbD_and, BitVec.getLsbD_or, BitVec.getLsbD_not, getLsbD_two_pow hk, getLsbD_put hk, hk]
  by_cases hSame : k = b
  · subst hSame
    rw [hMask .rw (by decide), hMask .krw (by decide), hMask .w1c (by decide)]
    cases f.ty <;> simp
  · simp [hSame]

section
variable {s : State} {m : Master} {a : Nat} {h : RegHit} {b : Nat} {f : FieldSpec} (hPlain : PlainReg s a h) (hb : b < 32)
  (hField : bitField h.fam.fields b = some f)
include hPlain hb hField

/-- An alias write that starts no command needs no key. -/
theorem keyGuarded_bit (hKrw : hasKrw h.fam.fields = false) (hTy : f.ty ≠ .w1s) (c : WriteCtx)
    (hCmds : ∃ d : Word, c.cmds = d &&& BitVec.ofNat 32 (2 ^ b) &&& typeMask .w1s h.fam.fields) : keyGuarded ⟨h, a, some b⟩ c = false := by
  obtain ⟨-, hMask⟩ := bits_of_regAt hPlain.reg hb hField
  obtain ⟨d, hCmds⟩ := hCmds
  have hZero : c.cmds = 0#32 := by
    rw [hCmds]
    refine BitVec.eq_of_getLsbD_eq fun k hk => ?_
    rw [BitVec.getLsbD_and, BitVec.getLsbD_and, getLsbD_two_pow hk]
    by_cases hSame : k = b
    · subst hSame
      rw [hMask .w1s (by decide)]
      simp [hTy]
    · simp [hSame]
  simp [keyGuarded, hKrw, hZero]

/-- The fields that the write of a bit covers are that bit's. -/
theorem rangeBad_bit (hOk : f.ty = .w1c ∨ f.ok = []) (w : Word) : rangeBad h.fam.fields (BitVec.ofNat 32 (2 ^ b)) w = false := by
  obtain ⟨hFields, -⟩ := bits_of_regAt hPlain.reg hb hField
  simp only [rangeBad, List.any_eq_false]
  intro g hg
  obtain ⟨hOrder, hSame⟩ := hFields g hg
  by_cases hCovers : bitsOf (BitVec.ofNat 32 (2 ^ b)) g.hi g.lo = 0
  · rw [hCovers]
    simp
  · obtain rfl := hSame (holdsBit_of_covered hb hOrder hCovers)
    rcases hOk with hTy | hNone
    · simp [hTy]
    · simp [inRanges, hNone]

/-- No check refuses it. -/
theorem writeErr_bit (hOwner : ownerCode s = m.code) (hTy : (f.ty = .rw ∧ f.ok = []) ∨ f.ty = .w1c) {c : WriteCtx}
    (hSel : c.sel = BitVec.ofNat 32 (2 ^ b)) (hGuard : keyGuarded ⟨h, a, some b⟩ c = false) (key : Bool) :
    writeErr plainRule m ⟨h, a, some b⟩ c key s = .ok := by
  have hAlias : aliasTy ⟨h, a, some b⟩ = some f.ty := by simp [aliasTy, hField]
  have hMayWrite := mayWrite_of_owner hOwner c h.fam.base
  have hWrong : keyWrong ⟨h, a, some b⟩ c = false := keyWrong_of_base (p := ⟨h, a, some b⟩) hPlain.not_keyUnlock _
  have hRange : rangeBad h.fam.fields c.sel c.new = false := by
    rw [hSel]
    exact rangeBad_bit hPlain hb hField (by tauto) _
  have hKind : f.ty = .rw ∨ f.ty = .w1c := by tauto
  rcases hKind with hKind | hKind <;> simp [writeErr, hPlain.power, hAlias, hKind, hMayWrite, hGuard, hWrong, hRange, plainRule]

theorem writeAccess_bit (ha : a < 0x40000) (hMay : mayCommand s m) (hKrw : hasKrw h.fam.fields = false)
    (hTy : (f.ty = .rw ∧ f.ok = []) ∨ f.ty = .w1c) (data : Word) :
    writeAccess m (0x800000 + (a * 32 + b * 4)) data s =
      (.ok, if aliasIdle ⟨h, a, some b⟩ data = true then s else wr s a (bitWritten h.fam.fields b (rd s a) data)) := by
  obtain ⟨hReach, hOwner⟩ := hMay
  have hAligned : (0x800000 + (a * 32 + b * 4)) % 4 = 0 := by omega
  have hLocate : locate (0x800000 + (a * 32 + b * 4)) = some ⟨h, a, some b⟩ := by
    rw [locate_alias hPlain.aligned ha hb, hPlain.reg, Option.map_some]
  have hOld : baseWord s h a = rd s a := baseWord_of_noImage hPlain.image s a
  have hGuard : keyGuarded ⟨h, a, some b⟩ (writeCtx plainRule m ⟨h, a, some b⟩ data s) = false :=
    keyGuarded_bit hPlain hb hField hKrw (by rcases hTy with ⟨h, -⟩ | h <;> simp [h]) _ ⟨_, rfl⟩
  have hNew : (writeCtx plainRule m ⟨h, a, some b⟩ data s).new = bitWritten h.fam.fields b (rd s a) data := by
    simp only [writeCtx, plainRule, if_true, hOld]
    rfl
  rw [writeAccess_found hReach hAligned hLocate, hPlain.rule, writePlace_ok _ _ _ _ _ _ (by rw [hGuard]; exact writeErr_bit hPlain hb hField hOwner hTy rfl hGuard _)]
  simp only [hGuard, Bool.false_eq_true, if_false, applyWrite_of_noImage hPlain.image, hNew]
  congr
  exact meterOver_wr hReach hPlain.not_ownStat _

end

end Sys2Proof.Proofs
end

section
/-! SUPPORT. A write at an address as a command of a master: of a register, of one bit, and one that is refused for its address
(R86, R98 to R100, R104, R106). -/
namespace Sys2Proof.Proofs
open Sys2Proof.Machine

/-! A whole register. -/

theorem addrWrite_writable {s : State} {m : Master} {a : Nat} {p : Place} {d : Word} (h : writable s m a p d false) :
    let t := addrWrite m a d s
    accepts s t m [a] [] ∧ rd t a = writtenWord p.hit.fam.fields (rd s a) d := by
  have hTx := onlyUnlock_beginTx m s
  obtain ⟨u, hu, hWrite⟩ := writeAccess_writable (writable_of_readsAlike h hTx.readsAlike) (fun h => absurd h (by decide))
  rw [hTx.readsAlike.rd] at hWrite
  simp only [addrWrite, hWrite]
  exact ⟨accepts_write (onlyUnlock_trans hTx hu).readsAlike (changesOnly_wr (List.mem_singleton_self a) u _) (by decide), rd_wr_same u a _⟩

/-! One bit. -/

theorem addrWrite_bit {s : State} {m : Master} {a : Nat} {p : Place} {b : Nat} {f : FieldSpec} (ha : a < 0x40000) (hPlace : plainPlace s a p)
    (hMay : mayCommand s m) (hKrw : hasKrw p.hit.fam.fields = false) (hb : b < 32) (hField : bitField p.hit.fam.fields b = some f)
    (hTy : (f.ty = .rw ∧ f.ok = []) ∨ f.ty = .w1c) (d : Word) :
    let t := addrWrite m (0x800000 + (a * 32 + b * 4)) d s
    accepts s t m [a] [] ∧ ∀ k < 32, (rd t a).getLsbD k =
      if k = b then (if f.ty = .rw then d.getLsbD 0 else (rd s a).getLsbD k && !d.getLsbD 0) else (rd s a).getLsbD k := by
  intro t
  obtain ⟨hReg, -⟩ := plainReg_of_plainPlace hPlace
  obtain ⟨hReach, hOwner⟩ := hMay
  have hTx := (onlyUnlock_beginTx m s).readsAlike
  have hWrite := writeAccess_bit (hReg.of_readsAlike hTx) hb hField ha ⟨hTx.reachable hReach, hTx.ownerCode.trans hOwner⟩ hKrw hTy d
  have hBits := fun k hk => getLsbD_bitWritten hReg.reg hb hField (rd s a) d (k := k) hk
  simp only [t, addrWrite, hWrite, hTx.rd]
  split
  next hIdle =>
    refine ⟨accepts_write hTx (changesOnly_refl _ _ _) (by decide), fun k hk => (congrArg (·.getLsbD k) (hTx.rd a)).trans ?_⟩
    simp only [aliasIdle, hField, Bool.and_eq_true, beq_iff_eq] at hIdle
    obtain ⟨hKind, hEven⟩ := hIdle
    have hClear : f.ty = .w1c := by rcases hTy with ⟨h, -⟩ | h <;> simp_all
    have hZero : d.getLsbD 0 = false := by rw [BitVec.getLsbD, Nat.testBit_zero, hEven]; rfl
    rw [hZero, hClear]
    simp only [reduceCtorEq, if_false, Bool.not_false, Bool.and_true, ite_self]
  next =>
    refine ⟨accepts_write hTx (changesOnly_wr (List.mem_singleton_self a) _ _) (by decide), fun k hk => ?_⟩
    refine (congrArg (·.getLsbD k) (rd_wr_same _ a _)).trans ((hBits k hk).trans ?_)
    rcases hTy with ⟨h, -⟩ | h <;> simp [h]

/-! An address that names no register. -/

theorem addrWrite_refused {s : State} (hReach : reachable s) {m : Master} {a : Nat} {d : Word} {e : Err}
    (hWrite : ∀ u, reachable u → writeAccess m a d u = (e, refuse m true a e d u)) : refuses s (addrWrite m a d s) m e := by
  have hTx := (onlyUnlock_beginTx m s).readsAlike
  simp only [addrWrite, hWrite _ (hTx.reachable hReach)]
  exact refuses_refuse hTx _ _ _ _

theorem writeAccess_misaligned {s : State} (hReach : reachable s) {a : Nat} (ha : a % 4 ≠ 0) (m : Master) (d : Word) :
    writeAccess m a d s = (.align, refuse m true a .align d s) := by
  obtain ⟨hRun, hHeld, -⟩ := hReach
  simp [writeAccess, hRun, hHeld, ha]

theorem writeAccess_absent {s : State} (hReach : reachable s) {a : Nat} (ha : a % 4 = 0) (hLocate : locate a = none) (m : Master) (d : Word) :
    writeAccess m a d s = (.addr, refuse m true a .addr d s) := by
  obtain ⟨hRun, hHeld, -⟩ := hReach
  simp [writeAccess, hRun, hHeld, ha, hLocate]

/-- Settles O20: a write reaches the register that its address names, and there each field by its type. -/
theorem registerAndAliasWrites : Obligations.RegisterAndAliasWrites := by
  unfold Obligations.RegisterAndAliasWrites
  intro m a p data s
  refine ⟨fun hWritable _ => ⟨_, rfl, addrWrite_writable hWritable⟩, fun b f off ha hPlace hMay hKrw hField hOff => ?_,
    fun hReach hAlign => ⟨_, rfl, addrWrite_refused hReach fun u hu => writeAccess_misaligned hu hAlign m data⟩,
    fun hReach hAlign hLocate => ⟨_, rfl, addrWrite_refused hReach fun u hu => writeAccess_absent hu hAlign hLocate m data⟩⟩
  have hExec : exec (.aliasWrite m off data) s = .next (addrWrite m (0x800000 + (a.toNat * 32 + b.val * 4)) data s) := by
    rw [← hOff]
    rfl
  refine ⟨fun hTy hOk => ?_, fun hTy => ?_⟩
  · obtain ⟨hAccepts, hBits⟩ := addrWrite_bit ha hPlace hMay hKrw b.isLt hField (.inl ⟨hTy, hOk⟩) data
    exact ⟨_, hExec, hAccepts, fun k hk => by rw [hBits k hk, if_pos hTy]⟩
  · obtain ⟨hAccepts, hBits⟩ := addrWrite_bit ha hPlace hMay hKrw b.isLt hField (.inr hTy) data
    refine ⟨_, hExec, hAccepts, fun k hk => ?_⟩
    have hOther : ¬ f.ty = .rw := by rw [hTy]; decide
    rw [hBits k hk, if_neg hOther]
    by_cases hSame : k = b.val
    · cases data.getLsbD 0 <;> simp only [hSame, true_and, if_true, Bool.not_true, Bool.not_false, Bool.and_true, Bool.and_false,
        Bool.false_eq_true, if_false]
    · simp only [hSame, false_and, if_false]

end Sys2Proof.Proofs
end

section
/-! SUPPORT. The frames of the host SPI port: one access, a burst of them, a keyed write, and no access (R94, R116 to R120). -/
namespace Sys2Proof.Proofs
open Sys2Proof.Machine

/-! Reads. -/

theorem hspiRead_plain {s : State} {a : Nat} {p : Place} (hPlace : plainPlace s a p) (hReach : reachable s) :
    hspiRead a s = setReply (.spi (0x50 :: wordLe (rd s a))) (beginTx .host s) := by
  have hTx := (onlyUnlock_beginTx .host s).readsAlike
  obtain ⟨hReg, -⟩ := plainReg_of_plainPlace hPlace
  obtain ⟨hRun, hHeld, -⟩ := hTx.reachable hReach
  simp only [hspiRead, readAccess_plain (hReg.of_readsAlike hTx) hRun hHeld, hTx.rd]
  rfl

theorem burstRead_plain {s : State} (hReach : reachable s) (n : Nat) {a : Nat} (h : ∀ k < n, ∃ p, plainPlace s (a + 4 * k) p) :
    burstRead n a s = ((List.range n).flatMap fun k => 0x50 :: wordLe (rd s (a + 4 * k)), s) := by
  induction n generalizing a with
  | zero => rfl
  | succ n ih =>
    obtain ⟨p, hPlace⟩ := h 0 (Nat.succ_pos n)
    have hReg : PlainReg s a p.hit := (plainReg_of_plainPlace hPlace).1
    have hNext : ∀ k < n, ∃ p, plainPlace s (a + 4 + 4 * k) p := fun k hk => by
      rw [show a + 4 + 4 * k = a + 4 * (k + 1) by omega]
      exact h (k + 1) (by omega)
    have hShift (k : Nat) : a + 4 + 4 * k = a + 4 * (k + 1) := by omega
    obtain ⟨hRun, hHeld, -⟩ := id hReach
    simp only [burstRead, readAccess_plain hReg hRun hHeld, if_true, ih hNext, List.range_succ_eq_map, List.flatMap_cons, List.flatMap_map, hShift]
    rfl

theorem hspiBurstRead_plain {s : State} (hReach : reachable s) {n a : Nat} (h : ∀ k < n, ∃ p, plainPlace s (a + 4 * k) p) :
    hspiBurstRead a n s = setReply (.spi ((List.range n).flatMap fun k => 0x50 :: wordLe (rd s (a + 4 * k)))) (beginTx .host s) := by
  have hTx := (onlyUnlock_beginTx .host s).readsAlike
  have hPlaces : ∀ k < n, ∃ p, plainPlace (beginTx .host s) (a + 4 * k) p := fun k hk => by
    obtain ⟨p, hAligned, hLocate, hBit, hRule, hImage, hPower, hFam⟩ := h k hk
    exact ⟨p, hAligned, hLocate, hBit, hRule, hImage, (hTx.domainOff _).trans hPower, hFam⟩
  simp only [hspiBurstRead, burstRead_plain (hTx.reachable hReach) n hPlaces, hTx.rd]

theorem hspiRead_misaligned {s : State} (hReach : reachable s) {a : Nat} (ha : a % 4 ≠ 0) :
    hspiRead a s = setReply (.spi [0x51, 0, 0, 0, 0]) (refuse .host false a .align 0 (beginTx .host s)) := by
  obtain ⟨hRun, hHeld, -⟩ := (onlyUnlock_beginTx .host s).readsAlike.reachable hReach
  have hRead : readAccess .host a (beginTx .host s) = (.align, 0, refuse .host false a .align 0 (beginTx .host s)) := by
    simp [readAccess, hRun, hHeld, ha]
  simp only [hspiRead, hRead]
  rfl

/-! What a frame leaves, from what its access does. -/

/-- Nothing differs but the unlock of the port, and the reply. -/
theorem keeps_reply {s u : State} {l : List Part} (h : keeps s u l) (r : Reply) : keeps s (setReply r u) (.reply :: l) := fun p hp => by
  simp only [List.mem_cons, not_or] at hp
  obtain ⟨hpReply, hpRest⟩ := hp
  exact (setReply_same _ _ (by simpa using hpReply)).mpr (h p hpRest)

/-- A frame that reads answers its bytes and ends in a state of which only the unlock of the port may differ. -/
theorem spi_reads {s : State} {u : State} (hu : onlyUnlock s u .host) (b : List Byte) :
    let t := setReply (.spi b) u
    keeps s t [.reply, .unlock] ∧ onlyUnlockOf s t .host ∧ t.reply = .spi b := ⟨keeps_reply hu.1 _, hu.2, rfl⟩

/-- A refused access, after which the unlock may end. -/
theorem spi_refused {s u : State} (hu : onlyUnlock s u .host) (w : Bool) (a : Nat) (e : Err) (d : Word) (b : List Byte) :
    let t := setReply (.spi b) (refuse .host w a e d u)
    t.reply = .spi b ∧ keepsRegs s t (errorRegs .host) ∧ keeps s t [.regs, .reply, .unlock, .events] := by
  refine ⟨rfl, fun r hr => (keepsRegs_refuse .host w a e d u r hr).trans (hu.readsAlike.rd r), ?_⟩
  exact keeps_mono (keeps_reply (keeps_trans (keeps_mono hu.1 (by decide)) (keeps_mono (keeps_refuse .host w a e d u) (by decide)) :
    keeps s _ [.regs, .unlock, .events]) _) (by decide)

/-! Writes. -/

/-- A frame that wrote a register answers its bytes; the unlock of the port may differ. -/
theorem spi_writes {s u : State} (hu : onlyUnlock s u .host) (a : Nat) (w : Word) (b : List Byte) :
    let t := setReply (.spi b) (wr u a w)
    keepsRegs s t [a] ∧ keeps s t [.regs, .reply, .unlock] ∧ onlyUnlockOf s t .host ∧ t.reply = .spi b := by
  obtain ⟨hRegs, hKeep⟩ := changesOnly_wr (List.mem_singleton_self a) u w
  refine ⟨fun r hr => (hRegs r hr).trans (hu.readsAlike.rd r), ?_, hu.2, rfl⟩
  exact keeps_mono (keeps_reply (keeps_trans (keeps_mono hu.1 (by decide)) (keeps_mono hKeep (by decide)) : keeps s _ [.regs, .unlock]) _) (by decide)

theorem hspiWrite_writable {s : State} {a : Nat} {p : Place} {d : Word} (h : writable s .host a p d false) :
    ∃ u, onlyUnlock s u .host ∧ hspiWrite a d s = setReply (.spi [0x50]) (wr u a (writtenWord p.hit.fam.fields (rd s a) d)) := by
  have hTx := onlyUnlock_beginTx .host s
  obtain ⟨u, hu, hWrite⟩ := writeAccess_writable (writable_of_readsAlike h hTx.readsAlike) (fun h => absurd h (by decide))
  refine ⟨u, onlyUnlock_trans hTx hu, ?_⟩
  simp only [hspiWrite, hWrite, hTx.readsAlike.rd]
  rfl

/-- A keyed write ends the unlock that it held (R94). -/
theorem keyedAccess_writable {s : State} {m : Master} {a : Nat} {p : Place} {d : Word} (h : writable s m a p d true) :
    ∃ u, onlyUnlock s u m ∧
      keyedAccess m 0xB7E1 a d s = (.ok, setUnlock m .no (wr u a (writtenWord p.hit.fam.fields (rd s a) d))) := by
  have hHeld := onlyUnlock_setUnlock m .held s
  obtain ⟨-, ⟨hReach, -⟩, -⟩ := id h
  obtain ⟨u, hu, hWrite⟩ := writeAccess_writable (writable_of_readsAlike h hHeld.readsAlike) (fun _ => unlocked_setUnlock_held m s)
  refine ⟨u, onlyUnlock_trans hHeld hu, ?_⟩
  simp only [keyedAccess, keyedWith_key m a d _ s hReach, hWrite, hHeld.readsAlike.rd]

theorem setUnlock_wr (m : Master) (l : Unlock) (s : State) (a : Nat) (w : Word) : setUnlock m l (wr s a w) = wr (setUnlock m l s) a w := rfl

theorem hspiKeyed_writable {s : State} {a : Nat} {p : Place} {d : Word} (h : writable s .host a p d true) :
    ∃ u, onlyUnlock s u .host ∧ unlockOf u .host = .no ∧
      hspiKeyed 0xB7E1 a d s = setReply (.spi [0x50]) (wr u a (writtenWord p.hit.fam.fields (rd s a) d)) := by
  have hTx := onlyUnlock_beginTx .host s
  obtain ⟨u, hu, hWrite⟩ := keyedAccess_writable (writable_of_readsAlike h hTx.readsAlike)
  refine ⟨_, onlyUnlock_trans (onlyUnlock_trans hTx hu) (onlyUnlock_setUnlock .host .no u), unlockOf_setUnlock_same .host _ u, ?_⟩
  simp only [hspiKeyed, hWrite, hTx.readsAlike.rd, setUnlock_wr]
  rfl

theorem hspiKeyed_wrongKey {s : State} (hReach : reachable s) {key : BitVec 16} (hKey : key ≠ 0xB7E1) (a : Nat) (d : Word) :
    hspiKeyed key a d s = setReply (.spi [0x57]) (refuse .host true a .key d (setUnlock .host .no (beginTx .host s))) := by
  have hTx := onlyUnlock_beginTx .host s
  simp only [hspiKeyed, keyedAccess, keyedWith_wrong .host key a d _ _ (hTx.readsAlike.reachable hReach) hKey]
  rfl

/-! Bursts of writes: a write leaves what the next one needs. -/

theorem bitsOf_congr {v w : Word} {hi lo : Nat} (h : ∀ i, lo ≤ i → i ≤ max lo hi → v.getLsbD i = w.getLsbD i) :
    bitsOf v hi lo = bitsOf w hi lo := by
  refine Nat.eq_of_testBit_eq fun i => ?_
  simp only [bitsOf, Nat.testBit_mod_two_pow, Nat.testBit_div_two_pow]
  by_cases hi' : i < hi - lo + 1
  · simp only [hi', decide_true, Bool.true_and]
    exact h (i + lo) (by omega) (by omega)
  · simp only [hi', decide_false, Bool.false_and]

/-- A write keeps the bits that no field of a written type holds. -/
theorem getLsbD_writtenWord_kept {fs : List FieldSpec} {i : Nat} (hLoad : (loadMask true fs).getLsbD i = false)
    (hClear : (typeMask .w1c fs).getLsbD i = false) (old d : Word) : (writtenWord fs old d).getLsbD i = old.getLsbD i := by
  simp only [writtenWord, BitVec.getLsbD_and, BitVec.getLsbD_or, BitVec.getLsbD_not, hLoad, hClear]
  cases hBit : old.getLsbD i with
  | false => simp
  | true => simp [BitVec.lt_of_getLsbD hBit]

theorem regAt_startupStat : regAt A.STARTUP_STAT = some ⟨Reg.STARTUP_STAT, []⟩ := by decide +kernel

theorem phase_written {s u : State} {a : Nat} {h : RegHit} {m : Master} (hReg : regAt a = some h) (hu : readsAlike s u m) (d : Word) :
    phase (wr u a (writtenWord h.fam.fields (rd s a) d)) = phase s := by
  by_cases ha : a = A.STARTUP_STAT
  · subst ha
    obtain rfl := Option.some.inj (hReg.symm.trans regAt_startupStat)
    have hKept : ∀ i ≤ 3, (loadMask true Reg.STARTUP_STAT.fields).getLsbD i = false ∧ (typeMask .w1c Reg.STARTUP_STAT.fields).getLsbD i = false := by
      decide
    simp only [phase, fget, rd_wr_same]
    exact bitsOf_congr fun i _ hi => getLsbD_writtenWord_kept (hKept i hi).1 (hKept i hi).2 _ d
  · exact (fget_of_rd (rd_wr_other u a A.STARTUP_STAT _ (Ne.symm ha))).trans (hu.fget F.STARTUP_STAT_PHASE)

/-- After a write the next one of the burst is in order. -/
theorem writable_wr {s u : State} {m n : Master} {a b : Nat} {p q : Place} {d e : Word} (h : writable s m a p d false)
    (hNext : writable s m b q e false) (hApart : b ≠ a) (hu : readsAlike s u n) :
    writable (wr u a (writtenWord p.hit.fam.fields (rd s a) d)) m b q e false := by
  obtain ⟨hPlace, -⟩ := h
  obtain ⟨hReg, -⟩ := plainReg_of_plainPlace hPlace
  obtain ⟨⟨hAligned, hLocate, hBit, hRule, hImage, hPower, hFam⟩, ⟨hReach, hOwner⟩, hFields, hRange, hKey⟩ := hNext
  obtain ⟨hRun, hHeld, hMeter⟩ := hReach
  have hPhase := phase_written hReg.reg hu d
  have hOwnerKept : ownerCode (wr u a (writtenWord p.hit.fam.fields (rd s a) d)) = ownerCode s :=
    (fget_of_rd (rd_wr_other u a A.OWN_STAT _ hReg.not_ownStat.symm)).trans hu.ownerCode
  have hDomain := hu.domainOff (domainOf q.hit)
  generalize hWord : writtenWord p.hit.fam.fields (rd s a) d = w at hPhase hOwnerKept ⊢
  refine ⟨⟨hAligned, hLocate, hBit, hRule, hImage, ?_, hFam⟩, ⟨⟨?_, ?_, fun hEnd => ?_⟩, hOwnerKept.trans hOwner⟩, hFields, ?_, hKey⟩
  · exact hDomain.trans hPower
  · have hSup : (wr u a w).sup = s.sup := hu.sup
    have hStart : (wr u a w).start = s.start := hu.start
    simpa only [running, powered, hPhase, hSup, hStart] using hRun
  · exact (show sysHeld (wr u a w) = sysHeld u from rfl).trans (hu.sysHeld.trans hHeld)
  · exact hOwnerKept.trans (hMeter (hu.svc ▸ hEnd))
  · rwa [rd_wr_other u a b w hApart, hu.rd]

/-- The addresses of a burst of n words from address a on. -/
def burstRegs (a n : Nat) : List Nat := (List.range n).map fun k => a + 4 * k

theorem mem_burstRegs {a n r : Nat} : r ∈ burstRegs a n ↔ ∃ k < n, r = a + 4 * k := by
  simp [burstRegs, eq_comm]

/-- What a burst of writes leaves. -/
structure BurstWritten (s : State) (a : Nat) (ws : List Word) (v : State) : Prop where
  parts : keeps s v [.regs, .unlock]
  unlock : onlyUnlockOf s v .host
  regs : keepsRegs s v (burstRegs a ws.length)
  words : ∀ k < ws.length, ∀ p, locate (a + 4 * k) = some p →
    rd v (a + 4 * k) = writtenWord p.hit.fam.fields (rd s (a + 4 * k)) (ws.getD k 0)

theorem burstWrite_writable (ws : List Word) {a : Nat} {s : State}
    (h : ∀ k < ws.length, ∃ p, writable s .host (a + 4 * k) p (ws.getD k 0) false) :
    ∃ v, burstWrite ws a s = (List.replicate ws.length 0x50, v) ∧ BurstWritten s a ws v := by
  induction ws generalizing a s with
  | nil => exact ⟨s, rfl, keeps_refl s _, fun _ _ => rfl, keepsRegs_refl s _, fun k hk => absurd hk (Nat.not_lt_zero k)⟩
  | cons w ws ih =>
    obtain ⟨p, hFirst⟩ := h 0 (Nat.succ_pos _)
    replace hFirst : writable s .host a p w false := hFirst
    obtain ⟨u, hu, hWrite⟩ := writeAccess_writable hFirst (fun h => absurd h (by decide))
    generalize hWord : writtenWord p.hit.fam.fields (rd s a) w = w' at hWrite
    have hShift (k : Nat) : a + 4 + 4 * k = a + 4 * (k + 1) := by omega
    obtain ⟨v, hRest, hParts, hUnlock, hRegs, hWords⟩ := ih (a := a + 4) (s := wr u a w') fun k hk => by
      obtain ⟨q, hNext⟩ := h (k + 1) (Nat.succ_lt_succ hk)
      rw [hShift, ← hWord]
      exact ⟨q, writable_wr hFirst hNext (by omega) hu.readsAlike⟩
    obtain ⟨hWrRegs, hWrParts⟩ := changesOnly_wr (List.mem_singleton_self a) u w'
    have hOutside {r : Nat} (hr : r ≠ a) : rd (wr u a w') r = rd s r := (rd_wr_other u a r w' hr).trans (hu.readsAlike.rd r)
    refine ⟨v, by simp only [burstWrite, hWrite, if_true, hRest]; rfl, ?_, ?_, ?_, ?_⟩
    · exact keeps_trans (keeps_trans (keeps_mono hu.1 (by decide)) (keeps_mono hWrParts (by decide))) hParts
    · exact fun n hn => (hUnlock n hn).trans (hu.2 n hn)
    · intro r hr
      have hHead : r ≠ a := fun hIs => hr (mem_burstRegs.mpr ⟨0, Nat.succ_pos _, hIs⟩)
      refine (hRegs r fun hIn => hr ?_).trans (hOutside hHead)
      obtain ⟨k, hk, hIs⟩ := mem_burstRegs.mp hIn
      exact mem_burstRegs.mpr ⟨k + 1, Nat.succ_lt_succ hk, hIs.trans (hShift k)⟩
    · intro k hk q hLocate
      cases k with
      | zero =>
        obtain ⟨⟨-, hFound, -⟩, -⟩ := hFirst
        obtain rfl := Option.some.inj (hFound.symm.trans hLocate)
        have hLater : a ∉ burstRegs (a + 4) ws.length := fun hIn => by
          obtain ⟨k, -, hIs⟩ := mem_burstRegs.mp hIn
          omega
        exact (hRegs a hLater).trans ((rd_wr_same u a w').trans hWord.symm)
      | succ k =>
        have hNext := hWords k (Nat.lt_of_succ_lt_succ hk) q (by rw [hShift]; exact hLocate)
        rw [hShift, hOutside (by omega)] at hNext
        exact hNext

theorem hspiBurstWrite_writable {s : State} {a : Nat} {ws : List Word}
    (h : ∀ k < ws.length, ∃ p, writable s .host (a + 4 * k) p (ws.getD k 0) false) :
    ∃ v, hspiBurstWrite a ws s = setReply (.spi (List.replicate ws.length 0x50)) v ∧ BurstWritten s a ws v := by
  have hTx := onlyUnlock_beginTx .host s
  obtain ⟨v, hBurst, hParts, hUnlock, hRegs, hWords⟩ := burstWrite_writable ws (s := beginTx .host s) (a := a) fun k hk => by
    obtain ⟨p, hWritable⟩ := h k hk
    exact ⟨p, writable_of_readsAlike hWritable hTx.readsAlike⟩
  refine ⟨v, by simp only [hspiBurstWrite, hBurst], keeps_trans (keeps_mono hTx.1 (by decide)) hParts, fun n hn => (hUnlock n hn).trans (hTx.2 n hn),
    fun r hr => (hRegs r hr).trans (hTx.readsAlike.rd r), fun k hk p hLocate => ?_⟩
  rw [hWords k hk p hLocate, hTx.readsAlike.rd]

/-! No access. -/

theorem onlyUnlock_earlyRise (started : Bool) (s : State) : onlyUnlock s (onlyIf started (beginTx .host) s) .host := by
  cases started with
  | false => exact onlyUnlock_refl s .host
  | true => exact onlyUnlock_beginTx .host s

/-- Settles O21: each frame begins a transaction of the host, makes its accesses and answers their statuses. -/
theorem hostSpiFrames : Obligations.HostSpiFrames := by
  unfold Obligations.HostSpiFrames
  intro a data s reads writes
  have hTx := onlyUnlock_beginTx .host s
  refine ⟨fun hReach => ⟨fun p hPlace => ?_, fun n hPlaces => ?_, fun hAlign => ?_⟩, fun p hWritable _ => ?_, fun p hWritable _ => ?_,
    fun key hKey hReach => ?_, fun ws hWritable => ?_, fun b hByte => ?_, fun started => ?_⟩
  · exact ⟨_, congrArg Host.Outcome.next (hspiRead_plain hPlace hReach), spi_reads hTx _⟩
  · refine ⟨_, congrArg Host.Outcome.next (hspiBurstRead_plain hReach fun k hk => hPlaces k (Nat.le_of_lt_succ hk)), spi_reads hTx _⟩
  · exact ⟨_, congrArg Host.Outcome.next (hspiRead_misaligned hReach hAlign), spi_refused hTx _ _ _ _ _⟩
  · obtain ⟨u, hu, hWrite⟩ := hspiWrite_writable hWritable
    exact ⟨_, congrArg Host.Outcome.next hWrite, spi_writes hu _ _ _, rd_wr_same u _ _⟩
  · obtain ⟨u, hu, hShut, hWrite⟩ := hspiKeyed_writable hWritable
    exact ⟨_, congrArg Host.Outcome.next hWrite, spi_writes hu _ _ _, hShut, rd_wr_same u _ _⟩
  · have hu := onlyUnlock_trans hTx (onlyUnlock_setUnlock .host .no _)
    obtain ⟨hReply, hRegs, hParts⟩ := spi_refused hu true a.toNat .key data [0x57]
    refine ⟨_, congrArg Host.Outcome.next (hspiKeyed_wrongKey hReach hKey _ _), hReply, hRegs, hParts, ?_⟩
    rw [unlockOf_setReply, unlockOf_refuse, unlockOf_setUnlock_same]
  · obtain ⟨v, hWrite, hParts, hUnlock, hRegs, hWords⟩ := hspiBurstWrite_writable (s := s) (a := a.toNat) (ws := data :: ws) fun k hk => by
      obtain ⟨p, -, hWord⟩ := hWritable k (Nat.le_of_lt_succ hk)
      exact ⟨p, hWord⟩
    exact ⟨_, congrArg Host.Outcome.next hWrite, rfl, keeps_mono (keeps_reply hParts _) (by decide), hRegs,
      fun k hk => hWords k (Nat.lt_succ_of_le hk)⟩
  · have hOther : [0x03, 0x02, 0x12, 0x0B, 0x0A].contains b = false := by simpa using hByte
    refine ⟨_, ?_, spi_reads hTx [0xFF]⟩
    change Host.Outcome.next (if [0x03, 0x02, 0x12, 0x0B, 0x0A].contains b = true then s else _) = _
    rw [hOther]
    rfl
  · exact ⟨_, rfl, spi_reads (onlyUnlock_earlyRise started s) []⟩

end Sys2Proof.Proofs
end

section
/-! SUPPORT. What a refused access notes: the error registers of its master and one event of the recorder's front (R104, R107). -/
namespace Sys2Proof.Proofs
open Sys2Proof.Machine

/-! The recorder's front takes an event as its own contents say. -/

/-- The recorder and the counts of its front are the same. -/
def frontAlike (s t : State) : Prop := t.agate = s.agate ∧ ∀ r ∈ noteRegs, rd t r = rd s r

theorem frontAlike_trans {s t u : State} (h : frontAlike s t) (h' : frontAlike t u) : frontAlike s u :=
  ⟨h'.1.trans h.1, fun r hr => (h'.2 r hr).trans (h.2 r hr)⟩

theorem rd_fset_congr {s t : State} {f : Fld} {r : Nat} (v : Nat) (hReg : rd t f.reg = rd s f.reg) (h : rd t r = rd s r) :
    rd (fset t f v) r = rd (fset s f v) r := by
  by_cases hr : r = f.reg
  · subst hr
    simp only [fset, rd_wr_same, hReg]
  · rw [rd_fset _ _ _ _ hr, rd_fset _ _ _ _ hr, h]

theorem frontAlike_fset {s t : State} (h : frontAlike s t) {f : Fld} (hf : f.reg ∈ noteRegs) (v : Nat) : frontAlike (fset s f v) (fset t f v) :=
  ⟨h.1, fun r hr => rd_fset_congr v (h.2 _ hf) (h.2 r hr)⟩

theorem frontAlike_fsat {s t : State} (h : frontAlike s t) {f : Fld} (hf : f.reg ∈ noteRegs) (d : Nat) : frontAlike (fsat s f d) (fsat t f d) := by
  have hField : fget t f = fget s f := fget_of_rd (h.2 _ hf)
  rw [fsat, fsat, hField]
  exact frontAlike_fset h hf _

theorem frontAlike_dropEvent {s t : State} (h : frontAlike s t) {e : Event} (hSev : e.sev < 8) : frontAlike (dropEvent e s) (dropEvent e t) :=
  frontAlike_fset (f := F.AGATE_STAT_DROP_INGEST) (frontAlike_fsat (f := F.AGATE_DROP_COUNT e.sev) h (AGATE_DROP_mem _ hSev) 1)
    AGATE_STAT_mem 1

theorem frontAlike_coalesce {s t : State} (h : frontAlike s t) (e : Event) (f : Flood) : frontAlike (coalesce e f s) (coalesce e f t) := by
  have hFront : frontAlike { s with agate := { s.agate with flood := some (suppress (sourceNum e) f) } }
      { t with agate := { t.agate with flood := some (suppress (sourceNum e) f) } } :=
    ⟨congrArg (fun x : Recorder => { x with flood := some (suppress (sourceNum e) f) }) h.1, fun r hr => h.2 r hr⟩
  exact frontAlike_fsat (f := F.AGATE_SUPP_COUNT) hFront AGATE_SUPP_mem 1

theorem frontAlike_raiseEvent {s t : State} (h : frontAlike s t) {e : Event} (hSev : e.sev < 8) :
    frontAlike (raiseEvent e s) (raiseEvent e t) := by
  have hWaiting : waitingFrom t e = waitingFrom s e := by simp only [waitingFrom, h.1]
  simp only [raiseEvent, hWaiting, h.1]
  generalize (if e.kind = .log then decide ((s.agate.waiting.filter (fun x => x.kind == .log)).length < 1024)
    else decide (6 ≤ e.sev) || decide (waitingFrom s e < 4)) = room
  cases room
  case true => exact ⟨rfl, h.2⟩
  case false =>
    rw [if_neg (by decide), if_neg (by decide)]
    split
    · split
      · exact frontAlike_coalesce h e _
      · exact frontAlike_dropEvent h hSev
    · exact frontAlike_dropEvent h hSev

theorem agate_of_same {s t : State} (hEvents : Part.events.same s t) (hRecords : Part.records.same s t) (hReader : Part.reader.same s t) :
    t.agate = s.agate := by
  obtain ⟨hWaiting, hQueue, hFlood⟩ := hEvents
  obtain ⟨hStore, hSeq, hSevere⟩ := hRecords
  obtain ⟨hSel, hReady⟩ := hReader
  cases hT : t.agate
  cases hS : s.agate
  simp_all

theorem frontAlike_of_onlyUnlock {s t : State} {m : Master} (h : onlyUnlock s t m) : frontAlike s t :=
  ⟨agate_of_same (h.1 .events (by decide)) (h.1 .records (by decide)) (h.1 .reader (by decide)), fun r _ => h.readsAlike.rd r⟩

/-! What a refusal notes. -/

/-- The refusal of an access of master m at address a is noted in its error registers and handed to the recorder's front, and
nothing else is. -/
def refusalNoted (s t : State) (m : Master) (write : Bool) (a code sev : Nat) (d : Word) : Prop :=
  let u := raise sev 14 m.num .accessRefused ([(m.num : Int), (a : Int), (code : Int)] ++ if write then [(d.toNat : Int)] else []) s
  flag t (F.ACC_ERR_LAST_WRITE m.num) = write ∧ fget t (F.ACC_ERR_LAST_CODE m.num) = code ∧ fget t (F.ACC_ERR_LAST_ADDRESS m.num) = a ∧
  fget t (F.ACC_ERR_CNT_COUNT m.num) = min (2 ^ (F.ACC_ERR_CNT_COUNT m.num).width - 1) (fget s (F.ACC_ERR_CNT_COUNT m.num) + 1) ∧
  t.agate = u.agate ∧ ∀ r ∈ noteRegs, rd t r = rd u r

/-- The error registers of a master after a refusal. -/
def errNoted (m : Master) (w : Bool) (a : Nat) (e : Err) (s : State) : State :=
  fsat (fset (fset (fbool s (F.ACC_ERR_LAST_WRITE m.num) w) (F.ACC_ERR_LAST_CODE m.num) e.num) (F.ACC_ERR_LAST_ADDRESS m.num) a)
    (F.ACC_ERR_CNT_COUNT m.num) 1

theorem refuse_reachable {s : State} (hReach : reachable s) (m : Master) (w : Bool) (a : Nat) (e : Err) (d : Word) :
    refuse m w a e d s = raise e.severity 14 m.num .accessRefused ([(m.num : Int), a, e.num] ++ (if w then [(d.toNat : Int)] else []))
      (errNoted m w a e s) := by
  obtain ⟨hRun, hHeld, -⟩ := hReach
  simp only [refuse, hRun, hHeld, Bool.not_true, Bool.or_self, Bool.false_eq_true, if_false, errNoted]

theorem Master.num_lt (m : Master) : m.num < 3 := by cases m <;> decide

theorem frontAlike_errNoted (m : Master) (w : Bool) (a : Nat) (e : Err) (s : State) : frontAlike s (errNoted m w a e s) := by
  refine ⟨rfl, fun r hr => ?_⟩
  have hLow := le_of_mem_noteRegs hr
  have hNum := Master.num_lt m
  have hLast : r ≠ A.ACC_ERR_LAST m.num := by simp only [A.ACC_ERR_LAST]; omega
  have hCnt : r ≠ A.ACC_ERR_CNT m.num := by simp only [A.ACC_ERR_CNT]; omega
  simp only [errNoted]
  rw [rd_fsat _ _ _ _ hCnt, rd_fset _ _ _ _ hLast, rd_fset _ _ _ _ hLast, rd_fbool _ _ _ _ hLast]

theorem Err.num_lt (e : Err) : e.num < 16 := by cases e <;> decide

theorem errNoted_fields (m : Master) (w : Bool) {a : Nat} (ha : a < 2 ^ 24) (e : Err) (s : State) :
    let t := errNoted m w a e s
    flag t (F.ACC_ERR_LAST_WRITE m.num) = w ∧ fget t (F.ACC_ERR_LAST_CODE m.num) = e.num ∧ fget t (F.ACC_ERR_LAST_ADDRESS m.num) = a ∧
      fget t (F.ACC_ERR_CNT_COUNT m.num) = min (2 ^ (F.ACC_ERR_CNT_COUNT m.num).width - 1) (fget s (F.ACC_ERR_CNT_COUNT m.num) + 1) := by
  have hApart : A.ACC_ERR_LAST m.num ≠ A.ACC_ERR_CNT m.num := by simp only [A.ACC_ERR_LAST, A.ACC_ERR_CNT]; omega
  simp only [errNoted]
  refine ⟨?_, ?_, ?_, ?_⟩
  · rw [fsat, flag_fset_reg (f := F.ACC_ERR_CNT_COUNT m.num) (k := F.ACC_ERR_LAST_WRITE m.num) _ _ hApart,
      flag_fset_apart (f := F.ACC_ERR_LAST_ADDRESS m.num) (k := F.ACC_ERR_LAST_WRITE m.num) _ _ rfl (by simp),
      flag_fset_apart (f := F.ACC_ERR_LAST_CODE m.num) (k := F.ACC_ERR_LAST_WRITE m.num) _ _ rfl (by simp), fbool,
      flag_fset_bit _ rfl (by simp)]
  · rw [fsat, fget_fset_reg _ (F.ACC_ERR_CNT_COUNT m.num) (F.ACC_ERR_LAST_CODE m.num) _ hApart,
      fget_fset_apart (f := F.ACC_ERR_LAST_ADDRESS m.num) (k := F.ACC_ERR_LAST_CODE m.num) _ _ rfl (by simp),
      fget_fset_same _ _ _ (by simp) (by simp)]
    exact Nat.mod_eq_of_lt (Err.num_lt e)
  · rw [fsat, fget_fset_reg _ (F.ACC_ERR_CNT_COUNT m.num) (F.ACC_ERR_LAST_ADDRESS m.num) _ hApart,
      fget_fset_same _ _ _ (by simp) (by simp)]
    exact Nat.mod_eq_of_lt ha
  · rw [fget_fsat _ _ (by simp) (by simp), fget_fset_reg _ _ _ _ hApart.symm, fget_fset_reg _ _ _ _ hApart.symm, fbool,
      fget_fset_reg _ _ _ _ hApart.symm]
    rfl

theorem fget_refuse {s : State} (hReach : reachable s) (m : Master) (w : Bool) (a : Nat) (e : Err) (d : Word) {f : Fld} (hf : f.reg < 0xe0004) :
    fget (refuse m w a e d s) f = fget (errNoted m w a e s) f := by
  rw [refuse_reachable hReach, fget_raise (Err.severity_lt e) _ _ _ _ _ hf]

theorem errorRegs_low (m : Master) : A.ACC_ERR_LAST m.num < 0xe0004 ∧ A.ACC_ERR_CNT m.num < 0xe0004 := by cases m <;> decide

theorem refusalNoted_refuse {s u : State} (hReach : reachable u) (hFront : frontAlike s u) (m : Master)
    (hCnt : rd u (A.ACC_ERR_CNT m.num) = rd s (A.ACC_ERR_CNT m.num)) (w : Bool) {a : Nat} (ha : a < 2 ^ 24) (e : Err) (d : Word) :
    refusalNoted s (refuse m w a e d u) m w a e.num e.severity d := by
  obtain ⟨hLast, hCount⟩ := errorRegs_low m
  obtain ⟨hWrite, hCode, hAddress, hRose⟩ := errNoted_fields m w ha e u
  have hRaised := frontAlike_raiseEvent (frontAlike_trans hFront (frontAlike_errNoted m w a e u))
    (e := mkEvent e.severity 14 m.num .accessRefused ([(m.num : Int), a, e.num] ++ (if w then [(d.toNat : Int)] else []))) (Err.severity_lt e)
  refine ⟨?_, ?_, ?_, ?_, ?_⟩
  · rw [flag, fget_refuse hReach m w a e d hLast]
    exact hWrite
  · exact (fget_refuse hReach m w a e d hLast).trans hCode
  · exact (fget_refuse hReach m w a e d hLast).trans hAddress
  · rw [fget_refuse hReach m w a e d hCount, hRose, fget_of_rd hCnt]
  · rw [refuse_reachable hReach]
    exact hRaised

theorem refusalNoted_of_onlyUnlock {s u : State} {n : Master} (hReach : reachable s) (hu : onlyUnlock s u n) (m : Master) (w : Bool) {a : Nat}
    (ha : a < 2 ^ 24) (e : Err) (d : Word) : refusalNoted s (refuse m w a e d u) m w a e.num e.severity d :=
  refusalNoted_refuse (hu.readsAlike.reachable hReach) (frontAlike_of_onlyUnlock hu) m (hu.readsAlike.rd _) w ha e d

/-- What is noted does not depend on the reply or on what the ports hold. -/
theorem refusalNoted_of_same {s t t' : State} {m : Master} {w : Bool} {a code sev : Nat} {d : Word} (h : refusalNoted s t m w a code sev d)
    (hRegs : t'.regs = t.regs) (hAgate : t'.agate = t.agate) : refusalNoted s t' m w a code sev d := by
  obtain ⟨hWrite, hCode, hAddress, hCount, hFront, hNotes⟩ := h
  have hField := fun f => fget_congr hRegs f
  refine ⟨(flag_congr hRegs _).trans hWrite, (hField _).trans hCode, (hField _).trans hAddress, (hField _).trans hCount, hAgate.trans hFront,
    fun r hr => (rd_congr hRegs r).trans (hNotes r hr)⟩

/-! Every refused access at an address ends in a refusal. -/

theorem writePlace_refuses {r : RegRule} {m : Master} {sh : Nat} {p : Place} {d : Word} {s : State} (h : (writePlace r m sh p d s).1 ≠ .ok) :
    ∃ u, onlyUnlock s u m ∧ (writePlace r m sh p d s).2 = refuse m true sh (writePlace r m sh p d s).1 d u := by
  have hSpent := onlyUnlock_keySpent m p (writeCtx r m p d s) s
  generalize hErr : writeErr r m p (writeCtx r m p d s) (unlocked s m) (keySpent m p (writeCtx r m p d s) s) = e
  by_cases he : e = .ok
  · rw [he] at hErr
    rw [writePlace_ok r m sh p d s hErr] at h
    exact absurd rfl h
  · rw [writePlace_err r m sh p d s e he hErr]
    refine ⟨_, ?_, rfl⟩
    split
    · exact onlyUnlock_trans hSpent (onlyUnlock_setUnlock m _ _)
    · exact hSpent

theorem writeAccess_refuses {m : Master} {a : Nat} {d : Word} {s : State} (hReach : reachable s) (h : (writeAccess m a d s).1 ≠ .ok) :
    ∃ u, onlyUnlock s u m ∧ (writeAccess m a d s).2 = refuse m true a (writeAccess m a d s).1 d u := by
  by_cases hAligned : a % 4 = 0
  · cases hLocate : locate a with
    | none =>
      rw [writeAccess_absent hReach hAligned hLocate]
      exact ⟨s, onlyUnlock_refl s m, rfl⟩
    | some p =>
      rw [writeAccess_found hReach hAligned hLocate] at h ⊢
      exact writePlace_refuses h
  · rw [writeAccess_misaligned hReach hAligned]
    exact ⟨s, onlyUnlock_refl s m, rfl⟩

theorem readPlace_refuses {r : RegRule} {m : Master} {sh : Nat} {p : Place} {s : State} (h : (readPlace r m sh p s).1 ≠ .ok) :
    (readPlace r m sh p s).2.2 = refuse m false sh (readPlace r m sh p s).1 0 s := by
  unfold readPlace at h ⊢
  split
  next hOk => simp [hOk] at h
  next => rfl

theorem readAccess_refuses {m : Master} {a : Nat} {s : State} (hReach : reachable s) (h : (readAccess m a s).1 ≠ .ok) :
    (readAccess m a s).2.2 = refuse m false a (readAccess m a s).1 0 s := by
  obtain ⟨hRun, hHeld, -⟩ := hReach
  simp only [readAccess, hRun, hHeld, Bool.not_true, Bool.or_self, Bool.false_eq_true, if_false] at h ⊢
  split
  · rfl
  · rename_i hAligned
    simp only [hAligned, if_false] at h
    split
    · rfl
    · rename_i hLocate
      simp only [hLocate] at h
      exact readPlace_refuses h

end Sys2Proof.Proofs
end

section
/-! SUPPORT. Register access over the bus: the session, its accesses and their replies (R121, R122, R519 to R522). -/
namespace Sys2Proof.Proofs
open Sys2Proof.Machine

/-! A request leaves the list of its port. -/

/-- The first waiting request of port p is taken. -/
def popped (p : Nat) (s : State) : State := setPort p { portOf s p with acc := (portOf s p).acc.tail } s

/-- Of the ports nothing but port p differs, and there the first waiting request is gone. -/
def taken (s t : State) (p : Nat) : Prop := (portOf t p).acc = (portOf s p).acc.tail ∧ ∀ q, q ≠ p → portOf t q = portOf s q

theorem taken_popped (s : State) (p : Nat) : taken s (popped p s) p :=
  ⟨by rw [popped, portOf_setPort_same], fun q hq => portOf_setPort_other _ _ _ _ hq⟩

theorem taken_of_ports {s t u : State} {p : Nat} (h : taken s t p) (hPorts : u.ports = t.ports) : taken s u p := by
  obtain ⟨hHere, hOther⟩ := h
  exact ⟨(congrArg Port.acc (portOf_congr hPorts p)).trans hHere, fun q hq => (portOf_congr hPorts q).trans (hOther q hq)⟩

theorem taken_setPort {s t : State} {p : Nat} (h : taken s t p) {x : Port} (hx : x.acc = (portOf t p).acc) : taken s (setPort p x t) p := by
  obtain ⟨hHere, hOther⟩ := h
  exact ⟨by rw [portOf_setPort_same, hx, hHere], fun q hq => (portOf_setPort_other _ _ _ _ hq).trans (hOther q hq)⟩

theorem taken_busReply {s t : State} {p : Nat} (h : taken s t p) (dest kind : Nat) (e : Err) (tag : Nat) (data : List Byte) (addr : Nat) :
    taken s (busReply p dest kind e tag data addr t) p :=
  taken_of_ports (taken_setPort (x := { portOf t p with prot := (portOf t p).prot ++ [_] }) h rfl) rfl

theorem busAccess_waits {s : State} {p src : Nat} {q : AccReq} (hOn : onBus s p = true) (hHead : (portOf s p).acc.head? = some (src, q)) :
    busAccess p src q s = serveRequest p src q (popped p s) := by
  obtain ⟨rest, hAcc⟩ := List.head?_eq_some_iff.mp hHead
  simp only [busAccess, hOn, if_pos hHead, Bool.not_true, Bool.false_eq_true, if_false]
  simp only [hAcc, popped, and_self, if_true, List.tail_cons]

/-! A request of an identity with no keyed address pending. -/

section
variable {s : State} {p src : Nat} (hIdle : keyedOf (beginTx .bus s) p src = none)
include hIdle

theorem serveRequest_open : serveRequest p src .open' s = serveOpen p src (beginTx .bus s) := by
  simp only [serveRequest, hIdle]

theorem serveRequest_close : serveRequest p src .close s = serveClose p src (beginTx .bus s) := by
  simp only [serveRequest, hIdle]

theorem serveRequest_access {q : AccReq} (hOpen : q ≠ .open') (hClose : q ≠ .close) : serveRequest p src q s =
    serveAccess p src q (onlyIf (isHolder (beginTx .bus s) p src) touchSession (beginTx .bus s)) := by
  cases q <;> simp only [serveRequest, hIdle] <;> contradiction

end

/-- The transaction in which a request is served. -/
def served (p : Nat) (s : State) : State := beginTx .bus (popped p s)

theorem onlyUnlock_served (p : Nat) (s : State) : onlyUnlock (popped p s) (served p s) .bus := onlyUnlock_beginTx .bus _

theorem keeps_served (p : Nat) (s : State) : keeps s (served p s) [.unlock, .ports] :=
  keeps_trans (keeps_mono (fun _ hp => (setPort_same _ _ _ hp).mpr (Part.same_refl _ s) : keeps s (popped p s) [.ports]) (by decide))
    (keeps_mono (onlyUnlock_served p s).1 (by decide))

theorem rd_served (p : Nat) (s : State) (a : Nat) : rd (served p s) a = rd s a := (onlyUnlock_served p s).readsAlike.rd a

theorem taken_served (p : Nat) (s : State) : taken s (served p s) p :=
  taken_of_ports (taken_popped s p) ((onlyUnlock_served p s).1 .ports (by decide))

theorem keyedOf_served (q p src : Nat) (s : State) : keyedOf (served q s) p src = keyedOf s p src := by
  obtain ⟨-, hKeyed, -⟩ : Part.access.same (popped q s) (served q s) := (onlyUnlock_served q s).1 .access (by decide)
  simp only [keyedOf, hKeyed]
  rfl

theorem isHolder_served (q p src : Nat) (s : State) : isHolder (served q s) p src = isHolder s p src := by
  simp only [isHolder, fun f => flag_of_rd (f := f) (rd_served q s f.reg), fun f => fget_of_rd (f := f) (rd_served q s f.reg)]

theorem mtime_served (p : Nat) (s : State) : (served p s).mtime = s.mtime := keeps_served p s .mtime (by decide)

/-! What a reply changes. -/

theorem keeps_busReply (p dest kind : Nat) (e : Err) (tag : Nat) (data : List Byte) (addr : Nat) (s : State) :
    keeps s (busReply p dest kind e tag data addr s) [.reply, .ports] :=
  fun pt hp => (busReply_same p dest kind e tag data addr s hp).mpr (Part.same_refl pt s)

theorem keeps_touchSession (s : State) : keeps s (touchSession s) [.access] := by
  intro pt hp
  cases pt <;> simp [Part.same, touchSession] at hp ⊢

/-- The parts that the holder's accesses may change. -/
def touchedParts : List Part := [.reply, .unlock, .access, .ports]

theorem keeps_touched (p : Nat) (s : State) : keeps s (touchSession (served p s)) touchedParts :=
  keeps_trans (keeps_mono (keeps_served p s) (by decide)) (keeps_mono (keeps_touchSession _) (by decide))

/-- A reply of port p (R519). -/
def framed (t : State) (p src tag a kind e : Nat) (body : List Byte) : Prop :=
  t.reply = .frame p src ([0x30, BitVec.ofNat 8 (e + 16 * tag + 64 * kind)] ++ body ++ leBytes 2 (a % 65536))

theorem framed_busReply (p src kind : Nat) (e : Err) {tag : Nat} (hTag : tag < 4) (body : List Byte) (a : Nat) (s : State) :
    framed (busReply p src kind e tag body a s) p src tag a kind e.num body := by
  simp only [framed, busReply, Nat.mod_eq_of_lt hTag]
  rfl

/-- The deadline of a session that a request at MTIME of s restarts. -/
def restarted (s t : State) : Prop := t.acc.sessionDeadline = s.mtime + 5 * sec

theorem restarted_of_access {s t u : State} (h : restarted s t) (hAccess : Part.access.same t u) : restarted s u := by
  obtain ⟨hDeadline, -⟩ := hAccess
  exact hDeadline.trans h

theorem restarted_touchSession {s t : State} (h : t.mtime = s.mtime) : restarted s (touchSession t) := congrArg (· + 5 * sec) h

/-! The holder's accesses. -/

section
variable {s : State} {p src : Nat} (hIdle : keyedOf s p src = none)
include hIdle

theorem serveRequest_holder (hHolder : isHolder s p src = true) {q : AccReq} (hOpen : q ≠ .open') (hClose : q ≠ .close) :
    serveRequest p src q (popped p s) = serveAccess p src q (touchSession (served p s)) := by
  have hTx : keyedOf (beginTx .bus (popped p s)) p src = none := (keyedOf_served p p src s).trans hIdle
  have hHolds : isHolder (beginTx .bus (popped p s)) p src = true := (isHolder_served p p src s).trans hHolder
  rw [serveRequest_access hTx hOpen hClose, hHolds]
  rfl

theorem serveRequest_other (hOther : isHolder s p src = false) {q : AccReq} (hOpen : q ≠ .open') (hClose : q ≠ .close) :
    serveRequest p src q (popped p s) = serveAccess p src q (served p s) := by
  have hTx : keyedOf (beginTx .bus (popped p s)) p src = none := (keyedOf_served p p src s).trans hIdle
  have hHolds : isHolder (beginTx .bus (popped p s)) p src = false := (isHolder_served p p src s).trans hOther
  rw [serveRequest_access hTx hOpen hClose, hHolds]
  rfl

end

theorem isHolder_touchSession (s : State) (p src : Nat) : isHolder (touchSession s) p src = isHolder s p src := rfl

theorem isHolder_touched {s : State} {p src : Nat} (h : isHolder s p src = true) : isHolder (touchSession (served p s)) p src = true :=
  (isHolder_touchSession _ p src).trans ((isHolder_served p p src s).trans h)

theorem rd_touched (p : Nat) (s : State) (a : Nat) : rd (touchSession (served p s)) a = rd s a := rd_served p s a

theorem plainReg_touched {s : State} {a : Nat} {h : RegHit} (hReg : PlainReg s a h) (p : Nat) : PlainReg (touchSession (served p s)) a h :=
  { hReg with power := ((onlyUnlock_served p s).readsAlike.domainOff _).trans hReg.power }

theorem writable_touched {s : State} {m : Master} {a : Nat} {x : Place} {d : Word} {key : Bool} (h : writable s m a x d key) (p : Nat) :
    writable (touchSession (served p s)) m a x d key := by
  have hPopped : writable (popped p s) m a x d key := h
  have hServed : writable (served p s) m a x d key := writable_of_readsAlike hPopped (onlyUnlock_served p s).readsAlike
  exact hServed

/-- A READ by the holder of a register whose fields say everything. -/
theorem serveAccess_read {s : State} {p src a tag : Nat} {h : RegHit} (hReg : PlainReg s a h) (hRun : running s = true)
    (hHeld : sysHeld s = false) (hHolder : isHolder s p src = true) :
    serveAccess p src (.read a tag) s = busReply p src 0 .ok tag (wordLe (rd s a)) a s := by
  simp only [serveAccess, hHolder, if_true, readAccess_plain hReg hRun hHeld]

/-- A WRITE by the holder. -/
theorem serveAccess_write {s : State} {p src a tag : Nat} {x : Place} {d : Word} (hWritable : writable s .bus a x d false)
    (hHolder : isHolder s p src = true) : ∃ u, onlyUnlock s u .bus ∧
      serveAccess p src (.write a tag d) s = busReply p src 1 .ok tag noData a (wr u a (writtenWord x.hit.fam.fields (rd s a) d)) := by
  obtain ⟨u, hu, hWrite⟩ := writeAccess_writable hWritable (fun h => absurd h (by decide))
  exact ⟨u, hu, by simp only [serveAccess, hHolder, if_true, hWrite]⟩

/-- The pending KEYED_ADDR is forgotten. -/
def keyedForgotten (s : State) : State := { s with acc := { s.acc with keyed := none } }

theorem keeps_keyedForgotten (s : State) : keeps s (keyedForgotten s) [.access] := by
  intro pt hp
  cases pt <;> simp [Part.same, keyedForgotten] at hp ⊢

theorem keyedOf_some {s : State} {k : KeyedAddr} (h : s.acc.keyed = some k) : keyedOf s k.port k.src = some k := by
  simp [keyedOf, h]

/-- The KEYED_DATA that completes a KEYED_ADDR of the holder in time. -/
theorem serveRequest_completes {s : State} {k : KeyedAddr} {d : Word} (hKeyed : s.acc.keyed = some k) (hTime : s.mtime ≤ k.deadline)
    (hHolder : isHolder s k.port k.src = true) {e : Err} {t : State}
    (hWrite : keyedAccess .bus (BitVec.ofNat 16 k.key) k.addr d (touchSession (keyedForgotten (served k.port s))) = (e, t)) :
    serveRequest k.port k.src (.keyedData k.addr k.tag d) (popped k.port s) = busReply k.port k.src 2 e k.tag noData k.addr t := by
  have hPending : keyedOf (beginTx .bus (popped k.port s)) k.port k.src = some k :=
    (keyedOf_served k.port k.port k.src s).trans (keyedOf_some hKeyed)
  have hHolds : isHolder (beginTx .bus (popped k.port s)) k.port k.src = true := (isHolder_served k.port k.port k.src s).trans hHolder
  have hInTime : (beginTx .bus (popped k.port s)).mtime ≤ k.deadline := (mtime_served k.port s).trans_le hTime
  simp only [keyedForgotten, served] at hWrite
  simp only [serveRequest, hPending, completes, hHolds, hInTime, beq_self_eq_true, decide_true, Bool.and_self, if_true, hWrite]

/-! What an access of the bus leaves. -/

/-- A register is written in a state that touches the session, and the reply is sent. -/
theorem bus_wrote {s v u : State} {p : Nat} (hTouched : keeps s v touchedParts) (hRd : ∀ r, rd v r = rd s r) (hTaken : taken s v p)
    (hu : onlyUnlock v u .bus) (a : Nat) (w : Word) (src kind : Nat) (e : Err) (tag : Nat) (body : List Byte) :
    let t := busReply p src kind e tag body a (wr u a w)
    changesOnly s t [a] touchedParts ∧ taken s t p ∧ Part.access.same v t ∧ rd t a = w := by
  obtain ⟨hWrRegs, hWrParts⟩ := changesOnly_wr (List.mem_singleton_self a) u w
  have hParts : keeps v (wr u a w) [.regs, .unlock] := keeps_trans (keeps_mono hu.1 (by decide)) (keeps_mono hWrParts (by decide))
  have hReply := keeps_busReply p src kind e tag body a (wr u a w)
  refine ⟨⟨fun r hr => ?_, ?_⟩, taken_busReply (taken_of_ports hTaken (hParts .ports (by decide))) .., ?_, rd_wr_same u a w⟩
  · exact (hWrRegs r hr).trans ((hu.readsAlike.rd r).trans (hRd r))
  · exact keeps_trans (keeps_mono hTouched (by decide)) (keeps_trans (keeps_mono hParts (by decide)) (keeps_mono hReply (by decide)))
  · exact same_trans (hParts .access (by decide)) (hReply .access (by decide))

/-- A refused access is answered. -/
theorem bus_refused {s v : State} {p : Nat} {parts : List Part} (hParts : keeps s v parts) (hRd : ∀ r, rd v r = rd s r) (hTaken : taken s v p)
    (w : Bool) (a : Nat) (e : Err) (d : Word) (src kind tag : Nat) (body : List Byte) :
    let t := busReply p src kind e tag body a (refuse .bus w a e d v)
    taken s t p ∧ changesOnly s t (errorRegs .bus) (.events :: .reply :: .ports :: parts) := by
  have hRefused := keeps_refuse .bus w a e d v
  have hReply := keeps_busReply p src kind e tag body a (refuse .bus w a e d v)
  refine ⟨taken_busReply (taken_of_ports hTaken (hRefused .ports (by decide))) .., fun r hr => ?_, ?_⟩
  · exact (keepsRegs_refuse .bus w a e d v r hr).trans (hRd r)
  · refine keeps_trans (keeps_mono hParts ?_) (keeps_trans (keeps_mono hRefused ?_) (keeps_mono hReply ?_)) <;> intro pt hp <;> simp at hp ⊢ <;> tauto

/-! OPEN, CLOSE and the ends of a session. -/

theorem keeps_sessionReply (p dest : Nat) (e : Err) (s : State) : keeps s (sessionReply p dest e s) [.freeCtr, .reply, .ports] :=
  fun pt hp => (sessionReply_same p dest e s hp).mpr (Part.same_refl pt s)

theorem taken_sessionReply {s t : State} {p : Nat} (h : taken s t p) (dest : Nat) (e : Err) : taken s (sessionReply p dest e t) p :=
  taken_busReply (taken_of_ports h rfl) ..

/-- The registers of a session of port p and address a. -/
def sessionOpened (p a : Nat) (s : State) : State := fset (fset (fset s F.BUS_SESSION_OPEN 1) F.BUS_SESSION_PORT p) F.BUS_SESSION_SRC a

theorem sessionOpened_changes (p a : Nat) (s : State) : changesOnly s (sessionOpened p a s) [A.BUS_SESSION] [] :=
  changesOnly_trans (changesOnly_fset s F.BUS_SESSION_OPEN 1)
    (changesOnly_trans (changesOnly_fset _ F.BUS_SESSION_PORT p) (changesOnly_fset _ F.BUS_SESSION_SRC a))

theorem isHolder_sessionOpened {p a : Nat} (hp : p < 8) (ha : a < 256) (s : State) : isHolder (sessionOpened p a s) p a = true := by
  have hOpen : flag (sessionOpened p a s) F.BUS_SESSION_OPEN = true := by
    rw [sessionOpened, flag_fset_apart (f := F.BUS_SESSION_SRC) (k := F.BUS_SESSION_OPEN) _ _ rfl (by decide),
      flag_fset_apart (f := F.BUS_SESSION_PORT) (k := F.BUS_SESSION_OPEN) _ _ rfl (by decide), flag_fset_one _ rfl (by decide)]
  have hPort : fget (sessionOpened p a s) F.BUS_SESSION_PORT = p := by
    rw [sessionOpened, fget_fset_apart (f := F.BUS_SESSION_SRC) (k := F.BUS_SESSION_PORT) _ _ rfl (by decide),
      fget_fset_same _ _ _ (by decide) (by decide)]
    exact Nat.mod_eq_of_lt hp
  have hSrc : fget (sessionOpened p a s) F.BUS_SESSION_SRC = a := by
    rw [sessionOpened, fget_fset_same _ _ _ (by decide) (by decide)]
    exact Nat.mod_eq_of_lt ha
  simp [isHolder, hOpen, hPort, hSrc]

/-- The port notes the NAME of the address that opens a session. -/
def nameNoted (p a : Nat) (s : State) : State := setPort p { portOf s p with sessName := tabFind (portOf s p).names a } s

theorem openSession_eq (p a : Nat) (s : State) : openSession p a s = touchSession (sessionOpened p a (nameNoted p a s)) := rfl

theorem endSession_changes (s : State) : changesOnly s (endSession s) [A.BUS_SESSION] [] := changesOnly_fset s F.BUS_SESSION_OPEN 0

theorem endSession_closed (s : State) : flag (endSession s) F.BUS_SESSION_OPEN = false := flag_fset_zero s rfl (by decide)

theorem sessionHeld_served (p : Nat) (s : State) : sessionHeld (served p s) = sessionHeld s := by
  have hAlike := (onlyUnlock_served p s).readsAlike
  rw [sessionHeld, hAlike.ownerCode, hAlike.handoverPending, hAlike.fget]
  rfl

/-- An OPEN that R122 does not bar. -/
theorem serveOpen_opens {s : State} {p src : Nat} (hClosed : flag s F.BUS_SESSION_OPEN = false)
    (hFree : sessionHeld s = false ∨ (fget s F.BUS_SESSION_PORT = p ∧ fget s F.BUS_SESSION_SRC = src)) :
    serveOpen p src (served p s) = sessionReply p src .ok (openSession p src (served p s)) := by
  have hField := fun f => fget_of_rd (f := f) (rd_served p s f.reg)
  have hFlag := flag_of_rd (f := F.BUS_SESSION_OPEN) (rd_served p s A.BUS_SESSION)
  have hNone : isHolder (served p s) p src = false := by rw [isHolder_served]; simp [isHolder, hClosed]
  have hAdmitted : (!sessionHeld s || (decide (fget s F.BUS_SESSION_PORT = p) && decide (fget s F.BUS_SESSION_SRC = src))) = true := by
    rcases hFree with hFree | ⟨hPort, hSrc⟩
    · simp [hFree]
    · simp [hPort, hSrc]
  simp only [serveOpen, hNone, hFlag, hClosed, sessionHeld_served, hField, hAdmitted, Bool.false_eq_true, if_false, Bool.not_false,
    Bool.true_and, if_true]

theorem busAccess_open {s : State} {p src : Nat} (hp : p < 8) (hSrc : src < 256) (hIdle : keyedOf s p src = none)
    (hClosed : flag s F.BUS_SESSION_OPEN = false)
    (hFree : sessionHeld s = false ∨ (fget s F.BUS_SESSION_PORT = p ∧ fget s F.BUS_SESSION_SRC = src)) :
    let t := serveRequest p src .open' (popped p s)
    changesOnly s t [A.BUS_SESSION] (.freeCtr :: touchedParts) ∧ taken s t p ∧ restarted s t ∧ isHolder t p src = true := by
  have hServe : serveRequest p src .open' (popped p s) =
      sessionReply p src .ok (touchSession (sessionOpened p src (nameNoted p src (served p s)))) := by
    rw [serveRequest_open ((keyedOf_served p p src s).trans hIdle), ← openSession_eq]
    exact serveOpen_opens hClosed hFree
  have hNoted : keeps (served p s) (nameNoted p src (served p s)) [.ports] := fun pt h => (setPort_same _ _ _ h).mpr (Part.same_refl pt _)
  obtain ⟨hRegs, hOpened⟩ := sessionOpened_changes p src (nameNoted p src (served p s))
  have hTouch := keeps_touchSession (sessionOpened p src (nameNoted p src (served p s)))
  have hReply := keeps_sessionReply p src .ok (touchSession (sessionOpened p src (nameNoted p src (served p s))))
  have hTaken : taken s (nameNoted p src (served p s)) p := taken_setPort (taken_served p s) rfl
  simp only [hServe]
  refine ⟨⟨fun a ha => (hRegs a ha).trans (rd_served p s a), ?_⟩, taken_sessionReply (taken_of_ports hTaken ?_) .., ?_, ?_⟩
  · exact keeps_trans (keeps_mono (keeps_served p s) (by decide)) (keeps_trans (keeps_mono hNoted (by decide))
      (keeps_trans (keeps_mono hOpened (by decide)) (keeps_trans (keeps_mono hTouch (by decide)) (keeps_mono hReply (by decide)))))
  · exact (hOpened .ports (by decide) : Part.ports.same _ _)
  · refine restarted_of_access (restarted_touchSession ?_) (hReply .access (by decide))
    exact (hOpened .mtime (by decide)).trans (mtime_served p s)
  · exact isHolder_sessionOpened hp hSrc _

theorem busAccess_close {s : State} {p src : Nat} (hIdle : keyedOf s p src = none) (hHolder : isHolder s p src = true)
    (hOwner : ownerCode s ≠ 2) :
    let t := serveRequest p src .close (popped p s)
    changesOnly s t [A.BUS_SESSION] (.freeCtr :: touchedParts) ∧ taken s t p ∧ flag t F.BUS_SESSION_OPEN = false := by
  have hHolds : isHolder (served p s) p src = true := (isHolder_served p p src s).trans hHolder
  have hOther : ownerCode (served p s) ≠ 2 := fun h => hOwner ((onlyUnlock_served p s).readsAlike.ownerCode.symm.trans h)
  have hServe : serveRequest p src .close (popped p s) = sessionReply p src .ok (endSession (served p s)) := by
    rw [serveRequest_close ((keyedOf_served p p src s).trans hIdle)]
    change serveClose p src (served p s) = _
    simp only [serveClose, hHolds, Bool.not_true, Bool.false_eq_true, if_false, if_neg hOther]
  obtain ⟨hRegs, hEnded⟩ := endSession_changes (served p s)
  have hReply := keeps_sessionReply p src .ok (endSession (served p s))
  simp only [hServe]
  refine ⟨⟨fun a ha => (hRegs a ha).trans (rd_served p s a), ?_⟩, taken_sessionReply (taken_of_ports (taken_served p s) ?_) .., endSession_closed _⟩
  · exact keeps_trans (keeps_mono (keeps_served p s) (by decide)) (keeps_trans (keeps_mono hEnded (by decide)) (keeps_mono hReply (by decide)))
  · exact (hEnded .ports (by decide) : Part.ports.same _ _)

/-! KEYED_ADDR and KEYED_ADDR_TIMEOUT (R521). -/

/-- A KEYED_ADDR is pending. -/
def keyedPending (k : KeyedAddr) (s : State) : State := { s with acc := { s.acc with keyed := some k } }

theorem keeps_keyedPending (k : KeyedAddr) (s : State) : keeps s (keyedPending k s) [.access] := by
  intro pt hp
  cases pt <;> simp [Part.same, keyedPending] at hp ⊢

theorem keyedTimeout_clause {s : State} {k : KeyedAddr} (hKeyed : s.acc.keyed = some k) :
    let t := keyedTimeout s
    t.acc.keyed = none ∧ t.mtime = max s.mtime k.deadline ∧ changesOnly s t (errorRegs .bus) [.mtime, .reply, .access, .ports, .events] := by
  have hTimeout : keyedTimeout s = busReply k.port k.src 2 .key k.tag noData k.addr
      (refuse .bus true k.addr .key 0 (keyedForgotten (atTime k.deadline s))) := by
    simp only [keyedTimeout, hKeyed]
    rfl
  have hTime : keeps s (atTime k.deadline s) [.mtime] := fun pt h => (atTime_same _ _ h).mpr (Part.same_refl pt s)
  have hForgot := keeps_keyedForgotten (atTime k.deadline s)
  have hRefused := keeps_refuse .bus true k.addr .key 0 (keyedForgotten (atTime k.deadline s))
  have hReply := keeps_busReply k.port k.src 2 .key k.tag noData k.addr (refuse .bus true k.addr .key 0 (keyedForgotten (atTime k.deadline s)))
  obtain ⟨-, hKeyedKept, -⟩ : Part.access.same (keyedForgotten (atTime k.deadline s)) (keyedTimeout s) := by
    rw [hTimeout]
    exact same_trans (hRefused .access (by decide)) (hReply .access (by decide))
  simp only [hTimeout] at hKeyedKept ⊢
  refine ⟨hKeyedKept, (hReply .mtime (by decide)).trans (hRefused .mtime (by decide)), ?_, ?_⟩
  · exact fun r hr => keepsRegs_refuse .bus true k.addr .key 0 _ r hr
  · exact keeps_trans (keeps_mono hTime (by decide)) (keeps_trans (keeps_mono hForgot (by decide))
      (keeps_trans (keeps_mono hRefused (by decide)) (keeps_mono hReply (by decide))))

/-! BUS_SESSION_TIMEOUT and BUS_SESSION_DROP (R121). -/

theorem sessionTimeout_clause {s : State} (hOpen : flag s F.BUS_SESSION_OPEN = true) (hRuns : s.start.supervisorAt = none) :
    let t := sessionTimeout s
    changesOnly s t [A.BUS_SESSION] [.mtime] ∧ t.mtime = max s.mtime s.acc.sessionDeadline ∧ flag t F.BUS_SESSION_OPEN = false := by
  have hTimeout : sessionTimeout s = endSession (atTime s.acc.sessionDeadline s) := by
    simp only [sessionTimeout, timeoutsPause, hRuns, hOpen, Option.isSome_none, Bool.not_true, Bool.or_self, Bool.false_eq_true, if_false]
  obtain ⟨hRegs, hEnded⟩ := endSession_changes (atTime s.acc.sessionDeadline s)
  have hTime : keeps s (atTime s.acc.sessionDeadline s) [.mtime] := fun pt h => (atTime_same _ _ h).mpr (Part.same_refl pt s)
  simp only [hTimeout]
  exact ⟨⟨fun r hr => hRegs r hr, keeps_trans (keeps_mono hTime (by decide)) (keeps_mono hEnded (by decide))⟩, hEnded .mtime (by decide),
    endSession_closed _⟩

theorem sessionTimeout_paused {s : State} (hRestart : s.start.supervisorAt.isSome = true) : exec .busSessionTimeout s = .next s := by
  have hPaused : sessionTimeout s = s := by simp only [sessionTimeout, timeoutsPause, hRestart, Bool.true_or, if_true]
  change live sessionTimeout s = _
  simp only [live, hPaused, ite_self]
  rfl

theorem busSession_fields : imageMask Reg.BUS_SESSION = 0 ∧ allReadOnly Reg.BUS_SESSION.fields = false ∧ hasKrw Reg.BUS_SESSION.fields = false ∧
    keyedMask Reg.BUS_SESSION.fields = 0#32 ∧ Reg.BUS_SESSION.fields.all (·.ok.isEmpty) = true ∧
    loadMask true Reg.BUS_SESSION.fields = 0#32 ∧ typeMask .w1c Reg.BUS_SESSION.fields = 0#32 ∧
    0x1000000#32 &&& typeMask .w1s Reg.BUS_SESSION.fields = 0x1000000#32 := by decide

/-- The session ends where it is open. -/
def sessionDropped (s : State) : State := if flag s F.BUS_SESSION_OPEN = true then endSession s else s

theorem sessionDropped_changes (s : State) : changesOnly s (sessionDropped s) [A.BUS_SESSION] [] := by
  unfold sessionDropped
  split
  · exact endSession_changes s
  · exact changesOnly_refl s _ _

theorem sessionDropped_closed (s : State) : flag (sessionDropped s) F.BUS_SESSION_OPEN = false := by
  unfold sessionDropped
  split
  · exact endSession_closed s
  next h => exact Bool.eq_false_iff.mpr h

theorem busSessionDrop_ok {s : State} {m : Master} (hMay : mayCommand s m) (hOther : m ≠ .bus) :
    let t := rowWrite ruleSession m ⟨Reg.BUS_SESSION, []⟩ A.BUS_SESSION 0x1000000 s
    accepts s t m [A.BUS_SESSION] [] ∧ flag t F.BUS_SESSION_OPEN = false := by
  obtain ⟨hImage, hFields, hKrw, hKeyed, hRanges, hLoad, hClear, hCmd⟩ := busSession_fields
  obtain ⟨hReach, hOwner⟩ := hMay
  obtain ⟨-, hHeld, -⟩ := id hReach
  have hCode : m.code ≠ 2 := by cases m <;> simp [Master.code, Master.num] at hOther ⊢
  obtain ⟨v, hv, hRow⟩ := rowWrite_command (r := ruleSession) (h := ⟨Reg.BUS_SESSION, []⟩) (a := A.BUS_SESSION) (data := 0x1000000) (m := m)
    hImage rfl hLoad hClear hReach fun u key hu =>
    { power := hu.sysHeld.trans hHeld
      fields := hFields
      may := mayWrite_of_owner (hu.ownerCode.trans hOwner) _ _
      guarded := fun hGuard => absurd ((keyGuarded_of_free hKrw hKeyed _).symm.trans hGuard) (by decide)
      right := keyWrong_of_base (show Reg.BUS_SESSION.base ≠ Reg.KEY_UNLOCK.base by decide) _
      once := rfl
      range := rangeBad_of_noRanges hRanges _ _
      value := rfl
      state := by
        have hNot : ownerCode u ≠ 2 := fun h => hCode ((hu.ownerCode.trans hOwner).symm.trans h)
        simp [ruleSession, hNot]
      armed := rfl }
  have hEffect : ruleSession.effect (wholeCtx ruleSession m ⟨Reg.BUS_SESSION, []⟩ A.BUS_SESSION 0x1000000 s) v = sessionDropped v := by
    have hStarts : bitsOf (0x1000000#32 &&& typeMask .w1s Reg.BUS_SESSION.fields) 24 24 ≠ 0 := by rw [hCmd]; decide
    exact if_pos (bne_iff_ne.mpr hStarts)
  have hMeter := meterOver_of_changes hReach hv (sessionDropped_changes v) (by decide) (by decide)
  have hRowEq := hRow.trans (congrArg (setReply (.okValue .ok [])) ((congrArg meterOver hEffect).trans hMeter))
  simp only [hRowEq]
  exact ⟨accepts_write hv (sessionDropped_changes v) (by decide), sessionDropped_closed v⟩

/-! The accesses of a session. -/

section
variable {s : State} {p src a tag : Nat} (hIdle : keyedOf s p src = none) (hTag : tag < 4)
include hIdle hTag

theorem busAccess_read {x : Place} (hRun : running s = true) (hHeld : sysHeld s = false) (hHolder : isHolder s p src = true)
    (hPlace : plainPlace s a x) :
    let t := serveRequest p src (.read a tag) (popped p s)
    keeps s t touchedParts ∧ taken s t p ∧ restarted s t ∧ framed t p src tag a 0 0 (wordLe (rd s a)) := by
  obtain ⟨hReg, -⟩ := plainReg_of_plainPlace hPlace
  have hAlike := (onlyUnlock_served p s).readsAlike
  have hServe : serveRequest p src (.read a tag) (popped p s) = busReply p src 0 .ok tag (wordLe (rd s a)) a (touchSession (served p s)) := by
    rw [serveRequest_holder hIdle hHolder (by simp) (by simp), serveAccess_read (plainReg_touched hReg p) (hAlike.running.trans hRun)
      (hAlike.sysHeld.trans hHeld) (isHolder_touched hHolder), rd_touched]
  have hReply := keeps_busReply p src 0 .ok tag (wordLe (rd s a)) a (touchSession (served p s))
  simp only [hServe]
  exact ⟨keeps_trans (keeps_touched p s) (keeps_mono hReply (by decide)), taken_busReply (taken_of_ports (taken_served p s) rfl) ..,
    restarted_of_access (restarted_touchSession (mtime_served p s)) (hReply .access (by decide)), framed_busReply _ _ _ _ hTag _ _ _⟩

theorem busAccess_write {x : Place} {d : Word} (hHolder : isHolder s p src = true) (hWritable : writable s .bus a x d false) :
    let t := serveRequest p src (.write a tag d) (popped p s)
    changesOnly s t [a] touchedParts ∧ taken s t p ∧ restarted s t ∧ framed t p src tag a 1 0 noData ∧
      rd t a = writtenWord x.hit.fam.fields (rd s a) d := by
  obtain ⟨u, hu, hWrite⟩ := serveAccess_write (tag := tag) (writable_touched hWritable p) (isHolder_touched hHolder)
  rw [rd_touched] at hWrite
  have hServe := (serveRequest_holder hIdle hHolder (q := .write a tag d) (by simp) (by simp)).trans hWrite
  obtain ⟨hChanges, hTaken, hAccess, hWord⟩ := bus_wrote (keeps_touched p s) (rd_touched p s) (taken_of_ports (taken_served p s) rfl) hu a
    (writtenWord x.hit.fam.fields (rd s a) d) src 1 .ok tag noData
  simp only [hServe]
  exact ⟨hChanges, hTaken, restarted_of_access (restarted_touchSession (mtime_served p s)) hAccess, framed_busReply _ _ _ _ hTag _ _ _, hWord⟩

/-- An access by an identity that does not hold the session. -/
theorem busAccess_read_other (hOther : isHolder s p src = false) :
    let t := serveRequest p src (.read a tag) (popped p s)
    taken s t p ∧ changesOnly s t (errorRegs .bus) (.events :: touchedParts) ∧ framed t p src tag a 0 12 (List.replicate 4 0) := by
  have hServe : serveRequest p src (.read a tag) (popped p s) =
      busReply p src 0 .session tag (wordLe 0) a (refuse .bus false a .session 0 (served p s)) := by
    rw [serveRequest_other hIdle hOther (by simp) (by simp)]
    simp only [serveAccess, isHolder_served, hOther, Bool.false_eq_true, if_false]
  obtain ⟨hTaken, hRegs, hParts⟩ := bus_refused (keeps_served p s) (rd_served p s) (taken_served p s) false a .session 0 src 0 tag (wordLe 0)
  simp only [hServe]
  exact ⟨hTaken, ⟨hRegs, keeps_mono hParts (by decide)⟩, framed_busReply p src 0 .session hTag (wordLe 0) a _⟩

theorem busAccess_write_other {d : Word} (hOther : isHolder s p src = false) :
    let t := serveRequest p src (.write a tag d) (popped p s)
    taken s t p ∧ changesOnly s t (errorRegs .bus) (.events :: touchedParts) ∧ framed t p src tag a 1 12 noData := by
  have hServe : serveRequest p src (.write a tag d) (popped p s) =
      busReply p src 1 .session tag noData a (refuse .bus true a .session d (served p s)) := by
    rw [serveRequest_other hIdle hOther (by simp) (by simp)]
    simp only [serveAccess, isHolder_served, hOther, Bool.false_eq_true, if_false]
  obtain ⟨hTaken, hRegs, hParts⟩ := bus_refused (keeps_served p s) (rd_served p s) (taken_served p s) true a .session d src 1 tag noData
  simp only [hServe]
  exact ⟨hTaken, ⟨hRegs, keeps_mono hParts (by decide)⟩, framed_busReply p src 1 .session hTag noData a _⟩

omit hTag in
/-- A KEYED_ADDR of the holder is kept for 100 ms. -/
theorem busAccess_keyedAddr {key : Nat} (hHolder : isHolder s p src = true) :
    let t := serveRequest p src (.keyedAddr a tag key) (popped p s)
    taken s t p ∧ restarted s t ∧ keeps s t [.unlock, .access, .ports] ∧ t.acc.keyed = some ⟨p, src, key, a, tag, s.mtime + 100 * ms⟩ := by
  have hServe : serveRequest p src (.keyedAddr a tag key) (popped p s) =
      keyedPending ⟨p, src, key, a, tag, s.mtime + 100 * ms⟩ (touchSession (served p s)) := by
    rw [serveRequest_holder hIdle hHolder (by simp) (by simp)]
    simp only [serveAccess, isHolder_touched hHolder, if_true]
    exact congrArg (fun u => keyedPending ⟨p, src, key, a, tag, u + 100 * ms⟩ (touchSession (served p s))) (mtime_served p s)
  have hPending := keeps_keyedPending ⟨p, src, key, a, tag, s.mtime + 100 * ms⟩ (touchSession (served p s))
  simp only [hServe]
  refine ⟨taken_of_ports (taken_served p s) rfl, restarted_touchSession (mtime_served p s), ?_, rfl⟩
  exact keeps_trans (keeps_trans (keeps_mono (keeps_served p s) (by decide)) (keeps_mono (keeps_touchSession _) (by decide)))
    (keeps_mono hPending (by decide))

end

/-- The KEYED_DATA of the same address and tag in time writes with the key. -/
theorem busAccess_keyedData {s : State} {p src a tag e : Nat} {x : Place} {d : Word} (hTag : tag < 4)
    (hKeyed : s.acc.keyed = some ⟨p, src, 0xB7E1, a, tag, e⟩) (hTime : s.mtime ≤ e) (hHolder : isHolder s p src = true)
    (hWritable : writable s .bus a x d true) :
    let t := serveRequest p src (.keyedData a tag d) (popped p s)
    changesOnly s t [a] touchedParts ∧ taken s t p ∧ restarted s t ∧ t.acc.keyed = none ∧ unlockOf t .bus = .no ∧
      framed t p src tag a 2 0 noData ∧ rd t a = writtenWord x.hit.fam.fields (rd s a) d := by
  have hTarget : writable (touchSession (keyedForgotten (served p s))) .bus a x d true := writable_touched hWritable p
  obtain ⟨u, hu, hWrite⟩ := keyedAccess_writable hTarget
  have hShut := onlyUnlock_setUnlock .bus .no u
  rw [setUnlock_wr, show rd (touchSession (keyedForgotten (served p s))) a = rd s a from rd_served p s a] at hWrite
  have hServe := serveRequest_completes hKeyed hTime hHolder hWrite
  have hParts : keeps s (touchSession (keyedForgotten (served p s))) touchedParts :=
    keeps_trans (keeps_trans (keeps_mono (keeps_served p s) (by decide)) (keeps_mono (keeps_keyedForgotten _) (by decide)))
      (keeps_mono (keeps_touchSession _) (by decide))
  obtain ⟨hChanges, hTaken, hAccess, hWord⟩ := bus_wrote hParts (rd_served p s) (taken_of_ports (taken_served p s) rfl)
    (onlyUnlock_trans hu hShut) a (writtenWord x.hit.fam.fields (rd s a) d) src 2 .ok tag noData
  obtain ⟨-, hForgot, -⟩ := id hAccess
  simp only [hServe]
  exact ⟨hChanges, hTaken, restarted_of_access (t := touchSession (keyedForgotten (served p s)))
    (restarted_touchSession (mtime_served p s)) hAccess, hForgot, unlockOf_setUnlock_same .bus .no u,
    framed_busReply _ _ _ _ hTag _ _ _, hWord⟩

/-- Settles O22: a request is taken from its port and served in a transaction of the bus. -/
theorem busSessionAndAccesses : Obligations.BusSessionAndAccesses := by
  unfold Obligations.BusSessionAndAccesses
  intro p src w tag key data s a waits idle holder frame taken' session touched none4
  have hServed (q : AccReq) {f : Instr} {P : State → Prop} (hWaits : waits q) (hExec : exec f s = live (busAccess p src.toNat q) s)
      (hPost : P (serveRequest p src.toNat q (popped p s))) : answers f s P := by
    obtain ⟨hRun, -, hOn, hHead⟩ := hWaits
    exact answers_live hExec hRun (by rwa [busAccess_waits hOn hHead])
  have hp : p.val < 8 := by omega
  have hTag := tag.isLt
  refine ⟨fun hWaits hIdle hClosed hFree => ?_, fun hWaits hIdle hHolder hOwner => ?_, fun x hWaits hIdle hHolder hPlace => ?_,
    fun x hWaits hIdle hHolder hWritable _ => ?_, fun hWaits hIdle hOther => ?_, fun hWaits hIdle hOther => ?_,
    fun hWaits hIdle hHolder => ?_, fun x e hWaits hHolder hKeyed hTime hWritable _ => ?_, fun k hRun _ hKeyed => ?_,
    fun hRun hOpen hRuns => ?_, sessionTimeout_paused, fun m hMay hOther => ⟨_, rfl, busSessionDrop_ok hMay hOther⟩⟩
  · exact hServed _ hWaits rfl (busAccess_open hp src.isLt hIdle hClosed hFree)
  · exact hServed _ hWaits rfl (busAccess_close hIdle hHolder hOwner)
  · obtain ⟨hRun, hHeld, -⟩ := id hWaits
    exact hServed _ hWaits rfl (busAccess_read hIdle hTag hRun hHeld hHolder hPlace)
  · exact hServed _ hWaits rfl (busAccess_write hIdle hTag hHolder hWritable)
  · exact hServed _ hWaits rfl (busAccess_read_other hIdle hTag (Bool.eq_false_iff.mpr hOther))
  · exact hServed _ hWaits rfl (busAccess_write_other hIdle hTag (Bool.eq_false_iff.mpr hOther))
  · exact hServed _ hWaits rfl (busAccess_keyedAddr hIdle hHolder)
  · exact hServed _ hWaits rfl (busAccess_keyedData hTag hKeyed hTime hHolder hWritable)
  · exact answers_live rfl hRun (keyedTimeout_clause hKeyed)
  · exact answers_live rfl hRun (sessionTimeout_clause hOpen hRuns)

end Sys2Proof.Proofs
end

section
/-! SUPPORT. Each refused access is noted (R104, R107). -/
namespace Sys2Proof.Proofs
open Sys2Proof.Machine

/-! The codes of R104 and their severities. -/

/-- The refusals of an access at an address: code, number and severity. -/
def refusalTable : List (Err × Nat × Nat) := [(.align, 0x1, 2), (.addr, 0x2, 2), (.power, 0x3, 1), (.aliasErr, 0x4, 2), (.readonly, 0x5, 2),
  (.owner, 0x6, 2), (.key, 0x7, 3), (.once, 0x8, 4), (.value, 0x9, 2), (.state, 0xA, 3), (.armed, 0xB, 3)]

theorem code_of_refusalTable {e : Err} {code sev : Nat} (h : (e, code, sev) ∈ refusalTable) : e ≠ .ok ∧ code = e.num ∧ sev = e.severity := by
  have hAll : refusalTable.all (fun x => decide (x.1 ≠ .ok ∧ x.2.1 = x.1.num ∧ x.2.2 = x.1.severity)) = true := by decide
  exact of_decide_eq_true (List.all_eq_true.mp hAll _ h)

/-- The errors in the order of their numbers. -/
def errors : List Err := [.ok, .align, .addr, .power, .aliasErr, .readonly, .owner, .key, .once, .value, .state, .armed, .session]

theorem getD_errors_num (e : Err) : errors.getD e.num .ok = e := by cases e <;> rfl

theorem spiStatus_inj {e e' : Err} (h : spiStatus e = BitVec.ofNat 8 (0x50 + e'.num)) : e = e' := by
  have hNum : e.num = e'.num := by
    have hNat := congrArg BitVec.toNat h
    have hLt := Err.num_lt e
    have hLt' := Err.num_lt e'
    simp only [spiStatus, BitVec.toNat_ofNat] at hNat
    omega
  rw [← getD_errors_num e, hNum, getD_errors_num]

/-! Accesses at an address. -/

section
variable {s : State} (hReach : reachable s) {m : Master} {a : Nat} (ha : a < 2 ^ 24) {d : Word}
include hReach ha

theorem writeAccess_noted {e : Err} (he : (writeAccess m a d (beginTx m s)).1 = e) (hErr : e ≠ .ok) (r : Reply) :
    refusalNoted s (setReply r (writeAccess m a d (beginTx m s)).2) m true a e.num e.severity d := by
  have hTx := onlyUnlock_beginTx m s
  obtain ⟨u, hu, hWrite⟩ := writeAccess_refuses (hTx.readsAlike.reachable hReach) (m := m) (a := a) (d := d) (by rw [he]; exact hErr)
  rw [hWrite, he]
  exact refusalNoted_of_same (refusalNoted_of_onlyUnlock hReach (onlyUnlock_trans hTx hu) m true ha e d) rfl rfl

theorem readAccess_noted {e : Err} (he : (readAccess m a (beginTx m s)).1 = e) (hErr : e ≠ .ok) (r : Reply) :
    refusalNoted s (setReply r (readAccess m a (beginTx m s)).2.2) m false a e.num e.severity d := by
  have hTx := onlyUnlock_beginTx m s
  rw [readAccess_refuses (hTx.readsAlike.reachable hReach) (m := m) (a := a) (by rw [he]; exact hErr), he]
  exact refusalNoted_of_same (refusalNoted_of_onlyUnlock hReach hTx m false ha e 0) rfl rfl

end

/-! Accesses of a bus identity that does not hold the session (R106, R519). -/

theorem refusalNoted_served {s : State} (hReach : reachable s) (p : Nat) (w : Bool) {a : Nat} (ha : a < 2 ^ 24) (d d' : Word)
    (hData : w = true → d' = d) (src kind tag : Nat) (body : List Byte) :
    refusalNoted s (busReply p src kind .session tag body a (refuse .bus w a .session d' (served p s))) .bus w a 0xC 1 d := by
  have hAgate : (served p s).agate = s.agate :=
    agate_of_same (keeps_served p s .events (by decide)) (keeps_served p s .records (by decide)) (keeps_served p s .reader (by decide))
  have hReached : reachable (served p s) := (onlyUnlock_served p s).readsAlike.reachable (s := popped p s) hReach
  have hNoted := refusalNoted_refuse hReached ⟨hAgate, fun r _ => rd_served p s r⟩ .bus (rd_served p s _) w ha .session d'
  have hSame : refusalNoted s (refuse .bus w a .session d' (served p s)) .bus w a 0xC 1 d := by
    cases w with
    | false => exact hNoted
    | true => rw [hData rfl] at hNoted ⊢; exact hNoted
  exact refusalNoted_of_same hSame rfl rfl

/-- Settles O54: an access that is answered with an error has ended in a refusal, which notes it. -/
theorem refusedAccessesAreNotedAndRecorded : Obligations.RefusedAccessesAreNotedAndRecorded := by
  unfold Obligations.RefusedAccessesAreNotedAndRecorded
  intro m a off data p src w tag s hReach table noted waits
  have ha : a.toNat < 2 ^ 24 := a.isLt
  have hOff : 0x800000 + off.toNat < 2 ^ 24 := by omega
  have hw : 4 * w.toNat < 2 ^ 24 := by omega
  obtain ⟨hRun, hHeld, -⟩ := id hReach
  have hLine (f : State → State) : gafferLine f s = f (beginTx .gaffer s) := by simp [gafferLine, hRun, hHeld]
  refine ⟨fun e code sev t hTable => ?_, fun hWaits => ?_, fun hWaits => ?_⟩
  · obtain ⟨he, rfl, rfl⟩ := code_of_refusalTable hTable
    refine ⟨fun hExec hReply => ?_, fun hExec hReply => ?_, fun hExec hReply => ?_, fun hExec hReply => ?_, fun hExec hReply => ?_,
      fun hExec hReply => ?_⟩
    · obtain rfl : addrWrite m a.toNat data s = t := Host.Outcome.next.inj hExec
      obtain ⟨hErr, -⟩ := Reply.okValue.inj hReply
      exact writeAccess_noted hReach ha hErr he _
    · obtain rfl : addrWrite m (0x800000 + off.toNat) data s = t := Host.Outcome.next.inj hExec
      obtain ⟨hErr, -⟩ := Reply.okValue.inj hReply
      exact writeAccess_noted hReach hOff hErr he _
    · obtain rfl : gafferLine (gafferRd a.toNat) s = t := Host.Outcome.next.inj hExec
      rw [hLine] at hReply ⊢
      obtain ⟨hErr, -⟩ := Reply.okValue.inj hReply
      exact readAccess_noted hReach ha hErr he _
    · obtain rfl : gafferLine _ s = t := Host.Outcome.next.inj hExec
      rw [hLine] at hReply ⊢
      obtain ⟨hErr, -⟩ := Reply.okValue.inj hReply
      exact writeAccess_noted hReach ha hErr he _
    · obtain rfl : hspiRead a.toNat s = t := Host.Outcome.next.inj hExec
      obtain ⟨hStatus, -⟩ := List.cons.inj (Reply.spi.inj hReply)
      exact readAccess_noted hReach ha (spiStatus_inj hStatus) he _
    · obtain rfl : hspiWrite a.toNat data s = t := Host.Outcome.next.inj hExec
      obtain ⟨hStatus, -⟩ := List.cons.inj (Reply.spi.inj hReply)
      exact writeAccess_noted hReach ha (spiStatus_inj hStatus) he _
  · obtain ⟨hOn, hHead, hIdle, hOther⟩ := hWaits
    refine answers_live rfl hRun ?_
    rw [busAccess_waits hOn hHead, serveRequest_other hIdle hOther (by simp) (by simp)]
    simp only [serveAccess, isHolder_served, hOther, Bool.false_eq_true, if_false]
    exact refusalNoted_served hReach p false hw data 0 (by simp) _ _ _ _
  · obtain ⟨hOn, hHead, hIdle, hOther⟩ := hWaits
    refine answers_live rfl hRun ?_
    rw [busAccess_waits hOn hHead, serveRequest_other hIdle hOther (by simp) (by simp)]
    simp only [serveAccess, isHolder_served, hOther, Bool.false_eq_true, if_false]
    exact refusalNoted_served hReach p true hw data data (fun _ => rfl) _ _ _ _

end Sys2Proof.Proofs
end

section
/-! SUPPORT. The operations of the ownership logic: what each sets and what it leaves (R125 to R130). -/
namespace Sys2Proof.Proofs
open Sys2Proof.Machine

/-! Fields of one register. -/

/-- Two fields of one register that share no bit. -/
abbrev beside (f k : Fld) : Prop :=
  k.reg = f.reg ∧ f.lo ≤ f.hi ∧ f.hi < 32 ∧ k.lo ≤ k.hi ∧ k.hi < 32 ∧ (k.hi < f.lo ∨ f.hi < k.lo)

theorem fget_fset_of_beside {f k : Fld} (h : beside f k) (s : State) (v : Nat) : fget (fset s f v) k = fget s k := by
  obtain ⟨hReg, hApart⟩ := h
  exact fget_fset_apart s v hReg hApart

theorem flag_fset_of_beside {f k : Fld} (h : beside f k) (s : State) (v : Nat) : flag (fset s f v) k = flag s k := by
  simp only [flag, fget_fset_of_beside h]

theorem fget_setOwn (o : Own) (s : State) (f : Fld) : fget (setOwn o s) f = fget s f := rfl
theorem flag_setOwn (o : Own) (s : State) (f : Fld) : flag (setOwn o s) f = flag s f := rfl

theorem changesOnly_setOwn (o : Own) (s : State) : changesOnly s (setOwn o s) [] [.own] :=
  ⟨fun _ _ => rfl, fun p hp => (setOwn_same o s (fun h => hp (List.mem_cons_of_mem _ h))).mpr (Part.same_refl p s)⟩

/-- A change of no more than the listed registers and parts, followed by one. -/
theorem changesOnly_seq {s t u : State} {r r' q : List Nat} {parts parts' q' : List Part} (h : changesOnly s t r parts) (h' : changesOnly t u r' parts')
    (hRegs : r ⊆ q) (hRegs' : r' ⊆ q) (hParts : parts ⊆ q') (hParts' : parts' ⊆ q') : changesOnly s u q q' :=
  changesOnly_trans (changesOnly_mono h hRegs hParts) (changesOnly_mono h' hRegs' hParts')

/-! The end of a handover. -/

section
variable (s : State)

theorem endHandover_changes : changesOnly s (endHandover s) [A.OWN_STAT] [.own] :=
  changesOnly_seq (changesOnly_setOwn { s.own with lapseNoted := false } s)
    (changesOnly_trans (changesOnly_fset _ F.OWN_STAT_HANDOVER_PEND 0) (changesOnly_fset _ F.OWN_STAT_TARGET 0))
    (by decide) (by decide) (by decide) (by decide)

theorem endHandover_own : (endHandover s).own = { s.own with lapseNoted := false } := by simp only [endHandover, fset_own, setOwn]

theorem endHandover_ended : handoverPending (endHandover s) = false ∧ fget (endHandover s) F.OWN_STAT_TARGET = 0 := by
  refine ⟨?_, ?_⟩
  · rw [handoverPending, endHandover, flag_fset_of_beside (by decide), flag_fset_zero _ rfl (by decide)]
  · rw [endHandover, fget_fset_same _ _ _ (by decide) (by decide), Nat.zero_mod]

theorem fget_endHandover {k : Fld} (hPend : beside F.OWN_STAT_HANDOVER_PEND k) (hTarget : beside F.OWN_STAT_TARGET k) :
    fget (endHandover s) k = fget s k := by
  rw [endHandover, fget_fset_of_beside hTarget, fget_fset_of_beside hPend, fget_setOwn]

theorem flag_endHandover {k : Fld} (hPend : beside F.OWN_STAT_HANDOVER_PEND k) (hTarget : beside F.OWN_STAT_TARGET k) :
    flag (endHandover s) k = flag s k := by
  simp only [flag, fget_endHandover s hPend hTarget]

/-! The loss of the punty. -/

theorem loseOwner_changes : changesOnly s (loseOwner s) [A.OWN_STAT] [.own] :=
  changesOnly_trans (endHandover_changes s)
    (changesOnly_seq (changesOnly_setOwn { (endHandover s).own with autoHb := false } _) (changesOnly_fset _ F.OWN_STAT_OWNER 0)
      (by decide) (by decide) (by decide) (by decide))

theorem loseOwner_own : (loseOwner s).own = { s.own with lapseNoted := false, autoHb := false } := by
  simp only [loseOwner, fset_own, setOwn, endHandover_own]

theorem loseOwner_none : ownerCode (loseOwner s) = 0 := by
  rw [ownerCode, loseOwner, fget_fset_same _ _ _ (by decide) (by decide), Nat.zero_mod]

theorem loseOwner_ended : handoverPending (loseOwner s) = false ∧ fget (loseOwner s) F.OWN_STAT_TARGET = 0 := by
  obtain ⟨hPend, hTarget⟩ := endHandover_ended s
  refine ⟨?_, ?_⟩
  · rw [handoverPending, loseOwner, flag_fset_of_beside (by decide), flag_setOwn]
    exact hPend
  · rw [loseOwner, fget_fset_of_beside (by decide), fget_setOwn]
    exact hTarget

theorem flag_loseOwner {k : Fld} (hOwner : beside F.OWN_STAT_OWNER k) (hPend : beside F.OWN_STAT_HANDOVER_PEND k)
    (hTarget : beside F.OWN_STAT_TARGET k) : flag (loseOwner s) k = flag s k := by
  rw [loseOwner, flag_fset_of_beside hOwner, flag_setOwn, flag_endHandover s hPend hTarget]

/-! The end of the election window. -/

theorem completeStart_changes : changesOnly s (completeStart s) [A.STARTUP_STAT] [] := by
  unfold completeStart
  split
  · exact changesOnly_fset s F.STARTUP_STAT_PHASE 4
  · exact changesOnly_refl s _ _

/-- The window is over: no claim waits. -/
def electionOver (s : State) : State := { setOwn { s.own with claims := [] } s with start := { s.start with electionOver := true } }

theorem closeElection_eq : closeElection s = completeStart (fset (electionOver s) F.OWN_STAT_ELECTION 0) := rfl

theorem electionOver_changes : changesOnly s (electionOver s) [] [.own, .start] := by
  refine ⟨fun _ _ => rfl, fun p hp => ?_⟩
  cases p <;> simp [Part.same, electionOver, setOwn] at hp ⊢

theorem closeElection_changes : changesOnly s (closeElection s) [A.STARTUP_STAT, A.OWN_STAT] [.own, .start] :=
  changesOnly_seq (changesOnly_seq (q := [A.OWN_STAT]) (q' := [.own, .start]) (electionOver_changes s) (changesOnly_fset _ F.OWN_STAT_ELECTION 0)
    (by decide) (by decide) (by decide) (by decide)) (completeStart_changes _) (by decide) (by decide) (by decide) (by decide)

theorem rd_closeElection_ownStat : rd (closeElection s) A.OWN_STAT = rd (fset (electionOver s) F.OWN_STAT_ELECTION 0) A.OWN_STAT := by
  obtain ⟨hRegs, -⟩ := completeStart_changes (fset (electionOver s) F.OWN_STAT_ELECTION 0)
  exact hRegs A.OWN_STAT (by decide)

theorem closeElection_closed : electionOpen (closeElection s) = false :=
  (flag_of_rd (rd_closeElection_ownStat s)).trans (flag_fset_zero _ rfl (by decide))

theorem fget_closeElection {k : Fld} (hElection : beside F.OWN_STAT_ELECTION k) : fget (closeElection s) k = fget s k := by
  obtain ⟨hReg, -⟩ := id hElection
  have hRd : rd (closeElection s) k.reg = rd (fset (electionOver s) F.OWN_STAT_ELECTION 0) k.reg := by
    rw [hReg]; exact rd_closeElection_ownStat s
  exact (fget_of_rd hRd).trans (fget_fset_of_beside hElection (electionOver s) 0)

theorem closeElection_own : (closeElection s).own = { s.own with claims := [] } := by
  rw [closeElection_eq]
  obtain ⟨-, hParts⟩ := completeStart_changes (fset (electionOver s) F.OWN_STAT_ELECTION 0)
  exact (hParts .own (by decide)).trans (fset_own _ _ _)

theorem closeElection_start : (closeElection s).start = { s.start with electionOver := true } := by
  rw [closeElection_eq]
  obtain ⟨-, hParts⟩ := completeStart_changes (fset (electionOver s) F.OWN_STAT_ELECTION 0)
  exact (hParts .start (by decide)).trans (fset_start _ _ _)

/-! The gain of the punty. -/

/-- The election window is closed, if it was open. -/
def windowClosed (s : State) : State := onlyIf (electionOpen s) closeElection s

theorem windowClosed_changes : changesOnly s (windowClosed s) [A.STARTUP_STAT, A.OWN_STAT] [.own, .start] := by
  unfold windowClosed onlyIf
  split
  · exact closeElection_changes s
  · exact changesOnly_refl s _ _

theorem windowClosed_closed : electionOpen (windowClosed s) = false := by
  unfold windowClosed onlyIf
  split
  · exact closeElection_closed s
  next h => exact Bool.eq_false_iff.mpr h

theorem fget_windowClosed {k : Fld} (hElection : beside F.OWN_STAT_ELECTION k) : fget (windowClosed s) k = fget s k := by
  unfold windowClosed onlyIf
  split
  · exact fget_closeElection s hElection
  · rfl

variable (c : Nat)

/-- The ownership state of a new owner. -/
def ownGained (c : Nat) (s : State) : Own :=
  { s.own with hbDeadline := s.mtime + hbTimeout s, autoHb := s.own.autoHb && decide (c = 3) }

theorem gainOwner_eq : gainOwner c s = fset (setOwn (ownGained c (endHandover (windowClosed s))) (endHandover (windowClosed s))) F.OWN_STAT_OWNER c := rfl

theorem gainOwner_changes : changesOnly s (gainOwner c s) [A.STARTUP_STAT, A.OWN_STAT] [.own, .start] :=
  changesOnly_trans (windowClosed_changes s) (changesOnly_seq (endHandover_changes _)
    (changesOnly_seq (q := [A.OWN_STAT]) (q' := [.own]) (changesOnly_setOwn _ _) (changesOnly_fset _ F.OWN_STAT_OWNER c)
      (by decide) (by decide) (by decide) (by decide)) (by decide) (by decide) (by decide) (by decide))

theorem gainOwner_owner (hc : c < 4) : ownerCode (gainOwner c s) = c := by
  rw [ownerCode, gainOwner_eq, fget_fset_same _ _ _ (by decide) (by decide)]
  exact Nat.mod_eq_of_lt hc

theorem gainOwner_ended : handoverPending (gainOwner c s) = false ∧ fget (gainOwner c s) F.OWN_STAT_TARGET = 0 := by
  obtain ⟨hPend, hTarget⟩ := endHandover_ended (windowClosed s)
  refine ⟨?_, ?_⟩
  · rw [handoverPending, gainOwner_eq, flag_fset_of_beside (by decide), flag_setOwn]
    exact hPend
  · rw [gainOwner_eq, fget_fset_of_beside (by decide), fget_setOwn]
    exact hTarget

theorem gainOwner_closed : electionOpen (gainOwner c s) = false := by
  rw [electionOpen, gainOwner_eq, flag_fset_of_beside (by decide), flag_setOwn, flag_endHandover _ (by decide) (by decide)]
  exact windowClosed_closed s

theorem flag_gainOwner {k : Fld} (hOwner : beside F.OWN_STAT_OWNER k) (hPend : beside F.OWN_STAT_HANDOVER_PEND k)
    (hTarget : beside F.OWN_STAT_TARGET k) (hElection : beside F.OWN_STAT_ELECTION k) : flag (gainOwner c s) k = flag s k := by
  rw [gainOwner_eq, flag_fset_of_beside hOwner, flag_setOwn, flag_endHandover _ hPend hTarget, flag, fget_windowClosed _ hElection]
  rfl

theorem gainOwner_deadline : (gainOwner c s).own.hbDeadline = s.mtime + hbTimeout s := by
  have hChanges := changesOnly_seq (q := [A.STARTUP_STAT, A.OWN_STAT]) (q' := [.own, .start]) (windowClosed_changes s)
    (endHandover_changes (windowClosed s)) (by decide) (by decide) (by decide) (by decide)
  obtain ⟨hRegs, hParts⟩ := hChanges
  have hTime : (endHandover (windowClosed s)).mtime = s.mtime := hParts .mtime (by decide)
  have hTimeout : hbTimeout (endHandover (windowClosed s)) = hbTimeout s :=
    congrArg (sec * ·) (fget_of_rd (f := F.OWN_CFG_HB_TIMEOUT) (hRegs A.OWN_CFG (by decide)))
  simp only [gainOwner_eq, fset_own, setOwn, ownGained, hTime, hTimeout]

theorem gainOwner_of_open (hOpen : electionOpen s = true) :
    (gainOwner c s).own.claims = [] ∧ (gainOwner c s).start = { s.start with electionOver := true } := by
  have hWindow : windowClosed s = closeElection s := by simp only [windowClosed, onlyIf, hOpen, if_true]
  refine ⟨?_, ?_⟩
  · simp only [gainOwner_eq, fset_own, setOwn, ownGained, endHandover_own, hWindow, closeElection_own]
  · obtain ⟨-, hParts⟩ := endHandover_changes (closeElection s)
    have hStart : (endHandover (closeElection s)).start = (closeElection s).start := hParts .start (by decide)
    simp only [gainOwner_eq, fset_start, hWindow]
    exact hStart.trans (closeElection_start s)

end

/-! The records of the ownership logic. -/

section
variable {sev : Nat} (hSev : sev < 8) (k : EvKind) (old : Nat) (s : State)
include hSev

theorem ownRecord_changes : changesOnly s (ownRecord sev k old s) noteRegs [.events] :=
  ⟨keepsRegs_raise hSev _ _ _ _ s, fun _ hp => (raise_same _ _ _ _ _ _ hp).mpr (Part.same_refl _ s)⟩

theorem fget_ownRecord {f : Fld} (hf : f.reg = A.OWN_STAT) : fget (ownRecord sev k old s) f = fget s f :=
  fget_raise hSev _ _ _ _ s (by rw [hf]; decide)

theorem flag_ownRecord {f : Fld} (hf : f.reg = A.OWN_STAT) : flag (ownRecord sev k old s) f = flag s f := by
  simp only [flag, fget_ownRecord hSev k old s hf]

theorem ownRecord_own : (ownRecord sev k old s).own = s.own := (ownRecord_changes hSev k old s).2 .own (by simp)

theorem ownRecord_start : (ownRecord sev k old s).start = s.start := (ownRecord_changes hSev k old s).2 .start (by simp)

end

end Sys2Proof.Proofs
end

section
/-! SUPPORT. The time-outs of the punty and the end of the election window (R125, R126, R129). -/
namespace Sys2Proof.Proofs
open Sys2Proof.Machine

/-- The ownership status and what the recorder's front counts. -/
def statRegs : List Nat := A.OWN_STAT :: noteRegs

theorem changesOnly_atTime (t : Nat) (s : State) : changesOnly s (atTime t s) [] [.mtime] :=
  ⟨fun _ _ => rfl, fun p hp => (atTime_same t s (fun h => hp (List.mem_cons_of_mem _ h))).mpr (Part.same_refl p s)⟩

theorem meterOver_of_none {s t : State} (hNone : s.svc.meterEnd = none) (hSvc : t.svc = s.svc) : meterOver t = t := by
  simp only [meterOver, hSvc, hNone, Option.isSome_none, Bool.false_and, Bool.false_eq_true, if_false]

theorem timeouts_paused {s : State} (hRestart : s.start.supervisorAt.isSome = true) (hNone : s.svc.meterEnd = none) :
    exec .heartbeatTimeout s = .next s ∧ exec .handoverTimeout s = .next s := by
  have hMeter := meterOver_of_none hNone (rfl : s.svc = s.svc)
  have hHeartbeat : heartbeatTimeout s = s := by simp only [heartbeatTimeout, timeoutsPause, hRestart, Bool.true_or, if_true]
  have hHandover : handoverTimeout s = s := by simp only [handoverTimeout, timeoutsPause, hRestart, Bool.true_or, if_true]
  constructor
  · change live (fun s => meterOver (heartbeatTimeout s)) s = _
    simp only [live, hHeartbeat, hMeter, ite_self]
    rfl
  · change live (fun s => meterOver (handoverTimeout s)) s = _
    simp only [live, hHandover, hMeter, ite_self]
    rfl

/-! HEARTBEAT_TIMEOUT (R126, R129). -/

/-- The lapse is shown. -/
def lapseShown (s : State) : State := fset (atTime s.own.hbDeadline s) F.OWN_STAT_LAPSED 1

theorem lapseShown_changes (s : State) : changesOnly s (lapseShown s) [A.OWN_STAT] [.mtime] :=
  changesOnly_seq (changesOnly_atTime _ s) (changesOnly_fset _ F.OWN_STAT_LAPSED 1) (by decide) (by decide) (by decide) (by decide)

theorem lapseShown_own (s : State) : (lapseShown s).own = s.own := (lapseShown_changes s).2 .own (by decide)

theorem lapseShown_mtime (s : State) : (lapseShown s).mtime = max s.mtime s.own.hbDeadline := by
  simp only [lapseShown, fset_mtime]
  rfl

theorem lapseShown_fields (s : State) : flag (lapseShown s) F.OWN_STAT_LAPSED = true ∧ ownerCode (lapseShown s) = ownerCode s ∧
    handoverPending (lapseShown s) = handoverPending s :=
  ⟨flag_fset_one _ rfl (by decide), fget_fset_of_beside (by decide) _ 1, flag_fset_of_beside (by decide) _ 1⟩

section
variable {s : State} (hOwner : ownerCode s ≠ 0) (hRuns : s.start.supervisorAt = none)
include hOwner hRuns

theorem heartbeatTimeout_eq : heartbeatTimeout s = if handoverPending s = true then setOwn { s.own with lapseNoted := true } (lapseShown s)
    else ownRecord 3 .lapse (ownerCode s) (loseOwner (lapseShown s)) := by
  obtain ⟨-, -, hPend⟩ := lapseShown_fields s
  have hOwner' : ownerCode (atTime s.own.hbDeadline s) ≠ 0 := hOwner
  simp only [heartbeatTimeout, timeoutsPause, hRuns, hOwner, Option.isSome_none, decide_false, Bool.or_self, Bool.false_eq_true, if_false, lapse,
    if_neg hOwner']
  rw [← hPend, ← lapseShown_own s]
  rfl

theorem heartbeatTimeout_clause :
    let t := heartbeatTimeout s
    changesOnly s t statRegs [.mtime, .own, .events] ∧ t.mtime = max s.mtime s.own.hbDeadline ∧ flag t F.OWN_STAT_LAPSED = true ∧
      (if handoverPending s = true then ownerCode t = ownerCode s ∧ handoverPending t = true ∧ t.own = { s.own with lapseNoted := true }
       else ownerCode t = 0 ∧ t.own = { s.own with lapseNoted := false, autoHb := false }) := by
  intro t
  have ht : t = _ := heartbeatTimeout_eq hOwner hRuns
  have hShown := lapseShown_changes s
  obtain ⟨hLapsed, hCode, hPending⟩ := lapseShown_fields s
  rw [ht]
  split
  next hPend =>
    refine ⟨changesOnly_seq hShown (changesOnly_setOwn _ _) (by simp [statRegs]) (by simp) (by simp) (by simp), lapseShown_mtime s,
      hLapsed, hCode, hPending.trans hPend, rfl⟩
  next =>
    have hLost := loseOwner_changes (lapseShown s)
    have hRecord := ownRecord_changes (sev := 3) (by decide) .lapse (ownerCode s) (loseOwner (lapseShown s))
    have hLapse : changesOnly s (loseOwner (lapseShown s)) [A.OWN_STAT] [.mtime, .own] :=
      changesOnly_seq hShown hLost (by simp) (by simp) (by simp) (by simp)
    refine ⟨changesOnly_seq hLapse hRecord (by simp [statRegs]) (List.subset_cons_self _ _) (by simp) (by simp), ?_, ?_, ?_, ?_⟩
    · exact (hRecord.2 .mtime (by decide)).trans ((hLost.2 .mtime (by decide)).trans (lapseShown_mtime s))
    · rw [flag_ownRecord (by decide) _ _ _ rfl, flag_loseOwner _ (by decide) (by decide) (by decide), hLapsed]
    · rw [ownerCode, fget_ownRecord (by decide) _ _ _ rfl]
      exact loseOwner_none _
    · rw [ownRecord_own (by decide), loseOwner_own, lapseShown_own]

end

/-! HANDOVER_TIMEOUT (R126). -/

/-- The cancellation of a handover is shown. -/
def cancelShown (s : State) : State := fset s F.OWN_STAT_HANDOVER_CANCEL 1

theorem cancelShown_fields (s : State) : flag (cancelShown s) F.OWN_STAT_HANDOVER_CANCEL = true ∧ ownerCode (cancelShown s) = ownerCode s ∧
    handoverPending (cancelShown s) = handoverPending s :=
  ⟨flag_fset_one _ rfl (by decide), fget_fset_of_beside (by decide) _ 1, flag_fset_of_beside (by decide) _ 1⟩

theorem handoverTimeout_eq {s : State} (hPend : handoverPending s = true) (hRuns : s.start.supervisorAt = none) :
    handoverTimeout s = if s.own.lapseNoted = true then
      ownRecord 3 .handoverCancel (ownerCode s) (loseOwner (cancelShown (atTime s.own.hoDeadline s)))
      else ownRecord 2 .handoverCancel (ownerCode s) (endHandover (cancelShown (atTime s.own.hoDeadline s))) := by
  simp only [handoverTimeout, timeoutsPause, hRuns, hPend, Option.isSome_none, Bool.not_true, Bool.or_self, Bool.false_eq_true, if_false]
  rfl

theorem handoverTimeout_clause {s : State} (hPend : handoverPending s = true) (hRuns : s.start.supervisorAt = none) :
    let t := handoverTimeout s
    changesOnly s t statRegs [.mtime, .own, .events] ∧ t.mtime = max s.mtime s.own.hoDeadline ∧ handoverPending t = false ∧
      fget t F.OWN_STAT_TARGET = 0 ∧ flag t F.OWN_STAT_HANDOVER_CANCEL = true ∧ t.own.lapseNoted = false ∧
      ownerCode t = (if s.own.lapseNoted = true then 0 else ownerCode s) := by
  intro t
  have ht : t = _ := handoverTimeout_eq hPend hRuns
  obtain ⟨hCancel, hCode, -⟩ := cancelShown_fields (atTime s.own.hoDeadline s)
  have hShown : changesOnly s (cancelShown (atTime s.own.hoDeadline s)) [A.OWN_STAT] [.mtime] :=
    changesOnly_seq (changesOnly_atTime _ s) (changesOnly_fset _ F.OWN_STAT_HANDOVER_CANCEL 1) (by decide) (by decide) (by decide) (by decide)
  have hTime : (cancelShown (atTime s.own.hoDeadline s)).mtime = max s.mtime s.own.hoDeadline := by simp only [cancelShown, fset_mtime]; rfl
  rw [ht]
  generalize cancelShown (atTime s.own.hoDeadline s) = u at *
  split
  · have hLost := changesOnly_seq (q := [A.OWN_STAT]) (q' := [.mtime, .own]) hShown (loseOwner_changes u) (by simp) (by simp) (by simp) (by simp)
    have hRecord := ownRecord_changes (sev := 3) (by decide) .handoverCancel (ownerCode s) (loseOwner u)
    obtain ⟨hEnded, hTarget⟩ := loseOwner_ended u
    refine ⟨changesOnly_seq hLost hRecord (by simp [statRegs]) (List.subset_cons_self _ _) (by simp) (by simp), ?_, ?_, ?_, ?_, ?_, ?_⟩
    · exact (hRecord.2 .mtime (by decide)).trans (((loseOwner_changes u).2 .mtime (by decide)).trans hTime)
    · exact (flag_ownRecord (by decide) _ _ _ rfl).trans hEnded
    · exact (fget_ownRecord (by decide) _ _ _ rfl).trans hTarget
    · rw [flag_ownRecord (by decide) _ _ _ rfl, flag_loseOwner _ (by decide) (by decide) (by decide), hCancel]
    · rw [ownRecord_own (by decide), loseOwner_own]
    · exact (fget_ownRecord (by decide) _ _ _ rfl).trans (loseOwner_none u)
  · have hOver := changesOnly_seq (q := [A.OWN_STAT]) (q' := [.mtime, .own]) hShown (endHandover_changes u) (by simp) (by simp) (by simp) (by simp)
    have hRecord := ownRecord_changes (sev := 2) (by decide) .handoverCancel (ownerCode s) (endHandover u)
    obtain ⟨hEnded, hTarget⟩ := endHandover_ended u
    refine ⟨changesOnly_seq hOver hRecord (by simp [statRegs]) (List.subset_cons_self _ _) (by simp) (by simp), ?_, ?_, ?_, ?_, ?_, ?_⟩
    · exact (hRecord.2 .mtime (by decide)).trans (((endHandover_changes u).2 .mtime (by decide)).trans hTime)
    · exact (flag_ownRecord (by decide) _ _ _ rfl).trans hEnded
    · exact (fget_ownRecord (by decide) _ _ _ rfl).trans hTarget
    · rw [flag_ownRecord (by decide) _ _ _ rfl, flag_endHandover _ (by decide) (by decide), hCancel]
    · rw [ownRecord_own (by decide), endHandover_own]
    · exact (fget_ownRecord (by decide) _ _ _ rfl).trans ((fget_endHandover u (by decide) (by decide)).trans hCode)

/-! ELECTION_WINDOW_END (R125, R126). -/

theorem electionWindowEnd_won {s : State} {c : Nat} (hOpen : electionOpen s = true) (hBest : bestClaim s = some c) (hPos : 1 ≤ c) (hc : c ≤ 3) :
    let t := electionWindowEnd s
    changesOnly s t (A.STARTUP_STAT :: statRegs) [.start, .mtime, .own, .events] ∧ t.mtime = max s.mtime s.own.electionEnd ∧ ownerCode t = c ∧
      electionOpen t = false ∧ t.own.claims = [] ∧ t.start = { s.start with electionOver := true } := by
  have hOpen' : electionOpen (atTime s.own.electionEnd s) = true := hOpen
  have hBest' : bestClaim (atTime s.own.electionEnd s) = some c := hBest
  have hTime := changesOnly_atTime s.own.electionEnd s
  have hGain := gainOwner_changes (atTime s.own.electionEnd s) c
  have hRecord := ownRecord_changes (sev := 2) (by decide) .ownerChange 0 (gainOwner c (atTime s.own.electionEnd s))
  obtain ⟨hClaims, hStart⟩ := gainOwner_of_open (atTime s.own.electionEnd s) c hOpen'
  have hOwner : ownerCode (ownRecord 2 .ownerChange 0 (gainOwner c (atTime s.own.electionEnd s))) = c :=
    (fget_ownRecord (by decide) _ _ _ rfl).trans (gainOwner_owner _ c (by omega))
  have hEnd : electionWindowEnd s = ownRecord 2 .ownerChange 0 (gainOwner c (atTime s.own.electionEnd s)) := by
    have hSome : decide (ownerCode (ownRecord 2 .ownerChange 0 (gainOwner c (atTime s.own.electionEnd s))) = 0) = false :=
      decide_eq_false (by rw [hOwner]; omega)
    simp only [electionWindowEnd, hOpen, electionEnds, hBest', Bool.not_true, Bool.false_eq_true, if_false, hSome, Bool.false_and, onlyIf]
  have hWon : changesOnly s (gainOwner c (atTime s.own.electionEnd s)) [A.STARTUP_STAT, A.OWN_STAT] [.mtime, .own, .start] :=
    changesOnly_seq hTime hGain (by simp) (by simp) (by simp) (by simp)
  simp only [hEnd]
  refine ⟨changesOnly_seq hWon hRecord (by simp [statRegs]) ?_ (by simp) (by simp), ?_, hOwner, ?_, ?_, ?_⟩
  · exact fun r hr => List.mem_cons_of_mem _ (List.mem_cons_of_mem _ hr)
  · exact (hRecord.2 .mtime (by decide)).trans ((hGain.2 .mtime (by decide)).trans rfl)
  · exact (flag_ownRecord (by decide) _ _ _ rfl).trans (gainOwner_closed _ c)
  · rw [ownRecord_own (by decide), hClaims]
  · rw [ownRecord_start (by decide), hStart]
    rfl

theorem electionWindowEnd_unclaimed {s : State} (hOpen : electionOpen s = true) (hNone : bestClaim s = none)
    (hManual : flag s F.OWN_CFG_AUTOSTART = false) :
    let t := electionWindowEnd s
    changesOnly s t [A.STARTUP_STAT, A.OWN_STAT] [.mtime, .own, .start] ∧ t.mtime = max s.mtime s.own.electionEnd ∧
      ownerCode t = ownerCode s ∧ electionOpen t = false ∧ t.own.claims = [] ∧ t.start = { s.start with electionOver := true } := by
  have hBest : bestClaim (atTime s.own.electionEnd s) = none := hNone
  have hClose := closeElection_changes (atTime s.own.electionEnd s)
  have hConfig : flag (closeElection (atTime s.own.electionEnd s)) F.OWN_CFG_AUTOSTART = false :=
    (flag_of_rd (hClose.1 A.OWN_CFG (by decide))).trans hManual
  have hEnd : electionWindowEnd s = closeElection (atTime s.own.electionEnd s) := by
    simp only [electionWindowEnd, hOpen, electionEnds, hBest, Bool.not_true, Bool.false_eq_true, if_false, hConfig, Bool.and_false, onlyIf]
  simp only [hEnd]
  refine ⟨changesOnly_seq (changesOnly_atTime _ s) hClose (by simp) (by simp) (by simp) (by simp), ?_, ?_, closeElection_closed _, ?_, ?_⟩
  · exact (hClose.2 .mtime (by decide)).trans rfl
  · exact fget_closeElection _ (by decide)
  · rw [closeElection_own]
  · exact closeElection_start _

/-- Settles O24: each time-out is the operation of the ownership logic that its rule names. -/
theorem puntyTimeouts : Obligations.PuntyTimeouts := by
  unfold Obligations.PuntyTimeouts
  intro s hRun hNone stat parts
  refine ⟨fun hRestart => timeouts_paused hRestart hNone, fun hOwner hRuns => ?_, fun hPend hRuns => ?_, fun c hOpen hBest hPos hc => ?_,
    fun hOpen hBest hManual => ?_⟩
  · have hClause := heartbeatTimeout_clause hOwner hRuns
    refine answers_live (f := fun s => meterOver (heartbeatTimeout s)) rfl hRun ?_
    rw [meterOver_of_none hNone (hClause.1.2 .svc (by decide))]
    exact hClause
  · have hClause := handoverTimeout_clause hPend hRuns
    refine answers_live (f := fun s => meterOver (handoverTimeout s)) rfl hRun ?_
    rw [meterOver_of_none hNone (hClause.1.2 .svc (by decide))]
    exact hClause
  · exact answers_live rfl hRun (electionWindowEnd_won hOpen hBest hPos hc)
  · exact answers_live rfl hRun (electionWindowEnd_unclaimed hOpen hBest hManual)

end Sys2Proof.Proofs
end

section
/-! SUPPORT. The commands of the punty: claim, handover, release, cancel, acceptance, heartbeat, seizure and order (R125 to R133). -/
namespace Sys2Proof.Proofs
open Sys2Proof.Machine

/-! What a whole write loads. -/

theorem getLsbD_writtenWord_loaded {fs : List FieldSpec} {i : Nat} (hLoad : (loadMask true fs).getLsbD i = true)
    (hClear : (typeMask .w1c fs).getLsbD i = false) (old d : Word) : (writtenWord fs old d).getLsbD i = d.getLsbD i := by
  simp only [writtenWord, BitVec.getLsbD_and, BitVec.getLsbD_or, BitVec.getLsbD_not, hLoad, hClear]
  cases hBit : d.getLsbD i with
  | false => simp
  | true => simp [BitVec.lt_of_getLsbD hBit]

/-- A field of a written type takes the written value. -/
theorem bitsOf_writtenWord {fs : List FieldSpec} {hi lo : Nat}
    (h : ∀ i ≤ max lo hi, lo ≤ i → (loadMask true fs).getLsbD i = true ∧ (typeMask .w1c fs).getLsbD i = false) (old d : Word) :
    bitsOf (writtenWord fs old d) hi lo = bitsOf d hi lo :=
  bitsOf_congr fun i hLo hHi => getLsbD_writtenWord_loaded (h i hHi hLo).1 (h i hHi hLo).2 old d

theorem Master.code_pos (m : Master) : 1 ≤ m.code ∧ m.code < 4 := by cases m <;> decide

/-- The registers that a change of owner may change. -/
def gainRegs : List Nat := A.STARTUP_STAT :: statRegs

theorem own_not_unlock : Part.unlock ∉ Part.regs :: [.own, .start, .events] := by decide

/-- The punty is master c's, with a fresh heartbeat, no handover and no open window. -/
def gained (c : Nat) (s t : State) : Prop :=
  ownerCode t = c ∧ handoverPending t = false ∧ fget t F.OWN_STAT_TARGET = 0 ∧ electionOpen t = false ∧
    t.own.hbDeadline = s.mtime + sec * fget s F.OWN_CFG_HB_TIMEOUT

theorem gained_of_readsAlike {c : Nat} {s u t : State} {m : Master} (hu : readsAlike s u m) (h : gained c u t) : gained c s t := by
  obtain ⟨hOwner, hPend, hTarget, hElection, hDeadline⟩ := h
  exact ⟨hOwner, hPend, hTarget, hElection, by rw [hDeadline, hu.mtime, hu.fget]⟩

theorem gained_gainOwner {c : Nat} (hc : c < 4) (s : State) : gained c s (gainOwner c s) := by
  obtain ⟨hPend, hTarget⟩ := gainOwner_ended s c
  exact ⟨gainOwner_owner s c hc, hPend, hTarget, gainOwner_closed s c, gainOwner_deadline s c⟩

theorem gained_ownRecord {sev : Nat} (hSev : sev < 8) {c : Nat} {s t : State} (h : gained c s t) (k : EvKind) (old : Nat) :
    gained c s (ownRecord sev k old t) := by
  obtain ⟨hOwner, hPend, hTarget, hElection, hDeadline⟩ := h
  exact ⟨(fget_ownRecord hSev _ _ _ rfl).trans hOwner, (flag_ownRecord hSev _ _ _ rfl).trans hPend, (fget_ownRecord hSev _ _ _ rfl).trans hTarget,
    (flag_ownRecord hSev _ _ _ rfl).trans hElection, by rw [ownRecord_own hSev, hDeadline]⟩

/-! OWN_CLAIM (R125, R126). -/

theorem claimRefused_congr {s t : State} {m : Master} (h : readsAlike s t m) (c : Nat) : claimRefused t c = claimRefused s c := by
  simp only [claimRefused, inOrder, electionOpen, h.own, h.ownerCode, h.flag, h.start]

/-- The claims that wait once master c's does. -/
def waitingClaims (c : Nat) (s : State) : List Nat := if s.own.claims.contains c then s.own.claims else s.own.claims ++ [c]

/-- A claim waits for the window's end. -/
def claimWaits (c : Nat) (s : State) : State := setOwn { s.own with claims := waitingClaims c s } s

theorem mem_waitingClaims (c : Nat) (s : State) : c ∈ waitingClaims c s := by
  unfold waitingClaims
  split
  next h => exact List.contains_iff_mem.mp h
  next => simp

theorem ownClaim_fields : imageMask Reg.OWN_CLAIM = 0 ∧ allReadOnly Reg.OWN_CLAIM.fields = false ∧
    Reg.OWN_CLAIM.fields.all (·.ok.isEmpty) = true ∧ bitsOf (writtenWord Reg.OWN_CLAIM.fields 0 1) 0 0 = 1 := by decide

/-- The write of OWN_CLAIM. -/
def claimCtx (m : Master) (s : State) : WriteCtx := wholeCtx ruleClaim m ⟨Reg.OWN_CLAIM, []⟩ A.OWN_CLAIM 1 s

theorem claimCtx_claim (m : Master) (s : State) : (claimCtx m s).get F.OWN_CLAIM_CLAIM = 1 := by
  obtain ⟨-, -, -, hOne⟩ := ownClaim_fields
  exact hOne

theorem claim_state (m : Master) (s u : State) : ruleClaim.state (claimCtx m s) u = claimRefused u m.code := by
  simp only [ruleClaim, claimCtx_claim, decide_true, Bool.true_and]
  rfl

section
variable {s : State} {m : Master} (hReach : reachable s)
include hReach

theorem ownClaim_ok (hFree : claimRefused s m.code = false) : ∃ u, readsAlike s u m ∧ rowKeyed ruleClaim m 0xB7E1 ⟨Reg.OWN_CLAIM, []⟩ A.OWN_CLAIM 1 s =
    setReply (.okValue .ok []) (setUnlock m .no (meterOver (claimBy m.code u))) := by
  obtain ⟨hImage, hFields, hRanges, -⟩ := ownClaim_fields
  obtain ⟨-, hHeld, -⟩ := id hReach
  obtain ⟨u, hu, hRow⟩ := rowKeyed_ok (r := ruleClaim) (h := ⟨Reg.OWN_CLAIM, []⟩) (a := A.OWN_CLAIM) (data := 1) (m := m) hImage hReach fun u hu =>
    { power := hu.readsAlike.sysHeld.trans hHeld
      fields := hFields
      may := by simp [mayWrite]
      guarded := fun _ => rfl
      right := keyWrong_of_base (show Reg.OWN_CLAIM.base ≠ Reg.KEY_UNLOCK.base by decide) _
      once := rfl
      range := rangeBad_of_noRanges hRanges _ _
      value := rfl
      state := (claim_state m _ u).trans ((claimRefused_congr hu.readsAlike m.code).trans hFree)
      armed := rfl }
  refine ⟨u, hu.readsAlike, hRow.trans ?_⟩
  have hEffect : ruleClaim.effect (claimCtx m (setUnlock m .held (beginTx m s))) u = claimBy m.code u := if_pos (claimCtx_claim m _)
  exact congrArg (fun t => setReply (.okValue .ok []) (setUnlock m .no (meterOver t))) hEffect

theorem ownClaim_refused (hRefused : claimRefused s m.code = true) :
    refuses s (rowKeyed ruleClaim m 0xB7E1 ⟨Reg.OWN_CLAIM, []⟩ A.OWN_CLAIM 1 s) m .state := by
  obtain ⟨hImage, hFields, hRanges, -⟩ := ownClaim_fields
  obtain ⟨-, hHeld, -⟩ := id hReach
  refine rowKeyed_err (h := ⟨Reg.OWN_CLAIM, []⟩) hImage hReach (by decide) fun u hu => ?_
  have hPower : domainOff u (domainOf ⟨Reg.OWN_CLAIM, []⟩) = false := hu.readsAlike.sysHeld.trans hHeld
  have hState := (claim_state m (setUnlock m .held (beginTx m s)) u).trans ((claimRefused_congr hu.readsAlike m.code).trans hRefused)
  rw [writeErr_whole (h := ⟨Reg.OWN_CLAIM, []⟩) hImage, ← claimCtx]
  have hMay : mayWrite u m (claimCtx m (setUnlock m .held (beginTx m s))) Reg.OWN_CLAIM.base = true := by simp [mayWrite]
  have hWrong : keyWrong ⟨⟨Reg.OWN_CLAIM, []⟩, A.OWN_CLAIM, none⟩ (claimCtx m (setUnlock m .held (beginTx m s))) = false :=
    keyWrong_of_base (show Reg.OWN_CLAIM.base ≠ Reg.KEY_UNLOCK.base by decide) _
  have hOnce : ruleClaim.once (claimCtx m (setUnlock m .held (beginTx m s))) u = false := rfl
  have hValue : ruleClaim.value (claimCtx m (setUnlock m .held (beginTx m s))) u = false := rfl
  simp [hPower, hFields, hMay, hWrong, hOnce, hValue, rangeBad_of_noRanges hRanges, hState]

variable (hNone : s.svc.meterEnd = none) (hFree : claimRefused s m.code = false)
include hNone hFree

theorem ownClaim_wins (hFirst : electionOpen s = false ∨ s.own.order.head? = some m.code) :
    let t := rowKeyed ruleClaim m 0xB7E1 ⟨Reg.OWN_CLAIM, []⟩ A.OWN_CLAIM 1 s
    accepts s t m gainRegs [.own, .start, .events] ∧ gained m.code s t := by
  obtain ⟨u, hu, hRow⟩ := ownClaim_ok hReach hFree
  have hWins : claimBy m.code u = ownRecord 2 .ownerChange 0 (gainOwner m.code u) := by
    have hNot : ¬ (electionOpen u = true ∧ u.own.order.head? ≠ some m.code) := by
      rw [electionOpen, hu.flag, hu.own]
      rintro ⟨hOpen, hLater⟩
      exact hFirst.elim (fun h => absurd (h.symm.trans hOpen) (by decide)) hLater
    simp only [claimBy, if_neg hNot]
  have hChanges : changesOnly u (claimBy m.code u) gainRegs [.own, .start, .events] := by
    rw [hWins]
    exact changesOnly_seq (gainOwner_changes u m.code) (ownRecord_changes (by decide) _ _ _) (by simp [gainRegs, statRegs])
      (fun r hr => List.mem_cons_of_mem _ (List.mem_cons_of_mem _ hr)) (by simp) (by simp)
  have hMeter : meterOver (claimBy m.code u) = claimBy m.code u :=
    meterOver_of_none hNone ((part_of_changesOnly hChanges .svc (by decide)).trans hu.svc)
  rw [hMeter] at hRow
  simp only [hRow]
  refine ⟨accepts_unlock hu hChanges own_not_unlock _, gained_of_readsAlike hu ?_⟩
  have hGained := gained_ownRecord (sev := 2) (by decide) (gained_gainOwner (Master.code_pos m).2 u) .ownerChange 0
  rw [← hWins] at hGained
  exact hGained

theorem ownClaim_waits (hOpen : electionOpen s = true) (hLater : s.own.order.head? ≠ some m.code) :
    let t := rowKeyed ruleClaim m 0xB7E1 ⟨Reg.OWN_CLAIM, []⟩ A.OWN_CLAIM 1 s
    accepts s t m [] [.own] ∧ m.code ∈ t.own.claims ∧ t.own = { s.own with claims := t.own.claims } := by
  obtain ⟨u, hu, hRow⟩ := ownClaim_ok hReach hFree
  have hWaits : claimBy m.code u = claimWaits m.code u := by
    have hOpen' : electionOpen u = true ∧ u.own.order.head? ≠ some m.code := by
      rw [electionOpen, hu.flag, hu.own]
      exact ⟨hOpen, hLater⟩
    simp only [claimBy, if_pos hOpen']
    rfl
  have hMeter : meterOver (claimWaits m.code u) = claimWaits m.code u := meterOver_of_none hNone hu.svc
  rw [hWaits, hMeter] at hRow
  simp only [hRow]
  refine ⟨accepts_unlock hu (changesOnly_setOwn _ u) (by decide) _, mem_waitingClaims m.code u, ?_⟩
  exact congrArg (fun o : Own => { o with claims := waitingClaims m.code u }) hu.own

end

/-! OWN_HANDOVER: start, release and cancel (R126, R128). -/

theorem handoverRefused_congr {s t : State} {m : Master} (h : readsAlike s t m) (c : Nat) : handoverRefused t c = handoverRefused s c := by
  rw [handoverRefused, handoverRefused, inOrder, inOrder, h.own, h.ownerCode, h.handoverPending, h.flag]

theorem ownHandover_fields : imageMask Reg.OWN_HANDOVER = 0 ∧ allReadOnly Reg.OWN_HANDOVER.fields = false ∧
    ∀ i ≤ 2, 0 ≤ i → (loadMask true Reg.OWN_HANDOVER.fields).getLsbD i = true ∧ (typeMask .w1c Reg.OWN_HANDOVER.fields).getLsbD i = false := by
  decide

/-- The write of OWN_HANDOVER. -/
def handoverCtx (m : Master) (d : Word) (s : State) : WriteCtx := wholeCtx ruleHandover m ⟨Reg.OWN_HANDOVER, []⟩ A.OWN_HANDOVER d s

theorem handoverCtx_target (m : Master) (d : Word) (s : State) : (handoverCtx m d s).get F.OWN_HANDOVER_TARGET = bitsOf d 2 0 := by
  obtain ⟨-, -, hLoad⟩ := ownHandover_fields
  exact bitsOf_writtenWord hLoad _ d

theorem handover_range {m : Master} {d : Word} {s : State} (hTarget : bitsOf d 2 0 ≤ 3 ∨ bitsOf d 2 0 = 7) (sel : Word) :
    rangeBad Reg.OWN_HANDOVER.fields sel (handoverCtx m d s).new = false := by
  have hGet : bitsOf (handoverCtx m d s).new 2 0 = bitsOf d 2 0 := handoverCtx_target m d s
  simp only [rangeBad, Reg.OWN_HANDOVER, List.any_cons, List.any_nil, hGet, inRanges]
  rcases hTarget with h | h <;> simp [h]

theorem ownHandover_ok {s : State} {m : Master} {d : Word} {c : Nat} (hMay : mayCommand s m) (hd : bitsOf d 2 0 = c) (hRange : c ≤ 3 ∨ c = 7)
    (hFree : handoverRefused s c = none) : ∃ u, readsAlike s u m ∧
      rowKeyed ruleHandover m 0xB7E1 ⟨Reg.OWN_HANDOVER, []⟩ A.OWN_HANDOVER d s =
        setReply (.okValue .ok []) (setUnlock m .no (meterOver (handover c u))) := by
  obtain ⟨hImage, hFields, -⟩ := ownHandover_fields
  obtain ⟨hReach, hOwner⟩ := hMay
  obtain ⟨-, hHeld, -⟩ := id hReach
  have hGet (v : State) : (handoverCtx m d v).get F.OWN_HANDOVER_TARGET = c := (handoverCtx_target m d v).trans hd
  obtain ⟨u, hu, hRow⟩ := rowKeyed_ok (r := ruleHandover) (h := ⟨Reg.OWN_HANDOVER, []⟩) (a := A.OWN_HANDOVER) (data := d) (m := m) hImage hReach
    fun u hu =>
    { power := hu.readsAlike.sysHeld.trans hHeld
      fields := hFields
      may := mayWrite_of_owner (hu.readsAlike.ownerCode.trans hOwner) _ _
      guarded := fun _ => rfl
      right := keyWrong_of_base (show Reg.OWN_HANDOVER.base ≠ Reg.KEY_UNLOCK.base by decide) _
      once := rfl
      range := handover_range (by rw [hd]; exact hRange) _
      value := by
        change (decide (4 ≤ (handoverCtx m d _).get F.OWN_HANDOVER_TARGET ∧ (handoverCtx m d _).get F.OWN_HANDOVER_TARGET ≤ 6) ||
          handoverRefused u ((handoverCtx m d _).get F.OWN_HANDOVER_TARGET) == some .value) = false
        rw [hGet, handoverRefused_congr hu.readsAlike, hFree, decide_eq_false (by omega)]
        rfl
      state := by
        change (handoverRefused u ((handoverCtx m d _).get F.OWN_HANDOVER_TARGET) == some .state) = false
        rw [hGet, handoverRefused_congr hu.readsAlike, hFree]
        rfl
      armed := rfl }
  refine ⟨u, hu.readsAlike, hRow.trans ?_⟩
  exact congrArg (fun c => setReply (.okValue .ok []) (setUnlock m .no (meterOver (handover c u)))) (hGet _)

/-- A handover that is cancelled is shown. -/
def cancelNoted (s : State) : State := onlyIf (handoverPending s) cancelShown s

theorem cancelNoted_changes (s : State) : changesOnly s (cancelNoted s) [A.OWN_STAT] [] := by
  unfold cancelNoted onlyIf
  split
  · exact changesOnly_fset s F.OWN_STAT_HANDOVER_CANCEL 1
  · exact changesOnly_refl s _ _

theorem cancelNoted_cancel (s : State) :
    flag (cancelNoted s) F.OWN_STAT_HANDOVER_CANCEL = (flag s F.OWN_STAT_HANDOVER_CANCEL || handoverPending s) := by
  obtain ⟨hCancel, -⟩ := cancelShown_fields s
  unfold cancelNoted onlyIf
  cases hPend : handoverPending s with
  | false => simp
  | true => simp [hCancel]

/-- The release of the punty. -/
def released (s : State) : State := ownRecord 2 .ownerChange (ownerCode s) (loseOwner (cancelNoted s))

theorem handover_release (s : State) : handover 0 s = released s := rfl

theorem released_changes (s : State) : changesOnly s (released s) statRegs [.own, .events] :=
  changesOnly_seq (changesOnly_seq (q := [A.OWN_STAT]) (q' := [.own]) (cancelNoted_changes s) (loseOwner_changes _) (by decide) (by decide) (by decide)
    (by decide)) (ownRecord_changes (by decide) _ _ _) (by simp [statRegs]) (List.subset_cons_self _ _) (by simp) (by simp)

theorem released_fields (s : State) : ownerCode (released s) = 0 ∧ handoverPending (released s) = false ∧
    flag (released s) F.OWN_STAT_HANDOVER_CANCEL = (flag s F.OWN_STAT_HANDOVER_CANCEL || handoverPending s) := by
  obtain ⟨hEnded, -⟩ := loseOwner_ended (cancelNoted s)
  refine ⟨(fget_ownRecord (by decide) _ _ _ rfl).trans (loseOwner_none _), (flag_ownRecord (by decide) _ _ _ rfl).trans hEnded, ?_⟩
  rw [released, flag_ownRecord (by decide) _ _ _ rfl, flag_loseOwner _ (by decide) (by decide) (by decide), cancelNoted_cancel]

/-- The cancelling of a handover. -/
def cancelled (s : State) : State := ownRecord 2 .handoverCancel (ownerCode s) (refreshHeartbeat (endHandover (cancelShown s)))

theorem handover_cancel {s : State} (hPend : handoverPending s = true) : handover 7 s = cancelled s := by
  simp only [handover, hPend, if_true]
  rfl

theorem handover_cancel_none {s : State} (hNone : handoverPending s = false) : handover 7 s = s := by
  simp only [handover, hNone, Bool.false_eq_true, if_false]
  rfl

theorem cancelEnded_changes (s : State) : changesOnly s (endHandover (cancelShown s)) [A.OWN_STAT] [.own] :=
  changesOnly_seq (changesOnly_fset s F.OWN_STAT_HANDOVER_CANCEL 1) (endHandover_changes _) (by decide) (by decide) (by decide) (by decide)

theorem cancelled_changes (s : State) : changesOnly s (cancelled s) statRegs [.own, .events] :=
  changesOnly_seq (changesOnly_seq (q := [A.OWN_STAT]) (q' := [.own]) (cancelEnded_changes s) (changesOnly_setOwn _ _) (by decide) (by decide)
    (by decide) (by decide)) (ownRecord_changes (by decide) _ _ _) (by simp [statRegs]) (List.subset_cons_self _ _) (by simp) (by simp)

theorem cancelled_fields (s : State) : ownerCode (cancelled s) = ownerCode s ∧ handoverPending (cancelled s) = false ∧
    flag (cancelled s) F.OWN_STAT_HANDOVER_CANCEL = true ∧ (cancelled s).own.hbDeadline = s.mtime + hbTimeout s := by
  obtain ⟨hCancel, hOwner, -⟩ := cancelShown_fields s
  obtain ⟨hEnded, -⟩ := endHandover_ended (cancelShown s)
  obtain ⟨hRegs, hParts⟩ := cancelEnded_changes s
  refine ⟨?_, ?_, ?_, ?_⟩
  · exact (fget_ownRecord (by decide) _ _ _ rfl).trans ((fget_endHandover (cancelShown s) (by decide) (by decide)).trans hOwner)
  · exact (flag_ownRecord (by decide) _ _ _ rfl).trans hEnded
  · exact (flag_ownRecord (by decide) _ _ _ rfl).trans ((flag_endHandover (cancelShown s) (by decide) (by decide)).trans hCancel)
  · have hTime : (endHandover (cancelShown s)).mtime = s.mtime := hParts .mtime (by decide)
    have hTimeout : hbTimeout (endHandover (cancelShown s)) = hbTimeout s :=
      congrArg (sec * ·) (fget_of_rd (f := F.OWN_CFG_HB_TIMEOUT) (hRegs A.OWN_CFG (by decide)))
    rw [cancelled, ownRecord_own (by decide)]
    simp only [refreshHeartbeat, setOwn, hTime, hTimeout]

/-- A handover to a code starts. -/
def handoverBegun (c : Nat) (s : State) : State :=
  fset (fset (setOwn { s.own with hoDeadline := s.mtime + 2 * sec, lapseNoted := false } s) F.OWN_STAT_HANDOVER_PEND 1) F.OWN_STAT_TARGET c

theorem handover_begin {c : Nat} (hPos : 1 ≤ c) (hc : c < 4) (s : State) : handover c s = handoverBegun c s := by
  have hZero : c ≠ 0 := by omega
  have hSeven : c ≠ 7 := by omega
  simp only [handover, if_neg hZero, if_neg hSeven]
  rfl

theorem handoverBegun_changes (c : Nat) (s : State) : changesOnly s (handoverBegun c s) [A.OWN_STAT] [.own] :=
  changesOnly_seq (changesOnly_setOwn _ s) (changesOnly_trans (changesOnly_fset _ F.OWN_STAT_HANDOVER_PEND 1) (changesOnly_fset _ F.OWN_STAT_TARGET c))
    (by decide) (by decide) (by decide) (by decide)

theorem handoverBegun_fields {c : Nat} (hc : c < 4) (s : State) : ownerCode (handoverBegun c s) = ownerCode s ∧
    handoverPending (handoverBegun c s) = true ∧ fget (handoverBegun c s) F.OWN_STAT_TARGET = c ∧
    (handoverBegun c s).own = { s.own with hoDeadline := s.mtime + 2 * sec, lapseNoted := false } := by
  refine ⟨?_, ?_, ?_, ?_⟩
  · rw [ownerCode, handoverBegun, fget_fset_of_beside (by decide), fget_fset_of_beside (by decide)]
    rfl
  · rw [handoverPending, handoverBegun, flag_fset_of_beside (by decide), flag_fset_one _ rfl (by decide)]
  · rw [handoverBegun, fget_fset_same _ _ _ (by decide) (by decide)]
    exact Nat.mod_eq_of_lt hc
  · simp only [handoverBegun, fset_own, setOwn]

section
variable {s : State} {m : Master} (hMay : mayCommand s m) (hNone : s.svc.meterEnd = none)
include hMay hNone

theorem ownHandover_begins {target : Master} (hOther : target ≠ m) (hOrder : inOrder s target.code = true) (hIdle : handoverPending s = false)
    (hSession : target = .bus → flag s F.BUS_SESSION_OPEN = true) :
    let t := rowKeyed ruleHandover m 0xB7E1 ⟨Reg.OWN_HANDOVER, []⟩ A.OWN_HANDOVER (BitVec.ofNat 32 target.code) s
    accepts s t m [A.OWN_STAT] [.own] ∧ ownerCode t = m.code ∧ handoverPending t = true ∧ fget t F.OWN_STAT_TARGET = target.code ∧
      t.own = { s.own with hoDeadline := s.mtime + 2 * sec, lapseNoted := false } := by
  obtain ⟨hPos, hc⟩ := Master.code_pos target
  obtain ⟨-, hOwner⟩ := id hMay
  have hData : bitsOf (BitVec.ofNat 32 target.code) 2 0 = target.code := by cases target <;> rfl
  have hNotOwner : target.code ≠ ownerCode s := fun h => hOther (Master.num_inj (Nat.succ.inj (h.trans hOwner)))
  have hFree : handoverRefused s target.code = none := by
    have hBus : ¬ (target.code = 2 ∧ (!flag s F.BUS_SESSION_OPEN) = true) := fun ⟨h, hClosed⟩ => by
      have hIs : target = .bus := Master.num_inj (Nat.succ.inj h)
      rw [hSession hIs] at hClosed
      exact absurd hClosed (by decide)
    have hAlways : ¬ (target.code = 0 ∨ target.code = 7) := by omega
    simp only [handoverRefused, if_neg hAlways, hNotOwner, hOrder, hIdle, if_neg hBus, Bool.not_true, Bool.false_eq_true, or_self, if_false]
  obtain ⟨u, hu, hRow⟩ := ownHandover_ok hMay hData (.inl (by omega)) hFree
  have hChanges := handoverBegun_changes target.code u
  rw [handover_begin hPos hc, meterOver_of_none hNone ((part_of_changesOnly hChanges .svc (by decide)).trans hu.svc)] at hRow
  obtain ⟨hCode, hPend, hTarget, hOwn⟩ := handoverBegun_fields hc u
  simp only [hRow]
  refine ⟨accepts_unlock hu hChanges (by decide) _, hCode.trans (hu.ownerCode.trans hOwner), hPend, hTarget, ?_⟩
  rw [← hu.own, ← hu.mtime]
  exact hOwn

theorem ownRelease_ok :
    let t := rowKeyed ruleHandover m 0xB7E1 ⟨Reg.OWN_HANDOVER, []⟩ A.OWN_HANDOVER 0 s
    accepts s t m statRegs [.own, .events] ∧ ownerCode t = 0 ∧ handoverPending t = false ∧
      flag t F.OWN_STAT_HANDOVER_CANCEL = (flag s F.OWN_STAT_HANDOVER_CANCEL || handoverPending s) := by
  obtain ⟨u, hu, hRow⟩ := ownHandover_ok (d := 0) (c := 0) hMay rfl (.inl (by decide)) rfl
  have hChanges := released_changes u
  rw [handover_release, meterOver_of_none hNone ((part_of_changesOnly hChanges .svc (by decide)).trans hu.svc)] at hRow
  obtain ⟨hCode, hPend, hCancel⟩ := released_fields u
  rw [hu.flag, hu.handoverPending] at hCancel
  generalize released u = w at *
  simp only [hRow]
  exact ⟨accepts_unlock hu hChanges (by decide) _, hCode, hPend, hCancel⟩

theorem ownHandoverCancel_ok (hPending : handoverPending s = true) :
    let t := rowKeyed ruleHandover m 0xB7E1 ⟨Reg.OWN_HANDOVER, []⟩ A.OWN_HANDOVER 7 s
    accepts s t m statRegs [.own, .events] ∧ ownerCode t = m.code ∧ handoverPending t = false ∧
      flag t F.OWN_STAT_HANDOVER_CANCEL = true ∧ t.own.hbDeadline = s.mtime + sec * fget s F.OWN_CFG_HB_TIMEOUT := by
  obtain ⟨-, hOwner⟩ := id hMay
  obtain ⟨u, hu, hRow⟩ := ownHandover_ok (d := 7) (c := 7) hMay rfl (.inr rfl) rfl
  have hChanges := cancelled_changes u
  rw [handover_cancel (hu.handoverPending.trans hPending),
    meterOver_of_none hNone ((part_of_changesOnly hChanges .svc (by decide)).trans hu.svc)] at hRow
  obtain ⟨hCode, hPend, hCancel, hDeadline⟩ := cancelled_fields u
  rw [hbTimeout, hu.mtime, hu.fget] at hDeadline
  rw [hu.ownerCode, hOwner] at hCode
  generalize cancelled u = w at *
  simp only [hRow]
  exact ⟨accepts_unlock hu hChanges (by decide) _, hCode, hPend, hCancel, hDeadline⟩

theorem ownHandoverCancel_idle (hIdle : handoverPending s = false) :
    accepts s (rowKeyed ruleHandover m 0xB7E1 ⟨Reg.OWN_HANDOVER, []⟩ A.OWN_HANDOVER 7 s) m [] [] := by
  obtain ⟨u, hu, hRow⟩ := ownHandover_ok (d := 7) (c := 7) hMay rfl (.inr rfl) rfl
  rw [handover_cancel_none (hu.handoverPending.trans hIdle), meterOver_of_none hNone hu.svc] at hRow
  rw [hRow]
  exact accepts_unlock hu (changesOnly_refl u [] []) (by decide) _

end

/-! OWN_ACCEPT (R126, R128). -/

theorem acceptRefused_congr {s t : State} {m : Master} (h : readsAlike s t m) (c : Nat) : acceptRefused t c = acceptRefused s c := by
  rw [acceptRefused, acceptRefused, h.handoverPending, h.fget]

theorem ownAccept_fields : imageMask Reg.OWN_ACCEPT = 0 ∧ allReadOnly Reg.OWN_ACCEPT.fields = false ∧ hasKrw Reg.OWN_ACCEPT.fields = false ∧
    keyedMask Reg.OWN_ACCEPT.fields = 0#32 ∧ Reg.OWN_ACCEPT.fields.all (·.ok.isEmpty) = true ∧ loadMask true Reg.OWN_ACCEPT.fields = 0#32 ∧
    typeMask .w1c Reg.OWN_ACCEPT.fields = 0#32 ∧ (bitsOf (1#32 &&& typeMask .w1s Reg.OWN_ACCEPT.fields) 0 0 != 0) = true := by decide

/-- The write of OWN_ACCEPT. -/
def acceptCtx (m : Master) (s : State) : WriteCtx := wholeCtx ruleAccept m ⟨Reg.OWN_ACCEPT, []⟩ A.OWN_ACCEPT 1 s

theorem acceptCtx_cmd (m : Master) (s : State) : (acceptCtx m s).cmd F.OWN_ACCEPT_ACCEPT = true := by
  obtain ⟨-, -, -, -, -, -, -, hCmd⟩ := ownAccept_fields
  exact hCmd

theorem accept_state (m : Master) (s u : State) : ruleAccept.state (acceptCtx m s) u = acceptRefused u m.code := by
  simp only [ruleAccept, acceptCtx_cmd, Bool.true_and]
  rfl

theorem mayWrite_accept (m : Master) (s u : State) : mayWrite u m (acceptCtx m s) Reg.OWN_ACCEPT.base = true := by
  simp [mayWrite, acceptCtx_cmd]

/-- Automatic refresh ends with a change of owner (R598). -/
def autoEnded (old c : Nat) (s : State) : State := onlyIf (old != c) (fun s => setOwn { s.own with autoHb := false } s) s

theorem acceptBy_eq (c : Nat) (s : State) : acceptBy c s = ownRecord 2 .ownerChange (ownerCode s) (autoEnded (ownerCode s) c (gainOwner c s)) := rfl

theorem autoEnded_changes (old c : Nat) (s : State) : changesOnly s (autoEnded old c s) [] [.own] := by
  unfold autoEnded onlyIf
  split
  · exact changesOnly_setOwn _ s
  · exact changesOnly_refl s _ _

theorem gained_autoEnded {c : Nat} {s t : State} (h : gained c s t) (old : Nat) : gained c s (autoEnded old c t) := by
  unfold autoEnded onlyIf
  split
  · exact h
  · exact h

theorem acceptBy_changes (c : Nat) (s : State) : changesOnly s (acceptBy c s) gainRegs [.own, .start, .events] :=
  changesOnly_seq (changesOnly_seq (q := [A.STARTUP_STAT, A.OWN_STAT]) (q' := [.own, .start]) (gainOwner_changes s c)
    (autoEnded_changes (ownerCode s) c _) (by simp) (by simp) (by simp) (by simp)) (ownRecord_changes (by decide) _ _ _)
    (by simp [gainRegs, statRegs]) (fun r hr => List.mem_cons_of_mem _ (List.mem_cons_of_mem _ hr)) (by simp) (by simp)

theorem gained_acceptBy {c : Nat} (hc : c < 4) (s : State) : gained c s (acceptBy c s) :=
  gained_ownRecord (by decide) (gained_autoEnded (gained_gainOwner hc s) (ownerCode s)) .ownerChange (ownerCode s)

section
variable {s : State} {m : Master} (hReach : reachable s)
include hReach

theorem ownAccept_ok (hNone : s.svc.meterEnd = none) (hFree : acceptRefused s m.code = false) :
    let t := rowWrite ruleAccept m ⟨Reg.OWN_ACCEPT, []⟩ A.OWN_ACCEPT 1 s
    accepts s t m gainRegs [.own, .start, .events] ∧ gained m.code s t := by
  obtain ⟨hImage, hFields, hKrw, hKeyed, hRanges, hLoad, hClear, -⟩ := ownAccept_fields
  obtain ⟨-, hHeld, -⟩ := id hReach
  obtain ⟨v, hv, hRow⟩ := rowWrite_command (r := ruleAccept) (h := ⟨Reg.OWN_ACCEPT, []⟩) (a := A.OWN_ACCEPT) (data := 1) (m := m)
    hImage rfl hLoad hClear hReach fun u key hu =>
    { power := hu.sysHeld.trans hHeld
      fields := hFields
      may := mayWrite_accept m s u
      guarded := fun hGuard => absurd ((keyGuarded_of_free hKrw hKeyed _).symm.trans hGuard) (by decide)
      right := keyWrong_of_base (show Reg.OWN_ACCEPT.base ≠ Reg.KEY_UNLOCK.base by decide) _
      once := rfl
      range := rangeBad_of_noRanges hRanges _ _
      value := rfl
      state := (accept_state m s u).trans ((acceptRefused_congr hu m.code).trans hFree)
      armed := rfl }
  have hEffect : ruleAccept.effect (acceptCtx m s) v = acceptBy m.code v := if_pos (acceptCtx_cmd m s)
  have hChanges := acceptBy_changes m.code v
  have hMeter : meterOver (acceptBy m.code v) = acceptBy m.code v :=
    meterOver_of_none hNone ((part_of_changesOnly hChanges .svc (by decide)).trans hv.svc)
  have hRowEq := hRow.trans (congrArg (setReply (.okValue .ok [])) ((congrArg meterOver hEffect).trans hMeter))
  have hGained := gained_of_readsAlike hv (gained_acceptBy (Master.code_pos m).2 v)
  simp only [hRowEq]
  exact ⟨accepts_write hv hChanges own_not_unlock, hGained⟩

theorem ownAccept_refused (hRefused : acceptRefused s m.code = true) :
    refuses s (rowWrite ruleAccept m ⟨Reg.OWN_ACCEPT, []⟩ A.OWN_ACCEPT 1 s) m .state := by
  obtain ⟨hImage, hFields, hKrw, hKeyed, hRanges, -⟩ := ownAccept_fields
  obtain ⟨-, hHeld, -⟩ := id hReach
  refine rowWrite_refused (h := ⟨Reg.OWN_ACCEPT, []⟩) hImage rfl hReach (by decide) fun u key hu => ?_
  have hPower : domainOff u (domainOf ⟨Reg.OWN_ACCEPT, []⟩) = false := hu.sysHeld.trans hHeld
  have hState := (accept_state m s u).trans ((acceptRefused_congr hu m.code).trans hRefused)
  have hGuard : keyGuarded ⟨⟨Reg.OWN_ACCEPT, []⟩, A.OWN_ACCEPT, none⟩ (acceptCtx m s) = false :=
    keyGuarded_of_free (p := ⟨⟨Reg.OWN_ACCEPT, []⟩, A.OWN_ACCEPT, none⟩) hKrw hKeyed _
  have hWrong : keyWrong ⟨⟨Reg.OWN_ACCEPT, []⟩, A.OWN_ACCEPT, none⟩ (acceptCtx m s) = false :=
    keyWrong_of_base (show Reg.OWN_ACCEPT.base ≠ Reg.KEY_UNLOCK.base by decide) _
  have hOnce : ruleAccept.once (acceptCtx m s) u = false := rfl
  have hValue : ruleAccept.value (acceptCtx m s) u = false := rfl
  rw [writeErr_whole (h := ⟨Reg.OWN_ACCEPT, []⟩) hImage, ← acceptCtx]
  simp [hPower, hFields, mayWrite_accept, hGuard, hWrong, hOnce, hValue, rangeBad_of_noRanges hRanges, hState]

end

/-! OWN_HEARTBEAT (R129). -/

theorem ownHeartbeat_fields : imageMask Reg.OWN_HEARTBEAT = 0 ∧ allReadOnly Reg.OWN_HEARTBEAT.fields = false ∧
    hasKrw Reg.OWN_HEARTBEAT.fields = false ∧ keyedMask Reg.OWN_HEARTBEAT.fields = 0#32 ∧
    Reg.OWN_HEARTBEAT.fields.all (·.ok.isEmpty) = true ∧ loadMask true Reg.OWN_HEARTBEAT.fields = 0#32 ∧
    typeMask .w1c Reg.OWN_HEARTBEAT.fields = 0#32 ∧ (bitsOf (1#32 &&& typeMask .w1s Reg.OWN_HEARTBEAT.fields) 0 0 != 0) = true := by decide

theorem ownHeartbeat_ok {s : State} {m : Master} (hMay : mayCommand s m) (hNone : s.svc.meterEnd = none) :
    let t := rowWrite ruleHeartbeat m ⟨Reg.OWN_HEARTBEAT, []⟩ A.OWN_HEARTBEAT 1 s
    accepts s t m [] [.own] ∧ t.own = { s.own with hbDeadline := s.mtime + sec * fget s F.OWN_CFG_HB_TIMEOUT } := by
  obtain ⟨hImage, hFields, hKrw, hKeyed, hRanges, hLoad, hClear, hCmd⟩ := ownHeartbeat_fields
  obtain ⟨hReach, hOwner⟩ := hMay
  obtain ⟨-, hHeld, -⟩ := id hReach
  obtain ⟨v, hv, hRow⟩ := rowWrite_command (r := ruleHeartbeat) (h := ⟨Reg.OWN_HEARTBEAT, []⟩) (a := A.OWN_HEARTBEAT) (data := 1) (m := m)
    hImage rfl hLoad hClear hReach fun u key hu =>
    { power := hu.sysHeld.trans hHeld
      fields := hFields
      may := mayWrite_of_owner (hu.ownerCode.trans hOwner) _ _
      guarded := fun hGuard => absurd ((keyGuarded_of_free hKrw hKeyed _).symm.trans hGuard) (by decide)
      right := keyWrong_of_base (show Reg.OWN_HEARTBEAT.base ≠ Reg.KEY_UNLOCK.base by decide) _
      once := rfl
      range := rangeBad_of_noRanges hRanges _ _
      value := rfl
      state := rfl
      armed := rfl }
  have hEffect : ruleHeartbeat.effect (wholeCtx ruleHeartbeat m ⟨Reg.OWN_HEARTBEAT, []⟩ A.OWN_HEARTBEAT 1 s) v = refreshHeartbeat v := if_pos hCmd
  have hMeter : meterOver (refreshHeartbeat v) = refreshHeartbeat v := meterOver_of_none hNone hv.svc
  have hRowEq := hRow.trans (congrArg (setReply (.okValue .ok [])) ((congrArg meterOver hEffect).trans hMeter))
  have hDeadline : v.mtime + hbTimeout v = s.mtime + sec * fget s F.OWN_CFG_HB_TIMEOUT := by rw [hbTimeout, hv.mtime, hv.fget]
  simp only [hRowEq]
  refine ⟨accepts_write hv (changesOnly_setOwn _ v) (by decide), ?_⟩
  rw [← hDeadline, ← hv.own]
  rfl

/-! OWN_SEIZE (R126, R130). -/

theorem ownSeize_fields : imageMask Reg.OWN_SEIZE = 0 ∧ allReadOnly Reg.OWN_SEIZE.fields = false ∧
    Reg.OWN_SEIZE.fields.all (·.ok.isEmpty) = true ∧ loadMask true Reg.OWN_SEIZE.fields = 0#32 ∧
    typeMask .w1c Reg.OWN_SEIZE.fields = 0#32 ∧ (bitsOf (1#32 &&& typeMask .w1s Reg.OWN_SEIZE.fields) 0 0 != 0) = true := by decide

/-- The write of OWN_SEIZE. -/
def seizeCtx (m : Master) (s : State) : WriteCtx := wholeCtx ruleSeize m ⟨Reg.OWN_SEIZE, []⟩ A.OWN_SEIZE 1 s

theorem seizeCtx_cmd (m : Master) (s : State) : (seizeCtx m s).cmd F.OWN_SEIZE_SEIZE = true := by
  obtain ⟨-, -, -, -, -, hCmd⟩ := ownSeize_fields
  exact hCmd

theorem seize_state (m : Master) (s u : State) : ruleSeize.state (seizeCtx m s) u = (decide (m ≠ .gaffer) || seizeRefused u) := by
  simp only [ruleSeize, seizeCtx_cmd, Bool.true_and]
  rfl

/-- Whether a seizure is refused does not depend on the unlocks. -/
theorem seizeRefused_congr {s t : State} {m : Master} (h : onlyUnlock s t m) : seizeRefused t = seizeRefused s := by
  obtain ⟨l, rfl⟩ := eq_of_onlyUnlock h
  rfl

theorem seize_of_other {s : State} (hOther : ownerCode s ≠ 3) :
    seize s = ownRecord 4 .seizure (ownerCode s) (fset (gainOwner 3 (cancelNoted s)) F.OWN_STAT_SEIZED 1) := by
  simp only [seize, if_neg hOther]
  rfl

theorem seize_changes {s : State} (hOther : ownerCode s ≠ 3) : changesOnly s (seize s) gainRegs [.own, .start, .events] := by
  rw [seize_of_other hOther]
  have hGain : changesOnly s (gainOwner 3 (cancelNoted s)) [A.STARTUP_STAT, A.OWN_STAT] [.own, .start] :=
    changesOnly_seq (cancelNoted_changes s) (gainOwner_changes _ 3) (by simp) (by simp) (by simp) (by simp)
  exact changesOnly_seq (changesOnly_seq (q := [A.STARTUP_STAT, A.OWN_STAT]) (q' := [.own, .start]) hGain
    (changesOnly_fset _ F.OWN_STAT_SEIZED 1) (by simp) (by simp) (by simp) (by simp)) (ownRecord_changes (by decide) _ _ _)
    (by simp [gainRegs, statRegs]) (fun r hr => List.mem_cons_of_mem _ (List.mem_cons_of_mem _ hr)) (by simp) (by simp)

theorem gained_seize {s : State} (hOther : ownerCode s ≠ 3) : gained 3 s (seize s) := by
  obtain ⟨hRegs, hParts⟩ := cancelNoted_changes s
  obtain ⟨hOwner, hPend, hTarget, hElection, hDeadline⟩ := gained_gainOwner (c := 3) (by decide) (cancelNoted s)
  have hTime : (cancelNoted s).mtime = s.mtime := hParts .mtime (by decide)
  have hTimeout := fget_of_rd (f := F.OWN_CFG_HB_TIMEOUT) (hRegs A.OWN_CFG (by decide))
  rw [seize_of_other hOther]
  refine gained_ownRecord (by decide) ⟨?_, ?_, ?_, ?_, ?_⟩ _ _
  · exact (fget_fset_of_beside (by decide) _ 1).trans hOwner
  · exact (flag_fset_of_beside (by decide) _ 1).trans hPend
  · exact (fget_fset_of_beside (by decide) _ 1).trans hTarget
  · exact (flag_fset_of_beside (by decide) _ 1).trans hElection
  · rw [fset_own, hDeadline, hTime, hTimeout]

theorem seize_flags {s : State} (hOther : ownerCode s ≠ 3) : flag (seize s) F.OWN_STAT_SEIZED = true ∧
    flag (seize s) F.OWN_STAT_HANDOVER_CANCEL = (flag s F.OWN_STAT_HANDOVER_CANCEL || handoverPending s) := by
  rw [seize_of_other hOther]
  refine ⟨?_, ?_⟩
  · rw [flag_ownRecord (by decide) _ _ _ rfl, flag_fset_one _ rfl (by decide)]
  · rw [flag_ownRecord (by decide) _ _ _ rfl, flag_fset_of_beside (by decide), flag_gainOwner _ _ (by decide) (by decide) (by decide) (by decide),
      cancelNoted_cancel]

section
variable {s : State} (hReach : reachable s)
include hReach

theorem ownSeize_ok (hNone : s.svc.meterEnd = none) (hFree : seizeRefused s = false) (hOther : ownerCode s ≠ 3) :
    let t := rowKeyed ruleSeize .gaffer 0xB7E1 ⟨Reg.OWN_SEIZE, []⟩ A.OWN_SEIZE 1 s
    accepts s t .gaffer gainRegs [.own, .start, .events] ∧ gained 3 s t ∧ flag t F.OWN_STAT_SEIZED = true ∧
      flag t F.OWN_STAT_HANDOVER_CANCEL = (flag s F.OWN_STAT_HANDOVER_CANCEL || handoverPending s) := by
  obtain ⟨hImage, hFields, hRanges, hLoad, hClear, -⟩ := ownSeize_fields
  obtain ⟨-, hHeld, -⟩ := id hReach
  obtain ⟨u, hu, hRow⟩ := rowKeyed_ok (r := ruleSeize) (h := ⟨Reg.OWN_SEIZE, []⟩) (a := A.OWN_SEIZE) (data := 1) (m := .gaffer) hImage hReach
    fun u hu =>
    { power := hu.readsAlike.sysHeld.trans hHeld
      fields := hFields
      may := by simp [mayWrite]
      guarded := fun _ => rfl
      right := keyWrong_of_base (show Reg.OWN_SEIZE.base ≠ Reg.KEY_UNLOCK.base by decide) _
      once := rfl
      range := rangeBad_of_noRanges hRanges _ _
      value := rfl
      state := (seize_state .gaffer _ u).trans (by rw [seizeRefused_congr hu, hFree]; rfl)
      armed := rfl }
  have hHeldTx := (onlyUnlock_held .gaffer s).readsAlike
  obtain ⟨v, hv, hWritten⟩ := wholeWritten_command (r := ruleSeize) (h := ⟨Reg.OWN_SEIZE, []⟩) (a := A.OWN_SEIZE) (data := 1) (m := .gaffer)
    (s := s) rfl hLoad hClear hu.readsAlike
  rw [wholeCtx_congr (r := ruleSeize) rfl hHeldTx, hWritten] at hRow
  have hEffect : ruleSeize.effect (seizeCtx .gaffer s) v = seize v := if_pos (seizeCtx_cmd .gaffer s)
  have hOtherV : ownerCode v ≠ 3 := fun h => hOther (hv.ownerCode.symm.trans h)
  have hChanges := seize_changes hOtherV
  have hMeter : meterOver (seize v) = seize v := meterOver_of_none hNone ((part_of_changesOnly hChanges .svc (by decide)).trans hv.svc)
  have hRowEq := hRow.trans (congrArg (fun t => setReply (.okValue .ok []) (setUnlock .gaffer .no t)) ((congrArg meterOver hEffect).trans hMeter))
  have hGained := gained_of_readsAlike hv (gained_seize hOtherV)
  obtain ⟨hSeized, hCancel⟩ := seize_flags hOtherV
  rw [hv.flag, hv.handoverPending] at hCancel
  generalize seize v = w at *
  simp only [hRowEq]
  exact ⟨accepts_unlock hv hChanges own_not_unlock _, hGained, hSeized, hCancel⟩

theorem ownSeize_refused {m : Master} (hRefused : (decide (m ≠ .gaffer) || seizeRefused s) = true) :
    refuses s (rowKeyed ruleSeize m 0xB7E1 ⟨Reg.OWN_SEIZE, []⟩ A.OWN_SEIZE 1 s) m .state := by
  obtain ⟨hImage, hFields, hRanges, -⟩ := ownSeize_fields
  obtain ⟨-, hHeld, -⟩ := id hReach
  refine rowKeyed_err (h := ⟨Reg.OWN_SEIZE, []⟩) hImage hReach (by decide) fun u hu => ?_
  have hState := (seize_state m (setUnlock m .held (beginTx m s)) u).trans ((congrArg _ (seizeRefused_congr hu)).trans hRefused)
  rw [writeErr_whole (h := ⟨Reg.OWN_SEIZE, []⟩) hImage, ← seizeCtx]
  generalize seizeCtx m (setUnlock m .held (beginTx m s)) = c at hState ⊢
  have hPower : domainOff u (domainOf ⟨Reg.OWN_SEIZE, []⟩) = false := hu.readsAlike.sysHeld.trans hHeld
  have hMay : mayWrite u m c Reg.OWN_SEIZE.base = true := by simp [mayWrite]
  have hWrong : keyWrong ⟨⟨Reg.OWN_SEIZE, []⟩, A.OWN_SEIZE, none⟩ c = false :=
    keyWrong_of_base (show Reg.OWN_SEIZE.base ≠ Reg.KEY_UNLOCK.base by decide) _
  have hOnce : ruleSeize.once c u = false := rfl
  have hValue : ruleSeize.value c u = false := rfl
  simp [hPower, hFields, hMay, hWrong, hOnce, hValue, rangeBad_of_noRanges hRanges, hState]

end

/-! OWN_CFG (R133). -/

theorem ownCfg_fields : imageMask Reg.OWN_CFG = 0 ∧ allReadOnly Reg.OWN_CFG.fields = false := by decide

theorem ownCfg_value {c : WriteCtx} (hSlots : (orderOf c).Nodup) (u : State) : ruleOwnCfg.value c u = false := by
  simp only [ruleOwnCfg, hSlots, decide_true, Bool.not_true]

theorem ownCfg_state {c : WriteCtx} {u : State} (hNames : ownerCode u ∈ orderOf c) : ruleOwnCfg.state c u = false := by
  simp only [ruleOwnCfg, List.contains_iff_mem.mpr hNames, Bool.not_true, Bool.and_false]

theorem ownCfg_ok {s : State} {m : Master} {data : Word} (hMay : mayCommand s m)
    (hRange : rangeBad Reg.OWN_CFG.fields 0xFFFFFFFF (writtenWord Reg.OWN_CFG.fields (rd s A.OWN_CFG) data) = false)
    (hSlots : (orderOf (wholeCtx ruleOwnCfg m ⟨Reg.OWN_CFG, []⟩ A.OWN_CFG data s)).Nodup)
    (hNames : m.code ∈ orderOf (wholeCtx ruleOwnCfg m ⟨Reg.OWN_CFG, []⟩ A.OWN_CFG data s)) :
    let t := rowKeyed ruleOwnCfg m 0xB7E1 ⟨Reg.OWN_CFG, []⟩ A.OWN_CFG data s
    accepts s t m [A.OWN_CFG] [] ∧ rd t A.OWN_CFG = writtenWord Reg.OWN_CFG.fields (rd s A.OWN_CFG) data ∧ t.own.order = s.own.order := by
  obtain ⟨hImage, hFields⟩ := ownCfg_fields
  obtain ⟨hReach, hOwner⟩ := hMay
  obtain ⟨-, hHeld, -⟩ := id hReach
  have hCtx := wholeCtx_congr (r := ruleOwnCfg) rfl (onlyUnlock_held m s).readsAlike m ⟨Reg.OWN_CFG, []⟩ A.OWN_CFG data
  obtain ⟨u, hu, hRow⟩ := rowKeyed_ok (r := ruleOwnCfg) (h := ⟨Reg.OWN_CFG, []⟩) (a := A.OWN_CFG) (data := data) (m := m) hImage hReach fun u hu => by
    rw [hCtx]
    exact
    { power := hu.readsAlike.sysHeld.trans hHeld
      fields := hFields
      may := mayWrite_of_owner (hu.readsAlike.ownerCode.trans hOwner) _ _
      guarded := fun _ => rfl
      right := keyWrong_of_base (show Reg.OWN_CFG.base ≠ Reg.KEY_UNLOCK.base by decide) _
      once := rfl
      range := hRange
      value := ownCfg_value hSlots u
      state := ownCfg_state (by rw [hu.readsAlike.ownerCode, hOwner]; exact hNames)
      armed := rfl }
  rw [hCtx] at hRow
  have hWritten : wholeWritten ruleOwnCfg A.OWN_CFG (wholeCtx ruleOwnCfg m ⟨Reg.OWN_CFG, []⟩ A.OWN_CFG data s) u =
      wr u A.OWN_CFG (writtenWord Reg.OWN_CFG.fields (rd s A.OWN_CFG) data) := meterOver_wr (hu.readsAlike.reachable hReach) (by decide) _
  rw [hWritten] at hRow
  have hOrder : (wr u A.OWN_CFG (writtenWord Reg.OWN_CFG.fields (rd s A.OWN_CFG) data)).own.order = s.own.order := congrArg Own.order hu.readsAlike.own
  simp only [hRow]
  exact ⟨accepts_unlock hu.readsAlike (changesOnly_wr (List.mem_singleton_self _) u _) (by decide) _, rd_wr_same u A.OWN_CFG _, hOrder⟩

/-- Settles O23: each command is the write of its register, and what it does is an operation of the ownership logic. -/
theorem puntyClaimHandoverAndRelease : Obligations.PuntyClaimHandoverAndRelease := by
  unfold Obligations.PuntyClaimHandoverAndRelease
  intro m target data s hReach hNone key owner timeout stat gain gains
  refine ⟨fun hFree hFirst => ⟨_, rfl, ownClaim_wins hReach hNone hFree hFirst⟩,
    fun hFree hOpen hLater => ⟨_, rfl, ownClaim_waits hReach hNone hFree hOpen hLater⟩,
    fun hRefused => ⟨_, rfl, ownClaim_refused hReach hRefused⟩,
    fun hOwner hOther hOrder hIdle hSession => ⟨_, rfl, ownHandover_begins ⟨hReach, hOwner⟩ hNone hOther hOrder hIdle hSession⟩,
    fun hOwner => ⟨_, rfl, ownRelease_ok ⟨hReach, hOwner⟩ hNone⟩,
    fun hOwner hPend => ⟨_, rfl, ownHandoverCancel_ok ⟨hReach, hOwner⟩ hNone hPend⟩,
    fun hOwner hIdle => ⟨_, rfl, ownHandoverCancel_idle ⟨hReach, hOwner⟩ hNone hIdle⟩,
    fun hFree => ⟨_, rfl, ownAccept_ok hReach hNone hFree⟩,
    fun hRefused => ⟨_, rfl, ownAccept_refused hReach hRefused⟩,
    fun hOwner => ⟨_, rfl, ownHeartbeat_ok ⟨hReach, hOwner⟩ hNone⟩, ?_, ?_, ?_, ?_⟩
  · rintro rfl hFree hOther
    exact ⟨_, rfl, ownSeize_ok hReach hNone hFree hOther⟩
  · rintro rfl hRefused
    exact ⟨_, rfl, ownSeize_refused hReach (by rw [hRefused]; rfl)⟩
  · intro hOther
    exact ⟨_, rfl, ownSeize_refused hReach (by rw [decide_eq_true hOther]; rfl)⟩
  · intro hOwner w order hRange hSlots hNames
    exact ⟨_, rfl, ownCfg_ok ⟨hReach, hOwner⟩ hRange hSlots hNames⟩

end Sys2Proof.Proofs
end

section
/-! SUPPORT. Program loads: pages and their words, OPEN, VERIFY, ABORT and release, the memory windows (R234 to R243). -/
namespace Sys2Proof.Proofs
open Sys2Proof.Machine

/-! Pages and program words. -/

theorem pageState_congr {s t : State} {j : Nat} (h : rd t (A.PAGE_STATE (j / 16)) = rd s (A.PAGE_STATE (j / 16))) : pageState t j = pageState s j := by
  simp only [pageState, h]

theorem pageState_setPage {v : Nat} (hv : v < 4) (k : Nat) (s : State) (j : Nat) :
    pageState (setPage k v s) j = if j = k then v else pageState s j := by
  by_cases hReg : j / 16 = k / 16
  · by_cases hSame : j = k
    · subst hSame
      rw [pageState, setPage, rd_wr_same, bitsOf_withBits _ _ _ _ (by omega) (by omega), if_pos rfl]
      exact Nat.mod_eq_of_lt (by rw [show 2 * (j % 16) + 1 - 2 * (j % 16) + 1 = 2 by omega]; exact hv)
    · rw [pageState, setPage, hReg, rd_wr_same, bitsOf_withBits_other _ _ _ _ _ _ (by omega) (by omega) (by omega) (by omega) (by omega), if_neg hSame,
        pageState, hReg]
  · have hApart : A.PAGE_STATE (j / 16) ≠ A.PAGE_STATE (k / 16) := by simp only [A.PAGE_STATE]; omega
    rw [if_neg (fun h => hReg (by rw [h]))]
    exact pageState_congr (rd_wr_other s _ _ _ hApart)

theorem tabFind_filter {α : Type} (q : Nat → Bool) (t : Tab α) (w : Nat) :
    tabFind (t.filter fun e => q e.1) w = if q w = true then tabFind t w else none := by
  induction t with
  | nil => simp [tabFind]
  | cons e t ih =>
    obtain ⟨j, x⟩ := e
    by_cases hj : q j = true
    · rw [List.filter_cons_of_pos (p := fun e : Nat × α => q e.1) hj]
      by_cases hw : j = w
      · simp [tabFind, ← hw, hj]
      · simp only [tabFind, if_neg hw, ih]
    · rw [List.filter_cons_of_neg (p := fun e : Nat × α => q e.1) hj, ih]
      by_cases hw : j = w
      · simp [← hw, hj]
      · simp only [tabFind, if_neg hw]

theorem progWord_zeroPage (k : Nat) (s : State) (w : Nat) : progWord (zeroPage k s) w = if w / 4096 = k then 0 else progWord s w := by
  simp only [progWord, zeroPage, tabGet, tabFind_filter (fun j => j / 4096 != k)]
  by_cases h : w / 4096 = k <;> simp [h]

/-- A page takes a state and is zeroed. -/
def clearPage (v k : Nat) (s : State) : State := setPage k v (zeroPage k s)

theorem pageState_clearPage {v : Nat} (hv : v < 4) (k : Nat) (s : State) (j : Nat) :
    pageState (clearPage v k s) j = if j = k then v else pageState s j := by
  rw [clearPage, pageState_setPage hv]
  rfl

theorem progWord_clearPage (v k : Nat) (s : State) (w : Nat) : progWord (clearPage v k s) w = if w / 4096 = k then 0 else progWord s w :=
  progWord_zeroPage k s w

/-- The registers that hold the page states. -/
def pageRegs : List Nat := [A.PAGE_STATE 0, A.PAGE_STATE 1, A.PAGE_STATE 2, A.PAGE_STATE 3]

theorem mem_pageRegs {k : Nat} (hk : k < 64) : A.PAGE_STATE (k / 16) ∈ pageRegs := by
  have hQuarter : k / 16 = 0 ∨ k / 16 = 1 ∨ k / 16 = 2 ∨ k / 16 = 3 := by omega
  rcases hQuarter with h | h | h | h <;> rw [h] <;> decide

theorem setPage_changes (v : Nat) {k : Nat} (hk : k < 64) (s : State) : changesOnly s (setPage k v s) pageRegs [] := changesOnly_wr (mem_pageRegs hk) s _

theorem clearPage_changes (v : Nat) {k : Nat} (hk : k < 64) (s : State) : changesOnly s (clearPage v k s) pageRegs [.eng] :=
  changesOnly_seq (t := zeroPage k s) (r := []) (parts := [.eng]) ⟨fun _ _ => rfl, fun p hp => by cases p <;> simp [Part.same, zeroPage] at hp ⊢⟩
    (setPage_changes v hk _) (List.nil_subset _) (List.Subset.refl _) (List.Subset.refl _) (List.nil_subset _)

/-! A change of a list of pages. -/

theorem changesOnly_forAll {f : Nat → State → State} {r : List Nat} {parts : List Part} {l : List Nat}
    (hf : ∀ k ∈ l, ∀ s, changesOnly s (f k s) r parts) (s : State) : changesOnly s (forAll f l s) r parts := by
  induction l generalizing s with
  | nil => exact changesOnly_refl s r parts
  | cons k l ih => exact changesOnly_trans (hf k List.mem_cons_self s) (ih (fun j hj => hf j (List.mem_cons_of_mem k hj)) (f k s))

theorem forAll_sets {β : Type} {f : Nat → State → State} {read : State → Nat → β} {key : Nat → Nat} {v : β}
    (hf : ∀ k s j, read (f k s) j = if key j = k then v else read s j) (l : List Nat) (s : State) (j : Nat) :
    read (forAll f l s) j = if key j ∈ l then v else read s j := by
  induction l generalizing s with
  | nil => simp [forAll]
  | cons k l ih =>
    rw [forAll, ih, hf]
    by_cases hIn : key j ∈ l
    · simp [hIn]
    · by_cases hIs : key j = k <;> simp [hIn, hIs]

theorem loadPages_small {s : State} {k : Nat} (h : k ∈ loadPages s) : k < 64 := by
  simp only [loadPages, pagesOf, List.mem_filter, List.mem_range] at h
  exact h.1

theorem loadPages_congr {s t : State} (hBase : rd t A.LOAD_BASE = rd s A.LOAD_BASE) (hLen : rd t A.LOAD_LEN = rd s A.LOAD_LEN) :
    loadPages t = loadPages s := by
  simp only [loadPages, fget_of_rd (f := F.LOAD_BASE_BASE) hBase, fget_of_rd (f := F.LOAD_LEN_LEN) hLen]

/-- The pages of a list take a state, every other stays. -/
def pagesBecome (s t : State) (ps : List Nat) (v : Nat) : Prop := ∀ k < 64, pageState t k = if k ∈ ps then v else pageState s k

/-- The words of a list of pages are zero, every other stays. -/
def pagesZero (s t : State) (ps : List Nat) : Prop := ∀ w, progWord t w = if w / 4096 ∈ ps then 0 else progWord s w

theorem clearPages_become {v : Nat} (hv : v < 4) (ps : List Nat) (s : State) : pagesBecome s (forAll (clearPage v) ps s) ps v :=
  fun k _ => forAll_sets (read := pageState) (key := id) (pageState_clearPage hv) ps s k

theorem clearPages_zero (v : Nat) (ps : List Nat) (s : State) : pagesZero s (forAll (clearPage v) ps s) ps :=
  fun w => forAll_sets (read := progWord) (key := (· / 4096)) (progWord_clearPage v) ps s w

/-- What is between two states leaves pages and words. -/
theorem pagesBecome_of_regs {s s' t t' : State} {ps : List Nat} {v : Nat} (h : pagesBecome s t ps v) {r r' : List Nat} (hBefore : keepsRegs s' s r)
    (hAfter : keepsRegs t t' r') (hr : ∀ k < 64, A.PAGE_STATE (k / 16) ∉ r) (hr' : ∀ k < 64, A.PAGE_STATE (k / 16) ∉ r') : pagesBecome s' t' ps v := by
  intro k hk
  rw [pageState_congr (hAfter _ (hr' k hk)), h k hk, pageState_congr (hBefore _ (hr k hk))]

theorem pagesZero_of_prog {s s' t t' : State} {ps : List Nat} (h : pagesZero s t ps) (hBefore : s.eng.prog = s'.eng.prog)
    (hAfter : t'.eng.prog = t.eng.prog) : pagesZero s' t' ps := by
  intro w
  simp only [progWord, hAfter, ← hBefore]
  exact h w

/-! A command that writes one register by its row, with no key and no range. -/

/-- A family that the owner writes without the key and with any value. -/
structure FreeFam (f : RegFam) : Prop where
  image : imageMask f = 0
  fields : allReadOnly f.fields = false
  krw : hasKrw f.fields = false
  keyed : keyedMask f.fields = 0#32
  ranges : f.fields.all (·.ok.isEmpty) = true
  base : f.base ≠ Reg.KEY_UNLOCK.base

section
variable {r : RegRule} {m : Master} {h : RegHit} {a : Nat} {data : Word} {s : State} (hFam : FreeFam h.fam) (hMay : mayCommand s m)
  (hOn : domainOff s (domainOf h) = false)
include hFam hMay hOn

/-- Such a write is accepted, and changes what its rule's effect changes. -/
theorem rowWrite_free {q : List Nat} {parts : List Part}
    (hChecks : ∀ u, readsAlike s u m → r.once (wholeCtx r m h a data (beginTx m s)) u = false ∧
      r.value (wholeCtx r m h a data (beginTx m s)) u = false ∧ r.state (wholeCtx r m h a data (beginTx m s)) u = false ∧
      r.armed (wholeCtx r m h a data (beginTx m s)) u = false)
    (hStored : r.stores = true → a ∈ q)
    (hChange : ∀ u, changesOnly u (r.effect (wholeCtx r m h a data (beginTx m s)) u) q parts)
    (hOwn : A.OWN_STAT ∉ q) (hSvc : .svc ∉ Part.regs :: parts) (hUnlock : .unlock ∉ Part.regs :: parts) :
    ∃ u, readsAlike s u m ∧
      let t := r.effect (wholeCtx r m h a data (beginTx m s)) (if r.stores = true then wr u a (wholeCtx r m h a data (beginTx m s)).new else u)
      rowWrite r m h a data s = setReply (.okValue .ok []) t ∧ accepts s (setReply (.okValue .ok []) t) m q parts := by
  obtain ⟨hReach, hOwner⟩ := hMay
  obtain ⟨u, hu, hRow⟩ := rowWrite_ok (r := r) (data := data) (a := a) hFam.image hReach fun u hu =>
    { power := (hu.readsAlike.domainOff _).trans hOn
      fields := hFam.fields
      may := mayWrite_of_owner (hu.readsAlike.ownerCode.trans hOwner) _ _
      guarded := fun hGuard => absurd ((keyGuarded_of_free hFam.krw hFam.keyed _).symm.trans hGuard) (by decide)
      right := keyWrong_of_base hFam.base _
      once := (hChecks u hu.readsAlike).1
      range := rangeBad_of_noRanges hFam.ranges _ _
      value := (hChecks u hu.readsAlike).2.1
      state := (hChecks u hu.readsAlike).2.2.1
      armed := (hChecks u hu.readsAlike).2.2.2 }
  have hBase : changesOnly u (if r.stores = true then wr u a (wholeCtx r m h a data (beginTx m s)).new else u) q parts := by
    split
    next hSt => exact changesOnly_mono (changesOnly_wr (List.mem_singleton_self a) u _) (by simpa using hStored hSt) (List.nil_subset _)
    next => exact changesOnly_refl u q parts
  have hAll := changesOnly_trans hBase (hChange _)
  refine ⟨u, hu.readsAlike, ?_, accepts_write hu.readsAlike hAll hUnlock⟩
  rw [hRow, wholeWritten, meterOver_of_changes hReach hu.readsAlike hAll hOwn hSvc]

/-- A write that its rule's state check refuses. -/
theorem rowWrite_free_state
    (hChecks : ∀ u, readsAlike s u m → r.once (wholeCtx r m h a data (beginTx m s)) u = false ∧
      r.value (wholeCtx r m h a data (beginTx m s)) u = false ∧ r.state (wholeCtx r m h a data (beginTx m s)) u = true) :
    refuses s (rowWrite r m h a data s) m .state := by
  obtain ⟨hReach, hOwner⟩ := hMay
  refine rowWrite_err (h := h) hFam.image hReach (by decide) fun u hu => ?_
  obtain ⟨hOnce, hValue, hState⟩ := hChecks u hu.readsAlike
  have hGuard : keyGuarded ⟨h, a, none⟩ (wholeCtx r m h a data (beginTx m s)) = false := keyGuarded_of_free hFam.krw hFam.keyed _
  have hWrong : keyWrong ⟨h, a, none⟩ (wholeCtx r m h a data (beginTx m s)) = false := keyWrong_of_base hFam.base _
  have hPower := (hu.readsAlike.domainOff (domainOf h)).trans hOn
  have hMay := mayWrite_of_owner (hu.readsAlike.ownerCode.trans hOwner) (wholeCtx r m h a data (beginTx m s)) h.fam.base
  simp [writeErr_whole hFam.image, hPower, hFam.fields, hMay, hGuard, hWrong, hOnce, rangeBad_of_noRanges hFam.ranges, hValue, hState]

end

/-! LOAD_CTRL: OPEN, VERIFY and ABORT (R235, R236, R239). -/

theorem loadCtrl_fam : FreeFam Reg.LOAD_CTRL := by constructor <;> decide

/-- A write of LOAD_CTRL with a command and SIGNED. -/
def ctrlCtx (m : Master) (signed : Bool) (cmd : Nat) (s : State) : WriteCtx :=
  wholeCtx ruleLoadCtrl m ⟨Reg.LOAD_CTRL, []⟩ A.LOAD_CTRL (loadWord signed cmd) s

theorem ctrlCtx_open (m : Master) (signed : Bool) (s : State) : (ctrlCtx m signed 1 s).cmd F.LOAD_CTRL_OPEN = true ∧
    (ctrlCtx m signed 1 s).cmd F.LOAD_CTRL_VERIFY = false ∧ (ctrlCtx m signed 1 s).cmd F.LOAD_CTRL_ABORT = false := by
  simp only [ctrlCtx, wholeCtx, WriteCtx.cmd]
  cases signed <;> decide

theorem ctrlCtx_verify (m : Master) (signed : Bool) (s : State) : (ctrlCtx m signed 2 s).cmd F.LOAD_CTRL_OPEN = false ∧
    (ctrlCtx m signed 2 s).cmd F.LOAD_CTRL_VERIFY = true ∧ (ctrlCtx m signed 2 s).cmd F.LOAD_CTRL_ABORT = false := by
  simp only [ctrlCtx, wholeCtx, WriteCtx.cmd]
  cases signed <;> decide

theorem ctrlCtx_abort (m : Master) (signed : Bool) (s : State) : (ctrlCtx m signed 4 s).cmd F.LOAD_CTRL_OPEN = false ∧
    (ctrlCtx m signed 4 s).cmd F.LOAD_CTRL_VERIFY = false ∧ (ctrlCtx m signed 4 s).cmd F.LOAD_CTRL_ABORT = true := by
  simp only [ctrlCtx, wholeCtx, WriteCtx.cmd]
  cases signed <;> decide

theorem ctrlCtx_signed (m : Master) (signed : Bool) (s : State) : decide ((ctrlCtx m signed 2 s).get F.LOAD_CTRL_SIGNED = 1) = signed := by
  have hField : (ctrlCtx m signed 2 s).get F.LOAD_CTRL_SIGNED = bitsOf (loadWord signed 2) 8 8 :=
    bitsOf_writtenWord (by decide) _ _
  rw [hField]
  cases signed <;> decide

theorem openRefused_congr {s t : State} {m : Master} (h : readsAlike s t m) : openRefused t = openRefused s := by
  simp only [openRefused, h.flag, h.fget, loadPages, pageState, h.rd]

theorem windowRefused_congr {s t : State} {m : Master} (h : readsAlike s t m) (i : Nat) : windowRefused t i = windowRefused s i := by
  simp only [windowRefused, h.flag, h.fget, pageState, h.rd]

/-- The stored write of a register leaves every other one and the engine. -/
theorem stored_rd {s u : State} {m : Master} (hu : readsAlike s u m) (a : Nat) (w : Word) : keepsRegs s (wr u a w) [a] := fun b hb =>
  (rd_wr_other u a b w (fun h => hb (by simp [h]))).trans (hu.rd b)

theorem readsAlike.eng {s u : State} {m : Master} (hu : readsAlike s u m) : u.eng = s.eng := hu.part .eng (by decide)

theorem pageState_apart {a : Nat} (ha : a < A.PAGE_STATE 0 ∨ A.PAGE_STATE 3 < a) : ∀ k < 64, A.PAGE_STATE (k / 16) ∉ [a] := by
  intro k hk
  simp only [List.mem_singleton, A.PAGE_STATE] at ha ⊢
  omega

section
variable (s : State)

theorem openLoad_eq : openLoad s = fset (forAll (clearPage 1) (loadPages s) s) F.LOAD_STAT_OPEN_ACTIVE 1 := rfl

theorem clearPages_changes (v : Nat) {l : List Nat} (hl : ∀ k ∈ l, k < 64) : changesOnly s (forAll (clearPage v) l s) pageRegs [.eng] :=
  changesOnly_forAll (fun k hk => clearPage_changes v (hl k hk)) s

theorem openLoad_changes : changesOnly s (openLoad s) (A.LOAD_STAT :: pageRegs) [.eng] :=
  changesOnly_seq (clearPages_changes s 1 fun _ => loadPages_small) (changesOnly_fset _ _ _) (List.subset_cons_self _ _) (by decide)
    (List.Subset.refl _) (List.nil_subset _)

theorem startVerify_changes (signed : Bool) : changesOnly s (startVerify signed s) [A.LOAD_STAT] [.eng] :=
  ⟨keepsRegs_fset (f := F.LOAD_STAT_BUSY) (List.mem_singleton_self _) _ _,
    fun p hp => (startVerify_same signed s (by simpa using hp)).mpr (Part.same_refl p s)⟩

theorem closeLoad_changes (r : Nat) : changesOnly s (closeLoad r s) [A.LOAD_STAT] [.eng] := by
  have hSet {f : Fld} (hf : f.reg = A.LOAD_STAT) (u : State) (v : Nat) : keepsRegs u (fset u f v) [A.LOAD_STAT] := keepsRegs_fset (by simp [hf]) u v
  refine ⟨?_, fun p hp => (closeLoad_same r s (by simpa using hp)).mpr (Part.same_refl p s)⟩
  exact keepsRegs_trans (keepsRegs_trans (keepsRegs_trans (keepsRegs_of_regs rfl _) (hSet rfl _ r)) (hSet rfl _ 0)) (hSet rfl _ 0)

theorem closeLoad_eng (r : Nat) : (closeLoad r s).eng = { s.eng with verify := none } := by simp [closeLoad]

/-- A closed load shows its result. -/
theorem closeLoad_stat {r : Nat} (hr : r < 8) : fget (closeLoad r s) F.LOAD_STAT_RESULT = r ∧ flag (closeLoad r s) F.LOAD_STAT_BUSY = false ∧
    flag (closeLoad r s) F.LOAD_STAT_OPEN_ACTIVE = false := by
  refine ⟨?_, ?_, flag_fset_zero _ rfl (by decide)⟩
  · rw [closeLoad, fget_fset_of_beside (by decide), fget_fset_of_beside (by decide), fget_fset_same _ _ _ (by decide) (by decide)]
    exact Nat.mod_eq_of_lt hr
  · rw [closeLoad, flag_fset_of_beside (by decide), flag_fset_zero _ rfl (by decide)]

theorem abortLoad_of_open (hOpen : flag s F.LOAD_STAT_OPEN_ACTIVE = true) : abortLoad s = closeLoad 7 (forAll (clearPage 0) (loadPages s) s) :=
  if_pos hOpen

theorem abortLoad_changes : changesOnly s (abortLoad s) (A.LOAD_STAT :: pageRegs) [.eng] := by
  unfold abortLoad
  split
  · exact changesOnly_seq (clearPages_changes s 0 fun _ => loadPages_small) (closeLoad_changes _ 7) (List.subset_cons_self _ _) (by simp)
      (List.Subset.refl _) (List.Subset.refl _)
  · exact changesOnly_refl s _ _

end

theorem loadStat_apart : ∀ k < 64, A.PAGE_STATE (k / 16) ∉ [A.LOAD_STAT] := pageState_apart (by decide)
theorem loadCtrl_apart : ∀ k < 64, A.PAGE_STATE (k / 16) ∉ [A.LOAD_CTRL] := pageState_apart (by decide)

section
variable {s : State} {m : Master} (signed : Bool) (hMay : mayCommand s m) (hOn : domainOff s .eng = false)
include hMay hOn

/-- An OPEN that is not refused (R235). -/
theorem loadOpen_clause (hFree : openRefused s = false) (hIdle : flag s F.LOAD_STAT_BUSY = false) :
    let t := rowWrite ruleLoadCtrl m ⟨Reg.LOAD_CTRL, []⟩ A.LOAD_CTRL (loadWord signed 1) s
    accepts s t m (A.LOAD_CTRL :: A.LOAD_STAT :: pageRegs) [.eng] ∧ flag t F.LOAD_STAT_OPEN_ACTIVE = true ∧
      pagesBecome s t (loadPages s) 1 ∧ pagesZero s t (loadPages s) := by
  obtain ⟨hOpen, hVerify, hAbort⟩ := ctrlCtx_open m signed (beginTx m s)
  have hEffect (u : State) : ruleLoadCtrl.effect (ctrlCtx m signed 1 (beginTx m s)) u = openLoad u := by
    simp only [ruleLoadCtrl, onCmd, onlyIf, hOpen, hVerify, hAbort, if_true, Bool.false_eq_true, if_false]
  obtain ⟨u, hu, hRow, hAcc⟩ := rowWrite_free (r := ruleLoadCtrl) (h := ⟨Reg.LOAD_CTRL, []⟩) (a := A.LOAD_CTRL) (data := loadWord signed 1)
    (q := A.LOAD_CTRL :: A.LOAD_STAT :: pageRegs) (parts := [.eng]) loadCtrl_fam hMay hOn
    (fun u hu => ⟨rfl, rfl, by
      change ruleLoadCtrl.state (ctrlCtx m signed 1 (beginTx m s)) u = false
      simp only [ruleLoadCtrl, hOpen, hVerify, hu.flag, hIdle, openRefused_congr hu, hFree, Bool.false_and, Bool.and_false, Bool.or_self], rfl⟩)
    (fun _ => List.mem_cons_self)
    (fun u => (congrArg (changesOnly u · _ _) (hEffect u)).mpr (changesOnly_mono (openLoad_changes u) (List.subset_cons_self _ _) (List.Subset.refl _)))
    (by decide) (by decide) (by decide)
  rw [← ctrlCtx, hEffect] at hRow hAcc
  simp only [hRow]
  generalize hv : (if ruleLoadCtrl.stores = true then wr u A.LOAD_CTRL (ctrlCtx m signed 1 (beginTx m s)).new else u) = v at hAcc ⊢
  have hRegs : keepsRegs s v [A.LOAD_CTRL] := hv ▸ stored_rd hu _ _
  have hEng : v.eng = s.eng := by rw [← hv]; exact hu.eng
  have hPages : loadPages v = loadPages s := loadPages_congr (hRegs _ (by decide)) (hRegs _ (by decide))
  refine ⟨hAcc, flag_fset_one _ rfl (by decide), ?_, ?_⟩
  · have hBecome := clearPages_become (v := 1) (by decide) (loadPages v) v
    rw [hPages] at hBecome
    refine pagesBecome_of_regs hBecome hRegs ?_ loadCtrl_apart loadStat_apart
    rw [← hPages]
    exact keepsRegs_fset (f := F.LOAD_STAT_OPEN_ACTIVE) (List.mem_singleton_self _) _ _
  · have hZero := clearPages_zero 1 (loadPages v) v
    rw [hPages] at hZero
    refine pagesZero_of_prog hZero (by rw [hEng]) ?_
    rw [← hPages]
    rfl

/-- A VERIFY of an open load (R239). -/
theorem loadVerify_clause (hOpened : flag s F.LOAD_STAT_OPEN_ACTIVE = true) (hIdle : flag s F.LOAD_STAT_BUSY = false) :
    let t := rowWrite ruleLoadCtrl m ⟨Reg.LOAD_CTRL, []⟩ A.LOAD_CTRL (loadWord signed 2) s
    accepts s t m [A.LOAD_CTRL, A.LOAD_STAT] [.eng] ∧ flag t F.LOAD_STAT_BUSY = true ∧
      t.eng = { s.eng with verify := some signed, verifyDue := t.eng.verifyDue } := by
  obtain ⟨hOpen, hVerify, hAbort⟩ := ctrlCtx_verify m signed (beginTx m s)
  have hEffect (u : State) : ruleLoadCtrl.effect (ctrlCtx m signed 2 (beginTx m s)) u = startVerify signed u := by
    simp only [ruleLoadCtrl, onCmd, onlyIf, hOpen, hVerify, hAbort, ctrlCtx_signed, if_true, Bool.false_eq_true, if_false]
  obtain ⟨u, hu, hRow, hAcc⟩ := rowWrite_free (r := ruleLoadCtrl) (h := ⟨Reg.LOAD_CTRL, []⟩) (a := A.LOAD_CTRL) (data := loadWord signed 2)
    (q := [A.LOAD_CTRL, A.LOAD_STAT]) (parts := [.eng]) loadCtrl_fam hMay hOn
    (fun u hu => ⟨rfl, rfl, by
      change ruleLoadCtrl.state (ctrlCtx m signed 2 (beginTx m s)) u = false
      simp only [ruleLoadCtrl, hOpen, hu.flag, hIdle, hOpened, Bool.false_and, Bool.not_true, Bool.and_false, Bool.or_self], rfl⟩)
    (fun _ => List.mem_cons_self)
    (fun u => (congrArg (changesOnly u · _ _) (hEffect u)).mpr
      (changesOnly_mono (startVerify_changes u signed) (List.subset_cons_self _ _) (List.Subset.refl _)))
    (by decide) (by decide) (by decide)
  rw [← ctrlCtx, hEffect] at hRow hAcc
  simp only [hRow]
  refine ⟨hAcc, flag_fset_one _ rfl (by decide), ?_⟩
  simp only [← hu.eng]
  rfl

/-- An ABORT of an open load (R236). -/
theorem loadAbort_clause (hOpened : flag s F.LOAD_STAT_OPEN_ACTIVE = true) :
    let t := rowWrite ruleLoadCtrl m ⟨Reg.LOAD_CTRL, []⟩ A.LOAD_CTRL (loadWord signed 4) s
    accepts s t m (A.LOAD_CTRL :: A.LOAD_STAT :: pageRegs) [.eng] ∧ fget t F.LOAD_STAT_RESULT = 7 ∧
      flag t F.LOAD_STAT_OPEN_ACTIVE = false ∧ flag t F.LOAD_STAT_BUSY = false ∧ pagesBecome s t (loadPages s) 0 ∧ pagesZero s t (loadPages s) := by
  obtain ⟨hOpen, hVerify, hAbort⟩ := ctrlCtx_abort m signed (beginTx m s)
  have hEffect (u : State) : ruleLoadCtrl.effect (ctrlCtx m signed 4 (beginTx m s)) u = abortLoad u := by
    simp only [ruleLoadCtrl, onCmd, onlyIf, hOpen, hVerify, hAbort, if_true, Bool.false_eq_true, if_false]
  obtain ⟨u, hu, hRow, hAcc⟩ := rowWrite_free (r := ruleLoadCtrl) (h := ⟨Reg.LOAD_CTRL, []⟩) (a := A.LOAD_CTRL) (data := loadWord signed 4)
    (q := A.LOAD_CTRL :: A.LOAD_STAT :: pageRegs) (parts := [.eng]) loadCtrl_fam hMay hOn
    (fun u _ => ⟨rfl, rfl, by
      change ruleLoadCtrl.state (ctrlCtx m signed 4 (beginTx m s)) u = false
      simp only [ruleLoadCtrl, hOpen, hVerify, hAbort, Bool.not_true, Bool.and_false, Bool.false_and, Bool.or_self], rfl⟩)
    (fun _ => List.mem_cons_self)
    (fun u => (congrArg (changesOnly u · _ _) (hEffect u)).mpr (changesOnly_mono (abortLoad_changes u) (List.subset_cons_self _ _) (List.Subset.refl _)))
    (by decide) (by decide) (by decide)
  rw [← ctrlCtx, hEffect] at hRow hAcc
  simp only [hRow]
  generalize hv : (if ruleLoadCtrl.stores = true then wr u A.LOAD_CTRL (ctrlCtx m signed 4 (beginTx m s)).new else u) = v at hAcc ⊢
  have hRegs : keepsRegs s v [A.LOAD_CTRL] := hv ▸ stored_rd hu _ _
  have hEng : v.eng = s.eng := by rw [← hv]; exact hu.eng
  have hPages : loadPages v = loadPages s := loadPages_congr (hRegs _ (by decide)) (hRegs _ (by decide))
  have hEq := abortLoad_of_open v ((flag_of_rd (hRegs _ (by decide))).trans hOpened)
  rw [hPages] at hEq
  rw [hEq] at hAcc ⊢
  obtain ⟨hResult, hBusy, hClosed⟩ := closeLoad_stat (forAll (clearPage 0) (loadPages s) v) (r := 7) (by decide)
  refine ⟨hAcc, hResult, hClosed, hBusy, ?_, ?_⟩
  · exact pagesBecome_of_regs (clearPages_become (by decide) _ v) hRegs (closeLoad_changes _ 7).1 loadCtrl_apart loadStat_apart
  · exact pagesZero_of_prog (clearPages_zero 0 _ v) (by rw [hEng]) (by rw [setReply_eng, closeLoad_eng])

end

/-! The load window (R234). -/

theorem loadWin_fam : FreeFam Reg.LOAD_WIN := by constructor <;> decide
theorem cmemData_fam : FreeFam Reg.CMEM_DATA := by constructor <;> decide
theorem lmemData_fam : FreeFam Reg.LMEM_DATA := by constructor <;> decide

/-- A register whose bits are all loaded takes the written word. -/
theorem writtenWord_of_full {fs : List FieldSpec} (hLoad : loadMask true fs = BitVec.allOnes 32) (hClear : typeMask .w1c fs = 0#32) (old d : Word) :
    writtenWord fs old d = d := by
  simp only [writtenWord, hLoad, hClear, BitVec.and_zero, BitVec.not_zero, BitVec.and_allOnes, BitVec.not_allOnes, BitVec.zero_or]

section
variable {s : State} {m : Master} (data : Word) (hMay : mayCommand s m) (hOn : domainOff s .eng = false)
include hMay hOn

theorem loadWindow_clause {i : Nat} (hFree : windowRefused s i = false) :
    let t := rowWrite ruleLoadWin m ⟨Reg.LOAD_WIN, [i]⟩ (A.LOAD_WIN i) data s
    accepts s t m [] [.eng] ∧ ∀ w, progWord t w = if w = i then data else progWord s w := by
  have hEffect (u : State) : ruleLoadWin.effect (wholeCtx ruleLoadWin m ⟨Reg.LOAD_WIN, [i]⟩ (A.LOAD_WIN i) data (beginTx m s)) u = writeProg i data u := by
    simp only [ruleLoadWin, wholeCtx, writtenWord_of_full (fs := Reg.LOAD_WIN.fields) (by decide) (by decide)]
    rfl
  obtain ⟨u, hu, hRow, hAcc⟩ := rowWrite_free (r := ruleLoadWin) (h := ⟨Reg.LOAD_WIN, [i]⟩) (a := A.LOAD_WIN i) (data := data)
    (q := []) (parts := [.eng]) loadWin_fam hMay hOn
    (fun u hu => ⟨rfl, rfl, (windowRefused_congr hu i).trans hFree, rfl⟩)
    (fun h => absurd h (by decide))
    (fun u => (congrArg (changesOnly u · _ _) (hEffect u)).mpr
      ⟨fun _ _ => rfl, fun p hp => (writeProg_same i data u (fun h => hp (List.mem_cons_of_mem _ h))).mpr (Part.same_refl p u)⟩)
    (by decide) (by decide) (by decide)
  rw [hEffect, if_neg (by decide)] at hRow hAcc
  simp only [hRow]
  refine ⟨hAcc, fun w => (progWord_writeProg u i w data).trans ?_⟩
  simp only [progWord, hu.eng]

theorem loadWindow_refused {i : Nat} (hRefused : windowRefused s i = true) :
    refuses s (rowWrite ruleLoadWin m ⟨Reg.LOAD_WIN, [i]⟩ (A.LOAD_WIN i) data s) m .state :=
  rowWrite_free_state (h := ⟨Reg.LOAD_WIN, [i]⟩) loadWin_fam hMay hOn fun _ hu => ⟨rfl, rfl, (windowRefused_congr hu i).trans hRefused⟩

/-! CMEM_DATA (R243). -/

theorem cmemData_clause :
    let t := rowWrite ruleCmem m ⟨Reg.CMEM_DATA, []⟩ A.CMEM_DATA data s
    accepts s t m [] [.eng] ∧ ∀ p, cmemWord t p = if p / 4 = fget s F.CMEM_ADDR_ADDR then data else cmemWord s p := by
  have hEffect (u : State) : ruleCmem.effect (wholeCtx ruleCmem m ⟨Reg.CMEM_DATA, []⟩ A.CMEM_DATA data (beginTx m s)) u =
      cmemWrite (4 * fget u F.CMEM_ADDR_ADDR) data u := by
    simp only [ruleCmem, wholeCtx, writtenWord_of_full (fs := Reg.CMEM_DATA.fields) (by decide) (by decide)]
  obtain ⟨u, hu, hRow, hAcc⟩ := rowWrite_free (r := ruleCmem) (h := ⟨Reg.CMEM_DATA, []⟩) (a := A.CMEM_DATA) (data := data)
    (q := []) (parts := [.eng]) cmemData_fam hMay hOn (fun _ _ => ⟨rfl, rfl, rfl, rfl⟩)
    (fun h => absurd h (by decide))
    (fun u => (congrArg (changesOnly u · _ _) (hEffect u)).mpr
      ⟨fun _ _ => rfl, fun p hp => (cmemWrite_same _ data u (fun h => hp (List.mem_cons_of_mem _ h))).mpr (Part.same_refl p u)⟩)
    (by decide) (by decide) (by decide)
  rw [hEffect, if_neg (by decide)] at hRow hAcc
  simp only [hRow]
  refine ⟨hAcc, fun p => (cmemWord_cmemWrite u _ p data).trans ?_⟩
  simp only [cmemWord, hu.eng, hu.fget, Nat.mul_div_cancel_left _ (show 0 < 4 by decide)]

end

/-! LMEM_DATA (R105). -/

theorem leValue_leBytes (n v : Nat) : leValue (leBytes n v) = v % 256 ^ n := by
  induction n generalizing v with
  | zero => rw [Nat.pow_zero, Nat.mod_one]; rfl
  | succ n ih =>
    rw [leBytes, leValue, ih, BitVec.toNat_ofNat, show 256 ^ (n + 1) = 256 * 256 ^ n from Nat.pow_succ', Nat.mod_mul]

theorem lmemBytes_lmemStore (l : Tab Byte) (a n v : Nat) : lmemBytes (lmemStore l a n v) a n = leBytes n v := by
  refine List.ext_getElem (by simp [lmemBytes, leBytes_length]) fun i hi _ => ?_
  have hn : i < n := by simpa [lmemBytes] using hi
  simp only [lmemBytes, List.getElem_map, List.getElem_range, lmemByte_lmemStore l a n v i hn]

/-- A local word after a store of one. -/
theorem lmemWord_lmemStore (l : Tab Byte) (j k : Nat) (v : Word) :
    lmemWord (lmemStore l (4 * j) 4 v.toNat) (4 * k) = if k = j then v else lmemWord l (4 * k) := by
  split
  next hSame =>
    subst hSame
    rw [lmemWord, lmemBytes_lmemStore, leValue_leBytes, Nat.mod_eq_of_lt (show v.toNat < 256 ^ 4 from v.isLt), BitVec.ofNat_toNat, BitVec.setWidth_eq]
  next hOther =>
    have hBytes : lmemBytes (lmemStore l (4 * j) 4 v.toNat) (4 * k) 4 = lmemBytes l (4 * k) 4 := by
      refine List.map_congr_left fun i hi => lmemByte_lmemStore_other l _ 4 _ _ ?_
      have := List.mem_range.mp hi
      omega
    rw [lmemWord, hBytes, lmemWord]

/-- The word of LMEM_DATA is stored. -/
def lmemWritten (data : Word) (s : State) : State :=
  setGather (lmemGather s) (lmemPut (gatherOf s (lmemGather s)) (fget s F.LMEM_SEL_ADDR) data) s

theorem lmemWritten_changes (data : Word) (s : State) : changesOnly s (lmemWritten data s) [] [.gathers] :=
  ⟨fun _ _ => rfl, fun p hp => (setGather_same _ _ s (fun h => hp (List.mem_cons_of_mem _ h))).mpr (Part.same_refl p s)⟩

theorem lmemData_clause {s : State} {m : Master} (data : Word) (hMay : mayCommand s m) (hOn : domainOff s .eng = false)
    (hStopped : (gatherOf s (fget s F.LMEM_SEL_GATHER)).phase = .stopped) :
    let t := rowWrite ruleLmem m ⟨Reg.LMEM_DATA, []⟩ A.LMEM_DATA data s
    accepts s t m [] [.gathers] ∧ (∀ h, h ≠ fget s F.LMEM_SEL_GATHER → gatherOf t h = gatherOf s h) ∧
      ∀ k, lmemWord (gatherOf t (fget s F.LMEM_SEL_GATHER)).lmem (4 * k) =
        if k = fget s F.LMEM_SEL_ADDR then data else lmemWord (gatherOf s (fget s F.LMEM_SEL_GATHER)).lmem (4 * k) := by
  have hSame {u : State} (hu : readsAlike s u m) : gatherOf u = gatherOf s := by
    funext g
    have hGathers : u.gathers = s.gathers := hu.part .gathers (by decide)
    simp only [gatherOf, hGathers]
  have hEffect (u : State) : ruleLmem.effect (wholeCtx ruleLmem m ⟨Reg.LMEM_DATA, []⟩ A.LMEM_DATA data (beginTx m s)) u = lmemWritten data u := by
    simp only [ruleLmem, wholeCtx, writtenWord_of_full (fs := Reg.LMEM_DATA.fields) (by decide) (by decide), lmemWritten]
  obtain ⟨u, hu, hRow, hAcc⟩ := rowWrite_free (r := ruleLmem) (h := ⟨Reg.LMEM_DATA, []⟩) (a := A.LMEM_DATA) (data := data)
    (q := []) (parts := [.gathers]) lmemData_fam hMay hOn
    (fun u hu => ⟨rfl, rfl, by simp only [ruleLmem, lmemGather, hSame hu, hu.fget, hStopped, ne_eq, not_true, decide_false], rfl⟩)
    (fun h => absurd h (by decide))
    (fun u => (congrArg (changesOnly u · _ _) (hEffect u)).mpr (lmemWritten_changes data u))
    (by decide) (by decide) (by decide)
  rw [hEffect, if_neg (by decide)] at hRow hAcc
  have hGather (g : Nat) : gatherOf (setReply (.okValue .ok []) (lmemWritten data u)) g = if g = fget s F.LMEM_SEL_GATHER then
      lmemPut (gatherOf s (fget s F.LMEM_SEL_GATHER)) (fget s F.LMEM_SEL_ADDR) data else gatherOf s g := by
    change gatherOf (lmemWritten data u) g = _
    rw [lmemWritten, gatherOf_setGather, lmemGather, hSame hu, hu.fget, hu.fget]
  simp only [hRow]
  refine ⟨hAcc, fun g hg => by rw [hGather, if_neg hg], fun k => ?_⟩
  rw [hGather, if_pos rfl]
  exact lmemWord_lmemStore _ _ k data

/-! PAGE_RELEASE (R240). -/

theorem pageRelease_fam : FreeFam Reg.PAGE_RELEASE := by constructor <;> decide

/-- The word of a release of pages. -/
def releaseWord (first last : Fin 64) : Word := BitVec.ofNat 32 (0x80000000 + 256 * last.val + first.val)

/-- The write that releases pages. -/
def releaseCtx (m : Master) (first last : Fin 64) (s : State) : WriteCtx :=
  wholeCtx ruleRelease m ⟨Reg.PAGE_RELEASE, []⟩ A.PAGE_RELEASE (releaseWord first last) s

theorem releaseCtx_fields (m : Master) (first last : Fin 64) (s : State) : (releaseCtx m first last s).get F.PAGE_RELEASE_FIRST = first ∧
    (releaseCtx m first last s).get F.PAGE_RELEASE_LAST = last ∧ (releaseCtx m first last s).cmd F.PAGE_RELEASE_GO = true := by
  have hWord : (releaseWord first last).toNat = 0x80000000 + 256 * last.val + first.val := by
    rw [releaseWord, BitVec.toNat_ofNat]
    omega
  have hFirst : (releaseCtx m first last s).get F.PAGE_RELEASE_FIRST = bitsOf (releaseWord first last) 5 0 := bitsOf_writtenWord (by decide) _ _
  have hLast : (releaseCtx m first last s).get F.PAGE_RELEASE_LAST = bitsOf (releaseWord first last) 13 8 := bitsOf_writtenWord (by decide) _ _
  have hGo : bitsOf (releaseWord first last &&& typeMask .w1s Reg.PAGE_RELEASE.fields) 31 31 = bitsOf (releaseWord first last) 31 31 :=
    bitsOf_congr fun i hLo hHi => by
      obtain rfl : i = 31 := by omega
      rw [BitVec.getLsbD_and, show (typeMask .w1s Reg.PAGE_RELEASE.fields).getLsbD 31 = true by decide, Bool.and_true]
  have hSet : bitsOf (releaseWord first last) 31 31 = 1 := by rw [bitsOf, hWord]; omega
  refine ⟨hFirst.trans ?_, hLast.trans ?_, ?_⟩
  · rw [bitsOf, hWord]; omega
  · rw [bitsOf, hWord]; omega
  · simp only [WriteCtx.cmd, releaseCtx, wholeCtx, hGo, hSet]
    rfl

theorem pageRange_small {a b k : Nat} (h : k ∈ pageRange a b) : k < 64 := List.mem_range.mp (List.mem_of_mem_filter h)

theorem releaseRefused_congr {s t : State} {m : Master} (h : readsAlike s t m) (ps : List Nat) : releaseRefused t ps = releaseRefused s ps := by
  have hGathers : t.gathers = s.gathers := h.part .gathers (by decide)
  simp only [releaseRefused, pageState, gRunning, regionPages, gatherOf, hGathers, h.rd, h.fget]

/-- The regions that lose none of the pages. -/
def dropRegions (ps : List Nat) (s : State) : State :=
  { s with eng := { s.eng with regions := s.eng.regions.filter (fun r => !(pagesOf r.1 r.2).any (fun k => ps.contains k)) } }

theorem dropRegions_changes (ps : List Nat) (s : State) : changesOnly s (dropRegions ps s) [] [.eng] :=
  ⟨fun _ _ => rfl, fun p hp => by cases p <;> simp [Part.same, dropRegions] at hp ⊢⟩

theorem releaseRun_eq (s : State) : releaseRun s = dropRegions (releasePages s) (forAll (clearPage 0) (releasePages s) s) := rfl

theorem releasePages_eq (s : State) : releasePages s = pageRange (fget s F.PAGE_RELEASE_FIRST) (fget s F.PAGE_RELEASE_LAST) := rfl

theorem releaseRun_changes (s : State) : changesOnly s (releaseRun s) pageRegs [.eng] := by
  rw [releaseRun_eq]
  exact changesOnly_seq (clearPages_changes s 0 fun _ h => pageRange_small h) (dropRegions_changes _ _) (List.Subset.refl _) (List.nil_subset _)
    (List.Subset.refl _) (List.Subset.refl _)

theorem pageRelease_clause {s : State} {m : Master} {first last : Fin 64} (hMay : mayCommand s m) (hOn : domainOff s .eng = false)
    (hOrder : first ≤ last) (hFree : releaseRefused s (pageRange first last) = false) :
    let t := rowWrite ruleRelease m ⟨Reg.PAGE_RELEASE, []⟩ A.PAGE_RELEASE (releaseWord first last) s
    accepts s t m (A.PAGE_RELEASE :: pageRegs) [.eng] ∧ pagesBecome s t (pageRange first last) 0 ∧ pagesZero s t (pageRange first last) := by
  obtain ⟨hFirst, hLast, hGo⟩ := releaseCtx_fields m first last (beginTx m s)
  have hEffect (u : State) : ruleRelease.effect (releaseCtx m first last (beginTx m s)) u = releaseRun u := by
    simp only [ruleRelease, onCmd, onlyIf, hGo, if_true]
  obtain ⟨u, hu, hRow, hAcc⟩ := rowWrite_free (r := ruleRelease) (h := ⟨Reg.PAGE_RELEASE, []⟩) (a := A.PAGE_RELEASE)
    (data := releaseWord first last) (q := A.PAGE_RELEASE :: pageRegs) (parts := [.eng]) pageRelease_fam hMay hOn
    (fun u hu => by
      change _ ∧ ruleRelease.value (releaseCtx m first last (beginTx m s)) u = false ∧
        ruleRelease.state (releaseCtx m first last (beginTx m s)) u = false ∧ _
      refine ⟨rfl, ?_, ?_, rfl⟩
      · simp only [ruleRelease, hFirst, hLast, decide_eq_false_iff_not, Nat.not_lt]
        exact hOrder
      · simp only [ruleRelease, hFirst, hLast, releaseRefused_congr hu, hFree, Bool.and_false])
    (fun _ => List.mem_cons_self)
    (fun u => (congrArg (changesOnly u · _ _) (hEffect u)).mpr (changesOnly_mono (releaseRun_changes u) (List.subset_cons_self _ _) (List.Subset.refl _)))
    (by decide) (by decide) (by decide)
  rw [← releaseCtx, hEffect, if_pos (show ruleRelease.stores = true from rfl)] at hRow hAcc
  simp only [hRow]
  have hPages : releasePages (wr u A.PAGE_RELEASE (releaseCtx m first last (beginTx m s)).new) = pageRange first last := by
    rw [releasePages_eq, fget, fget, rd_wr_same]
    exact congrArg₂ pageRange hFirst hLast
  have hRegs : keepsRegs s (wr u A.PAGE_RELEASE (releaseCtx m first last (beginTx m s)).new) [A.PAGE_RELEASE] := stored_rd hu _ _
  rw [releaseRun_eq, hPages] at hAcc ⊢
  refine ⟨hAcc, ?_, ?_⟩
  · exact pagesBecome_of_regs (clearPages_become (by decide) _ _) hRegs (keepsRegs_of_regs rfl []) (pageState_apart (by decide)) (by simp)
  · exact pagesZero_of_prog (clearPages_zero 0 _ _) (by rw [wr_eng, hu.eng]) rfl

/-! LOAD_VERIFY_DONE (R237, R238). -/

theorem verifyResult_small (s : State) (signed : Bool) (d : List Byte) : verifyResult s signed d < 8 := by
  unfold verifyResult
  dsimp only
  repeat' split
  all_goals decide

/-- The pages of an image that stays. -/
def keepPages (v : Nat) (ps : List Nat) (s : State) : State := forAll (setPage · v) ps s

/-- The loader keeps a region. -/
def addRegion (b n : Nat) (s : State) : State := { s with eng := { s.eng with regions := s.eng.regions ++ [(b, n)] } }

theorem addRegion_changes (b n : Nat) (s : State) : changesOnly s (addRegion b n s) [] [.eng] :=
  ⟨fun _ _ => rfl, fun p hp => by cases p <;> simp [Part.same, addRegion] at hp ⊢⟩

theorem keepPages_changes (v : Nat) {ps : List Nat} (h : ∀ k ∈ ps, k < 64) (s : State) : changesOnly s (keepPages v ps s) pageRegs [] :=
  changesOnly_forAll (fun k hk => setPage_changes v (h k hk)) s

theorem keepPages_become {v : Nat} (hv : v < 4) (ps : List Nat) (s : State) : pagesBecome s (keepPages v ps s) ps v :=
  fun k _ => forAll_sets (read := pageState) (key := id) (pageState_setPage hv) ps s k

/-- What VERIFY leaves of its image by its result, before the load closes. -/
def imageEnd (r b n : Nat) (ps : List Nat) (s : State) : State :=
  if r = 1 ∨ r = 2 then addRegion b n (keepPages (r + 1) ps s) else forAll (clearPage 0) ps s

theorem imageEnd_changes (r b n : Nat) {ps : List Nat} (h : ∀ k ∈ ps, k < 64) (s : State) : changesOnly s (imageEnd r b n ps s) pageRegs [.eng] := by
  unfold imageEnd
  split
  · exact changesOnly_seq (keepPages_changes _ h s) (addRegion_changes _ _ _) (List.Subset.refl _) (List.nil_subset _) (List.nil_subset _) (List.Subset.refl _)
  · exact clearPages_changes s 0 h

/-- The values of the record that a VERIFY leaves. -/
def verifyVals (b n : Nat) (d : List Byte) : List Int := [(b : Int), n] ++ (d.take 8).map (fun x => (x.toNat : Int))

/-- The result, LOAD_CRC and the pages of a VERIFY that ends. -/
theorem verifyDone_eq {s : State} {sg : Bool} (h : s.eng.verify = some sg) :
    let b := fget s F.LOAD_BASE_BASE
    let n := fget s F.LOAD_LEN_LEN
    let r := verifyResult s sg (loadDigest s b n)
    ∃ sev k vals, sev < 8 ∧ verifyDone s = raise sev 12 5 k vals
      (closeLoad r (imageEnd r b n (loadPages s) (wr s A.LOAD_CRC (crc32c (wordsLe (progWords s b n)))))) := by
  intro b n r
  have hPages (w : Word) : loadPages (wr s A.LOAD_CRC w) = loadPages s :=
    loadPages_congr (rd_wr_other s _ _ w (by decide)) (rd_wr_other s _ _ w (by decide))
  by_cases hr : r = 1 ∨ r = 2
  · refine ⟨2, .load, verifyVals b n (loadDigest s b n), by decide, ?_⟩
    simp only [verifyDone, h, imageEnd]
    rw [if_pos hr, if_pos hr, hPages]
    rfl
  · refine ⟨4, .loadFail, verifyVals b n (loadDigest s b n), by decide, ?_⟩
    simp only [verifyDone, h, imageEnd]
    rw [if_neg hr, if_neg hr, hPages]
    rfl

theorem bitsOf_all (w : Word) : bitsOf w 31 0 = w.toNat := by
  rw [bitsOf, Nat.pow_zero, Nat.div_one]
  exact Nat.mod_eq_of_lt w.isLt

/-- The end of a VERIFY writes no page state. -/
theorem loadEnd_apart : ∀ k < 64, A.PAGE_STATE (k / 16) ∉ A.LOAD_STAT :: noteRegs := by
  intro k hk hIn
  rcases List.mem_cons.mp hIn with hStat | hNote
  · simp only [A.PAGE_STATE, A.LOAD_STAT] at hStat
    omega
  · exact not_mem_noteRegs (by simp only [A.PAGE_STATE]; omega) hNote

theorem verifyDone_clause {s : State} {sg : Bool} (h : s.eng.verify = some sg) :
    let b := fget s F.LOAD_BASE_BASE
    let n := fget s F.LOAD_LEN_LEN
    let r := verifyResult s sg (loadDigest s b n)
    let t := verifyDone s
    changesOnly s t (A.LOAD_STAT :: A.LOAD_CRC :: pageRegs ++ noteRegs) [.eng, .events] ∧ fget t F.LOAD_STAT_RESULT = r ∧
      flag t F.LOAD_STAT_BUSY = false ∧ flag t F.LOAD_STAT_OPEN_ACTIVE = false ∧ t.eng.verify = none ∧
      fget t F.LOAD_CRC_CRC = (crc32c (wordsLe (progWords s b n))).toNat ∧
      if r = 1 ∨ r = 2 then pagesBecome s t (loadPages s) (r + 1) ∧ pagesZero s t [] ∧ t.eng.regions = s.eng.regions ++ [(b, n)]
      else pagesBecome s t (loadPages s) 0 ∧ pagesZero s t (loadPages s) := by
  obtain ⟨sev, k, vals, hSev, hEq⟩ := verifyDone_eq h
  intro b n r t
  have hDone : t = raise sev 12 5 k vals (closeLoad r (imageEnd r b n (loadPages s) (wr s A.LOAD_CRC (crc32c (wordsLe (progWords s b n)))))) := hEq
  generalize hw : wr s A.LOAD_CRC (crc32c (wordsLe (progWords s b n))) = w at hDone
  have hCrc : changesOnly s w [A.LOAD_CRC] [] := hw ▸ changesOnly_wr (List.mem_singleton_self _) s _
  have hCrcWord : rd w A.LOAD_CRC = crc32c (wordsLe (progWords s b n)) := by rw [← hw, rd_wr_same]
  have hEngCrc : w.eng = s.eng := hCrc.2 .eng (by decide)
  have hImage := imageEnd_changes r b n (fun _ => loadPages_small (s := s)) w
  have hClose := closeLoad_changes (imageEnd r b n (loadPages s) w) r
  have hRaise : changesOnly (closeLoad r (imageEnd r b n (loadPages s) w)) t noteRegs [.events] := by
    rw [hDone]
    exact ⟨keepsRegs_raise hSev _ _ _ _ _, fun p hp => (raise_same _ _ _ _ _ _ hp).mpr (Part.same_refl p _)⟩
  have hEnd : changesOnly (imageEnd r b n (loadPages s) w) t (A.LOAD_STAT :: noteRegs) [.eng, .events] :=
    changesOnly_seq hClose hRaise (by simp) (List.subset_cons_self _ _) (by simp) (by simp)
  have hEng : t.eng = { (imageEnd r b n (loadPages s) w).eng with verify := none } := (hRaise.2 .eng (by decide)).trans (closeLoad_eng _ r)
  have hStat : rd t A.LOAD_STAT = rd (closeLoad r (imageEnd r b n (loadPages s) w)) A.LOAD_STAT := hRaise.1 _ (by decide)
  obtain ⟨hResult, hBusy, hClosed⟩ := closeLoad_stat (imageEnd r b n (loadPages s) w) (verifyResult_small s sg (loadDigest s b n))
  have hPages (ps : List Nat) (v : Nat) (hBecome : pagesBecome w (imageEnd r b n (loadPages s) w) ps v) : pagesBecome s t ps v :=
    pagesBecome_of_regs hBecome hCrc.1 hEnd.1 (pageState_apart (by decide)) loadEnd_apart
  refine ⟨changesOnly_seq hCrc (changesOnly_seq hImage hEnd (q := A.LOAD_STAT :: pageRegs ++ noteRegs) (q' := [.eng, .events]) (by simp) (by simp) (by simp)
      (List.Subset.refl _)) (by simp) (by decide) (by simp) (List.Subset.refl _), (fget_of_rd hStat).trans hResult,
    (flag_of_rd hStat).trans hBusy, (flag_of_rd hStat).trans hClosed, by rw [hEng], ?_, ?_⟩
  · rw [fget, hEnd.1 _ (by decide), hImage.1 _ (by decide), hCrcWord, bitsOf_all]
  · split
    next hKept =>
      have hImageEq : imageEnd r b n (loadPages s) w = addRegion b n (keepPages (r + 1) (loadPages s) w) := if_pos hKept
      have hKeptEng : (keepPages (r + 1) (loadPages s) w).eng = s.eng :=
        ((keepPages_changes (r + 1) (fun _ => loadPages_small) w).2 .eng (by decide)).trans hEngCrc
      refine ⟨hPages _ _ ?_, fun a => ?_, ?_⟩
      · rw [hImageEq]
        exact pagesBecome_of_regs (keepPages_become (by omega) _ w) (keepsRegs_refl w []) (keepsRegs_of_regs rfl []) (by simp) (by simp)
      · simp only [progWord, hEng, hImageEq, addRegion, hKeptEng, List.not_mem_nil, if_false]
      · simp only [hEng, hImageEq, addRegion, hKeptEng]
    next hFreed =>
      have hImageEq : imageEnd r b n (loadPages s) w = forAll (clearPage 0) (loadPages s) w := if_neg hFreed
      refine ⟨hPages _ _ ?_, ?_⟩
      · rw [hImageEq]
        exact clearPages_become (by decide) _ w
      · exact pagesZero_of_prog (clearPages_zero 0 _ w) (by rw [hEngCrc]) (by rw [hEng, hImageEq])

/-- Settles O26: the commands are row writes of the loader's registers, and each page takes its state and its zeros on its own. -/
theorem programLoadAndRelease : Obligations.ProgramLoadAndRelease := by
  intro m signed i first last data s pages states become zero busy opened b n
  refine ⟨fun hMay hOn => ⟨fun hFree hIdle => ⟨_, rfl, loadOpen_clause signed hMay hOn hFree hIdle⟩,
    fun hFree => ⟨_, rfl, loadWindow_clause data hMay hOn hFree⟩, fun hRefused => ⟨_, rfl, loadWindow_refused data hMay hOn hRefused⟩,
    fun hOpened hIdle => ⟨_, rfl, loadVerify_clause signed hMay hOn hOpened hIdle⟩,
    fun hOpened => ⟨_, rfl, loadAbort_clause signed hMay hOn hOpened⟩,
    fun hOrder hFree => ⟨_, rfl, pageRelease_clause hMay hOn hOrder hFree⟩, ⟨_, rfl, cmemData_clause data hMay hOn⟩,
    fun hStopped => ⟨_, rfl, lmemData_clause data hMay hOn hStopped⟩⟩, fun sg hVerify => ⟨_, rfl, verifyDone_clause hVerify⟩⟩

end Sys2Proof.Proofs
end

section
/-! SUPPORT. Snapshots: SNAP_CTRL's commands and the ends of captures and SOLVEs (R422 to R425). -/
namespace Sys2Proof.Proofs
open Sys2Proof.Machine

/-! SNAP_CTRL (R86, R422, R425). -/

theorem snapCtrl_fam : FreeFam Reg.SNAP_CTRL := by constructor <;> decide

theorem snapCtrl_commands : loadMask true Reg.SNAP_CTRL.fields = 0#32 ∧ typeMask .w1c Reg.SNAP_CTRL.fields = 0#32 := by decide

/-- A write of SNAP_CTRL. -/
def snapCtx (m : Master) (cmd : Word) (s : State) : WriteCtx := wholeCtx ruleSnapCtrl m ⟨Reg.SNAP_CTRL, []⟩ A.SNAP_CTRL cmd s

theorem snapCtx_capture (m : Master) (s : State) : (snapCtx m 1 s).cmd F.SNAP_CTRL_CAPTURE = true ∧ (snapCtx m 1 s).cmd F.SNAP_CTRL_SOLVE = false := by
  simp only [snapCtx, wholeCtx, WriteCtx.cmd]
  decide

theorem snapCtx_solve (m : Master) (s : State) : (snapCtx m 2 s).cmd F.SNAP_CTRL_CAPTURE = false ∧ (snapCtx m 2 s).cmd F.SNAP_CTRL_SOLVE = true := by
  simp only [snapCtx, wholeCtx, WriteCtx.cmd]
  decide

section
variable {s : State} {m : Master} {cmd : Word} (hMay : mayCommand s m)
include hMay

theorem snapCtrl_ok (hState : ∀ u, readsAlike s u m → ruleSnapCtrl.state (snapCtx m cmd s) u = false) : ∃ v, readsAlike s v m ∧
    rowWrite ruleSnapCtrl m ⟨Reg.SNAP_CTRL, []⟩ A.SNAP_CTRL cmd s =
      setReply (.okValue .ok []) (meterOver (ruleSnapCtrl.effect (snapCtx m cmd s) v)) := by
  obtain ⟨hReach, hOwner⟩ := hMay
  obtain ⟨-, hHeld, -⟩ := id hReach
  obtain ⟨hLoad, hClear⟩ := snapCtrl_commands
  exact rowWrite_command (h := ⟨Reg.SNAP_CTRL, []⟩) snapCtrl_fam.image rfl hLoad hClear hReach fun u key hu =>
    { power := hu.sysHeld.trans hHeld
      fields := snapCtrl_fam.fields
      may := mayWrite_of_owner (hu.ownerCode.trans hOwner) _ _
      guarded := fun hGuard => absurd ((keyGuarded_of_free snapCtrl_fam.krw snapCtrl_fam.keyed _).symm.trans hGuard) (by decide)
      right := keyWrong_of_base snapCtrl_fam.base _
      once := rfl
      range := rangeBad_of_noRanges snapCtrl_fam.ranges _ _
      value := rfl
      state := hState u hu
      armed := rfl }

theorem snapCtrl_refused (hState : ∀ u, readsAlike s u m → ruleSnapCtrl.state (snapCtx m cmd s) u = true) :
    refuses s (rowWrite ruleSnapCtrl m ⟨Reg.SNAP_CTRL, []⟩ A.SNAP_CTRL cmd s) m .state := by
  obtain ⟨-, hHeld, -⟩ := id hMay.1
  refine rowWrite_free_state (h := ⟨Reg.SNAP_CTRL, []⟩) snapCtrl_fam hMay hHeld fun u hu => ⟨rfl, rfl, ?_⟩
  rw [wholeCtx_congr (show ruleSnapCtrl.stores = true from rfl) (onlyUnlock_beginTx m s).readsAlike]
  exact hState u hu

end

/-! CAPTURE (R422). -/

theorem captureRefused_congr {s t : State} {m : Master} (h : readsAlike s t m) : captureRefused t = captureRefused s := by
  simp only [captureRefused, bench, h.sup, h.flag, h.fget]

theorem captureRefused_iff (s : State) : captureRefused s = true ↔
    bench s = true ∨ flag s F.SNAP_STAT_CAP_BUSY = true ∨ flag s F.SNAP_STAT_SOLVE_BUSY = true ∨ fget s F.SNAP_CFG_CHAINS = 0 := by
  simp only [captureRefused, Bool.or_eq_true, decide_eq_true_eq, or_assoc]

theorem changesOnly_setNav (n : Nav) (s : State) : changesOnly s (setNav n s) [] [.nav] :=
  ⟨fun _ _ => rfl, fun p hp => (setNav_same n s (fun h => hp (List.mem_cons_of_mem _ h))).mpr (Part.same_refl p s)⟩

/-- Fields of one register after a change of navigation data. -/
theorem changesOnly_setNav_fset {f : Fld} {a : Nat} (hf : f.reg = a) (n : Nav) (s : State) (v : Nat) : changesOnly s (fset (setNav n s) f v) [a] [.nav] :=
  changesOnly_seq (changesOnly_setNav n s) (changesOnly_fset _ f v) (List.nil_subset _) (by simp [hf]) (List.Subset.refl _) (List.nil_subset _)

theorem changesOnly_snapStat {f : Fld} (hf : f.reg = A.SNAP_STAT) (s : State) (v : Nat) : changesOnly s (fset s f v) [A.SNAP_STAT] [.nav] :=
  changesOnly_mono (changesOnly_fset s f v) (by simp [hf]) (List.nil_subset _)

theorem startCaptureSnap_changes (s : State) : changesOnly s (startCaptureSnap s) [A.SNAP_STAT] [.nav] :=
  changesOnly_trans (changesOnly_setNav_fset rfl _ _ _) (changesOnly_snapStat rfl _ _)

theorem startSolve_changes (s : State) : changesOnly s (startSolve s) [A.SNAP_STAT] [.nav] := changesOnly_setNav_fset rfl _ _ _

theorem startSolve_busy (s : State) : flag (startSolve s) F.SNAP_STAT_SOLVE_BUSY = true := flag_fset_one _ rfl (by decide)

theorem startSolve_nav (s : State) : (startSolve s).nav = { s.nav with solveDue := some (s.mtime + 3 * sec) } := rfl

theorem snapCapture_ok {s : State} {m : Master} (hMay : mayCommand s m) (hFree : captureRefused s = false) :
    let t := rowWrite ruleSnapCtrl m ⟨Reg.SNAP_CTRL, []⟩ A.SNAP_CTRL 1 s
    accepts s t m [A.SNAP_STAT] [.nav] ∧ flag t F.SNAP_STAT_CAP_BUSY = true ∧ flag t F.SNAP_STAT_VALID = false ∧
      t.nav = { s.nav with cap := some ⟨s.mtime, fget s F.SNAP_CFG_CHAINS, fget s F.SNAP_CFG_LEN⟩ } := by
  obtain ⟨hCapture, hSolve⟩ := snapCtx_capture m s
  obtain ⟨v, hv, hRow⟩ := snapCtrl_ok (cmd := 1) hMay fun u hu => by
    simp only [ruleSnapCtrl, hCapture, hSolve, captureRefused_congr hu, hFree, Bool.and_false, Bool.false_and, Bool.or_self]
  have hEffect : ruleSnapCtrl.effect (snapCtx m 1 s) v = startCaptureSnap v := by
    simp only [ruleSnapCtrl, onCmd, onlyIf, hCapture, hSolve, if_true, Bool.false_eq_true, if_false]
  rw [hEffect, meterOver_of_changes hMay.1 hv (startCaptureSnap_changes v) (by decide) (by decide)] at hRow
  have hNav : v.nav = s.nav := hv.part .nav (by decide)
  simp only [hRow]
  refine ⟨accepts_write hv (startCaptureSnap_changes v) (by decide), flag_fset_one _ rfl (by decide), ?_, ?_⟩
  · exact (flag_fset_of_beside (f := F.SNAP_STAT_CAP_BUSY) (by decide) _ 1).trans (flag_fset_zero _ rfl (by decide))
  · rw [← hNav, ← hv.mtime, ← hv.fget, ← hv.fget]
    rfl

theorem snapCapture_refused {s : State} {m : Master} (hMay : mayCommand s m) (hBusy : captureRefused s = true) :
    refuses s (rowWrite ruleSnapCtrl m ⟨Reg.SNAP_CTRL, []⟩ A.SNAP_CTRL 1 s) m .state := by
  obtain ⟨hCapture, -⟩ := snapCtx_capture m s
  exact snapCtrl_refused (cmd := 1) hMay fun u hu => by
    simp only [ruleSnapCtrl, hCapture, captureRefused_congr hu, hBusy, Bool.and_self, Bool.true_or]

/-! SOLVE (R425), queued while one runs (R86). -/

section
variable {s : State} {m : Master} (hMay : mayCommand s m)
include hMay

theorem snapSolve_refused (hNone : flag s F.SNAP_STAT_VALID = false) :
    refuses s (rowWrite ruleSnapCtrl m ⟨Reg.SNAP_CTRL, []⟩ A.SNAP_CTRL 2 s) m .state := by
  obtain ⟨-, hSolve⟩ := snapCtx_solve m s
  exact snapCtrl_refused (cmd := 2) hMay fun u hu => by
    simp only [ruleSnapCtrl, hSolve, hu.flag, hNone, Bool.not_false, Bool.and_self, Bool.or_true]

variable (hValid : flag s F.SNAP_STAT_VALID = true)
include hValid

/-- What an accepted SOLVE does. -/
theorem snapSolve_effect : ∃ v, readsAlike s v m ∧ rowWrite ruleSnapCtrl m ⟨Reg.SNAP_CTRL, []⟩ A.SNAP_CTRL 2 s =
    setReply (.okValue .ok []) (meterOver (if flag s F.SNAP_STAT_SOLVE_BUSY = true then queueCmd F.SNAP_CTRL_SOLVE v else startSolve v)) := by
  obtain ⟨hCapture, hSolve⟩ := snapCtx_solve m s
  obtain ⟨v, hv, hRow⟩ := snapCtrl_ok (cmd := 2) hMay fun u hu => by
    simp only [ruleSnapCtrl, hCapture, hu.flag, hValid, Bool.not_true, Bool.and_false, Bool.false_and, Bool.or_self]
  have hEffect : ruleSnapCtrl.effect (snapCtx m 2 s) v =
      if flag s F.SNAP_STAT_SOLVE_BUSY = true then queueCmd F.SNAP_CTRL_SOLVE v else startSolve v := by
    simp only [ruleSnapCtrl, onCmd, onlyIf, hCapture, hSolve, if_true, Bool.false_eq_true, if_false, hv.flag, hValid]
  exact ⟨v, hv, by rw [hRow, hEffect]⟩

theorem snapSolve_starts (hIdle : flag s F.SNAP_STAT_SOLVE_BUSY = false) :
    let t := rowWrite ruleSnapCtrl m ⟨Reg.SNAP_CTRL, []⟩ A.SNAP_CTRL 2 s
    accepts s t m [A.SNAP_STAT] [.nav] ∧ flag t F.SNAP_STAT_SOLVE_BUSY = true ∧
      t.nav = { s.nav with solveDue := some (s.mtime + 3 * sec) } := by
  obtain ⟨v, hv, hRow⟩ := snapSolve_effect hMay hValid
  rw [if_neg (by simp [hIdle]), meterOver_of_changes hMay.1 hv (startSolve_changes v) (by decide) (by decide)] at hRow
  have hNav : v.nav = s.nav := hv.part .nav (by decide)
  simp only [hRow]
  refine ⟨accepts_write hv (startSolve_changes v) (by decide), startSolve_busy v, ?_⟩
  rw [setReply_nav, startSolve_nav, hNav, hv.mtime]

theorem snapSolve_queues (hBusy : flag s F.SNAP_STAT_SOLVE_BUSY = true) :
    let t := rowWrite ruleSnapCtrl m ⟨Reg.SNAP_CTRL, []⟩ A.SNAP_CTRL 2 s
    accepts s t m [] [.access] ∧ t.acc = { s.acc with
      unlock := t.acc.unlock
      queued := if F.SNAP_CTRL_SOLVE ∈ s.acc.queued then s.acc.queued else s.acc.queued ++ [F.SNAP_CTRL_SOLVE] } := by
  obtain ⟨v, hv, hRow⟩ := snapSolve_effect hMay hValid
  have hChange : changesOnly v (queueCmd F.SNAP_CTRL_SOLVE v) [] [.access] :=
    ⟨fun _ _ => rfl, fun p hp => by cases p <;> simp [Part.same, queueCmd] at hp ⊢⟩
  rw [if_pos hBusy, meterOver_of_changes hMay.1 hv hChange (by decide) (by decide)] at hRow
  simp only [hRow]
  refine ⟨accepts_write hv hChange (by decide), ?_⟩
  have hQueued : v.acc.queued = s.acc.queued := by rw [hv.acc]
  have hQueue : (queueCmd F.SNAP_CTRL_SOLVE v).acc.queued =
      if F.SNAP_CTRL_SOLVE ∈ s.acc.queued then s.acc.queued else s.acc.queued ++ [F.SNAP_CTRL_SOLVE] := by
    simp only [queueCmd, hQueued]
    exact if_congr List.contains_iff_mem rfl rfl
  rw [← hQueue, setReply_acc, queueCmd]
  exact congrArg (fun a : Access => { a with queued := if v.acc.queued.contains F.SNAP_CTRL_SOLVE then v.acc.queued
    else v.acc.queued ++ [F.SNAP_CTRL_SOLVE] }) hv.acc

end

/-! SNAP_CAPTURE_DONE (R422, R423). -/

/-- An operation of the Gaffer port ends with its reply; another goes on. -/
def opEnded (s t : State) (op : PortOp) (r : Reply) : Prop :=
  if s.svc.op = op then t.reply = r ∧ t.svc = { s.svc with op := .none } else t.reply = s.reply ∧ t.svc = s.svc

/-- The final reply of the Gaffer port's operation op, where it runs. -/
def replyOp (op : PortOp) (r : Reply) (t : State) : State := if t.svc.op = op then setReply r (setOp .none t) else t

theorem replyOp_ends {s t : State} (op : PortOp) (r : Reply) (hReply : t.reply = s.reply) (hSvc : t.svc = s.svc) : opEnded s (replyOp op r t) op r := by
  unfold opEnded replyOp
  rw [hSvc]
  split
  · exact ⟨rfl, by rw [← hSvc]; rfl⟩
  · exact ⟨hReply, hSvc⟩

theorem replyOp_changes (op : PortOp) (r : Reply) (t : State) : changesOnly t (replyOp op r t) [] [.reply, .svc] := by
  unfold replyOp
  split
  · exact ⟨fun _ _ => rfl, fun p hp => by cases p <;> simp [Part.same, setReply, setOp, setSvc] at hp ⊢⟩
  · exact changesOnly_refl t _ _

/-- What a capture leaves of SNAP_STAT. -/
def captureStat (n : Nat) (s : State) : State := fset (fset (fset s F.SNAP_STAT_BYTES (64 + n)) F.SNAP_STAT_VALID 1) F.SNAP_STAT_CAP_BUSY 0

/-- The buffer of a capture of n bytes that ends. -/
def captureBuf (n : Nat) (c : SnapRun) (data : List Byte) (temp : BitVec 16) (s : State) : State :=
  setNav { s.nav with cap := none, snapBuf := tabFill (fun _ => 0) [] 0 (snapHeader s c temp ++ data.take n) } s

/-- A capture of n bytes ends. -/
def captureEnd (n : Nat) (c : SnapRun) (data : List Byte) (temp : BitVec 16) (s : State) : State := captureStat n (captureBuf n c data temp s)

theorem captureDone_of_some {s : State} {c : SnapRun} (h : s.nav.cap = some c) (data : List Byte) (temp : BitVec 16) : captureDone data temp s =
    captureEnd (chainCount c.chains * c.len * 15345) c data temp (atTime (c.start + 2 * ms * c.len) s) := by
  simp only [captureDone, h]
  rfl

theorem captureStat_changes (n : Nat) (s : State) : changesOnly s (captureStat n s) [A.SNAP_STAT] [] := by
  have hSet {f : Fld} (hf : f.reg = A.SNAP_STAT) (u : State) (v : Nat) : changesOnly u (fset u f v) [A.SNAP_STAT] [] :=
    changesOnly_mono (changesOnly_fset u f v) (by simp [hf]) (List.nil_subset _)
  exact changesOnly_trans (changesOnly_trans (hSet rfl _ _) (hSet rfl _ _)) (hSet rfl _ _)

theorem captureStat_fields (n : Nat) (s : State) : flag (captureStat n s) F.SNAP_STAT_VALID = true ∧ flag (captureStat n s) F.SNAP_STAT_CAP_BUSY = false ∧
    fget (captureStat n s) F.SNAP_STAT_BYTES = (64 + n) % 2 ^ 19 := by
  refine ⟨?_, flag_fset_zero _ rfl (by decide), ?_⟩
  · rw [captureStat, flag_fset_of_beside (by decide), flag_fset_one _ rfl (by decide)]
  · rw [captureStat, fget_fset_of_beside (by decide), fget_fset_of_beside (by decide), fget_fset_same _ _ _ (by decide) (by decide)]
    rfl

theorem snapHeader_length (s : State) (c : SnapRun) (temp : BitVec 16) : (snapHeader s c temp).length = 64 := by
  simp [snapHeader, wordsLe, wordLe, wordBe]

section
variable (n : Nat) (c : SnapRun) (data : List Byte) (temp : BitVec 16) (s : State)

theorem captureEnd_changes : changesOnly s (captureEnd n c data temp s) [A.SNAP_STAT] [.nav] :=
  changesOnly_seq (changesOnly_setNav _ s) (captureStat_changes n _) (List.nil_subset _) (List.Subset.refl _) (List.Subset.refl _) (List.nil_subset _)

theorem captureEnd_nav : (captureEnd n c data temp s).nav = (captureBuf n c data temp s).nav := (captureStat_changes n _).2 .nav (by decide)

theorem captureEnd_fields : flag (captureEnd n c data temp s) F.SNAP_STAT_VALID = true ∧ flag (captureEnd n c data temp s) F.SNAP_STAT_CAP_BUSY = false ∧
    fget (captureEnd n c data temp s) F.SNAP_STAT_BYTES = (64 + n) % 2 ^ 19 := captureStat_fields n _

theorem captureEnd_byte (j : Nat) : snapByte (captureEnd n c data temp s) j = (snapHeader s c temp ++ data.take n).getD j 0 := by
  rw [snapByte, captureEnd_nav, captureBuf, setNav_nav, tabGet_tabFill, List.getD_eq_getElem?_getD]
  split
  next h => rw [List.getElem?_eq_getElem (by simpa using h.2)]; rfl
  next h => rw [List.getElem?_eq_none (by omega)]; rfl

theorem captureEnd_header {j : Nat} (hj : j < 64) : snapByte (captureEnd n c data temp s) j = (snapHeader s c temp).getD j 0 := by
  rw [captureEnd_byte, List.getD_append _ _ _ _ (by rw [snapHeader_length]; exact hj)]

theorem captureEnd_data {j : Nat} (hj : j < n) : snapByte (captureEnd n c data temp s) (64 + j) = data.getD j 0 := by
  rw [captureEnd_byte, List.getD_append_right _ _ _ _ (by rw [snapHeader_length]; omega), snapHeader_length, Nat.add_sub_cancel_left,
    List.getD_eq_getElem?_getD, List.getElem?_take_of_lt hj, List.getD_eq_getElem?_getD]

end

/-- The capture's reply, by the operation that the port runs. -/
theorem captureReply_of_idle {s : State} {data : List Byte} {temp : BitVec 16} (h : flag (captureDone data temp s) F.SNAP_STAT_CAP_BUSY = false) :
    captureReply data temp s = replyOp .capture (.okValue .ok []) (captureDone data temp s) := by
  simp only [captureReply, replyOp, h, Bool.not_false, and_true]

theorem captureReply_of_none {s : State} (hNone : s.nav.cap = none) (hOp : s.svc.op ≠ .capture) (data : List Byte) (temp : BitVec 16) :
    captureReply data temp s = s := by
  have hDone : captureDone data temp s = s := by simp only [captureDone, hNone]
  simp only [captureReply, hDone, hOp, false_and, if_false]

theorem captureReply_of_some {s : State} {c : SnapRun} (h : s.nav.cap = some c) (data : List Byte) (temp : BitVec 16) :
    captureReply data temp s = replyOp .capture (.okValue .ok [])
      (captureEnd (chainCount c.chains * c.len * 15345) c data temp (atTime (c.start + 2 * ms * c.len) s)) := by
  have hDone := captureDone_of_some h data temp
  rw [← hDone]
  refine captureReply_of_idle ?_
  rw [hDone]
  obtain ⟨-, hIdle, -⟩ := captureEnd_fields (chainCount c.chains * c.len * 15345) c data temp (atTime (c.start + 2 * ms * c.len) s)
  exact hIdle

/-- A capture of n bytes that ends at MTIME u or later, with the port's reply. -/
theorem captureEnd_clause (n u : Nat) (c : SnapRun) (data : List Byte) (temp : BitVec 16) (s : State) :
    let t := replyOp .capture (.okValue .ok []) (captureEnd n c data temp (atTime u s))
    changesOnly s t [A.SNAP_STAT] [.mtime, .reply, .svc, .nav] ∧ t.mtime = max s.mtime u ∧
      flag t F.SNAP_STAT_VALID = true ∧ flag t F.SNAP_STAT_CAP_BUSY = false ∧ fget t F.SNAP_STAT_BYTES = (64 + n) % 2 ^ 19 ∧
      t.nav = { s.nav with cap := none, snapBuf := t.nav.snapBuf } ∧ opEnded s t .capture (.okValue .ok []) ∧
      (∀ j < 64, snapByte t j = (snapHeader (atTime u s) c temp).getD j 0) ∧ ∀ j < n, snapByte t (64 + j) = data.getD j 0 := by
  have hBuf := captureEnd_changes n c data temp (atTime u s)
  have hNav := captureEnd_nav n c data temp (atTime u s)
  have hHeader (j : Nat) (hj : j < 64) := captureEnd_header n c data temp (atTime u s) hj
  have hData (j : Nat) (hj : j < n) := captureEnd_data n c data temp (atTime u s) hj
  obtain ⟨hValid, hIdle, hBytes⟩ := captureEnd_fields n c data temp (atTime u s)
  have hTime := changesOnly_atTime u s
  generalize captureEnd n c data temp (atTime u s) = w at hBuf hNav hHeader hData hValid hIdle hBytes ⊢
  have hEnd := replyOp_changes .capture (.okValue .ok []) w
  have hEnded := replyOp_ends (s := s) .capture (.okValue .ok []) (t := w) (hBuf.2 .reply (by decide)) (hBuf.2 .svc (by decide))
  generalize replyOp .capture (.okValue .ok []) w = t at hEnd hEnded ⊢
  have hSameNav : t.nav = w.nav := hEnd.2 .nav (by decide)
  have hRd := hEnd.1 A.SNAP_STAT (by simp)
  have hByte (j : Nat) : snapByte t j = snapByte w j := by simp only [snapByte, hSameNav]
  refine ⟨?_, (hEnd.2 .mtime (by decide)).trans (hBuf.2 .mtime (by decide)), (flag_of_rd hRd).trans hValid, (flag_of_rd hRd).trans hIdle,
    (fget_of_rd hRd).trans hBytes, ?_, hEnded, fun j hj => (hByte j).trans (hHeader j hj), fun j hj => (hByte _).trans (hData j hj)⟩
  · exact changesOnly_seq (changesOnly_seq hTime hBuf (List.nil_subset _) (List.Subset.refl _) (q' := [.mtime, .nav]) (by simp) (by simp)) hEnd
      (List.Subset.refl _) (List.nil_subset _) (by simp) (by simp)
  · simp only [hSameNav, hNav, captureBuf, setNav_nav, atTime_nav]

/-! SNAP_SOLVE_DONE (R425). -/

/-- What leaves every part of the register interface leaves all of it. -/
theorem acc_of_changes {s t : State} {r : List Nat} {parts : List Part} (h : changesOnly s t r parts) (hUnlock : .unlock ∉ Part.regs :: parts)
    (hMbx : .mbx ∉ Part.regs :: parts) (hAccess : .access ∉ Part.regs :: parts) : t.acc = s.acc := by
  have hSameUnlock : t.acc.unlock = s.acc.unlock := h.2 .unlock hUnlock
  have hSameMbx : t.acc.mbx = s.acc.mbx := h.2 .mbx hMbx
  obtain ⟨hSession, hKeyed, hQueued, hStored, hDone⟩ : Part.access.same s t := h.2 .access hAccess
  calc t.acc = ⟨t.acc.unlock, t.acc.mbx, t.acc.sessionDeadline, t.acc.keyed, t.acc.queued, t.acc.oemStored, t.acc.commitDone⟩ := rfl
    _ = s.acc := by rw [hSameUnlock, hSameMbx, hSession, hKeyed, hQueued, hStored, hDone]

/-- The SOLVE that ran is over. -/
def solveOver (s : State) : State := fset (setNav { s.nav with solveDue := none } s) F.SNAP_STAT_SOLVE_BUSY 0

/-- What a snapshot needs to be solved: orbits of the satellites. -/
def knowsOrbits (s : State) : Prop :=
  s.nav.storedEphemeris = true ∨ s.nav.ephemeris = true ∨ s.nav.storedAlmanac = true ∨ s.nav.almanac = true

/-- The uncertainty of a snapshot's time, in its header. -/
def snapUncertainty (s : State) : Nat := beNat [snapByte s 19, snapByte s 18, snapByte s 17, snapByte s 16]

/-- The registers of a SOLVE's position. -/
def placeRegs : List Nat := [A.SNAP_LAT, A.SNAP_LON, A.SNAP_HGT, A.SNAP_SIG]

/-- Nothing of the position differs. -/
def samePlace (s t : State) : Prop := ∀ r ∈ placeRegs, rd t r = rd s r

/-- The result and the position that a SOLVE leaves, from state s in state t. -/
def solved (found : Option (Int × Int × Int × Nat)) (s t : State) : Prop :=
  (¬ knowsOrbits s → fget t F.SNAP_STAT_RESULT = 3 ∧ samePlace s t) ∧
  (knowsOrbits s → 2000000 < snapUncertainty s → fget t F.SNAP_STAT_RESULT = 4 ∧ samePlace s t) ∧
  (knowsOrbits s → snapUncertainty s ≤ 2000000 → found = none → fget t F.SNAP_STAT_RESULT = 2 ∧ samePlace s t) ∧
  ∀ lat lon h sg, knowsOrbits s → snapUncertainty s ≤ 2000000 → found = some (lat, lon, h, sg) → fget t F.SNAP_STAT_RESULT = 1 ∧
    rd t A.SNAP_LAT = wordOf lat ∧ rd t A.SNAP_LON = wordOf lon ∧ rd t A.SNAP_HGT = wordOf h ∧ rd t A.SNAP_SIG = loWord sg

/-- What goes on beside the result and the position changes nothing of it. -/
theorem solved_of_same {found : Option (Int × Int × Int × Nat)} {s s' t t' : State} (h : solved found s t)
    (hBefore : ∀ r ∈ placeRegs, rd s r = rd s' r) (hKnows : knowsOrbits s ↔ knowsOrbits s') (hUnc : snapUncertainty s = snapUncertainty s')
    (hResult : fget t' F.SNAP_STAT_RESULT = fget t F.SNAP_STAT_RESULT) (hAfter : ∀ r ∈ placeRegs, rd t' r = rd t r) : solved found s' t' := by
  have hPlace (hSame : samePlace s t) : samePlace s' t' := fun r hr => (hAfter r hr).trans ((hSame r hr).trans (hBefore r hr))
  obtain ⟨hNone, hUnsure, hFew, hFound⟩ := h
  rw [hKnows] at hNone hUnsure hFew
  rw [hUnc] at hUnsure hFew
  refine ⟨fun hk => ?_, fun hk hu => ?_, fun hk hu hf => ?_, fun lat lon hgt sg hk hu hf => ?_⟩
  · exact ⟨hResult.trans (hNone hk).1, hPlace (hNone hk).2⟩
  · exact ⟨hResult.trans (hUnsure hk hu).1, hPlace (hUnsure hk hu).2⟩
  · exact ⟨hResult.trans (hFew hk hu hf).1, hPlace (hFew hk hu hf).2⟩
  · obtain ⟨hOk, hLat, hLon, hHgt, hSig⟩ := hFound lat lon hgt sg (hKnows.mpr hk) (by rw [hUnc]; exact hu) hf
    exact ⟨hResult.trans hOk, (hAfter _ (by decide)).trans hLat, (hAfter _ (by decide)).trans hLon, (hAfter _ (by decide)).trans hHgt,
      (hAfter _ (by decide)).trans hSig⟩

theorem fget_result (s : State) {v : Nat} (hv : v < 16) : fget (fset s F.SNAP_STAT_RESULT v) F.SNAP_STAT_RESULT = v := by
  rw [fget_fset_same _ _ _ (by decide) (by decide)]
  exact Nat.mod_eq_of_lt hv

theorem samePlace_fset (s : State) (v : Nat) : samePlace s (fset s F.SNAP_STAT_RESULT v) := by
  intro r hr
  refine rd_fset _ _ _ _ ?_
  rintro rfl
  exact absurd hr (by decide)

/-- The position that a SOLVE found, in its registers. -/
def placed (lat lon h : Int) (sg : Nat) (s : State) : State :=
  wr (wr (wr (wr s A.SNAP_LAT (wordOf lat)) A.SNAP_LON (wordOf lon)) A.SNAP_HGT (wordOf h)) A.SNAP_SIG (loWord sg)

theorem knowsOrbits_iff (s : State) :
    (s.nav.storedEphemeris || s.nav.ephemeris || s.nav.storedAlmanac || s.nav.almanac) = true ↔ knowsOrbits s := by
  simp only [knowsOrbits, Bool.or_eq_true, or_assoc]

section
variable (found : Option (Int × Int × Int × Nat)) (s : State)

theorem solveResult_unknown (h : ¬ knowsOrbits s) : solveResult found s = fset s F.SNAP_STAT_RESULT 3 := by
  rw [← knowsOrbits_iff, Bool.not_eq_true] at h
  simp only [solveResult, h, Bool.not_false, if_true]

theorem solveResult_unsure (h : knowsOrbits s) (hUnc : 2000000 < snapUncertainty s) : solveResult found s = fset s F.SNAP_STAT_RESULT 4 := by
  rw [← knowsOrbits_iff] at h
  rw [snapUncertainty] at hUnc
  simp only [solveResult, h, Bool.not_true, Bool.false_eq_true, if_false, hUnc, if_true]

theorem solveResult_sure (h : knowsOrbits s) (hUnc : snapUncertainty s ≤ 2000000) : solveResult found s =
    match found with
    | none => fset s F.SNAP_STAT_RESULT 2
    | some (lat, lon, h, sg) => fset (placed lat lon h sg s) F.SNAP_STAT_RESULT 1 := by
  rw [← knowsOrbits_iff] at h
  rw [snapUncertainty, ← Nat.not_lt] at hUnc
  simp only [solveResult, h, Bool.not_true, Bool.false_eq_true, if_false, hUnc]
  rfl

theorem placed_changes (lat lon h : Int) (sg : Nat) : changesOnly s (placed lat lon h sg s) (A.SNAP_STAT :: placeRegs) [] :=
  changesOnly_trans (changesOnly_trans (changesOnly_trans (changesOnly_wr (by decide) s _) (changesOnly_wr (by decide) _ _))
    (changesOnly_wr (by decide) _ _)) (changesOnly_wr (by decide) _ _)

theorem result_changes (v : Nat) : changesOnly s (fset s F.SNAP_STAT_RESULT v) (A.SNAP_STAT :: placeRegs) [] :=
  changesOnly_mono (changesOnly_fset s _ v) (by decide) (List.nil_subset _)

theorem solveResult_changes : changesOnly s (solveResult found s) (A.SNAP_STAT :: placeRegs) [] := by
  by_cases hKnows : knowsOrbits s
  · by_cases hUnc : 2000000 < snapUncertainty s
    · rw [solveResult_unsure _ _ hKnows hUnc]
      exact result_changes s 4
    · rw [solveResult_sure _ _ hKnows (Nat.not_lt.mp hUnc)]
      match found with
      | none => exact result_changes s 2
      | some (lat, lon, h, sg) => exact changesOnly_trans (placed_changes s lat lon h sg) (result_changes _ 1)
  · rw [solveResult_unknown _ _ hKnows]
    exact result_changes s 3

theorem solveResult_solved : solved found s (solveResult found s) := by
  refine ⟨fun hk => ?_, fun hk hu => ?_, fun hk hu hf => ?_, fun lat lon h sg hk hu hf => ?_⟩
  · rw [solveResult_unknown _ _ hk]
    exact ⟨fget_result s (by decide), samePlace_fset s 3⟩
  · rw [solveResult_unsure _ _ hk hu]
    exact ⟨fget_result s (by decide), samePlace_fset s 4⟩
  · rw [solveResult_sure _ _ hk hu, hf]
    exact ⟨fget_result s (by decide), samePlace_fset s 2⟩
  · rw [solveResult_sure _ _ hk hu, hf]
    have hPlace := samePlace_fset (placed lat lon h sg s) 1
    refine ⟨fget_result _ (by decide), (hPlace _ (by decide)).trans ?_, (hPlace _ (by decide)).trans ?_, (hPlace _ (by decide)).trans ?_,
      (hPlace _ (by decide)).trans ?_⟩
    · simp [placed]
    · simp [placed]
    · simp [placed]
    · simp [placed]

/-- SOLVE_BUSY beside the result. -/
theorem flag_solveResult {k : Fld} (h : beside F.SNAP_STAT_RESULT k) : flag (solveResult found s) k = flag s k := by
  have hReg : k.reg = A.SNAP_STAT := h.1
  by_cases hKnows : knowsOrbits s
  · by_cases hUnc : 2000000 < snapUncertainty s
    · rw [solveResult_unsure _ _ hKnows hUnc, flag_fset_of_beside h]
    · rw [solveResult_sure _ _ hKnows (Nat.not_lt.mp hUnc)]
      match found with
      | none => exact flag_fset_of_beside h _ _
      | some (lat, lon, hgt, sg) =>
        refine (flag_fset_of_beside h _ _).trans (flag_of_rd ?_)
        rw [hReg]
        simp [placed]
  · rw [solveResult_unknown _ _ hKnows, flag_fset_of_beside h]

end

/-- A SOLVE has ended: its time is gone, its result stands. -/
def solveEnd (found : Option (Int × Int × Int × Nat)) (s : State) : State := solveResult found (solveOver s)

section
variable (found : Option (Int × Int × Int × Nat)) (s : State)

theorem solveOver_changes : changesOnly s (solveOver s) [A.SNAP_STAT] [.nav] := changesOnly_setNav_fset rfl _ s 0

theorem solveEnd_changes : changesOnly s (solveEnd found s) (A.SNAP_STAT :: placeRegs) [.nav] :=
  changesOnly_seq (solveOver_changes s) (solveResult_changes found _) (by decide) (List.Subset.refl _) (List.Subset.refl _) (List.nil_subset _)

theorem solveEnd_nav : (solveEnd found s).nav = { s.nav with solveDue := none } :=
  ((solveResult_changes found (solveOver s)).2 .nav (by decide)).trans (fset_nav _ _ _)

theorem solveEnd_idle : flag (solveEnd found s) F.SNAP_STAT_SOLVE_BUSY = false := by
  rw [solveEnd, flag_solveResult _ _ (by decide)]
  exact flag_fset_zero _ rfl (by decide)

theorem solveEnd_solved : solved found s (solveEnd found s) := by
  have hNav : (solveOver s).nav = { s.nav with solveDue := none } := fset_nav _ _ _
  refine solved_of_same (solveResult_solved found (solveOver s)) (fun r hr => (solveOver_changes s).1 r ?_) ?_ ?_ rfl (fun _ _ => rfl)
  · rintro hIn
    rw [List.mem_singleton.mp hIn] at hr
    exact absurd hr (by decide)
  · simp only [knowsOrbits, hNav]
  · simp only [snapUncertainty, snapByte, hNav]

variable {s} (hBusy : flag s F.SNAP_STAT_SOLVE_BUSY = true)
include hBusy

theorem solveDone_eq : solveDone found s = runQueued F.SNAP_CTRL_SOLVE startSolve (solveEnd found s) := by
  simp only [solveDone, hBusy, Bool.not_true, Bool.false_eq_true, if_false]
  rfl

/-- Nothing waits behind the SOLVE: the port has its reply. -/
theorem solveReply_last (hNone : F.SNAP_CTRL_SOLVE ∉ s.acc.queued) :
    solveReply found s = replyOp .solve (.result (fget (solveEnd found s) F.SNAP_STAT_RESULT)) (solveEnd found s) := by
  have hAcc : (solveEnd found s).acc.queued = s.acc.queued := by
    obtain ⟨-, -, hQueued, -, -⟩ : Part.access.same s (solveEnd found s) := (solveEnd_changes found s).2 .access (by decide)
    exact hQueued
  have hDone : solveDone found s = solveEnd found s := by
    rw [solveDone_eq found hBusy, runQueued, hAcc, if_neg (fun h => hNone (List.contains_iff_mem.mp h))]
  simp only [solveReply, hDone, solveEnd_idle, Bool.not_false, and_true, replyOp]

/-- The SOLVE that waited runs. -/
def solveAgain (s : State) : State := startSolve { s with acc := { s.acc with queued := s.acc.queued.erase F.SNAP_CTRL_SOLVE } }

theorem solveReply_again (hAgain : F.SNAP_CTRL_SOLVE ∈ s.acc.queued) : solveReply found s = solveAgain (solveEnd found s) := by
  have hAcc : (solveEnd found s).acc.queued = s.acc.queued := by
    obtain ⟨-, -, hQueued, -, -⟩ : Part.access.same s (solveEnd found s) := (solveEnd_changes found s).2 .access (by decide)
    exact hQueued
  have hDone : solveDone found s = solveAgain (solveEnd found s) := by
    rw [solveDone_eq found hBusy, runQueued, if_pos (by rw [hAcc]; exact List.contains_iff_mem.mpr hAgain), solveAgain]
  have hRuns : flag (solveAgain (solveEnd found s)) F.SNAP_STAT_SOLVE_BUSY = true := startSolve_busy _
  simp only [solveReply, hDone, hRuns, Bool.not_true, Bool.false_eq_true, and_false, if_false]

end

theorem solveReply_of_idle {s : State} (hIdle : flag s F.SNAP_STAT_SOLVE_BUSY = false) (hOp : s.svc.op ≠ .solve)
    (found : Option (Int × Int × Int × Nat)) : solveReply found s = s := by
  have hDone : solveDone found s = s := by simp only [solveDone, hIdle, Bool.not_false, if_true]
  simp only [solveReply, hDone, hOp, false_and, if_false]

theorem solveAgain_changes (s : State) : changesOnly s (solveAgain s) [A.SNAP_STAT] [.access, .nav] :=
  changesOnly_seq (t := { s with acc := { s.acc with queued := s.acc.queued.erase F.SNAP_CTRL_SOLVE } }) (r := []) (parts := [.access])
    ⟨fun _ _ => rfl, fun p hp => by cases p <;> simp [Part.same] at hp ⊢⟩
    (startSolve_changes _) (List.nil_subset _) (List.Subset.refl _) (by simp) (by simp)

/-- A SOLVE that ends, with one queued behind it or none (R86, R425). -/
theorem solveReply_clause {s : State} (found : Option (Int × Int × Int × Nat)) (hBusy : flag s F.SNAP_STAT_SOLVE_BUSY = true) :
    let t := solveReply found s
    changesOnly s t (A.SNAP_STAT :: placeRegs) [.reply, .svc, .nav, .access] ∧
      (flag t F.SNAP_STAT_SOLVE_BUSY = true ↔ F.SNAP_CTRL_SOLVE ∈ s.acc.queued) ∧
      t.acc = { s.acc with queued := s.acc.queued.erase F.SNAP_CTRL_SOLVE } ∧
      t.nav = { s.nav with solveDue := if F.SNAP_CTRL_SOLVE ∈ s.acc.queued then some (s.mtime + 3 * sec) else none } ∧
      (F.SNAP_CTRL_SOLVE ∉ s.acc.queued → opEnded s t .solve (.result (fget t F.SNAP_STAT_RESULT))) ∧
      (F.SNAP_CTRL_SOLVE ∈ s.acc.queued → t.reply = s.reply ∧ t.svc = s.svc) ∧ solved found s t := by
  have hEnd := solveEnd_changes found s
  have hNav := solveEnd_nav found s
  have hIdle := solveEnd_idle found s
  have hSolved := solveEnd_solved found s
  have hAcc : (solveEnd found s).acc = s.acc := acc_of_changes hEnd (by decide) (by decide) (by decide)
  by_cases hAgain : F.SNAP_CTRL_SOLVE ∈ s.acc.queued
  · rw [solveReply_again found hBusy hAgain]
    generalize solveEnd found s = w at hEnd hNav hIdle hSolved hAcc ⊢
    have hNext := solveAgain_changes w
    have hKept : rd (solveAgain w) A.SNAP_STAT = rd (fset w F.SNAP_STAT_SOLVE_BUSY 1) A.SNAP_STAT := rfl
    simp only [hAgain, not_true, if_true, false_implies, true_implies, true_and]
    refine ⟨changesOnly_seq hEnd hNext (List.Subset.refl _) (by simp) (by simp) (by simp), iff_true_intro (startSolve_busy _), ?_, ?_, ?_, ?_⟩
    · rw [← hAcc]
      rfl
    · have hTime : w.mtime = s.mtime := hEnd.2 .mtime (by decide)
      simp only [solveAgain, startSolve_nav, hNav, hTime]
    · exact ⟨(hNext.2 .reply (by decide)).trans (hEnd.2 .reply (by decide)), (hNext.2 .svc (by decide)).trans (hEnd.2 .svc (by decide))⟩
    · refine solved_of_same hSolved (fun _ _ => rfl) Iff.rfl rfl ((fget_of_rd hKept).trans (fget_fset_of_beside (by decide) w 1))
        fun r hr => hNext.1 r ?_
      rintro hIn
      rw [List.mem_singleton.mp hIn] at hr
      exact absurd hr (by decide)
  · rw [solveReply_last found hBusy hAgain]
    generalize solveEnd found s = w at hEnd hNav hIdle hSolved hAcc ⊢
    have hNext := replyOp_changes .solve (.result (fget w F.SNAP_STAT_RESULT)) w
    have hEnded := replyOp_ends (s := s) (t := w) .solve (.result (fget w F.SNAP_STAT_RESULT)) (hEnd.2 .reply (by decide)) (hEnd.2 .svc (by decide))
    generalize replyOp .solve (.result (fget w F.SNAP_STAT_RESULT)) w = t at hNext hEnded ⊢
    have hResult : fget t F.SNAP_STAT_RESULT = fget w F.SNAP_STAT_RESULT := fget_of_rd (hNext.1 _ (by simp))
    simp only [hAgain, not_false_eq_true, if_false, false_implies, true_implies, true_and]
    refine ⟨changesOnly_seq hEnd hNext (List.Subset.refl _) (List.nil_subset _) (by simp) (by simp), iff_of_false ?_ (by simp), ?_, ?_, ?_, ?_⟩
    · rw [flag_of_rd (hNext.1 _ (by simp)), hIdle]
      decide
    · rw [List.erase_of_not_mem hAgain]
      exact (acc_of_changes hNext (by decide) (by decide) (by decide)).trans hAcc
    · exact (hNext.2 .nav (by decide)).trans hNav
    · rw [hResult]
      exact hEnded
    · exact solved_of_same hSolved (fun _ _ => rfl) Iff.rfl rfl hResult fun r _ => hNext.1 r (by simp)

end Sys2Proof.Proofs
end

section
/-! SUPPORT. Pose records: the quality of a solution, what an epoch changes before its record and what the record changes (R409 to R419). -/
namespace Sys2Proof.Proofs
open Sys2Proof.Machine

/-! The quality of a pose (R415). -/

/-- The quality that the satellite solution allows. -/
def satQuality (s : State) (i : PoseInput) (k : Nat) (old : Bool) : Nat := match fixFrom s k i with | some f => fixQuality s k f old | none => 0

theorem fixQuality_le (s : State) (k : Nat) (f : SatFix) (old : Bool) : fixQuality s k f old ≤ 5 := by
  unfold fixQuality
  dsimp only
  split
  · exact le_refl _
  · split
    · decide
    · split
      · decide
      · split <;> decide

theorem satQuality_le (s : State) (i : PoseInput) (k : Nat) (old : Bool) : satQuality s i k old ≤ 5 := by
  unfold satQuality
  split
  · exact fixQuality_le _ _ _ _
  · exact Nat.zero_le _

theorem fixFrom_none {s : State} {k : Nat} {i : PoseInput} (h : i.fix = none) : fixFrom s k i = none := by
  simp only [fixFrom, h]

theorem fixQuality_unmeasured {s : State} {k : Nat} {f : SatFix} (hMeas : measOf s k = []) (hUsed : ∀ n ∈ f.used, n = 0) (hSbas : f.sbas = 0) (old : Bool) :
    fixQuality s k f old = 0 := by
  have hCommon : commonSats s k = 0 := by simp [commonSats, hMeas, satellites]
  have hAny : f.used.any (fun n => decide (4 ≤ n)) = false := by
    rw [List.any_eq_false]
    intro n hn
    simp [hUsed n hn]
  have hSum : f.used.sum = 0 := List.sum_eq_zero hUsed
  simp [fixQuality, hCommon, hSbas, hAny, hSum]

/-- Without a measurement of its epoch no solution has a quality. -/
theorem satQuality_unmeasured {s : State} {k : Nat} {i : PoseInput} (hMeas : measOf s k = []) (old : Bool) : satQuality s i k old = 0 := by
  unfold satQuality
  split
  next f hFix =>
    simp only [fixFrom, hMeas] at hFix
    split at hFix
    next g a _ _ =>
      cases hFix
      have hZero : ∀ n ∈ (List.range 5).map (fun y => min (g.used.getD y 0) ((satellites []).filter (fun p => p.1 == y)).length), n = 0 := by
        simp [satellites]
      exact fixQuality_unmeasured hMeas hZero (by rw [List.sum_eq_zero hZero, Nat.min_zero]) old
    next => cases hFix
  next => rfl

theorem satQuality_unfixed {s : State} {k : Nat} {i : PoseInput} (h : i.fix = none) (old : Bool) : satQuality s i k old = 0 := by
  rw [satQuality, fixFrom_none h]

theorem firstSource_lt (a b c : Bool) : (if a = true then 1 else if b = true then 2 else if c = true then 3 else 0) < 4 := by
  cases a <;> cases b <;> cases c <;> decide

section
variable (s : State) (i : PoseInput) (k m : Nat) (old : Bool)

/-- The quality of a solved epoch: that of the satellites from 2 on, else 1 in dead reckoning, and 0 where the pose is unfit. -/
theorem solvePose_quality : ∃ dr : Bool, (solvePose s i k m old).pose.quality =
    if fget s F.POSE_CFG_SIGMA_MAX < i.sigmaH ∨ (solvePose s i k m old).src = 0 ∨ 35000 < i.sigmaHead then 0
    else if 2 ≤ satQuality s i k old then satQuality s i k old else if dr = true then 1 else 0 := ⟨_, rfl⟩

theorem solvePose_solved : (solvePose s i k m old).solved = decide (2 ≤ satQuality s i k old) := rfl

theorem solvePose_time : (solvePose s i k m old).pose.time = m := rfl

theorem solvePose_field : (solvePose s i k m old).pose.field = s.maps.active.field := rfl

theorem solvePose_src_lt : (solvePose s i k m old).src < 4 := firstSource_lt _ _ _

theorem solvePose_quality_le : (solvePose s i k m old).pose.quality ≤ 5 := by
  obtain ⟨dr, hQuality⟩ := solvePose_quality s i k m old
  have hSat := satQuality_le s i k old
  rw [hQuality]
  split
  · exact Nat.zero_le _
  · split
    · exact hSat
    · split <;> decide

variable {s i k m old}

theorem solvePose_quality_low (h : satQuality s i k old = 0) : (solvePose s i k m old).pose.quality ≤ 1 := by
  obtain ⟨dr, hQuality⟩ := solvePose_quality s i k m old
  rw [hQuality, h]
  split
  · exact Nat.zero_le _
  · rw [if_neg (by decide)]
    split <;> decide

theorem solvePose_quality_zero (h : fget s F.POSE_CFG_SIGMA_MAX < i.sigmaH ∨ (solvePose s i k m old).src = 0 ∨ 35000 < i.sigmaHead) :
    (solvePose s i k m old).pose.quality = 0 := by
  obtain ⟨dr, hQuality⟩ := solvePose_quality s i k m old
  rw [hQuality, if_pos h]

/-- A pose of quality 2 or better rests on satellites. -/
theorem solvePose_quality_high (h : 2 ≤ (solvePose s i k m old).pose.quality) : (solvePose s i k m old).solved = true := by
  obtain ⟨dr, hQuality⟩ := solvePose_quality s i k m old
  rw [solvePose_solved, decide_eq_true_eq]
  by_contra hLow
  rw [hQuality, if_neg hLow] at h
  split at h
  · omega
  · split at h <;> omega

end

/-! The words of a record (R417, R418). -/

section
variable (s : State) (p : Pose) (src : Nat) (g : Option Nat) (excl stale : Bool)

/-- A record is its sixteen words, or at quality 0 those with the held ones in their place. -/
theorem recordWords_cases : ∃ words : List Word, words.length = 16 ∧ words.take 2 = [loWord p.time, hiWord p.time] ∧
    recordWords s p src g excl stale = if p.quality = 0 then heldWords s.nav.goodRec words else words := ⟨_, rfl, rfl, rfl⟩

theorem recordWords_time : (recordWords s p src g excl stale).take 2 = [loWord p.time, hiWord p.time] := by
  obtain ⟨words, hLength, hTime, hWords⟩ := recordWords_cases s p src g excl stale
  rw [hWords]
  split
  · rw [heldWords, List.append_assoc, List.take_append_of_le_length (by simp [hLength]), List.take_take, Nat.min_eq_left (by decide), hTime]
  · exact hTime

theorem recordWords_length (hGood : s.nav.goodRec.length = 16) : (recordWords s p src g excl stale).length = 16 := by
  obtain ⟨words, hLength, -, hWords⟩ := recordWords_cases s p src g excl stale
  rw [hWords]
  split
  · simp [heldWords, hLength, hGood]
  · exact hLength

theorem recordWords_held (hZero : p.quality = 0) (hGood : s.nav.goodRec.length = 16) {n : Nat} (hLo : 4 ≤ n) (hHi : n ≤ 14) :
    (recordWords s p src g excl stale)[n]? = s.nav.goodRec[n]? := by
  obtain ⟨words, hLength, -, hWords⟩ := recordWords_cases s p src g excl stale
  have hFront : (words.take 4).length = 4 := by simp [hLength]
  have hMid : ((s.nav.goodRec.drop 4).take 11).length = 11 := by simp [hGood]
  rw [hWords, if_pos hZero, heldWords, List.append_assoc, List.getElem?_append_right (by omega), hFront, List.getElem?_append_left (by omega),
    List.getElem?_take_of_lt (by omega), List.getElem?_drop]
  congr 1
  omega

end

/-! What an epoch changes before its pose is solved: the corrections and the baseline's figures (R406 to R410). -/

/-- The input of an epoch: without a satellite solution there is no GTIME of it. -/
def epochInput (i : PoseInput) (k : Nat) (s : State) : PoseInput := if (fixFrom s k i).isSome = true then i else { i with gtime := none }

theorem epochInput_fields (i : PoseInput) (k : Nat) (s : State) : (epochInput i k s).fix = i.fix ∧ (epochInput i k s).sigmaH = i.sigmaH ∧
    (epochInput i k s).sigmaHead = i.sigmaHead := by
  unfold epochInput
  split <;> exact ⟨rfl, rfl, rfl⟩

/-- GTIME at an epoch, as far as it is known. -/
def epochGtime (i : PoseInput) (m : Nat) (s : State) : Option Nat := match i.gtime with
  | some x => some x.1
  | none => if timeState s ≠ 0 then some (gtimeAt s m / 256).toNat else none

/-- The corrections' staleness and age at an epoch. -/
def epochCorr (g : Option Nat) (s : State) : State :=
  let u := onlyIf (corrOld (takeSet g s) g) corrStale (takeSet g s)
  fset u F.CORR_STAT_AGE (match g.bind (corrAge u) with | none => 0xFFFF | some a => min 0xFFFF (a / 100000000))

/-- The baseline of an epoch in HEAD_STAT. -/
def epochHead (k : Nat) (i : PoseInput) (s : State) : State := match baselineOf s k i with
  | none => s
  | some b =>
    if baselineFits s.maps.active b then fset s F.HEAD_STAT_BASE_MM (min 65535 (roundHalfAway (lengthUm b.1 b.2.1) 1000).toNat)
    else fsat s F.HEAD_STAT_BASE_REJ_CNT 1

/-- The state in which an epoch's pose is solved. -/
def epochReady (i : PoseInput) (k m : Nat) (s : State) : State := epochHead k i (epochCorr (epochGtime i m s) s)

/-- The solution of an epoch, with the state it is solved in. -/
def epochSolved (i : PoseInput) (k m : Nat) (s : State) : Solved :=
  solvePose (epochReady i k m s) i k m (corrOld (takeSet (epochGtime i m s) s) (epochGtime i m s) || flag (epochReady i k m s) F.CORR_STAT_STALE)

/-- The epoch's state with IMU_STAT.EXCL as it stands. -/
def epochExcl (i : PoseInput) (k m : Nat) (s : State) : State :=
  fbool (epochReady i k m s) F.IMU_STAT_EXCL (imuExcluded (epochReady i k m s) m)

/-- The words of an epoch's record. -/
def epochWords (i : PoseInput) (k m : Nat) (s : State) : List Word :=
  recordWords (epochExcl i k m s) (epochSolved i k m s).pose (epochSolved i k m s).src (epochGtime i m s) (imuExcluded (epochReady i k m s) m)
    ([0, 1].any fun j => match speedInput (epochExcl i k m s) j with | some n => sourceStale (epochExcl i k m s) n | none => false)

/-- An epoch is its input, its solution and its record. -/
theorem posePublish_eq (i : PoseInput) (s : State) :
    let k := epochOf s s.nav.pubNext
    let m := epochTime s k
    let u := atTime (m + navDelay s) s
    let j := epochInput i k u
    posePublish i s = poseRecorded j ((fixFrom u k i).map (·.used.sum)) (epochSolved j k m u).pose (epochSolved j k m u).src (epochWords j k m u) m
      (noteSolved j (epochSolved j k m u) k m (epochExcl j k m u)) := rfl

/-- The registers that an epoch changes before its record. -/
def epochRegs : List Nat := [A.CORR_CNT, A.CORR_STAT, A.HEAD_STAT, A.IMU_STAT] ++ noteRegs

theorem keepsRegs_badCorrection (crc : Bool) (s : State) : keepsRegs s (badCorrection crc s) epochRegs := by
  unfold badCorrection
  dsimp only
  split
  · exact keepsRegs_trans (keepsRegs_fsat (by simp [epochRegs]) s 1) (keepsRegs_fset (by simp [epochRegs]) _ 1)
  · exact keepsRegs_fsat (by simp [epochRegs]) s 1

/-- Only which correction set waits and which is held differs of the navigation data. -/
def navAlike (s t : State) : Prop := t.nav = { s.nav with setWait := t.nav.setWait, setNewest := t.nav.setNewest, setCells := t.nav.setCells }

/-- Navigation data that differ no more than so. -/
def correctionsOnly (s : State) (n : Nav) : Prop := n = { s.nav with setWait := n.setWait, setNewest := n.setNewest, setCells := n.setCells }

/-- What a correction set that waits does: it goes, spoilt or taken. -/
def setLeft (s t : State) : Prop :=
  ∃ n, correctionsOnly s n ∧ (t = setNav n s ∨ t = badCorrection false (setNav n s) ∨ t = fset (setNav n s) F.CORR_STAT_STALE 0)

theorem setLeft_ite {c : Prop} [Decidable c] {s a b : State} (ha : setLeft s a) (hb : setLeft s b) : setLeft s (if c then a else b) := by
  split
  · exact ha
  · exact hb

theorem setNav_setNav (n n' : Nav) (s : State) : setNav n (setNav n' s) = setNav n s := rfl

theorem takeSet_cases (g : Option Nat) (s : State) : takeSet g s = s ∨ setLeft s (takeSet g s) := by
  unfold takeSet
  split
  next w g _ =>
    refine .inr ?_
    simp only [setNav_setNav, setNav_nav]
    generalize Int.toNat _ = e
    exact setLeft_ite ⟨{ s.nav with setWait := none }, rfl, .inr (.inl rfl)⟩ (setLeft_ite ⟨{ s.nav with setWait := none }, rfl, .inl rfl⟩
      (setLeft_ite ⟨{ s.nav with setWait := none, setNewest := some e, setCells := w.cells }, rfl, .inl rfl⟩
        ⟨{ s.nav with setWait := none, setNewest := some e, setCells := w.cells }, rfl, .inr (.inr rfl)⟩))
  next => exact .inl rfl

theorem takeSet_regs (g : Option Nat) (s : State) : keepsRegs s (takeSet g s) epochRegs := by
  rcases takeSet_cases g s with hSame | ⟨n, -, hGone | hBad | hTaken⟩
  · rw [hSame]
    exact keepsRegs_refl s _
  · rw [hGone]
    exact keepsRegs_of_regs rfl _
  · rw [hBad]
    exact keepsRegs_trans (keepsRegs_of_regs rfl _) (keepsRegs_badCorrection _ _)
  · rw [hTaken]
    exact keepsRegs_trans (keepsRegs_of_regs rfl _) (keepsRegs_fset (by simp [epochRegs]) _ 0)

theorem takeSet_nav (g : Option Nat) (s : State) : navAlike s (takeSet g s) := by
  unfold navAlike
  rcases takeSet_cases g s with hSame | ⟨n, hn, hGone | hBad | hTaken⟩
  · rw [hSame]
  · rw [hGone]
    exact hn
  · have hNav : (badCorrection false (setNav n s)).nav = n := (badCorrection_same (pt := .nav) (s₀ := setNav n s) false _ (by decide)).mpr rfl
    rw [hBad, hNav]
    exact hn
  · rw [hTaken, fset_nav]
    exact hn

theorem takeSet_changes (g : Option Nat) (s : State) : changesOnly s (takeSet g s) epochRegs [.nav, .events] :=
  ⟨takeSet_regs g s, fun p hp => (takeSet_same g s (by simp at hp ⊢; tauto)).mpr (Part.same_refl p s)⟩

theorem corrStale_changes (s : State) : changesOnly s (corrStale s) epochRegs [.nav, .events] := by
  refine ⟨?_, fun p hp => (corrStale_same s (by simp at hp ⊢; tauto)).mpr (Part.same_refl p s)⟩
  unfold corrStale
  split
  · exact keepsRegs_refl s _
  · have hSet : keepsRegs s (fset s F.CORR_STAT_STALE 1) epochRegs := keepsRegs_fset (by simp [epochRegs]) s 1
    dsimp only [onlyIf]
    split
    · exact keepsRegs_trans hSet (keepsRegs_mono (keepsRegs_raise (by decide) _ _ _ _ _) (List.subset_append_right _ _))
    · exact hSet

theorem changesOnly_fsat (s : State) (f : Fld) (d : Nat) : changesOnly s (fsat s f d) [f.reg] [] := changesOnly_fset s f _

theorem changesOnly_onlyIf {f : State → State} {r : List Nat} {parts : List Part} (b : Bool) {s : State} (h : changesOnly s (f s) r parts) :
    changesOnly s (onlyIf b f s) r parts := by
  unfold onlyIf
  split
  · exact h
  · exact changesOnly_refl s r parts

theorem epochCorr_changes (g : Option Nat) (s : State) : changesOnly s (epochCorr g s) epochRegs [.nav, .events] :=
  changesOnly_trans (changesOnly_trans (takeSet_changes g s) (changesOnly_onlyIf _ (corrStale_changes _)))
    (changesOnly_mono (changesOnly_fset _ F.CORR_STAT_AGE _) (by simp [epochRegs]) (List.nil_subset _))

theorem epochHead_changes (k : Nat) (i : PoseInput) (s : State) : changesOnly s (epochHead k i s) epochRegs [] := by
  unfold epochHead
  split
  · exact changesOnly_refl s _ _
  · split
    · exact changesOnly_mono (changesOnly_fset s _ _) (by simp [epochRegs]) (List.nil_subset _)
    · exact changesOnly_mono (changesOnly_fsat s _ _) (by simp [epochRegs]) (List.nil_subset _)

theorem corrStale_nav (s : State) : (corrStale s).nav = s.nav := by
  have hSame : Part.nav.same s (corrStale s) := (corrStale_same s (by decide)).mpr rfl
  exact hSame

theorem epochReady_changes (i : PoseInput) (k m : Nat) (s : State) : changesOnly s (epochReady i k m s) epochRegs [.nav, .events] :=
  changesOnly_trans (epochCorr_changes _ s) (changesOnly_mono (epochHead_changes k i _) (List.Subset.refl _) (List.nil_subset _))

theorem epochReady_nav (i : PoseInput) (k m : Nat) (s : State) : navAlike s (epochReady i k m s) := by
  have hHead : (epochReady i k m s).nav = (epochCorr (epochGtime i m s) s).nav := (epochHead_changes k i _).2 .nav (by decide)
  have hCorr : (epochCorr (epochGtime i m s) s).nav = (takeSet (epochGtime i m s) s).nav := by
    unfold epochCorr onlyIf
    split
    · simp [corrStale_nav]
    · simp
  have hTake := takeSet_nav (epochGtime i m s) s
  unfold navAlike at hTake ⊢
  rw [hHead, hCorr]
  exact hTake

/-! What a time solution changes (R432, R446 to R448). -/

/-- The registers of the time unit that a solution may change. -/
def timeRegs : List Nat := [A.TIME_HOLD, A.TIME_STAT] ++ noteRegs

theorem keepsRegs_enterTime {sev : Nat} (hSev : sev < 8) (st : Nat) (k : EvKind) (s : State) : keepsRegs s (enterTime st sev k s) timeRegs :=
  keepsRegs_trans (keepsRegs_fset (f := F.TIME_STAT_STATE) (by simp [timeRegs]) s st) (keepsRegs_mono (keepsRegs_raise hSev _ _ _ _ _) (by simp [timeRegs]))

theorem keepsRegs_dropCorrection (s : State) : keepsRegs s (dropCorrection s) timeRegs :=
  keepsRegs_trans (keepsRegs_trans (keepsRegs_of_regs rfl _) (keepsRegs_fset (f := F.TIME_STAT_SLEW) (by simp [timeRegs]) _ 0))
    (keepsRegs_fset (f := F.TIME_STAT_STEP_PEND) (by simp [timeRegs]) _ 0)

theorem keepsRegs_startSlew (e : Int) (s : State) : keepsRegs s (startSlew e s) timeRegs :=
  keepsRegs_trans (keepsRegs_of_regs rfl _) (keepsRegs_fset (f := F.TIME_STAT_SLEW) (by simp [timeRegs]) _ 1)

theorem keepsRegs_timeSolution (m g u : Nat) (s : State) : keepsRegs s (timeSolution m g u s) timeRegs := by
  unfold timeSolution
  dsimp only
  split
  · exact keepsRegs_trans (keepsRegs_of_regs rfl _) (keepsRegs_enterTime (by decide) _ _ _)
  · have hDrop (c : Clock) : keepsRegs s (dropCorrection { s with clock := c }) timeRegs :=
      keepsRegs_trans (keepsRegs_of_regs rfl _) (keepsRegs_dropCorrection _)
    split
    · split
      · exact keepsRegs_trans (keepsRegs_trans (hDrop _) (keepsRegs_of_regs rfl _)) (keepsRegs_fset (f := F.TIME_HOLD_FREQ_UNC) (by simp [timeRegs]) _ _)
      · exact keepsRegs_trans (keepsRegs_trans (hDrop _) (keepsRegs_of_regs rfl _)) (keepsRegs_enterTime (by decide) _ _ _)
    · split
      · exact keepsRegs_trans (keepsRegs_trans (hDrop _) (keepsRegs_of_regs rfl _)) (keepsRegs_startSlew _ _)
      · exact keepsRegs_trans (keepsRegs_trans (hDrop _) (keepsRegs_of_regs rfl _)) (keepsRegs_fset (f := F.TIME_STAT_STEP_PEND) (by simp [timeRegs]) _ 1)

theorem timeSolution_changes (m g u : Nat) (s : State) : changesOnly s (timeSolution m g u s) timeRegs [.freeCtr, .events, .clock] :=
  ⟨keepsRegs_timeSolution m g u s, fun p hp => (timeSolution_same m g u s (by simp at hp ⊢; tauto)).mpr (Part.same_refl p s)⟩

/-- UTC as an epoch gives it. -/
def poseUtc (i : PoseInput) (s : State) : State :=
  let u := match i.utc with | some o => { s with clock := { s.clock with utc := some o } } | none => s
  match i.utcNext with | some x => { u with clock := { u.clock with utcNext := some x } } | none => u

theorem poseUtc_changes (i : PoseInput) (s : State) : changesOnly s (poseUtc i s) timeRegs [.freeCtr, .events, .clock] := by
  have hClock (u : State) (c : Clock) : changesOnly u { u with clock := c } timeRegs [.freeCtr, .events, .clock] :=
    ⟨fun _ _ => rfl, fun p hp => by cases p <;> simp [Part.same] at hp ⊢⟩
  unfold poseUtc
  dsimp only
  split
  · split
    · exact changesOnly_trans (hClock s _) (hClock _ _)
    · exact hClock s _
  · split
    · exact hClock s _
    · exact changesOnly_refl s _ _

theorem poseUtc_clock (i : PoseInput) (s : State) : (poseUtc i s).clock = { s.clock with utc := (poseUtc i s).clock.utc, utcNext := (poseUtc i s).clock.utcNext } := by
  unfold poseUtc
  dsimp only
  split <;> split <;> rfl

theorem poseTime_cases (i : PoseInput) (p : Pose) (m : Nat) (s : State) :
    poseTime i p m s = poseUtc i s ∨ (2 ≤ p.quality ∧ ∃ g u, poseTime i p m s = timeSolution m g u (poseUtc i s)) := by
  cases hTime : i.gtime with
  | none => exact .inl (by simp only [poseTime, hTime]; rfl)
  | some x =>
    by_cases hQuality : 2 ≤ p.quality
    · exact .inr ⟨hQuality, x.1, x.2, by simp only [poseTime, hTime, hQuality, if_true]; rfl⟩
    · exact .inl (by simp only [poseTime, hTime, hQuality, if_false]; rfl)

theorem poseTime_changes (i : PoseInput) (p : Pose) (m : Nat) (s : State) : changesOnly s (poseTime i p m s) timeRegs [.freeCtr, .events, .clock] := by
  rcases poseTime_cases i p m s with hUtc | ⟨-, g, u, hSolved⟩
  · rw [hUtc]
    exact poseUtc_changes i s
  · rw [hSolved]
    exact changesOnly_trans (poseUtc_changes i s) (timeSolution_changes m g u _)

theorem poseTime_clock {p : Pose} (hLow : p.quality < 2) (i : PoseInput) (m : Nat) (s : State) : (poseTime i p m s).clock =
    { s.clock with utc := (poseTime i p m s).clock.utc, utcNext := (poseTime i p m s).clock.utcNext } := by
  rcases poseTime_cases i p m s with hUtc | ⟨hHigh, -⟩
  · rw [hUtc]
    exact poseUtc_clock i s
  · omega

/-! The record of an epoch, step by step (R416 to R419). -/

/-- The record and the pose join what was kept. -/
def poseKept (p : Pose) (words : List Word) (m : Nat) (s : State) : State :=
  let u := setNav { s.nav with lastRec := words, goodRec := if p.quality = 0 then s.nav.goodRec else words } s
  { u with marker := { u.marker with poses := p :: prunePoses m u.marker.poses } }

/-- POSE_STAT shows the pose. -/
def poseShown (p : Pose) (src : Nat) (used : Option Nat) (s : State) : State :=
  let u := fset (fset (fbool s F.POSE_STAT_FIELD_VALID p.field.isSome) F.POSE_STAT_HEAD_SRC src) F.POSE_STAT_QUALITY p.quality
  match used with | some n => fset u F.POSE_STAT_SATS_USED (min 63 n) | none => u

/-- A good pose marks the first fix and trains the speed scales. -/
def poseLearnt (p : Pose) (s : State) : State :=
  let u := onlyIf (decide (2 ≤ p.quality)) (fun s => fset s F.GNSS_STAT_FIRST_FIX 1) s
  onlyIf (decide (2 ≤ p.quality) && decide (1000 ≤ p.speed.natAbs)) (fun s => learnScale p.speed 1 (learnScale p.speed 0 s)) u

/-- A change of quality from q is recorded, a fall to 0 counted. -/
def poseGraded (q : Nat) (p : Pose) (s : State) : State :=
  let u := onlyIf (q != p.quality) (raise (qualitySev q p.quality) 10 0 .qualityChange [q, p.quality]) s
  onlyIf (q != 0 && p.quality == 0) (fun s => fsat s F.QUAL_CNT_COUNT 1) u

/-- The record is counted and sent. -/
def poseSent (words : List Word) (s : State) : State := deliver 97 (packWords words) (fwrap s F.POSE_CNT_COUNT 1)

theorem poseRecorded_eq (i : PoseInput) (used : Option Nat) (p : Pose) (src : Nat) (words : List Word) (m : Nat) (s : State) :
    poseRecorded i used p src words m s = poseTime i p m (poseSent words (poseGraded (fget s F.POSE_STAT_QUALITY) p
      (poseLearnt p (poseShown p src used (poseKept p words m s))))) := rfl

section
variable (p : Pose) (src : Nat) (used : Option Nat) (words : List Word) (m q : Nat) (s : State)

theorem poseKept_changes : changesOnly s (poseKept p words m s) [] [.marker, .nav] :=
  ⟨fun _ _ => rfl, fun p hp => by cases p <;> simp [Part.same, poseKept, setNav] at hp ⊢⟩

theorem poseShown_changes : changesOnly s (poseShown p src used s) [A.POSE_STAT] [] := by
  have hSet {f : Fld} (hf : f.reg = A.POSE_STAT) (u : State) (v : Nat) : changesOnly u (fset u f v) [A.POSE_STAT] [] :=
    changesOnly_mono (changesOnly_fset u f v) (by simp [hf]) (List.nil_subset _)
  have hThree := changesOnly_trans (changesOnly_trans (hSet (f := F.POSE_STAT_FIELD_VALID) rfl s (if p.field.isSome = true then 1 else 0))
    (hSet (f := F.POSE_STAT_HEAD_SRC) rfl _ src)) (hSet (f := F.POSE_STAT_QUALITY) rfl _ p.quality)
  unfold poseShown
  dsimp only
  split
  · exact changesOnly_trans hThree (hSet rfl _ _)
  · exact hThree

theorem poseShown_fields (hQuality : p.quality < 8) (hSrc : src < 4) : fget (poseShown p src used s) F.POSE_STAT_QUALITY = p.quality ∧
    flag (poseShown p src used s) F.POSE_STAT_FIELD_VALID = p.field.isSome ∧ fget (poseShown p src used s) F.POSE_STAT_HEAD_SRC = src := by
  have hThree : let u := fset (fset (fbool s F.POSE_STAT_FIELD_VALID p.field.isSome) F.POSE_STAT_HEAD_SRC src) F.POSE_STAT_QUALITY p.quality
      fget u F.POSE_STAT_QUALITY = p.quality ∧ flag u F.POSE_STAT_FIELD_VALID = p.field.isSome ∧ fget u F.POSE_STAT_HEAD_SRC = src := by
    refine ⟨?_, ?_, ?_⟩
    · rw [fget_fset_same _ _ _ (by decide) (by decide)]
      exact Nat.mod_eq_of_lt hQuality
    · rw [flag_fset_of_beside (by decide), flag_fset_of_beside (by decide)]
      exact flag_fset_bit _ rfl (by decide) _
    · rw [fget_fset_of_beside (by decide), fget_fset_same _ _ _ (by decide) (by decide)]
      exact Nat.mod_eq_of_lt hSrc
  unfold poseShown
  dsimp only
  split
  · rw [fget_fset_of_beside (f := F.POSE_STAT_SATS_USED) (k := F.POSE_STAT_QUALITY) (by decide),
      flag_fset_of_beside (f := F.POSE_STAT_SATS_USED) (k := F.POSE_STAT_FIELD_VALID) (by decide),
      fget_fset_of_beside (f := F.POSE_STAT_SATS_USED) (k := F.POSE_STAT_HEAD_SRC) (by decide)]
    exact hThree
  · exact hThree

theorem learnScale_changes (v : Int) {k : Nat} (hk : A.SPEED_SCALE k ∈ [A.GNSS_STAT, A.SPEED_SCALE 0, A.SPEED_SCALE 1]) (s : State) :
    changesOnly s (learnScale v k s) [A.GNSS_STAT, A.SPEED_SCALE 0, A.SPEED_SCALE 1] [] := by
  unfold learnScale
  split
  · exact changesOnly_refl s _ _
  · dsimp only
    split
    · exact changesOnly_refl s _ _
    · exact changesOnly_mono (changesOnly_fset s _ _) (by simpa using hk) (List.nil_subset _)

/-- The speed scales leave the rest of what a good pose marks. -/
theorem learnScale_firstFix (v : Int) (k : Nat) (s : State) : flag (learnScale v k s) F.GNSS_STAT_FIRST_FIX = flag s F.GNSS_STAT_FIRST_FIX := by
  have hApart : F.GNSS_STAT_FIRST_FIX.reg ≠ (F.SPEED_SCALE_SCALE k).reg := by simp only [A.GNSS_STAT, A.SPEED_SCALE]; omega
  unfold learnScale
  split
  · rfl
  · dsimp only
    split
    · rfl
    · exact flag_fset_reg s _ hApart

theorem poseLearnt_changes : changesOnly s (poseLearnt p s) [A.GNSS_STAT, A.SPEED_SCALE 0, A.SPEED_SCALE 1] [] :=
  changesOnly_trans (changesOnly_onlyIf _ (changesOnly_mono (changesOnly_fset s F.GNSS_STAT_FIRST_FIX 1) (by decide) (List.nil_subset _)))
    (changesOnly_onlyIf _ (changesOnly_trans (learnScale_changes _ (by decide) _) (learnScale_changes _ (by decide) _)))

theorem poseLearnt_firstFix (h : 2 ≤ p.quality) : flag (poseLearnt p s) F.GNSS_STAT_FIRST_FIX = true := by
  have hFix : flag (fset s F.GNSS_STAT_FIRST_FIX 1) F.GNSS_STAT_FIRST_FIX = true := flag_fset_one s rfl (by decide)
  simp only [poseLearnt, onlyIf, h, decide_true, if_true]
  split
  · rw [learnScale_firstFix, learnScale_firstFix, hFix]
  · exact hFix

theorem qualitySev_lt (old new : Nat) : qualitySev old new < 8 := by
  unfold qualitySev
  split
  · decide
  · split
    · decide
    · split <;> decide

theorem poseGraded_changes : changesOnly s (poseGraded q p s) (A.QUAL_CNT :: noteRegs) [.events] := by
  refine changesOnly_trans (changesOnly_onlyIf _ ?_) (changesOnly_onlyIf _ ?_)
  · exact ⟨keepsRegs_mono (keepsRegs_raise (qualitySev_lt _ _) _ _ _ _ _) (List.subset_cons_self _ _),
      fun p hp => (raise_same _ _ _ _ _ _ hp).mpr (Part.same_refl p _)⟩
  · exact changesOnly_mono (changesOnly_fsat _ F.QUAL_CNT_COUNT 1) (by simp) (List.nil_subset _)

theorem poseGraded_count : fget (poseGraded q p s) F.QUAL_CNT_COUNT =
    min 0xFFFFFFFF (fget s F.QUAL_CNT_COUNT + if q ≠ 0 ∧ p.quality = 0 then 1 else 0) := by
  have hNoted : fget (onlyIf (q != p.quality) (raise (qualitySev q p.quality) 10 0 .qualityChange [q, p.quality]) s) F.QUAL_CNT_COUNT =
      fget s F.QUAL_CNT_COUNT := by
    unfold onlyIf
    split
    · exact fget_raise (qualitySev_lt _ _) _ _ _ _ _ (by decide)
    · rfl
  have hSmall : fget s F.QUAL_CNT_COUNT < 0xFFFFFFFF + 1 := fget_lt s F.QUAL_CNT_COUNT
  by_cases hFall : q ≠ 0 ∧ p.quality = 0
  · rw [poseGraded, onlyIf, if_pos (by simpa using hFall), if_pos hFall, fget_fsat _ _ (by decide) (by decide), hNoted]
    rfl
  · rw [poseGraded, onlyIf, if_neg (by simpa using hFall), if_neg hFall, hNoted]
    simp only [Nat.add_zero]
    exact (Nat.min_eq_right (Nat.le_of_lt_succ hSmall)).symm

end

/-! A producer's item in its queue (R328). -/

theorem queueOf_commitItem (q j : Nat) (item : List QWord) (s : State) : queueOf (commitItem q item s) j =
    if j = q then { queueOf s q with
      slots := (queueOf s q).slots ++ itemSlots item, wp := ((queueOf s q).wp + item.length) % (2 * depth q) } else queueOf s j := by
  have hCounted (u : State) (n : Nat) : queueOf (countCommit q n u) j = queueOf (setQueue q { queueOf u q with wp := ((queueOf u q).wp + n) % (2 * depth q) } u) j :=
    queueOf_congr (by simp [countCommit, noteHwm, fmax, fwrap]) j
  rw [commitItem, hCounted, queueOf_setQueue]
  split
  · rw [queueOf_setQueue_same]
  next hOther => rw [queueOf_setQueue, if_neg hOther]

theorem queueOf_deliver_other {q j : Nat} (h : j ≠ q) (item : List QWord) (s : State) : queueOf (deliver q item s) j = queueOf s j := by
  have hCommit (i : List QWord) (u : State) : queueOf (commitItem q i u) j = queueOf u j := by rw [queueOf_commitItem, if_neg h]
  have hSet (x : Queue) (u : State) : queueOf (setQueue q x u) j = queueOf u j := by rw [queueOf_setQueue, if_neg h]
  have hField (f : Fld) (v : Nat) (u : State) : queueOf (fset u f v) j = queueOf u j := queueOf_congr (fset_qs _ _ _) j
  unfold deliver
  split
  · exact (hField _ _ _).trans (hField _ _ _)
  · split
    · split
      · exact hCommit _ _
      · exact (hField _ _ _).trans (hSet _ _)
    · split
      · dsimp only
        split
        · exact (hCommit _ _).trans ((hCommit _ _).trans (hSet _ _))
        · exact (hField _ _ _).trans ((hSet _ _).trans ((hCommit _ _).trans (hSet _ _)))
      · exact (hField _ _ _).trans (hField _ _ _)

/-- An item that finds room in a queue that holds none goes in whole. -/
theorem deliver_slots {q : Nat} {item : List QWord} {s : State} (hDepth : item.length ≤ depth q) (hHeld : (queueOf s q).held = none)
    (hDuty : fget s (F.JAS_QBP_DUTY q) = 0) (hRoom : item.length ≤ freeRoom s q) :
    (queueOf (deliver q item s) q).slots = (queueOf s q).slots ++ itemSlots item := by
  have hFits : fitsIn s q item.length = true := by simp [fitsIn, hDuty, hRoom]
  have hDeliver : deliver q item s = commitItem q item s := by
    rw [deliver, if_neg (Nat.not_lt.mpr hDepth), hHeld]
    exact if_pos hFits
  rw [hDeliver, queueOf_commitItem, if_pos rfl]

theorem packWords_length (n : Nat) (ws : List Word) (h : ws.length = 2 * n) : (packWords ws).length = n := by
  induction n generalizing ws with
  | zero => rw [List.eq_nil_of_length_eq_zero h]; rfl
  | succ n ih =>
    match ws, h with
    | a :: b :: t, h => rw [packWords, List.length_cons, ih t (by simp only [List.length_cons] at h; omega)]

section
variable (words : List Word) (s : State)

theorem poseSent_changes : changesOnly s (poseSent words s) (A.POSE_CNT :: queueRegs 97) [.qs] :=
  changesOnly_seq (t := fwrap s F.POSE_CNT_COUNT 1) (changesOnly_fset s F.POSE_CNT_COUNT _)
    ⟨keepsRegs_deliver 97 _ _, fun p hp => (deliver_same 97 _ _ (by simpa using hp)).mpr (Part.same_refl p _)⟩
    (by simp) (List.subset_cons_self _ _) (List.nil_subset _) (List.Subset.refl _)

theorem poseSent_count : fget (poseSent words s) F.POSE_CNT_COUNT = (fget s F.POSE_CNT_COUNT + 1) % 2 ^ 32 := by
  rw [poseSent, fget_of_rd (keepsRegs_deliver 97 _ _ _ (by decide)), fwrap, fget_fset_same _ _ _ (by decide) (by decide)]
  rfl

theorem poseSent_others {q : Nat} (h : q ≠ 97) : queueOf (poseSent words s) q = queueOf s q := by
  rw [poseSent, queueOf_deliver_other h]
  exact queueOf_congr (fset_qs _ _ _) q

theorem poseSent_slots {words : List Word} {s : State} (hLength : words.length = 16) (hHeld : (queueOf s 97).held = none)
    (hDuty : fget s (F.JAS_QBP_DUTY 97) = 0) (hRoom : 8 ≤ freeRoom s 97) :
    (queueOf (poseSent words s) 97).slots = (queueOf s 97).slots ++ itemSlots (packWords words) := by
  have hItem : (packWords words).length = 8 := packWords_length 8 words hLength
  have hQueue : queueOf (fwrap s F.POSE_CNT_COUNT 1) 97 = queueOf s 97 := queueOf_congr (fset_qs _ _ _) 97
  have hFree : freeRoom (fwrap s F.POSE_CNT_COUNT 1) 97 = freeRoom s 97 := by
    simp only [freeRoom, reserved, level, hQueue]
    rfl
  rw [poseSent, deliver_slots (by rw [hItem]; decide) (by rw [hQueue]; exact hHeld) ?_ (by rw [hItem, hFree]; exact hRoom), hQueue]
  exact (fget_fset_reg _ _ _ _ (by decide)).trans hDuty

end

/-! The whole record (R409 to R419). -/

/-- The registers that are written once the quality is graded. -/
def gradedRegs : List Nat := A.QUAL_CNT :: A.POSE_CNT :: queueRegs 97 ++ timeRegs

/-- The registers that a record changes. -/
def recordRegs : List Nat := A.POSE_STAT :: A.GNSS_STAT :: A.SPEED_SCALE 0 :: A.SPEED_SCALE 1 :: gradedRegs

theorem freeRoom_congr {s t : State} (h : queueOf t 97 = queueOf s 97) : freeRoom t 97 = freeRoom s 97 := by
  simp only [freeRoom, reserved, level, h]
  rfl

/-- The record is counted and sent, and the time unit has its solution. -/
theorem poseTime_sent (i : PoseInput) (p : Pose) (words : List Word) (m : Nat) (s : State) :
    changesOnly s (poseTime i p m (poseSent words s)) (A.POSE_CNT :: queueRegs 97 ++ timeRegs) [.freeCtr, .events, .clock, .qs] :=
  changesOnly_seq (poseSent_changes words s) (poseTime_changes i p m _) (by simp) (by simp) (by simp) (by simp)

section
variable (i : PoseInput) (used : Option Nat) {p : Pose} {src : Nat} (words : List Word) (m : Nat) (s : State)

/-- All that follows once the pose is kept. -/
theorem poseAfter_changes (q : Nat) : changesOnly s (poseTime i p m (poseSent words (poseGraded q p (poseLearnt p (poseShown p src used s)))))
    recordRegs [.freeCtr, .events, .clock, .qs] := by
  have hShown := changesOnly_mono (poseShown_changes p src used s) (r' := recordRegs) (parts' := [.freeCtr, .events, .clock, .qs]) (by decide) (by decide)
  have hLearnt := changesOnly_trans hShown (changesOnly_mono (poseLearnt_changes p _) (by decide) (by decide))
  have hGraded := changesOnly_trans hLearnt (changesOnly_mono (poseGraded_changes p q _) (by decide) (by decide))
  exact changesOnly_trans hGraded (changesOnly_mono (poseTime_sent i p words m _) (by decide) (by decide))

theorem poseRecorded_changes : changesOnly s (poseRecorded i used p src words m s) recordRegs [.freeCtr, .events, .clock, .qs, .marker, .nav] :=
  changesOnly_seq (poseKept_changes p words m s) (poseAfter_changes i used words m _ (fget s F.POSE_STAT_QUALITY)) (List.nil_subset _) (List.Subset.refl _)
    (by decide) (by decide)

/-- The pose and its record in the state that a record leaves. -/
theorem poseRecorded_kept : (poseRecorded i used p src words m s).marker = { s.marker with poses := p :: prunePoses m s.marker.poses } ∧
    (poseRecorded i used p src words m s).nav = { s.nav with lastRec := words, goodRec := if p.quality = 0 then s.nav.goodRec else words } := by
  have hAfter := poseAfter_changes i used (p := p) (src := src) words m (poseKept p words m s) (fget s F.POSE_STAT_QUALITY)
  exact ⟨hAfter.2 .marker (by decide), hAfter.2 .nav (by decide)⟩

/-- What the registers show of a pose. -/
theorem poseRecorded_shown (hQuality : p.quality < 8) (hSrc : src < 4) :
    let t := poseRecorded i used p src words m s
    fget t F.POSE_STAT_QUALITY = p.quality ∧ flag t F.POSE_STAT_FIELD_VALID = p.field.isSome ∧ fget t F.POSE_STAT_HEAD_SRC = src ∧
      (2 ≤ p.quality → flag t F.GNSS_STAT_FIRST_FIX = true) ∧ fget t F.POSE_CNT_COUNT = (fget s F.POSE_CNT_COUNT + 1) % 2 ^ 32 ∧
      fget t F.QUAL_CNT_COUNT = min 0xFFFFFFFF (fget s F.QUAL_CNT_COUNT + if fget s F.POSE_STAT_QUALITY ≠ 0 ∧ p.quality = 0 then 1 else 0) := by
  intro t
  have ht : t = _ := poseRecorded_eq i used p src words m s
  generalize hOld : fget s F.POSE_STAT_QUALITY = q at ht ⊢
  have hKept := poseKept_changes p words m s
  generalize poseKept p words m s = a at ht hKept
  have hShown := poseShown_changes p src used a
  obtain ⟨hShowQuality, hShowField, hShowSrc⟩ := poseShown_fields p src used a hQuality hSrc
  generalize poseShown p src used a = b at ht hShown hShowQuality hShowField hShowSrc
  have hLearnt := poseLearnt_changes p b
  have hFirst := poseLearnt_firstFix p b
  generalize poseLearnt p b = c at ht hLearnt hFirst
  have hGraded := poseGraded_changes p q c
  have hCount := poseGraded_count p q c
  generalize poseGraded q p c = d at ht hGraded hCount
  have hSent := poseSent_count words d
  have hSentTime := poseTime_sent i p words m d
  have hTime := poseTime_changes i p m (poseSent words d)
  rw [← ht] at hSentTime hTime
  have hStat : rd t A.POSE_STAT = rd b A.POSE_STAT := (hSentTime.1 _ (by decide)).trans ((hGraded.1 _ (by decide)).trans (hLearnt.1 _ (by decide)))
  refine ⟨(fget_of_rd hStat).trans hShowQuality, (flag_of_rd hStat).trans hShowField, (fget_of_rd hStat).trans hShowSrc, fun hHigh => ?_, ?_, ?_⟩
  · exact (flag_of_rd ((hSentTime.1 _ (by decide)).trans (hGraded.1 _ (by decide)))).trans (hFirst hHigh)
  · rw [fget_of_rd (hTime.1 _ (by decide)), hSent, fget_of_rd (hGraded.1 _ (by decide)), fget_of_rd (hLearnt.1 _ (by decide)),
      fget_of_rd (hShown.1 _ (by decide)), fget_of_rd (hKept.1 _ (by decide))]
  · rw [fget_of_rd (hSentTime.1 _ (by decide)), hCount, fget_of_rd (hLearnt.1 _ (by decide)), fget_of_rd (hShown.1 _ (by decide)),
      fget_of_rd (hKept.1 _ (by decide))]

/-- A record that is not sent for its time leaves the clock but for UTC. -/
theorem poseRecorded_clock (hLow : p.quality < 2) : (poseRecorded i used p src words m s).clock = { s.clock with
    utc := (poseRecorded i used p src words m s).clock.utc, utcNext := (poseRecorded i used p src words m s).clock.utcNext } := by
  rw [poseRecorded_eq]
  have hKept := poseKept_changes p words m s
  generalize poseKept p words m s = a at hKept ⊢
  have hShown := poseShown_changes p src used a
  generalize poseShown p src used a = b at hShown ⊢
  have hLearnt := poseLearnt_changes p b
  generalize poseLearnt p b = c at hLearnt ⊢
  have hGraded := poseGraded_changes p (fget s F.POSE_STAT_QUALITY) c
  generalize poseGraded (fget s F.POSE_STAT_QUALITY) p c = d at hGraded ⊢
  have hClock : (poseSent words d).clock = s.clock := ((poseSent_changes words d).2 .clock (by decide)).trans ((hGraded.2 .clock (by decide)).trans
    ((hLearnt.2 .clock (by decide)).trans ((hShown.2 .clock (by decide)).trans (hKept.2 .clock (by decide)))))
  exact (poseTime_clock hLow i m (poseSent words d)).trans (by rw [hClock])

/-- The record in its queue, where there is room, and every other queue. -/
theorem poseRecorded_queues :
    let t := poseRecorded i used p src words m s
    (∀ q, q ≠ 97 → queueOf t q = queueOf s q) ∧ (words.length = 16 → (queueOf s 97).held = none → fget s (F.JAS_QBP_DUTY 97) = 0 → 8 ≤ freeRoom s 97 →
      (queueOf t 97).slots = (queueOf s 97).slots ++ itemSlots (packWords words)) := by
  intro t
  have ht : t = _ := poseRecorded_eq i used p src words m s
  have hKept := poseKept_changes p words m s
  generalize poseKept p words m s = a at ht hKept
  have hShown := poseShown_changes p src used a
  generalize poseShown p src used a = b at ht hShown
  have hLearnt := poseLearnt_changes p b
  generalize poseLearnt p b = c at ht hLearnt
  have hGraded := poseGraded_changes p (fget s F.POSE_STAT_QUALITY) c
  generalize poseGraded (fget s F.POSE_STAT_QUALITY) p c = d at ht hGraded
  have hQueue (q : Nat) : queueOf d q = queueOf s q :=
    queueOf_congr ((hGraded.2 .qs (by decide)).trans ((hLearnt.2 .qs (by decide)).trans ((hShown.2 .qs (by decide)).trans (hKept.2 .qs (by decide))))) q
  have hDuty : fget d (F.JAS_QBP_DUTY 97) = fget s (F.JAS_QBP_DUTY 97) :=
    fget_of_rd ((hGraded.1 _ (by decide)).trans ((hLearnt.1 _ (by decide)).trans ((hShown.1 _ (by decide)).trans (hKept.1 _ (by decide)))))
  have hTime (q : Nat) : queueOf t q = queueOf (poseSent words d) q := by
    rw [ht]
    exact queueOf_congr ((poseTime_changes i p m _).2 .qs (by decide)) q
  refine ⟨fun q hq => by rw [hTime, poseSent_others words d hq, hQueue], fun hLength hHeld hNone hRoom => ?_⟩
  rw [hTime, poseSent_slots hLength (by rw [hQueue]; exact hHeld) (hDuty.trans hNone) (by rw [freeRoom_congr (hQueue 97)]; exact hRoom), hQueue]

end

end Sys2Proof.Proofs
end

section
/-! SUPPORT. An epoch's pose from its input to its record, and the statement of poses and snapshots (R409 to R425). -/
namespace Sys2Proof.Proofs
open Sys2Proof.Machine

/-! The measurements of an epoch (R401). -/

theorem measOf_congr {s t : State} (hMeas : t.nav.meas = s.nav.meas) (hSup : t.sup = s.sup) (hStart : t.start = s.start) (k : Nat) :
    measOf t k = measOf s k := by
  have hUp : gnsUp t = gnsUp s := by simp only [gnsUp, powered, bench, hSup, hStart]
  unfold measOf
  rw [hMeas, hUp]

theorem measOf_bench {s : State} (h : bench s = true) (k : Nat) : measOf s k = [] := by
  have hDown : gnsUp s = false := by simp [gnsUp, h]
  unfold measOf
  split
  · simp [hDown]
  · rfl

/-! An epoch from the time of its record to the record. -/

section
variable {s t : State} (h : navAlike s t)
include h

theorem navAlike.meas : t.nav.meas = s.nav.meas := by
  unfold navAlike at h
  rw [h]

theorem navAlike.goodRec : t.nav.goodRec = s.nav.goodRec := by
  unfold navAlike at h
  rw [h]

theorem navAlike.lastSat : t.nav.lastSat = s.nav.lastSat := by
  unfold navAlike at h
  rw [h]

end

/-- The state that an epoch's record is made of. -/
def epochNoted (i : PoseInput) (k m : Nat) (s : State) : State := noteSolved i (epochSolved i k m s) k m (epochExcl i k m s)

section
variable (i : PoseInput) (k m : Nat) (s : State)

theorem epochExcl_changes : changesOnly s (epochExcl i k m s) epochRegs [.nav, .events] :=
  changesOnly_trans (epochReady_changes i k m s) (changesOnly_mono (changesOnly_fset _ F.IMU_STAT_EXCL _) (by decide) (List.nil_subset _))

theorem epochExcl_nav : navAlike s (epochExcl i k m s) := epochReady_nav i k m s

theorem epochNoted_changes : changesOnly s (epochNoted i k m s) epochRegs [.freeCtr, .nav, .events] :=
  changesOnly_seq (r' := []) (parts' := [.freeCtr, .nav]) (epochExcl_changes i k m s)
    ⟨fun _ _ => rfl, fun p hp => (noteSolved_same _ _ _ _ _ (fun h => hp (List.mem_cons_of_mem _ h))).mpr (Part.same_refl p _)⟩
    (List.Subset.refl _) (List.nil_subset _) (by simp) (by simp)

theorem epochNoted_nav : (epochNoted i k m s).nav.pubNext = k + 1 ∧ (epochNoted i k m s).nav.goodRec = s.nav.goodRec ∧
    (epochNoted i k m s).nav.lastSat = if (epochSolved i k m s).solved = true then some m else s.nav.lastSat := by
  refine ⟨rfl, (epochExcl_nav i k m s).goodRec, ?_⟩
  rw [← (epochExcl_nav i k m s).lastSat]
  rfl

theorem epochSolved_field : (epochSolved i k m s).pose.field = s.maps.active.field := by
  have hMaps : (epochReady i k m s).maps = s.maps := (epochReady_changes i k m s).2 .maps (by decide)
  rw [epochSolved, solvePose_field, hMaps]

theorem epochSolved_low {i : PoseInput} {k m : Nat} {s : State} (h : i.fix = none ∨ measOf s k = []) : (epochSolved i k m s).pose.quality ≤ 1 := by
  have hChanges := epochReady_changes i k m s
  have hMeas : measOf (epochReady i k m s) k = measOf s k :=
    measOf_congr (epochReady_nav i k m s).meas (hChanges.2 .sup (by decide)) (hChanges.2 .start (by decide)) k
  refine solvePose_quality_low ?_
  rcases h with hFix | hNone
  · exact satQuality_unfixed hFix _
  · exact satQuality_unmeasured (hMeas.trans hNone) _

theorem epochSolved_unsure {i : PoseInput} {k m : Nat} {s : State} (h : fget s F.POSE_CFG_SIGMA_MAX < i.sigmaH ∨ 35000 < i.sigmaHead) :
    (epochSolved i k m s).pose.quality = 0 := by
  have hSigma : fget (epochReady i k m s) F.POSE_CFG_SIGMA_MAX = fget s F.POSE_CFG_SIGMA_MAX := fget_of_rd ((epochReady_changes i k m s).1 _ (by decide))
  rw [← hSigma] at h
  exact solvePose_quality_zero (h.imp_right .inr)

theorem epochWords_time : (epochWords i k m s).take 2 = [loWord m, hiWord m] := recordWords_time _ _ _ _ _ _

theorem epochExcl_goodRec : (epochExcl i k m s).nav.goodRec = s.nav.goodRec := (epochExcl_nav i k m s).goodRec

theorem epochWords_length (hGood : s.nav.goodRec.length = 16) : (epochWords i k m s).length = 16 :=
  recordWords_length _ _ _ _ _ _ (by rw [epochExcl_goodRec, hGood])

theorem epochWords_held (hZero : (epochSolved i k m s).pose.quality = 0) (hGood : s.nav.goodRec.length = 16) {n : Nat} (hLo : 4 ≤ n) (hHi : n ≤ 14) :
    (epochWords i k m s)[n]? = s.nav.goodRec[n]? := by
  rw [epochWords, recordWords_held _ _ _ _ _ _ hZero (by rw [epochExcl_goodRec, hGood]) hLo hHi, epochExcl_goodRec]

end

/-! POSE_RECORD_PUBLISH. -/

/-- The registers that an epoch and its record change. -/
def publishRegs : List Nat :=
  [A.CORR_CNT, A.CORR_STAT, A.GNSS_STAT, A.HEAD_STAT, A.IMU_STAT, A.POSE_CNT, A.POSE_STAT, A.QUAL_CNT, A.SPEED_SCALE 0, A.SPEED_SCALE 1, A.TIME_HOLD,
    A.TIME_STAT] ++ queueRegs 97 ++ noteRegs

/-- The pose p of an epoch at MTIME m, as state t holds it after state s. -/
def poseStands (i : PoseInput) (k m : Nat) (p : Pose) (s t : State) : Prop :=
  t.marker = { s.marker with poses := p :: prunePoses m s.marker.poses } ∧ p.time = m ∧ p.quality ≤ 5 ∧
  p.field = s.maps.active.field ∧ fget t F.POSE_STAT_QUALITY = p.quality ∧ flag t F.POSE_STAT_FIELD_VALID = p.field.isSome ∧
  (i.fix = none ∨ measOf s k = [] ∨ bench s = true → p.quality ≤ 1) ∧ (fget s F.POSE_CFG_SIGMA_MAX < i.sigmaH ∨ 35000 < i.sigmaHead → p.quality = 0) ∧
  (fget t F.POSE_STAT_HEAD_SRC = 0 → p.quality = 0) ∧ (t.nav.lastSat = s.nav.lastSat ∨ t.nav.lastSat = some m) ∧
  (2 ≤ p.quality → t.nav.lastSat = some m ∧ flag t F.GNSS_STAT_FIRST_FIX = true) ∧
  (p.quality < 2 → t.clock = { s.clock with utc := t.clock.utc, utcNext := t.clock.utcNext }) ∧
  (p.quality = 0 → t.nav.goodRec = s.nav.goodRec ∧ (s.nav.goodRec.length = 16 → ∀ n, 4 ≤ n → n ≤ 14 → t.nav.lastRec[n]? = s.nav.goodRec[n]?)) ∧
  (p.quality ≠ 0 → t.nav.goodRec = t.nav.lastRec) ∧
  fget t F.QUAL_CNT_COUNT = min 0xFFFFFFFF (fget s F.QUAL_CNT_COUNT + if fget s F.POSE_STAT_QUALITY ≠ 0 ∧ p.quality = 0 then 1 else 0)

/-- An epoch and its record, from the state at the record's time. -/
def epochPublished (i : PoseInput) (used : Option Nat) (k m : Nat) (s : State) : State :=
  poseRecorded i used (epochSolved i k m s).pose (epochSolved i k m s).src (epochWords i k m s) m (epochNoted i k m s)

section
variable (i : PoseInput) (used : Option Nat) (k m : Nat) (s : State)

theorem epochPublished_changes : changesOnly s (epochPublished i used k m s) publishRegs [.freeCtr, .events, .qs, .marker, .nav, .clock] :=
  changesOnly_seq (epochNoted_changes i k m s) (poseRecorded_changes i used _ m _) (by decide) (by decide) (by decide) (by decide)

theorem epochPublished_nav : (epochPublished i used k m s).nav.pubNext = k + 1 ∧ (epochPublished i used k m s).nav.lastRec = epochWords i k m s ∧
    (epochPublished i used k m s).nav.goodRec = (if (epochSolved i k m s).pose.quality = 0 then s.nav.goodRec else epochWords i k m s) ∧
    (epochPublished i used k m s).nav.lastSat = if (epochSolved i k m s).solved = true then some m else s.nav.lastSat := by
  obtain ⟨-, hNav⟩ := poseRecorded_kept i used (p := (epochSolved i k m s).pose) (src := (epochSolved i k m s).src) (epochWords i k m s) m (epochNoted i k m s)
  obtain ⟨hNext, hGood, hSat⟩ := epochNoted_nav i k m s
  refine ⟨(congrArg Nav.pubNext hNav).trans hNext, congrArg Nav.lastRec hNav, (congrArg Nav.goodRec hNav).trans ?_, (congrArg Nav.lastSat hNav).trans hSat⟩
  simp only [hGood]

theorem epochPublished_count : fget (epochPublished i used k m s) F.POSE_CNT_COUNT = (fget s F.POSE_CNT_COUNT + 1) % 2 ^ 32 := by
  obtain ⟨-, -, -, -, hCount, -⟩ := poseRecorded_shown i used (p := (epochSolved i k m s).pose) (src := (epochSolved i k m s).src) (epochWords i k m s) m
    (epochNoted i k m s) (Nat.lt_of_le_of_lt (solvePose_quality_le _ _ _ _ _) (by decide)) (solvePose_src_lt _ _ _ _ _)
  have hSame : fget (epochNoted i k m s) F.POSE_CNT_COUNT = fget s F.POSE_CNT_COUNT := fget_of_rd ((epochNoted_changes i k m s).1 _ (by decide))
  rw [epochPublished, hCount, hSame]

theorem epochPublished_stands : poseStands i k m (epochSolved i k m s).pose s (epochPublished i used k m s) := by
  have hLe : (epochSolved i k m s).pose.quality ≤ 5 := solvePose_quality_le _ _ _ _ _
  have hNoted := epochNoted_changes i k m s
  obtain ⟨hMarker, -⟩ := poseRecorded_kept i used (p := (epochSolved i k m s).pose) (src := (epochSolved i k m s).src) (epochWords i k m s) m (epochNoted i k m s)
  obtain ⟨hQuality, hField, hSrc, hFirst, -, hFall⟩ := poseRecorded_shown i used (p := (epochSolved i k m s).pose) (src := (epochSolved i k m s).src)
    (epochWords i k m s) m (epochNoted i k m s) (Nat.lt_of_le_of_lt hLe (by decide)) (solvePose_src_lt _ _ _ _ _)
  obtain ⟨-, hLast, hGood, hSat⟩ := epochPublished_nav i used k m s
  have hSameMarker : (epochNoted i k m s).marker = s.marker := hNoted.2 .marker (by decide)
  have hSameClock : (epochNoted i k m s).clock = s.clock := hNoted.2 .clock (by decide)
  have hSameCount : fget (epochNoted i k m s) F.QUAL_CNT_COUNT = fget s F.QUAL_CNT_COUNT := fget_of_rd (hNoted.1 _ (by decide))
  have hSameQuality : fget (epochNoted i k m s) F.POSE_STAT_QUALITY = fget s F.POSE_STAT_QUALITY := fget_of_rd (hNoted.1 _ (by decide))
  refine ⟨by rw [← hSameMarker]; exact hMarker, solvePose_time _ _ _ _ _, hLe, epochSolved_field i k m s, hQuality, hField, fun h => ?_, epochSolved_unsure, fun hNone => ?_, ?_,
    fun hHigh => ⟨?_, hFirst hHigh⟩, fun hLow => ?_, fun hZero => ⟨?_, fun hLength n hLo hHi => ?_⟩, fun hSome => ?_, ?_⟩
  · rcases h with hFix | hMeas | hBench
    · exact epochSolved_low (.inl hFix)
    · exact epochSolved_low (.inr hMeas)
    · exact epochSolved_low (.inr (measOf_bench hBench k))
  · exact solvePose_quality_zero (.inr (.inl (hSrc.symm.trans hNone)))
  · rw [hSat]
    split
    · exact .inr rfl
    · exact .inl rfl
  · have hSolved : (epochSolved i k m s).solved = true := solvePose_quality_high hHigh
    rw [hSat, if_pos hSolved]
  · rw [← hSameClock]
    exact poseRecorded_clock i used _ m _ hLow
  · rw [hGood, if_pos hZero]
  · rw [hLast, epochWords_held i k m s hZero hLength hLo hHi]
  · rw [hGood, if_neg hSome, hLast]
  · rw [← hSameCount, ← hSameQuality]
    exact hFall

/-- The record in Q97, where there is room; every other queue stays. -/
theorem epochPublished_queues : (∀ q, q ≠ 97 → queueOf (epochPublished i used k m s) q = queueOf s q) ∧
    (s.nav.goodRec.length = 16 → (queueOf s 97).held = none → fget s (F.JAS_QBP_DUTY 97) = 0 → 8 ≤ freeRoom s 97 →
      (queueOf (epochPublished i used k m s) 97).slots = (queueOf s 97).slots ++ itemSlots (packWords (epochWords i k m s))) := by
  have hNoted := epochNoted_changes i k m s
  have hQueue (q : Nat) : queueOf (epochNoted i k m s) q = queueOf s q := queueOf_congr (hNoted.2 .qs (by decide)) q
  have hDuty : fget (epochNoted i k m s) (F.JAS_QBP_DUTY 97) = fget s (F.JAS_QBP_DUTY 97) := fget_of_rd (hNoted.1 _ (by decide))
  obtain ⟨hOthers, hSlots⟩ := poseRecorded_queues i used (p := (epochSolved i k m s).pose) (src := (epochSolved i k m s).src) (epochWords i k m s) m
    (epochNoted i k m s)
  refine ⟨fun q hq => (hOthers q hq).trans (hQueue q), fun hLength hHeld hNone hRoom => ?_⟩
  rw [← hQueue]
  exact hSlots (epochWords_length i k m s hLength) (by rw [hQueue]; exact hHeld) (hDuty.trans hNone) (by rw [freeRoom_congr (hQueue 97)]; exact hRoom)

end

/-- POSE_RECORD_PUBLISH takes the next epoch at the time of its record. -/
theorem posePublish_published (i : PoseInput) (s : State) : ∃ j used, j.fix = i.fix ∧ j.sigmaH = i.sigmaH ∧ j.sigmaHead = i.sigmaHead ∧
    posePublish i s = epochPublished j used (epochOf s s.nav.pubNext) (epochTime s (epochOf s s.nav.pubNext))
      (atTime (epochTime s (epochOf s s.nav.pubNext) + navDelay s) s) := by
  obtain ⟨hFix, hSigma, hHead⟩ := epochInput_fields i (epochOf s s.nav.pubNext) (atTime (epochTime s (epochOf s s.nav.pubNext) + navDelay s) s)
  exact ⟨_, _, hFix, hSigma, hHead, posePublish_eq i s⟩

theorem posePublish_clause (i : PoseInput) (s : State) :
    let k := epochOf s s.nav.pubNext
    let m := epochTime s k
    let t := posePublish i s
    changesOnly s t publishRegs [.mtime, .freeCtr, .events, .qs, .marker, .nav, .clock] ∧
      t.mtime = max s.mtime (m + navDelay s) ∧ t.nav.pubNext = k + 1 ∧ fget t F.POSE_CNT_COUNT = (fget s F.POSE_CNT_COUNT + 1) % 2 ^ 32 ∧
      (∃ p, poseStands i k m p s t) ∧ t.nav.lastRec.take 2 = [loWord m, hiWord m] ∧ (s.nav.goodRec.length = 16 → t.nav.lastRec.length = 16) ∧
      (s.nav.goodRec.length = 16 → (queueOf s 97).held = none → fget s (F.JAS_QBP_DUTY 97) = 0 → 8 ≤ freeRoom s 97 →
        (queueOf t 97).slots = (queueOf s 97).slots ++ itemSlots (packWords t.nav.lastRec)) ∧ ∀ q, q ≠ 97 → queueOf t q = queueOf s q := by
  intro k m t
  obtain ⟨j, used, hFix, hSigma, hHead, hEq⟩ := posePublish_published i s
  have ht : t = epochPublished j used k m (atTime (m + navDelay s) s) := hEq
  rw [ht]
  have hChanges := epochPublished_changes j used k m (atTime (m + navDelay s) s)
  obtain ⟨hNext, hLast, -, -⟩ := epochPublished_nav j used k m (atTime (m + navDelay s) s)
  obtain ⟨hOthers, hSlots⟩ := epochPublished_queues j used k m (atTime (m + navDelay s) s)
  have hStands := epochPublished_stands j used k m (atTime (m + navDelay s) s)
  refine ⟨changesOnly_seq (changesOnly_atTime _ s) hChanges (List.nil_subset _) (List.Subset.refl _) (by simp) (by simp), hChanges.2 .mtime (by decide),
    hNext, epochPublished_count j used k m _, ⟨(epochSolved j k m (atTime (m + navDelay s) s)).pose, ?_⟩, ?_, fun hLength => ?_, ?_, hOthers⟩
  · rw [poseStands, hFix, hSigma, hHead] at hStands
    exact hStands
  · rw [hLast, epochWords_time]
  · rw [hLast]
    exact epochWords_length j k m _ hLength
  · rw [hLast]
    exact hSlots

/-- Settles O43: a pose is solved in the state of its epoch and recorded step by step; SNAP_CTRL's commands and the ends of captures and SOLVEs
act on SNAP_STAT, the navigation data and the port. -/
theorem posesAreRecordedAndSnapshotsTaken : Obligations.PosesAreRecordedAndSnapshotsTaken := by
  intro m i data temp found s hRun k at' q97 busy ended again place
  refine ⟨answers_live (f := posePublish i) rfl hRun (posePublish_clause i s),
    fun hMay hBusy => ⟨_, rfl, snapCapture_refused hMay ((captureRefused_iff s).mpr hBusy)⟩,
    fun hMay hFree => ⟨_, rfl, snapCapture_ok hMay (Bool.eq_false_iff.mpr fun h => hFree ((captureRefused_iff s).mp h))⟩,
    fun hNone hOp => answers_live (f := captureReply data temp) rfl hRun (by rw [captureReply_of_none hNone hOp]; exact keeps_refl s []),
    fun c hCap => answers_live (f := captureReply data temp) rfl hRun ?_,
    fun hMay hNone => ⟨_, rfl, snapSolve_refused hMay hNone⟩, fun hMay hValid hIdle => ⟨_, rfl, snapSolve_starts hMay hValid hIdle⟩,
    fun hMay hValid hBusy => ⟨_, rfl, snapSolve_queues hMay hValid hBusy⟩,
    fun hIdle hOp => answers_live (f := solveReply found) rfl hRun (by rw [solveReply_of_idle hIdle hOp]; exact keeps_refl s []),
    fun hBusy => answers_live (f := solveReply found) rfl hRun (solveReply_clause found hBusy)⟩
  rw [captureReply_of_some hCap]
  exact captureEnd_clause _ _ c data temp s

end Sys2Proof.Proofs
end
